-- ==== Sys2Proof/Word.lean ====
section
/-! DEFINITION. The word types of the block: bytes, 32-bit words, frame sequence numbers, stamps and binary32
patterns (R8, R9, R10, R23, R31, R38). -/

namespace Sys2Proof

/-- Eight bits (R8). -/
abbrev Byte := BitVec 8
/-- Thirty-two bits: a register or a little-endian word of a message (R9, R10). -/
abbrev Word := BitVec 32
/-- A frame sequence number, modulo 2^32 (R31). -/
abbrev Fsn := BitVec 32
/-- An instant in 1/256 ns of extended fabric time (R17, R32, R38). -/
abbrev Time := Int
/-- The bits of an IEEE 754 binary32 number (R23). -/
abbrev F32 := BitVec 32

/-- Three binary32 components. -/
structure V3 where
  x : F32
  y : F32
  z : F32
  deriving DecidableEq, Repr

/-- The zero vector. -/
def V3.zero : V3 := { x := 0, y := 0, z := 0 }

end Sys2Proof
end

