-- ==== Sys2Proof/Syntax.lean ====
section
/-! DEFINITION. The commands of the block: one constructor of `Instr` for each row of spec/opcode_table.json, in
table order, and the operand types that the rows name. -/

namespace Sys2Proof

/-- Screen states of Table 1.7 (R39), in the encoding order of CMT_STATE.SCREEN. -/
inductive Screen | dark | show | hold | slate
  deriving DecidableEq, Repr

/-- A Glade header without its TYPE, which the command fixes (Table 2.1). -/
structure GladeHdr where
  /-- VERSION, byte 1 bits 3:0. -/
  version : BitVec 4 := 1
  /-- Reserved bits 7:4 of byte 1. -/
  rsvA : BitVec 4 := 0
  /-- BODY_LENGTH. -/
  bodyLength : BitVec 16 := 0
  /-- FSN. -/
  fsn : Fsn := 0
  /-- STREAM_ID. -/
  streamId : BitVec 16 := 0
  /-- PKT_SEQ. -/
  pktSeq : BitVec 16 := 0
  /-- Reserved bytes 12 to 15. -/
  rsvB : Word := 0
  deriving DecidableEq, Repr

/-- How a Glade packet arrived: XTF source address, stamp (R38), XTF LENGTH, and its header. -/
structure GladeEnv where
  src : BitVec 16 := 0
  stamp : Time := 0
  xtfLen : BitVec 16 := 0
  hdr : GladeHdr := {}
  deriving DecidableEq, Repr

/-- The four registers that name the colour table and the gain map (Table 7.7). -/
inductive ColReg | tableLo | tableHi | gmapLo | gmapHi
  deriving DecidableEq, Repr

/-- The three tables that R583 checks. -/
inductive TableId | bounds | dirs | colour
  deriving DecidableEq, Repr

/-- The fields of a STATUS return item (Table 9.9). -/
structure DriverStatus where
  /-- Byte 1. -/
  flags : Byte := 0
  tickIgnored : BitVec 16 := 0
  t2 : Byte := 0
  codeErr : BitVec 16 := 0
  zoneT : BitVec 16 := 0
  aplT : BitVec 16 := 0
  deriving DecidableEq, Repr

/-- Symbols 2 to 7 of a training set (Table 10.3). -/
structure TrainingSet where
  s2 : Byte := 0
  s3 : Byte := 0
  s4 : Byte := 0
  s5 : Byte := 0
  s6 : Byte := 0
  check : Byte := 0
  deriving DecidableEq, Repr

/-- What a calibration run found (R313, R315): eye figures, equaliser and offset words as SDS_LCTLE, SDS_LDFE and
SDS_LOFS hold them, and the polarity found. -/
structure EyeResult where
  ew : BitVec 6 := 0
  eh : Byte := 0
  ctle : Word := 0
  dfe : Word := 0
  ofs : Word := 0
  rxInv : Bool := false
  deriving DecidableEq, Repr

/-- One XTF packet: the header of Table 12.4 and its payload (R350). -/
structure XtfPacket where
  cls : BitVec 2 := 0
  mode : BitVec 3 := 0
  domain : Bool := false
  detoured : Bool := false
  /-- Reserved bit 7 of byte 0. -/
  rsv : Bool := false
  hops : Byte := 0
  src : BitVec 16 := 0
  dst : Word := 0
  srcSeq : BitVec 16 := 0
  proto : Byte := 0
  lseq : Byte := 0
  waypoint : BitVec 16 := 0
  length : BitVec 16 := 0
  payload : List Byte := []
  deriving DecidableEq, Repr

/-- How a received packet is bad (R352, R351): wrong CRC, stomped CRC, or a bad form. -/
inductive BadPacket | crc | stomped | form
  deriving DecidableEq, Repr

/-- A LINK_STATE message (Table 12.8). -/
structure LinkMsg where
  addr : BitVec 16 := 0
  port : Byte := 0
  down : Byte := 0
  eventSeq : BitVec 16 := 0
  reporter : BitVec 16 := 0
  /-- Reserved bytes 1 to 3. -/
  rsv : BitVec 24 := 0
  deriving DecidableEq, Repr

/-- A GUEST_ANNOUNCE message (Table 12.8). -/
structure GuestMsg where
  guest : BitVec 16 := 0
  host : BitVec 16 := 0
  port : Byte := 0
  gone : Byte := 0
  eventSeq : BitVec 16 := 0
  rsv : BitVec 24 := 0
  deriving DecidableEq, Repr

/-- An ANNOUNCE message of Canopy time (Table 13.2). -/
structure AnnounceMsg where
  domain : Bool := false
  parent : Bool := false
  timed : Bool := false
  root : BitVec 16 := 0
  depth : Nat := 64
  addr : BitVec 16 := 0
  /-- The reserved bits and bytes, taken together. -/
  rsv : Word := 0
  deriving DecidableEq, Repr

/-- A vote or aggregate (Table 14.5a). -/
structure Agg where
  /-- GEN of the voters. -/
  gen : Word := 0
  ready : Nat := 0
  notReady : Nat := 0
  sum : Word := 0
  /-- DEMAND; none for 0xFFFF. -/
  demand : Option Nat := none
  reason : BitVec 16 := 0
  reasonNode : BitVec 16 := 0
  deriving DecidableEq, Repr

/-- One DECISION (Table 14.5a). -/
structure Decision where
  fsn : Fsn := 0
  /-- OUTCOME is COMMIT. -/
  commit : Bool := false
  screen : Screen := .dark
  /-- CMD: 0 none, 1 SLATE_TRIGGER, 2 SLATE_RELEASE, 3 DARK. -/
  cmd : Nat := 0
  actValid : Bool := false
  holdCount : Nat := 0
  gen : Word := 0
  lam : Nat := 0x8000
  reason : BitVec 16 := 0
  reasonNode : BitVec 16 := 0
  ready : Nat := 0
  actFsn : Fsn := 0
  actId : Word := 0
  committedFsn : Fsn := 0
  deriving DecidableEq, Repr

/-- One symbol of a code word that reads wrong: position in the code word and the error (R460). -/
structure SymbolError where
  codeword : Nat := 0
  pos : Nat := 0
  err : Byte := 0
  deriving DecidableEq, Repr

/-- One port access of an on-chip SRAM (R477, R478). -/
structure SramAccess where
  addr : Nat := 0
  write : Bool := false
  data : List Byte := []
  /-- Wrong bits of the word as it is read (R480). -/
  flips : Nat := 0
  deriving DecidableEq, Repr

/-- What an application core does with the lines of its access in the L2 (R484): an access alone, a store whose lines are
then cleaned, a load whose lines are first invalidated. No other source uses the L2. -/
inductive L2Op
  | plain
  | clean
  | invalidate
  deriving DecidableEq, Repr

/-- Where an APERTURE request applies (Table 17.14): a rectangle of one node with its contents, or a screen rectangle, as
the rectangle and the contents of each node that it covers. -/
inductive AplTarget
  | node (rect : Word) (bits : List Byte)
  | screen (parts : List (BitVec 16 × Word × List Byte))
  deriving DecidableEq, Repr

/-- The failure of a start step: family and code (Tables 19.6, 19.7), the item of the interconnect test, and the detail of
the failure (R502, R557). -/
structure StepFail where
  code : BitVec 16 := 0
  item : Nat := 0
  detail : Word := 0
  deriving DecidableEq, Repr

/-- The context of a PMP request (R510): session, REQ_ID and stamp. -/
structure PmpCtx where
  session : Nat := 0
  reqId : Word := 0
  stamp : Time := 0
  deriving DecidableEq, Repr

/-- What POLICY SET carries (Table 17.14): instants, HOLD_LIMIT, rate, anchor source, limiter. -/
structure PolicyReq where
  rate : Nat := 2
  holdLimit : Nat := 30
  /-- The five offsets in microseconds. -/
  offsets : List Int := [-15000, -4000, -1500, -800, -200]
  anchorSrc : Bool := false
  genlockOfs : Word := 0
  limitStart : Nat := 0x8000
  /-- COL_LIMIT_CFG, COL_PWR_BUDGET and COL_PWR_CEIL. -/
  limitCfg : Word := 0x01002000
  budget : F32 := 0
  ceil : F32 := 0
  deriving DecidableEq, Repr

/-- A STATUS of update distribution (R531, R536): the node's update state, verified blocks, lowest missing block,
staged and active BUNDLE_ID, and its guard code under R527 (0 for clear). -/
structure UpdReport where
  node : BitVec 16 := 0
  state : Nat := 0
  verified : Nat := 0
  lowest : Nat := 0
  staged : Word := 0
  active : Word := 0
  guardCode : Nat := 0
  stamp : Time := 0
  deriving DecidableEq, Repr

/-- A life-cycle token (R516). -/
structure LcToken where
  /-- Target state, the code of Table 18.1. -/
  target : Byte := 0
  uid : List Byte := []
  nonce : List Byte := []
  /-- Owner key digest, carried for FIELD. -/
  owner : List Byte := []
  signature : List Byte := []
  deriving DecidableEq, Repr

/-- The commands of spec/opcode_table.json, one constructor a row. -/
inductive Instr where
  /-- POWER_ON (R573): Rails ramp up and the internal power-on reset holds every island in cold reset until the AON and I/O rails are within 3 %. -/
  | powerOn
  /-- SYS_RESET_ASSERT (R574): A low pulse of SYS_RESET_N lasting 1 µs or longer causes a cold reset with cause 0x02; a shorter pulse is ignored. -/
  | sysResetAssert (widthNs : Nat)
  /-- COLD_RESET (R486): Every field is loaded with its reset value, all cores start from the ROM, and the start sequence begins. -/
  | coldReset (cause : Byte)
  /-- WARM_RESET (R486): All cores restart from the ROM and the pipelines are reset; sticky fields and LOCAL are kept. -/
  | warmReset (cause : Byte) (stamp : Time)
  /-- START_STEP_END (R499): A start step of Table 17.11 ends, and every step whose dependencies have now all ended starts. -/
  | startStepEnd (step : Nat) (fail : Option StepFail) (localMs : Nat) (pages : Nat × Nat) (stamp : Time)
  /-- REGISTER_WRITE (R14): A software write to a register with no row of its own is applied according to the access codes of its fields, including reserved-encoding and sub-word discards. -/
  | registerWrite (off size : Nat) (value : Word) (stamp : Time)
  /-- LOCK_SET (R14): A write of 1 to a block's LOCK bit locks that block's RWL fields until reset. -/
  | lockSet (block : Nat)
  /-- PAIR_LOW_READ (R564): A read of the low register of an ROV 64-bit pair latches the high register. -/
  | pairLowRead (off size : Nat) (stamp : Time)
  /-- EPOCH_C_READ (R207): A read of ING_EPOCH_C latches ING_EPOCH_P, ING_EPOCH_S and ING_EPOCH_STATE. -/
  | epochCRead
  /-- COUNTER_READ_CLEAR (R14): A read of an RC field returns its value and clears it, re-arming any first-after-read event of the counter. -/
  | counterReadClear (off size : Nat) (stamp : Time)
  /-- REGISTER_ACCESS_TIMEOUT (R490): A register access not completed within 10 µs ends; a read returns 0, a write is discarded, and the timeout is counted and reported. -/
  | registerAccessTimeout (off : Nat) (write : Bool)
  /-- SWAP_INSTANT (R41): At t_swap(N) the screen state, hold count, slot roles, epochs and node state change, and queued packets, commits and generations take effect. -/
  | swapInstant
  /-- SLATE_FILL_END (R254): The slate fill passes FRAME_DONE with every LINE confirmed OK, and PWM is enabled at the next swap instant. -/
  | slateFillEnd
  /-- TICK_LAUNCH (R292): At t_swap(N) − L on each lane, the node sends a TICK carrying SWAP, SLOT and PWM_EN under Table 9.5. -/
  | tickLaunch
  /-- SPEC_START (R187): At SPEC_START(N) the speculative base is chosen, predicted lists are built, colour values are latched and the fill of frame N opens. -/
  | specStart
  /-- SCENE_DEADLINE (R68): At SCENE_DEADLINE(N), frame N is checked for a missing FRAME_OPEN or an unclosed frame. -/
  | sceneDeadline (fsn : Fsn)
  /-- AMEND_DEADLINE (R88): At AMEND_DEADLINE(N), a frame with LIVE_PENDING but no matching SEAL records SCN_E_AMEND_INCOMPLETE. -/
  | amendDeadline (fsn : Fsn)
  /-- VOTE_DEADLINE (R407): At VOTE_DEADLINE(N), a vote not yet cast settles NOT READY with the first failing check as the reason. -/
  | voteDeadline
  /-- VOTE_SEND_LIMIT (R409): At the send limit L_k, a node sends its VOTE on its parent port; the root of B sends VOTE_FWD. -/
  | voteSendLimit (domain : Bool)
  /-- VOTE_RECEIVE (R410): A child's VOTE is counted if stamped before the node's own send, otherwise discarded and counted late; the node sends once all children have reported. -/
  | voteReceive (domain : Bool) (port : Nat) (fsn : Fsn) (agg : Agg) (stamp : Time)
  /-- VOTE_FWD_RECEIVE (R411): The deciding node records the domain-B aggregate from the root of B. -/
  | voteFwdReceive (src : BitVec 16) (fsn : Fsn) (agg : Agg) (stamp : Time)
  /-- DECIDE (R411): At D(N) the deciding node forms both aggregates and decides COMMIT or ABORT with its reason and the remaining DECISION fields. -/
  | decide
  /-- COMMIT_BROADCAST (R412): At COMMIT_BROADCAST(N) the deciding node sends DECISION(N) down tree A and to the root of B, together with any generation segments due. -/
  | commitBroadcast
  /-- DECISION_RECEIVE (R413): A node applies the first copy of DECISION(N) stamped before LOCAL_ABORT(N), and a differing second copy puts a MEMBER into FAULT. -/
  | decisionReceive (viaB : Bool) (dec : Decision) (stamp : Time)
  /-- LOCAL_ABORT (R414): A node holding no decision at LOCAL_ABORT(N) abandons N and applies rows 7 and 8 of Table 1.8 with its own hold count. -/
  | localAbort
  /-- FRAME_OPEN (R65): A FRAME_OPEN packet opens frame N on its base or as a keyframe, after the binding, header, placement and body checks. -/
  | frameOpen (env : GladeEnv) (base : Fsn) (keyframe : Bool) (rsv : BitVec 30)
  /-- FRAME_REOPEN (R196): A FRAME_OPEN with REOPEN discards the frame's packets and errors, moves its roots to the new base and invalidates every bin. -/
  | frameReopen (env : GladeEnv) (base : Fsn) (keyframe : Bool) (rsv : BitVec 30)
  /-- FRAME_CLOSE (R67): A FRAME_CLOSE closes the frame when its count, digest and card count match, and closes the invalidation set. -/
  | frameClose (env : GladeEnv) (pktCount digest : Word) (cardCount : BitVec 16) (livePending : Bool) (rsv : BitVec 15)
  /-- CARD_SET (R73): A CARD_SET applies its card records in order, with validation and binning after each record. -/
  | cardSet (env : GladeEnv) (body : List Byte)
  /-- TEX_DEFINE (R76): A TEX_DEFINE defines a texture and takes its pages in the texture store. -/
  | texDefine (env : GladeEnv) (body : List Byte)
  /-- TEX_UPDATE (R79): A TEX_UPDATE segment is checked and stored; the last segment applies raw data or queues a decompress job on queue 0. -/
  | texUpdate (env : GladeEnv) (body : List Byte)
  /-- TEX_RELEASE (R82): A TEX_RELEASE makes the listed textures undefined in frame N's state. -/
  | texRelease (env : GladeEnv) (body : List Byte)
  /-- AMEND (R86): An AMEND packet is judged against the amend window and its records replace live card fields; a SEAL closes the window. -/
  | amend (env : GladeEnv) (body : List Byte)
  /-- DEFERRED_PACKET_APPLY (R204): A packet waiting for texture pages is applied once reclamation has returned its outstanding pages. -/
  | deferredPacketApply
  /-- RECLAIM_DONE (R206): Reclamation returns its last outstanding page; EV_ING_RECLAIM_DONE is raised and ING_RECLAIM reads 0. -/
  | reclaimDone
  /-- THK_QTAIL_WRITE (R118): A TAIL write makes descriptors visible, or is discarded with EV_THK_TAIL_REJECT when it would overfill the ring. -/
  | thkQtailWrite (queue : Nat) (value : Word)
  /-- THK_ABORT (R115): A write of 1 to ABORTn makes every job of queue n up to the current TAIL complete with THK_E_ABORTED. -/
  | thkAbort (queue : Nat)
  /-- THK_JOB_START (R114): A free channel takes the next waiting job of its kind, from queue 0 first and then round-robin, after the descriptor checks. -/
  | thkJobStart (channel : Nat)
  /-- THK_JOB_COMPLETE (R113): A job ends; its result fields and DONE are written in ring order, HEAD advances, and an ingest job updates texture pages or records SCN_E_TEX_DATA. -/
  | thkJobComplete (channel : Nat)
  /-- BIN_BOUNDS_WRITE (R124): A write to BIN_BOUNDS_LO or BIN_BOUNDS_HI starts a check of the new bin bounds table. -/
  | binBoundsWrite (hi : Bool) (value : Word) (stamp : Time)
  /-- GRV_DIR_WRITE (R153): A write to GRV_DIR_LO or GRV_DIR_HI starts a check of the new direction table. -/
  | grvDirWrite (hi : Bool) (value : Word) (stamp : Time)
  /-- COL_TABLE_WRITE (R219): A write to a colour table or gain map address register starts a check of the new tables. -/
  | colTableWrite (reg : ColReg) (value : Word) (stamp : Time)
  /-- TABLE_CHECK_END (R583): A table check ends; an accepted change waits for its swap instant, a refused one is discarded and its registers restored. -/
  | tableCheckEnd (table : TableId) (stamp : Time)
  /-- STRIP_GROUP_RELEASE (R139): Strip group k is released to the groves once the buffer of strip group k − 2 has been sent. -/
  | stripGroupRelease (fsn : Fsn)
  /-- STRIP_ISSUE (R191): An idle engine takes the next strip by the priority of Table 6.4. -/
  | stripIssue (engine : Nat)
  /-- STRIP_COMPLETE (R146): An engine finishes a strip and its codes go to drive staging; the frame may become synthesised. -/
  | stripComplete (engine : Nat) (poison : Option Nat) (hits misses : Nat)
  /-- GROVE_PANIC_ASSERT (R172): A grove asserts real-time panic when an incomplete strip group is within GRV_PANIC_LEAD of its window. -/
  | grovePanicAssert (grove : Nat)
  /-- GRV_CLK_WRITE (R178): A grove finishes its running strips, pauses for at most 5 µs and continues at the new clock. -/
  | grvClkWrite (grove : Nat) (value : Word)
  /-- FILL_UNDERRUN_STALL (R276): A strip group incomplete at the start of its window stalls every lane with IDLE and counts an underrun. -/
  | fillUnderrunStall (fsn : Fsn)
  /-- LINE_END (R277): At the end of each line the raster chooses the next line for all lanes by Table 9.3 and sends it. -/
  | lineEnd (stamp : Time)
  /-- FRAME_DONE (R275): VFRONT lines after its last active line, a fill reaches FRAME_DONE and EV_PDL_FRAME_DONE is raised. -/
  | frameDone (fsn : Fsn) (slate : Bool)
  /-- CONF_RECEIVE (R283): A CONF ends a forward item's flight; a non-OK status fails the item and re-queues its bins; the frame may become written. -/
  | confReceive (lane : Nat) (seq : BitVec 16) (status : Byte) (value : BitVec 24) (codeErrs : Nat) (crcOk : Bool) (stamp : Time)
  /-- RECT_CONF_TIMEOUT (R282): With no CONF 20 µs after its EOI, a RECT leaves flight and fails under R283. -/
  | rectConfTimeout (lane : Nat) (seq : BitVec 16)
  /-- FRAME_RETIRED (R249): FRAME_RETIRED(N) passes; the frame's pins and colour tables are released and EV_LYR_FRAME_RETIRED is raised. -/
  | frameRetired (fsn : Fsn)
  /-- ECHO_SEND (R290): At least every 10 ms the node sends an ECHO on each drive lane. -/
  | echoSend (lane : Nat) (stamp : Time)
  /-- ECHO_REPLY_RECEIVE (R291): An ECHO_REPLY gives a latency sample; L is recomputed and drift is checked. -/
  | echoReplyReceive (lane : Nat) (e1 : Byte) (turn : BitVec 24) (codeErrs : Nat) (stamp : Time)
  /-- DRIVER_STATUS_RECEIVE (R297): A driver STATUS gives zone and aperture temperatures and is checked for TICK mismatch and rising coding errors. -/
  | driverStatusReceive (lane : Nat) (st : DriverStatus) (codeErrs : Nat) (crcOk : Bool) (stamp : Time)
  /-- DRIVER_SILENT_TIMEOUT (R300): No STATUS from a lane for 5 ms puts the node into FAULT with LANE_E_DRIVER_SILENT. -/
  | driverSilentTimeout (lane : Nat)
  /-- LANE_ENABLE (R306): ENABLE written 1 starts offset calibration of the lane. -/
  | laneEnable (lane : Nat) (stamp : Time)
  /-- LANE_DISABLE (R306): ENABLE written 0 powers the lane down to OFF. -/
  | laneDisable (lane : Nat) (stamp : Time)
  /-- LANE_RETRAIN_REQUEST (R318): A RETRAIN write retrains the fabric lane's whole port. -/
  | laneRetrainRequest (lane : Nat) (stamp : Time)
  /-- LANE_TEST_WRITE (R322): A write of LOOP or TEST_SPEED puts the lane into TEST, or both written 0 restart it from OFFSET_CAL. -/
  | laneTestWrite (lane : Nat) (loop pattern testSpeed : BitVec 2) (stamp : Time)
  /-- OFFSET_CAL_DONE (R307): Sampler offsets converge and the lane enters TRAIN_LOW. -/
  | offsetCalDone (lane : Nat) (offsets : Word) (stamp : Time)
  /-- TRAINING_SET_RECEIVE (R308): An accepted TS updates the partner's state and may start a speed countdown, satisfy margin and deskew, or enter ACTIVE. -/
  | trainingSetReceive (lane : Nat) (ts : TrainingSet) (codingError : Bool) (skew : Nat) (stamp : Time)
  /-- SPEED_SWITCH (R310): After the GO countdown and 1 µs of idle, the transmitter moves to the next speed step. -/
  | speedSwitch (lane : Nat) (stamp : Time)
  /-- CAL_RUN_DONE (R313): A receiver calibration run reaches DONE at its speed. -/
  | calRunDone (lane : Nat) (q : EyeResult) (stamp : Time)
  /-- CAL_RUN_TIMEOUT (R313): A calibration run not DONE within 2 ms fails the lane with LANE_E_CAL_TIMEOUT. -/
  | calRunTimeout (lane : Nat) (stamp : Time)
  /-- NO_PARTNER_TIMEOUT (R314): A drive lane without a TS within 500 ms, or a fabric port not ACTIVE within 50 ms of its first TS, fails. -/
  | noPartnerTimeout (lane : Nat) (stamp : Time)
  /-- BG_RECAL_START (R316): The next due lane starts its background recalibration run. -/
  | bgRecalStart (stamp : Time)
  /-- BG_RECAL_DONE (R317): A background run ends; the lane stays ACTIVE, or fails, or its fabric port retrains. -/
  | bgRecalDone (q : EyeResult) (stamp : Time)
  /-- LANE_LOCK_LOST (R318): A lane loses lock; a fabric port retrains and a drive lane fails with LANE_E_LOCK_LOST. -/
  | laneLockLost (lane : Nat) (stamp : Time)
  /-- FE_LOOP_REQUEST (R323): A TS with FE_LOOP starts a 64 µs far-end loop-back in which the requester measures its round trips. -/
  | feLoopRequest (lane : Nat) (own : Bool) (stamp : Time)
  /-- FE_LOOP_END (R323): The 64 µs window ends, SDS_LRTT is loaded and EV_SDS_LOOP_DONE is raised. -/
  | feLoopEnd (lane : Nat) (rtt : BitVec 24) (stamp : Time)
  /-- FE_LOOP_RETRY (R323): After the back-off following a request conflict, an end retries its far-end loop-back request. -/
  | feLoopRetry (lane : Nat) (stamp : Time)
  /-- APL_ENABLE_WRITE (R344): APL_CTRL.ENABLE written 1 starts the restore at start; written 0 stops new lines after the running one. -/
  | aplEnableWrite (enable : Bool) (stamp : Time)
  /-- APL_REQUEST_GO (R336): A GO write submits an aperture request, or is discarded with OVERRUN while PENDING. -/
  | aplRequestGo (immediate : Bool)
  /-- APL_REQUEST_JUDGED (R337): The buffer is copied and the request is accepted with a SEQ or refused by Table 11.4. -/
  | aplRequestJudged
  /-- APL_REQUEST_START (R338): An eligible request starts by writing its UPDATE record, or a checkpoint, into the journal. -/
  | aplRequestStart
  /-- JOURNAL_WRITE_DONE (R342): A journal record is programmed and read back valid, and the request enters flight. -/
  | journalWriteDone (readBackOk : Bool) (stamp : Time)
  /-- APL_LINE_END (R339): At a line boundary the band is decided and the next line goes to the next in-flight request; a finished request raises EV_APL_UPDATE_DONE. -/
  | aplLineEnd (stamp : Time)
  /-- APL_REF_SETTLED (R329): APL_REF_SETTLE after a reference word, lines may start again. -/
  | aplRefSettled (stamp : Time)
  /-- APL_DRIVER_FAULT (R345): APL_FLT_N low for 10 µs or longer puts the node into FAULT. -/
  | aplDriverFault (lowNs : Nat)
  /-- TILE_POWER_FAIL (R343): TILE_PG falls: the running aperture line completes, outputs go to 0 V and no further line or journal write starts. -/
  | tilePowerFail (widthNs : Nat)
  /-- LAYER_COMMIT_GO (R243): A GO write snapshots the eight descriptors as the held commit, or refuses it under R237. -/
  | layerCommitGo (stamp : Time)
  /-- LAYER_LATCH (R245): At LYR_LATCH(N) frame N latches the latest applied layer set and a held commit may apply. -/
  | layerLatch (fsn : Fsn)
  /-- FLATTEN_DONE (R242): The flattener finishes writing a static group into a cache slot. -/
  | flattenDone (slot : Nat)
  /-- BLT_COPY (R258): START with OP COPY runs a checked copy with format conversion. -/
  | bltCopy (srcFmt dstFmt : BitVec 2) (galpha : Byte)
  /-- BLT_FILL (R258): START with OP FILL writes BLT_COLOUR to every destination pixel. -/
  | bltFill (srcFmt dstFmt : BitVec 2) (galpha : Byte)
  /-- BLT_BLEND (R259): START with OP BLEND composites the source over the destination in straight alpha. -/
  | bltBlend (srcFmt dstFmt : BitVec 2) (galpha : Byte)
  /-- BLT_DONE (R256): A blitter operation ends; CODE is written, BUSY clears and EV_BLT_DONE is raised. -/
  | bltDone
  /-- DMC_WRITE_REQUEST (R250): A write reaches the DMC and is stored, or discarded whole when it touches a pinned range. -/
  | dmcWriteRequest (src : Byte) (addr : Nat) (data : List Byte) (op : L2Op) (stamp : Time)
  /-- DMC_READ_REQUEST (R461): A read is decoded; a correctable line is corrected and written back, and an uncorrectable one returns poison. -/
  | dmcReadRequest (src : Byte) (addr len : Nat) (op : L2Op) (errs : List SymbolError) (stamp : Time)
  /-- MIGRATION_DONE (R475): The last line is copied; DMC_RANKMAPc is updated, the old position is retired and EV_DMC_MIG_DONE is raised. -/
  | migrationDone (channel : Nat) (bad : List Nat)
  /-- SCRUB_READ (R464): A scrub read of an active line uses spare SYS bandwidth. -/
  | scrubRead (addr : Nat) (errs : List SymbolError) (stamp : Time)
  /-- REFRESH_DUE (R469): At each tREFI the owed refresh count rises and refreshes are issued, postponed, or forced at a count of 5. -/
  | refreshDue (channel pos : Nat) (rtQueued : Bool)
  /-- STARVE_ISSUE (R468): During panic, a non-RT request that has waited DMC_STARVE is issued once. -/
  | starveIssue (channel port : Nat) (stamp : Time)
  /-- MR4_READ (R469): Every 16 ms the DMC reads MR4 temperature and may halve tREFI. -/
  | mr4Read (channel : Nat) (mr4 : BitVec 3)
  /-- DQS_TRACK (R473): Every 4 ms the DQS oscillator is read and delays are moved, with retraining after a drift beyond 1/4 UI. -/
  | dqsTrack (channel pos device : Nat) (step : Int)
  /-- ZQ_CALIBRATION (R473): Every 128 ms ZQ calibration runs on each channel. -/
  | zqCalibration (channel : Nat)
  /-- FREQ_CHANGE_REQUEST (R471): A write of DMC_FREQ.TARGET different from the current speed requests a frequency change. -/
  | freqChangeRequest (target : Bool)
  /-- FREQ_CHANGE_START (R471): With no fill active and the next V at least 1 ms ahead, the DMC switches speed through self-refresh and retraining. -/
  | freqChangeStart (stamp : Time)
  /-- FREQ_CHANGE_DONE (R471): The change ends, DMC_STATUS.FREQ is updated and EV_DMC_FREQ_DONE is raised, or the node enters FAULT with DMC_E_FREQ_TRAIN. -/
  | freqChangeDone (trained : Bool) (stamp : Time)
  /-- SRAM_PORT_ACCESS (R477): An SRAM access proceeds, stalls, or receives BUSY on a collision with the other port, which is logged. -/
  | sramPortAccess (a b : Option SramAccess) (follows : Bool) (src : Byte) (stamp : Time)
  /-- SRAM_TEST_STEP (R481): The transparent test steps one word in idle cycles; a round end is counted and a mismatch puts the node into FAULT. -/
  | sramTestStep (ok : Bool)
  /-- FABRIC_ENABLE (R355): FAB_CTRL.ENABLE enables the configured ports, and an anchor adopts FAB_EXPECT. -/
  | fabricEnable (stamp : Time)
  /-- COORD_OFFER_SEND (R355): Every 10 ms a node with a coordinate sends COORD_OFFER on each ACTIVE node port. -/
  | coordOfferSend
  /-- COORD_OFFER_RECEIVE (R356): An offer is adopted or checked for consistency, range and FAB_EXPECT. -/
  | coordOfferReceive (port : Nat) (offered : BitVec 16) (sender : Byte) (rsv : BitVec 32)
  /-- PACKET_FORWARD (R358): A packet not for this node is routed by dimension order with detours, or split as a rectangle, or discarded. -/
  | packetForward (input : Nat) (pkt : XtfPacket) (crc : Word) (stamp : Time)
  /-- ACK_RECEIVE (R352): An ACK releases the acknowledged packets. -/
  | ackReceive (port : Nat) (lseq : Byte) (check : Byte)
  /-- NAK_RECEIVE (R352): A NAK makes the sender resend from the oldest unacknowledged packet. -/
  | nakReceive (port : Nat) (lseq : Byte) (check : Byte) (stamp : Time)
  /-- ACK_TIMEOUT (R352): No ACK within 20 µs makes the sender resend, and 8 resends of one LSEQ retrain the port. -/
  | ackTimeout (port : Nat) (stamp : Time)
  /-- CREDIT_RECEIVE (R353): A CREDIT LINKCTL updates the sender's credits for its class. -/
  | creditReceive (port : Nat) (c1 value check : Byte)
  /-- CREDIT_ADVERTISE (R353): The receiver advertises its cumulative credits at least every 10 µs. -/
  | creditAdvertise (port : Nat)
  /-- LINK_DOWN_REPORT (R359): A port down for DOWN_REPORT, or absent for ABSENT, enters the failed-link table and LINK_STATE down is sent, repeating every 1 s. -/
  | linkDownReport (port : Nat) (stamp : Time)
  /-- LINK_STATE_RECEIVE (R359): A LINK_STATE report updates the failed-link table and is forwarded down the tree by a root. -/
  | linkStateReceive (msg : LinkMsg) (domain down : Bool) (stamp : Time)
  /-- LINK_ENTRY_EXPIRE (R359): A down report older than 3.5 s leaves the failed-link table. -/
  | linkEntryExpire (stamp : Time)
  /-- GUEST_PORT_UP (R366): A guest port enters ACTIVE; the host sends GUEST_ASSIGN and announces the guest, repeating every 1 s. -/
  | guestPortUp (port : Nat) (stamp : Time)
  /-- GUEST_ANNOUNCE_RECEIVE (R366): A GUEST_ANNOUNCE updates the guest table and resolves ID conflicts. -/
  | guestAnnounceReceive (msg : GuestMsg) (domain down : Bool) (stamp : Time)
  /-- GUEST_ENTRY_EXPIRE (R366): A guest table entry expires 3.5 s after its last announcement. -/
  | guestEntryExpire (stamp : Time)
  /-- GUEST_ASSIGN_RECEIVE (R367): An X1024 that receives GUEST_ASSIGN enters FAULT with FAB_E_PORT_PAIR. -/
  | guestAssignReceive (port : Nat) (guest host : BitVec 16) (rsv : BitVec 24)
  /-- TIME_ENABLE (R390): TIM_CTRL.ENABLE starts domains and trees, with a root's initial step from its source. -/
  | timeEnable (pref : Bool) (loc : Time)
  /-- ANNOUNCE_SEND (R386): Every 1 ms a node sends ANNOUNCE in each domain on its time-capable ports. -/
  | announceSend (domain : Bool) (loc : Time)
  /-- ANNOUNCE_RECEIVE (R387): An ANNOUNCE updates parent candidates and child ports and may cause a re-parent. -/
  | announceReceive (port : Nat) (msg : AnnounceMsg) (loc : Time)
  /-- EXCH_REQ_SEND (R381): Every 250 µs a node sends EXCH_REQ to its parent in each domain. -/
  | exchReqSend (domain : Bool) (loc : Time)
  /-- EXCH_REQ_RECEIVE (R381): A node answers an EXCH_REQ with EXCH_RESP carrying T2 and a hardware-inserted T3. -/
  | exchReqReceive (port : Nat) (domain : Bool) (xid : BitVec 16) (l2 l3 : Time)
  /-- EXCH_RESP_RECEIVE (R382): An accepted response gives d and θ, steps or slews the domain, and may reach convergence. -/
  | exchRespReceive (port : Nat) (domain : Bool) (xid : BitVec 16) (t2 t3 loc : Time)
  /-- PARENT_LOST (R390): A parent stops being a candidate or gives no exchange for 1 ms; the domain goes to HOLDOVER or FREE. -/
  | parentLost (domain : Bool) (loc : Time)
  /-- HOLDOVER_TIMEOUT (R390): After 100 ms in HOLDOVER, or 10 ms without a candidate, the domain goes FREE. -/
  | holdoverTimeout (domain : Bool) (loc : Time)
  /-- PTP_SYNC_RECEIVE (R400): A PTP Sync steers HOUSE and may lock or lose it. -/
  | ptpSyncReceive (twoStep : Bool) (seq : BitVec 16) (origin t2 : Int) (loc : Time)
  /-- PTP_ANNOUNCE_RECEIVE (R400): A PTP Announce feeds the best master clock algorithm. -/
  | ptpAnnounceReceive (domainNumber : Byte) (dataset : List Nat) (stamp : Time)
  /-- PTP_ANNOUNCE_TIMEOUT (R400): The announce receipt timeout loses HOUSE. -/
  | ptpAnnounceTimeout
  /-- CAPTURE_EDGE (R401): An edge on a TSI or GENLOCK_IN channel is stamped and queued when it is enabled and within the window. -/
  | captureEdge (channel : Nat) (rising : Bool) (stamp : Time)
  /-- CAPTURE_READ (R402): A read of TIM_CAP_NSc removes the oldest record and latches its fields. -/
  | captureRead (channel : Nat)
  /-- TIME_NOW_READ (R404): A read of TIM_NOW_NS latches TIM_NOW_FRAC, TIM_NOW_LOCAL and the house seconds. -/
  | timeNowRead (loc : Time)
  /-- TIME_NS_WRAP (R403): Fabric TIME_NS wraps and EV_TIM_WRAP is raised. -/
  | timeNsWrap
  /-- SLATE_TRIGGER (R416): A SLATE_TRIGGER command is sent to the deciding node, which holds it pending. -/
  | slateTrigger (stamp : Time)
  /-- SLATE_RELEASE (R416): A SLATE_RELEASE command is sent to the deciding node, which holds it pending. -/
  | slateRelease (stamp : Time)
  /-- DARK_ON (R416): A DARK_ON command sets the deciding node's standing DARK request. -/
  | darkOn (stamp : Time)
  /-- DARK_OFF (R416): A DARK_OFF command clears the standing DARK request. -/
  | darkOff (stamp : Time)
  /-- SCREEN_CMD_RECEIVE (R416): The deciding node takes a SCREEN_CMD, discarding a repeated REQ_ID. -/
  | screenCmdReceive (src : BitVec 16) (cmd : Byte) (reqId : Word) (stamp : Time)
  /-- GEN_SEG_RECEIVE (R418): A generation segment is stored; a root of B forwards it; the node holds G once all 13 segments agree. -/
  | genSegReceive (seg : Nat) (num : Word) (data : List Byte) (unicast : Bool)
  /-- JOIN_SEND (R419): A time-locked SAPLING sends JOIN to the deciding node every 100 ms. -/
  | joinSend
  /-- JOIN_RECEIVE (R419): The deciding node judges a JOIN by Table 14.4, may issue a new generation, and answers JOIN_RESULT. -/
  | joinReceive (src : BitVec 16) (held : Word) (digest : BitVec 256) (stamp : Time)
  /-- VOUCH_RECEIVE (R419): The deciding node records a VOUCH for a SAPLING. -/
  | vouchReceive (sapling : BitVec 16) (stamp : Time)
  /-- JOIN_RESULT_RECEIVE (R419): A SAPLING receives the judgement of its JOIN. -/
  | joinResultReceive (result : Byte) (reason : BitVec 16)
  /-- FAULT_NOTICE_RECEIVE (R415): The deciding node receives a FAULT_NOTICE; CMT_E_DIVERGED sets its standing DARK request. -/
  | faultNoticeReceive (src : BitVec 16) (fsn : Fsn) (reason : BitVec 16)
  /-- ACTIVATION_HANDOVER (R538): At V(ACT_FSN) an armed node loads the new microcode and firmware, restarts CPX and enters TRIAL. -/
  | activationHandover (stamp : Time)
  /-- TRIAL_TIMEOUT (R541): Without confirmation in 120 s the node writes a fallback record and performs a warm reset. -/
  | trialTimeout
  /-- CSI_FRAME_START (R431): A Frame Start short packet stamps a new sensor frame and closes a frame left without FE. -/
  | csiFrameStart (vc : Nat) (eccOk : Bool) (stamp : Time)
  /-- CSI_LINE_PACKET (R431): A long packet is checked and its pixels pass the pipeline, taps and statistics at its row. -/
  | csiLinePacket (vc : Nat) (dataType : Nat) (eccOk crcOk overflow : Bool) (samples : List Nat)
  /-- CSI_FRAME_END (R432): A Frame End closes the frame; size flags are set and the statistics record is written. -/
  | csiFrameEnd (vc : Nat) (eccOk : Bool) (stamp : Time)
  /-- PARALLEL_VSYNC_EDGE (R427): An active VSYNC edge closes the current parallel frame and starts the next. -/
  | parallelVsyncEdge (stamp : Time)
  /-- TEST_FRAME_START (R448): Every MET_Ss_TEST_PERIOD a generated test-pattern frame starts. -/
  | testFrameStart (stream : Nat) (stamp : Time)
  /-- TAP_ARM (R439): A write of ARM starts the tap at the next frame start of its stream. -/
  | tapArm (tap : Nat)
  /-- EXP_SET_GO (R445): A GO queues an exposure set, or is discarded with MET_E_EXP_BUSY as a fifth. -/
  | expSetGo (stream : Nat)
  /-- EXP_SET_START (R445): The next queued exposure set starts on the free CCI bus. -/
  | expSetStart
  /-- EXP_SET_DONE (R446): A set's last STOP is stamped and its tag is placed in force from frame k + latency, or it ends with a NAK. -/
  | expSetDone (acked : Bool) (stamp : Time)
  /-- CCI_TIMEOUT (R447): SCL held low for more than 10 ms ends the set with MET_E_CCI_TIMEOUT and a bus reset. -/
  | cciTimeout (stamp : Time)
  /-- CAL_SESSION_OPEN (R449): A calibration session is opened or refused, and the neutral colour table is staged. -/
  | calSessionOpen (req : PmpCtx) (force : Bool) (neutralTable neutralMap : Nat)
  /-- CAL_PATTERN (R450): The service commits a pattern as a layer set and measures it from valid records. -/
  | calPattern (req : PmpCtx) (descs : List (List Word)) (target : Fsn) (record : List Word)
  /-- CAL_SOLVE (R452): The service solves the tables and bounds and validates their quality figures. -/
  | calSolve (req : PmpCtx) (dirAddr trimsOutOfRange trimsTotal : Nat) (figures : List Nat)
  /-- CAL_STAGE (R454): The service writes the solved tables, their address registers and the calibration store. -/
  | calStage (req : PmpCtx) (addrs : List Nat) (rest : List Byte)
  /-- TRIM_RELOAD (R454): Trims are reloaded from the calibration store while the screen is DARK. -/
  | trimReload (req : PmpCtx)
  /-- AC_WATCHDOG_EXPIRE (R485): An application-core watchdog expires and the X1024 performs a CPX restart. -/
  | acWatchdogExpire (core : Nat) (stamp : Time)
  /-- HK_WATCHDOG_EXPIRE (R485): A housekeeping-core watchdog expires and the X1024 performs a warm reset. -/
  | hkWatchdogExpire (core : Nat) (stamp : Time)
  /-- WARM_RESET_REQUEST (R486): CPX_RESET with KIND 0b01 and the right KEY requests a warm reset. -/
  | warmResetRequest (stamp : Time)
  /-- CPX_RESTART_REQUEST (R487): CPX_RESET with KIND 0b10 and the right KEY requests a CPX restart. -/
  | cpxRestartRequest (stamp : Time)
  /-- CPX_RESTART_DONE (R487): The CPX restart ends, within 800 ms. -/
  | cpxRestartDone
  /-- FAULT_RESTART_TIMER (R488): CPX_FAULT_RESTART.SEC after entering FAULT, the node performs a warm reset unless it would be the fourth in an hour. -/
  | faultRestartTimer (stamp : Time)
  /-- EVENT_CLAIM (R492): A read of CPX_EV_CLAIMk returns and clears the lowest pending enabled event. -/
  | eventClaim (core : Nat)
  /-- SW_EVENT_RAISE (R566): A write of CPX_EV_RAISE raises a software event. -/
  | swEventRaise (event : Nat) (stamp : Time)
  /-- PMP_HELLO (R507): A HELLO starts a session handshake that the X1024 answers with HELLO_REPLY. -/
  | pmpHello (via : Option (BitVec 16 × BitVec 16)) (guest : Bool) (header body : List Byte) (stamp : Time)
  /-- PMP_FINISH (R507): A FINISH is verified and the session opens with derived keys, or closes. -/
  | pmpFinish (session : Nat) (header body : List Byte) (stamp : Time)
  /-- PMP_DATA_RECORD (R508): A DATA record is authenticated and decrypted, and its messages are dispatched to services. -/
  | pmpDataRecord (session : Nat) (header body : List Byte) (stamp : Time)
  /-- PMP_CLOSE (R508): A CLOSE record ends the session. -/
  | pmpClose (session : Nat) (stamp : Time)
  /-- PMP_SESSION_TIMEOUT (R508): A FINISH not received within 5 s, or 60 s idle, closes the session. -/
  | pmpSessionTimeout (session : Nat) (stamp : Time)
  /-- PMP_STREAM_ACK_TIMER (R509): Over the fabric, the receiver acknowledges every 1 ms and the sender resends after 50 ms. -/
  | pmpStreamAckTimer (session acked : Nat) (stamp : Time)
  /-- INFO_GET (R512): The INFO service returns identity, coordinate, states, C, time and active slot. -/
  | infoGet (req : PmpCtx)
  /-- EVENT_SUBSCRIBE (R493): A session subscribes to a mask of events. -/
  | eventSubscribe (req : PmpCtx) (mask : BitVec 640)
  /-- EVENT_UNSUBSCRIBE (R493): A session cancels its event subscription. -/
  | eventUnsubscribe (req : PmpCtx)
  /-- REG_READ (R512): The REG service reads up to 256 words. -/
  | regRead (req : PmpCtx) (off count : Nat)
  /-- REG_WRITE (R512): The REG service writes registers in TEST and RETURN only. -/
  | regWrite (req : PmpCtx) (writes : List (Nat × Word))
  /-- LOG_READ (R512): The LOG service reads the log partition by offset and length. -/
  | logRead (req : PmpCtx) (off len : Nat)
  /-- RESET_WARM (R486): The PMP RESET service requests a warm reset. -/
  | resetWarm (req : PmpCtx)
  /-- RESET_CPX_RESTART (R487): The PMP RESET service requests a CPX restart. -/
  | resetCpxRestart (req : PmpCtx)
  /-- MEMBERSHIP_ADD_X (R421): A request adds nodes to X in a new generation, or is refused with CMT_E_GEN_BUSY. -/
  | membershipAddX (req : PmpCtx) (nodes : List Nat)
  /-- MEMBERSHIP_REMOVE_X (R421): A request removes nodes from X in a new generation. -/
  | membershipRemoveX (req : PmpCtx) (nodes : List Nat)
  /-- MEMBERSHIP_CHANGE_E (R421): A request changes the expected set E in a new generation. -/
  | membershipChangeE (req : PmpCtx) (e : List Nat)
  /-- POLICY_SET (R513): A POLICY request changes instants, HOLD_LIMIT, rate, anchor source or limiter after its checks and staging. -/
  | policySet (req : PmpCtx) (p : PolicyReq)
  /-- BINDING_SET (R52): A BINDING request rewrites the ingest binding on every node for one swap instant. -/
  | bindingSet (req : PmpCtx) (stream : Word) (source : Word)
  /-- TILE_REACH_GET (R89): The TILE_REACH service returns p, α_h, α_v, S_H, S_V and the tile pose. -/
  | tileReachGet (req : PmpCtx)
  /-- APERTURE_UPDATE (R338): The APERTURE service submits a rectangle update with START_FSN on one node or a screen rectangle. -/
  | apertureUpdate (req : PmpCtx) (fsn : Fsn) (on : AplTarget)
  /-- CONFIG_CHANGE (R513): A CONFIG request restages the configuration image with new REGINIT records and applies them. -/
  | configChange (req : PmpCtx) (records : List (Nat × Word × Word)) (staged : Bool)
  /-- QUOTE_REQUEST (R522): A nonce request is answered with a DAK-signed quote, or refused outside PROVISIONED and FIELD. -/
  | quoteRequest (req : PmpCtx) (fabricSrc : Option (BitVec 16 × BitVec 16)) (nonce : List Byte)
  /-- SAPLING_VERIFY (R523): Every 500 ms a neighbour sends a fresh nonce to a Sapling on a node port. -/
  | saplingVerify (port : Nat) (stamp : Time)
  /-- QUOTE_RECEIVE (R523): A neighbour checks the Sapling's quote and sends VOUCH, or records the failure. -/
  | quoteReceive (port : Nat) (body chain : List Byte) (stamp : Time)
  /-- UPDATE_OFFER (R526): An offer is judged and takes the update lock, then is relayed to the target rectangle. -/
  | updateOffer (req : PmpCtx) (rect : Word) (head : List Byte) (crcs : List Word)
  /-- UPDATE_OFFER_RELAY_RECEIVE (R531): A target judges a relayed offer and holds the lock in the distributing node's name. -/
  | updateOfferRelayReceive (src : BitVec 16) (head : List Byte) (crcs : List Word) (stamp : Time)
  /-- UPDATE_BLOCK_RECEIVE (R530): A BLOCK chunk is assembled; a verified block is programmed and recorded in the bitmap. -/
  | updateBlockReceive (bundleId : Word) (block : Nat) (chunk : Nat) (data : List Byte)
  /-- UPDATE_STATUS_SEND (R531): Every 1 s each target reports its state and missing blocks to the distributing node. -/
  | updateStatusSend
  /-- UPDATE_STATUS_RECEIVE (R531): The distributing node resends missing blocks by unicast and reports to the client. -/
  | updateStatusReceive (st : UpdReport)
  /-- BUNDLE_VERIFY_DONE (R532): Whole-bundle verification ends; the bundle is STAGED, or the slot is erased with UPD_E_DIGEST. -/
  | bundleVerifyDone
  /-- UPDATE_ABANDON (R525): The holder abandons the offer and releases the lock. -/
  | updateAbandon (req : PmpCtx)
  /-- UPDATE_LOCK_TIMEOUT (R525): The lock is released when the holder's session has been closed for 60 s. -/
  | updateLockTimeout (stamp : Time)
  /-- UPDATE_ACTIVATE (R536): The deciding node accepts activation when every member has the bundle staged with its guard clear, and sets ACT_FSN = S + 64. -/
  | updateActivate (req : PmpCtx) (bundleId : Word)
  /-- ON_AIR_SET (R528): ON_AIR is set screen-wide at a swap instant and journalled. -/
  | onAirSet (req : PmpCtx)
  /-- ON_AIR_CLEAR (R528): ON_AIR is cleared screen-wide at a swap instant. -/
  | onAirClear (req : PmpCtx)
  /-- UPDATE_LOCK_SET (R528): The owner sets UPDATE_LOCK on a node, held in the update journal. -/
  | updateLockSet (req : PmpCtx)
  /-- UPDATE_LOCK_CLEAR (R528): The owner clears UPDATE_LOCK on a node. -/
  | updateLockClear (req : PmpCtx)
  /-- LIFECYCLE_GET_NONCE (R516): The device issues a 32-byte nonce for a life-cycle token. -/
  | lifecycleGetNonce (req : PmpCtx)
  /-- LIFECYCLE_TRANSITION (R516): A signed token moves the fused life-cycle state and causes a warm reset, or is refused. -/
  | lifecycleTransition (req : PmpCtx) (jtag : Bool) (tok : LcToken)
  /-- MEASUREMENT_EXTEND (R519): SEC_EXT_GO extends M10 + REG with SEC_EXT_DATA. -/
  | measurementExtend (reg : BitVec 2)
  /-- HOUSEKEEPING_SAMPLE (R546): Every 0.5 ms one channel is sampled; rounds, diode and supplies are checked and bands and recalibration triggers updated. -/
  | housekeepingSample (value : BitVec 16) (stamp : Time)
  /-- THERMAL_TRIP (R552): The comparator trips at 122 °C, holding islands in reset, idling lanes, grounding the aperture bus and driving THERM_TRIP_N low. -/
  | thermalTrip
  /-- THERMAL_TRIP_RELEASE (R553): Below 95 °C after a trip, the X1024 performs a cold reset with cause 0x03. -/
  | thermalTripRelease
  /-- POWER_OFF_REQUEST (R554): PWR_OFF_REQ_N falls and the shutdown BIST starts. -/
  | powerOffRequest (widthNs : Nat)
  /-- BIST_DONE (R554): The BIST writes its record, raises EV_HKP_BIST_DONE and drives PWR_OFF_ACK or proceeds to the warm reset. -/
  | bistDone (failItem : Nat) (detail : BitVec 16) (readBackOk : Bool) (stamp : Time)
  /-- RANK_RETRAINING_DONE (R473): In-service retraining of a DRAM rank position ends; requests resume, or the position keeps its last setting and is migrated, or a failed CA bus fails the channel with DMC_E_TRAIN. -/
  | rankRetrainingDone (channel pos : Nat) (ok caOk : Bool) (stamp : Time)
  /-- APL_RESTORE_TEMP_TIMEOUT (R345): At restore, no aperture temperature counts within 2 s of ENABLE, and the node enters FAULT with aperture fault code 0x3. -/
  | aplRestoreTempTimeout
  /-- LATENCY_CAL_TIMEOUT (R294): The 256 latency samples of a drive lane are not complete within 10 ms of the start of calibration, and the node enters FAULT with LANE_E_LAT_CAL. -/
  | latencyCalTimeout (lane : Nat)
  /-- MGT_LINK_CHANGE (R504): The management port link comes up at 1000 Mb/s or goes down; MGT_STATUS.LINK changes and EV_MGT_LINK is raised. -/
  | mgtLinkChange (up : Bool) (mbps : Nat)
  /-- DHCP_REPLY_RECEIVE (R504): A DHCP reply under RFC 2131 arrives on the management port and binds the address, setting DHCP_BOUND. -/
  | dhcpReplyReceive (ip mask gateway : Word)
  /-- ARP_REQUEST_RECEIVE (R504): An ARP request arrives on the management port and the X1024 answers it. -/
  | arpRequestReceive (sender target : Word)
  /-- ICMP_ECHO_REQUEST_RECEIVE (R504): An ICMP echo request arrives on the management port and the X1024 answers it. -/
  | icmpEchoRequestReceive (sender dst : Word) (payload : List Byte)
  /-- PARALLEL_HSYNC_LINE (R429): In parallel mode, a line of samples taken on every PCLK cycle while HSYNC is active ends, and its pixels pass the pipeline, taps and statistics. -/
  | parallelHsyncLine (overflow : Bool) (samples : List Nat)
  /-- GUEST_PORT_DOWN (R366): A guest X port has been out of ACTIVE for DOWN_REPORT; the host announces the guest as gone and EV_FAB_GUEST_DOWN is raised. -/
  | guestPortDown (port : Nat) (stamp : Time)
  /-- GLADE_UNKNOWN_TYPE_PACKET (R55): A Glade packet whose TYPE is not a producer-to-node type of Table 2.2 arrives and is discarded with SCN_E_BAD_HEADER, or as foreign under R51. -/
  | gladeUnknownTypePacket (env : GladeEnv) (type : Byte) (body : List Byte)
  /-- PTP_FOLLOW_UP_RECEIVE (R400): A PTP Follow_Up from a two-step master arrives and supplies the precise origin time for steering HOUSE. -/
  | ptpFollowUpReceive (seq : BitVec 16) (origin : Int)
  /-- PTP_DELAY_RESP_RECEIVE (R400): A PTP Delay_Resp arrives and completes the delay request-response measurement used to steer HOUSE. -/
  | ptpDelayRespReceive (t3 t4 : Int)
  /-- BAD_PACKET_RECEIVE (R352): A fabric packet arrives with a bad CRC, a coding error, an unexpected LSEQ or EOP_BAD; it is discarded, EOP_BAD is acknowledged for LSEQ, and a NAK is sent once per gap. -/
  | badPacketReceive (port : Nat) (pkt : XtfPacket) (how : BadPacket)
  deriving DecidableEq, Repr

end Sys2Proof
end

