-- ==== Sys2Proof/WellFormed.lean ====
section
/-! DEFINITION. Which commands are well formed: every operand names a unit, a size or a position that the spec has.
An ill-formed command names no unit of the hardware: no sender can send one, no claim rests on what its meaning answers
(log entry 4). -/

namespace Sys2Proof

/-- The body of a Glade packet as its header declares it: a multiple of 4 bytes, at most 2,032 (Table 2.1). -/
def bodyWf (body : List Byte) : Bool := body.length ≤ 2032 && body.length % 4 == 0

/-- The operands name existing units (tables 9.1, 10.1, 12.1, 15.1, 16.1, 17.1). -/
def Instr.wf : Instr → Bool
  | .powerOn => true
  | .sysResetAssert _ => true
  | .coldReset cause => cause ∈ [0x01#8, 0x02#8, 0x03#8]
  | .warmReset cause _ => cause ∈ [0x10#8, 0x11#8, 0x12#8, 0x13#8, 0x14#8]
  | .startStepEnd step _ _ _ _ => 1 ≤ step && step ≤ 11
  | .registerWrite off size _ _ => size ∈ [1, 2, 4, 8] && off < 0x10000000
  | .lockSet block => block < 0x1D
  | .pairLowRead off size _ => size ∈ [1, 2, 4, 8] && off < 0x10000000
  | .epochCRead => true
  | .counterReadClear off size _ => size ∈ [1, 2, 4, 8] && off < 0x10000000
  | .registerAccessTimeout off _ => off < 0x10000000
  | .swapInstant => true
  | .slateFillEnd => true
  | .tickLaunch => true
  | .specStart => true
  | .sceneDeadline _ => true
  | .amendDeadline _ => true
  | .voteDeadline => true
  | .voteSendLimit _ => true
  | .voteReceive _ port _ _ _ => port < 4
  | .voteFwdReceive _ _ _ _ => true
  | .decide => true
  | .commitBroadcast => true
  | .decisionReceive _ _ _ => true
  | .localAbort => true
  | .frameOpen _ _ _ _ => true
  | .frameReopen _ _ _ _ => true
  | .frameClose _ _ _ _ _ _ => true
  | .cardSet _ body => bodyWf body
  | .texDefine _ body => bodyWf body
  | .texUpdate _ body => bodyWf body
  | .texRelease _ body => bodyWf body
  | .amend _ body => bodyWf body
  | .deferredPacketApply => true
  | .reclaimDone => true
  | .thkQtailWrite queue _ => 1 ≤ queue && queue ≤ 3
  | .thkAbort queue => 1 ≤ queue && queue ≤ 3
  | .thkJobStart channel => channel ≤ 4
  | .thkJobComplete channel => channel ≤ 4
  | .binBoundsWrite _ _ _ => true
  | .grvDirWrite _ _ _ => true
  | .colTableWrite _ _ _ => true
  | .tableCheckEnd _ _ => true
  | .stripGroupRelease _ => true
  | .stripIssue engine => engine < 128
  | .stripComplete engine _ _ _ => engine < 128
  | .grovePanicAssert grove => grove < 8
  | .grvClkWrite grove _ => grove < 8
  | .fillUnderrunStall _ => true
  | .lineEnd _ => true
  | .frameDone _ _ => true
  | .confReceive lane _ _ _ _ _ _ => lane < 192
  | .rectConfTimeout lane _ => lane < 192
  | .frameRetired _ => true
  | .echoSend lane _ => lane < 192
  | .echoReplyReceive lane _ _ _ _ => lane < 192
  | .driverStatusReceive lane _ _ _ _ => lane < 192
  | .driverSilentTimeout lane => lane < 192
  | .laneEnable lane _ => lane < 224
  | .laneDisable lane _ => lane < 224
  | .laneRetrainRequest lane _ => lane < 224
  | .laneTestWrite lane _ _ _ _ => lane < 224
  | .offsetCalDone lane _ _ => lane < 224
  | .trainingSetReceive lane _ _ _ _ => lane < 224
  | .speedSwitch lane _ => lane < 224
  | .calRunDone lane _ _ => lane < 224
  | .calRunTimeout lane _ => lane < 224
  | .noPartnerTimeout lane _ => lane < 224
  | .bgRecalStart _ => true
  | .bgRecalDone _ _ => true
  | .laneLockLost lane _ => lane < 224
  | .feLoopRequest lane _ _ => lane < 224
  | .feLoopEnd lane _ _ => lane < 224
  | .feLoopRetry lane _ => lane < 224
  | .aplEnableWrite _ _ => true
  | .aplRequestGo _ => true
  | .aplRequestJudged => true
  | .aplRequestStart => true
  | .journalWriteDone _ _ => true
  | .aplLineEnd _ => true
  | .aplRefSettled _ => true
  | .aplDriverFault _ => true
  | .tilePowerFail _ => true
  | .layerCommitGo _ => true
  | .layerLatch _ => true
  | .flattenDone slot => slot < 8
  | .bltCopy _ _ _ => true
  | .bltFill _ _ _ => true
  | .bltBlend _ _ _ => true
  | .bltDone => true
  | .dmcWriteRequest _ addr data _ _ => addr + data.length ≤ 2 ^ 38
  | .dmcReadRequest _ addr len _ _ _ => addr + len ≤ 2 ^ 38
  | .migrationDone channel _ => channel < 4
  | .scrubRead addr _ _ => addr < 2 ^ 36 && addr % 128 == 0
  | .refreshDue channel pos _ => channel < 4 && pos < 3
  | .starveIssue channel port _ => channel < 4 && port < 16
  | .mr4Read channel _ => channel < 4
  | .dqsTrack channel pos device _ => channel < 4 && pos < 3 && device < 10
  | .zqCalibration channel => channel < 4
  | .freqChangeRequest _ => true
  | .freqChangeStart _ => true
  | .freqChangeDone _ _ => true
  | .sramPortAccess _ _ _ _ _ => true
  | .sramTestStep _ => true
  | .fabricEnable _ => true
  | .coordOfferSend => true
  | .coordOfferReceive port _ _ _ => port < 6
  | .packetForward input _ _ _ => input < 7
  | .ackReceive port _ _ => port < 6
  | .nakReceive port _ _ _ => port < 6
  | .ackTimeout port _ => port < 6
  | .creditReceive port _ _ _ => port < 6
  | .creditAdvertise port => port < 6
  | .linkDownReport port _ => port < 6
  | .linkStateReceive _ _ _ _ => true
  | .linkEntryExpire _ => true
  | .guestPortUp _ _ => true
  | .guestAnnounceReceive _ _ _ _ => true
  | .guestEntryExpire _ => true
  | .guestAssignReceive port _ _ _ => port == 4 || port == 5
  | .timeEnable _ _ => true
  | .announceSend _ _ => true
  | .announceReceive port _ _ => port < 4
  | .exchReqSend _ _ => true
  | .exchReqReceive port _ _ _ _ => port < 4
  | .exchRespReceive port _ _ _ _ _ => port < 4
  | .parentLost _ _ => true
  | .holdoverTimeout _ _ => true
  | .ptpSyncReceive _ _ _ _ _ => true
  | .ptpAnnounceReceive _ _ _ => true
  | .ptpAnnounceTimeout => true
  | .captureEdge channel _ _ => channel < 9
  | .captureRead channel => channel < 9
  | .timeNowRead _ => true
  | .timeNsWrap => true
  | .slateTrigger _ => true
  | .slateRelease _ => true
  | .darkOn _ => true
  | .darkOff _ => true
  | .screenCmdReceive _ _ _ _ => true
  | .genSegReceive seg _ _ _ => seg ≤ 12
  | .joinSend => true
  | .joinReceive _ _ _ _ => true
  | .vouchReceive _ _ => true
  | .joinResultReceive _ _ => true
  | .faultNoticeReceive _ _ _ => true
  | .activationHandover _ => true
  | .trialTimeout => true
  | .csiFrameStart vc _ _ => vc < 4
  | .csiLinePacket vc _ _ _ _ _ => vc < 4
  | .csiFrameEnd vc _ _ => vc < 4
  | .parallelVsyncEdge _ => true
  | .testFrameStart stream _ => stream < 4
  | .tapArm tap => tap < 4
  | .expSetGo stream => stream < 4
  | .expSetStart => true
  | .expSetDone _ _ => true
  | .cciTimeout _ => true
  | .calSessionOpen _ _ _ _ => true
  | .calPattern _ descs _ _ => descs.length == 8 && descs.all (fun d => d.length == 16)
  | .calSolve _ _ _ _ _ => true
  | .calStage _ _ _ => true
  | .trimReload _ => true
  | .acWatchdogExpire core _ => core < 8
  | .hkWatchdogExpire core _ => 8 ≤ core && core < 12
  | .warmResetRequest _ => true
  | .cpxRestartRequest _ => true
  | .cpxRestartDone => true
  | .faultRestartTimer _ => true
  | .eventClaim core => core < 12
  | .swEventRaise _ _ => true
  | .pmpHello _ _ _ _ _ => true
  | .pmpFinish _ _ _ _ => true
  | .pmpDataRecord _ _ _ _ => true
  | .pmpClose _ _ => true
  | .pmpSessionTimeout _ _ => true
  | .pmpStreamAckTimer _ _ _ => true
  | .infoGet _ => true
  | .eventSubscribe _ _ => true
  | .eventUnsubscribe _ => true
  | .regRead _ _ _ => true
  | .regWrite _ _ => true
  | .logRead _ _ _ => true
  | .resetWarm _ => true
  | .resetCpxRestart _ => true
  | .membershipAddX _ _ => true
  | .membershipRemoveX _ _ => true
  | .membershipChangeE _ _ => true
  | .policySet _ _ => true
  | .bindingSet _ _ _ => true
  | .tileReachGet _ => true
  | .apertureUpdate _ _ _ => true
  | .configChange _ _ _ => true
  | .quoteRequest _ _ _ => true
  | .saplingVerify port _ => port < 4
  | .quoteReceive port _ _ _ => port < 4
  | .updateOffer _ _ _ crcs => crcs.length ≤ 4096
  | .updateOfferRelayReceive _ _ crcs _ => crcs.length ≤ 4096
  | .updateBlockReceive _ block chunk data => chunk < 64 && block < 4096 && data.length == 1024
  | .updateStatusSend => true
  | .updateStatusReceive _ => true
  | .bundleVerifyDone => true
  | .updateAbandon _ => true
  | .updateLockTimeout _ => true
  | .updateActivate _ _ => true
  | .onAirSet _ => true
  | .onAirClear _ => true
  | .updateLockSet _ => true
  | .updateLockClear _ => true
  | .lifecycleGetNonce _ => true
  | .lifecycleTransition _ _ _ => true
  | .measurementExtend _ => true
  | .housekeepingSample _ _ => true
  | .thermalTrip => true
  | .thermalTripRelease => true
  | .powerOffRequest _ => true
  | .bistDone failItem _ _ _ => failItem ≤ 8
  | .rankRetrainingDone channel pos _ _ _ => channel < 4 && pos < 3
  | .aplRestoreTempTimeout => true
  | .latencyCalTimeout lane => lane < 192
  | .mgtLinkChange _ _ => true
  | .dhcpReplyReceive _ _ _ => true
  | .arpRequestReceive _ _ => true
  | .icmpEchoRequestReceive _ _ _ => true
  | .parallelHsyncLine _ _ => true
  | .guestPortDown _ _ => true
  | .gladeUnknownTypePacket _ _ body => bodyWf body
  | .ptpFollowUpReceive _ _ => true
  | .ptpDelayRespReceive _ _ => true
  | .badPacketReceive port _ _ => port < 6

end Sys2Proof
end

