-- ==== Sys2Proof/Machine/Bits.lean ====
section
/-! DEFINITION. Bytes, little-endian words, bit fields, sequence-number order and the checks that every chapter
uses: R8, R9, R31 and the CRC-32C of R98. -/

namespace Sys2Proof.Machine

/-- The bytes of `v`, least significant first, `n` of them (R9). -/
def leBytes : Nat → Nat → List Byte
  | 0, _ => []
  | n + 1, v => BitVec.ofNat 8 v :: leBytes n (v / 256)

/-- The number that bytes spell, least significant first (R9). -/
def leNat : List Byte → Nat
  | [] => 0
  | b :: bs => b.toNat + 256 * leNat bs

/-- The number in `n` bytes from offset `i` (R9). -/
def leAt (bs : List Byte) (i n : Nat) : Nat := leNat ((bs.drop i).take n)

/-- Byte `i`, 0 beyond the end. -/
def byteAt (bs : List Byte) (i : Nat) : Nat := (bs.getD i 0).toNat

/-- Bits `hi:lo` of a number (R8). -/
def bitsOf (v hi lo : Nat) : Nat := v / 2 ^ lo % 2 ^ (hi + 1 - lo)

/-- Bit `i` of a number (R8). -/
def bitOf (v i : Nat) : Bool := v / 2 ^ i % 2 == 1

/-- 1 for true, 0 for false. -/
def boolNat (b : Bool) : Nat := if b then 1 else 0

/-- Mask of bits `hi:lo` of a register word. -/
def maskW (hi lo : Nat) : Word := BitVec.ofNat 32 ((2 ^ (hi + 1) - 1) - (2 ^ lo - 1))

/-- `A` is later than `B` (R31): the signed value of A - B modulo 2^32 is positive. -/
def laterFsn (a b : Fsn) : Bool := 0 < (a - b).toInt

/-- A 16-bit sequence number `a` is newer than `b` by the signed 16-bit difference. -/
def newer16 (a b : BitVec 16) : Bool := 0 < (a - b).toInt

/-- `a` is later than `b` or equal to it (R31). -/
def notBeforeFsn (a b : Fsn) : Bool := 0 ≤ (a - b).toInt

/-- Set element `i`; nothing when the list has no such element. -/
def setAt {α : Type} (l : List α) (i : Nat) (a : α) : List α := l.set i a

/-- Change element `i`; nothing when the list has no such element. -/
def modAt {α : Type} : List α → Nat → (α → α) → List α
  | [], _, _ => []
  | a :: l, 0, f => f a :: l
  | a :: l, n + 1, f => a :: modAt l n f

/-- Insert into a rising list of numbers, once. -/
def insertNat (n : Nat) : List Nat → List Nat
  | [] => [n]
  | a :: l => if n < a then n :: a :: l else if n == a then a :: l else a :: insertNat n l

/-- Look a key up in a list of pairs. -/
def lookupD {κ α : Type} [BEq κ] (k : κ) (d : α) (l : List (κ × α)) : α := (l.lookup k).getD d

/-- Put a pair in front and drop older pairs of the same key. -/
def putKey {κ α : Type} [BEq κ] (k : κ) (a : α) (l : List (κ × α)) : List (κ × α) :=
  (k, a) :: l.filter (fun p => !(p.1 == k))

/-- Add saturating at `cap`. -/
def satAdd (cap a b : Nat) : Nat := min cap (a + b)

/-- One bit step of the reflected CRC-32C, polynomial 0x82F6_3B78 (R98). -/
def crcBit (c : Nat) : Nat := if c % 2 == 1 then (c / 2) ^^^ 0x82F63B78 else c / 2

/-- One byte of the CRC-32C (R98). -/
def crcByte (c : Nat) (b : Byte) : Nat :=
  let x := c ^^^ b.toNat
  crcBit (crcBit (crcBit (crcBit (crcBit (crcBit (crcBit (crcBit x)))))))

/-- CRC-32C of bytes: initial and final value 0xFFFF_FFFF, reflected (R98). -/
def crc32c (bs : List Byte) : Word := BitVec.ofNat 32 ((bs.foldl crcByte 0xFFFFFFFF) ^^^ 0xFFFFFFFF)

/-- Words of a byte list, least significant byte first; a last partial word is filled with zeros. -/
def wordsOf : List Byte → List Word
  | a :: b :: c :: d :: rest => BitVec.ofNat 32 (leNat [a, b, c, d]) :: wordsOf rest
  | [] => []
  | l => [BitVec.ofNat 32 (leNat l)]

/-- The signed number that the low `n` bits of `v` spell. -/
def signedOf (n v : Nat) : Int :=
  let u := v % 2 ^ n
  if u < 2 ^ (n - 1) then (u : Int) else (u : Int) - (2 ^ n : Nat)

/-- The low `n` bits of an integer, two's complement. -/
def unsignedOf (n : Nat) (v : Int) : Nat := (v % ((2 ^ n : Nat) : Int)).toNat

/-- Clamp an integer into `lo` to `hi`. -/
def clampInt (lo hi v : Int) : Int := if v < lo then lo else if hi < v then hi else v

end Sys2Proof.Machine
end

