-- ==== Sys2Proof/Machine/F32.lean ====
section
/-! DEFINITION. IEEE 754 binary32 with round to nearest, ties to even (R129): every finite number is an exact integer
multiple of 2^-149, each operation is computed exactly on integers and rounded once. Square root, sine, cosine, tangent
and the ST 2084 curve are rounded from fixed-point values with far more digits than the rounding needs. -/

namespace Sys2Proof.Machine

/-- Integer quotient rounded to nearest, ties to even. -/
def rneDiv (a b : Nat) : Nat :=
  let q := a / b
  let r := a % b
  if b < 2 * r ∨ (2 * r = b ∧ q % 2 = 1) then q + 1 else q

/-- The same of a signed numerator. -/
def rneDivInt (a : Int) (b : Nat) : Int :=
  if a < 0 then -(rneDiv a.natAbs b : Int) else (rneDiv a.natAbs b : Int)

/-- Greatest e with 2^e ≤ num / den. -/
def floorLog2 (num den : Nat) : Int :=
  let d : Int := (Nat.log2 num : Int) - (Nat.log2 den : Int)
  let fits := if 0 ≤ d then den * 2 ^ d.toNat ≤ num else den ≤ num * 2 ^ (-d).toNat
  if fits then d else d - 1

/-- The magnitude bits of num / den rounded to binary32; infinity on overflow. -/
def roundMag (num den : Nat) : Nat :=
  if num = 0 then 0 else
    let e := floorLog2 num den
    let u := max e (-126) - 23
    let m := if 0 ≤ u then rneDiv num (den * 2 ^ u.toNat) else rneDiv (num * 2 ^ (-u).toNat) den
    min 0x7F800000 ((max e (-126) + 126).toNat * 2 ^ 23 + m)

/-- Sign and magnitude bits. -/
def fmake (neg : Bool) (mag : Nat) : F32 := BitVec.ofNat 32 (mag + if neg then 2 ^ 31 else 0)

/-- A rational rounded to binary32. -/
def fratio (num : Int) (den : Nat) : F32 := fmake (num < 0) (roundMag num.natAbs den)

def fneg? (a : F32) : Bool := a.getLsbD 31
/-- Exponent and fraction bits. -/
def fmag (a : F32) : Nat := a.toNat % 2 ^ 31
def isNan (a : F32) : Bool := 0x7F800000 < fmag a
def isInf (a : F32) : Bool := fmag a == 0x7F800000
def isFinite (a : F32) : Bool := fmag a < 0x7F800000
def isZero (a : F32) : Bool := fmag a == 0
/-- The value of a register field: negative zero is 0.0 (R580). -/
def fieldF32 (a : F32) : F32 := if isZero a then 0 else a
/-- The quiet NaN that an invalid operation gives. -/
def fnan : F32 := 0x7FC00000
def finf (neg : Bool) : F32 := fmake neg 0x7F800000

/-- The magnitude of a finite number in units of 2^-149. -/
def fixMag (a : F32) : Nat :=
  let e := fmag a / 2 ^ 23
  if e = 0 then fmag a else (fmag a % 2 ^ 23 + 2 ^ 23) * 2 ^ (e - 1)

/-- A finite number in units of 2^-149. -/
def fix (a : F32) : Int := if fneg? a then -(fixMag a : Int) else (fixMag a : Int)

/-- A subnormal taken as 0 (R71). -/
def ftz (a : F32) : F32 := if fmag a < 0x800000 then 0 else a

def fneg (a : F32) : F32 := a ^^^ 0x80000000#32
def fabs (a : F32) : F32 := BitVec.ofNat 32 (fmag a)

/-- Sum; an exact zero of unlike operands is +0. -/
def fadd (a b : F32) : F32 :=
  if isNan a || isNan b then fnan
  else if isInf a then (if isInf b && a != b then fnan else a)
  else if isInf b then b
  else if isZero a && isZero b then (if fneg? a && fneg? b then a else 0)
  else fratio (fix a + fix b) (2 ^ 149)

def fsub (a b : F32) : F32 := fadd a (fneg b)

def fmul (a b : F32) : F32 :=
  let s := fneg? a != fneg? b
  if isNan a || isNan b then fnan
  else if isInf a || isInf b then (if isZero a || isZero b then fnan else finf s)
  else fmake s (roundMag (fixMag a * fixMag b) (2 ^ 298))

def fdiv (a b : F32) : F32 :=
  let s := fneg? a != fneg? b
  if isNan a || isNan b then fnan
  else if isInf a then (if isInf b then fnan else finf s)
  else if isInf b then fmake s 0
  else if isZero b then (if isZero a then fnan else finf s)
  else fmake s (roundMag (fixMag a) (fixMag b))

/-- Integer square root over the bits from `k - 1` down. -/
def isqrtFrom (n : Nat) : Nat → Nat → Nat
  | 0, r => r
  | k + 1, r => isqrtFrom n k (if (r + 2 ^ k) * (r + 2 ^ k) ≤ n then r + 2 ^ k else r)

/-- Greatest r with r^2 ≤ n. -/
def isqrt (n : Nat) : Nat := isqrtFrom n (Nat.log2 n / 2 + 1) 0

/-- Correctly rounded square root. -/
def fsqrt (a : F32) : F32 :=
  if isNan a || isZero a then a
  else if fneg? a then fnan
  else if isInf a then a
  else
    let n := fixMag a * 2 ^ 81
    let r := isqrt n
    fmake false (roundMag (2 * r + boolNat (r * r != n)) (2 ^ 116))

/-- The order of numbers that are not NaN; both zeros are equal. -/
def fkey (a : F32) : Int := if fneg? a then -(fmag a : Int) else (fmag a : Int)
def flt (a b : F32) : Bool := !isNan a && !isNan b && decide (fkey a < fkey b)
def fle (a b : F32) : Bool := !isNan a && !isNan b && decide (fkey a ≤ fkey b)
def feq (a b : F32) : Bool := !isNan a && !isNan b && decide (fkey a = fkey b)
def fmax (a b : F32) : F32 := if flt a b then b else a
def fmin (a b : F32) : F32 := if flt b a then b else a

/-- An integer converted to binary32. -/
def ofInt (n : Int) : F32 := fratio n 1

/-- ⌊a × m⌋ of a finite number, exactly. -/
def floorScaled (a : F32) (m : Nat) : Int := (fix a * (m : Int)) / ((2 ^ 149 : Nat) : Int)

/-- A finite number times m rounded to the nearest integer, ties to even. -/
def roundScaled (a : F32) (m : Nat) : Int := rneDivInt (fix a * (m : Int)) (2 ^ 149)

/-- ⌊256 × log₂ a⌋ of a finite positive number, exactly (R163). -/
def log2Scaled (a : F32) : Int := (Nat.log2 (fixMag a ^ 256) : Int) - 149 * 256

/-- A binary16 number widened exactly (R151). -/
def half (h : Nat) : F32 :=
  let s := bitOf h 15
  let e := bitsOf h 14 10
  let f := bitsOf h 9 0
  if e = 31 then (if f = 0 then finf s else fnan)
  else if e = 0 then fmake s (roundMag f (2 ^ 24))
  else fmake s ((e + 112) * 2 ^ 23 + f * 2 ^ 13)

/-! ### Vectors (R155) -/

def vadd (a b : V3) : V3 := { x := fadd a.x b.x, y := fadd a.y b.y, z := fadd a.z b.z }
def vsub (a b : V3) : V3 := { x := fsub a.x b.x, y := fsub a.y b.y, z := fsub a.z b.z }
def vscale (a : V3) (k : F32) : V3 := { x := fmul a.x k, y := fmul a.y k, z := fmul a.z k }
def vdivs (a : V3) (k : F32) : V3 := { x := fdiv a.x k, y := fdiv a.y k, z := fdiv a.z k }
def cross (a b : V3) : V3 :=
  { x := fsub (fmul a.y b.z) (fmul a.z b.y)
    y := fsub (fmul a.z b.x) (fmul a.x b.z)
    z := fsub (fmul a.x b.y) (fmul a.y b.x) }
def dot (a b : V3) : F32 := fadd (fadd (fmul a.x b.x) (fmul a.y b.y)) (fmul a.z b.z)
/-- |a| in the order of R71. -/
def vlen (a : V3) : F32 := fsqrt (dot a a)

/-! ### Fixed point with 400 fraction bits -/

/-- π in units of 2^-400, rounded down. -/
def piFix : Nat :=
  0x3243f6a8885a308d313198a2e03707344a4093822299f31d0082efa98ec4e6c89452821e638d01377be5466cf34e90c6cc0ac
/-- ln 2 in units of 2^-256, rounded down. -/
def ln2Fix : Nat := 0xb17217f7d1cf79abc9e3b39803f2f6af40f343267298b62d8a0d175b8baafa2b
/-- tan 0.1° in units of 2^-256, rounded down. -/
def tanTenthFix : Nat := 0x7261cbab69ed8ed779f52ef951ed94f02230070043e4cc08f5ca0efaa5af11

/-- Sum of a power series whose next term is -(t × x²) / ((k + 1)(k + 2)). -/
def trigSeries (x2 : Int) : Nat → Nat → Int → Int → Int
  | 0, _, _, s => s
  | n + 1, k, t, s =>
    let t' := -(t * x2 / ((2 ^ 400 : Nat) : Int)) / (((k + 1) * (k + 2) : Nat) : Int)
    trigSeries x2 n (k + 2) t' (s + t')

/-- (sin x, cos x) of x in units of 2^-400. -/
def sinCosFix (x : Int) : Int × Int :=
  let h : Int := (piFix : Int) / 2
  let q := (2 * x + h) / (2 * h)
  let r := x - q * h
  let r2 := r * r / ((2 ^ 400 : Nat) : Int)
  let sn := trigSeries r2 48 1 r r
  let cs := trigSeries r2 48 0 ((2 ^ 400 : Nat) : Int) ((2 ^ 400 : Nat) : Int)
  match (q % 4).toNat with
  | 0 => (sn, cs)
  | 1 => (cs, -sn)
  | 2 => (-sn, -cs)
  | _ => (-cs, sn)

/-- Correctly rounded sine of a finite number (R74). -/
def fsin (a : F32) : F32 := if isZero a then a else fratio (sinCosFix (fix a * ((2 ^ 251 : Nat) : Int))).1 (2 ^ 400)
/-- Correctly rounded cosine of a finite number (R74). -/
def fcos (a : F32) : F32 := fratio (sinCosFix (fix a * ((2 ^ 251 : Nat) : Int))).2 (2 ^ 400)

/-- tan(atan s + 0.1°), correctly rounded, for a finite s ≥ 0: (s + t) / (1 - s × t) with t = tan 0.1° (R89). -/
def reachSlope (s : F32) : F32 :=
  fratio ((fixMag s * 2 ^ 107 + tanTenthFix : Nat) * ((2 ^ 256 : Nat) : Int))
    (2 ^ 512 - fixMag s * 2 ^ 107 * tanTenthFix)

/-- Sum of the arctangent series of y = x², terms x^(2k+1) / (2k + 1), in units of 2^-256. -/
def atanSeries (y : Nat) : Nat → Nat → Nat → Bool → Int → Int
  | 0, _, _, _, s => s
  | n + 1, k, t, neg, s =>
    atanSeries y n (k + 2) (t * y / 2 ^ 256) (!neg) (s + if neg then -((t / k : Nat) : Int) else ((t / k : Nat) : Int))

/-- Halve the angle `n` times: x becomes x / (1 + sqrt(1 + x²)), in units of 2^-256. -/
def halveTan : Nat → Nat → Nat
  | 0, x => x
  | n + 1, x => halveTan n (x * 2 ^ 256 / (2 ^ 256 + isqrt (2 ^ 512 + x * x)))

/-- atan s + 0.1°, in degrees, rounded to binary32 (R89). -/
def reachDegrees (s : F32) : F32 :=
  let x := halveTan 4 (fixMag s * 2 ^ 107)
  let a := (16 * atanSeries (x * x / 2 ^ 256) 48 1 x false 0).toNat
  -- a × 180 / π + 0.1, with π = piFix / 2^400
  fratio (((a * 1800 * 2 ^ 144 + piFix : Nat)) : Int) (10 * piFix)

/-! ### The ST 2084 curve -/

/-- Sum of z^(2k+1) / (2k + 1) with z² given, in units of 2^-256. -/
def atanhSeries (z2 : Nat) : Nat → Nat → Nat → Nat → Nat
  | 0, _, _, s => s
  | n + 1, k, t, s => atanhSeries z2 n (k + 2) (t * z2 / 2 ^ 256) (s + t / k)

/-- ln (num / den) in units of 2^-256. -/
def lnFix (num den : Nat) : Int :=
  let e := floorLog2 num den
  let n := if 0 ≤ e then num else num * 2 ^ (-e).toNat
  let d := if 0 ≤ e then den * 2 ^ e.toNat else den
  let z := (n - d) * 2 ^ 256 / (n + d)
  ((2 * atanhSeries (z * z / 2 ^ 256) 90 1 z 0 : Nat) : Int) + e * (ln2Fix : Int)

/-- Sum of the exponential series, in units of 2^-256. -/
def expSeries (r : Nat) : Nat → Nat → Nat → Nat → Nat
  | 0, _, _, s => s
  | n + 1, k, t, s => expSeries r n (k + 1) (t * r / 2 ^ 256 / k) (s + t)

/-- exp x of x in units of 2^-256, as a numerator over 2^256 and a power of two. -/
def expFix (x : Int) : Nat × Int :=
  let q := x / (ln2Fix : Int)
  (expSeries (x - q * (ln2Fix : Int)).toNat 70 1 (2 ^ 256) 0, q)

/-- (num / den) ^ (a / b) in units of 2^-200, for a positive base. -/
def powFix (num den a b : Nat) : Nat :=
  let r := expFix (lnFix num den * (a : Int) / (b : Int))
  if 0 ≤ r.2 then r.1 * 2 ^ r.2.toNat / 2 ^ 56 else r.1 / 2 ^ (56 + (-r.2).toNat)

/-- T[k] of R215: the ST 2084 EOTF at k / 4096, in cd/m² (log entry 11: its constants come from the standard). -/
def pqTable (k : Nat) : F32 :=
  if k = 0 then 0 else
    let y := powFix k 4096 32 2523
    let one := 2 ^ 200
    let num := 128 * y - 107 * one
    let den := 2413 * one - 2392 * y
    if 128 * y ≤ 107 * one then 0 else fratio ((10000 * powFix num den 8192 1305 : Nat) : Int) (2 ^ 200)

end Sys2Proof.Machine
end

