-- ==== Sys2Proof/Config.lean ====
section
/-! DEFINITION. What an implementation or a key fixes, and the free values: constants without a body, so that no
proof can see what they are. Each has a row in the assumption log. -/

namespace Sys2Proof

/-- A value that the spec leaves open, one for each count of `State.freeCount` (log entry 5). -/
opaque Config.freeWord : Nat → BitVec 32
/-- An open byte (log entry 5). -/
opaque Config.freeByte : Nat → BitVec 8
/-- An open instant: when a command without a stamp operand happens (log entry 6). -/
opaque Config.freeStamp : Nat → Int
/-- A random byte that the block draws: nonces, DEVICE_RANDOM (log entry 7). -/
opaque Config.randomByte : Nat → BitVec 8

/-- SHA3-512 (FIPS 202), as R519 and R521 use it (log entry 8). -/
opaque Config.sha3 : List Byte → BitVec 512
/-- SHAKE256 of the first argument, the second many bytes (R507, log entry 8). -/
opaque Config.shake256 : List Byte → Nat → List Byte
/-- The ML-KEM-1024 ciphertext and the shared secret made for an encapsulation key with given randomness (R507,
log entry 8). -/
opaque Config.mlkemEncaps : List Byte → List Byte → List Byte × List Byte
/-- The ML-DSA-87 signature of the DAK over bytes (R507, R522, log entry 8). -/
opaque Config.dakSign : List Byte → List Byte
/-- The signature that stands for the DAK's and the DSK's where the life cycle gives test keys only or withholds them
(Table 18.1, log entry 39). -/
opaque Config.testSign : List Byte → List Byte
/-- The ML-DSA-87 signature of the DSK over bytes (R513, R455, log entry 8). -/
opaque Config.dskSign : List Byte → List Byte
/-- The device certificate chain (R507, log entry 8). -/
opaque Config.dakChain : List Byte
/-- SHA3-512 of the DSK public key, as KEY_ID holds it (Table 17.8, log entry 8). -/
opaque Config.dskKeyId : BitVec 512
/-- AES-256-GCM: key, nonce, additional data, plaintext to ciphertext and tag (R508, log entry 8). -/
opaque Config.gcmSeal : List Byte → List Byte → List Byte → List Byte → List Byte
/-- AES-256-GCM opening: none when the tag fails (R508, log entry 8). -/
opaque Config.gcmOpen : List Byte → List Byte → List Byte → List Byte → Option (List Byte)
/-- A client certificate chain verifies to the owner key (or to the Ploqua root, second argument true) and its
signature over the digest holds (R507, R517, log entry 8). -/
opaque Config.clientAuth : List Byte → Bool → List Byte → List Byte → Bool
/-- The chain and signature of a bundle's signed head verify under the Ploqua firmware key (R521, R524, log entry 8). -/
opaque Config.bundleSigOk : List Byte → Bool
/-- A signature over a configuration image verifies under the key that KEY_ID names, beside the one that the device itself
makes: KEY_ID, signed bytes, signature (R517, log entry 8). -/
opaque Config.configSigOk : List Byte → List Byte → List Byte → Bool
/-- A signature over a calibration store's SEQ and digest verifies under the DSK, beside the one that the device itself
makes: signed bytes, signature (R455, log entry 8). -/
opaque Config.storeSigOk : List Byte → List Byte → Bool
/-- A life-cycle token's signature verifies: signer (0 manufacturing, 1 provisioning, 2 return, 3 owner), signed
bytes, signature (R516, Table 18.2, log entry 8). -/
opaque Config.tokenSigOk : Nat → List Byte → List Byte → Bool
/-- A quote's signature and chain verify to the Ploqua root: body, chain (R523, log entry 8). -/
opaque Config.quoteSigOk : List Byte → List Byte → Bool
/-- The digest by which M14 is extended for a code (Table 18.4 says 'by code'; log entry 9). -/
opaque Config.codeDigest : Nat → BitVec 512

/-- The dither mask of Table 7.4 is given by the data file of the manual, which spec/ does not hold (log entry 10). -/
opaque Config.ditherMask : Nat → Nat → Nat → Nat
/-- A texel byte that no update has written, by page version and byte of the page (R76, log entry 5). -/
opaque Config.texelByte : Nat → Nat → BitVec 8
/-- ⌊x⌋ of an x that is not a number, where a relief trace reaches one (R157, log entry 5). -/
opaque Config.nanFloor : Int
/-- A number that a metrology frame leaves open, by count and two indexes: a defect whose neighbour was not received, the
mean of an empty zone, a test field beyond 16 bits, an unused spot record (R436, R443, R448, log entry 5). -/
opaque Config.openSample : Nat → Nat → Nat → Nat
/-- A byte that a reader without a rule for poison takes from a poisoned line, by count and address (R462, log entry 5). -/
opaque Config.poisonByte : Nat → Nat → BitVec 8
/-- The code of a slate ray: triple, x, y, h, v, colour; the spec names no latched colour values for the slate fill (R253,
log entry 18). -/
opaque Config.slateCode : Nat × Nat × Nat → Nat → Nat → Nat → Nat → Nat → Nat
/-- The trim residual of a lane, line and code position where the store's frame does not yield it (R455, log entry 19). -/
opaque Config.trimResidual : List Byte → Nat → Nat → Nat → Int
/-- Where the symbol boundaries of a drive lane lie, by count and lane (R292, log entry 5). -/
opaque Config.symbolPhase : Nat → Nat → Nat
/-- The hash of three bytes, by which the compressor chains positions (R103, log entry 12). -/
opaque Config.chainHash : List Byte → Nat
/-- Where the compressor ends a block of at most 128 KiB, from the bytes that follow (R104, log entry 12). -/
opaque Config.blockCut : List Byte → Nat
/-- The Huffman code lengths that the compressor makes for counts of symbols, up to a longest length (R104, log
entry 12). -/
opaque Config.codeLengths : Nat → List Nat → List Nat
/-- How the compressor spells code lengths in symbols of the code-length code (R104, log entry 12). -/
opaque Config.lengthRuns : List Nat → List (Nat × Nat)
/-- Whether the compressor takes the fixed-Huffman block of two equally short coded ones (R104, log entry 12). -/
opaque Config.preferFixed : List Byte → Bool

end Sys2Proof
end

