-- ==== Sys2Proof/Machine/RegNames.lean ====
section
/-! DEFINITION. The names of the registers and fields of Table 20.2: `R.NAME` is a window offset, `F.NAME_FIELD` a
field of it. An indexed register takes its index or indexes. -/

namespace Sys2Proof.Machine

/-- A field of the register at a window offset. -/
structure Fld where
  off : Nat
  hi : Nat
  lo : Nat
  deriving DecidableEq, Repr

def R.CPX_DEVICE_ID : Nat := 0x0
def F.CPX_DEVICE_ID_PART_CODE : Fld := ⟨R.CPX_DEVICE_ID, 31, 16⟩
def F.CPX_DEVICE_ID_STEPPING : Fld := ⟨R.CPX_DEVICE_ID, 15, 12⟩
def F.CPX_DEVICE_ID_METAL : Fld := ⟨R.CPX_DEVICE_ID, 11, 8⟩
def F.CPX_DEVICE_ID_PACKAGE : Fld := ⟨R.CPX_DEVICE_ID, 7, 0⟩
def R.CPX_RESET : Nat := 0x4
def F.CPX_RESET_KIND : Fld := ⟨R.CPX_RESET, 1, 0⟩
def F.CPX_RESET_KEY : Fld := ⟨R.CPX_RESET, 31, 16⟩
def R.CPX_RESET_CAUSE : Nat := 0x8
def F.CPX_RESET_CAUSE_CAUSE : Fld := ⟨R.CPX_RESET_CAUSE, 7, 0⟩
def R.CPX_START : Nat := 0xC
def F.CPX_START_STEP : Fld := ⟨R.CPX_START, 3, 0⟩
def F.CPX_START_FAILED : Fld := ⟨R.CPX_START, 8, 8⟩
def F.CPX_START_BIST : Fld := ⟨R.CPX_START, 9, 9⟩
def F.CPX_START_STORE : Fld := ⟨R.CPX_START, 10, 10⟩
def R.CPX_BUS_ERR : Nat := 0x10
def F.CPX_BUS_ERR_OFFSET : Fld := ⟨R.CPX_BUS_ERR, 27, 0⟩
def R.CPX_BUS_ERR_COUNT : Nat := 0x14
def F.CPX_BUS_ERR_COUNT_COUNT : Fld := ⟨R.CPX_BUS_ERR_COUNT, 15, 0⟩
def R.CPX_WDOG : Nat := 0x18
def F.CPX_WDOG_AC_MS : Fld := ⟨R.CPX_WDOG, 15, 0⟩
def F.CPX_WDOG_HK_MS : Fld := ⟨R.CPX_WDOG, 31, 16⟩
def R.CPX_FAULT_RESTART : Nat := 0x1C
def F.CPX_FAULT_RESTART_SEC : Fld := ⟨R.CPX_FAULT_RESTART, 11, 0⟩
def F.CPX_FAULT_RESTART_LOCK : Fld := ⟨R.CPX_FAULT_RESTART, 16, 16⟩
def R.CPX_EV_RAISE : Nat := 0x20
def F.CPX_EV_RAISE_EVENT : Fld := ⟨R.CPX_EV_RAISE, 9, 0⟩
def R.CPX_START_MS (i : Nat) : Nat := 0x44 + 0x4 * i
def F.CPX_START_MS_MS (i : Nat) : Fld := ⟨(R.CPX_START_MS i), 15, 0⟩
def R.CPX_EV_ROUTE (i : Nat) : Nat := 0x1000 + 0x4 * i
def F.CPX_EV_ROUTE_CORES (i : Nat) : Fld := ⟨(R.CPX_EV_ROUTE i), 11, 0⟩
def F.CPX_EV_ROUTE_PMP (i : Nat) : Fld := ⟨(R.CPX_EV_ROUTE i), 12, 12⟩
def R.CPX_EV_PEND (i j : Nat) : Nat := 0x2000 + 0x80 * i + 0x4 * j
def F.CPX_EV_PEND_PEND (i j : Nat) : Fld := ⟨(R.CPX_EV_PEND i j), 31, 0⟩
def R.CPX_EV_EN (i j : Nat) : Nat := 0x3000 + 0x80 * i + 0x4 * j
def F.CPX_EV_EN_EN (i j : Nat) : Fld := ⟨(R.CPX_EV_EN i j), 31, 0⟩
def R.CPX_EV_CLAIM (i : Nat) : Nat := 0x3800 + 0x4 * i
def F.CPX_EV_CLAIM_EVENT (i : Nat) : Fld := ⟨(R.CPX_EV_CLAIM i), 9, 0⟩
def F.CPX_EV_CLAIM_NONE (i : Nat) : Fld := ⟨(R.CPX_EV_CLAIM i), 31, 31⟩
def R.SEC_LC : Nat := 0x100000
def F.SEC_LC_STATE : Fld := ⟨R.SEC_LC, 2, 0⟩
def R.SEC_VERSION : Nat := 0x100004
def F.SEC_VERSION_VERSION : Fld := ⟨R.SEC_VERSION, 31, 0⟩
def R.SEC_VERSION_INFO : Nat := 0x100008
def F.SEC_VERSION_INFO_LEFT : Fld := ⟨R.SEC_VERSION_INFO, 7, 0⟩
def R.SEC_EXT_GO : Nat := 0x10000C
def F.SEC_EXT_GO_REG : Fld := ⟨R.SEC_EXT_GO, 1, 0⟩
def F.SEC_EXT_GO_GO : Fld := ⟨R.SEC_EXT_GO, 8, 8⟩
def R.SEC_UID (i : Nat) : Nat := 0x100010 + 0x4 * i
def F.SEC_UID_UID (i : Nat) : Fld := ⟨(R.SEC_UID i), 31, 0⟩
def R.SEC_BOOT : Nat := 0x100020
def F.SEC_BOOT_ACTIVE : Fld := ⟨R.SEC_BOOT, 0, 0⟩
def F.SEC_BOOT_STATE : Fld := ⟨R.SEC_BOOT, 1, 1⟩
def F.SEC_BOOT_ATTEMPTS : Fld := ⟨R.SEC_BOOT, 9, 8⟩
def F.SEC_BOOT_HALT : Fld := ⟨R.SEC_BOOT, 16, 16⟩
def R.SEC_GUARD : Nat := 0x100024
def F.SEC_GUARD_ON_AIR : Fld := ⟨R.SEC_GUARD, 0, 0⟩
def F.SEC_GUARD_UPDATE_LOCK : Fld := ⟨R.SEC_GUARD, 1, 1⟩
def F.SEC_GUARD_POWER : Fld := ⟨R.SEC_GUARD, 2, 2⟩
def F.SEC_GUARD_THERMAL : Fld := ⟨R.SEC_GUARD, 3, 3⟩
def R.SEC_UPD_STATE : Nat := 0x100028
def F.SEC_UPD_STATE_STATE : Fld := ⟨R.SEC_UPD_STATE, 3, 0⟩
def F.SEC_UPD_STATE_ERR : Fld := ⟨R.SEC_UPD_STATE, 31, 16⟩
def R.SEC_UPD_ID : Nat := 0x10002C
def F.SEC_UPD_ID_ID : Fld := ⟨R.SEC_UPD_ID, 31, 0⟩
def R.SEC_UPD_BLOCKS : Nat := 0x100030
def F.SEC_UPD_BLOCKS_VERIFIED : Fld := ⟨R.SEC_UPD_BLOCKS, 12, 0⟩
def F.SEC_UPD_BLOCKS_BLOCK_ERR : Fld := ⟨R.SEC_UPD_BLOCKS, 31, 16⟩
def R.SEC_HEALTH : Nat := 0x100034
def F.SEC_HEALTH_COMMITS : Fld := ⟨R.SEC_HEALTH, 9, 0⟩
def F.SEC_HEALTH_SECONDS : Fld := ⟨R.SEC_HEALTH, 22, 16⟩
def R.SEC_ATTEST_FAIL : Nat := 0x100038
def F.SEC_ATTEST_FAIL_COUNT : Fld := ⟨R.SEC_ATTEST_FAIL, 15, 0⟩
def F.SEC_ATTEST_FAIL_CODE : Fld := ⟨R.SEC_ATTEST_FAIL, 23, 16⟩
def R.SEC_ATTEST_NODE : Nat := 0x10003C
def F.SEC_ATTEST_NODE_ADDR : Fld := ⟨R.SEC_ATTEST_NODE, 15, 0⟩
def R.SEC_EXT_DATA (i : Nat) : Nat := 0x100080 + 0x4 * i
def F.SEC_EXT_DATA_DATA (i : Nat) : Fld := ⟨(R.SEC_EXT_DATA i), 31, 0⟩
def R.SEC_M (i j : Nat) : Nat := 0x100100 + 0x40 * i + 0x4 * j
def F.SEC_M_M (i j : Nat) : Fld := ⟨(R.SEC_M i j), 31, 0⟩
def R.HKP_CTRL : Nat := 0x200000
def F.HKP_CTRL_BIST_EN : Fld := ⟨R.HKP_CTRL, 0, 0⟩
def F.HKP_CTRL_LOCK : Fld := ⟨R.HKP_CTRL, 8, 8⟩
def R.HKP_TEMP : Nat := 0x200004
def F.HKP_TEMP_T : Fld := ⟨R.HKP_TEMP, 15, 0⟩
def F.HKP_TEMP_BAND : Fld := ⟨R.HKP_TEMP, 17, 16⟩
def F.HKP_TEMP_VALID : Fld := ⟨R.HKP_TEMP, 31, 31⟩
def R.HKP_TEMP_MAX : Nat := 0x200008
def F.HKP_TEMP_MAX_T : Fld := ⟨R.HKP_TEMP_MAX, 15, 0⟩
def R.HKP_ROUND : Nat := 0x20000C
def F.HKP_ROUND_COUNT : Fld := ⟨R.HKP_ROUND, 31, 0⟩
def R.HKP_SUPPLY : Nat := 0x200010
def F.HKP_SUPPLY_WARN : Fld := ⟨R.HKP_SUPPLY, 9, 1⟩
def F.HKP_SUPPLY_OUT : Fld := ⟨R.HKP_SUPPLY, 25, 17⟩
def R.HKP_FAULT : Nat := 0x200014
def F.HKP_FAULT_CODE : Fld := ⟨R.HKP_FAULT, 7, 0⟩
def F.HKP_FAULT_BLOCK : Fld := ⟨R.HKP_FAULT, 15, 8⟩
def F.HKP_FAULT_LATER : Fld := ⟨R.HKP_FAULT, 23, 16⟩
def F.HKP_FAULT_FAMILY : Fld := ⟨R.HKP_FAULT, 27, 24⟩
def F.HKP_FAULT_VALID : Fld := ⟨R.HKP_FAULT, 31, 31⟩
def R.HKP_FAULT_FSN : Nat := 0x200018
def F.HKP_FAULT_FSN_FSN : Fld := ⟨R.HKP_FAULT_FSN, 31, 0⟩
def R.HKP_FAULT_DETAIL : Nat := 0x20001C
def F.HKP_FAULT_DETAIL_DETAIL : Fld := ⟨R.HKP_FAULT_DETAIL, 31, 0⟩
def R.HKP_BIST : Nat := 0x200020
def F.HKP_BIST_RECORD : Fld := ⟨R.HKP_BIST, 1, 0⟩
def F.HKP_BIST_RAN_AT_START : Fld := ⟨R.HKP_BIST, 4, 4⟩
def F.HKP_BIST_ITEM : Fld := ⟨R.HKP_BIST, 11, 8⟩
def F.HKP_BIST_DETAIL : Fld := ⟨R.HKP_BIST, 31, 16⟩
def R.HKP_CH (i : Nat) : Nat := 0x200040 + 0x4 * i
def F.HKP_CH_VALUE (i : Nat) : Fld := ⟨(R.HKP_CH i), 15, 0⟩
def R.NVM_STATUS : Nat := 0x300000
def F.NVM_STATUS_BAD_BLOCKS : Fld := ⟨R.NVM_STATUS, 15, 0⟩
def F.NVM_STATUS_OCTAL : Fld := ⟨R.NVM_STATUS, 16, 16⟩
def R.NVM_ECC : Nat := 0x300004
def F.NVM_ECC_CORR : Fld := ⟨R.NVM_ECC, 15, 0⟩
def F.NVM_ECC_UNCORR : Fld := ⟨R.NVM_ECC, 31, 16⟩
def R.MGT_CTRL : Nat := 0x400000
def F.MGT_CTRL_ENABLE : Fld := ⟨R.MGT_CTRL, 0, 0⟩
def F.MGT_CTRL_MODE : Fld := ⟨R.MGT_CTRL, 2, 1⟩
def F.MGT_CTRL_LOOP : Fld := ⟨R.MGT_CTRL, 5, 4⟩
def F.MGT_CTRL_LOCK : Fld := ⟨R.MGT_CTRL, 8, 8⟩
def R.MGT_STATUS : Nat := 0x400004
def F.MGT_STATUS_LINK : Fld := ⟨R.MGT_STATUS, 0, 0⟩
def F.MGT_STATUS_DHCP_BOUND : Fld := ⟨R.MGT_STATUS, 1, 1⟩
def F.MGT_STATUS_SESSIONS : Fld := ⟨R.MGT_STATUS, 11, 8⟩
def R.MGT_MAC_LO : Nat := 0x400008
def F.MGT_MAC_LO_MAC : Fld := ⟨R.MGT_MAC_LO, 31, 0⟩
def R.MGT_MAC_HI : Nat := 0x40000C
def F.MGT_MAC_HI_MAC : Fld := ⟨R.MGT_MAC_HI, 15, 0⟩
def R.MGT_IP : Nat := 0x400010
def F.MGT_IP_ADDR : Fld := ⟨R.MGT_IP, 31, 0⟩
def R.MGT_NETMASK : Nat := 0x400014
def F.MGT_NETMASK_ADDR : Fld := ⟨R.MGT_NETMASK, 31, 0⟩
def R.MGT_GATEWAY : Nat := 0x400018
def F.MGT_GATEWAY_ADDR : Fld := ⟨R.MGT_GATEWAY, 31, 0⟩
def R.MGT_IPCFG : Nat := 0x40001C
def F.MGT_IPCFG_DHCP : Fld := ⟨R.MGT_IPCFG, 0, 0⟩
def F.MGT_IPCFG_PORT : Fld := ⟨R.MGT_IPCFG, 31, 16⟩
def R.MGT_RX_DROP : Nat := 0x400020
def F.MGT_RX_DROP_COUNT : Fld := ⟨R.MGT_RX_DROP, 31, 0⟩
def R.FAB_CTRL : Nat := 0x500000
def F.FAB_CTRL_ENABLE : Fld := ⟨R.FAB_CTRL, 0, 0⟩
def F.FAB_CTRL_LOCK : Fld := ⟨R.FAB_CTRL, 1, 1⟩
def R.FAB_ROLE : Nat := 0x500004
def F.FAB_ROLE_ANCHOR : Fld := ⟨R.FAB_ROLE, 0, 0⟩
def F.FAB_ROLE_PORT_EN : Fld := ⟨R.FAB_ROLE, 13, 8⟩
def R.FAB_EXPECT : Nat := 0x500008
def F.FAB_EXPECT_ADDR : Fld := ⟨R.FAB_EXPECT, 15, 0⟩
def R.FAB_GUEST_ID : Nat := 0x50000C
def F.FAB_GUEST_ID_X1_ID : Fld := ⟨R.FAB_GUEST_ID, 9, 0⟩
def F.FAB_GUEST_ID_X2_ID : Fld := ⟨R.FAB_GUEST_ID, 25, 16⟩
def R.FAB_TIMING : Nat := 0x500010
def F.FAB_TIMING_DOWN_REPORT : Fld := ⟨R.FAB_TIMING, 15, 0⟩
def F.FAB_TIMING_ABSENT : Fld := ⟨R.FAB_TIMING, 31, 16⟩
def R.FAB_COORD : Nat := 0x500014
def F.FAB_COORD_ADDR : Fld := ⟨R.FAB_COORD, 14, 0⟩
def F.FAB_COORD_VALID : Fld := ⟨R.FAB_COORD, 31, 31⟩
def R.FAB_PORT_STATE : Nat := 0x500018
def F.FAB_PORT_STATE_P0 : Fld := ⟨R.FAB_PORT_STATE, 3, 0⟩
def F.FAB_PORT_STATE_P1 : Fld := ⟨R.FAB_PORT_STATE, 7, 4⟩
def F.FAB_PORT_STATE_P2 : Fld := ⟨R.FAB_PORT_STATE, 11, 8⟩
def F.FAB_PORT_STATE_P3 : Fld := ⟨R.FAB_PORT_STATE, 15, 12⟩
def F.FAB_PORT_STATE_P4 : Fld := ⟨R.FAB_PORT_STATE, 19, 16⟩
def F.FAB_PORT_STATE_P5 : Fld := ⟨R.FAB_PORT_STATE, 23, 20⟩
def R.FAB_LINK_TABLE : Nat := 0x50001C
def F.FAB_LINK_TABLE_COUNT : Fld := ⟨R.FAB_LINK_TABLE, 6, 0⟩
def F.FAB_LINK_TABLE_FULL : Fld := ⟨R.FAB_LINK_TABLE, 8, 8⟩
def R.FAB_GUEST_COUNT : Nat := 0x500020
def F.FAB_GUEST_COUNT_COUNT : Fld := ⟨R.FAB_GUEST_COUNT, 10, 0⟩
def R.FAB_FAULT : Nat := 0x500024
def F.FAB_FAULT_CODE : Fld := ⟨R.FAB_FAULT, 7, 0⟩
def R.FAB_DISCARD : Nat := 0x500028
def F.FAB_DISCARD_ROUTE : Fld := ⟨R.FAB_DISCARD, 15, 0⟩
def F.FAB_DISCARD_HEADER : Fld := ⟨R.FAB_DISCARD, 31, 16⟩
def R.FAB_REORDER : Nat := 0x50002C
def F.FAB_REORDER_COUNT : Fld := ⟨R.FAB_REORDER, 15, 0⟩
def R.FAB_FIRST_DISCARD : Nat := 0x500030
def F.FAB_FIRST_DISCARD_CODE : Fld := ⟨R.FAB_FIRST_DISCARD, 7, 0⟩
def F.FAB_FIRST_DISCARD_SRC : Fld := ⟨R.FAB_FIRST_DISCARD, 31, 16⟩
def R.FAB_P_CRC (i : Nat) : Nat := 0x500100 + 0x20 * i
def F.FAB_P_CRC_CRC (i : Nat) : Fld := ⟨(R.FAB_P_CRC i), 15, 0⟩
def F.FAB_P_CRC_STOMP (i : Nat) : Fld := ⟨(R.FAB_P_CRC i), 31, 16⟩
def R.FAB_P_REPLAY (i : Nat) : Nat := 0x500104 + 0x20 * i
def F.FAB_P_REPLAY_REPLAY (i : Nat) : Fld := ⟨(R.FAB_P_REPLAY i), 15, 0⟩
def F.FAB_P_REPLAY_TIMEOUT (i : Nat) : Fld := ⟨(R.FAB_P_REPLAY i), 31, 16⟩
def R.FAB_P_CREDIT_STALL (i : Nat) : Nat := 0x500108 + 0x20 * i
def F.FAB_P_CREDIT_STALL_CYCLES (i : Nat) : Fld := ⟨(R.FAB_P_CREDIT_STALL i), 31, 0⟩
def R.FAB_P_TX (i : Nat) : Nat := 0x50010C + 0x20 * i
def F.FAB_P_TX_COUNT (i : Nat) : Fld := ⟨(R.FAB_P_TX i), 31, 0⟩
def R.FAB_P_RX (i : Nat) : Nat := 0x500110 + 0x20 * i
def F.FAB_P_RX_COUNT (i : Nat) : Fld := ⟨(R.FAB_P_RX i), 31, 0⟩
def R.TIM_CTRL : Nat := 0x600000
def F.TIM_CTRL_ENABLE : Fld := ⟨R.TIM_CTRL, 0, 0⟩
def F.TIM_CTRL_PTP_EN : Fld := ⟨R.TIM_CTRL, 1, 1⟩
def F.TIM_CTRL_PREF : Fld := ⟨R.TIM_CTRL, 2, 2⟩
def F.TIM_CTRL_LOCK : Fld := ⟨R.TIM_CTRL, 8, 8⟩
def R.TIM_ROOT : Nat := 0x600004
def F.TIM_ROOT_ROOT_A : Fld := ⟨R.TIM_ROOT, 15, 0⟩
def F.TIM_ROOT_ROOT_B : Fld := ⟨R.TIM_ROOT, 31, 16⟩
def R.TIM_STATUS : Nat := 0x600008
def F.TIM_STATUS_A_STATE : Fld := ⟨R.TIM_STATUS, 2, 0⟩
def F.TIM_STATUS_B_STATE : Fld := ⟨R.TIM_STATUS, 6, 4⟩
def F.TIM_STATUS_FOLLOW : Fld := ⟨R.TIM_STATUS, 8, 8⟩
def F.TIM_STATUS_HOUSE : Fld := ⟨R.TIM_STATUS, 9, 9⟩
def F.TIM_STATUS_A_DEPTH : Fld := ⟨R.TIM_STATUS, 22, 16⟩
def F.TIM_STATUS_B_DEPTH : Fld := ⟨R.TIM_STATUS, 30, 24⟩
def R.TIM_PARENT : Nat := 0x60000C
def F.TIM_PARENT_A_PORT : Fld := ⟨R.TIM_PARENT, 2, 0⟩
def F.TIM_PARENT_B_PORT : Fld := ⟨R.TIM_PARENT, 6, 4⟩
def F.TIM_PARENT_A_CHILD : Fld := ⟨R.TIM_PARENT, 11, 8⟩
def F.TIM_PARENT_B_CHILD : Fld := ⟨R.TIM_PARENT, 15, 12⟩
def R.TIM_NOW_NS : Nat := 0x600010
def F.TIM_NOW_NS_NS : Fld := ⟨R.TIM_NOW_NS, 31, 0⟩
def R.TIM_NOW_FRAC : Nat := 0x600014
def F.TIM_NOW_FRAC_FRAC : Fld := ⟨R.TIM_NOW_FRAC, 7, 0⟩
def F.TIM_NOW_FRAC_LOCKED : Fld := ⟨R.TIM_NOW_FRAC, 8, 8⟩
def R.TIM_NOW_LOCAL : Nat := 0x600018
def F.TIM_NOW_LOCAL_NS : Fld := ⟨R.TIM_NOW_LOCAL, 31, 0⟩
def R.TIM_THETA_A : Nat := 0x60001C
def F.TIM_THETA_A_THETA : Fld := ⟨R.TIM_THETA_A, 31, 0⟩
def R.TIM_THETA_B : Nat := 0x600020
def F.TIM_THETA_B_THETA : Fld := ⟨R.TIM_THETA_B, 31, 0⟩
def R.TIM_HOUSE_OFFSET : Nat := 0x600024
def F.TIM_HOUSE_OFFSET_NS : Fld := ⟨R.TIM_HOUSE_OFFSET, 31, 0⟩
def R.TIM_HOUSE_SEC_LO : Nat := 0x600028
def F.TIM_HOUSE_SEC_LO_SEC : Fld := ⟨R.TIM_HOUSE_SEC_LO, 31, 0⟩
def R.TIM_HOUSE_SEC_HI : Nat := 0x60002C
def F.TIM_HOUSE_SEC_HI_SEC : Fld := ⟨R.TIM_HOUSE_SEC_HI, 15, 0⟩
def R.TIM_PTP_CFG : Nat := 0x600030
def F.TIM_PTP_CFG_DOMAIN : Fld := ⟨R.TIM_PTP_CFG, 7, 0⟩
def F.TIM_PTP_CFG_ANN_TIMEOUT : Fld := ⟨R.TIM_PTP_CFG, 11, 8⟩
def R.TIM_PTP_PHY : Nat := 0x600034
def F.TIM_PTP_PHY_TX : Fld := ⟨R.TIM_PTP_PHY, 15, 0⟩
def F.TIM_PTP_PHY_RX : Fld := ⟨R.TIM_PTP_PHY, 31, 16⟩
def R.TIM_ASYM (i : Nat) : Nat := 0x600040 + 0x4 * i
def F.TIM_ASYM_ADJ (i : Nat) : Fld := ⟨(R.TIM_ASYM i), 11, 0⟩
def F.TIM_ASYM_MEAS (i : Nat) : Fld := ⟨(R.TIM_ASYM i), 27, 16⟩
def F.TIM_ASYM_VALID (i : Nat) : Fld := ⟨(R.TIM_ASYM i), 31, 31⟩
def R.TIM_DELAY (i : Nat) : Nat := 0x600050 + 0x4 * i
def F.TIM_DELAY_D (i : Nat) : Fld := ⟨(R.TIM_DELAY i), 23, 0⟩
def F.TIM_DELAY_VALID (i : Nat) : Fld := ⟨(R.TIM_DELAY i), 31, 31⟩
def R.TIM_CAP_CTRL (i : Nat) : Nat := 0x600100 + 0x20 * i
def F.TIM_CAP_CTRL_ENABLE (i : Nat) : Fld := ⟨(R.TIM_CAP_CTRL i), 0, 0⟩
def F.TIM_CAP_CTRL_EDGE (i : Nat) : Fld := ⟨(R.TIM_CAP_CTRL i), 2, 1⟩
def F.TIM_CAP_CTRL_ALWAYS (i : Nat) : Fld := ⟨(R.TIM_CAP_CTRL i), 3, 3⟩
def R.TIM_CAP_WSTART (i : Nat) : Nat := 0x600104 + 0x20 * i
def F.TIM_CAP_WSTART_NS (i : Nat) : Fld := ⟨(R.TIM_CAP_WSTART i), 31, 0⟩
def R.TIM_CAP_WEND (i : Nat) : Nat := 0x600108 + 0x20 * i
def F.TIM_CAP_WEND_NS (i : Nat) : Fld := ⟨(R.TIM_CAP_WEND i), 31, 0⟩
def R.TIM_CAP_NS (i : Nat) : Nat := 0x60010C + 0x20 * i
def F.TIM_CAP_NS_NS (i : Nat) : Fld := ⟨(R.TIM_CAP_NS i), 31, 0⟩
def R.TIM_CAP_INFO (i : Nat) : Nat := 0x600110 + 0x20 * i
def F.TIM_CAP_INFO_FRAC (i : Nat) : Fld := ⟨(R.TIM_CAP_INFO i), 7, 0⟩
def F.TIM_CAP_INFO_RISING (i : Nat) : Fld := ⟨(R.TIM_CAP_INFO i), 8, 8⟩
def F.TIM_CAP_INFO_DOMAIN (i : Nat) : Fld := ⟨(R.TIM_CAP_INFO i), 9, 9⟩
def F.TIM_CAP_INFO_VALID (i : Nat) : Fld := ⟨(R.TIM_CAP_INFO i), 10, 10⟩
def F.TIM_CAP_INFO_LEVEL (i : Nat) : Fld := ⟨(R.TIM_CAP_INFO i), 16, 12⟩
def F.TIM_CAP_INFO_MISSED (i : Nat) : Fld := ⟨(R.TIM_CAP_INFO i), 23, 20⟩
def F.TIM_CAP_INFO_OVF (i : Nat) : Fld := ⟨(R.TIM_CAP_INFO i), 24, 24⟩
def R.CMT_CTRL : Nat := 0x700000
def F.CMT_CTRL_ENABLE : Fld := ⟨R.CMT_CTRL, 0, 0⟩
def F.CMT_CTRL_LOCK : Fld := ⟨R.CMT_CTRL, 8, 8⟩
def R.CMT_STATE : Nat := 0x700004
def F.CMT_STATE_SCREEN : Fld := ⟨R.CMT_STATE, 1, 0⟩
def F.CMT_STATE_NODE : Fld := ⟨R.CMT_STATE, 5, 4⟩
def F.CMT_STATE_DECIDER : Fld := ⟨R.CMT_STATE, 8, 8⟩
def F.CMT_STATE_HOLD_COUNT : Fld := ⟨R.CMT_STATE, 25, 16⟩
def R.CMT_GEN : Nat := 0x700008
def F.CMT_GEN_GEN : Fld := ⟨R.CMT_GEN, 31, 0⟩
def R.CMT_VOTE_FSN : Nat := 0x70000C
def F.CMT_VOTE_FSN_FSN : Fld := ⟨R.CMT_VOTE_FSN, 31, 0⟩
def R.CMT_VOTE : Nat := 0x700010
def F.CMT_VOTE_NOT_READY : Fld := ⟨R.CMT_VOTE, 0, 0⟩
def F.CMT_VOTE_REASON : Fld := ⟨R.CMT_VOTE, 31, 16⟩
def R.CMT_DEC_FSN : Nat := 0x700014
def F.CMT_DEC_FSN_FSN : Fld := ⟨R.CMT_DEC_FSN, 31, 0⟩
def R.CMT_DEC : Nat := 0x700018
def F.CMT_DEC_OUTCOME : Fld := ⟨R.CMT_DEC, 1, 0⟩
def F.CMT_DEC_REASON : Fld := ⟨R.CMT_DEC, 31, 16⟩
def R.CMT_DEC_NODE : Nat := 0x70001C
def F.CMT_DEC_NODE_REASON_NODE : Fld := ⟨R.CMT_DEC_NODE, 15, 0⟩
def F.CMT_DEC_NODE_READY : Fld := ⟨R.CMT_DEC_NODE, 31, 16⟩
def R.CMT_FAULT : Nat := 0x700020
def F.CMT_FAULT_CODE : Fld := ⟨R.CMT_FAULT, 7, 0⟩
def R.CMT_NO_DECISION : Nat := 0x700024
def F.CMT_NO_DECISION_COUNT : Fld := ⟨R.CMT_NO_DECISION, 15, 0⟩
def R.CMT_LATE_AGG : Nat := 0x700028
def F.CMT_LATE_AGG_COUNT : Fld := ⟨R.CMT_LATE_AGG, 15, 0⟩
def R.CMT_SCREEN_CMD : Nat := 0x70002C
def F.CMT_SCREEN_CMD_CMD : Fld := ⟨R.CMT_SCREEN_CMD, 2, 0⟩
def R.CMT_T_SCENE : Nat := 0x700030
def F.CMT_T_SCENE_OFFSET : Fld := ⟨R.CMT_T_SCENE, 17, 0⟩
def R.CMT_T_AMEND : Nat := 0x700034
def F.CMT_T_AMEND_OFFSET : Fld := ⟨R.CMT_T_AMEND, 17, 0⟩
def R.CMT_T_VOTE : Nat := 0x700038
def F.CMT_T_VOTE_OFFSET : Fld := ⟨R.CMT_T_VOTE, 17, 0⟩
def R.CMT_T_COMMIT : Nat := 0x70003C
def F.CMT_T_COMMIT_OFFSET : Fld := ⟨R.CMT_T_COMMIT, 17, 0⟩
def R.CMT_T_LOCAL : Nat := 0x700040
def F.CMT_T_LOCAL_OFFSET : Fld := ⟨R.CMT_T_LOCAL, 17, 0⟩
def R.CMT_HOLD_LIMIT : Nat := 0x700044
def F.CMT_HOLD_LIMIT_LIMIT : Fld := ⟨R.CMT_HOLD_LIMIT, 9, 0⟩
def R.CMT_RATE : Nat := 0x700048
def F.CMT_RATE_RATE : Fld := ⟨R.CMT_RATE, 2, 0⟩
def F.CMT_RATE_ANCHOR_SRC : Fld := ⟨R.CMT_RATE, 8, 8⟩
def R.CMT_GENLOCK_OFS : Nat := 0x70004C
def F.CMT_GENLOCK_OFS_OFS : Fld := ⟨R.CMT_GENLOCK_OFS, 31, 0⟩
def R.CMT_ANCHOR_NS : Nat := 0x700050
def F.CMT_ANCHOR_NS_NS : Fld := ⟨R.CMT_ANCHOR_NS, 31, 0⟩
def R.CMT_ANCHOR_FSN : Nat := 0x700054
def F.CMT_ANCHOR_FSN_FSN : Fld := ⟨R.CMT_ANCHOR_FSN, 31, 0⟩
def R.CMT_ANCHOR_FRAC : Nat := 0x700058
def F.CMT_ANCHOR_FRAC_FRAC : Fld := ⟨R.CMT_ANCHOR_FRAC, 7, 0⟩
def R.CMT_ACT_FSN : Nat := 0x70005C
def F.CMT_ACT_FSN_FSN : Fld := ⟨R.CMT_ACT_FSN, 31, 0⟩
def R.CMT_ACT_ID : Nat := 0x700060
def F.CMT_ACT_ID_ID : Fld := ⟨R.CMT_ACT_ID, 31, 0⟩
def R.CMT_ACT_STATE : Nat := 0x700064
def F.CMT_ACT_STATE_ARMED : Fld := ⟨R.CMT_ACT_STATE, 0, 0⟩
def R.ING_STREAM : Nat := 0x800000
def F.ING_STREAM_ACCEPT : Fld := ⟨R.ING_STREAM, 16, 16⟩
def F.ING_STREAM_STREAM_ID : Fld := ⟨R.ING_STREAM, 15, 0⟩
def R.ING_SOURCE : Nat := 0x800004
def F.ING_SOURCE_SOURCE_ADDR : Fld := ⟨R.ING_SOURCE, 15, 0⟩
def R.ING_ERR_FSN : Nat := 0x800010
def F.ING_ERR_FSN_FSN : Fld := ⟨R.ING_ERR_FSN, 31, 0⟩
def R.ING_ERR_INFO : Nat := 0x800014
def F.ING_ERR_INFO_DETAIL : Fld := ⟨R.ING_ERR_INFO, 31, 16⟩
def F.ING_ERR_INFO_COUNT : Fld := ⟨R.ING_ERR_INFO, 15, 8⟩
def F.ING_ERR_INFO_CODE : Fld := ⟨R.ING_ERR_INFO, 7, 0⟩
def R.ING_FOREIGN_COUNT : Nat := 0x800018
def F.ING_FOREIGN_COUNT_STALE : Fld := ⟨R.ING_FOREIGN_COUNT, 31, 16⟩
def F.ING_FOREIGN_COUNT_FOREIGN : Fld := ⟨R.ING_FOREIGN_COUNT, 15, 0⟩
def R.ING_SPEC_CTRL : Nat := 0x800040
def F.ING_SPEC_CTRL_SPEC_ENABLE : Fld := ⟨R.ING_SPEC_CTRL, 0, 0⟩
def R.ING_EPOCH_C : Nat := 0x800044
def F.ING_EPOCH_C_FSN : Fld := ⟨R.ING_EPOCH_C, 31, 0⟩
def R.ING_EPOCH_P : Nat := 0x800048
def F.ING_EPOCH_P_FSN : Fld := ⟨R.ING_EPOCH_P, 31, 0⟩
def R.ING_EPOCH_S : Nat := 0x80004C
def F.ING_EPOCH_S_FSN : Fld := ⟨R.ING_EPOCH_S, 31, 0⟩
def R.ING_EPOCH_STATE : Nat := 0x800050
def F.ING_EPOCH_STATE_SLATE_DISPLAY : Fld := ⟨R.ING_EPOCH_STATE, 18, 18⟩
def F.ING_EPOCH_STATE_SLOT_WORK : Fld := ⟨R.ING_EPOCH_STATE, 17, 16⟩
def F.ING_EPOCH_STATE_SLOT_READY : Fld := ⟨R.ING_EPOCH_STATE, 15, 14⟩
def F.ING_EPOCH_STATE_SLOT_DISPLAY : Fld := ⟨R.ING_EPOCH_STATE, 13, 12⟩
def F.ING_EPOCH_STATE_C_VALID : Fld := ⟨R.ING_EPOCH_STATE, 8, 8⟩
def F.ING_EPOCH_STATE_S_STATE : Fld := ⟨R.ING_EPOCH_STATE, 7, 4⟩
def F.ING_EPOCH_STATE_P_STATE : Fld := ⟨R.ING_EPOCH_STATE, 3, 0⟩
def R.ING_ROLLBACK_FSN : Nat := 0x800054
def F.ING_ROLLBACK_FSN_FSN : Fld := ⟨R.ING_ROLLBACK_FSN, 31, 0⟩
def R.ING_ROLLBACK_COUNT : Nat := 0x800058
def F.ING_ROLLBACK_COUNT_COUNT : Fld := ⟨R.ING_ROLLBACK_COUNT, 15, 0⟩
def R.ING_RECLAIM : Nat := 0x80005C
def F.ING_RECLAIM_PAGES : Fld := ⟨R.ING_RECLAIM, 19, 0⟩
def R.ING_TEX_STORE : Nat := 0x800060
def F.ING_TEX_STORE_MIB : Fld := ⟨R.ING_TEX_STORE, 15, 0⟩
def R.THK_CTRL : Nat := 0x900000
def F.THK_CTRL_ABORT3 : Fld := ⟨R.THK_CTRL, 7, 7⟩
def F.THK_CTRL_ABORT2 : Fld := ⟨R.THK_CTRL, 6, 6⟩
def F.THK_CTRL_ABORT1 : Fld := ⟨R.THK_CTRL, 5, 5⟩
def F.THK_CTRL_ENABLE : Fld := ⟨R.THK_CTRL, 0, 0⟩
def R.THK_STATUS : Nat := 0x900004
def F.THK_STATUS_CCH_BUSY : Fld := ⟨R.THK_STATUS, 4, 4⟩
def F.THK_STATUS_DCH_BUSY : Fld := ⟨R.THK_STATUS, 3, 0⟩
def R.THK_QBASE_LO (i : Nat) : Nat := 0x900100 + 0x100 * i
def F.THK_QBASE_LO_ADDR_LO (i : Nat) : Fld := ⟨(R.THK_QBASE_LO i), 31, 6⟩
def R.THK_QBASE_HI (i : Nat) : Nat := 0x900104 + 0x100 * i
def F.THK_QBASE_HI_ADDR_HI (i : Nat) : Fld := ⟨(R.THK_QBASE_HI i), 5, 0⟩
def R.THK_QCFG (i : Nat) : Nat := 0x900108 + 0x100 * i
def F.THK_QCFG_QENABLE (i : Nat) : Fld := ⟨(R.THK_QCFG i), 4, 4⟩
def F.THK_QCFG_SIZE_LOG (i : Nat) : Fld := ⟨(R.THK_QCFG i), 3, 0⟩
def R.THK_QTAIL (i : Nat) : Nat := 0x90010C + 0x100 * i
def F.THK_QTAIL_TAIL (i : Nat) : Fld := ⟨(R.THK_QTAIL i), 12, 0⟩
def R.THK_QHEAD (i : Nat) : Nat := 0x900110 + 0x100 * i
def F.THK_QHEAD_HEAD (i : Nat) : Fld := ⟨(R.THK_QHEAD i), 12, 0⟩
def R.BIN_CTRL : Nat := 0xA00000
def F.BIN_CTRL_LOCK : Fld := ⟨R.BIN_CTRL, 1, 1⟩
def F.BIN_CTRL_ENABLE : Fld := ⟨R.BIN_CTRL, 0, 0⟩
def R.BIN_MARGIN : Nat := 0xA00004
def F.BIN_MARGIN_MARGIN : Fld := ⟨R.BIN_MARGIN, 31, 0⟩
def R.BIN_BOUNDS_LO : Nat := 0xA00008
def F.BIN_BOUNDS_LO_ADDR_LO : Fld := ⟨R.BIN_BOUNDS_LO, 31, 12⟩
def R.BIN_BOUNDS_HI : Nat := 0xA0000C
def F.BIN_BOUNDS_HI_ADDR_HI : Fld := ⟨R.BIN_BOUNDS_HI, 5, 0⟩
def R.BIN_OVF_FSN : Nat := 0xA00020
def F.BIN_OVF_FSN_FSN : Fld := ⟨R.BIN_OVF_FSN, 31, 0⟩
def R.BIN_OVF_INFO : Nat := 0xA00024
def F.BIN_OVF_INFO_CARD_ID : Fld := ⟨R.BIN_OVF_INFO, 31, 16⟩
def F.BIN_OVF_INFO_BIN : Fld := ⟨R.BIN_OVF_INFO, 12, 0⟩
def R.BIN_MAX_LIST : Nat := 0xA00028
def F.BIN_MAX_LIST_BIN : Fld := ⟨R.BIN_MAX_LIST, 28, 16⟩
def F.BIN_MAX_LIST_LENGTH : Fld := ⟨R.BIN_MAX_LIST, 5, 0⟩
def R.BIN_INVAL_COUNT : Nat := 0xA0002C
def F.BIN_INVAL_COUNT_COUNT : Fld := ⟨R.BIN_INVAL_COUNT, 13, 0⟩
def R.BIN_INVAL_FSN : Nat := 0xA00030
def F.BIN_INVAL_FSN_FSN : Fld := ⟨R.BIN_INVAL_FSN, 31, 0⟩
def R.BIN_LATE : Nat := 0xA00034
def F.BIN_LATE_COUNT : Fld := ⟨R.BIN_LATE, 15, 0⟩
def R.GRV_CTRL0 : Nat := 0xB00000
def F.GRV_CTRL0_ENABLE : Fld := ⟨R.GRV_CTRL0, 0, 0⟩
def R.GRV_CLK0 : Nat := 0xB00004
def F.GRV_CLK0_FREQ : Fld := ⟨R.GRV_CLK0, 1, 0⟩
def R.GRV_STATUS0 : Nat := 0xB00008
def F.GRV_STATUS0_PANIC : Fld := ⟨R.GRV_STATUS0, 16, 16⟩
def F.GRV_STATUS0_ENG_BUSY : Fld := ⟨R.GRV_STATUS0, 15, 0⟩
def R.GRV_CACHE_HIT0 : Nat := 0xB00010
def F.GRV_CACHE_HIT0_COUNT : Fld := ⟨R.GRV_CACHE_HIT0, 31, 0⟩
def R.GRV_CACHE_MISS0 : Nat := 0xB00014
def F.GRV_CACHE_MISS0_COUNT : Fld := ⟨R.GRV_CACHE_MISS0, 31, 0⟩
def R.GRV_CTRL1 : Nat := 0xC00000
def F.GRV_CTRL1_ENABLE : Fld := ⟨R.GRV_CTRL1, 0, 0⟩
def R.GRV_CLK1 : Nat := 0xC00004
def F.GRV_CLK1_FREQ : Fld := ⟨R.GRV_CLK1, 1, 0⟩
def R.GRV_STATUS1 : Nat := 0xC00008
def F.GRV_STATUS1_PANIC : Fld := ⟨R.GRV_STATUS1, 16, 16⟩
def F.GRV_STATUS1_ENG_BUSY : Fld := ⟨R.GRV_STATUS1, 15, 0⟩
def R.GRV_CACHE_HIT1 : Nat := 0xC00010
def F.GRV_CACHE_HIT1_COUNT : Fld := ⟨R.GRV_CACHE_HIT1, 31, 0⟩
def R.GRV_CACHE_MISS1 : Nat := 0xC00014
def F.GRV_CACHE_MISS1_COUNT : Fld := ⟨R.GRV_CACHE_MISS1, 31, 0⟩
def R.GRV_CTRL2 : Nat := 0xD00000
def F.GRV_CTRL2_ENABLE : Fld := ⟨R.GRV_CTRL2, 0, 0⟩
def R.GRV_CLK2 : Nat := 0xD00004
def F.GRV_CLK2_FREQ : Fld := ⟨R.GRV_CLK2, 1, 0⟩
def R.GRV_STATUS2 : Nat := 0xD00008
def F.GRV_STATUS2_PANIC : Fld := ⟨R.GRV_STATUS2, 16, 16⟩
def F.GRV_STATUS2_ENG_BUSY : Fld := ⟨R.GRV_STATUS2, 15, 0⟩
def R.GRV_CACHE_HIT2 : Nat := 0xD00010
def F.GRV_CACHE_HIT2_COUNT : Fld := ⟨R.GRV_CACHE_HIT2, 31, 0⟩
def R.GRV_CACHE_MISS2 : Nat := 0xD00014
def F.GRV_CACHE_MISS2_COUNT : Fld := ⟨R.GRV_CACHE_MISS2, 31, 0⟩
def R.GRV_CTRL3 : Nat := 0xE00000
def F.GRV_CTRL3_ENABLE : Fld := ⟨R.GRV_CTRL3, 0, 0⟩
def R.GRV_CLK3 : Nat := 0xE00004
def F.GRV_CLK3_FREQ : Fld := ⟨R.GRV_CLK3, 1, 0⟩
def R.GRV_STATUS3 : Nat := 0xE00008
def F.GRV_STATUS3_PANIC : Fld := ⟨R.GRV_STATUS3, 16, 16⟩
def F.GRV_STATUS3_ENG_BUSY : Fld := ⟨R.GRV_STATUS3, 15, 0⟩
def R.GRV_CACHE_HIT3 : Nat := 0xE00010
def F.GRV_CACHE_HIT3_COUNT : Fld := ⟨R.GRV_CACHE_HIT3, 31, 0⟩
def R.GRV_CACHE_MISS3 : Nat := 0xE00014
def F.GRV_CACHE_MISS3_COUNT : Fld := ⟨R.GRV_CACHE_MISS3, 31, 0⟩
def R.GRV_CTRL4 : Nat := 0xF00000
def F.GRV_CTRL4_ENABLE : Fld := ⟨R.GRV_CTRL4, 0, 0⟩
def R.GRV_CLK4 : Nat := 0xF00004
def F.GRV_CLK4_FREQ : Fld := ⟨R.GRV_CLK4, 1, 0⟩
def R.GRV_STATUS4 : Nat := 0xF00008
def F.GRV_STATUS4_PANIC : Fld := ⟨R.GRV_STATUS4, 16, 16⟩
def F.GRV_STATUS4_ENG_BUSY : Fld := ⟨R.GRV_STATUS4, 15, 0⟩
def R.GRV_CACHE_HIT4 : Nat := 0xF00010
def F.GRV_CACHE_HIT4_COUNT : Fld := ⟨R.GRV_CACHE_HIT4, 31, 0⟩
def R.GRV_CACHE_MISS4 : Nat := 0xF00014
def F.GRV_CACHE_MISS4_COUNT : Fld := ⟨R.GRV_CACHE_MISS4, 31, 0⟩
def R.GRV_CTRL5 : Nat := 0x1000000
def F.GRV_CTRL5_ENABLE : Fld := ⟨R.GRV_CTRL5, 0, 0⟩
def R.GRV_CLK5 : Nat := 0x1000004
def F.GRV_CLK5_FREQ : Fld := ⟨R.GRV_CLK5, 1, 0⟩
def R.GRV_STATUS5 : Nat := 0x1000008
def F.GRV_STATUS5_PANIC : Fld := ⟨R.GRV_STATUS5, 16, 16⟩
def F.GRV_STATUS5_ENG_BUSY : Fld := ⟨R.GRV_STATUS5, 15, 0⟩
def R.GRV_CACHE_HIT5 : Nat := 0x1000010
def F.GRV_CACHE_HIT5_COUNT : Fld := ⟨R.GRV_CACHE_HIT5, 31, 0⟩
def R.GRV_CACHE_MISS5 : Nat := 0x1000014
def F.GRV_CACHE_MISS5_COUNT : Fld := ⟨R.GRV_CACHE_MISS5, 31, 0⟩
def R.GRV_CTRL6 : Nat := 0x1100000
def F.GRV_CTRL6_ENABLE : Fld := ⟨R.GRV_CTRL6, 0, 0⟩
def R.GRV_CLK6 : Nat := 0x1100004
def F.GRV_CLK6_FREQ : Fld := ⟨R.GRV_CLK6, 1, 0⟩
def R.GRV_STATUS6 : Nat := 0x1100008
def F.GRV_STATUS6_PANIC : Fld := ⟨R.GRV_STATUS6, 16, 16⟩
def F.GRV_STATUS6_ENG_BUSY : Fld := ⟨R.GRV_STATUS6, 15, 0⟩
def R.GRV_CACHE_HIT6 : Nat := 0x1100010
def F.GRV_CACHE_HIT6_COUNT : Fld := ⟨R.GRV_CACHE_HIT6, 31, 0⟩
def R.GRV_CACHE_MISS6 : Nat := 0x1100014
def F.GRV_CACHE_MISS6_COUNT : Fld := ⟨R.GRV_CACHE_MISS6, 31, 0⟩
def R.GRV_CTRL7 : Nat := 0x1200000
def F.GRV_CTRL7_ENABLE : Fld := ⟨R.GRV_CTRL7, 0, 0⟩
def R.GRV_CLK7 : Nat := 0x1200004
def F.GRV_CLK7_FREQ : Fld := ⟨R.GRV_CLK7, 1, 0⟩
def R.GRV_STATUS7 : Nat := 0x1200008
def F.GRV_STATUS7_PANIC : Fld := ⟨R.GRV_STATUS7, 16, 16⟩
def F.GRV_STATUS7_ENG_BUSY : Fld := ⟨R.GRV_STATUS7, 15, 0⟩
def R.GRV_CACHE_HIT7 : Nat := 0x1200010
def F.GRV_CACHE_HIT7_COUNT : Fld := ⟨R.GRV_CACHE_HIT7, 31, 0⟩
def R.GRV_CACHE_MISS7 : Nat := 0x1200014
def F.GRV_CACHE_MISS7_COUNT : Fld := ⟨R.GRV_CACHE_MISS7, 31, 0⟩
def R.GRV_DIR_LO : Nat := 0xB00100
def F.GRV_DIR_LO_ADDR_LO : Fld := ⟨R.GRV_DIR_LO, 31, 16⟩
def R.GRV_DIR_HI : Nat := 0xB00104
def F.GRV_DIR_HI_ADDR_HI : Fld := ⟨R.GRV_DIR_HI, 5, 0⟩
def R.GRV_PITCH : Nat := 0xB00108
def F.GRV_PITCH_PITCH : Fld := ⟨R.GRV_PITCH, 31, 0⟩
def R.GRV_FP_SX : Nat := 0xB0010C
def F.GRV_FP_SX_FSX : Fld := ⟨R.GRV_FP_SX, 31, 0⟩
def R.GRV_FP_SY : Nat := 0xB00110
def F.GRV_FP_SY_FSY : Fld := ⟨R.GRV_FP_SY, 31, 0⟩
def R.GRV_LOD_BIAS : Nat := 0xB00114
def F.GRV_LOD_BIAS_BIAS : Fld := ⟨R.GRV_LOD_BIAS, 10, 0⟩
def R.GRV_PANIC_LEAD : Nat := 0xB00118
def F.GRV_PANIC_LEAD_LEAD : Fld := ⟨R.GRV_PANIC_LEAD, 15, 0⟩
def R.GRV_SYNTH_FSN : Nat := 0xB00120
def F.GRV_SYNTH_FSN_FSN : Fld := ⟨R.GRV_SYNTH_FSN, 31, 0⟩
def R.GRV_DIR_ERR : Nat := 0xB00124
def F.GRV_DIR_ERR_RANGE : Fld := ⟨R.GRV_DIR_ERR, 31, 31⟩
def F.GRV_DIR_ERR_BLOCK : Fld := ⟨R.GRV_DIR_ERR, 19, 10⟩
def F.GRV_DIR_ERR_DIR : Fld := ⟨R.GRV_DIR_ERR, 9, 0⟩
def R.GRV_POISON_RAY : Nat := 0xB00128
def F.GRV_POISON_RAY_RAY : Fld := ⟨R.GRV_POISON_RAY, 31, 0⟩
def R.GRV_LATE_COUNT : Nat := 0xB0012C
def F.GRV_LATE_COUNT_COUNT : Fld := ⟨R.GRV_LATE_COUNT, 15, 0⟩
def R.COL_CTRL : Nat := 0x1300000
def F.COL_CTRL_TEMP_EN : Fld := ⟨R.COL_CTRL, 1, 1⟩
def F.COL_CTRL_INPUT_TF : Fld := ⟨R.COL_CTRL, 0, 0⟩
def R.COL_LIN_SCALE : Nat := 0x1300004
def F.COL_LIN_SCALE_SCALE : Fld := ⟨R.COL_LIN_SCALE, 31, 0⟩
def R.COL_TABLE_LO : Nat := 0x1300008
def F.COL_TABLE_LO_ADDR_LO : Fld := ⟨R.COL_TABLE_LO, 31, 12⟩
def R.COL_TABLE_HI : Nat := 0x130000C
def F.COL_TABLE_HI_ADDR_HI : Fld := ⟨R.COL_TABLE_HI, 5, 0⟩
def R.COL_GMAP_LO : Nat := 0x1300010
def F.COL_GMAP_LO_ADDR_LO : Fld := ⟨R.COL_GMAP_LO, 31, 16⟩
def R.COL_GMAP_HI : Nat := 0x1300014
def F.COL_GMAP_HI_ADDR_HI : Fld := ⟨R.COL_GMAP_HI, 5, 0⟩
def R.COL_CODE_SCALE (i : Nat) : Nat := 0x1300018 + 0x4 * i
def F.COL_CODE_SCALE_K (i : Nat) : Fld := ⟨(R.COL_CODE_SCALE i), 23, 0⟩
def R.COL_TEMP_REF : Nat := 0x1300024
def F.COL_TEMP_REF_TREF : Fld := ⟨R.COL_TEMP_REF, 31, 0⟩
def R.COL_TEMP_A (i : Nat) : Nat := 0x1300028 + 0x4 * i
def F.COL_TEMP_A_A (i : Nat) : Fld := ⟨(R.COL_TEMP_A i), 31, 0⟩
def R.COL_TEMP_B (i : Nat) : Nat := 0x1300034 + 0x4 * i
def F.COL_TEMP_B_B (i : Nat) : Fld := ⟨(R.COL_TEMP_B i), 31, 0⟩
def R.COL_PWR_STATIC : Nat := 0x1300040
def F.COL_PWR_STATIC_P : Fld := ⟨R.COL_PWR_STATIC, 31, 0⟩
def R.COL_PWR_W (i : Nat) : Nat := 0x1300044 + 0x4 * i
def F.COL_PWR_W_W (i : Nat) : Fld := ⟨(R.COL_PWR_W i), 31, 0⟩
def R.COL_PWR_BUDGET : Nat := 0x1300050
def F.COL_PWR_BUDGET_P : Fld := ⟨R.COL_PWR_BUDGET, 31, 0⟩
def R.COL_PWR_CEIL : Nat := 0x1300054
def F.COL_PWR_CEIL_P : Fld := ⟨R.COL_PWR_CEIL, 31, 0⟩
def R.COL_LIMIT_CFG : Nat := 0x1300058
def F.COL_LIMIT_CFG_RISE : Fld := ⟨R.COL_LIMIT_CFG, 31, 16⟩
def F.COL_LIMIT_CFG_FLOOR : Fld := ⟨R.COL_LIMIT_CFG, 15, 0⟩
def R.COL_LIMIT_START : Nat := 0x130005C
def F.COL_LIMIT_START_GAIN : Fld := ⟨R.COL_LIMIT_START, 15, 0⟩
def R.COL_LIMIT_GAIN : Nat := 0x1300060
def F.COL_LIMIT_GAIN_SPEC : Fld := ⟨R.COL_LIMIT_GAIN, 31, 16⟩
def F.COL_LIMIT_GAIN_PEND : Fld := ⟨R.COL_LIMIT_GAIN, 15, 0⟩
def R.COL_POWER : Nat := 0x1300064
def F.COL_POWER_P : Fld := ⟨R.COL_POWER, 31, 0⟩
def R.COL_POWER_FSN : Nat := 0x1300068
def F.COL_POWER_FSN_FSN : Fld := ⟨R.COL_POWER_FSN, 31, 0⟩
def R.COL_STATUS : Nat := 0x130006C
def F.COL_STATUS_CHECKING : Fld := ⟨R.COL_STATUS, 1, 1⟩
def F.COL_STATUS_RETIRE_PENDING : Fld := ⟨R.COL_STATUS, 0, 0⟩
def R.COL_TABLE_ERR : Nat := 0x1300070
def F.COL_TABLE_ERR_RANGE : Fld := ⟨R.COL_TABLE_ERR, 31, 31⟩
def F.COL_TABLE_ERR_OFFSET : Fld := ⟨R.COL_TABLE_ERR, 15, 0⟩
def R.COL_CLAMP : Nat := 0x1300074
def F.COL_CLAMP_HIGH : Fld := ⟨R.COL_CLAMP, 31, 16⟩
def F.COL_CLAMP_NEG : Fld := ⟨R.COL_CLAMP, 15, 0⟩
def R.LYR_CTRL : Nat := 0x1400000
def F.LYR_CTRL_LOCK : Fld := ⟨R.LYR_CTRL, 8, 8⟩
def F.LYR_CTRL_GUARD : Fld := ⟨R.LYR_CTRL, 4, 0⟩
def R.LYR_TARGET_FSN : Nat := 0x1400004
def F.LYR_TARGET_FSN_FSN : Fld := ⟨R.LYR_TARGET_FSN, 31, 0⟩
def R.LYR_COMMIT : Nat := 0x1400008
def F.LYR_COMMIT_GO : Fld := ⟨R.LYR_COMMIT, 0, 0⟩
def R.LYR_STATUS : Nat := 0x140000C
def F.LYR_STATUS_REJ_WORD : Fld := ⟨R.LYR_STATUS, 23, 20⟩
def F.LYR_STATUS_REJ_LAYER : Fld := ⟨R.LYR_STATUS, 18, 16⟩
def F.LYR_STATUS_CACHED : Fld := ⟨R.LYR_STATUS, 6, 4⟩
def F.LYR_STATUS_FLATTEN_BUSY : Fld := ⟨R.LYR_STATUS, 3, 3⟩
def F.LYR_STATUS_REJECT : Fld := ⟨R.LYR_STATUS, 2, 2⟩
def F.LYR_STATUS_COMMIT_LATE : Fld := ⟨R.LYR_STATUS, 1, 1⟩
def F.LYR_STATUS_HELD : Fld := ⟨R.LYR_STATUS, 0, 0⟩
def R.LYR_APPLIED_FSN : Nat := 0x1400010
def F.LYR_APPLIED_FSN_FSN : Fld := ⟨R.LYR_APPLIED_FSN, 31, 0⟩
def R.LYR_RETIRED_FSN : Nat := 0x1400014
def F.LYR_RETIRED_FSN_FSN : Fld := ⟨R.LYR_RETIRED_FSN, 31, 0⟩
def R.LYR_CACHE_LO : Nat := 0x1400018
def F.LYR_CACHE_LO_ADDR_LO : Fld := ⟨R.LYR_CACHE_LO, 31, 29⟩
def R.LYR_CACHE_HI : Nat := 0x140001C
def F.LYR_CACHE_HI_ADDR_HI : Fld := ⟨R.LYR_CACHE_HI, 5, 0⟩
def R.LYR_SLATE_LO : Nat := 0x1400020
def F.LYR_SLATE_LO_ADDR_LO : Fld := ⟨R.LYR_SLATE_LO, 31, 12⟩
def R.LYR_SLATE_HI : Nat := 0x1400024
def F.LYR_SLATE_HI_ADDR_HI : Fld := ⟨R.LYR_SLATE_HI, 5, 0⟩
def R.LYR_PIN_FAULT_LO : Nat := 0x1400028
def F.LYR_PIN_FAULT_LO_ADDR_LO : Fld := ⟨R.LYR_PIN_FAULT_LO, 31, 0⟩
def R.LYR_PIN_FAULT_HI : Nat := 0x140002C
def F.LYR_PIN_FAULT_HI_SRC : Fld := ⟨R.LYR_PIN_FAULT_HI, 15, 8⟩
def F.LYR_PIN_FAULT_HI_ADDR_HI : Fld := ⟨R.LYR_PIN_FAULT_HI, 5, 0⟩
def R.LYR_PIN_FAULT_COUNT : Nat := 0x1400030
def F.LYR_PIN_FAULT_COUNT_COUNT : Fld := ⟨R.LYR_PIN_FAULT_COUNT, 31, 0⟩
def R.LYR_DESC0 (i : Nat) : Nat := 0x1400100 + 0x40 * i
def F.LYR_DESC0_ENABLE (i : Nat) : Fld := ⟨(R.LYR_DESC0 i), 0, 0⟩
def F.LYR_DESC0_STATIC (i : Nat) : Fld := ⟨(R.LYR_DESC0 i), 1, 1⟩
def F.LYR_DESC0_RANGE (i : Nat) : Fld := ⟨(R.LYR_DESC0 i), 2, 2⟩
def F.LYR_DESC0_FORMAT (i : Nat) : Fld := ⟨(R.LYR_DESC0 i), 11, 8⟩
def F.LYR_DESC0_GALPHA (i : Nat) : Fld := ⟨(R.LYR_DESC0 i), 23, 16⟩
def R.LYR_DESC1 (i : Nat) : Nat := 0x1400104 + 0x40 * i
def F.LYR_DESC1_WIDTH (i : Nat) : Fld := ⟨(R.LYR_DESC1 i), 15, 0⟩
def F.LYR_DESC1_HEIGHT (i : Nat) : Fld := ⟨(R.LYR_DESC1 i), 31, 16⟩
def R.LYR_DESC2 (i : Nat) : Nat := 0x1400108 + 0x40 * i
def F.LYR_DESC2_PITCH0 (i : Nat) : Fld := ⟨(R.LYR_DESC2 i), 15, 0⟩
def F.LYR_DESC2_PITCH1 (i : Nat) : Fld := ⟨(R.LYR_DESC2 i), 31, 16⟩
def R.LYR_DESC3 (i : Nat) : Nat := 0x140010C + 0x40 * i
def F.LYR_DESC3_PLANE0_LO (i : Nat) : Fld := ⟨(R.LYR_DESC3 i), 31, 8⟩
def R.LYR_DESC4 (i : Nat) : Nat := 0x1400110 + 0x40 * i
def F.LYR_DESC4_PLANE0_HI (i : Nat) : Fld := ⟨(R.LYR_DESC4 i), 5, 0⟩
def R.LYR_DESC5 (i : Nat) : Nat := 0x1400114 + 0x40 * i
def F.LYR_DESC5_PLANE1_LO (i : Nat) : Fld := ⟨(R.LYR_DESC5 i), 31, 8⟩
def R.LYR_DESC6 (i : Nat) : Nat := 0x1400118 + 0x40 * i
def F.LYR_DESC6_PLANE1_HI (i : Nat) : Fld := ⟨(R.LYR_DESC6 i), 5, 0⟩
def R.LYR_DESC7 (i : Nat) : Nat := 0x140011C + 0x40 * i
def F.LYR_DESC7_PLANE2_LO (i : Nat) : Fld := ⟨(R.LYR_DESC7 i), 31, 8⟩
def R.LYR_DESC8 (i : Nat) : Nat := 0x1400120 + 0x40 * i
def F.LYR_DESC8_PLANE2_HI (i : Nat) : Fld := ⟨(R.LYR_DESC8 i), 5, 0⟩
def R.LYR_DESC9 (i : Nat) : Nat := 0x1400124 + 0x40 * i
def F.LYR_DESC9_X0 (i : Nat) : Fld := ⟨(R.LYR_DESC9 i), 31, 0⟩
def R.LYR_DESC10 (i : Nat) : Nat := 0x1400128 + 0x40 * i
def F.LYR_DESC10_Y0 (i : Nat) : Fld := ⟨(R.LYR_DESC10 i), 31, 0⟩
def R.LYR_DESC11 (i : Nat) : Nat := 0x140012C + 0x40 * i
def F.LYR_DESC11_Q (i : Nat) : Fld := ⟨(R.LYR_DESC11 i), 31, 0⟩
def R.LYR_DESC12 (i : Nat) : Nat := 0x1400130 + 0x40 * i
def F.LYR_DESC12_Z (i : Nat) : Fld := ⟨(R.LYR_DESC12 i), 31, 0⟩
def R.LYR_DESC13 (i j : Nat) : Nat := 0x1400134 + 0x40 * i + 0x4 * j
def F.LYR_DESC13_RSVD (i j : Nat) : Fld := ⟨(R.LYR_DESC13 i j), 31, 0⟩
def R.BLT_CTRL : Nat := 0x1500000
def F.BLT_CTRL_START : Fld := ⟨R.BLT_CTRL, 31, 31⟩
def F.BLT_CTRL_GALPHA : Fld := ⟨R.BLT_CTRL, 23, 16⟩
def F.BLT_CTRL_DST_FMT : Fld := ⟨R.BLT_CTRL, 7, 6⟩
def F.BLT_CTRL_SRC_FMT : Fld := ⟨R.BLT_CTRL, 5, 4⟩
def F.BLT_CTRL_OP : Fld := ⟨R.BLT_CTRL, 1, 0⟩
def R.BLT_SRC_LO : Nat := 0x1500004
def F.BLT_SRC_LO_ADDR_LO : Fld := ⟨R.BLT_SRC_LO, 31, 0⟩
def R.BLT_SRC_HI : Nat := 0x1500008
def F.BLT_SRC_HI_ADDR_HI : Fld := ⟨R.BLT_SRC_HI, 5, 0⟩
def R.BLT_SRC_PITCH : Nat := 0x150000C
def F.BLT_SRC_PITCH_PITCH : Fld := ⟨R.BLT_SRC_PITCH, 15, 0⟩
def R.BLT_SRC_XY : Nat := 0x1500010
def F.BLT_SRC_XY_Y : Fld := ⟨R.BLT_SRC_XY, 31, 16⟩
def F.BLT_SRC_XY_X : Fld := ⟨R.BLT_SRC_XY, 15, 0⟩
def R.BLT_DST_LO : Nat := 0x1500014
def F.BLT_DST_LO_ADDR_LO : Fld := ⟨R.BLT_DST_LO, 31, 0⟩
def R.BLT_DST_HI : Nat := 0x1500018
def F.BLT_DST_HI_ADDR_HI : Fld := ⟨R.BLT_DST_HI, 5, 0⟩
def R.BLT_DST_PITCH : Nat := 0x150001C
def F.BLT_DST_PITCH_PITCH : Fld := ⟨R.BLT_DST_PITCH, 15, 0⟩
def R.BLT_DST_XY : Nat := 0x1500020
def F.BLT_DST_XY_Y : Fld := ⟨R.BLT_DST_XY, 31, 16⟩
def F.BLT_DST_XY_X : Fld := ⟨R.BLT_DST_XY, 15, 0⟩
def R.BLT_SIZE : Nat := 0x1500024
def F.BLT_SIZE_H : Fld := ⟨R.BLT_SIZE, 31, 16⟩
def F.BLT_SIZE_W : Fld := ⟨R.BLT_SIZE, 15, 0⟩
def R.BLT_COLOUR : Nat := 0x1500028
def F.BLT_COLOUR_VALUE : Fld := ⟨R.BLT_COLOUR, 31, 0⟩
def R.BLT_STATUS : Nat := 0x150002C
def F.BLT_STATUS_CODE : Fld := ⟨R.BLT_STATUS, 15, 8⟩
def F.BLT_STATUS_REJECTED : Fld := ⟨R.BLT_STATUS, 1, 1⟩
def F.BLT_STATUS_BUSY : Fld := ⟨R.BLT_STATUS, 0, 0⟩
def R.PDL_CTRL : Nat := 0x1600000
def F.PDL_CTRL_LOCK : Fld := ⟨R.PDL_CTRL, 1, 1⟩
def F.PDL_CTRL_LINK_EN : Fld := ⟨R.PDL_CTRL, 0, 0⟩
def R.PDL_HTIMING : Nat := 0x1600004
def F.PDL_HTIMING_HSYNC : Fld := ⟨R.PDL_HTIMING, 7, 0⟩
def F.PDL_HTIMING_HBACK : Fld := ⟨R.PDL_HTIMING, 15, 8⟩
def F.PDL_HTIMING_HFRONT : Fld := ⟨R.PDL_HTIMING, 23, 16⟩
def R.PDL_VTIMING : Nat := 0x1600008
def F.PDL_VTIMING_VSYNC : Fld := ⟨R.PDL_VTIMING, 3, 0⟩
def F.PDL_VTIMING_VBACK : Fld := ⟨R.PDL_VTIMING, 7, 4⟩
def F.PDL_VTIMING_VFRONT : Fld := ⟨R.PDL_VTIMING, 11, 8⟩
def R.PDL_GEOM : Nat := 0x160000C
def F.PDL_GEOM_HACTIVE : Fld := ⟨R.PDL_GEOM, 9, 0⟩
def F.PDL_GEOM_VACTIVE : Fld := ⟨R.PDL_GEOM, 21, 16⟩
def R.PDL_LINE_SYMBOLS : Nat := 0x1600010
def F.PDL_LINE_SYMBOLS_COUNT : Fld := ⟨R.PDL_LINE_SYMBOLS, 19, 0⟩
def R.PDL_LINE_MATCH : Nat := 0x1600014
def F.PDL_LINE_MATCH_LINE : Fld := ⟨R.PDL_LINE_MATCH, 4, 0⟩
def F.PDL_LINE_MATCH_ENABLE : Fld := ⟨R.PDL_LINE_MATCH, 8, 8⟩
def R.PDL_RASTER : Nat := 0x1600018
def F.PDL_RASTER_KIND : Fld := ⟨R.PDL_RASTER, 2, 0⟩
def F.PDL_RASTER_SLOT : Fld := ⟨R.PDL_RASTER, 5, 4⟩
def F.PDL_RASTER_LINE : Fld := ⟨R.PDL_RASTER, 12, 8⟩
def R.PDL_WRITTEN_FSN : Nat := 0x160001C
def F.PDL_WRITTEN_FSN_FSN : Fld := ⟨R.PDL_WRITTEN_FSN, 31, 0⟩
def R.PDL_UNDERRUN : Nat := 0x1600020
def F.PDL_UNDERRUN_COUNT : Fld := ⟨R.PDL_UNDERRUN, 15, 0⟩
def R.PDL_WDOG : Nat := 0x1600024
def F.PDL_WDOG_US : Fld := ⟨R.PDL_WDOG, 19, 0⟩
def R.PDL_INFLIGHT0 : Nat := 0x1600100
def F.PDL_INFLIGHT0_INFLIGHT : Fld := ⟨R.PDL_INFLIGHT0, 4, 0⟩
def F.PDL_INFLIGHT0_QUEUED : Fld := ⟨R.PDL_INFLIGHT0, 27, 16⟩
def R.PDL_CRC_ERR0 : Nat := 0x1600104
def F.PDL_CRC_ERR0_RET : Fld := ⟨R.PDL_CRC_ERR0, 15, 0⟩
def F.PDL_CRC_ERR0_CODE : Fld := ⟨R.PDL_CRC_ERR0, 31, 16⟩
def R.PDL_ITEM_FAIL0 : Nat := 0x1600108
def F.PDL_ITEM_FAIL0_COUNT : Fld := ⟨R.PDL_ITEM_FAIL0, 15, 0⟩
def R.PDL_LAT0 (i : Nat) : Nat := 0x1600400 + 0x4 * i
def F.PDL_LAT0_L (i : Nat) : Fld := ⟨(R.PDL_LAT0 i), 19, 0⟩
def F.PDL_LAT0_VALID (i : Nat) : Fld := ⟨(R.PDL_LAT0 i), 31, 31⟩
def R.PDL_LATADJ0 (i : Nat) : Nat := 0x1600600 + 0x4 * i
def F.PDL_LATADJ0_ADJ (i : Nat) : Fld := ⟨(R.PDL_LATADJ0 i), 11, 0⟩
def R.PDL_INFLIGHT1 : Nat := 0x1700100
def F.PDL_INFLIGHT1_INFLIGHT : Fld := ⟨R.PDL_INFLIGHT1, 4, 0⟩
def F.PDL_INFLIGHT1_QUEUED : Fld := ⟨R.PDL_INFLIGHT1, 27, 16⟩
def R.PDL_CRC_ERR1 : Nat := 0x1700104
def F.PDL_CRC_ERR1_RET : Fld := ⟨R.PDL_CRC_ERR1, 15, 0⟩
def F.PDL_CRC_ERR1_CODE : Fld := ⟨R.PDL_CRC_ERR1, 31, 16⟩
def R.PDL_ITEM_FAIL1 : Nat := 0x1700108
def F.PDL_ITEM_FAIL1_COUNT : Fld := ⟨R.PDL_ITEM_FAIL1, 15, 0⟩
def R.PDL_LAT1 (i : Nat) : Nat := 0x1700400 + 0x4 * i
def F.PDL_LAT1_L (i : Nat) : Fld := ⟨(R.PDL_LAT1 i), 19, 0⟩
def F.PDL_LAT1_VALID (i : Nat) : Fld := ⟨(R.PDL_LAT1 i), 31, 31⟩
def R.PDL_LATADJ1 (i : Nat) : Nat := 0x1700600 + 0x4 * i
def F.PDL_LATADJ1_ADJ (i : Nat) : Fld := ⟨(R.PDL_LATADJ1 i), 11, 0⟩
def R.SDS_CTRL : Nat := 0x1800000
def F.SDS_CTRL_LOCK : Fld := ⟨R.SDS_CTRL, 8, 8⟩
def F.SDS_CTRL_BGCAL_EN : Fld := ⟨R.SDS_CTRL, 0, 0⟩
def R.SDS_RECAL_DELTA : Nat := 0x1800004
def F.SDS_RECAL_DELTA_DELTA : Fld := ⟨R.SDS_RECAL_DELTA, 9, 0⟩
def R.SDS_MARGIN0 : Nat := 0x1800010
def F.SDS_MARGIN0_EW_MIN : Fld := ⟨R.SDS_MARGIN0, 5, 0⟩
def F.SDS_MARGIN0_EH_MIN : Fld := ⟨R.SDS_MARGIN0, 23, 16⟩
def R.SDS_MARGIN1 : Nat := 0x1800014
def F.SDS_MARGIN1_EW_MIN : Fld := ⟨R.SDS_MARGIN1, 5, 0⟩
def F.SDS_MARGIN1_EH_MIN : Fld := ⟨R.SDS_MARGIN1, 23, 16⟩
def R.SDS_MARGIN2 : Nat := 0x1800018
def F.SDS_MARGIN2_EW_MIN : Fld := ⟨R.SDS_MARGIN2, 5, 0⟩
def F.SDS_MARGIN2_EH_MIN : Fld := ⟨R.SDS_MARGIN2, 23, 16⟩
def R.SDS_MARGIN3 : Nat := 0x180001C
def F.SDS_MARGIN3_EW_MIN : Fld := ⟨R.SDS_MARGIN3, 5, 0⟩
def F.SDS_MARGIN3_EH_MIN : Fld := ⟨R.SDS_MARGIN3, 23, 16⟩
def R.SDS_SUMMARY : Nat := 0x1800020
def F.SDS_SUMMARY_ACTIVE : Fld := ⟨R.SDS_SUMMARY, 7, 0⟩
def F.SDS_SUMMARY_FAIL_LANE : Fld := ⟨R.SDS_SUMMARY, 23, 16⟩
def F.SDS_SUMMARY_FAIL_VALID : Fld := ⟨R.SDS_SUMMARY, 31, 31⟩
def R.SDS_RECAL : Nat := 0x1800024
def F.SDS_RECAL_LANE : Fld := ⟨R.SDS_RECAL, 7, 0⟩
def F.SDS_RECAL_RUNNING : Fld := ⟨R.SDS_RECAL, 8, 8⟩
def F.SDS_RECAL_QUEUED : Fld := ⟨R.SDS_RECAL, 23, 16⟩
def R.SDS_LCTRL (i : Nat) : Nat := 0x1801000 + 0x40 * i
def F.SDS_LCTRL_ENABLE (i : Nat) : Fld := ⟨(R.SDS_LCTRL i), 0, 0⟩
def F.SDS_LCTRL_RETRAIN (i : Nat) : Fld := ⟨(R.SDS_LCTRL i), 1, 1⟩
def F.SDS_LCTRL_LOOP (i : Nat) : Fld := ⟨(R.SDS_LCTRL i), 5, 4⟩
def F.SDS_LCTRL_PATTERN (i : Nat) : Fld := ⟨(R.SDS_LCTRL i), 9, 8⟩
def F.SDS_LCTRL_TEST_SPEED (i : Nat) : Fld := ⟨(R.SDS_LCTRL i), 13, 12⟩
def R.SDS_LSTATE (i : Nat) : Nat := 0x1801004 + 0x40 * i
def F.SDS_LSTATE_STATE (i : Nat) : Fld := ⟨(R.SDS_LSTATE i), 3, 0⟩
def F.SDS_LSTATE_SPEED (i : Nat) : Fld := ⟨(R.SDS_LSTATE i), 5, 4⟩
def F.SDS_LSTATE_RX_INV (i : Nat) : Fld := ⟨(R.SDS_LSTATE i), 6, 6⟩
def F.SDS_LSTATE_REVERSED (i : Nat) : Fld := ⟨(R.SDS_LSTATE i), 7, 7⟩
def F.SDS_LSTATE_BAND (i : Nat) : Fld := ⟨(R.SDS_LSTATE i), 9, 8⟩
def R.SDS_LEYE (i : Nat) : Nat := 0x1801008 + 0x40 * i
def F.SDS_LEYE_EW (i : Nat) : Fld := ⟨(R.SDS_LEYE i), 5, 0⟩
def F.SDS_LEYE_EH (i : Nat) : Fld := ⟨(R.SDS_LEYE i), 15, 8⟩
def F.SDS_LEYE_FAR_EW (i : Nat) : Fld := ⟨(R.SDS_LEYE i), 21, 16⟩
def F.SDS_LEYE_FAR_EH (i : Nat) : Fld := ⟨(R.SDS_LEYE i), 31, 24⟩
def R.SDS_LCTLE (i : Nat) : Nat := 0x180100C + 0x40 * i
def F.SDS_LCTLE_PEAK (i : Nat) : Fld := ⟨(R.SDS_LCTLE i), 4, 0⟩
def F.SDS_LCTLE_GAIN (i : Nat) : Fld := ⟨(R.SDS_LCTLE i), 11, 8⟩
def R.SDS_LDFE (i : Nat) : Nat := 0x1801010 + 0x40 * i
def F.SDS_LDFE_TAP1 (i : Nat) : Fld := ⟨(R.SDS_LDFE i), 6, 0⟩
def F.SDS_LDFE_TAP2 (i : Nat) : Fld := ⟨(R.SDS_LDFE i), 12, 7⟩
def F.SDS_LDFE_TAP3 (i : Nat) : Fld := ⟨(R.SDS_LDFE i), 18, 13⟩
def F.SDS_LDFE_TAP4 (i : Nat) : Fld := ⟨(R.SDS_LDFE i), 24, 19⟩
def F.SDS_LDFE_TAP5 (i : Nat) : Fld := ⟨(R.SDS_LDFE i), 30, 25⟩
def R.SDS_LOFS (i : Nat) : Nat := 0x1801014 + 0x40 * i
def F.SDS_LOFS_OFS_DE (i : Nat) : Fld := ⟨(R.SDS_LOFS i), 5, 0⟩
def F.SDS_LOFS_OFS_DO (i : Nat) : Fld := ⟨(R.SDS_LOFS i), 13, 8⟩
def F.SDS_LOFS_OFS_EDGE (i : Nat) : Fld := ⟨(R.SDS_LOFS i), 21, 16⟩
def F.SDS_LOFS_OFS_EYE (i : Nat) : Fld := ⟨(R.SDS_LOFS i), 29, 24⟩
def R.SDS_LTX (i : Nat) : Nat := 0x1801018 + 0x40 * i
def F.SDS_LTX_SWING (i : Nat) : Fld := ⟨(R.SDS_LTX i), 3, 0⟩
def F.SDS_LTX_PRE (i : Nat) : Fld := ⟨(R.SDS_LTX i), 10, 8⟩
def F.SDS_LTX_POST (i : Nat) : Fld := ⟨(R.SDS_LTX i), 19, 16⟩
def R.SDS_LCAL (i : Nat) : Nat := 0x180101C + 0x40 * i
def F.SDS_LCAL_TCAL (i : Nat) : Fld := ⟨(R.SDS_LCAL i), 15, 0⟩
def F.SDS_LCAL_RECALS (i : Nat) : Fld := ⟨(R.SDS_LCAL i), 31, 16⟩
def R.SDS_LCODE_ERR (i : Nat) : Nat := 0x1801020 + 0x40 * i
def F.SDS_LCODE_ERR_CODE (i : Nat) : Fld := ⟨(R.SDS_LCODE_ERR i), 15, 0⟩
def F.SDS_LCODE_ERR_DISP (i : Nat) : Fld := ⟨(R.SDS_LCODE_ERR i), 31, 16⟩
def R.SDS_LPRBS_ERR (i : Nat) : Nat := 0x1801024 + 0x40 * i
def F.SDS_LPRBS_ERR_COUNT (i : Nat) : Fld := ⟨(R.SDS_LPRBS_ERR i), 31, 0⟩
def R.SDS_LRTT (i : Nat) : Nat := 0x1801028 + 0x40 * i
def F.SDS_LRTT_RTT (i : Nat) : Fld := ⟨(R.SDS_LRTT i), 23, 0⟩
def F.SDS_LRTT_VALID (i : Nat) : Fld := ⟨(R.SDS_LRTT i), 31, 31⟩
def R.SDS_LFAIL (i : Nat) : Nat := 0x180102C + 0x40 * i
def F.SDS_LFAIL_CODE (i : Nat) : Fld := ⟨(R.SDS_LFAIL i), 7, 0⟩
def R.APL_CTRL : Nat := 0x1900000
def F.APL_CTRL_LOCK : Fld := ⟨R.APL_CTRL, 1, 1⟩
def F.APL_CTRL_ENABLE : Fld := ⟨R.APL_CTRL, 0, 0⟩
def R.APL_STATUS : Nat := 0x1900004
def F.APL_STATUS_RESTORED : Fld := ⟨R.APL_STATUS, 0, 0⟩
def F.APL_STATUS_JOURNAL_BUSY : Fld := ⟨R.APL_STATUS, 1, 1⟩
def F.APL_STATUS_BAND : Fld := ⟨R.APL_STATUS, 4, 2⟩
def F.APL_STATUS_TEMP_VALID : Fld := ⟨R.APL_STATUS, 5, 5⟩
def F.APL_STATUS_INFLIGHT : Fld := ⟨R.APL_STATUS, 10, 8⟩
def F.APL_STATUS_QUEUED : Fld := ⟨R.APL_STATUS, 15, 12⟩
def F.APL_STATUS_FAULT_CODE : Fld := ⟨R.APL_STATUS, 19, 16⟩
def R.APL_TEMP : Nat := 0x1900008
def F.APL_TEMP_T : Fld := ⟨R.APL_TEMP, 15, 0⟩
def F.APL_TEMP_SRC : Fld := ⟨R.APL_TEMP, 16, 16⟩
def R.APL_REQ_RECT : Nat := 0x1900010
def F.APL_REQ_RECT_K0 : Fld := ⟨R.APL_REQ_RECT, 6, 0⟩
def F.APL_REQ_RECT_KH : Fld := ⟨R.APL_REQ_RECT, 13, 7⟩
def F.APL_REQ_RECT_M0 : Fld := ⟨R.APL_REQ_RECT, 21, 14⟩
def F.APL_REQ_RECT_MW : Fld := ⟨R.APL_REQ_RECT, 29, 22⟩
def R.APL_REQ_FSN : Nat := 0x1900014
def F.APL_REQ_FSN_FSN : Fld := ⟨R.APL_REQ_FSN, 31, 0⟩
def R.APL_REQ_BUF_LO : Nat := 0x1900018
def F.APL_REQ_BUF_LO_ADDR_LO : Fld := ⟨R.APL_REQ_BUF_LO, 31, 0⟩
def R.APL_REQ_BUF_HI : Nat := 0x190001C
def F.APL_REQ_BUF_HI_ADDR_HI : Fld := ⟨R.APL_REQ_BUF_HI, 5, 0⟩
def R.APL_REQ_GO : Nat := 0x1900020
def F.APL_REQ_GO_GO : Fld := ⟨R.APL_REQ_GO, 0, 0⟩
def F.APL_REQ_GO_IMMEDIATE : Fld := ⟨R.APL_REQ_GO, 1, 1⟩
def R.APL_REQ_RESULT : Nat := 0x1900024
def F.APL_REQ_RESULT_STATUS : Fld := ⟨R.APL_REQ_RESULT, 7, 0⟩
def F.APL_REQ_RESULT_PENDING : Fld := ⟨R.APL_REQ_RESULT, 8, 8⟩
def F.APL_REQ_RESULT_OVERRUN : Fld := ⟨R.APL_REQ_RESULT, 9, 9⟩
def R.APL_REQ_SEQ : Nat := 0x1900028
def F.APL_REQ_SEQ_SEQ : Fld := ⟨R.APL_REQ_SEQ, 31, 0⟩
def R.APL_DONE_SEQ : Nat := 0x190002C
def F.APL_DONE_SEQ_SEQ : Fld := ⟨R.APL_DONE_SEQ, 31, 0⟩
def R.APL_RESTORE_SEQ : Nat := 0x1900030
def F.APL_RESTORE_SEQ_SEQ : Fld := ⟨R.APL_RESTORE_SEQ, 31, 0⟩
def R.APL_RESTORE_INFO : Nat := 0x1900034
def F.APL_RESTORE_INFO_RECORDS : Fld := ⟨R.APL_RESTORE_INFO, 15, 0⟩
def F.APL_RESTORE_INFO_HALF : Fld := ⟨R.APL_RESTORE_INFO, 16, 16⟩
def F.APL_RESTORE_INFO_INITIAL : Fld := ⟨R.APL_RESTORE_INFO, 31, 31⟩
def R.APL_REF_SETTLE : Nat := 0x1900038
def F.APL_REF_SETTLE_US : Fld := ⟨R.APL_REF_SETTLE, 15, 0⟩
def R.APL_BAND0 : Nat := 0x1900040
def F.APL_BAND0_T_PH : Fld := ⟨R.APL_BAND0, 9, 0⟩
def F.APL_BAND0_VC : Fld := ⟨R.APL_BAND0, 27, 16⟩
def R.APL_BAND1 : Nat := 0x1900044
def F.APL_BAND1_T_PH : Fld := ⟨R.APL_BAND1, 9, 0⟩
def F.APL_BAND1_VC : Fld := ⟨R.APL_BAND1, 27, 16⟩
def R.APL_BAND2 : Nat := 0x1900048
def F.APL_BAND2_T_PH : Fld := ⟨R.APL_BAND2, 9, 0⟩
def F.APL_BAND2_VC : Fld := ⟨R.APL_BAND2, 27, 16⟩
def R.APL_BAND3 : Nat := 0x190004C
def F.APL_BAND3_T_PH : Fld := ⟨R.APL_BAND3, 9, 0⟩
def F.APL_BAND3_VC : Fld := ⟨R.APL_BAND3, 27, 16⟩
def R.APL_BAND4 : Nat := 0x1900050
def F.APL_BAND4_T_PH : Fld := ⟨R.APL_BAND4, 9, 0⟩
def F.APL_BAND4_VC : Fld := ⟨R.APL_BAND4, 27, 16⟩
def R.APL_BAND5 : Nat := 0x1900054
def F.APL_BAND5_T_PH : Fld := ⟨R.APL_BAND5, 9, 0⟩
def F.APL_BAND5_VC : Fld := ⟨R.APL_BAND5, 27, 16⟩
def R.APL_BAND6 : Nat := 0x1900058
def F.APL_BAND6_T_PH : Fld := ⟨R.APL_BAND6, 9, 0⟩
def F.APL_BAND6_VC : Fld := ⟨R.APL_BAND6, 27, 16⟩
def R.APL_BAND7 : Nat := 0x190005C
def F.APL_BAND7_T_PH : Fld := ⟨R.APL_BAND7, 9, 0⟩
def F.APL_BAND7_VC : Fld := ⟨R.APL_BAND7, 27, 16⟩
def R.APL_MASK (i : Nat) : Nat := 0x1901000 + 0x4 * i
def F.APL_MASK_CELLS (i : Nat) : Fld := ⟨(R.APL_MASK i), 31, 0⟩
def R.MET_CTRL : Nat := 0x1A00000
def F.MET_CTRL_ENABLE : Fld := ⟨R.MET_CTRL, 0, 0⟩
def F.MET_CTRL_MODE : Fld := ⟨R.MET_CTRL, 2, 1⟩
def F.MET_CTRL_LANES : Fld := ⟨R.MET_CTRL, 5, 4⟩
def F.MET_CTRL_LOCK : Fld := ⟨R.MET_CTRL, 8, 8⟩
def R.MET_PAR : Nat := 0x1A00004
def F.MET_PAR_BITS : Fld := ⟨R.MET_PAR, 4, 0⟩
def F.MET_PAR_VS_POL : Fld := ⟨R.MET_PAR, 5, 5⟩
def F.MET_PAR_HS_POL : Fld := ⟨R.MET_PAR, 6, 6⟩
def F.MET_PAR_PCLK_EDGE : Fld := ⟨R.MET_PAR, 7, 7⟩
def R.MET_CSI_LAT : Nat := 0x1A00008
def F.MET_CSI_LAT_NS : Fld := ⟨R.MET_CSI_LAT, 15, 0⟩
def R.MET_CCI : Nat := 0x1A0000C
def F.MET_CCI_SPEED : Fld := ⟨R.MET_CCI, 1, 0⟩
def F.MET_CCI_BUSY : Fld := ⟨R.MET_CCI, 8, 8⟩
def R.MET_ERR : Nat := 0x1A00010
def F.MET_ERR_CODE : Fld := ⟨R.MET_ERR, 7, 0⟩
def F.MET_ERR_COUNT : Fld := ⟨R.MET_ERR, 31, 16⟩
def R.MET_S_CFG (i : Nat) : Nat := 0x1A00100 + 0x40 * i
def F.MET_S_CFG_EN (i : Nat) : Fld := ⟨(R.MET_S_CFG i), 0, 0⟩
def F.MET_S_CFG_CFA (i : Nat) : Fld := ⟨(R.MET_S_CFG i), 3, 1⟩
def F.MET_S_CFG_DT (i : Nat) : Fld := ⟨(R.MET_S_CFG i), 9, 4⟩
def F.MET_S_CFG_TEST (i : Nat) : Fld := ⟨(R.MET_S_CFG i), 14, 12⟩
def F.MET_S_CFG_EXP_LATENCY (i : Nat) : Fld := ⟨(R.MET_S_CFG i), 18, 16⟩
def R.MET_S_SIZE (i : Nat) : Nat := 0x1A00104 + 0x40 * i
def F.MET_S_SIZE_W (i : Nat) : Fld := ⟨(R.MET_S_SIZE i), 15, 0⟩
def F.MET_S_SIZE_H (i : Nat) : Fld := ⟨(R.MET_S_SIZE i), 31, 16⟩
def R.MET_S_BL (i : Nat) : Nat := 0x1A00108 + 0x40 * i
def F.MET_S_BL_BL0 (i : Nat) : Fld := ⟨(R.MET_S_BL i), 15, 0⟩
def F.MET_S_BL_BL1 (i : Nat) : Fld := ⟨(R.MET_S_BL i), 31, 16⟩
def R.MET_S_BL2 (i : Nat) : Nat := 0x1A0010C + 0x40 * i
def F.MET_S_BL2_BL2 (i : Nat) : Fld := ⟨(R.MET_S_BL2 i), 15, 0⟩
def F.MET_S_BL2_BL3 (i : Nat) : Fld := ⟨(R.MET_S_BL2 i), 31, 16⟩
def R.MET_S_DPC_LO (i : Nat) : Nat := 0x1A00110 + 0x40 * i
def F.MET_S_DPC_LO_ADDR_LO (i : Nat) : Fld := ⟨(R.MET_S_DPC_LO i), 31, 0⟩
def R.MET_S_DPC_HI (i : Nat) : Nat := 0x1A00114 + 0x40 * i
def F.MET_S_DPC_HI_ADDR_HI (i : Nat) : Fld := ⟨(R.MET_S_DPC_HI i), 5, 0⟩
def F.MET_S_DPC_HI_COUNT (i : Nat) : Fld := ⟨(R.MET_S_DPC_HI i), 29, 16⟩
def R.MET_S_SHD_LO (i : Nat) : Nat := 0x1A00118 + 0x40 * i
def F.MET_S_SHD_LO_ADDR (i : Nat) : Fld := ⟨(R.MET_S_SHD_LO i), 31, 0⟩
def R.MET_S_SHD_HI (i : Nat) : Nat := 0x1A0011C + 0x40 * i
def F.MET_S_SHD_HI_ADDR (i : Nat) : Fld := ⟨(R.MET_S_SHD_HI i), 5, 0⟩
def R.MET_S_SPOT_LO (i : Nat) : Nat := 0x1A00120 + 0x40 * i
def F.MET_S_SPOT_LO_ADDR (i : Nat) : Fld := ⟨(R.MET_S_SPOT_LO i), 31, 0⟩
def R.MET_S_SPOT_HI (i : Nat) : Nat := 0x1A00124 + 0x40 * i
def F.MET_S_SPOT_HI_ADDR (i : Nat) : Fld := ⟨(R.MET_S_SPOT_HI i), 5, 0⟩
def F.MET_S_SPOT_HI_COUNT (i : Nat) : Fld := ⟨(R.MET_S_SPOT_HI i), 24, 16⟩
def R.MET_S_REC_LO (i : Nat) : Nat := 0x1A00128 + 0x40 * i
def F.MET_S_REC_LO_ADDR (i : Nat) : Fld := ⟨(R.MET_S_REC_LO i), 31, 14⟩
def R.MET_S_REC_HI (i : Nat) : Nat := 0x1A0012C + 0x40 * i
def F.MET_S_REC_HI_ADDR (i : Nat) : Fld := ⟨(R.MET_S_REC_HI i), 5, 0⟩
def F.MET_S_REC_HI_RING_LOG (i : Nat) : Fld := ⟨(R.MET_S_REC_HI i), 19, 16⟩
def R.MET_S_REC_IDX (i : Nat) : Nat := 0x1A00130 + 0x40 * i
def F.MET_S_REC_IDX_FRAME_SEQ (i : Nat) : Fld := ⟨(R.MET_S_REC_IDX i), 31, 0⟩
def R.MET_S_EXP_LO (i : Nat) : Nat := 0x1A00134 + 0x40 * i
def F.MET_S_EXP_LO_ADDR (i : Nat) : Fld := ⟨(R.MET_S_EXP_LO i), 31, 6⟩
def R.MET_S_EXP_HI (i : Nat) : Nat := 0x1A00138 + 0x40 * i
def F.MET_S_EXP_HI_ADDR (i : Nat) : Fld := ⟨(R.MET_S_EXP_HI i), 5, 0⟩
def R.MET_S_EXP_GO (i : Nat) : Nat := 0x1A0013C + 0x40 * i
def F.MET_S_EXP_GO_GO (i : Nat) : Fld := ⟨(R.MET_S_EXP_GO i), 0, 0⟩
def F.MET_S_EXP_GO_QUEUED (i : Nat) : Fld := ⟨(R.MET_S_EXP_GO i), 10, 8⟩
def R.MET_S_TEST_PERIOD (i : Nat) : Nat := 0x1A00218 + 0x4 * i
def F.MET_S_TEST_PERIOD_US (i : Nat) : Fld := ⟨(R.MET_S_TEST_PERIOD i), 19, 0⟩
def R.MET_T_CTRL (i : Nat) : Nat := 0x1A00300 + 0x20 * i
def F.MET_T_CTRL_ARM (i : Nat) : Fld := ⟨(R.MET_T_CTRL i), 0, 0⟩
def F.MET_T_CTRL_STREAM (i : Nat) : Fld := ⟨(R.MET_T_CTRL i), 2, 1⟩
def F.MET_T_CTRL_POINT (i : Nat) : Fld := ⟨(R.MET_T_CTRL i), 5, 4⟩
def F.MET_T_CTRL_COUNT (i : Nat) : Fld := ⟨(R.MET_T_CTRL i), 11, 8⟩
def F.MET_T_CTRL_BUSY (i : Nat) : Fld := ⟨(R.MET_T_CTRL i), 16, 16⟩
def R.MET_T_BASE_LO (i : Nat) : Nat := 0x1A00304 + 0x20 * i
def F.MET_T_BASE_LO_ADDR (i : Nat) : Fld := ⟨(R.MET_T_BASE_LO i), 31, 6⟩
def R.MET_T_BASE_HI (i : Nat) : Nat := 0x1A00308 + 0x20 * i
def F.MET_T_BASE_HI_ADDR (i : Nat) : Fld := ⟨(R.MET_T_BASE_HI i), 5, 0⟩
def R.MET_T_PITCH (i : Nat) : Nat := 0x1A0030C + 0x20 * i
def F.MET_T_PITCH_PITCH (i : Nat) : Fld := ⟨(R.MET_T_PITCH i), 17, 0⟩
def R.MET_T_DONE (i : Nat) : Nat := 0x1A00310 + 0x20 * i
def F.MET_T_DONE_FRAMES (i : Nat) : Fld := ⟨(R.MET_T_DONE i), 4, 0⟩
def F.MET_T_DONE_FIRST_SEQ (i : Nat) : Fld := ⟨(R.MET_T_DONE i), 31, 16⟩
def R.DMC_CTRL : Nat := 0x1B00000
def F.DMC_CTRL_MIG_CE_EN : Fld := ⟨R.DMC_CTRL, 0, 0⟩
def F.DMC_CTRL_SCRUB_EN : Fld := ⟨R.DMC_CTRL, 1, 1⟩
def F.DMC_CTRL_LOCK : Fld := ⟨R.DMC_CTRL, 8, 8⟩
def R.DMC_STATUS : Nat := 0x1B00004
def F.DMC_STATUS_FREQ : Fld := ⟨R.DMC_STATUS, 0, 0⟩
def F.DMC_STATUS_CHANGING : Fld := ⟨R.DMC_STATUS, 1, 1⟩
def F.DMC_STATUS_HOT : Fld := ⟨R.DMC_STATUS, 7, 4⟩
def F.DMC_STATUS_MIG : Fld := ⟨R.DMC_STATUS, 11, 8⟩
def F.DMC_STATUS_PANIC : Fld := ⟨R.DMC_STATUS, 12, 12⟩
def R.DMC_FREQ : Nat := 0x1B00008
def F.DMC_FREQ_TARGET : Fld := ⟨R.DMC_FREQ, 0, 0⟩
def F.DMC_FREQ_SET : Fld := ⟨R.DMC_FREQ, 4, 4⟩
def R.DMC_STARVE : Nat := 0x1B0000C
def F.DMC_STARVE_NS : Fld := ⟨R.DMC_STARVE, 15, 0⟩
def R.DMC_MIG_RATE : Nat := 0x1B00010
def F.DMC_MIG_RATE_RATE : Fld := ⟨R.DMC_MIG_RATE, 7, 0⟩
def R.DMC_CE_LIMIT : Nat := 0x1B00014
def F.DMC_CE_LIMIT_LIMIT : Fld := ⟨R.DMC_CE_LIMIT, 15, 0⟩
def R.DMC_FAULT : Nat := 0x1B00018
def F.DMC_FAULT_CODE : Fld := ⟨R.DMC_FAULT, 7, 0⟩
def R.DMC_UE_ADDR_LO : Nat := 0x1B00020
def F.DMC_UE_ADDR_LO_ADDR_LO : Fld := ⟨R.DMC_UE_ADDR_LO, 31, 0⟩
def R.DMC_UE_ADDR_HI : Nat := 0x1B00024
def F.DMC_UE_ADDR_HI_ADDR_HI : Fld := ⟨R.DMC_UE_ADDR_HI, 3, 0⟩
def R.DMC_UE_INFO : Nat := 0x1B00028
def F.DMC_UE_INFO_SRC : Fld := ⟨R.DMC_UE_INFO, 7, 0⟩
def F.DMC_UE_INFO_CODE : Fld := ⟨R.DMC_UE_INFO, 15, 8⟩
def F.DMC_UE_INFO_CW : Fld := ⟨R.DMC_UE_INFO, 23, 16⟩
def R.DMC_UE_COUNT : Nat := 0x1B0002C
def F.DMC_UE_COUNT_COUNT : Fld := ⟨R.DMC_UE_COUNT, 15, 0⟩
def R.DMC_REF_PREEMPT : Nat := 0x1B00030
def F.DMC_REF_PREEMPT_COUNT : Fld := ⟨R.DMC_REF_PREEMPT, 31, 0⟩
def R.DMC_PANIC_CYCLES : Nat := 0x1B00034
def F.DMC_PANIC_CYCLES_COUNT : Fld := ⟨R.DMC_PANIC_CYCLES, 31, 0⟩
def R.DMC_RANKMAP (i : Nat) : Nat := 0x1B00040 + 0x10 * i
def F.DMC_RANKMAP_LR0_POS (i : Nat) : Fld := ⟨(R.DMC_RANKMAP i), 1, 0⟩
def F.DMC_RANKMAP_LR1_POS (i : Nat) : Fld := ⟨(R.DMC_RANKMAP i), 5, 4⟩
def F.DMC_RANKMAP_SPARE_POS (i : Nat) : Fld := ⟨(R.DMC_RANKMAP i), 9, 8⟩
def F.DMC_RANKMAP_RETIRED (i : Nat) : Fld := ⟨(R.DMC_RANKMAP i), 14, 12⟩
def R.DMC_CE (i : Nat) : Nat := 0x1B00044 + 0x10 * i
def F.DMC_CE_COUNT (i : Nat) : Fld := ⟨(R.DMC_CE i), 23, 0⟩
def F.DMC_CE_DEVICE (i : Nat) : Fld := ⟨(R.DMC_CE i), 27, 24⟩
def F.DMC_CE_POS (i : Nat) : Fld := ⟨(R.DMC_CE i), 29, 28⟩
def R.DMC_MIG (i : Nat) : Nat := 0x1B00048 + 0x10 * i
def F.DMC_MIG_LINES (i : Nat) : Fld := ⟨(R.DMC_MIG i), 26, 0⟩
def F.DMC_MIG_FROM (i : Nat) : Fld := ⟨(R.DMC_MIG i), 29, 28⟩
def F.DMC_MIG_ACTIVE (i : Nat) : Fld := ⟨(R.DMC_MIG i), 31, 31⟩
def R.DMC_TEMP (i : Nat) : Nat := 0x1B0004C + 0x10 * i
def F.DMC_TEMP_MR4 (i : Nat) : Fld := ⟨(R.DMC_TEMP i), 2, 0⟩
def F.DMC_TEMP_HOT (i : Nat) : Fld := ⟨(R.DMC_TEMP i), 8, 8⟩
def R.DMC_TSET_A0 : Nat := 0x1B00100
def F.DMC_TSET_A0_tCL : Fld := ⟨R.DMC_TSET_A0, 7, 0⟩
def F.DMC_TSET_A0_tCWL : Fld := ⟨R.DMC_TSET_A0, 15, 8⟩
def F.DMC_TSET_A0_tRCD : Fld := ⟨R.DMC_TSET_A0, 23, 16⟩
def F.DMC_TSET_A0_tRP : Fld := ⟨R.DMC_TSET_A0, 31, 24⟩
def R.DMC_TSET_A1 : Nat := 0x1B00104
def F.DMC_TSET_A1_tRAS : Fld := ⟨R.DMC_TSET_A1, 7, 0⟩
def F.DMC_TSET_A1_tRC : Fld := ⟨R.DMC_TSET_A1, 15, 8⟩
def F.DMC_TSET_A1_tWR : Fld := ⟨R.DMC_TSET_A1, 23, 16⟩
def F.DMC_TSET_A1_tRTP : Fld := ⟨R.DMC_TSET_A1, 31, 24⟩
def R.DMC_TSET_A2 : Nat := 0x1B00108
def F.DMC_TSET_A2_tRRD_S : Fld := ⟨R.DMC_TSET_A2, 7, 0⟩
def F.DMC_TSET_A2_tRRD_L : Fld := ⟨R.DMC_TSET_A2, 15, 8⟩
def F.DMC_TSET_A2_tFAW : Fld := ⟨R.DMC_TSET_A2, 23, 16⟩
def F.DMC_TSET_A2_tCCD_L : Fld := ⟨R.DMC_TSET_A2, 31, 24⟩
def R.DMC_TSET_A3 : Nat := 0x1B0010C
def F.DMC_TSET_A3_tWTR_S : Fld := ⟨R.DMC_TSET_A3, 7, 0⟩
def F.DMC_TSET_A3_tWTR_L : Fld := ⟨R.DMC_TSET_A3, 15, 8⟩
def F.DMC_TSET_A3_tCCD_L_WR : Fld := ⟨R.DMC_TSET_A3, 23, 16⟩
def R.DMC_TSET_A4 : Nat := 0x1B00110
def F.DMC_TSET_A4_tRFC : Fld := ⟨R.DMC_TSET_A4, 15, 0⟩
def F.DMC_TSET_A4_tXS : Fld := ⟨R.DMC_TSET_A4, 31, 16⟩
def R.DMC_TSET_A5 : Nat := 0x1B00114
def F.DMC_TSET_A5_tREFI : Fld := ⟨R.DMC_TSET_A5, 15, 0⟩
def R.DMC_TSET_B0 : Nat := 0x1B00140
def F.DMC_TSET_B0_tCL : Fld := ⟨R.DMC_TSET_B0, 7, 0⟩
def F.DMC_TSET_B0_tCWL : Fld := ⟨R.DMC_TSET_B0, 15, 8⟩
def F.DMC_TSET_B0_tRCD : Fld := ⟨R.DMC_TSET_B0, 23, 16⟩
def F.DMC_TSET_B0_tRP : Fld := ⟨R.DMC_TSET_B0, 31, 24⟩
def R.DMC_TSET_B1 : Nat := 0x1B00144
def F.DMC_TSET_B1_tRAS : Fld := ⟨R.DMC_TSET_B1, 7, 0⟩
def F.DMC_TSET_B1_tRC : Fld := ⟨R.DMC_TSET_B1, 15, 8⟩
def F.DMC_TSET_B1_tWR : Fld := ⟨R.DMC_TSET_B1, 23, 16⟩
def F.DMC_TSET_B1_tRTP : Fld := ⟨R.DMC_TSET_B1, 31, 24⟩
def R.DMC_TSET_B2 : Nat := 0x1B00148
def F.DMC_TSET_B2_tRRD_S : Fld := ⟨R.DMC_TSET_B2, 7, 0⟩
def F.DMC_TSET_B2_tRRD_L : Fld := ⟨R.DMC_TSET_B2, 15, 8⟩
def F.DMC_TSET_B2_tFAW : Fld := ⟨R.DMC_TSET_B2, 23, 16⟩
def F.DMC_TSET_B2_tCCD_L : Fld := ⟨R.DMC_TSET_B2, 31, 24⟩
def R.DMC_TSET_B3 : Nat := 0x1B0014C
def F.DMC_TSET_B3_tWTR_S : Fld := ⟨R.DMC_TSET_B3, 7, 0⟩
def F.DMC_TSET_B3_tWTR_L : Fld := ⟨R.DMC_TSET_B3, 15, 8⟩
def F.DMC_TSET_B3_tCCD_L_WR : Fld := ⟨R.DMC_TSET_B3, 23, 16⟩
def R.DMC_TSET_B4 : Nat := 0x1B00150
def F.DMC_TSET_B4_tRFC : Fld := ⟨R.DMC_TSET_B4, 15, 0⟩
def F.DMC_TSET_B4_tXS : Fld := ⟨R.DMC_TSET_B4, 31, 16⟩
def R.DMC_TSET_B5 : Nat := 0x1B00154
def F.DMC_TSET_B5_tREFI : Fld := ⟨R.DMC_TSET_B5, 15, 0⟩
def R.MEM_CTRL : Nat := 0x1C00000
def F.MEM_CTRL_TEST_EN : Fld := ⟨R.MEM_CTRL, 0, 0⟩
def R.MEM_TEST_ROUNDS : Nat := 0x1C00004
def F.MEM_TEST_ROUNDS_COUNT : Fld := ⟨R.MEM_TEST_ROUNDS, 31, 0⟩
def R.MEM_COLLIDE_LO : Nat := 0x1C00008
def F.MEM_COLLIDE_LO_ADDR_LO : Fld := ⟨R.MEM_COLLIDE_LO, 31, 0⟩
def R.MEM_COLLIDE_HI : Nat := 0x1C0000C
def F.MEM_COLLIDE_HI_ADDR_HI : Fld := ⟨R.MEM_COLLIDE_HI, 5, 0⟩
def F.MEM_COLLIDE_HI_KIND : Fld := ⟨R.MEM_COLLIDE_HI, 9, 8⟩
def F.MEM_COLLIDE_HI_SRC : Fld := ⟨R.MEM_COLLIDE_HI, 23, 16⟩
def R.MEM_COLLIDE_COUNT : Nat := 0x1C00010
def F.MEM_COLLIDE_COUNT_COUNT : Fld := ⟨R.MEM_COLLIDE_COUNT, 15, 0⟩
def R.MEM_CE_COUNT : Nat := 0x1C00014
def F.MEM_CE_COUNT_COUNT : Fld := ⟨R.MEM_CE_COUNT, 15, 0⟩
def R.MEM_FAULT : Nat := 0x1C00018
def F.MEM_FAULT_CODE : Fld := ⟨R.MEM_FAULT, 7, 0⟩
def R.MEM_FAULT_ADDR : Nat := 0x1C0001C
def F.MEM_FAULT_ADDR_ADDR : Fld := ⟨R.MEM_FAULT_ADDR, 31, 0⟩

end Sys2Proof.Machine
end

