-- ==== Sys2Proof/Machine/RegTable.lean ====
section
/-! DEFINITION. The register map: every register of Table 20.2 with its fields, access codes, reset values, reserved
encodings and locks, from the field tables of chapters 00 to 20 (R9 to R16, R563). Each row cites its table. -/

namespace Sys2Proof.Machine

/-- Access codes of Table 0.5 (R14); `rovs` is ROV marked sticky (R16). -/
inductive Acc | rw | ro | rov | rovs | rc | w1c | w1s | wo | rws | rwl | rsvd
  deriving DecidableEq, Repr

/-- The encodings of a field that are not reserved (R13). -/
inductive Valid
  | any
  | range (lo hi : Nat)
  | oneOf (l : List Nat)
  /-- A signed field of `n` bits with magnitude at most `m`. -/
  | signed (n m : Nat)
  /-- A binary32 number from `lo` to `hi`, both given by their bits and not negative (R580). -/
  | f32 (lo hi : Nat)
  /-- A binary32 number from minus `lo` to `hi`. -/
  | f32Signed (lo hi : Nat)
  /-- A binary32 number of magnitude at most `m`. -/
  | f32Mag (m : Nat)
  /-- 0 or a hogel pitch of Table 5.14. -/
  | pitch
  /-- A frame instant offset in microseconds, signed 18 bits (Table 1.5, Table 14.8). -/
  | offset (lo hi : Int)
  deriving DecidableEq, Repr

/-- What locks an RWL or RW field (R14). -/
inductive Lock
  | none | cpxLock | lock8 | lock1 | thkQen | bltBusy | pdlTiming | pdlLock | sdsLock | lifecycle | tapBusy
  | dmcChanging
  deriving DecidableEq, Repr

/-- One field of a register. -/
structure FldRow where
  hi : Nat
  lo : Nat
  acc : Acc
  reset : Nat
  valid : Valid := .any
  lock : Lock := .none
  deriving DecidableEq, Repr

/-- One register or indexed group of registers: offset in its block, index dimensions (count, stride), fields. -/
structure RegRow where
  off : Nat
  dims : List (Nat × Nat) := []
  flds : List FldRow
  deriving DecidableEq, Repr

/-- Registers of block 0x00, CPX. -/
def regsCPX : List RegRow := [
  -- CPX_DEVICE_ID, Table 0.4 R4
  ⟨0x0, [], [⟨31, 16, .ro, 0x1024, .any, .none⟩, ⟨15, 12, .ro, 1, .any, .none⟩, ⟨11, 8, .ro, 0, .any, .none⟩, ⟨7, 0, .ro, 0x39, .any, .none⟩]⟩,
  -- CPX_RESET, Table 17.15
  ⟨0x4, [], [⟨1, 0, .wo, 0, .oneOf [1,2], .none⟩, ⟨31, 16, .wo, 0, .any, .none⟩]⟩,
  -- CPX_RESET_CAUSE, Table 17.15 R486
  ⟨0x8, [], [⟨7, 0, .rovs, 1, .any, .none⟩]⟩,
  -- CPX_START, Table 17.15 R499 R502
  ⟨0xC, [], [⟨3, 0, .rov, 0, .any, .none⟩, ⟨8, 8, .rov, 0, .any, .none⟩, ⟨9, 9, .rov, 0, .any, .none⟩, ⟨10, 10, .rov, 0, .any, .none⟩]⟩,
  -- CPX_BUS_ERR, Table 17.15 R490
  ⟨0x10, [], [⟨27, 0, .rov, 0, .any, .none⟩]⟩,
  -- CPX_BUS_ERR_COUNT, Table 17.15 R490
  ⟨0x14, [], [⟨15, 0, .rc, 0, .any, .none⟩]⟩,
  -- CPX_WDOG, Table 17.15 R485
  ⟨0x18, [], [⟨15, 0, .rwl, 0x3E8, .range 100 60000, .cpxLock⟩, ⟨31, 16, .rwl, 0x1F4, .range 50 10000, .cpxLock⟩]⟩,
  -- CPX_FAULT_RESTART, Table 17.15 R488
  ⟨0x1C, [], [⟨11, 0, .rwl, 0xA, .range 0 3600, .cpxLock⟩, ⟨16, 16, .w1s, 0, .any, .none⟩]⟩,
  -- CPX_EV_RAISE, Table 20.4 R566
  ⟨0x20, [], [⟨9, 0, .wo, 0, .range 480 639, .none⟩]⟩,
  -- CPX_START_MS, Table 17.15 R499
  ⟨0x44, [(11, 0x4)], [⟨15, 0, .rov, 0, .any, .none⟩]⟩,
  -- CPX_EV_ROUTE, Table 17.15 R491
  ⟨0x1000, [(640, 0x4)], [⟨11, 0, .rw, 1, .any, .none⟩, ⟨12, 12, .rw, 0, .any, .none⟩]⟩,
  -- CPX_EV_PEND, Table 17.15 R491
  ⟨0x2000, [(12, 0x80), (20, 0x4)], [⟨31, 0, .w1c, 0, .any, .none⟩]⟩,
  -- CPX_EV_EN, Table 17.15 R491
  ⟨0x3000, [(12, 0x80), (20, 0x4)], [⟨31, 0, .rw, 0, .any, .none⟩]⟩,
  -- CPX_EV_CLAIM, Table 17.15 R492
  ⟨0x3800, [(12, 0x4)], [⟨9, 0, .rc, 0, .any, .none⟩, ⟨31, 31, .rc, 1, .any, .none⟩]⟩]

/-- Registers of block 0x01, SEC. -/
def regsSEC : List RegRow := [
  -- SEC_LC, Table 18.15 R515
  ⟨0x0, [], [⟨2, 0, .ro, 0, .any, .none⟩]⟩,
  -- SEC_VERSION, Table 18.15 R521
  ⟨0x4, [], [⟨31, 0, .ro, 0, .any, .none⟩]⟩,
  -- SEC_VERSION_INFO, Table 18.15 R542
  ⟨0x8, [], [⟨7, 0, .ro, 0, .any, .none⟩]⟩,
  -- SEC_EXT_GO, Table 18.15 R519
  ⟨0xC, [], [⟨1, 0, .wo, 0, .any, .none⟩, ⟨8, 8, .wo, 0, .any, .none⟩]⟩,
  -- SEC_UID, Table 18.15 R516
  ⟨0x10, [(4, 0x4)], [⟨31, 0, .ro, 0, .any, .none⟩]⟩,
  -- SEC_BOOT, Table 18.15 R535
  ⟨0x20, [], [⟨0, 0, .rov, 0, .any, .none⟩, ⟨1, 1, .rov, 0, .any, .none⟩, ⟨9, 8, .rov, 0, .any, .none⟩, ⟨16, 16, .rovs, 0, .any, .none⟩]⟩,
  -- SEC_GUARD, Table 18.15 R528
  ⟨0x24, [], [⟨0, 0, .rov, 0, .any, .none⟩, ⟨1, 1, .rov, 0, .any, .none⟩, ⟨2, 2, .rov, 0, .any, .none⟩, ⟨3, 3, .rov, 0, .any, .none⟩]⟩,
  -- SEC_UPD_STATE, Table 18.15
  ⟨0x28, [], [⟨3, 0, .rov, 0, .any, .none⟩, ⟨31, 16, .rov, 0, .any, .none⟩]⟩,
  -- SEC_UPD_ID, Table 18.15
  ⟨0x2C, [], [⟨31, 0, .rov, 0, .any, .none⟩]⟩,
  -- SEC_UPD_BLOCKS, Table 18.15 R530
  ⟨0x30, [], [⟨12, 0, .rov, 0, .any, .none⟩, ⟨31, 16, .rc, 0, .any, .none⟩]⟩,
  -- SEC_HEALTH, Table 18.15 R540
  ⟨0x34, [], [⟨9, 0, .rov, 0, .any, .none⟩, ⟨22, 16, .rov, 0, .any, .none⟩]⟩,
  -- SEC_ATTEST_FAIL, Table 18.15 R523
  ⟨0x38, [], [⟨15, 0, .rc, 0, .any, .none⟩, ⟨23, 16, .rov, 0, .any, .none⟩]⟩,
  -- SEC_ATTEST_NODE, Table 18.15 R523
  ⟨0x3C, [], [⟨15, 0, .rov, 0, .any, .none⟩]⟩,
  -- SEC_EXT_DATA, Table 18.15 R519
  ⟨0x80, [(16, 0x4)], [⟨31, 0, .wo, 0, .any, .none⟩]⟩,
  -- SEC_M, Table 18.15 R519
  ⟨0x100, [(16, 0x40), (16, 0x4)], [⟨31, 0, .rov, 0, .any, .none⟩]⟩]

/-- Registers of block 0x02, HKP. -/
def regsHKP : List RegRow := [
  -- HKP_CTRL, Table 19.8 R554
  ⟨0x0, [], [⟨0, 0, .rwl, 1, .any, .lock8⟩, ⟨8, 8, .w1s, 0, .any, .none⟩]⟩,
  -- HKP_TEMP, Table 19.8 R547 R550
  ⟨0x4, [], [⟨15, 0, .rov, 0, .any, .none⟩, ⟨17, 16, .rov, 0, .any, .none⟩, ⟨31, 31, .rov, 0, .any, .none⟩]⟩,
  -- HKP_TEMP_MAX, Table 19.8
  ⟨0x8, [], [⟨15, 0, .rc, 0x8000, .any, .none⟩]⟩,
  -- HKP_ROUND, Table 19.8
  ⟨0xC, [], [⟨31, 0, .rov, 0, .any, .none⟩]⟩,
  -- HKP_SUPPLY, Table 19.8 R549
  ⟨0x10, [], [⟨9, 1, .w1c, 0, .any, .none⟩, ⟨25, 17, .rov, 0, .any, .none⟩]⟩,
  -- HKP_FAULT, Table 19.8 R559
  ⟨0x14, [], [⟨7, 0, .rovs, 0, .any, .none⟩, ⟨15, 8, .rovs, 0, .any, .none⟩, ⟨23, 16, .rovs, 0, .any, .none⟩, ⟨27, 24, .rovs, 0, .any, .none⟩, ⟨31, 31, .rovs, 0, .any, .none⟩]⟩,
  -- HKP_FAULT_FSN, Table 19.8 R559
  ⟨0x18, [], [⟨31, 0, .rovs, 0, .any, .none⟩]⟩,
  -- HKP_FAULT_DETAIL, Table 19.8 R559
  ⟨0x1C, [], [⟨31, 0, .rovs, 0, .any, .none⟩]⟩,
  -- HKP_BIST, Table 19.8 R557
  ⟨0x20, [], [⟨1, 0, .rov, 0, .any, .none⟩, ⟨4, 4, .rov, 0, .any, .none⟩, ⟨11, 8, .rov, 0, .any, .none⟩, ⟨31, 16, .rov, 0, .any, .none⟩]⟩,
  -- HKP_CH, Table 19.8 R546
  ⟨0x40, [(16, 0x4)], [⟨15, 0, .rov, 0, .any, .none⟩]⟩]

/-- Registers of block 0x03, NVM. -/
def regsNVM : List RegRow := [
  -- NVM_STATUS, Table 17.16 R495
  ⟨0x0, [], [⟨15, 0, .rov, 0, .any, .none⟩, ⟨16, 16, .rov, 0, .any, .none⟩]⟩,
  -- NVM_ECC, Table 17.16 R495
  ⟨0x4, [], [⟨15, 0, .rc, 0, .any, .none⟩, ⟨31, 16, .rc, 0, .any, .none⟩]⟩]

/-- Registers of block 0x04, MGT. -/
def regsMGT : List RegRow := [
  -- MGT_CTRL, Table 17.16 R504 R505
  ⟨0x0, [], [⟨0, 0, .rw, 0, .any, .none⟩, ⟨2, 1, .rwl, 1, .range 1 2, .lock8⟩, ⟨5, 4, .rwl, 0, .range 0 2, .lifecycle⟩, ⟨8, 8, .w1s, 0, .any, .none⟩]⟩,
  -- MGT_STATUS, Table 17.16 R504
  ⟨0x4, [], [⟨0, 0, .rov, 0, .any, .none⟩, ⟨1, 1, .rov, 0, .any, .none⟩, ⟨11, 8, .rov, 0, .any, .none⟩]⟩,
  -- MGT_MAC_LO, Table 17.16
  ⟨0x8, [], [⟨31, 0, .ro, 0, .any, .none⟩]⟩,
  -- MGT_MAC_HI, Table 17.16
  ⟨0xC, [], [⟨15, 0, .ro, 0, .any, .none⟩]⟩,
  -- MGT_IP, Table 17.16
  ⟨0x10, [], [⟨31, 0, .rwl, 0, .any, .lock8⟩]⟩,
  -- MGT_NETMASK, Table 17.16
  ⟨0x14, [], [⟨31, 0, .rwl, 0, .any, .lock8⟩]⟩,
  -- MGT_GATEWAY, Table 17.16
  ⟨0x18, [], [⟨31, 0, .rwl, 0, .any, .lock8⟩]⟩,
  -- MGT_IPCFG, Table 17.16
  ⟨0x1C, [], [⟨0, 0, .rwl, 1, .any, .lock8⟩, ⟨31, 16, .rwl, 0x1BDA, .range 1 65535, .lock8⟩]⟩,
  -- MGT_RX_DROP, Table 17.16
  ⟨0x20, [], [⟨31, 0, .rc, 0, .any, .none⟩]⟩]

/-- Registers of block 0x05, FAB. -/
def regsFAB : List RegRow := [
  -- FAB_CTRL, Table 12.11
  ⟨0x0, [], [⟨0, 0, .rw, 0, .any, .none⟩, ⟨1, 1, .w1s, 0, .any, .none⟩]⟩,
  -- FAB_ROLE, Table 12.12
  ⟨0x4, [], [⟨0, 0, .rwl, 0, .any, .lock1⟩, ⟨13, 8, .rwl, 0, .any, .lock1⟩]⟩,
  -- FAB_EXPECT, Table 12.12
  ⟨0x8, [], [⟨15, 0, .rwl, 0, .range 0 32767, .lock1⟩]⟩,
  -- FAB_GUEST_ID, Table 12.12
  ⟨0xC, [], [⟨9, 0, .rwl, 0, .any, .lock1⟩, ⟨25, 16, .rwl, 0, .any, .lock1⟩]⟩,
  -- FAB_TIMING, Table 12.12
  ⟨0x10, [], [⟨15, 0, .rwl, 0x3E8, .range 100 50000, .lock1⟩, ⟨31, 16, .rwl, 0x7D0, .range 100 60000, .lock1⟩]⟩,
  -- FAB_COORD, Table 12.12 R355
  ⟨0x14, [], [⟨14, 0, .rov, 0, .any, .none⟩, ⟨31, 31, .rov, 0, .any, .none⟩]⟩,
  -- FAB_PORT_STATE, Table 12.12
  ⟨0x18, [], [⟨3, 0, .rov, 0, .any, .none⟩, ⟨7, 4, .rov, 0, .any, .none⟩, ⟨11, 8, .rov, 0, .any, .none⟩, ⟨15, 12, .rov, 0, .any, .none⟩, ⟨19, 16, .rov, 0, .any, .none⟩, ⟨23, 20, .rov, 0, .any, .none⟩]⟩,
  -- FAB_LINK_TABLE, Table 12.12 R359
  ⟨0x1C, [], [⟨6, 0, .rov, 0, .any, .none⟩, ⟨8, 8, .w1c, 0, .any, .none⟩]⟩,
  -- FAB_GUEST_COUNT, Table 12.12
  ⟨0x20, [], [⟨10, 0, .rov, 0, .any, .none⟩]⟩,
  -- FAB_FAULT, Table 12.12
  ⟨0x24, [], [⟨7, 0, .rovs, 0, .any, .none⟩]⟩,
  -- FAB_DISCARD, Table 12.12 R373
  ⟨0x28, [], [⟨15, 0, .rc, 0, .any, .none⟩, ⟨31, 16, .rc, 0, .any, .none⟩]⟩,
  -- FAB_REORDER, Table 12.12 R364
  ⟨0x2C, [], [⟨15, 0, .rc, 0, .any, .none⟩]⟩,
  -- FAB_FIRST_DISCARD, Table 12.12 R373
  ⟨0x30, [], [⟨7, 0, .rov, 0, .any, .none⟩, ⟨31, 16, .rov, 0, .any, .none⟩]⟩,
  -- FAB_P_CRC, Table 12.13
  ⟨0x100, [(6, 0x20)], [⟨15, 0, .rc, 0, .any, .none⟩, ⟨31, 16, .rc, 0, .any, .none⟩]⟩,
  -- FAB_P_REPLAY, Table 12.13
  ⟨0x104, [(6, 0x20)], [⟨15, 0, .rc, 0, .any, .none⟩, ⟨31, 16, .rc, 0, .any, .none⟩]⟩,
  -- FAB_P_CREDIT_STALL, Table 12.13
  ⟨0x108, [(6, 0x20)], [⟨31, 0, .rc, 0, .any, .none⟩]⟩,
  -- FAB_P_TX, Table 12.13
  ⟨0x10C, [(6, 0x20)], [⟨31, 0, .rc, 0, .any, .none⟩]⟩,
  -- FAB_P_RX, Table 12.13
  ⟨0x110, [(6, 0x20)], [⟨31, 0, .rc, 0, .any, .none⟩]⟩]

/-- Registers of block 0x06, TIM. -/
def regsTIM : List RegRow := [
  -- TIM_CTRL, Table 13.7
  ⟨0x0, [], [⟨0, 0, .rw, 0, .any, .none⟩, ⟨1, 1, .rw, 0, .any, .none⟩, ⟨2, 2, .rw, 0, .any, .none⟩, ⟨8, 8, .w1s, 0, .any, .none⟩]⟩,
  -- TIM_ROOT, Table 13.7 R399
  ⟨0x4, [], [⟨15, 0, .rwl, 0, .range 0 32767, .lock8⟩, ⟨31, 16, .rwl, 0, .range 0 32767, .lock8⟩]⟩,
  -- TIM_STATUS, Table 13.7
  ⟨0x8, [], [⟨2, 0, .rov, 0, .any, .none⟩, ⟨6, 4, .rov, 0, .any, .none⟩, ⟨8, 8, .rov, 0, .any, .none⟩, ⟨9, 9, .rov, 0, .any, .none⟩, ⟨22, 16, .rov, 0x40, .any, .none⟩, ⟨30, 24, .rov, 0x40, .any, .none⟩]⟩,
  -- TIM_PARENT, Table 13.7
  ⟨0xC, [], [⟨2, 0, .rov, 7, .any, .none⟩, ⟨6, 4, .rov, 7, .any, .none⟩, ⟨11, 8, .rov, 0, .any, .none⟩, ⟨15, 12, .rov, 0, .any, .none⟩]⟩,
  -- TIM_NOW_NS, Table 13.7 R404
  ⟨0x10, [], [⟨31, 0, .rov, 0, .any, .none⟩]⟩,
  -- TIM_NOW_FRAC, Table 13.7 R404
  ⟨0x14, [], [⟨7, 0, .rov, 0, .any, .none⟩, ⟨8, 8, .rov, 0, .any, .none⟩]⟩,
  -- TIM_NOW_LOCAL, Table 13.7 R404
  ⟨0x18, [], [⟨31, 0, .rov, 0, .any, .none⟩]⟩,
  -- TIM_THETA_A, Table 13.7 R382
  ⟨0x1C, [], [⟨31, 0, .rov, 0, .any, .none⟩]⟩,
  -- TIM_THETA_B, Table 13.7 R382
  ⟨0x20, [], [⟨31, 0, .rov, 0, .any, .none⟩]⟩,
  -- TIM_HOUSE_OFFSET, Table 13.7
  ⟨0x24, [], [⟨31, 0, .rov, 0, .any, .none⟩]⟩,
  -- TIM_HOUSE_SEC_LO, Table 13.7 R404
  ⟨0x28, [], [⟨31, 0, .rov, 0, .any, .none⟩]⟩,
  -- TIM_HOUSE_SEC_HI, Table 13.7 R404
  ⟨0x2C, [], [⟨15, 0, .rov, 0, .any, .none⟩]⟩,
  -- TIM_PTP_CFG, Table 13.7 R400
  ⟨0x30, [], [⟨7, 0, .rwl, 0x7F, .any, .lock8⟩, ⟨11, 8, .rwl, 3, .range 2 10, .lock8⟩]⟩,
  -- TIM_PTP_PHY, Table 13.7 R378
  ⟨0x34, [], [⟨15, 0, .rwl, 0, .any, .lock8⟩, ⟨31, 16, .rwl, 0, .any, .lock8⟩]⟩,
  -- TIM_ASYM, Table 13.7 R383
  ⟨0x40, [(4, 0x4)], [⟨11, 0, .rwl, 0, .signed 12 1024, .lock8⟩, ⟨27, 16, .rov, 0, .any, .none⟩, ⟨31, 31, .rov, 0, .any, .none⟩]⟩,
  -- TIM_DELAY, Table 13.7 R382
  ⟨0x50, [(4, 0x4)], [⟨23, 0, .rov, 0, .any, .none⟩, ⟨31, 31, .rov, 0, .any, .none⟩]⟩,
  -- TIM_CAP_CTRL, Table 13.7 R401
  ⟨0x100, [(9, 0x20)], [⟨0, 0, .rw, 0, .any, .none⟩, ⟨2, 1, .rw, 1, .range 1 3, .none⟩, ⟨3, 3, .rw, 0, .any, .none⟩]⟩,
  -- TIM_CAP_WSTART, Table 13.7 R401
  ⟨0x104, [(9, 0x20)], [⟨31, 0, .rw, 0, .any, .none⟩]⟩,
  -- TIM_CAP_WEND, Table 13.7 R401
  ⟨0x108, [(9, 0x20)], [⟨31, 0, .rw, 0, .any, .none⟩]⟩,
  -- TIM_CAP_NS, Table 13.7 R402
  ⟨0x10C, [(9, 0x20)], [⟨31, 0, .rov, 0, .any, .none⟩]⟩,
  -- TIM_CAP_INFO, Table 13.7 R402
  ⟨0x110, [(9, 0x20)], [⟨7, 0, .rov, 0, .any, .none⟩, ⟨8, 8, .rov, 0, .any, .none⟩, ⟨9, 9, .rov, 0, .any, .none⟩, ⟨10, 10, .rov, 0, .any, .none⟩, ⟨16, 12, .rov, 0, .any, .none⟩, ⟨23, 20, .rc, 0, .any, .none⟩, ⟨24, 24, .w1c, 0, .any, .none⟩]⟩]

/-- Registers of block 0x07, CMT, part 0. -/
def regsCMT_0 : List RegRow := [
  -- CMT_CTRL, Table 14.8
  ⟨0x0, [], [⟨0, 0, .rw, 0, .any, .none⟩, ⟨8, 8, .w1s, 0, .any, .none⟩]⟩,
  -- CMT_STATE, Table 14.8 R39 R42 R45
  ⟨0x4, [], [⟨1, 0, .rov, 0, .any, .none⟩, ⟨5, 4, .rov, 0, .any, .none⟩, ⟨8, 8, .rov, 0, .any, .none⟩, ⟨25, 16, .rov, 0, .any, .none⟩]⟩,
  -- CMT_GEN, Table 14.8
  ⟨0x8, [], [⟨31, 0, .rov, 0, .any, .none⟩]⟩,
  -- CMT_VOTE_FSN, Table 14.8
  ⟨0xC, [], [⟨31, 0, .rov, 0, .any, .none⟩]⟩,
  -- CMT_VOTE, Table 14.8 R407
  ⟨0x10, [], [⟨0, 0, .rov, 0, .any, .none⟩, ⟨31, 16, .rov, 0, .any, .none⟩]⟩,
  -- CMT_DEC_FSN, Table 14.8
  ⟨0x14, [], [⟨31, 0, .rov, 0, .any, .none⟩]⟩,
  -- CMT_DEC, Table 14.8
  ⟨0x18, [], [⟨1, 0, .rov, 0, .any, .none⟩, ⟨31, 16, .rov, 0, .any, .none⟩]⟩,
  -- CMT_DEC_NODE, Table 14.8
  ⟨0x1C, [], [⟨15, 0, .rov, 0, .any, .none⟩, ⟨31, 16, .rov, 0, .any, .none⟩]⟩,
  -- CMT_FAULT, Table 14.8
  ⟨0x20, [], [⟨7, 0, .rovs, 0, .any, .none⟩]⟩,
  -- CMT_NO_DECISION, Table 14.8 R414
  ⟨0x24, [], [⟨15, 0, .rc, 0, .any, .none⟩]⟩,
  -- CMT_LATE_AGG, Table 14.8 R410
  ⟨0x28, [], [⟨15, 0, .rc, 0, .any, .none⟩]⟩,
  -- CMT_SCREEN_CMD, Table 14.8 R416
  ⟨0x2C, [], [⟨2, 0, .wo, 0, .range 1 4, .none⟩]⟩,
  -- CMT_T_SCENE, Table 14.8 R34
  ⟨0x30, [], [⟨17, 0, .rwl, 0x3C568, .offset (-40000) (-2000), .lock8⟩]⟩,
  -- CMT_T_AMEND, Table 14.8 R34
  ⟨0x34, [], [⟨17, 0, .rwl, 0x3F060, .offset (-20000) (-1000), .lock8⟩]⟩,
  -- CMT_T_VOTE, Table 14.8 R34
  ⟨0x38, [], [⟨17, 0, .rwl, 0x3FA24, .offset (-5000) (-400), .lock8⟩]⟩,
  -- CMT_T_COMMIT, Table 14.8 R34
  ⟨0x3C, [], [⟨17, 0, .rwl, 0x3FCE0, .offset (-4000) (-300), .lock8⟩]⟩,
  -- CMT_T_LOCAL, Table 14.8 R34
  ⟨0x40, [], [⟨17, 0, .rwl, 0x3FF38, .offset (-1000) (-100), .lock8⟩]⟩,
  -- CMT_HOLD_LIMIT, Table 14.8 R42
  ⟨0x44, [], [⟨9, 0, .rwl, 0x1E, .range 1 600, .lock8⟩]⟩,
  -- CMT_RATE, Table 14.8 R33 R422
  ⟨0x48, [], [⟨2, 0, .rwl, 2, .range 0 5, .lock8⟩, ⟨8, 8, .rwl, 0, .any, .lock8⟩]⟩,
  -- CMT_GENLOCK_OFS, Table 14.8 R422
  ⟨0x4C, [], [⟨31, 0, .rwl, 0, .any, .lock8⟩]⟩,
  -- CMT_ANCHOR_NS, Table 14.8 R32
  ⟨0x50, [], [⟨31, 0, .rov, 0, .any, .none⟩]⟩,
  -- CMT_ANCHOR_FSN, Table 14.8 R32
  ⟨0x54, [], [⟨31, 0, .rov, 0, .any, .none⟩]⟩,
  -- CMT_ANCHOR_FRAC, Table 14.8 R32
  ⟨0x58, [], [⟨7, 0, .rov, 0, .any, .none⟩]⟩,
  -- CMT_ACT_FSN, Table 14.8 R423
  ⟨0x5C, [], [⟨31, 0, .rov, 0, .any, .none⟩]⟩]

/-- Registers of block 0x07, CMT, part 1. -/
def regsCMT_1 : List RegRow := [
  -- CMT_ACT_ID, Table 14.8 R423
  ⟨0x60, [], [⟨31, 0, .rov, 0, .any, .none⟩]⟩,
  -- CMT_ACT_STATE, Table 14.8 R423
  ⟨0x64, [], [⟨0, 0, .rov, 0, .any, .none⟩]⟩]

/-- Registers of block 0x08, ING. -/
def regsING : List RegRow := [
  -- ING_STREAM, Table 2.16 R51
  ⟨0x0, [], [⟨16, 16, .rws, 0, .any, .none⟩, ⟨15, 0, .rws, 0, .any, .none⟩]⟩,
  -- ING_SOURCE, Table 2.17 R51
  ⟨0x4, [], [⟨15, 0, .rws, 0, .any, .none⟩]⟩,
  -- ING_ERR_FSN, Table 2.18
  ⟨0x10, [], [⟨31, 0, .rov, 0, .any, .none⟩]⟩,
  -- ING_ERR_INFO, Table 2.19
  ⟨0x14, [], [⟨31, 16, .rov, 0, .any, .none⟩, ⟨15, 8, .rov, 0, .any, .none⟩, ⟨7, 0, .rov, 0, .any, .none⟩]⟩,
  -- ING_FOREIGN_COUNT, Table 2.20
  ⟨0x18, [], [⟨31, 16, .rc, 0, .any, .none⟩, ⟨15, 0, .rc, 0, .any, .none⟩]⟩,
  -- ING_SPEC_CTRL, Table 6.9 R187
  ⟨0x40, [], [⟨0, 0, .rws, 0, .any, .none⟩]⟩,
  -- ING_EPOCH_C, Table 6.10 R207
  ⟨0x44, [], [⟨31, 0, .rov, 0, .any, .none⟩]⟩,
  -- ING_EPOCH_P, Table 6.11 R207
  ⟨0x48, [], [⟨31, 0, .rov, 0, .any, .none⟩]⟩,
  -- ING_EPOCH_S, Table 6.12 R207
  ⟨0x4C, [], [⟨31, 0, .rov, 0, .any, .none⟩]⟩,
  -- ING_EPOCH_STATE, Table 6.13 R200 R207
  ⟨0x50, [], [⟨18, 18, .rov, 0, .any, .none⟩, ⟨17, 16, .rov, 2, .any, .none⟩, ⟨15, 14, .rov, 1, .any, .none⟩, ⟨13, 12, .rov, 0, .any, .none⟩, ⟨8, 8, .rov, 0, .any, .none⟩, ⟨7, 4, .rov, 0, .any, .none⟩, ⟨3, 0, .rov, 0, .any, .none⟩]⟩,
  -- ING_ROLLBACK_FSN, Table 6.14 R197
  ⟨0x54, [], [⟨31, 0, .rov, 0, .any, .none⟩]⟩,
  -- ING_ROLLBACK_COUNT, Table 6.15 R197
  ⟨0x58, [], [⟨15, 0, .rc, 0, .any, .none⟩]⟩,
  -- ING_RECLAIM, Table 6.16 R206
  ⟨0x5C, [], [⟨19, 0, .rov, 0, .any, .none⟩]⟩,
  -- ING_TEX_STORE, Table 2.20a R84
  ⟨0x60, [], [⟨15, 0, .rov, 0x6000, .any, .none⟩]⟩]

/-- Registers of block 0x09, THK. -/
def regsTHK : List RegRow := [
  -- THK_CTRL, Table 3.9 R115
  ⟨0x0, [], [⟨7, 7, .w1s, 0, .any, .none⟩, ⟨6, 6, .w1s, 0, .any, .none⟩, ⟨5, 5, .w1s, 0, .any, .none⟩, ⟨0, 0, .rw, 0, .any, .none⟩]⟩,
  -- THK_STATUS, Table 3.10
  ⟨0x4, [], [⟨4, 4, .rov, 0, .any, .none⟩, ⟨3, 0, .rov, 0, .any, .none⟩]⟩,
  -- THK_QBASE_LO, Table 3.11
  ⟨0x100, [(3, 0x100)], [⟨31, 6, .rwl, 0, .any, .thkQen⟩]⟩,
  -- THK_QBASE_HI, Table 3.12
  ⟨0x104, [(3, 0x100)], [⟨5, 0, .rwl, 0, .any, .thkQen⟩]⟩,
  -- THK_QCFG, Table 3.13
  ⟨0x108, [(3, 0x100)], [⟨4, 4, .rw, 0, .any, .none⟩, ⟨3, 0, .rwl, 4, .range 4 12, .thkQen⟩]⟩,
  -- THK_QTAIL, Table 3.14 R118
  ⟨0x10C, [(3, 0x100)], [⟨12, 0, .rw, 0, .any, .none⟩]⟩,
  -- THK_QHEAD, Table 3.15 R113
  ⟨0x110, [(3, 0x100)], [⟨12, 0, .rov, 0, .any, .none⟩]⟩]

/-- Registers of block 0x0A, BIN. -/
def regsBIN : List RegRow := [
  -- BIN_CTRL, Table 4.6
  ⟨0x0, [], [⟨1, 1, .w1s, 0, .any, .none⟩, ⟨0, 0, .rw, 0, .any, .none⟩]⟩,
  -- BIN_MARGIN, Table 4.7 R123
  ⟨0x4, [], [⟨31, 0, .rwl, 0x3B03126F, .f32 0 0x3CA3D70A, .lock1⟩]⟩,
  -- BIN_BOUNDS_LO, Table 4.8 R124
  ⟨0x8, [], [⟨31, 12, .rws, 0, .any, .none⟩]⟩,
  -- BIN_BOUNDS_HI, Table 4.9 R124
  ⟨0xC, [], [⟨5, 0, .rws, 0, .any, .none⟩]⟩,
  -- BIN_OVF_FSN, Table 4.10 R132
  ⟨0x20, [], [⟨31, 0, .rov, 0, .any, .none⟩]⟩,
  -- BIN_OVF_INFO, Table 4.11 R132
  ⟨0x24, [], [⟨31, 16, .rov, 0, .any, .none⟩, ⟨12, 0, .rov, 0, .any, .none⟩]⟩,
  -- BIN_MAX_LIST, Table 4.12
  ⟨0x28, [], [⟨28, 16, .rov, 0, .any, .none⟩, ⟨5, 0, .rov, 0, .any, .none⟩]⟩,
  -- BIN_INVAL_COUNT, Table 4.13 R137
  ⟨0x2C, [], [⟨13, 0, .rov, 0, .any, .none⟩]⟩,
  -- BIN_INVAL_FSN, Table 4.14 R137
  ⟨0x30, [], [⟨31, 0, .rov, 0, .any, .none⟩]⟩,
  -- BIN_LATE, Table 4.15 R140
  ⟨0x34, [], [⟨15, 0, .rc, 0, .any, .none⟩]⟩]

/-- Registers of block 0x0B, GRV0. -/
def regsGRV0 : List RegRow := [
  -- GRV_CTRL0, Table 5.7 R177
  ⟨0x0, [], [⟨0, 0, .rw, 0, .any, .none⟩]⟩,
  -- GRV_CLK0, Table 5.8 R178
  ⟨0x4, [], [⟨1, 0, .rw, 0, .any, .none⟩]⟩,
  -- GRV_STATUS0, Table 5.9 R172
  ⟨0x8, [], [⟨16, 16, .rov, 0, .any, .none⟩, ⟨15, 0, .rov, 0, .any, .none⟩]⟩,
  -- GRV_CACHE_HIT0, Table 5.10
  ⟨0x10, [], [⟨31, 0, .rc, 0, .any, .none⟩]⟩,
  -- GRV_CACHE_MISS0, Table 5.11
  ⟨0x14, [], [⟨31, 0, .rc, 0, .any, .none⟩]⟩,
  -- GRV_DIR_LO, Table 5.12 R150
  ⟨0x100, [], [⟨31, 16, .rws, 0, .any, .none⟩]⟩,
  -- GRV_DIR_HI, Table 5.13 R150
  ⟨0x104, [], [⟨5, 0, .rws, 0, .any, .none⟩]⟩,
  -- GRV_PITCH, Table 5.14 R177
  ⟨0x108, [], [⟨31, 0, .rws, 0, .pitch, .none⟩]⟩,
  -- GRV_FP_SX, Table 5.15 R161
  ⟨0x10C, [], [⟨31, 0, .rws, 0, .f32 0 0x3DCCCCCD, .none⟩]⟩,
  -- GRV_FP_SY, Table 5.16 R161
  ⟨0x110, [], [⟨31, 0, .rws, 0, .f32 0 0x3DCCCCCD, .none⟩]⟩,
  -- GRV_LOD_BIAS, Table 5.17 R163
  ⟨0x114, [], [⟨10, 0, .rws, 0, .signed 11 512, .none⟩]⟩,
  -- GRV_PANIC_LEAD, Table 5.18 R172
  ⟨0x118, [], [⟨15, 0, .rw, 0x7D0, .any, .none⟩]⟩,
  -- GRV_SYNTH_FSN, Table 5.19 R175
  ⟨0x120, [], [⟨31, 0, .rov, 0, .any, .none⟩]⟩,
  -- GRV_DIR_ERR, Table 5.20 R153
  ⟨0x124, [], [⟨31, 31, .rov, 0, .any, .none⟩, ⟨19, 10, .rov, 0, .any, .none⟩, ⟨9, 0, .rov, 0, .any, .none⟩]⟩,
  -- GRV_POISON_RAY, Table 5.21 R173
  ⟨0x128, [], [⟨31, 0, .rov, 0, .any, .none⟩]⟩,
  -- GRV_LATE_COUNT, Table 5.22 R176
  ⟨0x12C, [], [⟨15, 0, .rc, 0, .any, .none⟩]⟩]

/-- Registers of block 0x0C, GRV1. -/
def regsGRV1 : List RegRow := [
  -- GRV_CTRL1, Table 5.7 R177
  ⟨0x0, [], [⟨0, 0, .rw, 0, .any, .none⟩]⟩,
  -- GRV_CLK1, Table 5.8 R178
  ⟨0x4, [], [⟨1, 0, .rw, 0, .any, .none⟩]⟩,
  -- GRV_STATUS1, Table 5.9 R172
  ⟨0x8, [], [⟨16, 16, .rov, 0, .any, .none⟩, ⟨15, 0, .rov, 0, .any, .none⟩]⟩,
  -- GRV_CACHE_HIT1, Table 5.10
  ⟨0x10, [], [⟨31, 0, .rc, 0, .any, .none⟩]⟩,
  -- GRV_CACHE_MISS1, Table 5.11
  ⟨0x14, [], [⟨31, 0, .rc, 0, .any, .none⟩]⟩]

/-- Registers of block 0x0D, GRV2. -/
def regsGRV2 : List RegRow := [
  -- GRV_CTRL2, Table 5.7 R177
  ⟨0x0, [], [⟨0, 0, .rw, 0, .any, .none⟩]⟩,
  -- GRV_CLK2, Table 5.8 R178
  ⟨0x4, [], [⟨1, 0, .rw, 0, .any, .none⟩]⟩,
  -- GRV_STATUS2, Table 5.9 R172
  ⟨0x8, [], [⟨16, 16, .rov, 0, .any, .none⟩, ⟨15, 0, .rov, 0, .any, .none⟩]⟩,
  -- GRV_CACHE_HIT2, Table 5.10
  ⟨0x10, [], [⟨31, 0, .rc, 0, .any, .none⟩]⟩,
  -- GRV_CACHE_MISS2, Table 5.11
  ⟨0x14, [], [⟨31, 0, .rc, 0, .any, .none⟩]⟩]

/-- Registers of block 0x0E, GRV3. -/
def regsGRV3 : List RegRow := [
  -- GRV_CTRL3, Table 5.7 R177
  ⟨0x0, [], [⟨0, 0, .rw, 0, .any, .none⟩]⟩,
  -- GRV_CLK3, Table 5.8 R178
  ⟨0x4, [], [⟨1, 0, .rw, 0, .any, .none⟩]⟩,
  -- GRV_STATUS3, Table 5.9 R172
  ⟨0x8, [], [⟨16, 16, .rov, 0, .any, .none⟩, ⟨15, 0, .rov, 0, .any, .none⟩]⟩,
  -- GRV_CACHE_HIT3, Table 5.10
  ⟨0x10, [], [⟨31, 0, .rc, 0, .any, .none⟩]⟩,
  -- GRV_CACHE_MISS3, Table 5.11
  ⟨0x14, [], [⟨31, 0, .rc, 0, .any, .none⟩]⟩]

/-- Registers of block 0x0F, GRV4. -/
def regsGRV4 : List RegRow := [
  -- GRV_CTRL4, Table 5.7 R177
  ⟨0x0, [], [⟨0, 0, .rw, 0, .any, .none⟩]⟩,
  -- GRV_CLK4, Table 5.8 R178
  ⟨0x4, [], [⟨1, 0, .rw, 0, .any, .none⟩]⟩,
  -- GRV_STATUS4, Table 5.9 R172
  ⟨0x8, [], [⟨16, 16, .rov, 0, .any, .none⟩, ⟨15, 0, .rov, 0, .any, .none⟩]⟩,
  -- GRV_CACHE_HIT4, Table 5.10
  ⟨0x10, [], [⟨31, 0, .rc, 0, .any, .none⟩]⟩,
  -- GRV_CACHE_MISS4, Table 5.11
  ⟨0x14, [], [⟨31, 0, .rc, 0, .any, .none⟩]⟩]

/-- Registers of block 0x10, GRV5. -/
def regsGRV5 : List RegRow := [
  -- GRV_CTRL5, Table 5.7 R177
  ⟨0x0, [], [⟨0, 0, .rw, 0, .any, .none⟩]⟩,
  -- GRV_CLK5, Table 5.8 R178
  ⟨0x4, [], [⟨1, 0, .rw, 0, .any, .none⟩]⟩,
  -- GRV_STATUS5, Table 5.9 R172
  ⟨0x8, [], [⟨16, 16, .rov, 0, .any, .none⟩, ⟨15, 0, .rov, 0, .any, .none⟩]⟩,
  -- GRV_CACHE_HIT5, Table 5.10
  ⟨0x10, [], [⟨31, 0, .rc, 0, .any, .none⟩]⟩,
  -- GRV_CACHE_MISS5, Table 5.11
  ⟨0x14, [], [⟨31, 0, .rc, 0, .any, .none⟩]⟩]

/-- Registers of block 0x11, GRV6. -/
def regsGRV6 : List RegRow := [
  -- GRV_CTRL6, Table 5.7 R177
  ⟨0x0, [], [⟨0, 0, .rw, 0, .any, .none⟩]⟩,
  -- GRV_CLK6, Table 5.8 R178
  ⟨0x4, [], [⟨1, 0, .rw, 0, .any, .none⟩]⟩,
  -- GRV_STATUS6, Table 5.9 R172
  ⟨0x8, [], [⟨16, 16, .rov, 0, .any, .none⟩, ⟨15, 0, .rov, 0, .any, .none⟩]⟩,
  -- GRV_CACHE_HIT6, Table 5.10
  ⟨0x10, [], [⟨31, 0, .rc, 0, .any, .none⟩]⟩,
  -- GRV_CACHE_MISS6, Table 5.11
  ⟨0x14, [], [⟨31, 0, .rc, 0, .any, .none⟩]⟩]

/-- Registers of block 0x12, GRV7. -/
def regsGRV7 : List RegRow := [
  -- GRV_CTRL7, Table 5.7 R177
  ⟨0x0, [], [⟨0, 0, .rw, 0, .any, .none⟩]⟩,
  -- GRV_CLK7, Table 5.8 R178
  ⟨0x4, [], [⟨1, 0, .rw, 0, .any, .none⟩]⟩,
  -- GRV_STATUS7, Table 5.9 R172
  ⟨0x8, [], [⟨16, 16, .rov, 0, .any, .none⟩, ⟨15, 0, .rov, 0, .any, .none⟩]⟩,
  -- GRV_CACHE_HIT7, Table 5.10
  ⟨0x10, [], [⟨31, 0, .rc, 0, .any, .none⟩]⟩,
  -- GRV_CACHE_MISS7, Table 5.11
  ⟨0x14, [], [⟨31, 0, .rc, 0, .any, .none⟩]⟩]

/-- Registers of block 0x13, COL. -/
def regsCOL : List RegRow := [
  -- COL_CTRL, Table 7.5
  ⟨0x0, [], [⟨1, 1, .rws, 0, .any, .none⟩, ⟨0, 0, .rws, 0, .any, .none⟩]⟩,
  -- COL_LIN_SCALE, Table 7.6 R214
  ⟨0x4, [], [⟨31, 0, .rws, 0x42C80000, .f32 0x3F800000 0x461C4000, .none⟩]⟩,
  -- COL_TABLE_LO, Table 7.7 R218
  ⟨0x8, [], [⟨31, 12, .rws, 0, .any, .none⟩]⟩,
  -- COL_TABLE_HI, Table 7.7 R218
  ⟨0xC, [], [⟨5, 0, .rws, 0, .any, .none⟩]⟩,
  -- COL_GMAP_LO, Table 7.7 R218
  ⟨0x10, [], [⟨31, 16, .rws, 0, .any, .none⟩]⟩,
  -- COL_GMAP_HI, Table 7.7 R218
  ⟨0x14, [], [⟨5, 0, .rws, 0, .any, .none⟩]⟩,
  -- COL_CODE_SCALE, Table 7.8 R231
  ⟨0x18, [(3, 0x4)], [⟨23, 0, .rws, 0x106148, .range 1 16777215, .none⟩]⟩,
  -- COL_TEMP_REF, Table 7.9 R221
  ⟨0x24, [], [⟨31, 0, .rws, 0x420C0000, .f32Signed 0x42200000 0x42FA0000, .none⟩]⟩,
  -- COL_TEMP_A, Table 7.9 R221
  ⟨0x28, [(3, 0x4)], [⟨31, 0, .rws, 0, .f32Mag 0x3D4CCCCD, .none⟩]⟩,
  -- COL_TEMP_B, Table 7.9 R221
  ⟨0x34, [(3, 0x4)], [⟨31, 0, .rws, 0, .f32Mag 0x3A83126F, .none⟩]⟩,
  -- COL_PWR_STATIC, Table 7.10 R225
  ⟨0x40, [], [⟨31, 0, .rws, 0, .f32 0 0x7F7FFFFF, .none⟩]⟩,
  -- COL_PWR_W, Table 7.10 R225
  ⟨0x44, [(3, 0x4)], [⟨31, 0, .rws, 0, .f32 0 0x7F7FFFFF, .none⟩]⟩,
  -- COL_PWR_BUDGET, Table 7.10 R226
  ⟨0x50, [], [⟨31, 0, .rws, 0, .f32 0 0x7F7FFFFF, .none⟩]⟩,
  -- COL_PWR_CEIL, Table 7.10 R228
  ⟨0x54, [], [⟨31, 0, .rws, 0, .f32 0 0x7F7FFFFF, .none⟩]⟩,
  -- COL_LIMIT_CFG, Table 7.11 R227
  ⟨0x58, [], [⟨31, 16, .rws, 0x100, .range 0 32768, .none⟩, ⟨15, 0, .rws, 0x2000, .range 0 32768, .none⟩]⟩,
  -- COL_LIMIT_START, Table 7.12 R223
  ⟨0x5C, [], [⟨15, 0, .rws, 0x8000, .range 0 32768, .none⟩]⟩,
  -- COL_LIMIT_GAIN, Table 7.13 R223
  ⟨0x60, [], [⟨31, 16, .rov, 0x8000, .any, .none⟩, ⟨15, 0, .rov, 0x8000, .any, .none⟩]⟩,
  -- COL_POWER, Table 7.14 R225
  ⟨0x64, [], [⟨31, 0, .rov, 0, .any, .none⟩]⟩,
  -- COL_POWER_FSN, Table 7.14 R225
  ⟨0x68, [], [⟨31, 0, .rov, 0, .any, .none⟩]⟩,
  -- COL_STATUS, Table 7.15 R219 R220
  ⟨0x6C, [], [⟨1, 1, .rov, 0, .any, .none⟩, ⟨0, 0, .rov, 0, .any, .none⟩]⟩,
  -- COL_TABLE_ERR, Table 7.16 R219 R583
  ⟨0x70, [], [⟨31, 31, .rov, 0, .any, .none⟩, ⟨15, 0, .rov, 0, .any, .none⟩]⟩,
  -- COL_CLAMP, Table 7.17
  ⟨0x74, [], [⟨31, 16, .rc, 0, .any, .none⟩, ⟨15, 0, .rc, 0, .any, .none⟩]⟩]

/-- Registers of block 0x14, LYR, part 0. -/
def regsLYR_0 : List RegRow := [
  -- LYR_CTRL, Table 8.6
  ⟨0x0, [], [⟨8, 8, .w1s, 0, .any, .none⟩, ⟨4, 0, .rw, 2, .range 1 16, .none⟩]⟩,
  -- LYR_TARGET_FSN, Table 8.7
  ⟨0x4, [], [⟨31, 0, .rw, 0, .any, .none⟩]⟩,
  -- LYR_COMMIT, Table 8.7 R243
  ⟨0x8, [], [⟨0, 0, .wo, 0, .any, .none⟩]⟩,
  -- LYR_STATUS, Table 8.8
  ⟨0xC, [], [⟨23, 20, .rov, 0, .any, .none⟩, ⟨18, 16, .rov, 0, .any, .none⟩, ⟨6, 4, .rov, 0, .any, .none⟩, ⟨3, 3, .rov, 0, .any, .none⟩, ⟨2, 2, .w1c, 0, .any, .none⟩, ⟨1, 1, .w1c, 0, .any, .none⟩, ⟨0, 0, .rov, 0, .any, .none⟩]⟩,
  -- LYR_APPLIED_FSN, Table 8.7 R245
  ⟨0x10, [], [⟨31, 0, .rov, 0, .any, .none⟩]⟩,
  -- LYR_RETIRED_FSN, Table 8.7 R249
  ⟨0x14, [], [⟨31, 0, .rov, 0, .any, .none⟩]⟩,
  -- LYR_CACHE_LO, Table 8.9
  ⟨0x18, [], [⟨31, 29, .rwl, 0, .any, .lock8⟩]⟩,
  -- LYR_CACHE_HI, Table 8.9
  ⟨0x1C, [], [⟨5, 0, .rwl, 0, .any, .lock8⟩]⟩,
  -- LYR_SLATE_LO, Table 8.9
  ⟨0x20, [], [⟨31, 12, .rwl, 0, .any, .lock8⟩]⟩,
  -- LYR_SLATE_HI, Table 8.9
  ⟨0x24, [], [⟨5, 0, .rwl, 0, .any, .lock8⟩]⟩,
  -- LYR_PIN_FAULT_LO, Table 8.10 R250
  ⟨0x28, [], [⟨31, 0, .rov, 0, .any, .none⟩]⟩,
  -- LYR_PIN_FAULT_HI, Table 8.10 R250
  ⟨0x2C, [], [⟨15, 8, .rov, 0, .any, .none⟩, ⟨5, 0, .rov, 0, .any, .none⟩]⟩,
  -- LYR_PIN_FAULT_COUNT, Table 8.10 R250
  ⟨0x30, [], [⟨31, 0, .rc, 0, .any, .none⟩]⟩,
  -- LYR_DESC0, Table 8.1 R236
  ⟨0x100, [(8, 0x40)], [⟨0, 0, .rws, 0, .any, .none⟩, ⟨1, 1, .rws, 0, .any, .none⟩, ⟨2, 2, .rws, 0, .any, .none⟩, ⟨11, 8, .rws, 0, .range 0 7, .none⟩, ⟨23, 16, .rws, 0xFF, .any, .none⟩]⟩,
  -- LYR_DESC1, Table 8.1 R236
  ⟨0x104, [(8, 0x40)], [⟨15, 0, .rws, 0, .any, .none⟩, ⟨31, 16, .rws, 0, .any, .none⟩]⟩,
  -- LYR_DESC2, Table 8.1 R236
  ⟨0x108, [(8, 0x40)], [⟨15, 0, .rws, 0, .any, .none⟩, ⟨31, 16, .rws, 0, .any, .none⟩]⟩,
  -- LYR_DESC3, Table 8.1 R236
  ⟨0x10C, [(8, 0x40)], [⟨31, 8, .rws, 0, .any, .none⟩]⟩,
  -- LYR_DESC4, Table 8.1 R236
  ⟨0x110, [(8, 0x40)], [⟨5, 0, .rws, 0, .any, .none⟩]⟩,
  -- LYR_DESC5, Table 8.1 R236
  ⟨0x114, [(8, 0x40)], [⟨31, 8, .rws, 0, .any, .none⟩]⟩,
  -- LYR_DESC6, Table 8.1 R236
  ⟨0x118, [(8, 0x40)], [⟨5, 0, .rws, 0, .any, .none⟩]⟩,
  -- LYR_DESC7, Table 8.1 R236
  ⟨0x11C, [(8, 0x40)], [⟨31, 8, .rws, 0, .any, .none⟩]⟩,
  -- LYR_DESC8, Table 8.1 R236
  ⟨0x120, [(8, 0x40)], [⟨5, 0, .rws, 0, .any, .none⟩]⟩,
  -- LYR_DESC9, Table 8.1 R236
  ⟨0x124, [(8, 0x40)], [⟨31, 0, .rws, 0, .any, .none⟩]⟩,
  -- LYR_DESC10, Table 8.1 R236
  ⟨0x128, [(8, 0x40)], [⟨31, 0, .rws, 0, .any, .none⟩]⟩]

/-- Registers of block 0x14, LYR, part 1. -/
def regsLYR_1 : List RegRow := [
  -- LYR_DESC11, Table 8.1 R236
  ⟨0x12C, [(8, 0x40)], [⟨31, 0, .rws, 0, .any, .none⟩]⟩,
  -- LYR_DESC12, Table 8.1 R236
  ⟨0x130, [(8, 0x40)], [⟨31, 0, .rws, 0, .any, .none⟩]⟩,
  -- LYR_DESC13, Table 8.1 R236
  ⟨0x134, [(8, 0x40), (3, 0x4)], [⟨31, 0, .rsvd, 0, .any, .none⟩]⟩]

/-- Registers of block 0x15, BLT. -/
def regsBLT : List RegRow := [
  -- BLT_CTRL, Table 8.11 R256
  ⟨0x0, [], [⟨31, 31, .wo, 0, .any, .none⟩, ⟨23, 16, .rwl, 0xFF, .any, .bltBusy⟩, ⟨7, 6, .rwl, 0, .any, .bltBusy⟩, ⟨5, 4, .rwl, 0, .any, .bltBusy⟩, ⟨1, 0, .rwl, 0, .range 0 2, .bltBusy⟩]⟩,
  -- BLT_SRC_LO, Table 8.12 R256
  ⟨0x4, [], [⟨31, 0, .rwl, 0, .any, .bltBusy⟩]⟩,
  -- BLT_SRC_HI, Table 8.12 R256
  ⟨0x8, [], [⟨5, 0, .rwl, 0, .any, .bltBusy⟩]⟩,
  -- BLT_SRC_PITCH, Table 8.12 R256
  ⟨0xC, [], [⟨15, 0, .rwl, 0, .any, .bltBusy⟩]⟩,
  -- BLT_SRC_XY, Table 8.12 R256
  ⟨0x10, [], [⟨31, 16, .rwl, 0, .any, .bltBusy⟩, ⟨15, 0, .rwl, 0, .any, .bltBusy⟩]⟩,
  -- BLT_DST_LO, Table 8.12 R256
  ⟨0x14, [], [⟨31, 0, .rwl, 0, .any, .bltBusy⟩]⟩,
  -- BLT_DST_HI, Table 8.12 R256
  ⟨0x18, [], [⟨5, 0, .rwl, 0, .any, .bltBusy⟩]⟩,
  -- BLT_DST_PITCH, Table 8.12 R256
  ⟨0x1C, [], [⟨15, 0, .rwl, 0, .any, .bltBusy⟩]⟩,
  -- BLT_DST_XY, Table 8.12 R256
  ⟨0x20, [], [⟨31, 16, .rwl, 0, .any, .bltBusy⟩, ⟨15, 0, .rwl, 0, .any, .bltBusy⟩]⟩,
  -- BLT_SIZE, Table 8.12 R256
  ⟨0x24, [], [⟨31, 16, .rwl, 0, .any, .bltBusy⟩, ⟨15, 0, .rwl, 0, .any, .bltBusy⟩]⟩,
  -- BLT_COLOUR, Table 8.12 R256
  ⟨0x28, [], [⟨31, 0, .rwl, 0, .any, .bltBusy⟩]⟩,
  -- BLT_STATUS, Table 8.13
  ⟨0x2C, [], [⟨15, 8, .rov, 0, .any, .none⟩, ⟨1, 1, .w1c, 0, .any, .none⟩, ⟨0, 0, .rov, 0, .any, .none⟩]⟩]

/-- Registers of block 0x16, PDL0. -/
def regsPDL0 : List RegRow := [
  -- PDL_CTRL, Table 9.13
  ⟨0x0, [], [⟨1, 1, .w1s, 0, .any, .none⟩, ⟨0, 0, .rw, 0, .any, .none⟩]⟩,
  -- PDL_HTIMING, Table 9.14
  ⟨0x4, [], [⟨7, 0, .rwl, 0x10, .range 8 255, .pdlTiming⟩, ⟨15, 8, .rwl, 0x20, .range 8 255, .pdlTiming⟩, ⟨23, 16, .rwl, 0x20, .range 8 255, .pdlTiming⟩]⟩,
  -- PDL_VTIMING, Table 9.14
  ⟨0x8, [], [⟨3, 0, .rwl, 1, .range 1 4, .pdlTiming⟩, ⟨7, 4, .rwl, 2, .range 1 8, .pdlTiming⟩, ⟨11, 8, .rwl, 1, .range 1 8, .pdlTiming⟩]⟩,
  -- PDL_GEOM, Table 9.14
  ⟨0xC, [], [⟨9, 0, .ro, 0x200, .any, .none⟩, ⟨21, 16, .ro, 0x20, .any, .none⟩]⟩,
  -- PDL_LINE_SYMBOLS, Table 9.14 R272
  ⟨0x10, [], [⟨19, 0, .rov, 0xC0066, .any, .none⟩]⟩,
  -- PDL_LINE_MATCH, Table 9.15
  ⟨0x14, [], [⟨4, 0, .rw, 0, .any, .none⟩, ⟨8, 8, .rw, 0, .any, .none⟩]⟩,
  -- PDL_RASTER, Table 9.15
  ⟨0x18, [], [⟨2, 0, .rov, 0, .any, .none⟩, ⟨5, 4, .rov, 0, .any, .none⟩, ⟨12, 8, .rov, 0, .any, .none⟩]⟩,
  -- PDL_WRITTEN_FSN, Table 9.15 R284
  ⟨0x1C, [], [⟨31, 0, .rov, 0, .any, .none⟩]⟩,
  -- PDL_UNDERRUN, Table 9.15 R276
  ⟨0x20, [], [⟨15, 0, .rc, 0, .any, .none⟩]⟩,
  -- PDL_WDOG, Table 9.15 R299
  ⟨0x24, [], [⟨19, 0, .rw, 0xC350, .range 25000 1000000, .none⟩]⟩,
  -- PDL_INFLIGHT0, Table 9.16 R282
  ⟨0x100, [], [⟨4, 0, .rov, 0, .any, .none⟩, ⟨27, 16, .rov, 0, .any, .none⟩]⟩,
  -- PDL_CRC_ERR0, Table 9.16 R295
  ⟨0x104, [], [⟨15, 0, .rc, 0, .any, .none⟩, ⟨31, 16, .rc, 0, .any, .none⟩]⟩,
  -- PDL_ITEM_FAIL0, Table 9.16 R283
  ⟨0x108, [], [⟨15, 0, .rc, 0, .any, .none⟩]⟩,
  -- PDL_LAT0_, Table 9.17 R291
  ⟨0x400, [(96, 0x4)], [⟨19, 0, .rov, 0, .any, .none⟩, ⟨31, 31, .rov, 0, .any, .none⟩]⟩,
  -- PDL_LATADJ0_, Table 9.17 R291
  ⟨0x600, [(96, 0x4)], [⟨11, 0, .rwl, 0, .signed 12 1024, .pdlLock⟩]⟩]

/-- Registers of block 0x17, PDL1. -/
def regsPDL1 : List RegRow := [
  -- PDL_INFLIGHT1, Table 9.16 R282
  ⟨0x100, [], [⟨4, 0, .rov, 0, .any, .none⟩, ⟨27, 16, .rov, 0, .any, .none⟩]⟩,
  -- PDL_CRC_ERR1, Table 9.16 R295
  ⟨0x104, [], [⟨15, 0, .rc, 0, .any, .none⟩, ⟨31, 16, .rc, 0, .any, .none⟩]⟩,
  -- PDL_ITEM_FAIL1, Table 9.16 R283
  ⟨0x108, [], [⟨15, 0, .rc, 0, .any, .none⟩]⟩,
  -- PDL_LAT1_, Table 9.17 R291
  ⟨0x400, [(96, 0x4)], [⟨19, 0, .rov, 0, .any, .none⟩, ⟨31, 31, .rov, 0, .any, .none⟩]⟩,
  -- PDL_LATADJ1_, Table 9.17 R291
  ⟨0x600, [(96, 0x4)], [⟨11, 0, .rwl, 0, .signed 12 1024, .pdlLock⟩]⟩]

/-- Registers of block 0x18, SDS. -/
def regsSDS : List RegRow := [
  -- SDS_CTRL, Table 10.9
  ⟨0x0, [], [⟨8, 8, .w1s, 0, .any, .none⟩, ⟨0, 0, .rwl, 1, .any, .lifecycle⟩]⟩,
  -- SDS_RECAL_DELTA, Table 10.10 R316
  ⟨0x4, [], [⟨9, 0, .rwl, 0x60, .range 16 96, .lock8⟩]⟩,
  -- SDS_MARGIN0, Table 10.10 Table 10.4 R315
  ⟨0x10, [], [⟨5, 0, .rwl, 24, .range 24 63, .lock8⟩, ⟨23, 16, .rwl, 50, .range 50 255, .lock8⟩]⟩,
  -- SDS_MARGIN1, Table 10.10 Table 10.4 R315
  ⟨0x14, [], [⟨5, 0, .rwl, 22, .range 22 63, .lock8⟩, ⟨23, 16, .rwl, 45, .range 45 255, .lock8⟩]⟩,
  -- SDS_MARGIN2, Table 10.10 Table 10.4 R315
  ⟨0x18, [], [⟨5, 0, .rwl, 20, .range 20 63, .lock8⟩, ⟨23, 16, .rwl, 40, .range 40 255, .lock8⟩]⟩,
  -- SDS_MARGIN3, Table 10.10 Table 10.4 R315
  ⟨0x1C, [], [⟨5, 0, .rwl, 18, .range 18 63, .lock8⟩, ⟨23, 16, .rwl, 35, .range 35 255, .lock8⟩]⟩,
  -- SDS_SUMMARY, Table 10.10 R321
  ⟨0x20, [], [⟨7, 0, .rov, 0, .any, .none⟩, ⟨23, 16, .rov, 0, .any, .none⟩, ⟨31, 31, .rov, 0, .any, .none⟩]⟩,
  -- SDS_RECAL, Table 10.10 R316
  ⟨0x24, [], [⟨7, 0, .rov, 0, .any, .none⟩, ⟨8, 8, .rov, 0, .any, .none⟩, ⟨23, 16, .rov, 0, .any, .none⟩]⟩,
  -- SDS_LCTRL, Table 10.11 R306 R318 R322
  ⟨0x1000, [(224, 0x40)], [⟨0, 0, .rw, 0, .any, .none⟩, ⟨1, 1, .w1s, 0, .any, .none⟩, ⟨5, 4, .rwl, 0, .any, .lifecycle⟩, ⟨9, 8, .rwl, 0, .range 0 2, .lifecycle⟩, ⟨13, 12, .rwl, 0, .any, .lifecycle⟩]⟩,
  -- SDS_LSTATE, Table 10.11 R305
  ⟨0x1004, [(224, 0x40)], [⟨3, 0, .rov, 0, .any, .none⟩, ⟨5, 4, .rov, 0, .any, .none⟩, ⟨6, 6, .rov, 0, .any, .none⟩, ⟨7, 7, .rov, 0, .any, .none⟩, ⟨9, 8, .rov, 0, .any, .none⟩]⟩,
  -- SDS_LEYE, Table 10.11 R315
  ⟨0x1008, [(224, 0x40)], [⟨5, 0, .rov, 0, .any, .none⟩, ⟨15, 8, .rov, 0, .any, .none⟩, ⟨21, 16, .rov, 0, .any, .none⟩, ⟨31, 24, .rov, 0, .any, .none⟩]⟩,
  -- SDS_LCTLE, Table 10.11
  ⟨0x100C, [(224, 0x40)], [⟨4, 0, .rov, 0, .any, .none⟩, ⟨11, 8, .rov, 0, .any, .none⟩]⟩,
  -- SDS_LDFE, Table 10.11
  ⟨0x1010, [(224, 0x40)], [⟨6, 0, .rov, 0, .any, .none⟩, ⟨12, 7, .rov, 0, .any, .none⟩, ⟨18, 13, .rov, 0, .any, .none⟩, ⟨24, 19, .rov, 0, .any, .none⟩, ⟨30, 25, .rov, 0, .any, .none⟩]⟩,
  -- SDS_LOFS, Table 10.11 R307
  ⟨0x1014, [(224, 0x40)], [⟨5, 0, .rov, 0, .any, .none⟩, ⟨13, 8, .rov, 0, .any, .none⟩, ⟨21, 16, .rov, 0, .any, .none⟩, ⟨29, 24, .rov, 0, .any, .none⟩]⟩,
  -- SDS_LTX, Table 10.11
  ⟨0x1018, [(224, 0x40)], [⟨3, 0, .rwl, 8, .any, .sdsLock⟩, ⟨10, 8, .rwl, 2, .any, .sdsLock⟩, ⟨19, 16, .rwl, 4, .any, .sdsLock⟩]⟩,
  -- SDS_LCAL, Table 10.11 R316
  ⟨0x101C, [(224, 0x40)], [⟨15, 0, .rov, 0, .any, .none⟩, ⟨31, 16, .rov, 0, .any, .none⟩]⟩,
  -- SDS_LCODE_ERR, Table 10.11
  ⟨0x1020, [(224, 0x40)], [⟨15, 0, .rc, 0, .any, .none⟩, ⟨31, 16, .rc, 0, .any, .none⟩]⟩,
  -- SDS_LPRBS_ERR, Table 10.11 R322
  ⟨0x1024, [(224, 0x40)], [⟨31, 0, .rc, 0, .any, .none⟩]⟩,
  -- SDS_LRTT, Table 10.11 R323
  ⟨0x1028, [(224, 0x40)], [⟨23, 0, .rov, 0, .any, .none⟩, ⟨31, 31, .rov, 0, .any, .none⟩]⟩,
  -- SDS_LFAIL, Table 10.11 R321
  ⟨0x102C, [(224, 0x40)], [⟨7, 0, .rovs, 0, .any, .none⟩]⟩]

/-- Registers of block 0x19, APL. -/
def regsAPL : List RegRow := [
  -- APL_CTRL, Table 11.8
  ⟨0x0, [], [⟨1, 1, .w1s, 0, .any, .none⟩, ⟨0, 0, .rw, 0, .any, .none⟩]⟩,
  -- APL_STATUS, Table 11.9
  ⟨0x4, [], [⟨0, 0, .rov, 0, .any, .none⟩, ⟨1, 1, .rov, 0, .any, .none⟩, ⟨4, 2, .rov, 0, .any, .none⟩, ⟨5, 5, .rov, 0, .any, .none⟩, ⟨10, 8, .rov, 0, .any, .none⟩, ⟨15, 12, .rov, 0, .any, .none⟩, ⟨19, 16, .rovs, 0, .any, .none⟩]⟩,
  -- APL_TEMP, Table 11.9 R333
  ⟨0x8, [], [⟨15, 0, .rov, 0, .any, .none⟩, ⟨16, 16, .rov, 0, .any, .none⟩]⟩,
  -- APL_REQ_RECT, Table 11.10 R336
  ⟨0x10, [], [⟨6, 0, .rw, 0, .any, .none⟩, ⟨13, 7, .rw, 0, .any, .none⟩, ⟨21, 14, .rw, 0, .any, .none⟩, ⟨29, 22, .rw, 0, .any, .none⟩]⟩,
  -- APL_REQ_FSN, Table 11.10 R338
  ⟨0x14, [], [⟨31, 0, .rw, 0, .any, .none⟩]⟩,
  -- APL_REQ_BUF_LO, Table 11.10
  ⟨0x18, [], [⟨31, 0, .rw, 0, .any, .none⟩]⟩,
  -- APL_REQ_BUF_HI, Table 11.10
  ⟨0x1C, [], [⟨5, 0, .rw, 0, .any, .none⟩]⟩,
  -- APL_REQ_GO, Table 11.10 R336
  ⟨0x20, [], [⟨0, 0, .wo, 0, .any, .none⟩, ⟨1, 1, .wo, 0, .any, .none⟩]⟩,
  -- APL_REQ_RESULT, Table 11.10 R336
  ⟨0x24, [], [⟨7, 0, .rov, 0, .any, .none⟩, ⟨8, 8, .rov, 0, .any, .none⟩, ⟨9, 9, .w1c, 0, .any, .none⟩]⟩,
  -- APL_REQ_SEQ, Table 11.10
  ⟨0x28, [], [⟨31, 0, .rov, 0, .any, .none⟩]⟩,
  -- APL_DONE_SEQ, Table 11.10 R340
  ⟨0x2C, [], [⟨31, 0, .rov, 0, .any, .none⟩]⟩,
  -- APL_RESTORE_SEQ, Table 11.11 R344
  ⟨0x30, [], [⟨31, 0, .rov, 0, .any, .none⟩]⟩,
  -- APL_RESTORE_INFO, Table 11.11 R344
  ⟨0x34, [], [⟨15, 0, .rov, 0, .any, .none⟩, ⟨16, 16, .rov, 0, .any, .none⟩, ⟨31, 31, .rov, 0, .any, .none⟩]⟩,
  -- APL_REF_SETTLE, Table 11.11 R329
  ⟨0x38, [], [⟨15, 0, .rwl, 0x3E8, .range 100 10000, .lock1⟩]⟩,
  -- APL_BAND0, Table 11.11 Table 11.3 R333
  ⟨0x40, [], [⟨9, 0, .rwl, 200, .range 10 1000, .lock1⟩, ⟨27, 16, .rwl, 3000, .range 500 4000, .lock1⟩]⟩,
  -- APL_BAND1, Table 11.11 Table 11.3 R333
  ⟨0x44, [], [⟨9, 0, .rwl, 120, .range 10 1000, .lock1⟩, ⟨27, 16, .rwl, 2700, .range 500 4000, .lock1⟩]⟩,
  -- APL_BAND2, Table 11.11 Table 11.3 R333
  ⟨0x48, [], [⟨9, 0, .rwl, 80, .range 10 1000, .lock1⟩, ⟨27, 16, .rwl, 2400, .range 500 4000, .lock1⟩]⟩,
  -- APL_BAND3, Table 11.11 Table 11.3 R333
  ⟨0x4C, [], [⟨9, 0, .rwl, 50, .range 10 1000, .lock1⟩, ⟨27, 16, .rwl, 2100, .range 500 4000, .lock1⟩]⟩,
  -- APL_BAND4, Table 11.11 Table 11.3 R333
  ⟨0x50, [], [⟨9, 0, .rwl, 35, .range 10 1000, .lock1⟩, ⟨27, 16, .rwl, 1800, .range 500 4000, .lock1⟩]⟩,
  -- APL_BAND5, Table 11.11 Table 11.3 R333
  ⟨0x54, [], [⟨9, 0, .rwl, 25, .range 10 1000, .lock1⟩, ⟨27, 16, .rwl, 1600, .range 500 4000, .lock1⟩]⟩,
  -- APL_BAND6, Table 11.11 Table 11.3 R333
  ⟨0x58, [], [⟨9, 0, .rwl, 20, .range 10 1000, .lock1⟩, ⟨27, 16, .rwl, 1400, .range 500 4000, .lock1⟩]⟩,
  -- APL_BAND7, Table 11.11 Table 11.3 R333
  ⟨0x5C, [], [⟨9, 0, .rwl, 15, .range 10 1000, .lock1⟩, ⟨27, 16, .rwl, 1200, .range 500 4000, .lock1⟩]⟩,
  -- APL_MASK, Table 11.12 R326
  ⟨0x1000, [(1024, 0x4)], [⟨31, 0, .rov, 0, .any, .none⟩]⟩]

/-- Registers of block 0x1A, MET, part 0. -/
def regsMET_0 : List RegRow := [
  -- MET_CTRL, Table 15.9
  ⟨0x0, [], [⟨0, 0, .rw, 0, .any, .none⟩, ⟨2, 1, .rwl, 0, .range 0 2, .lock8⟩, ⟨5, 4, .rwl, 2, .range 0 2, .lock8⟩, ⟨8, 8, .w1s, 0, .any, .none⟩]⟩,
  -- MET_PAR, Table 15.9 R429
  ⟨0x4, [], [⟨4, 0, .rw, 0x10, .range 10 16, .lock8⟩, ⟨5, 5, .rw, 0, .any, .lock8⟩, ⟨6, 6, .rw, 0, .any, .lock8⟩, ⟨7, 7, .rw, 0, .any, .lock8⟩]⟩,
  -- MET_CSI_LAT, Table 15.9 R434
  ⟨0x8, [], [⟨15, 0, .rw, 0, .any, .none⟩]⟩,
  -- MET_CCI, Table 15.9
  ⟨0xC, [], [⟨1, 0, .rw, 1, .range 0 2, .none⟩, ⟨8, 8, .rov, 0, .any, .none⟩]⟩,
  -- MET_ERR, Table 15.9
  ⟨0x10, [], [⟨7, 0, .rov, 0, .any, .none⟩, ⟨31, 16, .rc, 0, .any, .none⟩]⟩,
  -- MET_S_CFG, Table 15.9
  ⟨0x100, [(4, 0x40)], [⟨0, 0, .rw, 0, .any, .none⟩, ⟨3, 1, .rw, 0, .range 0 4, .none⟩, ⟨9, 4, .rw, 0x2C, .range 43 46, .none⟩, ⟨14, 12, .rw, 0, .range 0 3, .none⟩, ⟨18, 16, .rw, 2, .range 1 7, .none⟩]⟩,
  -- MET_S_SIZE, Table 15.9 R432
  ⟨0x104, [(4, 0x40)], [⟨15, 0, .rw, 0, .range 64 8192, .none⟩, ⟨31, 16, .rw, 0, .range 64 8192, .none⟩]⟩,
  -- MET_S_BL, Table 15.9 R435
  ⟨0x108, [(4, 0x40)], [⟨15, 0, .rw, 0, .any, .none⟩, ⟨31, 16, .rw, 0, .any, .none⟩]⟩,
  -- MET_S_BL2, Table 15.9 R435
  ⟨0x10C, [(4, 0x40)], [⟨15, 0, .rw, 0, .any, .none⟩, ⟨31, 16, .rw, 0, .any, .none⟩]⟩,
  -- MET_S_DPC_LO, Table 15.9 R436
  ⟨0x110, [(4, 0x40)], [⟨31, 0, .rw, 0, .any, .none⟩]⟩,
  -- MET_S_DPC_HI, Table 15.9 R436
  ⟨0x114, [(4, 0x40)], [⟨5, 0, .rw, 0, .any, .none⟩, ⟨29, 16, .rw, 0, .range 0 8192, .none⟩]⟩,
  -- MET_S_SHD_LO, Table 15.9 R438
  ⟨0x118, [(4, 0x40)], [⟨31, 0, .rw, 0, .any, .none⟩]⟩,
  -- MET_S_SHD_HI, Table 15.9 R438
  ⟨0x11C, [(4, 0x40)], [⟨5, 0, .rw, 0, .any, .none⟩]⟩,
  -- MET_S_SPOT_LO, Table 15.9 R444
  ⟨0x120, [(4, 0x40)], [⟨31, 0, .rw, 0, .any, .none⟩]⟩,
  -- MET_S_SPOT_HI, Table 15.9 R444
  ⟨0x124, [(4, 0x40)], [⟨5, 0, .rw, 0, .any, .none⟩, ⟨24, 16, .rw, 0, .range 0 256, .none⟩]⟩,
  -- MET_S_REC_LO, Table 15.9 R442
  ⟨0x128, [(4, 0x40)], [⟨31, 14, .rw, 0, .any, .none⟩]⟩,
  -- MET_S_REC_HI, Table 15.9 R442
  ⟨0x12C, [(4, 0x40)], [⟨5, 0, .rw, 0, .any, .none⟩, ⟨19, 16, .rw, 0, .range 1 10, .none⟩]⟩,
  -- MET_S_REC_IDX, Table 15.9 R442
  ⟨0x130, [(4, 0x40)], [⟨31, 0, .rov, 0, .any, .none⟩]⟩,
  -- MET_S_EXP_LO, Table 15.9 R445
  ⟨0x134, [(4, 0x40)], [⟨31, 6, .rw, 0, .any, .none⟩]⟩,
  -- MET_S_EXP_HI, Table 15.9 R445
  ⟨0x138, [(4, 0x40)], [⟨5, 0, .rw, 0, .any, .none⟩]⟩,
  -- MET_S_EXP_GO, Table 15.9 R445
  ⟨0x13C, [(4, 0x40)], [⟨0, 0, .wo, 0, .any, .none⟩, ⟨10, 8, .rov, 0, .any, .none⟩]⟩,
  -- MET_S_TEST_PERIOD, Table 15.9 R448
  ⟨0x218, [(4, 0x4)], [⟨19, 0, .rw, 0x8235, .any, .none⟩]⟩,
  -- MET_T_CTRL, Table 15.9 R439 R441
  ⟨0x300, [(4, 0x20)], [⟨0, 0, .w1s, 0, .any, .none⟩, ⟨2, 1, .rw, 0, .any, .tapBusy⟩, ⟨5, 4, .rw, 0, .any, .tapBusy⟩, ⟨11, 8, .rw, 0, .range 1 15, .tapBusy⟩, ⟨16, 16, .rov, 0, .any, .none⟩]⟩,
  -- MET_T_BASE_LO, Table 15.9 R439
  ⟨0x304, [(4, 0x20)], [⟨31, 6, .rw, 0, .any, .tapBusy⟩]⟩]

/-- Registers of block 0x1A, MET, part 1. -/
def regsMET_1 : List RegRow := [
  -- MET_T_BASE_HI, Table 15.9 R439
  ⟨0x308, [(4, 0x20)], [⟨5, 0, .rw, 0, .any, .tapBusy⟩]⟩,
  -- MET_T_PITCH, Table 15.9 R439
  ⟨0x30C, [(4, 0x20)], [⟨17, 0, .rw, 0, .any, .tapBusy⟩]⟩,
  -- MET_T_DONE, Table 15.9 R439
  ⟨0x310, [(4, 0x20)], [⟨4, 0, .rov, 0, .any, .none⟩, ⟨31, 16, .rov, 0, .any, .none⟩]⟩]

/-- Registers of block 0x1B, DMC, part 0. -/
def regsDMC_0 : List RegRow := [
  -- DMC_CTRL, Table 16.7
  ⟨0x0, [], [⟨0, 0, .rwl, 0, .any, .lock8⟩, ⟨1, 1, .rw, 1, .any, .none⟩, ⟨8, 8, .w1s, 0, .any, .none⟩]⟩,
  -- DMC_STATUS, Table 16.7
  ⟨0x4, [], [⟨0, 0, .rov, 0, .any, .none⟩, ⟨1, 1, .rov, 0, .any, .none⟩, ⟨7, 4, .rov, 0, .any, .none⟩, ⟨11, 8, .rov, 0, .any, .none⟩, ⟨12, 12, .rov, 0, .any, .none⟩]⟩,
  -- DMC_FREQ, Table 16.7 R471
  ⟨0x8, [], [⟨0, 0, .rwl, 0, .any, .dmcChanging⟩, ⟨4, 4, .rov, 0, .any, .none⟩]⟩,
  -- DMC_STARVE, Table 16.7 R468
  ⟨0xC, [], [⟨15, 0, .rwl, 0x4E20, .range 1000 65535, .lock8⟩]⟩,
  -- DMC_MIG_RATE, Table 16.7 R475
  ⟨0x10, [], [⟨7, 0, .rwl, 0x14, .range 5 100, .lock8⟩]⟩,
  -- DMC_CE_LIMIT, Table 16.7 R474
  ⟨0x14, [], [⟨15, 0, .rwl, 0x3E8, .range 1 65535, .lock8⟩]⟩,
  -- DMC_FAULT, Table 16.7
  ⟨0x18, [], [⟨7, 0, .rovs, 0, .any, .none⟩]⟩,
  -- DMC_UE_ADDR_LO, Table 16.7 R462
  ⟨0x20, [], [⟨31, 0, .rov, 0, .any, .none⟩]⟩,
  -- DMC_UE_ADDR_HI, Table 16.7 R462
  ⟨0x24, [], [⟨3, 0, .rov, 0, .any, .none⟩]⟩,
  -- DMC_UE_INFO, Table 16.7 R462
  ⟨0x28, [], [⟨7, 0, .rov, 0, .any, .none⟩, ⟨15, 8, .rov, 0, .any, .none⟩, ⟨23, 16, .rov, 0, .any, .none⟩]⟩,
  -- DMC_UE_COUNT, Table 16.7 R462
  ⟨0x2C, [], [⟨15, 0, .rc, 0, .any, .none⟩]⟩,
  -- DMC_REF_PREEMPT, Table 16.7 R470
  ⟨0x30, [], [⟨31, 0, .rc, 0, .any, .none⟩]⟩,
  -- DMC_PANIC_CYCLES, Table 16.7 R468
  ⟨0x34, [], [⟨31, 0, .rc, 0, .any, .none⟩]⟩,
  -- DMC_RANKMAP, Table 16.7 R459
  ⟨0x40, [(4, 0x10)], [⟨1, 0, .rov, 0, .any, .none⟩, ⟨5, 4, .rov, 1, .any, .none⟩, ⟨9, 8, .rov, 2, .any, .none⟩, ⟨14, 12, .rov, 0, .any, .none⟩]⟩,
  -- DMC_CE, Table 16.7 R461
  ⟨0x44, [(4, 0x10)], [⟨23, 0, .rc, 0, .any, .none⟩, ⟨27, 24, .rov, 0, .any, .none⟩, ⟨29, 28, .rov, 0, .any, .none⟩]⟩,
  -- DMC_MIG, Table 16.7 R475
  ⟨0x48, [(4, 0x10)], [⟨26, 0, .rov, 0, .any, .none⟩, ⟨29, 28, .rov, 0, .any, .none⟩, ⟨31, 31, .rov, 0, .any, .none⟩]⟩,
  -- DMC_TEMP, Table 16.7 R469
  ⟨0x4C, [(4, 0x10)], [⟨2, 0, .rov, 0, .any, .none⟩, ⟨8, 8, .rov, 0, .any, .none⟩]⟩,
  -- DMC_TSET_A0, Table 16.8 R471
  ⟨0x100, [], [⟨7, 0, .rwl, 52, .any, .lock8⟩, ⟨15, 8, .rwl, 50, .any, .lock8⟩, ⟨23, 16, .rwl, 52, .any, .lock8⟩, ⟨31, 24, .rwl, 52, .any, .lock8⟩]⟩,
  -- DMC_TSET_A1, Table 16.8 R471
  ⟨0x104, [], [⟨7, 0, .rwl, 103, .any, .lock8⟩, ⟨15, 8, .rwl, 155, .any, .lock8⟩, ⟨23, 16, .rwl, 96, .any, .lock8⟩, ⟨31, 24, .rwl, 24, .any, .lock8⟩]⟩,
  -- DMC_TSET_A2, Table 16.8 R471
  ⟨0x108, [], [⟨7, 0, .rwl, 8, .any, .lock8⟩, ⟨15, 8, .rwl, 16, .any, .lock8⟩, ⟨23, 16, .rwl, 40, .any, .lock8⟩, ⟨31, 24, .rwl, 16, .any, .lock8⟩]⟩,
  -- DMC_TSET_A3, Table 16.8 R471
  ⟨0x10C, [], [⟨7, 0, .rwl, 8, .any, .lock8⟩, ⟨15, 8, .rwl, 32, .any, .lock8⟩, ⟨23, 16, .rwl, 64, .any, .lock8⟩]⟩,
  -- DMC_TSET_A4, Table 16.8 R471
  ⟨0x110, [], [⟨15, 0, .rwl, 624, .any, .lock8⟩, ⟨31, 16, .rwl, 656, .any, .lock8⟩]⟩,
  -- DMC_TSET_A5, Table 16.8 R471
  ⟨0x114, [], [⟨15, 0, .rwl, 12480, .any, .lock8⟩]⟩,
  -- DMC_TSET_B0, Table 16.8 R471
  ⟨0x140, [], [⟨7, 0, .rwl, 26, .any, .lock8⟩, ⟨15, 8, .rwl, 24, .any, .lock8⟩, ⟨23, 16, .rwl, 26, .any, .lock8⟩, ⟨31, 24, .rwl, 26, .any, .lock8⟩]⟩]

/-- Registers of block 0x1B, DMC, part 1. -/
def regsDMC_1 : List RegRow := [
  -- DMC_TSET_B1, Table 16.8 R471
  ⟨0x144, [], [⟨7, 0, .rwl, 52, .any, .lock8⟩, ⟨15, 8, .rwl, 78, .any, .lock8⟩, ⟨23, 16, .rwl, 48, .any, .lock8⟩, ⟨31, 24, .rwl, 12, .any, .lock8⟩]⟩,
  -- DMC_TSET_B2, Table 16.8 R471
  ⟨0x148, [], [⟨7, 0, .rwl, 8, .any, .lock8⟩, ⟨15, 8, .rwl, 8, .any, .lock8⟩, ⟨23, 16, .rwl, 20, .any, .lock8⟩, ⟨31, 24, .rwl, 8, .any, .lock8⟩]⟩,
  -- DMC_TSET_B3, Table 16.8 R471
  ⟨0x14C, [], [⟨7, 0, .rwl, 4, .any, .lock8⟩, ⟨15, 8, .rwl, 16, .any, .lock8⟩, ⟨23, 16, .rwl, 32, .any, .lock8⟩]⟩,
  -- DMC_TSET_B4, Table 16.8 R471
  ⟨0x150, [], [⟨15, 0, .rwl, 312, .any, .lock8⟩, ⟨31, 16, .rwl, 328, .any, .lock8⟩]⟩,
  -- DMC_TSET_B5, Table 16.8 R471
  ⟨0x154, [], [⟨15, 0, .rwl, 6240, .any, .lock8⟩]⟩]

/-- Registers of block 0x1C, MEM. -/
def regsMEM : List RegRow := [
  -- MEM_CTRL, Table 16.9 R481
  ⟨0x0, [], [⟨0, 0, .rwl, 1, .any, .lifecycle⟩]⟩,
  -- MEM_TEST_ROUNDS, Table 16.9 R481
  ⟨0x4, [], [⟨31, 0, .rov, 0, .any, .none⟩]⟩,
  -- MEM_COLLIDE_LO, Table 16.9 R478
  ⟨0x8, [], [⟨31, 0, .rov, 0, .any, .none⟩]⟩,
  -- MEM_COLLIDE_HI, Table 16.9 R478
  ⟨0xC, [], [⟨5, 0, .rov, 0, .any, .none⟩, ⟨9, 8, .rov, 0, .any, .none⟩, ⟨23, 16, .rov, 0, .any, .none⟩]⟩,
  -- MEM_COLLIDE_COUNT, Table 16.9 R478
  ⟨0x10, [], [⟨15, 0, .rc, 0, .any, .none⟩]⟩,
  -- MEM_CE_COUNT, Table 16.9 R480
  ⟨0x14, [], [⟨15, 0, .rc, 0, .any, .none⟩]⟩,
  -- MEM_FAULT, Table 16.9 R480
  ⟨0x18, [], [⟨7, 0, .rovs, 0, .any, .none⟩]⟩,
  -- MEM_FAULT_ADDR, Table 16.9 R480
  ⟨0x1C, [], [⟨31, 0, .rovs, 0, .any, .none⟩]⟩]

/-- The rows of a block of Table 20.2; slots 0x1D to 0xFF hold none (R563). -/
def blockRows : Nat → List RegRow
  | 0x0 => regsCPX
  | 0x1 => regsSEC
  | 0x2 => regsHKP
  | 0x3 => regsNVM
  | 0x4 => regsMGT
  | 0x5 => regsFAB
  | 0x6 => regsTIM
  | 0x7 => regsCMT_0 ++ regsCMT_1
  | 0x8 => regsING
  | 0x9 => regsTHK
  | 0xA => regsBIN
  | 0xB => regsGRV0
  | 0xC => regsGRV1
  | 0xD => regsGRV2
  | 0xE => regsGRV3
  | 0xF => regsGRV4
  | 0x10 => regsGRV5
  | 0x11 => regsGRV6
  | 0x12 => regsGRV7
  | 0x13 => regsCOL
  | 0x14 => regsLYR_0 ++ regsLYR_1
  | 0x15 => regsBLT
  | 0x16 => regsPDL0
  | 0x17 => regsPDL1
  | 0x18 => regsSDS
  | 0x19 => regsAPL
  | 0x1A => regsMET_0 ++ regsMET_1
  | 0x1B => regsDMC_0 ++ regsDMC_1
  | 0x1C => regsMEM
  | _ => []

/-- Whether a register group holds the offset: the difference from its first offset is a sum of index times stride. -/
def dimsHold : List (Nat × Nat) → Nat → Bool
  | [], d => d == 0
  | (c, s) :: t, d => if d / s < c then dimsHold t (d % s) else false

/-- The row that holds an offset of a block. -/
def findRow : List RegRow → Nat → Option RegRow
  | [], _ => none
  | r :: t, o => if r.off ≤ o && dimsHold r.dims (o - r.off) then some r else findRow t o

/-- The register at a window offset (R563). -/
def findReg (off : Nat) : Option RegRow := findRow (blockRows (off / 0x100000)) (off % 0x100000)

/-- The reset word that fields give. -/
def resetOf : List FldRow → Nat
  | [] => 0
  | f :: t => (f.reset % 2 ^ (f.hi + 1 - f.lo)) * 2 ^ f.lo + resetOf t

/-- The reset value of the register at a window offset (R16); 0 where there is no register. -/
def resetWord (off : Nat) : Word :=
  match findReg off with
  | some r => BitVec.ofNat 32 (resetOf r.flds)
  | none => 0

end Sys2Proof.Machine
end

