-- ==== Sys2Proof/Machine/Sparse.lean ====
section
/-! DEFINITION. The sparse store: a list of (key, value) pairs, keys rising, that lists only what differs from the
default of its key. Memory (R562) and registers (R9, R16) are held in it. -/

namespace Sys2Proof.Machine

/-- The value at a key: the listed one, else the default of the key. -/
def Sparse.read {n : Nat} (d : Nat → BitVec n) : List (Nat × BitVec n) → Nat → BitVec n
  | [], k => d k
  | (a, v) :: t, k => if k < a then d k else if k = a then v else Sparse.read d t k

/-- Write one key; a value equal to the default removes the entry. -/
def Sparse.write {n : Nat} (d : Nat → BitVec n) : List (Nat × BitVec n) → Nat → BitVec n → List (Nat × BitVec n)
  | [], k, v => if v = d k then [] else [(k, v)]
  | (a, w) :: t, k, v =>
    if k < a then (if v = d k then (a, w) :: t else (k, v) :: (a, w) :: t)
    else if k = a then (if v = d k then t else (k, v) :: t)
    else (a, w) :: Sparse.write d t k v

/-- The canonical form above a bound: keys at or above it and rising, no listed default. -/
def Sparse.wfFrom {n : Nat} (d : Nat → BitVec n) : Nat → List (Nat × BitVec n) → Bool
  | _, [] => true
  | lo, (a, v) :: t => decide (lo ≤ a) && !(v == d a) && Sparse.wfFrom d (a + 1) t

/-- The canonical form of a sparse store. -/
def Sparse.wf {n : Nat} (d : Nat → BitVec n) (l : List (Nat × BitVec n)) : Bool := Sparse.wfFrom d 0 l

/-- What an unlisted byte of DRAM or SRAM reads as: 0x00 (log entry 2, DESIGN CHOICE). -/
def Memory.unlisted (_addr : Nat) : Byte := 0

/-- One byte of memory. -/
def Memory.read (m : List Host.Cell) (a : Nat) : Byte := Sparse.read Memory.unlisted m a

/-- Write one byte of memory. -/
def Memory.write (m : List Host.Cell) (a : Nat) (b : Byte) : List Host.Cell := Sparse.write Memory.unlisted m a b

/-- Write bytes at rising addresses. -/
def Memory.writeBytes (m : List Host.Cell) (a : Nat) : List Byte → List Host.Cell
  | [] => m
  | b :: bs => Memory.writeBytes (Memory.write m a b) (a + 1) bs

/-- `n` bytes from an address. -/
def Memory.readBytes (m : List Host.Cell) (a n : Nat) : List Byte := (List.range n).map (fun i => Memory.read m (a + i))

/-- The memory's canonical form. -/
def Memory.wf (m : List Host.Cell) : Bool := Sparse.wf Memory.unlisted m

/-- DRAM range of Table 20.1. -/
def inDram (a : Nat) : Bool := a < 0x1000000000

/-- Grove SRAM range of Table 20.1: 10 MiB in each 16 MiB slot. -/
def inGroveSram (a : Nat) : Bool :=
  0x2000000000 ≤ a && a < 0x2008000000 && (a - 0x2000000000) % 0x1000000 < 0xA00000

/-- Drive staging SRAM range of Table 20.1. -/
def inStagingSram (a : Nat) : Bool := 0x2010000000 ≤ a && a < 0x2011800000

/-- The register window of Table 20.1. -/
def inWindow (a : Nat) : Bool := 0x3000000000 ≤ a && a < 0x3010000000

/-- A byte address that holds memory. -/
def inMemory (a : Nat) : Bool := inDram a || inGroveSram a || inStagingSram a

end Sys2Proof.Machine
end

