-- ==== Sys2Proof/Machine/State.lean ====
section
/-! DEFINITION. The state of the block: every register, queue, buffer, counter, mode and pin that the spec names, as
plain data, and the queue of waiting commands. Field comments cite the rule or table that names the field. -/

namespace Sys2Proof.Machine

/-- The block has no fault of its own: an unrecoverable condition is the node state FAULT (R45, R559), a next state. -/
inductive Fault
  deriving DecidableEq, Repr

/-- Why a command has no meaning. -/
inductive Refusal
  /-- Raised by an arm of `exec` whose meaning is not written; safe: nothing can be proved of it. -/
  | notModelled (mnemonic : String)
  deriving DecidableEq, Repr

/-- Node states of Table 1.9 (R45). -/
inductive NodeState | sapling | member | fault | excluded
  deriving DecidableEq, Repr
/-- Epoch states of Table 6.5 (R200). -/
inductive EpState | none | created | active | closed | synthesised | error | rolledBack | decided | abandoned
  deriving DecidableEq, Repr
/-- How an epoch's predicted lists were made (R192): none, derived (rows 5 to 7), copied (row 3). -/
inductive PredState | none | derived | copied
  deriving DecidableEq, Repr

/-- One card record, the stored fields of Table 2.7 (R70); vectors hold binary32 bits. -/
structure CardRec where
  /-- 16 bits (Table 2.7). -/
  id : Nat := 0
  /-- STATIC, DYNAMIC, LIVE, RELIEF, TWO_SIDED, PREDICT, REMOVE (Table 2.7). -/
  flags : BitVec 16 := 0
  /-- 16 bits (Table 2.7). -/
  tex : Nat := 0
  /-- 16 bits (Table 2.7). -/
  relTex : Nat := 0
  /-- 3 binary32 (Table 2.7). -/
  origin : V3 := V3.zero
  /-- 3 binary32 (Table 2.7). -/
  sAxis : V3 := V3.zero
  /-- 3 binary32 (Table 2.7). -/
  tAxis : V3 := V3.zero
  /-- U0, V0, U1, V1, 24 bits each (Table 2.7). -/
  uv : List Nat := []
  /-- 16 bits (Table 2.7). -/
  opacity : Nat := 0
  /-- Binary32 (Table 2.7). -/
  relDepth : F32 := 0
  /-- 3 binary32 (Table 2.7). -/
  vel : V3 := V3.zero
  /-- 3 binary32 (Table 2.7). -/
  spin : V3 := V3.zero
  deriving DecidableEq, Repr

/-- One card of a card table: its record, the frame that last set or amended it, and the bins whose lists hold it (R131, R133, R181). -/
structure CardVer where
  /-- Record (R73). -/
  card : CardRec := {}
  /-- 32 bits: frame that last set or amended it (R133). -/
  last : Fsn := 0
  /-- Footprint, one bit per bin (R131 R136). -/
  foot : BitVec 8192 := 0
  /-- Set, removed or amended by a record of this frame (R182). -/
  own : Bool := false
  deriving DecidableEq, Repr

/-- One texture of a texture directory (R75 to R84, R181). -/
structure TexVer where
  /-- 14 bits (Table 2.9). -/
  id : Nat := 0
  /-- 8 bits (Table 2.8). -/
  fmt : Nat := 0
  /-- 8 bits (Table 2.9). -/
  mips : Nat := 0
  /-- 16 bits (Table 2.9). -/
  width : Nat := 0
  /-- 16 bits (Table 2.9). -/
  height : Nat := 0
  /-- 1 bit (Table 2.9). -/
  dynamic : Bool := false
  /-- Content bytes by offset into the levels laid one after another; an unlisted byte is undefined (R76) (R76 R79). -/
  texels : List Host.Cell := []
  /-- Version number of each 64 KiB page (R84). -/
  pages : List Nat := []
  /-- Defined by a TEX_DEFINE of this frame (R76 R182). -/
  fresh : Bool := false
  /-- Defined, updated or released by this frame (R182). -/
  own : Bool := false
  deriving DecidableEq, Repr

/-- What every segment of one texture update must agree on (Table 2.10). -/
structure UpdHead where
  /-- TEX_ID (Table 2.10). -/
  tex : Nat := 0
  /-- MIP (Table 2.10). -/
  mip : Nat := 0
  /-- ENCODING (Table 2.10). -/
  enc : Nat := 0
  /-- X0 (Table 2.10). -/
  x0 : Nat := 0
  /-- Y0 (Table 2.10). -/
  y0 : Nat := 0
  /-- W (Table 2.10). -/
  w : Nat := 0
  /-- H (Table 2.10). -/
  h : Nat := 0
  /-- UPDATE_TAG (Table 2.10). -/
  tag : Nat := 0
  /-- SEG_COUNT (Table 2.10). -/
  segCount : Nat := 0
  deriving DecidableEq, Repr

/-- The segments received so far of one texture update (R79). -/
structure UpdJoin where
  /-- Agreed fields (R79 R80). -/
  head : UpdHead := {}
  /-- Segments received, by SEG_INDEX (R79). -/
  got : List (Nat × List Byte) := []
  /-- The last segment has arrived (R79). -/
  done : Bool := false
  deriving DecidableEq, Repr

/-- The errors recorded against one frame (Table 2.14, R92). -/
structure SceneErr where
  /-- First code with a vote effect, 0 for none (R92). -/
  code : Nat := 0
  /-- Its DETAIL (Table 2.14). -/
  detail : BitVec 32 := 0
  /-- Errors recorded, saturating at 2^32 - 1 (Table 2.13). -/
  count : Nat := 0
  deriving DecidableEq, Repr

/-- One frame a node holds state for: packets, card table, texture directory, lists, invalidation set (R180). -/
structure Epoch where
  /-- 32 bits (R180). -/
  fsn : Fsn := 0
  /-- State of Table 6.5 (R200). -/
  st : EpState := .none
  /-- A FRAME_OPEN has been applied since the last REOPEN or rollback (R61 R199). -/
  opened : Bool := false
  /-- A FRAME_OPEN was applied before the rollback (R198). -/
  everOpen : Bool := false
  /-- The FRAME_OPEN carried KEYFRAME (R60). -/
  keyframe : Bool := false
  /-- The frame its view follows (R61 R182). -/
  base : Option Fsn := Option.none
  /-- Card table, rising CARD_ID (R60 R73). -/
  cards : List CardVer := []
  /-- CARD_IDs this frame removed (R182). -/
  gone : List Nat := []
  /-- Texture directory, rising TEX_ID (R60). -/
  texs : List TexVer := []
  /-- TEX_IDs this frame released (R83 R182). -/
  texGone : List Nat := []
  /-- Updates whose segments have begun to arrive (R79). -/
  joins : List UpdJoin := []
  /-- Counted packets received (R66). -/
  pktCount : Nat := 0
  /-- Sum of their CRC-32C (R66). -/
  digest : BitVec 32 := 0
  /-- Closed under R67 (R67). -/
  closed : Bool := false
  /-- LIVE_PENDING of its FRAME_CLOSE (R66). -/
  livePending : Bool := false
  /-- A FRAME_CLOSE has arrived (R67 R86). -/
  closeSeen : Bool := false
  /-- AMEND packets received (R88). -/
  amends : Nat := 0
  /-- A SEAL AMEND has arrived (R86). -/
  sealSeen : Bool := false
  /-- Its SEAL_TOTAL matched (R88). -/
  sealOk : Bool := false
  /-- Errors recorded (R92). -/
  err : SceneErr := {}
  /-- Invalidation set closed (R137). -/
  setClosed : Bool := false
  /-- SPEC_START has passed (R187). -/
  specStarted : Bool := false
  /-- Speculative base B (R187). -/
  specBase : Option Fsn := Option.none
  /-- How predicted lists were made (R192). -/
  predState : PredState := .none
  /-- Predicted cards with their bins (R133). -/
  pred : List CardVer := []
  /-- Bins marked not speculated (R134). -/
  predBlank : BitVec 8192 := 0
  /-- CARD_IDs compared since their last change (R192). -/
  cmp : List Nat := []
  /-- Invalidation set (R136). -/
  inval : BitVec 8192 := 0
  /-- Bins queued for re-synthesis (R142). -/
  queue : List Nat := []
  /-- Work stopped under R195 (R195). -/
  workStop : Bool := false
  /-- Remaining fill strips are sent blank (R190 R195 R196 R198). -/
  fillBlank : Bool := false
  deriving DecidableEq, Repr

/-- A Glade packet that waits: in the pre-epoch queue (R56) or for texture pages (R204). -/
structure HeldPacket where
  /-- The packet, as the command that brought it (R56 R204). -/
  pkt : Instr := .swapInstant
  /-- Its Glade bytes (R57). -/
  bytes : Nat := 0
  /-- S when it was stamped (R56 R204). -/
  s : Fsn := 0
  /-- Errors recorded against its frame at instants after its stamp, oldest first: code and DETAIL (R63 R64). -/
  after : List (Nat × BitVec 32) := []
  deriving DecidableEq, Repr

/-- Ingest (chapters 02 and 06). -/
structure Ingest where
  /-- Pre-epoch queue, at most 64 MiB (R57). -/
  preEpoch : List HeldPacket := []
  /-- Packets waiting for pages, arrival order (R204). -/
  deferred : List HeldPacket := []
  /-- Held frames: committed, pending, speculative, and error records of later frames (R180 Table 6.1). -/
  epochs : List Epoch := []
  /-- The committed frame C (R180). -/
  committed : Option Fsn := Option.none
  /-- The binding changed and no frame has been accepted under it (R52). -/
  keyNeeded : Bool := false
  /-- The first frame accepted under the binding, which must carry KEYFRAME (R52). -/
  keyFsn : Option Fsn := Option.none
  /-- Frames abandoned, newest first (R61 R197). -/
  dead : List Fsn := []
  /-- Next page version number (model's own counter) (R84). -/
  freshPage : Nat := 1
  /-- Pages marked and not yet returned (R206). -/
  reclaim : Nat := 0
  /-- ING_EPOCH_P, _S and _STATE latched by a read of ING_EPOCH_C (R207). -/
  epLatch : Option (List (BitVec 32)) := Option.none
  /-- SCN_E_BAD_HEADER of frames that Table 2.3 places nowhere near; only counted (R55). -/
  badHeaders : Nat := 0
  /-- No SCN_E_FOREIGN_SOURCE since ING_FOREIGN_COUNT was read (Table 2.21). -/
  firstForeign : Bool := true
  deriving DecidableEq, Repr

/-- A THK job as its descriptor names it (Table 3.7). -/
structure ThkDesc where
  /-- OP (Table 3.7). -/
  op : Nat := 0
  /-- FORMAT (Table 3.7). -/
  format : Nat := 0
  /-- LEVEL (Table 3.7). -/
  level : Nat := 0
  /-- WINDOW_LOG (Table 3.7). -/
  wlog : Nat := 0
  /-- EXACT (Table 3.7). -/
  exact : Bool := false
  /-- IRQ (Table 3.7). -/
  irq : Bool := false
  /-- Refused by R111 or R112 (R111 R112). -/
  bad : Bool := false
  /-- SRC_ADDR (Table 3.7). -/
  src : Nat := 0
  /-- SRC_LEN (Table 3.7). -/
  srcLen : Nat := 0
  /-- DST_ADDR (Table 3.7). -/
  dst : Nat := 0
  /-- DST_LIMIT (Table 3.7). -/
  limit : Nat := 0
  deriving DecidableEq, Repr

/-- One job the engine has taken or ended and not yet written back (R113). -/
structure ThkJob where
  /-- Queue 0 to 3 (R113). -/
  queue : Nat := 0
  /-- Ring index modulo 2^(SIZE_LOG + 1); for queue 0 a running number (R113). -/
  index : Nat := 0
  /-- Channel 0 to 3 decompressors, 4 compressor; none once ended (R113). -/
  channel : Option Nat := Option.none
  /-- The descriptor as read (R111). -/
  desc : ThkDesc := {}
  /-- An ABORT covers it (R115). -/
  aborted : Bool := false
  /-- Result known, waiting for ring order (R113). -/
  ended : Bool := false
  /-- Table 3.6 (R107). -/
  status : Nat := 0
  /-- CRC result (Table 3.7). -/
  crc : BitVec 32 := 0
  /-- OUT_LEN (R109). -/
  outLen : Nat := 0
  /-- For queue 0, the texels produced (R116). -/
  out : List Byte := []
  /-- For queue 0, the update (R116). -/
  upd : UpdHead := {}
  /-- For queue 0, the encoded stream (R116). -/
  data : List Byte := []
  /-- For queue 0, the frame (R116). -/
  fsn : Fsn := 0
  /-- For queue 0, that frame still holds the texture which the job writes (R80 R82). -/
  takes : Bool := true
  /-- For queue 0, frames built on it that also take the update (R182). -/
  frames : List Fsn := []
  /-- Source lines whose read has failed (R107 R462). -/
  badLines : List Nat := []
  deriving DecidableEq, Repr

/-- Thicket engine state beside its registers (chapter 03). -/
structure Thk where
  /-- Queue 0, jobs waiting, oldest first (R116). -/
  q0 : List ThkJob := []
  /-- Jobs taken and not written back, in start order (R113). -/
  jobs : List ThkJob := []
  /-- Next ring index to start, queues 1 to 3 (R113). -/
  nextStart : List Nat := [0,0,0]
  /-- TAIL captured by ABORTn, queues 1 to 3 (R115). -/
  abortTo : List (Option Nat) := [Option.none,Option.none,Option.none]
  /-- Software queue last served by the round robin (R114). -/
  lastServed : Nat := 3
  /-- Running number of queue 0 jobs (R117). -/
  q0Next : Nat := 0
  /-- QENABLE was written 0 while jobs of the queue run, queues 1 to 3 (Table 3.13). -/
  closing : List Bool := [false,false,false]
  deriving DecidableEq, Repr

/-- What a strip belongs to: a fill strip or a strip of a bin's re-synthesis (R138, R142). -/
inductive StripKind | fill | resynth
  deriving DecidableEq, Repr
/-- The line the raster is sending (PDL_RASTER.KIND, Table 9.15). -/
inductive LineKind | none | slateFill | pendFill | specFill | rectangle | service
  deriving DecidableEq, Repr
/-- A forward item of a drive lane (Table 9.2). -/
inductive ItemKind
  | line (fsn : Fsn) (slate : Bool) (slot line : Nat)
  | rect (fsn : Fsn) (slot bin work : Nat)
  | trim (line : Nat)
  | cfgWrite (addr : Nat) (value : Nat)
  | cfgRead (addr : Nat)
  deriving DecidableEq, Repr

/-- A strip issued to an engine (R146, R148). -/
structure Strip where
  /-- Engine 0 to 127 (R146). -/
  engine : Nat := 0
  /-- Fill or re-synthesis (R138). -/
  kind : StripKind := .fill
  /-- Frame (R148). -/
  fsn : Fsn := 0
  /-- Bin 0 to 8191 (R138). -/
  bin : Nat := 0
  /-- Hogel row 0 to 1023 (R138). -/
  row : Nat := 0
  /-- The re-synthesis it belongs to (R143). -/
  work : Nat := 0
  deriving DecidableEq, Repr

/-- The driver codes of one strip in drive staging (R139, R212). -/
structure StripCodes where
  /-- Frame (R139). -/
  fsn : Fsn := 0
  /-- Bin (R138). -/
  bin : Nat := 0
  /-- Hogel row (R138). -/
  row : Nat := 0
  /-- 12-bit codes: hogel, then direction of the group, then colour, each ascending; empty means a blank strip (every code 0) (R189 R268). -/
  codes : List Nat := []
  deriving DecidableEq, Repr

/-- The re-synthesis of one bin (R141 to R144). -/
structure BinWork where
  /-- Number of this re-synthesis (model's own) (R143). -/
  id : Nat := 0
  /-- Frame (R144). -/
  fsn : Fsn := 0
  /-- Bin (R144). -/
  bin : Nat := 0
  /-- The actual list as it stood when its first strip was issued (R144 R148). -/
  list : List CardRec := []
  /-- Texture versions then held (R148). -/
  texs : List TexVer := []
  /-- Next of its 32 rows to issue (R138). -/
  nextRow : Nat := 0
  /-- Rows finished (R141). -/
  done : Nat := 0
  /-- Codes of the finished rows (R141). -/
  codes : List StripCodes := []
  deriving DecidableEq, Repr

/-- A fill of one frame, or of the slate (R139, R274, R275). -/
structure Fill where
  /-- Frame; for the slate fill the frame whose swap instant began it (R274). -/
  fsn : Fsn := 0
  /-- Slate fill (R254). -/
  slate : Bool := false
  /-- Driver slot (R183). -/
  slot : Nat := 0
  /-- V, the opening of its vertical interval (R274). -/
  v : Time := 0
  /-- The lists it was started with (R141 R194). -/
  cards : List CardVer := []
  /-- The texture versions it was started with (R148). -/
  texs : List TexVer := []
  /-- The frame whose directory they are (R194). -/
  texOwner : Fsn := 0
  /-- Queue 0 jobs that still write one of them (R117). -/
  waits : List Nat := []
  /-- Bins sent blank from the start (R189). -/
  blankBins : BitVec 8192 := 0
  /-- Strips not yet issued are sent blank (R190 R195 R196 R198). -/
  blank : Bool := false
  /-- Strip groups released to the groves, 0 to 512 (R139). -/
  released : Nat := 0
  /-- Strips issued or sent blank, counted in issue order through the released groups (R139). -/
  issued : Nat := 0
  /-- Issue numbers of strips issued and not finished (R175). -/
  pendingStrips : List Nat := []
  /-- Strips in drive staging (R139). -/
  staged : List StripCodes := []
  /-- Strip groups whose buffer has been sent (R139). -/
  sentGroups : Nat := 0
  /-- Next active line to send, 0 to 32 (R275). -/
  nextLine : Nat := 0
  /-- Slate lines to send again (R283). -/
  resend : List Nat := []
  /-- Strip groups counted late (R140). -/
  lateGroups : List Nat := []
  /-- A stall of this fill has raised EV_PDL_UNDERRUN (R276). -/
  underran : Bool := false
  /-- EV_GRV_PANIC was raised in this fill (R172). -/
  panicked : Bool := false
  /-- End of its last active line (R275). -/
  lastEnd : Option Time := none
  /-- FRAME_DONE has passed (R275). -/
  frameDone : Bool := false
  /-- (lane, line) LINE items without a CONF (R284). -/
  unconf : List (Nat × Nat) := []
  deriving DecidableEq, Repr

/-- The values latched for one held frame (R211, R247) with its code sums and power (R225). -/
structure Latched where
  /-- Frame (R211). -/
  fsn : Fsn := 0
  /-- Driver slot that holds it (R183). -/
  slot : Nat := 0
  /-- Colour table address (R211). -/
  colTable : Nat := 0
  /-- Gain map address (R211). -/
  gainMap : Nat := 0
  /-- K_R, K_G, K_B (R211). -/
  codeScale : List Nat := []
  /-- Temperature gains, zone then colour (R221). -/
  gT : List Nat := []
  /-- Limiter gain (R223). -/
  lam : Nat := 0x8000
  /-- STATIC, W0, W1, W2, BUDGET, CEIL (R211). -/
  pwr : List (BitVec 32) := []
  /-- A zone had no current report (R222). -/
  tempStale : Bool := false
  /-- No limiter gain was held (R224). -/
  lamUnknown : Bool := false
  /-- The colour values are latched (R211). -/
  lamKnown : Bool := false
  /-- LYR_LATCH has passed (R247). -/
  layersLatched : Bool := false
  /-- The layer set: eight descriptors of 16 words, or none (R247). -/
  layers : List (List (BitVec 32)) := []
  /-- Per bin, the code sum of each colour that the fill wrote (R225). -/
  fillSums : List (Nat × Nat × Nat × Nat) := []
  /-- Per bin, the same of the last rectangle write (R225). -/
  rectSums : List (Nat × Nat × Nat × Nat) := []
  /-- P(N) (R225). -/
  power : Option (BitVec 32) := none
  /-- A strip completed black (R173). -/
  poisoned : Bool := false
  /-- Written under R284 (R284). -/
  written : Bool := false
  /-- An item of it failed and nothing was queued for it (R283 R284). -/
  unwritten : Bool := false
  /-- FRAME_RETIRED has passed (R249). -/
  retired : Bool := false
  /-- Its frame left every role (Table 6.2 R220). -/
  released : Bool := false
  deriving DecidableEq, Repr

/-- One R583 table change (bin bounds, directions, colour with gain map). -/
structure TableChg where
  /-- A check is running (R583). -/
  checking : Bool := false
  /-- The check is of the address that the start firmware writes (R583). -/
  atStart : Bool := false
  /-- Stamp of the last of its writes (R583). -/
  lastWrite : Time := 0
  /-- Register values accepted and waiting for a swap instant, oldest first, with the stamp of the last write of each (R583). -/
  accepted : List (Time × List (BitVec 32)) := []
  /-- Register values in use (R583). -/
  inUse : List (BitVec 32) := []
  deriving DecidableEq, Repr

/-- Ray synthesis and scheduling (chapters 04 and 05). -/
structure Groves where
  /-- Strips on engines (R146). -/
  strips : List Strip := []
  /-- Bins being re-synthesised (R144). -/
  works : List BinWork := []
  /-- Number of the next re-synthesis (model's own) (R143). -/
  nextWork : Nat := 0
  /-- Re-synthesised bins handed to the drive link and not yet sent on every lane (R280). -/
  handed : List BinWork := []
  /-- Groves asserting panic: grove, fill and strip group (R172). -/
  panics : List (Nat × Fsn × Nat) := []
  /-- Bin bounds table change (R124 R583). -/
  boundsChg : TableChg := { inUse := [0, 0] }
  /-- Direction table change (R153 R583). -/
  dirChg : TableChg := { inUse := [0, 0] }
  /-- Colour table change (R219 R583). -/
  colChg : TableChg := { inUse := [0, 0, 0, 0] }
  /-- Superseded colour table and gain map still latched by a frame (R220). -/
  retireTables : List (Nat × Nat) := []
  /-- Greatest slopes of the direction table in force, across and up (R89). -/
  maxSlope : List (BitVec 32) := [0, 0]
  /-- PANEL section: p, delta h, delta v, the 12 values of the tile pose, the DRV_ID part code (R23 Table 17.9). -/
  panel : List (BitVec 32) := [0, 0, 0, 0x3F800000, 0, 0, 0, 0, 0x3F800000, 0, 0, 0, 0, 0x3F800000, 0, 0]
  deriving DecidableEq, Repr

/-- The held layer commit (R243). -/
structure HeldCommit where
  /-- The eight descriptors (R243). -/
  descs : List (List (BitVec 32)) := []
  /-- T (R243). -/
  target : Fsn := 0
  /-- Arrival of the GO write (R243). -/
  stamp : Time := 0
  deriving DecidableEq, Repr

/-- One 64 MiB slot of the flattened cache (R242). -/
structure CacheSlot where
  /-- Descriptors of the group it holds; empty for a free slot (R242). -/
  group : List (List (BitVec 32)) := []
  /-- Flattening has ended (R242). -/
  ready : Bool := false
  deriving DecidableEq, Repr

/-- The blitter operation that runs (R256). -/
structure BltOp where
  /-- CODE found so far (R261). -/
  code : Nat := 0
  /-- Runs to write, each within one line: address and bytes, in processing order (R258 R260). -/
  todo : List (Nat × List Byte) := []
  deriving DecidableEq, Repr

/-- Overlay layers, slate and blitter (chapter 08). -/
structure Layers where
  /-- Held commit (R243). -/
  held : Option HeldCommit := none
  /-- Layer set of the latest applied commit; empty before any (R247). -/
  applied : List (List (BitVec 32)) := []
  /-- Cache slots (R242). -/
  cache : List CacheSlot := List.replicate 8 {}
  /-- The slate passed its check (R252). -/
  slateOk : Bool := false
  /-- SLATE entered and the slate not yet shown (R254). -/
  slateWait : Bool := false
  /-- The slate fill has ended (R254). -/
  slateDone : Bool := false
  /-- Running operation (R256). -/
  blt : Option BltOp := none
  deriving DecidableEq, Repr

/-- One drive lane at the link level (chapter 09). -/
structure DriveLane where
  /-- SEQ of the next item (R267). -/
  seq : BitVec 16 := 0
  /-- RECTs queued, in order (R280). -/
  queue : List ItemKind := []
  /-- CFG and TRIM items waiting (R278 R286). -/
  service : List ItemKind := []
  /-- Items of the running line (R278). -/
  sending : List (BitVec 16 × ItemKind) := []
  /-- Items whose EOI has left, waiting for a CONF (R282). -/
  flight : List (BitVec 16 × ItemKind) := []
  /-- Consecutive failed items (R286). -/
  consec : Nat := 0
  /-- Failures of one bin's RECT (Table 9.12). -/
  binFails : List (Nat × Nat) := []
  /-- Identifier of the last ECHO (R290). -/
  echoId : BitVec 8 := 0
  /-- Stamp of its K28.3 (R290). -/
  echoAt : Option Time := none
  /-- Last 64 accepted RTT - TURN, newest first (R291). -/
  samples : List Int := []
  /-- Least and greatest accepted value at bring-up (R294). -/
  calSpan : Option (Int × Int) := none
  /-- Samples taken at bring-up (R294). -/
  calCount : Nat := 0
  /-- Start of latency calibration (R294). -/
  calStart : Option Time := none
  /-- L at bring-up (R294). -/
  bringL : Option Int := none
  /-- D_FX read from the driver (R291). -/
  dfx : BitVec 24 := 0
  /-- Parameters written and waiting for read-back (R299). -/
  written : List (Nat × Nat) := []
  /-- Stamp of the last STATUS (R300). -/
  lastStatus : Option Time := none
  /-- Coding errors of the last STATUS (Table 9.9). -/
  codeErrs : BitVec 16 := 0
  /-- Valid zone temperatures, green lanes: the latest before the last SPEC_START and those since (R221 R297). -/
  zoneTemps : List (Time × BitVec 16) := []
  /-- Last valid aperture temperature, DL001 and DL097 (R297). -/
  aplTemp : Option (Time × BitVec 16) := none
  deriving DecidableEq, Repr

/-- The last TICK launched (R287). -/
structure Tick where
  /-- Its swap instant (R287). -/
  stamp : Time := 0
  /-- FSN (R287). -/
  fsn : Fsn := 0
  /-- SWAP (Table 9.5). -/
  swap : Bool := false
  /-- SLOT (Table 9.5). -/
  slot : Nat := 0
  /-- PWM_EN (Table 9.5). -/
  pwm : Bool := false
  deriving DecidableEq, Repr

/-- Panel drive link (chapter 09). -/
structure Pdl where
  /-- Drive lanes DL000 to DL191 (R263). -/
  lanes : List DriveLane := List.replicate 192 {}
  /-- Fills open, oldest first (R275). -/
  fills : List Fill := []
  /-- Line being sent (Table 9.15). -/
  kind : LineKind := .none
  /-- Active line being sent: frame, slate, line (R273). -/
  running : Option (Fsn × Bool × Nat) := none
  /-- Last TICK (R287). -/
  tick : Option Tick := none
  /-- Lanes whose first STATUS after the TICK is awaited (Table 9.12). -/
  tickCheck : List Nat := []
  /-- Latched values of the frames held or not retired (R211 R247). -/
  frames : List Latched := []
  /-- Limiter gains held, by frame (R223). -/
  lams : List (Fsn × Nat) := []
  deriving DecidableEq, Repr

/-- Lane states of Table 10.2 (R305), in the encoding order of SDS_LSTATE.STATE. -/
inductive LaneState | off | offsetCal | trainLow | step | active | test | failed
  deriving DecidableEq, Repr

/-- One serial lane beside its registers (chapter 10). -/
structure Lane where
  /-- State, read as SDS_LSTATE.STATE (R305). -/
  st : LaneState := .off
  /-- Forward speed step, 0 to 3 (R310). -/
  speed : Nat := 0
  /-- Start of the calibration run (R313). -/
  runStart : Option Time := none
  /-- Lane band at the start of that run (R311). -/
  runBand : Nat := 0
  /-- Speed step that the receiver is at, 0 to 3; 0 throughout on a drive lane (R310). -/
  rxSpeed : Nat := 0
  /-- Speed step that the partner's transmitter has announced and moves to (R310 R313). -/
  rxNext : Option Nat := none
  /-- The run has adapted the receiver (R310). -/
  adapted : Bool := false
  /-- Consecutive accepted TS since the run began (R310). -/
  tsRun : Nat := 0
  /-- Drive lane: start of the driver's run at the new forward speed (R313). -/
  farRun : Option Time := none
  /-- Symbols by which the port's lanes arrive apart (R312). -/
  skew : Nat := 0
  /-- Own receiver DONE at the speed it receives (R310). -/
  rxDone : Bool := false
  /-- Symbols 2 to 6 of the last accepted TS (R308). -/
  partner : Option (List Byte) := none
  /-- Own countdown sent, the switch to follow (R310). -/
  goes : Bool := false
  /-- R311 holds, R312 too on a fabric port (R311 R312). -/
  ready : Bool := false
  /-- A TS has been accepted since the lane last left OFF or OFFSET_CAL (R314). -/
  seen : Bool := false
  /-- Die temperature at the start of the run (R316). -/
  runTemp : BitVec 16 := 0
  /-- The far-end loop-back of R324 has been done (R324). -/
  loopMeasured : Bool := false
  /-- Own far-end request outstanding, from its stamp (R323). -/
  loopOut : Option Time := none
  /-- Retransmitting for the partner (R323). -/
  loopIn : Bool := false
  /-- Both withdrew, waiting to retry (R323). -/
  loopRetry : Bool := false
  /-- Stamp of ENABLE (R314). -/
  enabledAt : Option Time := none
  /-- Driver coding errors last reported (R319). -/
  drvErr : Nat := 0
  /-- Rises of that count in the last second (R319). -/
  drvRises : List (Time × Nat) := []
  /-- Last EV_SDS_DRV_CODE_ERR (R319). -/
  drvEvAt : Option Time := none
  deriving DecidableEq, Repr

/-- Serial lanes together (chapter 10). -/
structure Serial where
  /-- Lanes 0 to 223 (R302). -/
  lanes : List Lane := List.replicate 224 {}
  /-- Lanes due for background recalibration, in order (R316). -/
  due : List Nat := []
  /-- Lane of the running background run (R316). -/
  bgRun : Option Nat := none
  /-- Its start (R313). -/
  bgStart : Time := 0
  /-- Die temperature at its start (R316 R320). -/
  bgTemp : BitVec 16 := 0
  /-- Lane band at its start (R311 R320). -/
  bgBand : Nat := 0
  /-- Retrain starts of each port in the last 60 s (R318). -/
  retrains : List (List Time) := List.replicate 6 []
  /-- First TS accepted on any lane of each port (R314). -/
  firstTs : List (Option Time) := List.replicate 6 none
  /-- Lane band of the die temperature (R315). -/
  band : Nat := 0
  deriving DecidableEq, Repr

/-- An aperture request (R336 to R338). -/
structure AplReq where
  /-- SEQ (R337). -/
  seq : BitVec 32 := 0
  /-- Rectangle as APL_REQ_RECT (Table 11.10). -/
  rect : BitVec 32 := 0
  /-- START_FSN (R338). -/
  fsn : Fsn := 0
  /-- IMMEDIATE (R338). -/
  immediate : Bool := false
  /-- Buffer address (Table 11.10). -/
  buf : Nat := 0
  /-- The copied buffer (R336). -/
  bits : List Byte := []
  /-- Next common of the rectangle to write (R339). -/
  next : Nat := 0
  deriving DecidableEq, Repr

/-- A record of the aperture journal as it is read back (R342, R344). -/
structure JSlot where
  /-- TYPE (Table 11.5). -/
  kind : Nat := 0
  /-- SEQ (Table 11.5). -/
  seq : BitVec 32 := 0
  /-- RECT (Table 11.5). -/
  rect : BitVec 32 := 0
  /-- JGEN (Table 11.5). -/
  jgen : BitVec 32 := 0
  /-- Contents (R342). -/
  bits : List Byte := []
  /-- Its CRC is correct (R344). -/
  valid : Bool := false
  deriving DecidableEq, Repr

/-- A line that runs (R330). -/
structure AplWave where
  /-- Common k (R330). -/
  common : Nat := 0
  /-- Polarity P (R331). -/
  pol : Int := 1
  /-- First segment of the rectangle (R330). -/
  seg : Nat := 0
  /-- Target cells of its segments (R330). -/
  cells : List Bool := []
  deriving DecidableEq, Repr

/-- Aperture layer drive (chapter 11). -/
structure Apl where
  /-- Committed mask, read at APL_MASKw (R326). -/
  mask : BitVec 32768 := 0
  /-- POL[k], 1 for -1 (R331). -/
  pol : BitVec 128 := 0
  /-- Request being judged (R336). -/
  pendingReq : Option AplReq := none
  /-- Accepted, not started (R338). -/
  queue : List AplReq := []
  /-- Request whose journal record is being written (R342). -/
  writing : Option AplReq := none
  /-- Read-backs failed in succession (Table 11.7). -/
  writeTries : Nat := 0
  /-- In flight, in start order (R338). -/
  flight : List AplReq := []
  /-- Request that had the previous line (R339). -/
  lastSeq : Option (BitVec 32) := none
  /-- Request whose line runs (R339). -/
  line : Option (BitVec 32) := none
  /-- No line runs (R339). -/
  lineIdle : Bool := true
  /-- Levels of the line that runs (R330). -/
  wave : Option AplWave := none
  /-- The two halves in NVM, 128 slots of 8 KiB each: the bytes programmed from a slot's start, the rest of it erased (0xFF) (R342). -/
  journal : List (List (List Byte)) := [List.replicate 128 [], List.replicate 128 []]
  /-- Current half (R342). -/
  half : Nat := 0
  /-- Next free slot of the current half (R342). -/
  slot : Nat := 0
  /-- Next SEQ (R344). -/
  nextSeq : BitVec 32 := 1
  /-- Restore running: lines written, 0 to 255 (R344). -/
  restore : Option Nat := none
  /-- Stamp of ENABLE (Table 11.7). -/
  restoreAt : Time := 0
  /-- APL_RESTORE_INFO to load (R344). -/
  restoreInfo : BitVec 32 := 0
  /-- APL_RESTORE_SEQ to load (R344). -/
  restoreSeq : BitVec 32 := 0
  /-- Band with its hysteresis (R333). -/
  band : Nat := 0
  /-- Band whose Vc was last sent (R334). -/
  bandSent : Option Nat := none
  /-- APL_REF_SETTLE running (R329). -/
  settling : Bool := false
  /-- EV_APL_TEMP_STALE raised and no temperature since (R335). -/
  staleTold : Bool := false
  /-- No further line or journal write (TILE_PG low, or FAULT) (R341 R343). -/
  stopped : Bool := false
  /-- Initial mask of the configuration image (R344). -/
  initialMask : Option (BitVec 32768) := none
  deriving DecidableEq, Repr

/-- Port states of FAB_PORT_STATE (Table 12.12). -/
inductive PortState | disabled | training | up | down | guestUp | guestRefused
  deriving DecidableEq, Repr
/-- Domain states of Table 13.4 (R390). -/
inductive DomState | free | acquire | locked | holdover | root
  deriving DecidableEq, Repr

/-- A packet queued at an output, with the input it came from (R370). -/
structure Queued where
  /-- Packet (R370). -/
  pkt : XtfPacket := {}
  /-- Input number 0 to 6 (R370). -/
  input : Nat := 6
  /-- Number of the received packet it is a copy of; 0 where none waits for it (R363). -/
  hold : Nat := 0
  /-- Routed again: ahead of what reaches the node later (R354). -/
  ahead : Bool := false
  /-- Its CRC failed on arrival, it ends in EOP_BAD (R371). -/
  bad : Bool := false
  deriving DecidableEq, Repr

/-- One fabric port at the link layer (chapter 12). -/
structure Port where
  /-- P_STATE (Table 12.12). -/
  st : PortState := .disabled
  /-- Next LSEQ to send (R352). -/
  txSeq : BitVec 8 := 0
  /-- Next LSEQ expected (R352). -/
  rxSeq : BitVec 8 := 0
  /-- A NAK was sent for the open gap (R352). -/
  gapNak : Bool := false
  /-- Sent and not acknowledged, oldest first (R352). -/
  unacked : List Queued := []
  /-- Resends of the oldest LSEQ in succession (R352). -/
  resends : Nat := 0
  /-- Packets waiting at the output (R370). -/
  queue : List Queued := []
  /-- Credits consumed, per class, running (R353). -/
  creditUsed : List Nat := [0,0,0,0]
  /-- Credits the partner has advertised, per class, running (R353). -/
  creditLimit : List Nat := [0,0,0,0]
  /-- Credits returned to the partner, per class, running (R353). -/
  creditBack : List Nat := [0,0,0,0]
  /-- Credits of received packets not yet sent on, per class (R353). -/
  held : List Nat := [0,0,0,0]
  /-- Inputs granted per class, oldest first (R370). -/
  granted : List (List Nat) := [[],[],[],[]]
  /-- Stamp at which it left ACTIVE (R359 R366). -/
  downSince : Option Time := none
  /-- GUEST_ASSIGN has been sent to its guest (R366). -/
  assigned : Bool := false
  /-- EVENT_SEQ of this end's reports (Table 12.8). -/
  eventSeq : BitVec 16 := 0
  deriving DecidableEq, Repr

/-- The latest report of one end of a link (R359). -/
structure LinkEnd where
  /-- Node address of the link's lower-address end (Table 12.8). -/
  addr : BitVec 16 := 0
  /-- That end's port code (Table 12.8). -/
  port : Nat := 0
  /-- Reporting node (Table 12.8). -/
  reporter : BitVec 16 := 0
  /-- 1 = down (Table 12.8). -/
  down : Bool := false
  /-- EVENT_SEQ (R359). -/
  eventSeq : BitVec 16 := 0
  /-- Stamp of the report (R359). -/
  stamp : Time := 0
  deriving DecidableEq, Repr

/-- One entry of the guest table (R366). -/
structure GuestEntry where
  /-- Guest address (R366). -/
  guest : BitVec 16 := 0
  /-- Host address (R366). -/
  host : BitVec 16 := 0
  /-- X port code (R366). -/
  port : Nat := 4
  /-- EVENT_SEQ (Table 12.8). -/
  eventSeq : BitVec 16 := 0
  /-- Last announcement (R366). -/
  stamp : Time := 0
  deriving DecidableEq, Repr

/-- Tile fabric (chapter 12). -/
structure Fabric where
  /-- Ports N, E, S, W, X1, X2 (R347). -/
  ports : List Port := List.replicate 6 {}
  /-- Adopted coordinate (R355). -/
  coord : Option (BitVec 16) := none
  /-- Coordinate given by the first accepted offer (R356). -/
  coordFrom : Option (BitVec 16) := none
  /-- Failed-link table with the latest report of each end (R359). -/
  links : List LinkEnd := []
  /-- Guest table (R366). -/
  guests : List GuestEntry := []
  /-- SRC_SEQ of the last SCENE packet delivered from the bound source (R364). -/
  sceneSeq : Option (BitVec 16) := none
  /-- This node's SRC_SEQ, per class (Table 12.4). -/
  srcSeq : List (BitVec 16) := [0,0,0,0]
  /-- Received packets that hold credits: number, input port, class, copies not yet sent (R363). -/
  holds : List (Nat × Nat × Nat × Nat) := []
  /-- Number of the latest such packet (model's own) (R363). -/
  nextHold : Nat := 0
  /-- EVENT_SEQ of GUEST_ANNOUNCE for X1 and X2 (Table 12.8). -/
  guestSeq : List (BitVec 16) := [0,0]
  /-- Stamp of FAB_CTRL.ENABLE (R359). -/
  enabledAt : Option Time := none
  /-- A discard has been recorded since FAB_DISCARD was read (R373). -/
  firstTold : Bool := false
  /-- Codes of Table 12.9 recorded that no register holds, oldest first, each with its port (R352 R353 R366 R373). -/
  recorded : List (Nat × Nat) := []
  deriving DecidableEq, Repr

/-- The latest ANNOUNCE of one port in one domain (R387). -/
structure Candidate where
  /-- LOCAL stamp (R387). -/
  stamp : Time := 0
  /-- Root address (Table 13.2). -/
  root : BitVec 16 := 0
  /-- DEPTH (Table 13.2). -/
  depth : Nat := 64
  /-- PARENT (Table 13.2). -/
  parent : Bool := false
  /-- TIMED (Table 13.2). -/
  timed : Bool := false
  /-- Sender's address (Table 13.2). -/
  addr : BitVec 16 := 0
  /-- Since when it has offered a DEPTH at least 4 below the present parent's (R387). -/
  lowSince : Option Time := none
  deriving DecidableEq, Repr

/-- One Canopy domain (chapter 13). -/
structure Domain where
  /-- State of Table 13.4 (R390). -/
  st : DomState := .free
  /-- Parent port (R387). -/
  parent : Option Nat := none
  /-- Latest ANNOUNCE by port (R387). -/
  cands : List (Option Candidate) := [none,none,none,none]
  /-- LOCAL instant at which the offset was last written down (R377). -/
  base : Time := 0
  /-- Domain time minus LOCAL at that instant, 1/256 ns (R377). -/
  offset : Int := 0
  /-- Rate correction of its source against LOCAL, in 10^-12 (R377 R391). -/
  track : Int := 0
  /-- Rate correction against its source, in 10^-12, which removes theta (R391 R399). -/
  corr : Int := 0
  /-- Rate corrections at the last 16 accepted exchanges, newest first (R391). -/
  rates : List Int := []
  /-- The rate is held and no correction is made (R391). -/
  rateHeld : Bool := false
  /-- XID of the latest request (R381). -/
  xid : BitVec 16 := 0
  /-- Its transmit stamp in this domain, while a response may come (R381). -/
  t1 : Option Time := none
  /-- D of the last 16 accepted exchanges, newest first (R382). -/
  ds : List Int := []
  /-- Theta of the last 16 accepted exchanges (R382). -/
  thetas : List Int := []
  /-- The step of R391 has been taken since FREE (R391). -/
  stepped : Bool := false
  /-- LOCAL stamp of the last accepted exchange (R390). -/
  lastAcc : Option Time := none
  /-- LOCAL stamp at which the state was entered (Table 13.5). -/
  since : Time := 0
  /-- LOCAL stamp at which time lock was last lost (R398). -/
  lostAt : Option Time := none
  /-- LOCAL stamp since which the domain has had no candidate (R390). -/
  candLost : Option Time := none
  /-- Depth (R393). -/
  depth : Nat := 64
  deriving DecidableEq, Repr

/-- One capture record (R402). -/
structure CapRecord where
  /-- TIME_NS (R402). -/
  ns : BitVec 32 := 0
  /-- TIME_FRAC (R402). -/
  frac : BitVec 8 := 0
  /-- Rising edge (Table 13.7). -/
  rising : Bool := false
  /-- Domain followed at the edge (Table 13.7). -/
  domain : Bool := false
  deriving DecidableEq, Repr

/-- One capture channel (R401). -/
structure CapChannel where
  /-- At most 16 records, oldest first (R402). -/
  queue : List CapRecord := []
  /-- Stamp of the previous edge (R402). -/
  last : Option Time := none
  /-- Stamp of the latest captured edge, in extended time (R422). -/
  latest : Option Time := none
  deriving DecidableEq, Repr

/-- Canopy time (chapter 13). -/
structure Canopy where
  /-- LOCAL at the latest command that names it, 1/256 ns (R377). -/
  now : Time := 0
  /-- CANOPY_A and CANOPY_B (R375). -/
  doms : List Domain := [{}, {}]
  /-- Domain followed, 0 A, 1 B (R397). -/
  follow : Bool := false
  /-- Bridge offset at the last change of domain, 1/256 ns (R397). -/
  beta : Int := 0
  /-- LOCAL stamp of that change (R397). -/
  betaAt : Time := 0
  /-- HOUSE locked (R400). -/
  house : Bool := false
  /-- Consecutive Sync messages within 1 us (R400). -/
  houseGood : Nat := 0
  /-- Last PTP offset, 1/256 ns (R400). -/
  houseOffset : Int := 0
  /-- HOUSE minus LOCAL at the last Sync, 1/256 ns (R375 R400). -/
  houseLocal : Int := 0
  /-- Origin time of the last Sync (R400). -/
  syncT1 : Option Int := none
  /-- Its receive stamp in HOUSE (R400). -/
  syncT2 : Option Int := none
  /-- Its receive stamp in LOCAL (R378 R400). -/
  syncLoc : Time := 0
  /-- Its sequence number (R400). -/
  syncSeq : BitVec 16 := 0
  /-- Mean path delay (R400). -/
  meanDelay : Int := 0
  /-- Transmit stamp of the last Delay_Req (R400). -/
  delayT3 : Option Int := none
  /-- Data set of the best master heard (R400). -/
  master : Option (List Nat) := none
  /-- Stamp of its last Announce (R400). -/
  masterAt : Time := 0
  /-- TSI0 to TSI7 and GENLOCK_IN (R401). -/
  caps : List CapChannel := List.replicate 9 {}
  deriving DecidableEq, Repr

/-- One membership generation record (R417, Table 14.3). -/
structure Gen where
  /-- GEN; 0 for none (Table 14.3). -/
  num : BitVec 32 := 0
  /-- RATE, row of Table 1.4 (Table 14.3). -/
  rate : Nat := 2
  /-- T_A in extended fabric time, 1/256 ns (R32). -/
  anchor : Time := 0
  /-- N_A (Table 14.3). -/
  anchorFsn : Fsn := 0
  /-- HOLD_LIMIT (Table 14.3). -/
  holdLimit : Nat := 30
  /-- The five offsets, us (Table 14.3). -/
  offsets : List Int := [-15000, -4000, -1500, -800, -200]
  /-- LIMIT_START (Table 14.3). -/
  limitStart : Nat := 0x8000
  /-- M_COUNT (Table 14.3). -/
  mCount : Nat := 0
  /-- M_SUM (Table 14.3). -/
  mSum : BitVec 32 := 0
  /-- ROOT_A (Table 14.3). -/
  rootA : BitVec 16 := 0
  /-- ROOT_B (Table 14.3). -/
  rootB : BitVec 16 := 0
  /-- POLICY_DIGEST (Table 14.3). -/
  policyDigest : BitVec 256 := 0
  /-- FIRST_FSN (Table 14.3). -/
  firstFsn : Fsn := 0
  /-- TEX_STORE, MiB (Table 14.3). -/
  texStore : Nat := 24576
  /-- Expected set (R417). -/
  e : BitVec 32768 := 0
  /-- Excluded set (R417). -/
  x : BitVec 32768 := 0
  /-- Admitted set (R417). -/
  m : BitVec 32768 := 0
  deriving DecidableEq, Repr

/-- A generation being received: segments held (R418). -/
structure GenParts where
  /-- GEN (Table 14.6). -/
  num : BitVec 32 := 0
  /-- Segments by SEG (R418). -/
  segs : List (Nat × List Byte) := []
  deriving DecidableEq, Repr

/-- The node's settled vote for one frame (R407). -/
structure Vote where
  /-- Frame (R407). -/
  fsn : Fsn := 0
  /-- READY (R407). -/
  ready : Bool := false
  /-- Reason (R408). -/
  reason : BitVec 16 := 0
  /-- D(N) (R408). -/
  demand : Option Nat := none
  deriving DecidableEq, Repr

/-- A VOTE received and counted (R410). -/
structure ChildVote where
  /-- Domain (R409). -/
  domain : Bool := false
  /-- Child port (R409). -/
  port : Nat := 0
  /-- Frame (R409). -/
  fsn : Fsn := 0
  /-- Its aggregate (R410). -/
  agg : Agg := {}
  /-- Stamp (R410). -/
  stamp : Time := 0
  deriving DecidableEq, Repr

/-- What only the deciding node holds (chapter 14). -/
structure Decider where
  /-- Pending SLATE_TRIGGER (R416). -/
  trigger : Bool := false
  /-- Pending SLATE_RELEASE (R416). -/
  release : Bool := false
  /-- Standing DARK request (R416). -/
  darkStanding : Bool := false
  /-- REQ_IDs seen, by source (R416). -/
  seenReqs : List (BitVec 16 × BitVec 32) := []
  /-- VOTE_FWD aggregates received before D (R411). -/
  fwd : List (Fsn × Agg) := []
  /-- Commands for the next decision: stamped at or after D(N) of the pending frame, or once it is made (R416). -/
  lateCmds : List Nat := []
  /-- Limiter gains issued, newest first (R227). -/
  issuedLam : List (Fsn × Nat) := []
  /-- VOUCH received, by SAPLING (R419). -/
  vouches : List (BitVec 16 × Time) := []
  /-- Activation carried in decisions (R423). -/
  actReq : Option (Fsn × BitVec 32) := none
  /-- A COMMIT has carried it (R423). -/
  actCarried : Bool := false
  /-- The decision made for the pending frame (R411). -/
  made : Option Decision := none
  /-- The last frame decided COMMIT (R412). -/
  lastCommit : Option Fsn := none
  /-- When the generation in force was last sent (R418). -/
  genSentAt : Option Time := none
  /-- Nodes known not to be MEMBER under the generation in force (R43 R47). -/
  away : List (BitVec 16) := []
  /-- Nodes whose JOIN the issued generation admits (R420). -/
  joined : List (BitVec 16) := []
  deriving DecidableEq, Repr

/-- Commit unit (chapter 14). -/
structure Commit where
  /-- Screen state, read as CMT_STATE.SCREEN (R39). -/
  screen : Screen := .dark
  /-- Hold count, read as CMT_STATE.HOLD_COUNT (R42). -/
  holdCount : Nat := 0
  /-- S, FSN of the most recent swap instant passed (R56). -/
  s : Fsn := 0
  /-- The node reckons its frames: S has been taken from fabric time, a decision or a swap instant (R56 R207). -/
  reckons : Bool := false
  /-- Generations held complete (R418). -/
  gens : List Gen := []
  /-- Generations being received (R418). -/
  genParts : List GenParts := []
  /-- Generation in force; number 0 for none (R417). -/
  gen : Gen := {}
  /-- Generation issued and not yet in force, at the deciding node (R421). -/
  next : Option Gen := none
  /-- The settled vote of the pending frame (R407). -/
  vote : Option Vote := none
  /-- Causes with a vote effect recorded against held frames, in order (R407). -/
  causes : List (Fsn × BitVec 16) := []
  /-- Child VOTEs counted (R410). -/
  children : List ChildVote := []
  /-- VOTEs sent, by domain and frame (R409). -/
  sent : List (Bool × Fsn) := []
  /-- The node's depths in A and B as they stood at VOTE_DEADLINE of a frame (R409). -/
  voteDepth : Option (Fsn × Nat × Nat) := none
  /-- Decision held for the pending frame (R413). -/
  decision : Option Decision := none
  /-- LOCAL_ABORT of the pending frame passed without a decision (R414). -/
  abandoned : Bool := false
  /-- Generation reported in the last JOIN (R420). -/
  saplingGen : Option (BitVec 32) := none
  /-- Last JOIN_RESULT (R419). -/
  joinResult : Option (Nat × BitVec 16) := none
  /-- Armed activation, read as CMT_ACT_* (R423). -/
  armed : Option (Fsn × BitVec 32) := none
  /-- REQ_ID of the next SCREEN_CMD (R416). -/
  reqId : BitVec 32 := 0
  /-- PWM enabled at the last swap instant (Table 9.5). -/
  pwmOn : Bool := false
  /-- The deciding node's own state (R406). -/
  decider : Decider := {}
  deriving DecidableEq, Repr

/-- A sensor frame being received (R431). -/
structure MetFrame where
  /-- FRAME_SEQ (R431). -/
  seq : BitVec 32 := 0
  /-- Frame start stamp (R434). -/
  start : Time := 0
  /-- C that the DISPLAY slot held at frame start (Table 15.4). -/
  startFsn : Fsn := 0
  /-- The screen was in SLATE (Table 15.4). -/
  slate : Bool := false
  /-- Test pattern (R448). -/
  test : Bool := false
  /-- Rows occupied so far (R431). -/
  row : Nat := 0
  /-- Lines counted (R431). -/
  lines : Nat := 0
  /-- Lines discarded (Table 15.4). -/
  bad : Nat := 0
  /-- SHORT (Table 15.2). -/
  short : Bool := false
  /-- LONG (Table 15.2). -/
  long : Bool := false
  /-- Input buffer overflowed; the rest is dropped (Table 15.2). -/
  overflow : Bool := false
  /-- DPC_ERR (R437). -/
  dpcErr : Bool := false
  /-- Counted rows, each with its x0 samples (R430). -/
  px : List (Nat × List Nat) := []
  /-- EXP_TAG in force for the frame (R446). -/
  tag : BitVec 32 := 0
  /-- The record carries EXP_FAULT (R447). -/
  expFault : Bool := false
  /-- CFA is 0 (chapter 15, Image pipeline). -/
  mono : Bool := true
  /-- Bits of a sample (R428 R429). -/
  bits : Nat := 16
  /-- W latched at frame start (R432). -/
  width : Nat := 0
  /-- H latched at frame start (R432). -/
  height : Nat := 0
  /-- BL_0 to BL_3 latched (R435). -/
  bl : List Nat := []
  /-- Defect list latched, the entries that count: Y, X (R436 R437). -/
  dpc : List (Nat × Nat) := []
  /-- Shading gains latched, channel by channel, row by row (R438). -/
  shd : List Nat := []
  /-- Spot list latched: X0, Y0, WIN_W, WIN_H, THR (R444). -/
  spots : List (List Nat) := []
  /-- Record ring address latched (R442). -/
  record : Nat := 0
  /-- RING_LOG latched (R442). -/
  ringLog : Nat := 0
  deriving DecidableEq, Repr

/-- One metrology stream (chapter 15). -/
structure MetStream where
  /-- Next FRAME_SEQ (R431). -/
  nextSeq : BitVec 32 := 0
  /-- Frame being received (R431). -/
  frame : Option MetFrame := none
  /-- Exposure sets queued, with their order of GO over all streams (R445). -/
  queued : List (List Byte × Nat) := []
  /-- Sets ended in the window that runs: stamp, latency, the tag or none for a failure (R446 R447). -/
  ends : List (Time × Nat × Option (BitVec 32)) := []
  /-- Tags coming into force: (from FRAME_SEQ, EXP_TAG), arrival order (R446). -/
  tags : List (BitVec 32 × BitVec 32) := []
  /-- FRAME_SEQ of records that carry EXP_FAULT (R447). -/
  faults : List (BitVec 32) := []
  /-- EXP_TAG in force (R446). -/
  tag : BitVec 32 := 0
  /-- Stamp of the last record (R449). -/
  lastRecord : Option Time := none
  deriving DecidableEq, Repr

/-- One raw tap (R439). -/
structure MetTap where
  /-- Waiting for a frame start (R439). -/
  armed : Bool := false
  /-- Copying (R439). -/
  running : Bool := false
  /-- Next row to copy (R439). -/
  row : Nat := 0
  /-- Next buffer (R439). -/
  buffer : Nat := 0
  /-- CTRL, BASE_LO, BASE_HI, PITCH (R439). -/
  params : List (BitVec 32) := []
  deriving DecidableEq, Repr

/-- A calibration session (R449, R450). -/
structure CalSession where
  /-- PMP session that drives it (R449). -/
  client : Nat := 0
  /-- FORCE of the request (R453). -/
  force : Bool := false
  /-- Table registers staged before the session (R450). -/
  prevTable : List (BitVec 32) := []
  /-- Statistics records used, each with the frame's limiter gain (R450). -/
  samples : List (List (BitVec 32) × Nat) := []
  /-- Layer set last committed as a pattern (R450). -/
  pattern : List (List (BitVec 32)) := []
  /-- Solved direction table (R451). -/
  dirAddr : Nat := 0
  /-- A solve has ended and its figures meet their targets or FORCE is set (R453). -/
  solved : Bool := false
  /-- LUM_NU, DUV, POINT_RMS, COVER (Table 15.7). -/
  figures : List Nat := []
  /-- CAL_STAGE that waits for the window of the next frame: request, addresses, content (R454). -/
  waiting : Option (PmpCtx × List Nat × List Byte) := none
  deriving DecidableEq, Repr

/-- Metrology port and calibration service (chapter 15). -/
structure Metrology where
  /-- S0 to S3 (R427). -/
  streams : List MetStream := List.replicate 4 {}
  /-- T0 to T3 (R439). -/
  taps : List MetTap := List.replicate 4 {}
  /-- Count of GO writes, for their order (R445). -/
  goOrder : Nat := 0
  /-- Set running on the CCI bus: stream and descriptor (R445). -/
  cci : Option (Nat × List Byte) := none
  /-- Session (R449). -/
  cal : Option CalSession := none
  deriving DecidableEq, Repr

/-- A migration running on one channel (R475). -/
structure MigCopy where
  /-- Position being copied (R475). -/
  fromPos : Nat := 0
  deriving DecidableEq, Repr

/-- A request that waits at the DMC (R467, R468). -/
structure DmcReq where
  /-- Source, Table 16.3 (R465). -/
  src : BitVec 8 := 0
  /-- Address (R466). -/
  addr : Nat := 0
  /-- Bytes (R466). -/
  len : Nat := 0
  /-- The bytes of a write (R466). -/
  data : Option (List Byte) := none
  /-- What an application core does with its lines in the L2 (R484). -/
  op : L2Op := .plain
  /-- Symbols that read wrong (R460). -/
  errs : List SymbolError := []
  /-- Arrival, from which its wait runs (R468). -/
  stamp : Time := 0
  deriving DecidableEq, Repr

/-- A block that the L2 holds (R484). -/
structure L2Block where
  /-- Address div 64 (R484). -/
  block : Nat := 0
  /-- Its 64 bytes (R484). -/
  data : List Byte := []
  /-- Not yet written to memory (R484). -/
  dirty : Bool := false
  deriving DecidableEq, Repr

/-- DRAM controller beside its registers (chapter 16). -/
structure Dram where
  /-- Lines (address div 128) stored poisoned, rising (R463). -/
  poison : List Nat := []
  /-- Owed refreshes by channel and position (R469). -/
  owed : List Nat := List.replicate 12 0
  /-- Migration of each channel (R475). -/
  mig : List (Option MigCopy) := [none,none,none,none]
  /-- Corrected errors of the last hour by channel and position (R474). -/
  ceHour : List (List Time) := List.replicate 12 []
  /-- Last EV_DMC_CE (R461). -/
  ceEvAt : Option Time := none
  /-- Frequency change requested: target (R471). -/
  change : Option Bool := none
  /-- Change in progress, ports held (R471). -/
  changing : Bool := false
  /-- Device and channel of lines read corrected, for the report (R461). -/
  deviceErr : List (Nat × Nat) := []
  /-- (channel, position) being retrained (R473). -/
  retrain : List (Nat × Nat) := []
  /-- Delay moved since the last full training, 1/64 UI, by channel, position and device (R473). -/
  dqs : List Int := List.replicate 120 0
  /-- Requests that wait, in arrival order (R467 R468 R471 R473). -/
  held : List DmcReq := []
  /-- Non-RT ports granted by each channel, oldest first (R467). -/
  lastGrant : List (List Nat) := [[],[],[],[]]
  /-- Last issue under panic by channel and port, from which the wait runs again (R468). -/
  starve : List (Nat × Time) := []
  /-- Groves asserting panic (R468). -/
  panicGroves : BitVec 8 := 0
  /-- Channels whose last MR4 read is above 85 C (R469). -/
  mr4Hot : BitVec 4 := 0
  /-- ZQ calibrations run (model's own count) (R473). -/
  zqCount : Nat := 0
  deriving DecidableEq, Repr

/-- The transparent SRAM test (R481). -/
structure SramTest where
  /-- Next word of the round, 64-bit words of Table 16.5 in order (R481). -/
  word : Nat := 0
  /-- Last EV_MEM_CE (R480). -/
  ceEvAt : Option Time := none
  /-- Word that a read of port A still holds (R477). -/
  readA : Option Nat := none
  /-- Word that a read of port B still holds (R477). -/
  readB : Option Nat := none
  /-- Accesses of port A that received BUSY and are repeated (R478). -/
  again : List SramAccess := []
  deriving DecidableEq, Repr

/-- One event record (Table 17.5). -/
structure EventRec where
  /-- Event number, or 0xFFFF (Table 17.5). -/
  event : Nat := 0
  /-- FSN S, or records lost (Table 17.5). -/
  fsn : BitVec 32 := 0
  /-- Stamp of the raise (Table 17.5). -/
  stamp : Time := 0
  deriving DecidableEq, Repr

/-- A request of a session (R510, R511). -/
structure PmpReq where
  /-- SERVICE (R510). -/
  service : Nat := 0
  /-- OP (R510). -/
  op : Nat := 0
  /-- REQ_ID (R510). -/
  reqId : BitVec 32 := 0
  deriving DecidableEq, Repr

/-- One PMP session (R507 to R511). -/
structure PmpSession where
  /-- Number the model gives it (R509). -/
  id : Nat := 0
  /-- Over the fabric: the client's address and STREAM; none over the management port (R509). -/
  via : Option (BitVec 16 × BitVec 16) := none
  /-- FINISH verified (R507). -/
  opened : Bool := false
  /-- Client is a guest (chapter 18). -/
  guest : Bool := false
  /-- Stamp of HELLO (R508). -/
  helloAt : Time := 0
  /-- Last record (R508). -/
  lastAt : Time := 0
  /-- Next RECORD_SEQ expected (R508). -/
  rxSeq : Nat := 0
  /-- Next RECORD_SEQ to send (R508). -/
  txSeq : Nat := 0
  /-- The 80 bytes derived (R507). -/
  keys : List Byte := []
  /-- H (R507). -/
  transcript : List Byte := []
  /-- Subscribed events (R493). -/
  subMask : BitVec 640 := 0
  /-- Event queue, at most 1,024 (R493). -/
  events : List EventRec := []
  /-- Records lost since the queue last took one (R493). -/
  lost : Nat := 0
  /-- Outstanding requests, at most 16 (R511). -/
  reqs : List PmpReq := []
  /-- Stream bytes received in order (R509). -/
  rxOffset : Nat := 0
  /-- Payloads sent and not acknowledged: last sent at, OFFSET, stream bytes (R509). -/
  unacked : List (Time × Nat × List Byte) := []
  /-- Stream position of the next byte to send (R509). -/
  txOffset : Nat := 0
  deriving DecidableEq, Repr

/-- A configuration image as its partition holds it (R496). -/
structure ConfigImage where
  /-- Header, sections and signature (Table 17.8). -/
  bytes : List Byte := []
  deriving DecidableEq, Repr

/-- A calibration store as its partition holds it (R455). -/
structure CalStore where
  /-- Header and content (R455, Table 15.8). -/
  bytes : List Byte := []
  deriving DecidableEq, Repr

/-- NVM contents other than the aperture journal (Table 17.6, Table 17.7). -/
structure Nvm where
  /-- Configuration images A and B (R496). -/
  configs : List ConfigImage := [{}, {}]
  /-- The NAND would fail the read-back of a record or image written now; no command of the table sets it (R534). -/
  ptrFail : Bool := false
  /-- Calibration stores A and B (R455). -/
  stores : List CalStore := [{}, {}]
  /-- Log partition bytes; an unlisted byte is 0xFF (Table 17.6). -/
  log : List Host.Cell := []
  /-- Retirement record: (channel, position) (R475). -/
  retired : List (Nat × Nat) := []
  deriving DecidableEq, Repr

/-- Control complex (chapter 17). -/
structure Control where
  /-- STREAM of the next stream that this node opens as a client (R509). -/
  nextStream : BitVec 16 := 0
  /-- Blocks that the L2 holds (R484). -/
  l2 : List L2Block := []
  /-- Every island but AON is held in reset (R573 R552 R554). -/
  inReset : Bool := false
  /-- Ms to the end of the steps that have ended (R499). -/
  stepMs : List (Nat × Nat) := []
  /-- Start steps running (R499). -/
  started : List Nat := [1]
  /-- Start steps ended (R499). -/
  ended : List Nat := []
  /-- Step 11 ended (R499). -/
  startDone : Bool := false
  /-- FAULT restarts in the last hour (R488). -/
  warmResets : List Time := []
  /-- CPX restarts in the last hour (R487). -/
  cpxRestarts : List Time := []
  /-- A CPX restart runs (R487). -/
  restarting : Bool := false
  /-- Pending events of cores 0 to 11, bit 640 k + e, read as CPX_EV_PEND (R491). -/
  pend : BitVec 7680 := 0
  /-- PMP sessions, at most 8 (R509). -/
  sessions : List PmpSession := []
  /-- Number of the next session (model's own) (R509). -/
  nextSession : Nat := 0
  /-- Step 7 has failed with one store (R503). -/
  trimTried : Bool := false
  /-- Calibration store step 7 is using; 2 after both failed (R503). -/
  trimPass : Nat := 0
  /-- Management port link up at 1000 Mb/s (R504). -/
  mgtLink : Bool := false
  /-- Leased address, mask, gateway (R504). -/
  lease : Option (BitVec 32 × BitVec 32 × BitVec 32) := none
  deriving DecidableEq, Repr

/-- Output pins (chapters 11, 19, 21). -/
structure Pins where
  /-- TILE_PG as last seen; an input, not reset (R343 Table 18.8). -/
  tilePg : Bool := true
  /-- THERM_TRIP_N (R552). -/
  thermTripN : Bool := true
  /-- PWR_OFF_ACK (R554). -/
  pwrOffAck : Bool := false
  /-- Levels of the 384 aperture outputs; empty for all 0 V (R328). -/
  aplOut : List Nat := []
  deriving DecidableEq, Repr

/-- Life-cycle states of Table 18.1 (R515), in their code order. -/
inductive LcState | raw | test | provisioned | field | returned | retired
  deriving DecidableEq, Repr
/-- Update states of Table 18.9 (SEC_UPD_STATE). -/
inductive UpdState | idle | downloading | verifying | staged | armed | trial | confirmed
  deriving DecidableEq, Repr

/-- Fuses (R515, R517, R521, R542): survive every reset. -/
structure Fuses where
  /-- Device UID, read as SEC_UID_w (R516). -/
  uid : List (BitVec 32) := [0, 0, 0, 0]
  /-- MAC address, read as MGT_MAC (Table 17.16). -/
  mac : BitVec 48 := 0
  /-- Owner key digest, 64 bytes (R517). -/
  ownerDigest : Option (List Byte) := none
  /-- The device secret has been fused; its value never leaves the SEC block (R518). -/
  deviceSecret : Bool := false
  deriving DecidableEq, Repr

/-- What a boot-pointer record says (Table 18.10). -/
structure BootPtr where
  /-- SEQ (R533). -/
  seq : BitVec 32 := 0
  /-- ACTIVE (Table 18.10). -/
  active : Nat := 0
  /-- STATE: TRIAL (Table 18.10). -/
  trial : Bool := false
  /-- ATTEMPTS (Table 18.10). -/
  attempts : Nat := 0
  /-- FALLBACK (Table 18.10). -/
  fallback : Nat := 0
  /-- CONFIG (Table 18.10). -/
  config : Nat := 0
  /-- ACTIVE_ID (Table 18.10). -/
  activeId : BitVec 32 := 0
  /-- FALLBACK_ID (Table 18.10). -/
  fallbackId : BitVec 32 := 0
  deriving DecidableEq, Repr

/-- One bundle slot of the NVM (R495, R532). -/
structure Slot where
  /-- Bundle bytes programmed; an unlisted byte is 0xFF (R530). -/
  bytes : List Host.Cell := []
  /-- Bytes of the signed head (R524). -/
  headLen : Nat := 0
  /-- Passes R521 or R532 (R521). -/
  verified : Bool := false
  deriving DecidableEq, Repr

/-- The update session that holds the lock (R525). -/
structure UpdSession where
  /-- PMP session of the holder; none when the distributing node holds it by the fabric (R525). -/
  session : Option Nat := none
  /-- Distributing node (R531). -/
  source : BitVec 16 := 0
  /-- Target rectangle (R525). -/
  rect : BitVec 32 := 0
  /-- Signed head (R525). -/
  head : List Byte := []
  /-- CRC-32C of each 64 KiB block (R525). -/
  crcs : List (BitVec 32) := []
  /-- Stamp at which the holder's session closed (R525). -/
  closedAt : Option Int := none
  /-- Chunks received of incomplete blocks (R531). -/
  chunks : List (Nat × List (Nat × List Byte)) := []
  /-- REQ_ID of the offer, which the answers on its targets name (R531). -/
  reqId : BitVec 32 := 0
  deriving DecidableEq, Repr

/-- One copy of the verified-block bitmap in the update journal (R530). -/
structure UpdCopy where
  /-- Sequence number (R530). -/
  seq : BitVec 32 := 0
  /-- Verified blocks, rising (R530). -/
  blocks : List Nat := []
  /-- Signed head that they belong to (R525 R530). -/
  head : List Byte := []
  deriving DecidableEq, Repr

/-- What a BIST record says (Table 19.5). -/
structure BistRec where
  /-- SEQ (R556). -/
  seq : BitVec 32 := 0
  /-- RESULT (Table 19.5). -/
  result : Nat := 0
  /-- ITEM (Table 19.5). -/
  item : Nat := 0
  /-- DETAIL (Table 19.5). -/
  detail : BitVec 16 := 0
  /-- BUNDLE_ID (Table 19.5). -/
  bundleId : BitVec 32 := 0
  /-- TEMP (Table 19.5). -/
  temp : BitVec 16 := 0
  deriving DecidableEq, Repr

/-- Security and update (chapter 18) beside its registers. -/
structure Sec where
  /-- Fuses (R515). -/
  fuses : Fuses := {}
  /-- The two boot-pointer copies as NVM holds them, 64 bytes each (R533). -/
  ptrs : List (List Byte) := [[], []]
  /-- Bundle slots A and B, in NVM (R495). -/
  slots : List Slot := [{}, {}]
  /-- ON_AIR, in the update journal, survives every reset (R528). -/
  onAir : Bool := false
  /-- UPDATE_LOCK, in the update journal, survives every reset (R528). -/
  updLock : Bool := false
  /-- ON_AIR change that a swap instant takes, with its stamp (R528). -/
  onAirNext : Option (Bool × Time) := none
  /-- The two copies of the update journal, survive every reset (R530). -/
  journal : List UpdCopy := [{}, {}]
  /-- Life-cycle nonces issued and not used, with their stamps (R516). -/
  nonces : List (List Byte × Int) := []
  /-- Update lock and its holder (R525). -/
  session : Option UpdSession := none
  /-- State, read as SEC_UPD_STATE.STATE (Table 18.9). -/
  upd : UpdState := .idle
  /-- Staged slot of the armed activation (R537). -/
  armedSlot : Nat := 0
  /-- Start of the 120 s (R540). -/
  trialSince : Int := 0
  /-- First frame whose decision counts toward confirmation after an activation (R540). -/
  trialFrom : Option Fsn := none
  /-- Consecutive COMMITs, read as SEC_HEALTH.COMMITS (R540). -/
  commits : Nat := 0
  /-- Nonces sent to Saplings, by port, with their stamps (R523). -/
  attest : List (Nat × List Byte × Int) := []
  /-- Latest STATUS of each node (R531 R536). -/
  reports : List UpdReport := []
  deriving DecidableEq, Repr

/-- Housekeeping (chapter 19) beside its registers. -/
structure Hkp where
  /-- Channel the next sample belongs to (R546). -/
  channel : Nat := 0
  /-- Samples of the running round (R548). -/
  round : List (BitVec 16) := []
  /-- Previous accepted diode reading (R548). -/
  diode : Option (BitVec 16) := none
  /-- The previous diode reading was implausible (R548). -/
  implausible : Bool := false
  /-- The previous round was invalid (R548). -/
  invalidRound : Bool := false
  /-- Consecutive accepted readings at or above 110 C (R551). -/
  hotRun : Nat := 0
  /-- Channels in an excursion beyond 3 percent (R549). -/
  over3 : BitVec 16 := 0
  /-- Channels whose last reading was beyond 6 percent (R549). -/
  over6 : BitVec 16 := 0
  /-- The comparator has tripped (R552). -/
  tripped : Bool := false
  /-- No reading accepted since the last read of HKP_TEMP_MAX (Table 19.8). -/
  maxFresh : Bool := true
  /-- Shutdown BIST running, with the diode reading at its start (R554 R556). -/
  bist : Option (BitVec 16) := none
  /-- The power-off trigger is present (R554). -/
  pwrOff : Bool := false
  /-- Cause of the warm reset that follows the BIST (R554). -/
  bistWarm : Option (BitVec 8) := none
  /-- The two BIST record copies as NVM holds them, 64 bytes each (R556). -/
  recs : List (List Byte) := [[], []]
  deriving DecidableEq, Repr

/-- One I²C write transaction on the CCI bus: device address, register address and value, each in 8 or 16 bits (R445). -/
structure CciWrite where
  /-- The sensor's 7-bit CCI address. -/
  device : Nat
  /-- 16-bit register address. -/
  wideReg : Bool
  /-- 16-bit value. -/
  wideValue : Bool
  /-- Register address. -/
  reg : Nat
  /-- Value. -/
  value : Nat
  deriving DecidableEq, Repr

/-- A message or item that the block sends, as far as another party can see it. -/
inductive Out
  /-- A packet sent on a fabric port, and the symbols of each lane of the port in order, a control symbol as 0x100 plus its
  byte (R349, R350). -/
  | xtf (port : Nat) (pkt : XtfPacket) (lanes : List (List Nat))
  /-- A packet delivered to this node (R358 to R362). -/
  | deliver (pkt : XtfPacket)
  /-- A LINKCTL set sent on a port: C1, C2 and C3, and the symbols of each lane (R349, Table 12.6). -/
  | linkctl (port : Nat) (c1 c2 c3 : Byte) (lanes : List (List Nat))
  /-- The TICK on the drive lanes: its eight symbols (Table 9.1, R287) and, by lane, the instant at which its first K28.1
  is launched, in tenths of 1/256 ns (R292). -/
  | tick (set : List Byte) (launch : List (Nat × Int))
  /-- A raster line begun on all lanes (Table 9.15). -/
  | rasterLine (kind : LineKind) (slot line : Nat)
  /-- The opening of the vertical interval before a fill, with its three bytes (R274). -/
  | fillOpen (f1 f2 f3 : Byte)
  /-- A forward item on a drive lane: what it is, and its bytes between SOI and EOI, header, payload and CRC-32C (R267 to
  R270). -/
  | item (lane : Nat) (kind : ItemKind) (bytes : List Byte)
  /-- An ECHO on a drive lane: identifier and complement (R290). -/
  | echo (lane : Nat) (e1 e2 : Byte)
  /-- A training set on a serial lane, its eight symbols (Table 10.3); the lane repeats the last one sent (R308). -/
  | trainingSet (lane : Nat) (symbols : List Byte)
  /-- The deskew set K23.7, D21.5 on every lane of a fabric port, so many times at 1 µs intervals (R312). -/
  | deskewSet (port count : Nat)
  /-- K28.5 markers of a far-end loop-back (R323). -/
  | loopMarkers (lane count : Nat)
  /-- Levels shifted to the aperture drivers, 192 bits on each of the four chains, and APL_LAT raised (R328, R330). -/
  | aplPhase (chains : List (List Bool))
  /-- The reference word for Vc: 16 bits shifted on APL_D0 under APL_REFSEL, first bit first, and APL_LAT raised (R329). -/
  | aplRef (bits : List Bool)
  /-- A PTP message: type and the instant it carries (R400). -/
  | ptp (kind : Byte) (stamp : Int)
  /-- A set sent on the CCI bus of a stream (R445). -/
  | cci (stream : Nat) (writes : List CciWrite)
  /-- Nine clocks and a STOP on the CCI bus of a stream (R447). -/
  | cciReset (stream : Nat)
  /-- A PMP record to a session: KIND, RECORD_SEQ, body (Table 17.12). -/
  | pmpRecord (session : Nat) (kind : Byte) (seq : Nat) (body : List Byte)
  /-- The answer to a PMP request: status (R512) and body. -/
  | response (session : Nat) (reqId : Word) (status : BitVec 16) (body : List Byte)
  /-- A frame on the management port other than PMP: DHCP request 1, ARP reply 2, echo reply 3, to whom, content (R504). -/
  | mgmt (kind : Byte) (addr : Word) (body : List Byte)
  /-- A message to another island: the sender and what it says, for effects that no later rule reads (R489). -/
  | note (kind : Byte) (value : Word)
  deriving DecidableEq, Repr

/-- What the last register or memory read answered (R9, R12, R562). -/
structure BusResult where
  /-- The data read. -/
  data : List (BitVec 32) := []
  /-- The access got a bus error. -/
  error : Bool := false
  deriving DecidableEq, Repr

/-- An RWS write that waits for its instant (R13, R36). -/
structure RwsWrite where
  /-- Window offset of the register. -/
  off : Nat := 0
  /-- The word written, already masked to the register's RWS fields. -/
  value : BitVec 32 := 0
  /-- Stamp of the write. -/
  stamp : Time := 0
  deriving DecidableEq, Repr

/-- The whole state of the block. -/
structure State where
  /-- Register words that differ from their reset value, by window offset, offsets rising (R9). -/
  regs : List (Nat × BitVec 32) := []
  /-- Values in effect of RWS registers that differ from their reset value (R13). -/
  eff : List (Nat × BitVec 32) := []
  /-- RWS writes not yet in effect, oldest first (R13, R36). -/
  rwsPend : List RwsWrite := []
  /-- High registers latched by a read of their low register (R564). -/
  latches : List (Nat × BitVec 32) := []
  /-- Answer of the last read. -/
  bus : BusResult := {}
  /-- DRAM and SRAM bytes that differ from an unlisted byte, addresses rising (R562). -/
  mem : List Host.Cell := []
  /-- Node state of Table 1.9 (R45). -/
  node : NodeState := .sapling
  /-- Life-cycle state of Table 18.1, in fuses (R515). -/
  lc : LcState := .raw
  /-- Fused security version (R521). -/
  secVersion : BitVec 32 := 0
  /-- Advances of the security version still possible (R542). -/
  advancesLeft : Nat := 255
  /-- Measurement registers M0 to M15 (R519). -/
  meas : List (BitVec 512) := List.replicate 16 0
  /-- Chapters 02 and 06. -/
  ing : Ingest := {}
  /-- Chapter 03. -/
  thk : Thk := {}
  /-- Chapters 04 and 05. -/
  grv : Groves := {}
  /-- Chapter 08. -/
  lyr : Layers := {}
  /-- Chapters 07 and 09. -/
  pdl : Pdl := {}
  /-- Chapter 10. -/
  sds : Serial := {}
  /-- Chapter 11. -/
  apl : Apl := {}
  /-- Chapter 12. -/
  fab : Fabric := {}
  /-- Chapter 13. -/
  tim : Canopy := {}
  /-- Chapter 14. -/
  cmt : Commit := {}
  /-- Chapter 15. -/
  met : Metrology := {}
  /-- Chapter 16, DRAM. -/
  dmc : Dram := {}
  /-- Chapter 16, SRAM test. -/
  sram : SramTest := {}
  /-- NVM (Table 17.6). -/
  nvm : Nvm := {}
  /-- Chapter 17. -/
  ctl : Control := {}
  /-- Chapter 18. -/
  sec : Sec := {}
  /-- Chapter 19. -/
  hkp : Hkp := {}
  /-- Output pins. -/
  pins : Pins := {}
  /-- What the block has sent, newest first (the model's own record). -/
  out : List Out := []
  /-- Free values taken so far (the model's own field; log entry 5). -/
  freeCount : Nat := 0
  /-- Commands waiting, first in, first out. -/
  pending : List Instr := []
  deriving DecidableEq, Repr

/-- The block right after reset: every field at the value the spec gives, or the one that log entries 1 to 3 name. -/
def State.reset : State := {}

end Sys2Proof.Machine
end

