-- ==== Sys2Proof/Machine/Ops.lean ====
section
/-! DEFINITION. What a command can do, as data: primitive acts, programs of acts and their run; registers, memory,
events, resets and the entry into FAULT as shared programs. Every meaning is a program, so a fact about each act is a
fact about every command. -/

namespace Sys2Proof.Machine

/-- The node state changes of Table 1.10 other than a reset (R46, R47). -/
def nodeMove : NodeState → NodeState → Bool
  | .sapling, .member => true
  | .sapling, .fault => true
  | .member, .fault => true
  | .sapling, .excluded => true
  | .member, .excluded => true
  | .fault, .excluded => true
  | .excluded, .sapling => true
  | _, _ => false

/-- The life-cycle changes of Table 18.2 (R516). -/
def lcMove : LcState → LcState → Bool
  | .raw, .test => true
  | .test, .provisioned => true
  | .provisioned, .field => true
  | .field, .returned => true
  | .field, .retired => true
  | .returned, .retired => true
  | _, _ => false

/-- The bytes of a measurement register or digest (R519). -/
def digestBytes (x : BitVec 512) : List Byte := leBytes 64 x.toNat

/-- Mask of the sticky fields of a register row (R16). -/
def stickyMask : List FldRow → Word
  | [] => 0
  | f :: t => (if f.acc = .rovs then maskW f.hi f.lo else 0) ||| stickyMask t

/-- What a warm reset leaves in a register word: the sticky fields, else the reset value (R16). -/
def warmWord (off : Nat) (v : Word) : Word :=
  match findReg off with
  | some r => (v &&& stickyMask r.flds) ||| (resetWord off &&& ~~~(stickyMask r.flds))
  | none => resetWord off

/-- The register store after a warm reset (R16). -/
def warmRegs (l : List (Nat × Word)) : List (Nat × Word) :=
  l.filterMap (fun p => if warmWord p.1 p.2 = resetWord p.1 then none else some (p.1, warmWord p.1 p.2))

/-- The state after a reset: cold keeps fuses and NVM; warm also keeps sticky fields, LOCAL
(R377) and what R487 and R488 count over an hour (R16, Table 17.2). The queue and the model's own records are no hardware and stay. -/
def State.afterReset (warm : Bool) (s : State) : State :=
  { State.reset with
    regs := if warm then warmRegs s.regs else []
    lc := s.lc
    secVersion := s.secVersion
    advancesLeft := s.advancesLeft
    nvm := s.nvm
    apl := { ({} : Apl) with journal := s.apl.journal, stopped := !s.pins.tilePg }
    sec := { ({} : Sec) with
      fuses := s.sec.fuses, ptrs := s.sec.ptrs, slots := s.sec.slots, onAir := s.sec.onAir
      updLock := s.sec.updLock, journal := s.sec.journal }
    hkp := { ({} : Hkp) with recs := s.hkp.recs }
    ctl := { ({} : Control) with
      warmResets := if warm then s.ctl.warmResets else []
      cpxRestarts := if warm then s.ctl.cpxRestarts else [] }
    tim := { ({} : Canopy) with now := if warm then s.tim.now else 0 }
    pins := { ({} : Pins) with tilePg := s.pins.tilePg }
    out := s.out
    freeCount := s.freeCount
    pending := s.pending }

/-- The primitive acts of which every meaning is made. -/
inductive Act
  /-- Store a register word. -/
  | reg (off : Nat) (v : Word)
  /-- Store the value in effect of an RWS register. -/
  | eff (off : Nat) (v : Word)
  /-- Store bytes in memory. -/
  | mem (a : Nat) (bs : List Byte)
  /-- Move the node state along Table 1.10; nothing where the table has no such row. -/
  | node (n : NodeState)
  /-- Move the life-cycle state along Table 18.2; nothing where the table has no such row. -/
  | lifecycle (n : LcState)
  /-- Advance the fused security version to a greater one while advances are left (R540, R542). -/
  | fuseVersion (v : Word)
  /-- The security version fused at PROVISIONED, where it is above the fused one (Table 18.2). -/
  | fuseInitial (v : Word)
  /-- Extend M0 to M14 by a digest (R519, Table 18.4). -/
  | extend (i : Nat) (x : BitVec 512)
  /-- A cold or warm reset. -/
  | reset (warm : Bool)
  /-- Answer of a read. -/
  | bus (b : BusResult)
  | rws (f : List RwsWrite → List RwsWrite)
  | latch (f : List (Nat × Word) → List (Nat × Word))
  | ing (f : Ingest → Ingest)
  | thk (f : Thk → Thk)
  | grv (f : Groves → Groves)
  | lyr (f : Layers → Layers)
  | pdl (f : Pdl → Pdl)
  | sds (f : Serial → Serial)
  | apl (f : Apl → Apl)
  | fab (f : Fabric → Fabric)
  | tim (f : Canopy → Canopy)
  | cmt (f : Commit → Commit)
  | met (f : Metrology → Metrology)
  | dmc (f : Dram → Dram)
  | sram (f : SramTest → SramTest)
  | nvm (f : Nvm → Nvm)
  | ctl (f : Control → Control)
  | sec (f : Sec → Sec)
  | hkp (f : Hkp → Hkp)
  | pins (f : Pins → Pins)
  /-- Send. -/
  | out (o : Out)
  /-- Take `n` free values. -/
  | free (n : Nat)

/-- What an act does. -/
def Act.apply : Act → State → State
  | .reg off v, s => { s with regs := Sparse.write resetWord s.regs off v }
  | .eff off v, s => { s with eff := Sparse.write resetWord s.eff off v }
  | .mem a bs, s => { s with mem := Memory.writeBytes s.mem a bs }
  | .node n, s => if nodeMove s.node n then { s with node := n } else s
  | .lifecycle n, s => if lcMove s.lc n then { s with lc := n } else s
  | .fuseVersion v, s =>
    if s.secVersion.toNat < v.toNat ∧ 0 < s.advancesLeft then
      { s with secVersion := v, advancesLeft := s.advancesLeft - 1 } else s
  | .fuseInitial v, s => if s.secVersion.toNat < v.toNat then { s with secVersion := v } else s
  | .extend i x, s =>
    if i < 15 then
      { s with meas := modAt s.meas i (fun m => Config.sha3 (digestBytes m ++ digestBytes x)) } else s
  | .reset warm, s => s.afterReset warm
  | .bus b, s => { s with bus := b }
  | .rws f, s => { s with rwsPend := f s.rwsPend }
  | .latch f, s => { s with latches := f s.latches }
  | .ing f, s => { s with ing := f s.ing }
  | .thk f, s => { s with thk := f s.thk }
  | .grv f, s => { s with grv := f s.grv }
  | .lyr f, s => { s with lyr := f s.lyr }
  | .pdl f, s => { s with pdl := f s.pdl }
  | .sds f, s => { s with sds := f s.sds }
  | .apl f, s => { s with apl := f s.apl }
  | .fab f, s => { s with fab := f s.fab }
  | .tim f, s => { s with tim := f s.tim }
  | .cmt f, s => { s with cmt := f s.cmt }
  | .met f, s => { s with met := f s.met }
  | .dmc f, s => { s with dmc := f s.dmc }
  | .sram f, s => { s with sram := f s.sram }
  | .nvm f, s => { s with nvm := f s.nvm }
  | .ctl f, s => { s with ctl := f s.ctl }
  | .sec f, s => { s with sec := f s.sec }
  | .hkp f, s => { s with hkp := f s.hkp }
  | .pins f, s => { s with pins := f s.pins }
  | .out o, s => { s with out := o :: s.out }
  | .free n, s => { s with freeCount := s.freeCount + n }

/-- A program of acts: what comes next may depend on the state reached. -/
inductive Prog
  | nil
  | act (a : Act)
  | seq (p q : Prog)
  | dyn (f : State → Prog)

/-- Run a program. -/
def Prog.run : Prog → State → State
  | .nil, s => s
  | .act a, s => a.apply s
  | .seq p q, s => q.run (p.run s)
  | .dyn f, s => (f s).run s

/-- Run a program of an island other than AON: nothing happens while that island is held in reset (R552, R554, R573). -/
def Prog.go (p : Prog) (s : State) : State := if s.ctl.inReset then s else p.run s

/-- Programs one after another. -/
def Prog.block : List Prog → Prog
  | [] => .nil
  | p :: ps => .seq p (Prog.block ps)

/-- Run a program where a condition of the state holds. -/
def Prog.guard (c : State → Bool) (p : Prog) : Prog := .dyn (fun s => if c s then p else .nil)

/-- Run a program where a condition holds. -/
def Prog.when (c : Bool) (p : Prog) : Prog := if c then p else .nil

/-- One program per element, in order. -/
def Prog.each {α : Type} (l : List α) (f : α → Prog) : Prog := Prog.block (l.map f)

/-! ### Registers -/

/-- Field `hi:lo` of a word. -/
def getBits (w : Word) (hi lo : Nat) : Nat := bitsOf w.toNat hi lo

/-- A word with field `hi:lo` replaced. -/
def putBits (w : Word) (hi lo v : Nat) : Word :=
  (w &&& ~~~(maskW hi lo)) ||| (BitVec.ofNat 32 (v * 2 ^ lo) &&& maskW hi lo)

/-- The register word at a window offset, as stored. -/
def State.reg (s : State) (off : Nat) : Word := Sparse.read resetWord s.regs off

/-- The value in effect of an RWS register (R14). -/
def State.effReg (s : State) (off : Nat) : Word := Sparse.read resetWord s.eff off

/-- A field as stored. -/
def State.fld (s : State) (f : Fld) : Nat := getBits (s.reg f.off) f.hi f.lo

/-- A field's value in effect. -/
def State.effFld (s : State) (f : Fld) : Nat := getBits (s.effReg f.off) f.hi f.lo

/-- A one-bit field as stored. -/
def State.flag (s : State) (f : Fld) : Bool := s.fld f == 1

/-- A one-bit field's value in effect. -/
def State.effFlag (s : State) (f : Fld) : Bool := s.effFld f == 1

/-- Store a register word. -/
def Prog.setReg (off : Nat) (v : Word) : Prog := .act (.reg off v)

/-- A hardware load of one field. -/
def Prog.setFld (f : Fld) (v : Nat) : Prog := .dyn (fun s => .act (.reg f.off (putBits (s.reg f.off) f.hi f.lo v)))

/-- A hardware load of a one-bit field. -/
def Prog.setFlag (f : Fld) (b : Bool) : Prog := Prog.setFld f (boolNat b)

/-- Add to a counter field, saturating at its width (the counters of every chapter saturate). -/
def Prog.count (f : Fld) (n : Nat) : Prog :=
  .dyn (fun s => Prog.setFld f (satAdd (2 ^ (f.hi + 1 - f.lo) - 1) (s.fld f) n))

/-- Add to a field that wraps. -/
def Prog.countWrap (f : Fld) (n : Nat) : Prog := .dyn (fun s => Prog.setFld f (s.fld f + n))

/-- A physical address held in a LO field and a HI field. -/
def State.addr (s : State) (lo hi : Fld) : Nat :=
  (s.reg lo.off).toNat / 2 ^ lo.lo * 2 ^ lo.lo + s.fld hi * 2 ^ 32

/-- The same of the values in effect. -/
def State.effAddr (s : State) (lo hi : Fld) : Nat :=
  (s.effReg lo.off).toNat / 2 ^ lo.lo * 2 ^ lo.lo + s.effFld hi * 2 ^ 32

/-! ### Sending, free values -/

def Prog.send (o : Out) : Prog := .act (.out o)

/-- Take one open word and use it. -/
def Prog.withFree (f : Word → Prog) : Prog :=
  .dyn (fun s => .seq (.act (.free 1)) (f (Config.freeWord s.freeCount)))

/-- Take one open instant and use it. -/
def Prog.withFreeStamp (f : Time → Prog) : Prog :=
  .dyn (fun s => .seq (.act (.free 1)) (f (Config.freeStamp s.freeCount)))

/-- Take `n` random bytes and use them. -/
def Prog.withRandom (n : Nat) (f : List Byte → Prog) : Prog :=
  .dyn (fun s => .seq (.act (.free n)) (f ((List.range n).map (fun i => Config.randomByte (s.freeCount + i)))))

/-! ### Events -/

/-- FSN S of the last swap instant passed (R56). -/
def State.S (s : State) : Fsn := s.cmt.s

/-- A record put into one session's queue (R493): at most 1,024 records, a lost count goes in front of the next. -/
def queueRecord (r : EventRec) (q : PmpSession) : PmpSession :=
  if q.events.length ≥ 1024 then { q with lost := satAdd (2 ^ 32 - 1) q.lost 1 }
  else if q.lost = 0 then { q with events := q.events ++ [r] }
  else if q.events.length ≥ 1023 then { q with lost := satAdd (2 ^ 32 - 1) q.lost 1 }
  else { q with
    events := q.events ++ [{ event := 0xFFFF, fsn := BitVec.ofNat 32 q.lost, stamp := r.stamp }, r]
    lost := 0 }

/-- The pending bits of the selected cores with bit `e` set (R491). -/
def pendSet (cores e : Nat) (pend : BitVec 7680) : BitVec 7680 :=
  (List.range 12).foldl (fun p k => if bitOf cores k then p ||| (1#7680 <<< (640 * k + e)) else p) pend

/-- Raise event `e` at an instant: pending bits of the routed cores, records for the subscribed sessions (R491,
R493, R567). -/
def Prog.raiseAt (e : Nat) (t : Time) : Prog :=
  .dyn (fun s =>
    let route := (s.reg (R.CPX_EV_ROUTE e)).toNat
    .act (.ctl (fun c => { c with
      pend := pendSet (bitsOf route 11 0) e c.pend
      sessions := if bitOf route 12 then
          c.sessions.map (fun q => if q.opened && q.subMask.getLsbD e then
            queueRecord { event := e, fsn := s.S, stamp := t } q else q)
        else c.sessions })))

/-- Raise an event at an instant that the command does not give (log entry 6). -/
def Prog.raise (e : Nat) : Prog := Prog.withFreeStamp (fun t => Prog.raiseAt e t)

/-- Raise an event at an instant where the command gives one; else its stamp is open. -/
def raiseIn (e : Nat) (t : Option Time) : Prog :=
  match t with
  | some t => .raiseAt e t
  | none => .raise e

/-! ### Memory -/

/-- One byte as a reader takes it: an open value in a poisoned line (R462). -/
def State.byteRead (s : State) (a : Nat) : Byte :=
  if s.dmc.poison.contains (a / 128) then Config.poisonByte s.freeCount a else Memory.read s.mem a

/-- `n` bytes of memory. -/
def State.bytes (s : State) (a n : Nat) : List Byte := (List.range n).map (fun i => s.byteRead (a + i))

/-- A little-endian word of memory. -/
def State.word32 (s : State) (a : Nat) : Word := BitVec.ofNat 32 (leNat (s.bytes a 4))

end Sys2Proof.Machine
end

