-- ==== Sys2Proof/Machine/Frame.lean ====
section
/-! DEFINITION. Frames and their instants: rates, the generation of a frame, t_swap and the named instants (R30 to R38,
R581). -/

namespace Sys2Proof.Machine

/-- num and den of a row of Table 1.4. -/
def rateOf : Nat → Nat × Nat
  | 0 => (50, 1)
  | 1 => (60000, 1001)
  | 2 => (60, 1)
  | 3 => (100, 1)
  | 4 => (120000, 1001)
  | _ => (120, 1)

/-- Half-fan rows of Table 1.4. -/
def halfFanRate (r : Nat) : Bool := 3 ≤ r

/-- The generation that the policy registers stand for while no generation is held. -/
def State.regGen (s : State) : Gen :=
  { rate := s.fld F.CMT_RATE_RATE
    anchor := (s.fld F.CMT_ANCHOR_NS_NS * 256 + s.fld F.CMT_ANCHOR_FRAC_FRAC : Nat)
    anchorFsn := s.reg R.CMT_ANCHOR_FSN
    holdLimit := s.fld F.CMT_HOLD_LIMIT_LIMIT
    offsets := [signedOf 18 (s.fld F.CMT_T_SCENE_OFFSET), signedOf 18 (s.fld F.CMT_T_AMEND_OFFSET),
      signedOf 18 (s.fld F.CMT_T_VOTE_OFFSET), signedOf 18 (s.fld F.CMT_T_COMMIT_OFFSET),
      signedOf 18 (s.fld F.CMT_T_LOCAL_OFFSET)]
    limitStart := s.effFld F.COL_LIMIT_START_GAIN
    rootA := BitVec.ofNat 16 (s.fld F.TIM_ROOT_ROOT_A)
    rootB := BitVec.ofNat 16 (s.fld F.TIM_ROOT_ROOT_B)
    texStore := s.fld F.ING_TEX_STORE_MIB }

/-- The generation in force; the policy registers where there is none. -/
def State.genNow (s : State) : Gen := if s.cmt.gen.num = 0 then s.regGen else s.cmt.gen

/-- The generation of frame N: the held one with the greatest number whose first frame is not later than N, else the
generation in force (R581). -/
def State.genOf (s : State) (n : Fsn) : Gen :=
  (s.cmt.gens.filter (fun g => notBeforeFsn n g.firstFsn)).foldl
    (fun best g => if best.num.toNat < g.num.toNat then g else best) s.genNow

/-- t_swap(N) under a generation, in 1/256 ns (R32). -/
def Gen.swapTime (g : Gen) (n : Fsn) : Time :=
  let r := rateOf g.rate
  g.anchor + ((n - g.anchorFsn).toInt * (256 * 1000000000 * r.2 : Nat)) / (r.1 : Int)

/-- t_swap(N) (R581). -/
def State.swapTime (s : State) (n : Fsn) : Time := (s.genOf n).swapTime n

/-- The last frame whose swap instant is not later than an instant. -/
def Gen.lastSwap (g : Gen) (t : Time) : Fsn :=
  let r := rateOf g.rate
  g.anchorFsn + BitVec.ofInt 32 (((t - g.anchor + 1) * (r.1 : Int) - 1) / ((256 * 1000000000 * r.2 : Nat) : Int))

/-- No frame has been reckoned yet: no generation in force, no committed frame (R56, R581). -/
def State.unaligned (s : State) : Bool := s.cmt.gen.num == 0 && s.ing.committed.isNone

/-- S of a node that reckons frames for the first time, and no epochs of other frames (R56, log entry 29). -/
def alignTo (n : Fsn) : Prog :=
  .dyn (fun s => .when (s.cmt.s != n || !s.cmt.reckons) (.seq (.act (.cmt (fun c => { c with s := n, reckons := true })))
    (.act (.ing (fun g => { g with epochs := [] })))))

/-- With its first time lock a node takes S from fabric time (R56, log entry 29). -/
def alignFrames (t : Time) : Prog :=
  .dyn (fun s => .when (s.unaligned && s.ing.epochs.isEmpty) (alignTo (s.genNow.lastSwap t)))

/-- The five named instants (Table 1.5). -/
inductive Instant | scene | amend | vote | commit | localAbort
  deriving DecidableEq, Repr

/-- The place of an instant in the list of offsets. -/
def Instant.index : Instant → Nat
  | .scene => 0
  | .amend => 1
  | .vote => 2
  | .commit => 3
  | .localAbort => 4

/-- A named instant of frame N (R34). -/
def State.instant (s : State) (i : Instant) (n : Fsn) : Time :=
  let g := s.genOf n
  g.swapTime n + g.offsets.getD i.index 0 * 256000

/-- The rules of R35 for five offsets: ranges of Table 1.5, rising, at least 100 microseconds apart. -/
def offsetsOk (o : List Int) : Bool :=
  match o with
  | [a, b, c, d, e] =>
    -40000 ≤ a && a ≤ -2000 && -20000 ≤ b && b ≤ -1000 && -5000 ≤ c && c ≤ -400 && -4000 ≤ d && d ≤ -300 &&
    -1000 ≤ e && e ≤ -100 && a + 100 ≤ b && b + 100 ≤ c && c + 100 ≤ d && d + 100 ≤ e
  | _ => false

/-- Half-fan mode of a frame (R21, R33). -/
def State.halfFan (s : State) (n : Fsn) : Bool := halfFanRate (s.genOf n).rate

/-- The pending frame N = S + 1. -/
def State.N (s : State) : Fsn := s.S + 1

/-- The deciding node's address (R406). -/
def State.rootA (s : State) : BitVec 16 := BitVec.ofNat 16 (s.fld F.TIM_ROOT_ROOT_A)
/-- The root of Canopy B. -/
def State.rootB (s : State) : BitVec 16 := BitVec.ofNat 16 (s.fld F.TIM_ROOT_ROOT_B)
/-- This node is the deciding node (R406). -/
def State.isDecider (s : State) : Bool := s.fab.coord == some s.rootA

/-- TIME_NS of an instant: nanoseconds modulo 2^32 (R375). -/
def timeNs (t : Time) : Word := BitVec.ofNat 32 (unsignedOf 40 t / 256)
/-- TIME_FRAC of an instant. -/
def timeFrac (t : Time) : Byte := BitVec.ofNat 8 (unsignedOf 8 t)

/-- Change drive lane `i`. -/
def modDrive (i : Nat) (f : DriveLane → DriveLane) : Prog := .act (.pdl (fun p => { p with lanes := modAt p.lanes i f }))

/-- Drive lane `i`. -/
def State.drive (s : State) (i : Nat) : DriveLane := s.pdl.lanes.getD i {}

/-- PWM_PERIOD of a rate: ⌊frame period / 51.2 ns⌋ (R289). -/
def pwmPeriod (rate : Nat) : Nat := (rateOf rate).2 * 10000000000 / ((rateOf rate).1 * 512)

/-- A drive lane that has entered ACTIVE brings its driver up: it reads DRV_ID and D_FX, writes LANE_ID, FAN, PWM_PERIOD
and WDOG and reads them back (R299). -/
def driverBringUp (i : Nat) : Prog :=
  .dyn (fun s =>
    let params : List (Nat × Nat) := [(2, i), (3, boolNat (halfFanRate s.genNow.rate)), (4, pwmPeriod s.genNow.rate),
      (5, s.fld F.PDL_WDOG_US)]
    modDrive i (fun d => { ({} : DriveLane) with
      seq := d.seq, queue := d.queue
      service := [.cfgRead 0, .cfgRead 1] ++ params.map (fun p => .cfgWrite p.1 p.2) ++ params.map (fun p => .cfgRead p.1)
      written := params }))

/-! ### The management port (R504, R505) -/

/-- The management port runs: enabled, link up at 1000 Mb/s. -/
def State.mgtUp (s : State) : Bool := s.flag F.MGT_CTRL_ENABLE && s.ctl.mgtLink

/-- The management port carries PMP and PTP: no loop-back runs (R505). -/
def State.mgtRuns (s : State) : Bool := s.mgtUp && s.fld F.MGT_CTRL_LOOP == 0

end Sys2Proof.Machine
end

