-- ==== Sys2Proof/Machine/Colour.lean ====
section
/-! DEFINITION. The colour and precision pipeline (chapter 07): from a 20-bit triple to 12-bit codes, the values latched
for a frame, code sums, tile power and the limiter. -/

namespace Sys2Proof.Machine

/-- SPEC_START(N) (R187), which is also V(N) (R274). -/
def State.specStart (s : State) (n : Fsn) : Time := max (s.swapTime (n - 2)) (s.instant .scene (n - 1))

/-- A working value with what was clamped on the way: channels at the upper end and channels below 0 (Table 7.17). -/
structure Work where
  w : Nat
  high : Nat := 0
  neg : Nat := 0
  deriving DecidableEq, Repr

/-- rnd(a / 2^k) with its clamp (R210). -/
def rnd (a : Int) (k : Nat) (high neg : Nat) : Work :=
  let q := rneDivInt a (2 ^ k)
  if a < 0 then { w := 0, high := high, neg := neg + 1 }
  else if 2 ^ 24 ≤ q.toNat then { w := 2 ^ 24 - 1, high := high + 1, neg := neg }
  else { w := q.toNat, high := high, neg := neg }

/-- A 16-bit value of memory. -/
def State.half16 (s : State) (a : Nat) : Nat := leNat (s.bytes a 2)

/-- a_cj of a region (Table 7.2). -/
def State.matrixCoef (s : State) (table r c j : Nat) : Int :=
  signedOf 20 (s.word32 (table + (r * 9 + c * 3 + j) * 4)).toNat

/-- G_R (Table 7.2). -/
def State.rollOff (s : State) (table r g v c : Nat) : Nat :=
  s.half16 (table + 0x1000 + (((r * 8 + g) * 8 + v) * 3 + c) * 2)

/-- G_H (Table 7.2). -/
def State.hogelGain (s : State) (gmap x y c : Nat) : Nat := s.half16 (gmap + ((y * 1024 + x) * 3 + c) * 2)

/-- Zone of a hogel (chapter 07, Panel temperature). -/
def zoneOf (x y : Nat) : Nat := x / 512 * 32 + y / 32

/-- Dither slice and offsets of a frame (R230). -/
def ditherSeed (n : Fsn) : Nat × Nat × Nat :=
  let s := n.toNat * 0x9E3779B9 % 2 ^ 32
  let s := s ^^^ (s / 2 ^ 16)
  (s % 32, bitsOf s 11 5, bitsOf s 18 12)

/-- The dither threshold of an emitter (R230). -/
def threshold (n : Fsn) (x y h v c : Nat) : Nat :=
  let (slice, ox, oy) := ditherSeed n
  Config.ditherMask slice ((y + oy + 59 * v + 83 * c) % 128) ((x + ox + 37 * h + 11 * c) % 128) % 256

/-- Stages 1 to 5 of one channel (R216, R217, R221, R223). -/
def stages (s : State) (l : Latched) (x y g v c : Nat) (t : Nat × Nat × Nat) : Work :=
  let r := y / 128 * 8 + x / 128
  let a := s.matrixCoef l.colTable r c
  let w1 := rnd (a 0 * (16 * t.1 : Nat) + a 1 * (16 * t.2.1 : Nat) + a 2 * (16 * t.2.2 : Nat)) 16 0 0
  let w2 := rnd (w1.w * s.rollOff l.colTable r g v c : Nat) 15 w1.high w1.neg
  let w3 := rnd (w2.w * s.hogelGain l.gainMap x y c : Nat) 15 w2.high w2.neg
  let w4 := rnd (w3.w * l.gT.getD (zoneOf x y * 3 + c) 0x8000 : Nat) 15 w3.high w3.neg
  rnd (w4.w * l.lam : Nat) 15 w4.high w4.neg

/-- Stage 6 (R231): the code, and the working value with its clamp counts. -/
def codeOf (s : State) (l : Latched) (n : Fsn) (x y h v c : Nat) (t : Nat × Nat × Nat) : Nat × Work :=
  let w := stages s l x y (h / 16) v c t
  let q := (w.w * l.codeScale.getD c 0 + threshold n x y h v c * 2 ^ 20) / 2 ^ 28
  if w.w = 0 then (0, w)
  else if 4095 < q then (4095, { w with high := w.high + 1 })
  else (q, w)

/-! ### What a frame latches at SPEC_START (R211) -/

/-- The latest report stamped before an instant. -/
def latestBefore (t : Time) (l : List (Time × BitVec 16)) : Option (Time × BitVec 16) :=
  l.foldl (fun b r => if t ≤ r.1 then b else match b with
    | none => some r
    | some q => if q.1 ≤ r.1 then some r else b) none

/-- The temperature of a zone that counts for an instant (R221, R297). -/
def State.zoneReport (s : State) (z : Nat) (t : Time) : Option (Time × BitVec 16) :=
  latestBefore t (s.pdl.lanes.getD (z / 32 * 96 + z % 32 * 3 + 1) {}).zoneTemps

/-- The reports that a later SPEC_START may still use. -/
def keepReports (t : Time) (l : List (Time × BitVec 16)) : List (Time × BitVec 16) :=
  (latestBefore t l).toList ++ l.filter (fun r => decide (t ≤ r.1))

/-- G_T of a zone and colour (R221, R222). -/
def State.tempGain (s : State) (z c : Nat) (t : Time) : Nat :=
  if !s.effFlag F.COL_CTRL_TEMP_EN then 0x8000 else
    match s.zoneReport z t with
    | none => 0x8000
    | some r =>
      let dT := fsub (fratio r.2.toInt 16) (s.effReg R.COL_TEMP_REF)
      let a := fmul (s.effReg (R.COL_TEMP_A c)) dT
      let b := fmul (fmul (s.effReg (R.COL_TEMP_B c)) dT) dT
      let g := fadd 0x3F800000 (fadd a b)
      (clampInt 16384 65535 (roundScaled g 32768)).toNat

/-- Some zone has no valid report in the 100 ms before an instant (R222). -/
def State.tempStale (s : State) (t : Time) : Bool :=
  s.effFlag F.COL_CTRL_TEMP_EN && (List.range 64).any (fun z =>
    match s.zoneReport z t with
    | none => true
    | some r => decide (r.1 < t - 100 * 256000000))

/-- The held λ of the highest-numbered frame before N (R224). -/
def lastLam (n : Fsn) (l : List (Fsn × Nat)) : Option (Fsn × Nat) :=
  l.foldl (fun b p => if !laterFsn n p.1 then b else match b with
    | none => some p
    | some q => if laterFsn p.1 q.1 then some p else b) none

/-- Every λ that the node holds: those of decisions, and those of the first two frames of the generation (R223). -/
def State.heldLams (s : State) (n : Fsn) : List (Fsn × Nat) :=
  let g := s.genOf n
  (if g.num = 0 then [] else [(g.firstFsn, g.limitStart), (g.firstFsn + 1, g.limitStart)]) ++ s.pdl.lams

/-- The limiter gain of frame N, and whether the node held it (R223, R224): the first two frames of a generation take
its LIMIT_START. -/
def State.lamFor (s : State) (n : Fsn) : Nat × Bool :=
  match (s.heldLams n).lookup n with
  | some x => (x, true)
  | none => match lastLam n (s.heldLams n) with
    | some p => (p.2, false)
    | none => (s.effFld F.COL_LIMIT_START_GAIN, false)

/-- The colour table and the gain map in use: the addresses of the accepted change in effect (R583). -/
def State.colTables (s : State) : Nat × Nat :=
  match s.grv.colChg.inUse with
  | [a, b, c, d] => (a.toNat / 2 ^ 12 * 2 ^ 12 + b.toNat % 64 * 2 ^ 32, c.toNat / 2 ^ 16 * 2 ^ 16 + d.toNat % 64 * 2 ^ 32)
  | _ => (0, 0)

/-- The colour values of frame N, latched at SPEC_START(N) into its record (R211, R224). -/
def State.latchColour (s : State) (n : Fsn) (l : Latched) : Latched :=
  let t := s.specStart n
  let lam := s.lamFor n
  { l with
    colTable := s.colTables.1
    gainMap := s.colTables.2
    codeScale := (List.range 3).map (fun c => s.effFld (F.COL_CODE_SCALE_K c))
    gT := (List.range 192).map (fun i => s.tempGain (i / 3) (i % 3) t)
    lam := lam.1
    pwr := [s.effReg R.COL_PWR_STATIC, s.effReg (R.COL_PWR_W 0), s.effReg (R.COL_PWR_W 1), s.effReg (R.COL_PWR_W 2),
      s.effReg R.COL_PWR_BUDGET, s.effReg R.COL_PWR_CEIL]
    tempStale := s.tempStale t
    lamUnknown := !lam.2
    lamKnown := true }

/-- The record of a frame's latched values, an empty one where the node has none. -/
def State.latched (s : State) (n : Fsn) : Latched := (s.pdl.frames.find? (fun l => l.fsn == n)).getD { fsn := n }

/-- Change a frame's record. -/
def modLatched (n : Fsn) (f : Latched → Latched) : Prog :=
  .act (.pdl (fun p => { p with frames := p.frames.map (fun l => if l.fsn == n then f l else l) }))

/-! ### Power and demand -/

/-- S_c over all bins: a rectangle write of a bin replaces what the fill wrote (R225). -/
def Latched.colourSum (l : Latched) (sel : Nat × Nat × Nat → Nat) : Nat :=
  (l.rectSums.map (fun p => sel p.2)).sum +
  ((l.fillSums.filter (fun p => !(l.rectSums.any (fun q => q.1 == p.1)))).map (fun p => sel p.2)).sum

/-- P(N) (R225). -/
def Latched.powerOf (l : Latched) : F32 :=
  let w (i : Nat) : F32 := fieldF32 (l.pwr.getD i 0)
  let sum (sel : Nat × Nat × Nat → Nat) : F32 := ofInt (l.colourSum sel : Nat)
  fadd (fadd (fadd (w 0) (fmul (w 1) (sum (·.1)))) (fmul (w 2) (sum (·.2.1)))) (fmul (w 3) (sum (·.2.2)))

/-- The demand d(N) once P(N) exists (R226). -/
def Latched.demand (l : Latched) : Option Nat :=
  l.power.map (fun p =>
    let w (i : Nat) : F32 := l.pwr.getD i 0
    if isZero (w 5) || fle p (w 0) then 0x8000
    else
      let q := fdiv (fmul (fmul 0x47000000 (fdiv (ofInt (l.lam : Nat)) 0x47000000)) (fsub (w 4) (w 0))) (fsub p (w 0))
      if fneg? q then 0 else if isInf q then 0x8000 else min 0x8000 (floorScaled q 1).toNat)

/-- P(N) exceeds the ceiling (R228). -/
def Latched.overCeiling (l : Latched) : Bool :=
  match l.power with
  | some p => !isZero (l.pwr.getD 5 0) && flt (l.pwr.getD 5 0) p
  | none => false

/-- Count clamped channels (Table 7.17). -/
def countClamps (high neg : Nat) : Prog :=
  .block [.count F.COL_CLAMP_HIGH high, .count F.COL_CLAMP_NEG neg]

end Sys2Proof.Machine
end

