-- ==== Sys2Proof/Machine/Route.lean ====
section
/-! DEFINITION. Where a packet goes: addresses, usable links, dimension order with detours, rectangle splits and trees
(R347, R348, R351, R358 to R361). -/

namespace Sys2Proof.Machine

/-- X of a node address (Table 12.2). -/
def addrX (a : BitVec 16) : Nat := bitsOf a.toNat 14 7
/-- Y of a node address (Table 12.2). -/
def addrY (a : BitVec 16) : Nat := bitsOf a.toNat 6 0
/-- The address of node (x, y). -/
def nodeAddr (x y : Nat) : BitVec 16 := BitVec.ofNat 16 (x * 128 + y)
/-- A guest address (Table 12.2). -/
def isGuest (a : BitVec 16) : Bool := bitOf a.toNat 15
/-- An address that is no reserved encoding (R348). -/
def addrOk (a : BitVec 16) : Bool := !isGuest a || bitsOf a.toNat 14 10 == 0

/-- The opposite port of Table 12.1. -/
def oppositePort : Nat → Nat
  | 0 => 2
  | 1 => 3
  | 2 => 0
  | 3 => 1
  | p => p

/-- The coordinate beyond a node port, as integers (Table 12.1). -/
def partnerXY (x y : Nat) : Nat → Int × Int
  | 0 => (x, (y : Int) - 1)
  | 1 => ((x : Int) + 1, y)
  | 2 => (x, (y : Int) + 1)
  | _ => ((x : Int) - 1, y)

/-- A coordinate inside the grid (R356). -/
def inGrid (p : Int × Int) : Bool := 0 ≤ p.1 && p.1 ≤ 255 && 0 ≤ p.2 && p.2 ≤ 127

/-- The link beyond a node port, named by its lower-address end and that end's port (Table 12.8). -/
def linkKey (x y p : Nat) : BitVec 16 × Nat :=
  match p with
  | 0 => (nodeAddr x (y - 1), 2)
  | 1 => (nodeAddr x y, 1)
  | 2 => (nodeAddr x y, 2)
  | _ => (nodeAddr (x - 1) y, 1)

/-- A link is in the failed-link table while either end has a down report (R359). -/
def linkFailed (ends : List LinkEnd) (k : BitVec 16 × Nat) : Bool :=
  ends.any (fun e => e.down && e.addr == k.1 && e.port == k.2)

/-- The links that the failed-link table names, once each. -/
def failedLinks (ends : List LinkEnd) : List (BitVec 16 × Nat) :=
  ends.foldl (fun acc e => if e.down && !acc.contains (e.addr, e.port) then acc ++ [(e.addr, e.port)] else acc) []

/-- Port `p` of the fabric. -/
def State.port (s : State) (p : Nat) : Port := s.fab.ports.getD p {}

/-- This node's coordinate as an address (R355). -/
def State.here (s : State) : Option (BitVec 16) := s.fab.coord

/-- This node's link beyond port `p` is usable (R358). -/
def State.linkUsable (s : State) (x y p : Nat) : Bool :=
  (s.port p).st == .up && !linkFailed s.fab.links (linkKey x y p)

/-- The first step of dimension order from (x, y) to (tx, ty): x first or y first (R358). -/
def firstStep (yFirst : Bool) (x y tx ty : Nat) : Nat :=
  let sx := if x < tx then 1 else 3
  let sy := if y < ty then 2 else 0
  if yFirst then (if y = ty then sx else sy) else (if x = tx then sy else sx)

/-- Whether every link of the y-first path is usable; the first link is this node's own (R358). -/
def pathUsable (s : State) : Nat → Bool → Nat → Nat → Nat → Nat → Bool
  | 0, _, _, _, _, _ => true
  | n + 1, own, x, y, tx, ty =>
    if x = tx ∧ y = ty then true
    else
      let p := firstStep true x y tx ty
      let ok := if own then s.linkUsable x y p else !linkFailed s.fab.links (linkKey x y p)
      let q := partnerXY x y p
      ok && pathUsable s n false q.1.toNat q.2.toNat tx ty

/-- Where one copy of a packet goes. -/
inductive Hop
  | deliver (pkt : XtfPacket)
  | send (port : Nat) (pkt : XtfPacket)
  | discard (code : Nat) (src : BitVec 16)
  deriving DecidableEq, Repr

/-- The detour candidates in the order of R358. -/
def detourOffsets : List Int := [-1, 1, -2, 2, -3, 3]

/-- The first detour waypoint whose path is usable (R358). -/
def findDetour (s : State) (x y p : Nat) : List Int → Option (Nat × Nat)
  | [] => none
  | k :: ks =>
    let m := partnerXY x y p
    let w : Int × Int := if p = 1 ∨ p = 3 then (m.1, m.2 + k) else (m.1 + k, m.2)
    if inGrid w && pathUsable s 8 true x y w.1.toNat w.2.toNat then some (w.1.toNat, w.2.toNat)
    else findDetour s x y p ks

/-- The procedure of R358 for a packet whose target is known; the caller delivers where the target is here. -/
def routeTo (s : State) (x y tx ty : Nat) (pkt : XtfPacket) (here : Hop) : Hop :=
  let clear := pkt.detoured && pkt.waypoint == nodeAddr x y
  let pkt := if clear then { pkt with detoured := false, waypoint := 0 } else pkt
  let gx := if pkt.detoured then addrX pkt.waypoint else tx
  let gy := if pkt.detoured then addrY pkt.waypoint else ty
  if x = gx ∧ y = gy then (if pkt.detoured then .discard 0x08 pkt.src else here)
  else
    let p := firstStep pkt.detoured x y gx gy
    if s.linkUsable x y p then .send p pkt
    else match findDetour s x y p detourOffsets with
      | some (wx, wy) =>
        .send (firstStep true x y wx wy) { pkt with detoured := true, waypoint := nodeAddr wx wy }
      | none => .discard 0x08 pkt.src

/-- The guest table entry of a guest address (R366). -/
def State.guestEntry (s : State) (a : BitVec 16) : Option GuestEntry := s.fab.guests.find? (fun g => g.guest == a)

/-- A packet with DETOURED cleared where this node is its waypoint. -/
def clearHere (x y : Nat) (pkt : XtfPacket) : XtfPacket :=
  if pkt.detoured && pkt.waypoint == nodeAddr x y then { pkt with detoured := false, waypoint := 0 } else pkt

/-- A unicast packet (R358, R366). -/
def routeUnicast (s : State) (x y : Nat) (pkt : XtfPacket) : Hop :=
  let a : BitVec 16 := BitVec.ofNat 16 pkt.dst.toNat
  if isGuest a then
    match s.guestEntry a with
    | none => .discard 0x09 pkt.src
    | some g =>
      let out := if (s.port g.port).st == .guestUp then Hop.send g.port (clearHere x y pkt) else .discard 0x08 pkt.src
      routeTo s x y (addrX g.host) (addrY g.host) pkt out
  else routeTo s x y (addrX a) (addrY a) pkt (.deliver (clearHere x y pkt))

/-- The fields of a rectangle DST (Table 12.4). -/
def rectX0 (d : Word) : Nat := bitsOf d.toNat 7 0
def rectX1 (d : Word) : Nat := bitsOf d.toNat 15 8
def rectY0 (d : Word) : Nat := bitsOf d.toNat 22 16
def rectY1 (d : Word) : Nat := bitsOf d.toNat 30 24
/-- The DST of a rectangle. -/
def rectDst (x0 x1 y0 y1 : Nat) : Word := BitVec.ofNat 32 (x0 + x1 * 2 ^ 8 + y0 * 2 ^ 16 + y1 * 2 ^ 24)

/-- The rectangle holds a coordinate. -/
def rectHolds (d : Word) (x y : Nat) : Bool := rectX0 d ≤ x && x ≤ rectX1 d && rectY0 d ≤ y && y ≤ rectY1 d

/-- The copies of a rectangle split at (x, y) (R360). -/
def rectCopies (x y : Nat) (d : Word) : List Word :=
  let x0 := rectX0 d
  let x1 := rectX1 d
  let y0 := rectY0 d
  let y1 := rectY1 d
  (if x < x1 then [rectDst (x + 1) x1 y0 y1] else []) ++
  (if x0 < x then [rectDst x0 (x - 1) y0 y1] else []) ++
  (if y0 < y then [rectDst x x y0 (y - 1)] else []) ++
  (if y < y1 then [rectDst x x (y + 1) y1] else [])

/-- A number clamped into a range. -/
def clampNat (lo hi v : Nat) : Nat := if v < lo then lo else if hi < v then hi else v

/-- A rectangle packet: routed toward the rectangle, or delivered and split inside it (R358, R360). -/
def routeRect (s : State) (x y : Nat) (pkt : XtfPacket) : List Hop :=
  if rectHolds pkt.dst x y then
    let pkt := { pkt with detoured := false, waypoint := 0 }
    .deliver pkt :: (rectCopies x y pkt.dst).map (fun d =>
      routeTo s x y (clampNat (rectX0 d) (rectX1 d) x) (clampNat (rectY0 d) (rectY1 d) y)
        { pkt with dst := d } (.discard 0x08 pkt.src))
  else
    [routeTo s x y (clampNat (rectX0 pkt.dst) (rectX1 pkt.dst) x) (clampNat (rectY0 pkt.dst) (rectY1 pkt.dst) y)
      pkt (.discard 0x08 pkt.src)]

/-- One Canopy domain: false A, true B. -/
def State.dom (s : State) (d : Bool) : Domain := s.tim.doms.getD (if d then 1 else 0) {}

/-- A partner's ANNOUNCE is no older than 3.5 ms at a LOCAL instant (R387, R388). -/
def Candidate.fresh (c : Candidate) (l : Time) : Bool := decide (l < c.stamp + 3500000 * 256)

/-- The child ports of a domain at the latest instant known: a port whose partner's latest ANNOUNCE is fresh and carries
PARENT (R385, R388). -/
def State.children (s : State) (d : Bool) : List Nat :=
  [0, 1, 2, 3].filter (fun p => s.flag (F.TIM_ASYM_VALID p) &&
    (match (s.dom d).cands.getD p none with | some c => c.parent && c.fresh s.tim.now | none => false))

/-! ### The node's clocks (R377, R391, R397) -/

/-- The rate correction of a domain against LOCAL, in 10^-12 (R377). -/
def Domain.rate (d : Domain) : Int := d.track + d.corr

/-- Domain time minus LOCAL at a LOCAL instant (R377). -/
def Domain.ofs (d : Domain) (l : Time) : Int := d.offset + Int.tdiv (d.rate * (l - d.base)) (10 ^ 12)

/-- The bridge offset at a LOCAL instant: it moves toward 0 by 0.1 ns per ms (R397). -/
def State.betaNow (s : State) (l : Time) : Int :=
  let moved := (l - s.tim.betaAt) / 10 ^ 7
  if 0 ≤ s.tim.beta then max 0 (s.tim.beta - moved) else min 0 (s.tim.beta + moved)

/-- Fabric time at a LOCAL instant (R397). -/
def State.fabricAt (s : State) (l : Time) : Time := l + (s.dom s.tim.follow).ofs l + s.betaNow l

/-- The LOCAL instant of a fabric time. -/
def State.localOf (s : State) (t : Time) : Time :=
  let back (l : Time) : Time := t - (s.fabricAt l - l)
  back (back (t - (s.dom s.tim.follow).offset - s.tim.beta))

/-- A command names a LOCAL instant: LOCAL has counted that far (R377). -/
def Prog.atLocal (l : Time) : Prog := .act (.tim (fun c => { c with now := max c.now l }))

/-- A command names an instant of fabric time. -/
def Prog.atFabric (t : Time) : Prog := .dyn (fun s => Prog.atLocal (s.localOf t))

/-- A tree packet leaves by a port only where the port is usable (R361). -/
def treeHop (s : State) (x y : Nat) (pkt : XtfPacket) (p : Nat) : Hop :=
  if s.linkUsable x y p then .send p pkt else .discard 0x08 pkt.src

/-- A tree-up or tree-down packet (R361): up goes to the parent, and is delivered at the root; down is delivered and
goes to every child. -/
def routeTree (s : State) (x y : Nat) (pkt : XtfPacket) : List Hop :=
  let dom := s.dom pkt.domain
  if pkt.mode = 2 then
    match dom.parent with
    | some p => [treeHop s x y pkt p]
    | none => if dom.st == .root then [.deliver pkt] else [.discard 0x08 pkt.src]
  else if dom.st == .root || dom.parent.isSome then
    .deliver pkt :: (s.children pkt.domain).map (treeHop s x y pkt)
  else [.discard 0x08 pkt.src]

/-- Where a packet goes from this node, by its MODE (R357 to R361). -/
def routeHops (s : State) (pkt : XtfPacket) : List Hop :=
  if pkt.mode = 4 then [.deliver pkt]
  else match s.here with
    | none => [.discard 0x08 pkt.src]
    | some a =>
      if pkt.mode = 0 then [routeUnicast s (addrX a) (addrY a) pkt]
      else if pkt.mode = 1 then routeRect s (addrX a) (addrY a) pkt
      else routeTree s (addrX a) (addrY a) pkt

/-- The combinations of PROTO, CLASS and MODE of Table 12.5. -/
def protoOk (proto cls mode : Nat) : Bool :=
  match proto with
  | 0x01 => cls == 2 && (mode == 0 || mode == 1)
  | 0x02 => cls == 0 && mode == 4
  | 0x03 => cls == 1 && (mode == 0 || mode == 2 || mode == 3)
  | 0x04 => cls == 1 && (mode == 2 || mode == 3 || mode == 4)
  | 0x05 => cls == 3 && mode == 0
  | 0x06 => cls == 3 && (mode == 0 || mode == 1)
  | 0x07 => cls == 3 && mode == 0
  | _ => false

/-- The fields of a packet's header are good but for what Table 12.5 says of PROTO, CLASS and MODE (R351, Table 12.4). -/
def fieldsOk (p : XtfPacket) : Bool :=
  let mode := p.mode.toNat
  let dst := p.dst.toNat
  !p.rsv && p.length.toNat ≤ 2048 && p.length.toNat % 4 == 0 && mode ≤ 4 && addrOk p.src && addrOk p.waypoint &&
  (p.domain == false || mode == 2 || mode == 3) &&
  (match mode with
   | 0 => dst / 2 ^ 16 == 0 && addrOk (BitVec.ofNat 16 dst)
   | 1 => !bitOf dst 23 && !bitOf dst 31 && rectX0 p.dst ≤ rectX1 p.dst && rectY0 p.dst ≤ rectY1 p.dst
   | _ => dst == 0)

/-- The header of a packet is good (R351). -/
def headerOk (p : XtfPacket) : Bool := fieldsOk p && protoOk p.proto.toNat p.cls.toNat p.mode.toNat

/-- The MODE that Table 12.5 allows a protocol, whatever its CLASS. -/
def modeAllowed (proto mode : Nat) : Bool := (List.range 4).any (fun cls => protoOk proto cls mode)

/-- A message of PROTO 0x02, 0x03 or 0x04 has a TYPE that is not reserved, its length, and zeros in its reserved fields
(R357, R379, R380, R424, Tables 12.8, 13.2, 13.3, 14.5a and 14.6). -/
def messageOk (p : XtfPacket) : Bool :=
  let b (i : Nat) : Nat := (p.payload.getD i 0).toNat
  let zero (l : List Nat) : Bool := l.all (fun i => b i == 0)
  if p.proto = 0x02 then
    match b 0 with
    | 1 => p.length == 12 && b 1 < 8 && zero [5, 6, 7, 10, 11]
    | 2 => p.length == 8 && b 1 < 2 && zero [4, 5, 6, 7]
    | 3 => p.length == 20 && b 1 < 2 && zero [6, 7, 16, 17, 18, 19]
    | _ => false
  else if p.proto = 0x03 then
    match b 0 with
    | 1 => p.length == 28 && zero [1, 2, 3, 26, 27]
    | 2 => p.length == 28 && zero [1, 2, 3, 26, 27]
    | 3 => p.length == 32
    | 4 => p.length == 12 && zero [1, 2, 3, 5, 6, 7]
    | 5 => b 1 ≤ 12 && p.length == (if b 1 = 0 then 104 else 1032) && zero [2, 3]
    | 6 => p.length == 40 && zero [1, 2, 3]
    | 7 => p.length == 8 && zero [1, 2, 3, 6, 7]
    | 8 => p.length == 8 && zero [1, 2, 3, 5]
    | 9 => p.length == 12 && zero [1, 2, 3, 10, 11]
    | _ => false
  else if p.proto = 0x04 then
    zero [1, 2, 3] && (match b 0 with
      | 1 => p.length == 8 && b 7 == 0
      | 2 => p.length == 12
      | 3 => p.length == 12
      | 4 => p.length == 8
      | _ => false)
  else true

/-! ### Symbols (R349, R350) -/

/-- The 16 bytes of a header (Table 12.4). -/
def headerBytes (p : XtfPacket) : List Byte :=
  leBytes 1 (p.cls.toNat + p.mode.toNat * 4 + boolNat p.domain * 32 + boolNat p.detoured * 64 + boolNat p.rsv * 128) ++
  [p.hops] ++ leBytes 2 p.src.toNat ++ leBytes 4 p.dst.toNat ++ leBytes 2 p.length.toNat ++ leBytes 2 p.srcSeq.toNat ++
  [p.proto, p.lseq] ++ leBytes 2 p.waypoint.toNat

/-- The CRC of a packet as sent on a link (R98, R350). -/
def packetCrc (p : XtfPacket) : Word := crc32c (headerBytes p ++ p.payload)

/-- A control symbol Kx.y (Table 12.3). -/
def ctl (x y : Nat) : Nat := 0x100 + 32 * y + x

/-- Symbols with PAD up to a whole column of n lanes, dealt to the lanes: symbol j on lane j mod n (R349). -/
def toLanes (n : Nat) (l : List Nat) : List (List Nat) :=
  let cols := (l.length + n - 1) / n
  (List.range n).map (fun i => (List.range cols).map (fun c => l.getD (c * n + i) (ctl 28 0)))

/-- Lanes of a port (Table 12.1). -/
def portWidth (p : Nat) : Nat := if p < 4 then 4 else 8

/-- The symbols of a packet: SOP, header, payload, CRC, and EOP or EOP_BAD (R350). -/
def packetSymbols (p : XtfPacket) (bad : Bool) : List Nat :=
  [ctl 27 7] ++ (headerBytes p ++ p.payload ++ leBytes 4 (packetCrc p).toNat).map BitVec.toNat ++
  [if bad then ctl 30 7 else ctl 29 7]

end Sys2Proof.Machine
end

