-- ==== Sys2Proof/Machine/FabricOps.lean ====
section
/-! DEFINITION. The link layer and the sending of packets as shared programs: credits, arbitration, acknowledgement,
ports that come and go, discards, and packets that this node originates (R352 to R354, R357 to R371, R373). -/

namespace Sys2Proof.Machine

/-- Credits that a packet needs (R353). -/
def creditsOf (p : XtfPacket) : Nat := (p.length.toNat + 20 + 255) / 256

/-- The input buffer of a port and class in credits (Table 12.7). -/
def bufferOf (port cls : Nat) : Nat :=
  let x := 4 ≤ port
  match cls with
  | 0 => 8
  | 1 => 32
  | 2 => if x then 192 else 128
  | _ => if x then 128 else 64

/-- Change port `p`. -/
def modPort (p : Nat) (f : Port → Port) : Prog := .act (.fab (fun b => { b with ports := modAt b.ports p f }))

/-- The credits that the sender of port `p` holds for a class (R353): advertised less consumed, modulo 256. -/
def creditsFree (q : Port) (cls : Nat) : Nat :=
  (q.creditLimit.getD cls 0 + 256 - q.creditUsed.getD cls 0 % 256) % 256

/-- The class may start this packet now: credits, and at most 64 unacknowledged for the reliable classes (R352). -/
def canSend (q : Port) (c : Queued) : Bool :=
  creditsOf c.pkt ≤ creditsFree q c.pkt.cls.toNat && (c.pkt.cls == 0 || q.unacked.length < 64)

/-- The rank of an input at an output in a class: never granted first by number, then least recently granted (R370). -/
def grantRank (order : List Nat) (input : Nat) : Nat :=
  match order.findIdx? (· == input) with
  | none => input
  | some i => 7 + i

/-- The packets of a class that may be taken before one that was routed again: those that came before it, and itself
(R354). -/
def upToAhead : List Queued → List Queued
  | [] => []
  | c :: l => if c.ahead then [c] else c :: upToAhead l

/-- The first queued packet of an input in a class: packets of one input keep their order (R363), and one that was routed
again goes ahead of what came later (R354). -/
def headOf (q : Port) (cls input : Nat) : Option Queued :=
  (upToAhead (q.queue.filter (fun c => c.pkt.cls.toNat == cls))).find? (fun c => c.input == input)

/-- The candidates of a class: for each input its first packet, if it may start. -/
def readyIn (q : Port) (cls : Nat) : List Queued :=
  (List.range 7).filterMap (fun i => match headOf q cls i with
    | some c => if canSend q c then some c else none
    | none => none)

/-- A packet at the head of its queue waits for credits (Table 12.24). -/
def portStalled (q : Port) : Bool :=
  (List.range 4).any (fun cls => (List.range 7).any (fun i => match headOf q cls i with
    | some c => creditsFree q cls < creditsOf c.pkt
    | none => false))

/-- The candidate of least rank. -/
def leastRank (order : List Nat) : List Queued → Option Queued
  | [] => none
  | c :: cs => match leastRank order cs with
    | none => some c
    | some d => if grantRank order c.input ≤ grantRank order d.input then some c else some d

/-- The packet that the output sends next, by class and by R370. -/
def pickNext (q : Port) : Option Queued :=
  (List.range 4).foldl (fun acc cls => match acc with
    | some c => some c
    | none => leastRank (q.granted.getD cls []) (readyIn q cls)) none

/-- Remove the first element equal to `c`. -/
def removeOne (c : Queued) : List Queued → List Queued
  | [] => []
  | d :: l => if d = c then l else d :: removeOne c l

/-- The port after it has started packet `c`, and the packet as sent (R352, R353). -/
def startPacket (q : Port) (c : Queued) : Port × Queued :=
  let cls := c.pkt.cls.toNat
  let sent := { c with pkt := { c.pkt with lseq := if cls = 0 then 0 else q.txSeq }, hold := 0 }
  ({ q with
      queue := removeOne c q.queue
      txSeq := if cls = 0 then q.txSeq else q.txSeq + 1
      unacked := if cls = 0 then q.unacked else q.unacked ++ [sent]
      creditUsed := modAt q.creditUsed cls (· + creditsOf c.pkt)
      granted := modAt q.granted cls (fun g => g.filter (· != c.input) ++ [c.input]) }, sent)

/-- Return the credits of a received packet to its input port (R353, R363). -/
def returnCredits (port cls n : Nat) : Prog :=
  .when (port < 6) (modPort port (fun q => { q with
    creditBack := modAt q.creditBack cls (· + n)
    held := modAt q.held cls (· - n) }))

/-- One copy of a received packet has been sent: the last one returns its credits (R363). -/
def copySent (hold credits : Nat) : Prog :=
  .dyn (fun s => match s.fab.holds.find? (fun h => h.1 == hold) with
    | none => .nil
    | some (_, port, cls, left) =>
      if left ≤ 1 then .seq (.act (.fab (fun b => { b with holds := b.holds.filter (fun h => h.1 != hold) })))
        (returnCredits port cls credits)
      else .act (.fab (fun b => { b with
        holds := b.holds.map (fun h => if h.1 == hold then (h.1, h.2.1, h.2.2.1, left - 1) else h) })))

/-- A packet goes out on a port (R349, R350). -/
def sendPacket (p : Nat) (c : Queued) : Prog :=
  .seq (.send (.xtf p c.pkt (toLanes (portWidth p) (packetSymbols c.pkt c.bad)))) (.count (F.FAB_P_TX_COUNT p) 1)

/-- Send what the output may send, at most `n` packets (R370). -/
def drainPort : Nat → Nat → Prog
  | 0, _ => .nil
  | n + 1, p => .dyn (fun s =>
      match pickNext (s.port p) with
      | none => .nil
      | some c =>
        let r := startPacket (s.port p) c
        .block [modPort p (fun _ => r.1), sendPacket p r.2, copySent c.hold (creditsOf c.pkt), drainPort n p])

/-- A port that carries packets: up to a node, or up to a guest. -/
def portCarries (q : Port) : Bool := q.st == .up || q.st == .guestUp

/-- Send all that may go on a port. -/
def pumpPort (p : Nat) : Prog :=
  .dyn (fun s => if portCarries (s.port p) then drainPort (s.port p).queue.length p else .nil)

/-- A LINKCTL set (Table 12.6). -/
def sendLinkctl (port : Nat) (c1 c2 : Byte) : Prog :=
  .send (.linkctl port c1 c2 (c1 ^^^ c2 ^^^ 0xC3)
    (toLanes (portWidth port) (ctl 28 4 :: [c1, c2, c1 ^^^ c2 ^^^ 0xC3].map BitVec.toNat)))

/-- The credits returned so far, class by class, in LINKCTL sets (R353). -/
def advertise (port : Nat) : Prog :=
  .dyn (fun s => .each (List.range 4) (fun cls =>
    sendLinkctl port (BitVec.ofNat 8 cls) (BitVec.ofNat 8 ((s.port port).creditBack.getD cls 0))))

/-- A code of Table 12.9 is recorded that no register holds (log entry 51). -/
def recordFab (code port : Nat) : Prog := .act (.fab (fun b => { b with recorded := b.recorded ++ [(code, port)] }))

/-- The first discard since FAB_DISCARD was read is recorded and raises EV_FAB_DISCARD (R373, Table 12.14). -/
def firstDiscard (code : Nat) (src : BitVec 16) : Prog :=
  .dyn (fun s => .when (!s.fab.firstTold) (.block [
    .act (.fab (fun b => { b with firstTold := true })),
    .setFld F.FAB_FIRST_DISCARD_CODE code, .setFld F.FAB_FIRST_DISCARD_SRC src.toNat, .raise 70]))

/-- Count and record a discard of the router (R373): HEADER for code 0x06, ROUTE for 0x07 to 0x09, 0x0B and 0x0C. -/
def discardPacket (code : Nat) (src : BitVec 16) : Prog :=
  .seq (firstDiscard code src) (.count (if code = 0x06 then F.FAB_DISCARD_HEADER else F.FAB_DISCARD_ROUTE) 1)

/-- Count and record a discard at a port: bad CRC or form 0x01, EOP_BAD 0x02 (R373, Table 12.13). -/
def discardAtPort (p code : Nat) (src : BitVec 16) : Prog :=
  .seq (firstDiscard code src) (.count (if code = 0x01 then F.FAB_P_CRC_CRC p else F.FAB_P_CRC_STOMP p) 1)

/-- The address that the ingest binding in effect names (R51). -/
def State.boundSource (s : State) : Option (BitVec 16) :=
  if s.effFlag F.ING_STREAM_ACCEPT then some (BitVec.ofNat 16 (s.effFld F.ING_SOURCE_SOURCE_ADDR)) else none

/-- Hand a packet to this node's own sink; a SCENE packet from the bound source must be later than the last one (R364);
a message of Canopy time or fabric control must have its form (R357, R379). -/
def deliverPacket (pkt : XtfPacket) : Prog :=
  .dyn (fun s =>
    if !messageOk pkt then discardPacket 0x06 pkt.src
    else if pkt.cls = 2 ∧ s.boundSource = some pkt.src then
      match s.fab.sceneSeq with
      | some q =>
        if newer16 pkt.srcSeq q then
          .seq (.act (.fab (fun b => { b with sceneSeq := some pkt.srcSeq }))) (.send (.deliver pkt))
        else .block [firstDiscard 0x0A pkt.src, .when (s.fld F.FAB_REORDER_COUNT == 0) (.raise 71),
          .count F.FAB_REORDER_COUNT 1]
      | none => .seq (.act (.fab (fun b => { b with sceneSeq := some pkt.srcSeq }))) (.send (.deliver pkt))
    else .send (.deliver pkt))

/-- Queue a copy at an output. -/
def enqueue (p : Nat) (c : Queued) : Prog := modPort p (fun q => { q with queue := q.queue ++ [c] })

/-- Act on the hops of a packet that came from an input: deliver, queue the copies under one hold, discard, then send
what may go. With no copy its credits return at once (R363). Of a packet whose end is bad only the copies go on
(R371). -/
def dispatchHops (input cls credits : Nat) (bad : Bool) (hops : List Hop) : Prog :=
  .dyn (fun s =>
    let id := s.fab.nextHold + 1
    let copies := hops.filter (fun h => match h with | .send _ _ => true | _ => false)
    .block [
      .act (.fab (fun b => { b with
        nextHold := id
        holds := if copies.isEmpty then b.holds else b.holds ++ [(id, input, cls, copies.length)] })),
      .each hops (fun h => match h with
        | .deliver pkt => .when (!bad) (deliverPacket pkt)
        | .send p pkt => enqueue p { pkt := pkt, input := input, hold := id, bad := bad }
        | .discard code src => .when (!bad) (discardPacket code src)),
      .when copies.isEmpty (returnCredits input cls credits),
      .each hops (fun h => match h with | .send p _ => pumpPort p | _ => .nil)])

/-- Route a packet from an input and act on the result. -/
def forwardPacket (input : Nat) (pkt : XtfPacket) : Prog :=
  .dyn (fun s => dispatchHops input pkt.cls.toNat (creditsOf pkt) false (routeHops s pkt))

/-- A packet of this node with the next SRC_SEQ of its class (Table 12.4). -/
def State.newPacket (s : State) (cls mode proto : Nat) (domain : Bool) (dst : Word) (payload : List Byte) :
    XtfPacket :=
  { cls := BitVec.ofNat 2 cls, mode := BitVec.ofNat 3 mode, domain := domain
    src := s.here.getD 0, dst := dst, srcSeq := s.fab.srcSeq.getD cls 0, proto := BitVec.ofNat 8 proto
    length := BitVec.ofNat 16 payload.length, payload := payload }

/-- Count a packet of this node in its class. -/
def bumpSrcSeq (cls : Nat) : Prog := .act (.fab (fun b => { b with srcSeq := modAt b.srcSeq cls (· + 1) }))

/-- Originate a packet that is routed. -/
def originate (cls mode proto : Nat) (domain : Bool) (dst : Word) (payload : List Byte) : Prog :=
  .dyn (fun s => .seq (bumpSrcSeq cls) (forwardPacket 6 (s.newPacket cls mode proto domain dst payload)))

/-- Originate a unicast packet. -/
def sendUnicast (cls proto : Nat) (dst : BitVec 16) (payload : List Byte) : Prog :=
  originate cls 0 proto false (BitVec.ofNat 32 dst.toNat) payload

/-- Originate a tree packet in one domain. -/
def sendTree (down : Bool) (domain : Bool) (proto : Nat) (payload : List Byte) : Prog :=
  originate 1 (if down then 3 else 2) proto domain 0 payload

/-- A link-mode packet to the partner of a port that carries packets (R361). -/
def sendLink (cls proto p : Nat) (payload : List Byte) : Prog :=
  .dyn (fun s => if portCarries (s.port p) then
      .block [bumpSrcSeq cls, dispatchHops 6 cls 0 false [.send p (s.newPacket cls 4 proto false 0 payload)]]
    else .nil)

/-! ### Ports that come and go -/

/-- The state code of a port (Table 12.12). -/
def portCode : PortState → Nat
  | .disabled => 0
  | .training => 1
  | .up => 2
  | .down => 3
  | .guestUp => 4
  | .guestRefused => 5

/-- The FAB_PORT_STATE word (Table 12.12). -/
def State.portStateWord (s : State) : Word :=
  BitVec.ofNat 32 ((List.range 6).foldl (fun acc p => acc + portCode (s.port p).st * 16 ^ p) 0)

/-- A port enters ACTIVE: both ends start at LSEQ 0 with the credits they advertise, which are those of the buffer that
no received packet still holds (R353, R354). -/
def portStart (p : Nat) (st : PortState) : Prog :=
  .block [
    modPort p (fun q => { q with
      st := st, txSeq := 0, rxSeq := 0, gapNak := false, unacked := [], resends := 0
      creditUsed := [0, 0, 0, 0], creditLimit := [0, 0, 0, 0]
      creditBack := (List.range 4).map (fun k => bufferOf p k - q.held.getD k 0), downSince := none }),
    advertise p]

/-- One copy that was queued or unacknowledged on a port is routed again, ahead of what reaches the node later: it keeps
its input and the credits it holds (R354, R363). -/
def rerouteCopy (c : Queued) : Prog :=
  .dyn (fun s =>
    let hops := routeHops s c.pkt
    .block [
      .each hops (fun h => match h with
        | .send p pkt => enqueue p { c with pkt := pkt, ahead := true }
        | .deliver pkt => .seq (deliverPacket pkt) (copySent c.hold (creditsOf c.pkt))
        | .discard code src => .seq (discardPacket code src) (copySent c.hold (creditsOf c.pkt))),
      .each hops (fun h => match h with | .send p _ => pumpPort p | _ => .nil)])

/-- The packets of a port that is no longer ACTIVE: TIME and COMMIT are discarded, SCENE and BULK are routed again in
their order, the unacknowledged first (R354). -/
def portStop (p : Nat) (st : PortState) (t : Time) : Prog :=
  .dyn (fun s =>
    let q := s.port p
    let again (c : Queued) : Bool := c.pkt.cls == 2 || c.pkt.cls == 3
    .block [
      modPort p (fun q => { q with st := st, unacked := [], queue := [], assigned := false, downSince := some t }),
      .each (q.queue.filter (fun c => !again c)) (fun c => copySent c.hold (creditsOf c.pkt)),
      .each ((q.unacked ++ q.queue).filter again) rerouteCopy])

/-- A LINK_STATE message (Table 12.8). -/
def linkStateBytes (key : BitVec 16 × Nat) (down : Bool) (eventSeq reporter : BitVec 16) : List Byte :=
  leBytes 4 2 ++ leBytes 2 key.1.toNat ++ leBytes 1 key.2 ++ leBytes 1 (boolNat down) ++ leBytes 2 eventSeq.toNat ++
  leBytes 2 reporter.toNat

/-- Put a report of one end into the failed-link table (R359): newer or equal EVENT_SEQ replaces, a 65th failed link is
not stored. -/
def storeLinkEnd (e : LinkEnd) : Prog :=
  .dyn (fun s =>
    let same := fun (x : LinkEnd) => x.addr == e.addr && x.port == e.port && x.reporter == e.reporter
    match s.fab.links.find? same with
    | some old =>
      if newer16 old.eventSeq e.eventSeq then .nil
      else if e.down && !old.down && !linkFailed s.fab.links (e.addr, e.port) &&
          (failedLinks s.fab.links).length ≥ 64 then .block [.setFld F.FAB_LINK_TABLE_FULL 1, recordFab 0x0D e.port, .raiseAt 67 e.stamp]
      else .act (.fab (fun b => { b with links := b.links.map (fun x => if same x then e else x) }))
    | none =>
      if e.down && !linkFailed s.fab.links (e.addr, e.port) && (failedLinks s.fab.links).length ≥ 64 then
        .block [.setFld F.FAB_LINK_TABLE_FULL 1, recordFab 0x0D e.port, .raiseAt 67 e.stamp]
      else .act (.fab (fun b => { b with links := b.links ++ [e] })))

/-- Report the link beyond a port up or down: own table, LINK_STATE tree up in both domains, and tree down where this
node is the root (R359). -/
def reportLink (p : Nat) (down : Bool) (t : Time) : Prog :=
  .dyn (fun s => match s.here with
    | none => .nil
    | some a =>
      let key := linkKey (addrX a) (addrY a) p
      let seq := (s.port p).eventSeq
      let body := linkStateBytes key down seq a
      .block [
        modPort p (fun q => { q with eventSeq := q.eventSeq + 1 }),
        storeLinkEnd { addr := key.1, port := key.2, reporter := a, down := down, eventSeq := seq, stamp := t },
        .each [false, true] (fun d => .dyn (fun s => if (s.dom d).st == .root then sendTree true d 4 body
          else sendTree false d 4 body)),
        .raiseAt (if down then 65 else 66) t])

/-- A node port enters ACTIVE: it starts, and its link is reported up at once (R354, R359). -/
def nodePortUp (p : Nat) (t : Time) : Prog := .seq (portStart p .up) (reportLink p false t)

end Sys2Proof.Machine
end

