-- ==== Sys2Proof/Machine/Votes.lean ====
section
/-! DEFINITION. The node's own vote and its aggregates as shared programs: causes, settling, folding in the children's
votes and sending (R92, R199, R407 to R411). -/

namespace Sys2Proof.Machine

/-- A held frame (R180). -/
def State.epoch (s : State) (n : Fsn) : Option Epoch := s.ing.epochs.find? (fun e => e.fsn == n)

/-- A node in FAULT takes no packet and moves no epoch (R186). -/
def State.frozen (s : State) : Bool := s.node == .fault

/-- A grove register: offset `off` of grove `g` (chapter 05, registers). -/
def groveReg (g off : Nat) : Nat := 0xB00000 + g * 0x100000 + off

/-- The array issues strips: every grove enabled and the pitch set (R177, R580). -/
def State.arrayOn (s : State) : Bool :=
  (List.range 8).all (fun g => (s.reg (groveReg g 0)).getLsbD 0) && !isZero (s.effReg R.GRV_PITCH)

/-- BIN_CTRL.ENABLE (Table 4.6). -/
def State.binOn (s : State) : Bool := s.flag F.BIN_CTRL_ENABLE

/-- The first cause with a vote effect recorded against a frame (R407). -/
def State.firstCause (s : State) (n : Fsn) : Option (BitVec 16) := (s.cmt.causes.find? (fun c => c.1 == n)).map (·.2)

/-- Frame N is synthesised (R175, R200). -/
def State.synthesised (s : State) (n : Fsn) : Bool :=
  match s.epoch n with
  | some e => e.st == .synthesised
  | none => false

/-- Frame N has had its FRAME_OPEN since the last rollback or REOPEN (R199). -/
def State.frameOpened (s : State) (n : Fsn) : Bool :=
  match s.epoch n with
  | some e => e.opened
  | none => false

/-- The conditions of Table 14.1 beside membership and causes. -/
def State.readyFor (s : State) (n : Fsn) : Bool :=
  s.synthesised n && s.frameOpened n && (s.latched n).written && s.binOn && s.arrayOn

/-- The settled vote for frame N. -/
def State.voteFor (s : State) (n : Fsn) : Option Vote := s.cmt.vote.filter (fun v => v.fsn == n)

/-- An aggregate of the node's own vote (R410). -/
def ownAgg (s : State) (n : Fsn) : Agg :=
  match if s.node == .member then s.voteFor n else none with
  | none => { gen := s.cmt.gen.num }
  | some v =>
    let a := s.here.getD 0
    { gen := s.cmt.gen.num, ready := boolNat v.ready, notReady := boolNat (!v.ready)
      sum := if v.ready then BitVec.ofNat 32 a.toNat else 0
      demand := v.demand
      reason := if v.ready then 0 else v.reason
      reasonNode := if v.ready then 0 else a }

/-- The lesser of two demands that may be absent. -/
def minDemand : Option Nat → Option Nat → Option Nat
  | none, b => b
  | a, none => a
  | some a, some b => some (min a b)

/-- Two aggregates folded into one (R410). -/
def foldAgg (a b : Agg) : Agg :=
  let r := if b.notReady = 0 then (a.reason, a.reasonNode)
    else if a.notReady = 0 then (b.reason, b.reasonNode)
    else if b.reasonNode.toNat < a.reasonNode.toNat then (b.reason, b.reasonNode) else (a.reason, a.reasonNode)
  { gen := a.gen, ready := a.ready + b.ready, notReady := a.notReady + b.notReady, sum := a.sum + b.sum
    demand := minDemand a.demand b.demand, reason := r.1, reasonNode := r.2 }

/-- The node's aggregate in a domain: its own vote and the children's votes counted (R409, R410). -/
def State.aggregate (s : State) (d : Bool) (n : Fsn) : Agg :=
  (s.cmt.children.filter (fun c => c.domain == d && c.fsn == n)).foldl (fun a c => foldAgg a c.agg) (ownAgg s n)

/-- A VOTE or VOTE_FWD body (Table 14.5a). -/
def voteBytes (type : Nat) (n : Fsn) (a : Agg) : List Byte :=
  leBytes 4 type ++ leBytes 4 n.toNat ++ leBytes 4 a.gen.toNat ++ leBytes 2 a.ready ++ leBytes 2 a.notReady ++
  leBytes 4 a.sum.toNat ++ leBytes 2 (a.demand.getD 0xFFFF) ++ leBytes 2 a.reason.toNat ++
  leBytes 2 a.reasonNode.toNat ++ leBytes 2 0

/-- The VOTE of frame N in domain d has been sent. -/
def State.voteSent (s : State) (d : Bool) (n : Fsn) : Bool := s.cmt.sent.any (fun x => x.1 == d && x.2 == n)

/-- Send the VOTE of the pending frame on the parent port, once (R409). -/
def sendVote (d : Bool) : Prog :=
  .dyn (fun s =>
    if !s.flag F.CMT_CTRL_ENABLE || s.voteSent d s.N || (s.dom d).parent.isNone then .nil
    else .block [
      .act (.cmt (fun c => { c with sent := (d, s.N) :: c.sent })),
      sendTree false d 3 (voteBytes 1 s.N (s.aggregate d s.N))])

/-- Send once the own vote has settled, or the node is no MEMBER, and every child port has voted (R409). -/
def trySendVote (d : Bool) : Prog :=
  .dyn (fun s =>
    let own := s.node != .member || (s.voteFor s.N).isSome
    let all := (s.children d).all (fun p => s.cmt.children.any (fun c => c.domain == d && c.port == p && c.fsn == s.N))
    if own && all then sendVote d else .nil)

/-- The vote settles (R407, R408, Table 14.9): registers, event, and what it lets go. -/
def settleVote (ready : Bool) (reason : BitVec 16) : Prog :=
  .dyn (fun s => .block [
    .act (.cmt (fun c => { c with
      vote := some { fsn := s.N, ready := ready, reason := reason, demand := (s.latched s.N).demand } })),
    .setReg R.CMT_VOTE_FSN s.N,
    .setFlag F.CMT_VOTE_NOT_READY (!ready), .setFld F.CMT_VOTE_REASON reason.toNat,
    .raise 128, trySendVote false, trySendVote true])

/-- A MEMBER casts as soon as a cause stands or every condition holds (R407). -/
def tryVote : Prog :=
  .dyn (fun s =>
    if s.node == .member && s.flag F.CMT_CTRL_ENABLE && (s.voteFor s.N).isNone then
      match s.firstCause s.N with
      | some r => settleVote false r
      | none => if s.readyFor s.N then settleVote true 0 else .nil
    else .nil)

/-- Record a cause with a vote effect against a frame (R407). -/
def recordCause (n : Fsn) (reason : BitVec 16) : Prog :=
  .block [.act (.cmt (fun c => { c with causes := c.causes ++ [(n, reason)] })), tryVote]

/-- The reason of a scene error (R408). -/
def sceneReason (code : Nat) : BitVec 16 := BitVec.ofNat 16 (0x0100 + code)

/-- A REOPEN clears the scene causes of its frame but for those of errors recorded after it (R63, R92). -/
def clearScene (n : Fsn) (after : List (Nat × Word)) : Prog :=
  .act (.cmt (fun c =>
    let left := c.causes.filter (fun x => !(x.1 == n && bitsOf x.2.toNat 15 8 == 1))
    { c with causes := left ++ after.map (fun x => (n, sceneReason x.1)) }))

end Sys2Proof.Machine
end

