-- ==== Sys2Proof/Machine/Boot.lean ====
section
/-! DEFINITION. What a reset does before software runs, and the entry into FAULT: boot-pointer records, slot choice,
measured boot, the two resets, FAULT with its notice and the fallback of a trial (R46, R486, R519 to R521, R533 to
R535, R541, R559, R560). -/

namespace Sys2Proof.Machine

/-- The signed head of the bundle in a slot (R524). -/
def Slot.head (t : Slot) : List Byte := (List.range t.headLen).map (fun i => (t.bytes.lookup i).getD 0xFF)

/-- `n` bytes of a slot from byte `a`. -/
def Slot.read (t : Slot) (a n : Nat) : List Byte := (List.range n).map (fun i => (t.bytes.lookup (a + i)).getD 0xFF)

/-- OFFSET and LENGTH of the first component of a type in a bundle head (R524). -/
def headComponent (h : List Byte) (type : Nat) : Option (Nat × Nat) :=
  ((List.range (byteAt h 5)).find? (fun i => byteAt h (64 + 80 * i) == type)).map
    (fun i => (leAt h (68 + 80 * i) 4, leAt h (72 + 80 * i) 4))

/-- SEC_VERSION of a bundle head (Table 18.6). -/
def headSecVersion (h : List Byte) : Nat := leAt h 8 4
/-- BUNDLE_ID of a bundle head. -/
def headBundleId (h : List Byte) : Nat := leAt h 12 4
/-- FABRIC_PROTO of a bundle head. -/
def headFabricProto (h : List Byte) : Nat := leAt h 6 2

/-- Slot A or B. -/
def State.slot (s : State) (i : Nat) : Slot := s.sec.slots.getD i {}

/-- The manifest entries of a head (R524). -/
def headEntries (h : List Byte) : List (List Byte) :=
  (List.range (byteAt h 5)).map (fun i => (h.drop (64 + 80 * i)).take 80)

/-- Every component's SHA3-512 equals its manifest digest (R521, R532). -/
def componentsOk (t : Slot) (h : List Byte) : Bool :=
  (headEntries h).all (fun e => digestBytes (Config.sha3 (t.read (leAt e 4 4) (leAt e 8 4))) == (e.drop 16).take 64)

/-- The manifest digest of the component of a type (R524, Table 18.7). -/
def headDigest (h : List Byte) (type : Nat) : BitVec 512 :=
  match (headEntries h).find? (fun e => byteAt e 0 == type) with
  | some e => BitVec.ofNat 512 (leNat ((e.drop 16).take 64))
  | none => 0

/-- The component types that M2 to M6 measure: BOOT/SEC; TIME, LINK and THERM; Control OS; grove microcode; fabric and
link firmware (Tables 18.4 and 18.7). -/
def measuredTypes : List Nat := [2, 3, 1, 4, 5]

/-- A slot passes R521: it is whole, the bundle signature verifies, every component has its digest, and SEC_VERSION is not
below the fused one. -/
def State.slotPasses (s : State) (i : Nat) : Bool :=
  (s.slot i).verified && Config.bundleSigOk (s.slot i).head && componentsOk (s.slot i) (s.slot i).head &&
  s.secVersion.toNat ≤ headSecVersion (s.slot i).head

/-- The bytes of a boot-pointer record before its CRC (Table 18.10). -/
def BootPtr.body (p : BootPtr) : List Byte :=
  leBytes 4 0x54504F42 ++ leBytes 4 p.seq.toNat ++ leBytes 1 p.active ++ leBytes 1 (boolNat p.trial) ++
  leBytes 1 p.attempts ++ leBytes 1 p.fallback ++ leBytes 1 p.config ++ leBytes 3 0 ++ leBytes 4 p.activeId.toNat ++
  leBytes 4 p.fallbackId.toNat ++ List.replicate 36 0

/-- A record with its CRC-32C behind it (Tables 18.10 and 19.5). -/
def withCrc (b : List Byte) : List Byte := b ++ leBytes 4 (crc32c b).toNat

/-- The bytes of a boot-pointer record (Table 18.10). -/
def BootPtr.bytes (p : BootPtr) : List Byte := withCrc p.body

/-- A copy of a 64-byte record is valid: MAGIC and CRC (R535, R557). -/
def recordValid (magic : Nat) (b : List Byte) : Bool :=
  b.length == 64 && leAt b 0 4 == magic && leAt b 60 4 == (crc32c (b.take 60)).toNat

/-- What a copy of the boot-pointer record says, where it is valid (Table 18.10, R535). -/
def readPtr (b : List Byte) : Option BootPtr :=
  if recordValid 0x54504F42 b then
    some { seq := BitVec.ofNat 32 (leAt b 4 4), active := byteAt b 8, trial := byteAt b 9 == 1, attempts := byteAt b 10
           fallback := byteAt b 11, config := byteAt b 12, activeId := BitVec.ofNat 32 (leAt b 16 4)
           fallbackId := BitVec.ofNat 32 (leAt b 20 4) }
  else none

/-- The index of the valid copy with the higher SEQ, of two copies with their SEQ where they are valid (R31, R535). -/
def laterCopy (a b : Option (BitVec 32)) : Option Nat :=
  match a, b with
  | some x, some y => some (if laterFsn y x then 1 else 0)
  | some _, none => some 0
  | none, some _ => some 1
  | none, none => none

/-- The index of the valid boot-pointer copy with the higher SEQ (R535). -/
def currentPtr (ptrs : List (List Byte)) : Option Nat :=
  laterCopy ((readPtr (ptrs.getD 0 [])).map (·.seq)) ((readPtr (ptrs.getD 1 [])).map (·.seq))

/-- The record in force, if any. -/
def State.ptr (s : State) : Option BootPtr := (currentPtr s.sec.ptrs).bind (fun i => readPtr (s.sec.ptrs.getD i []))

/-- An UPD_E_ code into SEC_UPD_STATE.ERR, with the family byte 0x09 (Table 18.15). -/
def reportUpd (code : Nat) : Prog := .setFld F.SEC_UPD_STATE_ERR (0x0900 + code)

/-- The code of SEC_UPD_STATE (Table 18.9). -/
def updCode : UpdState → Nat
  | .idle => 0
  | .downloading => 1
  | .verifying => 2
  | .staged => 3
  | .armed => 4
  | .trial => 5
  | .confirmed => 6

/-- SEC_UPD_STATE changes (Table 18.16). -/
def setUpd (u : UpdState) : Prog :=
  .dyn (fun s => if s.sec.upd = u then .nil else .seq (.act (.sec (fun x => { x with upd := u }))) (.raise 19))

/-- Load SEC_BOOT from the record in force (Table 18.15). -/
def loadSecBoot (p : BootPtr) : Prog :=
  .block [.setFld F.SEC_BOOT_ACTIVE p.active, .setFlag F.SEC_BOOT_STATE p.trial, .setFld F.SEC_BOOT_ATTEMPTS p.attempts]

/-- Write a boot-pointer record with the next SEQ into the copy that does not hold the current one; when the read-back
fails twice the current one stays and UPD_E_POINTER is reported (R534). -/
def writePtr (p : BootPtr) : Prog :=
  .dyn (fun s =>
    if s.nvm.ptrFail then reportUpd 0x0C
    else
      let cur := currentPtr s.sec.ptrs
      let seq := match s.ptr with | some q => q.seq + 1 | none => 1
      let target := match cur with | some 0 => 1 | _ => 0
      .block [.act (.sec (fun x => { x with ptrs := x.ptrs.set target ({ p with seq := seq } : BootPtr).bytes })),
        loadSecBoot p])

/-- The code of a life-cycle state (Table 18.1). -/
def lcCode : LcState → Nat
  | .raw => 0
  | .test => 1
  | .provisioned => 2
  | .field => 3
  | .returned => 4
  | .retired => 5

/-- Extend measurement register `i` by the digest of an item (R519, R520). -/
def measure (i : Nat) (item : List Byte) : Prog := .act (.extend i (Config.sha3 item))

/-- The ROM boots a slot: M2 takes the BOOT/SEC firmware (Table 18.4); a confirmed bundle repeats its fuse advance, a
trial starts its 120 s (R540, R543). -/
def bootSlot (p : BootPtr) : Prog :=
  .dyn (fun s =>
    let head := (s.slot p.active).head
    .block [
      .act (.extend 2 (headDigest head 2)),
      if p.trial then .block [.withFreeStamp (fun t => .act (.sec (fun x => { x with trialSince := t }))), setUpd .trial]
      else .act (.fuseVersion (BitVec.ofNat 32 (headSecVersion head)))])

/-- The ROM halts (R535, Table 18.1). -/
def romHalt : Prog := .setFld F.SEC_BOOT_HALT 1

/-- Boot a slot if it passes R521, else the other slot, confirmed, with UPD_E_FALLBACK, else halt (R535). -/
def bootChecked (p : BootPtr) : Prog :=
  .dyn (fun s =>
    let other := 1 - p.active
    if s.slotPasses p.active then bootSlot p
    else if s.slotPasses other then
      let q := { p with
        active := other, trial := false, attempts := 0
        activeId := BitVec.ofNat 32 (headBundleId (s.slot other).head) }
      .block [writePtr q, reportUpd 0x0D, .raise 22, bootSlot q]
    else romHalt)

/-- The ROM's work after a reset: M0, then the slot rules of R535. A RAW device runs the ROM only; RETIRED halts. -/
def romBoot : Prog :=
  .dyn (fun s => .seq
    (measure 0 (leBytes 1 (lcCode s.lc) ++ leBytes 4 s.secVersion.toNat ++ (s.sec.fuses.ownerDigest.getD [])))
    (match s.lc with
     | .raw => .nil
     | .retired => romHalt
     | _ => match s.ptr with
       | none => romHalt
       | some p => .seq (measure 1 p.bytes)
         (if p.trial && p.attempts == 0 then
            let q := { p with active := p.fallback, activeId := p.fallbackId, trial := false }
            .block [writePtr q, .raise 22, bootChecked q]
          else if p.trial then
            let q := { p with attempts := p.attempts - 1 }
            .block [writePtr q, bootChecked q]
          else .block [loadSecBoot p, bootChecked p])))

/-- A cold reset (R16, Table 17.2). -/
def coldResetProg (cause : Nat) : Prog :=
  .block [.act (.reset false), .setFld F.CPX_RESET_CAUSE_CAUSE cause, romBoot]

/-- A warm reset at an instant, which R488 counts (R16, Table 17.2). -/
def warmResetAt (cause : Nat) (t : Time) : Prog :=
  .block [.act (.reset true), .act (.ctl (fun c => { c with warmResets := c.warmResets ++ [t] })),
    .setFld F.CPX_RESET_CAUSE_CAUSE cause, romBoot]

/-- A warm reset at an instant that the command does not give (log entry 6). -/
def warmResetProg (cause : Nat) : Prog := .withFreeStamp (warmResetAt cause)

/-- A warm reset whose CPX_RESET_CAUSE code no rule gives: a free value (log entry 14). -/
def warmResetOpen : Prog := .withFree (fun w => warmResetProg (w.toNat % 256))

/-- PWR_OFF_ACK rises and every island but AON is held in reset (R554, R558). -/
def powerOffAck : Prog :=
  .seq (.act (.pins (fun p => { p with pwrOffAck := true }))) (.act (.ctl (fun c => { c with inReset := true })))

/-- The shutdown BIST stops and writes no record (R558): a power-off request is acknowledged at once; a warm reset that
was requested follows where `warm` allows it (log entry 24). -/
def bistStop (warm : Bool) : Prog :=
  .dyn (fun s => .when s.hkp.bist.isSome (.seq
    (.act (.hkp (fun h => { h with bist := none, bistWarm := none })))
    (if s.hkp.pwrOff then powerOffAck
     else match s.hkp.bistWarm with
      | some c => .when warm (warmResetProg c.toNat)
      | none => .nil)))

/-- The node state changes (R46, Table 14.9). -/
def moveNode (n : NodeState) : Prog :=
  .dyn (fun s => if nodeMove s.node n then .seq (.act (.node n)) (.raise 134) else .nil)

/-- A trial falls back: the record names FALLBACK confirmed, a warm reset follows, EV_SEC_UPD_FALLBACK (R541). -/
def fallBack : Prog :=
  .dyn (fun s => match s.ptr with
    | none => .nil
    | some p => .block [
        writePtr { p with active := p.fallback, activeId := p.fallbackId, trial := false }, warmResetOpen, .raise 22])

/-- FAULT_NOTICE to the deciding node (R415, Table 14.6). -/
def faultNotice (fsn : Fsn) (reason : Nat) : Prog :=
  .dyn (fun s => sendUnicast 1 3 s.rootA
    (leBytes 4 9 ++ leBytes 4 fsn.toNat ++ leBytes 2 reason ++ leBytes 2 0))

/-- INFLIGHT, QUEUED and JOURNAL_BUSY follow the requests (Table 11.9). -/
def aplCounts : Prog :=
  .dyn (fun s => .block [
    .setFld F.APL_STATUS_INFLIGHT s.apl.flight.length, .setFld F.APL_STATUS_QUEUED s.apl.queue.length,
    .setFlag F.APL_STATUS_JOURNAL_BUSY s.apl.writing.isSome])

/-- The aperture when the node enters FAULT (R341): no further line until the next restore, and every queued request is
lost but the one whose journal record is being written. -/
def aplHalt : Prog :=
  .seq (.act (.apl (fun a => { a with
      stopped := true, queue := a.queue.filter (fun r => a.writing.any (fun w => w.seq == r.seq)) }))) aplCounts

/-- An unrecoverable condition of a subsystem (R46, R559, R560): the node enters FAULT from SAPLING or MEMBER, the
first cause is kept and later ones are counted; it no longer adds a vote of its own (R409); a trial falls back (R541).
Nothing in EXCLUDED (Table 1.10). -/
def enterFault (block family code detail : Nat) : Prog :=
  .dyn (fun s =>
    let entering := nodeMove s.node .fault
    .block [
      .when (entering || s.node == .fault) (
        if s.flag F.HKP_FAULT_VALID then .count F.HKP_FAULT_LATER 1
        else .block [.setFld F.HKP_FAULT_CODE code, .setFld F.HKP_FAULT_BLOCK block, .setFld F.HKP_FAULT_FAMILY family,
          .setFld F.HKP_FAULT_VALID 1, .setReg R.HKP_FAULT_DETAIL (BitVec.ofNat 32 detail),
          .setReg R.HKP_FAULT_FSN s.S]),
      .when entering (.block [
        moveNode .fault, aplHalt,
        .act (.extend 14 (Config.codeDigest (family * 256 + code))),
        .raise 36,
        faultNotice s.S (family * 256 + code),
        trySendVote false, trySendVote true,
        .when (s.sec.upd == .trial || s.sec.trialFrom.isSome) fallBack])])

/-- FAULT from the fabric (Table 12.9, Table 12.14). -/
def fabFault (code detail : Nat) : Prog :=
  .dyn (fun s => .block [.when (nodeMove s.node .fault) (.block [.setFld F.FAB_FAULT_CODE code, .raise 72]),
    enterFault 0x05 0x06 code detail])

/-- FAULT from the commit unit (Table 14.5, Table 14.9). -/
def cmtFault (code : Nat) : Prog :=
  .dyn (fun s => .block [.when (nodeMove s.node .fault) (.block [.setFld F.CMT_FAULT_CODE code, .raise 137]),
    enterFault 0x07 0x02 code 0])

end Sys2Proof.Machine
end

