-- ==== Sys2Proof/Machine/MemOps.lean ====
section
/-! DEFINITION. DRAM as every block reaches it: the line code, poison, pins, writes that the DMC stores or discards,
and the migration of a rank position (R236, R248, R250, R252, R459 to R463, R474 to R476). -/

namespace Sys2Proof.Machine

/-! ### Layer descriptors and pins -/

/-- Word k of a descriptor (Table 8.1). -/
def dword (d : List Word) (k : Nat) : Nat := (d.getD k 0).toNat

def descOn (d : List Word) : Bool := bitOf (dword d 0) 0
def descStatic (d : List Word) : Bool := bitOf (dword d 0) 1
def descFull (d : List Word) : Bool := bitOf (dword d 0) 2
def descFormat (d : List Word) : Nat := bitsOf (dword d 0) 11 8
def descGalpha (d : List Word) : Nat := bitsOf (dword d 0) 23 16
def descWidth (d : List Word) : Nat := bitsOf (dword d 1) 15 0
def descHeight (d : List Word) : Nat := bitsOf (dword d 1) 31 16

/-- The plane address in words k and k + 1. -/
def descAddr (d : List Word) (p : Nat) : Nat :=
  bitsOf (dword d (3 + 2 * p)) 31 8 * 256 + bitsOf (dword d (4 + 2 * p)) 5 0 * 2 ^ 32

/-- Pitch of plane p (Table 8.1). -/
def descPitch (d : List Word) (p : Nat) : Nat := if p = 0 then bitsOf (dword d 2) 15 0 else bitsOf (dword d 2) 31 16

/-- An ARGB format (Table 8.2). -/
def descArgb (d : List Word) : Bool := descFormat d ≤ 1
/-- Planes of the format (Table 8.2). -/
def descPlanes (d : List Word) : Nat := if descArgb d then 1 else 3
/-- Bytes per sample (Table 8.2). -/
def descBps (d : List Word) : Nat := if descArgb d then 4 else if descFormat d ≤ 4 then 1 else 2
/-- Halving of chroma across and down (Table 8.2). -/
def descChroma (d : List Word) : Nat × Nat :=
  match descFormat d with
  | 2 => (2, 2)
  | 5 => (2, 2)
  | 3 => (2, 1)
  | 6 => (2, 1)
  | _ => (1, 1)

/-- Width and height of plane p in samples. -/
def planeSize (d : List Word) (p : Nat) : Nat × Nat :=
  if p = 0 then (descWidth d, descHeight d) else (descWidth d / (descChroma d).1, descHeight d / (descChroma d).2)

/-- Bytes that the planes of a layer occupy (Table 8.2): (address, length). -/
def planeRanges (d : List Word) : List (Nat × Nat) :=
  (List.range (descPlanes d)).map (fun p => (descAddr d p, descPitch d p * (planeSize d p).2))

/-- Plane ranges of the enabled layers of a set. -/
def setRanges (ds : List (List Word)) : List (Nat × Nat) := (ds.filter descOn).flatMap planeRanges

/-- LYR_SLATE. -/
def State.slateAddr (s : State) : Nat := s.addr F.LYR_SLATE_LO_ADDR_LO F.LYR_SLATE_HI_ADDR_HI
/-- LYR_CACHE. -/
def State.cacheAddr (s : State) : Nat := s.addr F.LYR_CACHE_LO_ADDR_LO F.LYR_CACHE_HI_ADDR_HI

/-- Slate descriptors with LAYER_MASK in place of their ENABLE bits (R252). -/
def State.slateDescs (s : State) : List (List Word) :=
  let a := s.slateAddr
  let mask := byteAt (s.bytes a 1) 0
  (List.range 8).map (fun k =>
    let w := wordsOf (s.bytes (a + 64 + 64 * k) 64)
    w.set 0 (putBits (w.getD 0 0) 0 0 (bitsOf mask k k)))

/-- Pinned ranges (R248): the held commit, the sets of frames not retired; the slate table, its planes and the cache
region once LYR_CTRL.LOCK is set. -/
def State.pins' (s : State) : List (Nat × Nat) :=
  (match s.lyr.held with | some h => setRanges h.descs | none => []) ++
  (s.pdl.frames.filter (fun l => !l.retired)).flatMap (fun l => setRanges l.layers) ++
  (if s.flag F.LYR_CTRL_LOCK then
    [(s.slateAddr, 576), (s.cacheAddr, 0x20000000)] ++ setRanges s.slateDescs else [])

/-- A byte of a range is pinned (R250). -/
def State.pinned (s : State) (a n : Nat) : Bool := s.pins'.any (fun r => r.1 < a + n && a < r.1 + r.2)

/-! ### The line code (R460, R461) -/

/-- Multiply by alpha in GF(2^8), polynomial 0x11D. -/
def gfTimes2 (a : Nat) : Nat := if a < 128 then 2 * a else (2 * a) ^^^ 0x11D

/-- alpha to a power times a symbol. -/
def gfShift : Nat → Nat → Nat
  | 0, a => a
  | n + 1, a => gfShift n (gfTimes2 a)

/-- Product in GF(2^8), by the bits of the second factor. -/
def gfMul (a b : Nat) : Nat :=
  (List.range 8).foldl (fun s k => if bitOf b k then s ^^^ gfShift k a else s) 0

/-- A polynomial, highest coefficient first, times (x + a). -/
def polyTimes (p : List Nat) (a : Nat) : List Nat :=
  (p ++ [0]).zipWith (· ^^^ ·) (0 :: p.map (gfMul a))

/-- g(x) = (x + 1)(x + alpha)(x + alpha^2)(x + alpha^3), highest coefficient first (R460). -/
def rsGenerator : List Nat := (List.range 4).foldl (fun p k => polyTimes p (gfShift k 1)) [1]

/-- One step of the division of d(x) * x^4 by g(x). -/
def rsStep (r : List Nat) (d : Nat) : List Nat :=
  let f := d ^^^ r.getD 0 0
  (r.drop 1 ++ [0]).zipWith (· ^^^ ·) ((rsGenerator.drop 1).map (gfMul f))

/-- Check symbols c3 to c0 of sixteen data bytes (R460). -/
def checkSymbols (d : List Nat) : List Nat := d.foldl rsStep [0, 0, 0, 0]

/-- The code word of sixteen data bytes: symbol p is the coefficient of x^(19 - p) (R460). -/
def codeWord (d : List Nat) : List Nat := d ++ checkSymbols d

/-- Syndrome k of a word as read. -/
def syndrome (k : Nat) (w : List Nat) : Nat := w.foldl (fun s x => gfShift k s ^^^ x) 0

/-- What the decoder makes of one code word. -/
inductive Decoded
  | clean
  | corrected (pos err : Nat)
  | bad
  deriving DecidableEq, Repr

/-- Decode a word as read: no syndrome, one symbol that explains every syndrome, else uncorrectable (R461). -/
def decodeWord (w : List Nat) : Decoded :=
  let s := (List.range 4).map (fun k => syndrome k w)
  let s0 := s.getD 0 0
  if s.all (· == 0) then .clean
  else match (List.range 20).find? (fun p => s0 != 0 && (List.range 4).all (fun k =>
      gfShift (k * (19 - p)) s0 == s.getD k 0)) with
    | some p => .corrected p s0
    | none => .bad

/-- A list with the element at a place changed by exclusive or. -/
def xorAt (l : List Nat) (i e : Nat) : List Nat := l.set i (l.getD i 0 ^^^ e)

/-- Channel (0 even, 1 odd of the pair) and device of a symbol (R460). -/
def symbolDevice (pos : Nat) : Nat × Nat :=
  if pos < 16 then (pos / 8, pos % 8) else if pos < 18 then (0, pos - 8) else (1, pos - 10)

/-- Where an address lies in the memory (Table 16.2). -/
structure DramPlace where
  byte : Nat
  pair : Nat
  group : Nat
  burst : Nat
  bank : Nat
  rank : Nat
  row : Nat
  deriving DecidableEq, Repr

/-- The fixed mapping of Table 16.2 (R459). -/
def dramPlace (a : Nat) : DramPlace :=
  { byte := bitsOf a 6 0, pair := bitsOf a 7 7, group := bitsOf a 9 8
    burst := bitsOf a 13 10 + 16 * bitsOf a 18 16, bank := bitsOf a 15 14, rank := bitsOf a 19 19, row := bitsOf a 35 20 }

/-- Pair of a line's address (Table 16.2). -/
def pairOf (a : Nat) : Nat := (dramPlace a).pair
/-- Logical rank of a line's address (Table 16.2). -/
def rankOf (a : Nat) : Nat := (dramPlace a).rank

/-- Rank position that holds logical rank r on channel c. -/
def State.rankPos (s : State) (c r : Nat) : Nat :=
  if r = 0 then s.fld (F.DMC_RANKMAP_LR0_POS c) else s.fld (F.DMC_RANKMAP_LR1_POS c)

/-- A line is stored poisoned (R463). -/
def State.lineBad (s : State) (line : Nat) : Bool := s.dmc.poison.contains line

/-- Code word j of a line as it is stored: a poisoned line has c3 and c0 inverted (R460, R463). -/
def State.lineWord (s : State) (line j : Nat) : List Nat :=
  let w := codeWord ((s.bytes (line * 128 + 16 * j) 16).map (·.toNat))
  if s.lineBad line then xorAt (xorAt w 16 0xFF) 19 0xFF else w

/-- Code word j of a line as a read gets it, with the symbols that its devices return wrong. -/
def State.wordRead (s : State) (line : Nat) (errs : List SymbolError) (j : Nat) : List Nat :=
  (errs.filter (fun e => e.codeword == j && e.pos < 20)).foldl (fun w e => xorAt w e.pos e.err.toNat) (s.lineWord line j)

/-- The decoder's answers for the eight code words of a line (R461). -/
def State.decodeLine (s : State) (line : Nat) (errs : List SymbolError) : List Decoded :=
  (List.range 8).map (fun j => decodeWord (s.wordRead line errs j))

/-! ### FAULT and migration -/

/-- FAULT from the DMC (Table 16.6, Table 16.10). -/
def dmcFault (code : Nat) : Prog :=
  .dyn (fun s => .block [.when (nodeMove s.node .fault) (.block [.setFld F.DMC_FAULT_CODE code, .raise 453]),
    enterFault 0x1B 0x07 code 0])

/-- FAULT from the SRAM (Table 16.6): code and word address. -/
def memFault (code : Nat) (addr : Word) : Prog :=
  .dyn (fun s => .block [
    .when (nodeMove s.node .fault) (.block [.setFld F.MEM_FAULT_CODE code, .setReg R.MEM_FAULT_ADDR addr, .raise 453]),
    enterFault 0x1C 0x07 code addr.toNat])

/-- Start migrating a position of a channel, or FAULT without a spare (R474, R475). -/
def startMigration (c pos : Nat) (t : Option Time) : Prog :=
  .dyn (fun s =>
    if (s.dmc.mig.getD c none).isSome || s.fld (F.DMC_RANKMAP_SPARE_POS c) == 3 then dmcFault 0x03
    else .block [
      .act (.dmc (fun d => { d with mig := d.mig.set c (some { fromPos := pos }) })),
      .setFld (F.DMC_MIG_LINES c) 0, .setFld (F.DMC_MIG_FROM c) pos, .setFld (F.DMC_MIG_ACTIVE c) 1,
      .setFld F.DMC_STATUS_MIG (s.fld F.DMC_STATUS_MIG ||| 2 ^ c), raiseIn 450 t])

/-- Load the uncorrectable-error registers and count (R462, R463). -/
def reportUe (line src code words : Nat) (t : Option Time) : Prog :=
  .dyn (fun s => .block [
    .when (s.fld F.DMC_UE_COUNT_COUNT == 0) (.block [
      .setReg R.DMC_UE_ADDR_LO (BitVec.ofNat 32 (line * 128)), .setFld F.DMC_UE_ADDR_HI_ADDR_HI (line * 128 / 2 ^ 32),
      .setFld F.DMC_UE_INFO_SRC src, .setFld F.DMC_UE_INFO_CODE code, .setFld F.DMC_UE_INFO_CW words]),
    .count F.DMC_UE_COUNT_COUNT 1, raiseIn 449 t])

/-- An uncorrectable read of a line: report, then migrate the logical rank on both channels of its pair (R462, R474).
Where a channel already migrates that rank, a line that was copied is the spare's (R476); how far the copy has come is
open, so which FAULT it is depends on a free value. -/
def uncorrectable (line src words : Nat) (t : Option Time) : Prog :=
  .dyn (fun s =>
    let c := 2 * pairOf (line * 128)
    let r := rankOf (line * 128)
    let busy (k : Nat) : Bool := match s.dmc.mig.getD k none with
      | some m => m.fromPos == s.rankPos k r
      | none => false
    .block [
      reportUe line src 0x05 words t,
      if busy c || busy (c + 1) then .withFree (fun w => dmcFault (if w.getLsbD 0 then 0x03 else 0x04))
      else .block [startMigration c (s.rankPos c r) t, startMigration (c + 1) (s.rankPos (c + 1) r) t]])

/-! ### Writes -/

/-- Some byte of a range lies in a poisoned line. -/
def State.badRange (s : State) (a n : Nat) : Bool := s.dmc.poison.any (fun l => l * 128 < a + n && a < l * 128 + 128)

/-- Bytes of a range before its first poisoned line. -/
def State.cleanPrefix (s : State) (a n : Nat) : Nat :=
  s.dmc.poison.foldl (fun k l => if l * 128 < a + n && a < l * 128 + 128 then min k (l * 128 - a) else k) n

/-- Lines that a range touches. -/
def linesOf (a n : Nat) : List Nat := if n = 0 then [] else (List.range ((a + n - 1) / 128 - a / 128 + 1)).map (· + a / 128)

/-- Store bytes: a whole line replaces poison, a part of one leaves it (R463). -/
def storeBytes (src a : Nat) (data : List Byte) : Prog :=
  .dyn (fun s =>
    let n := data.length
    let whole (l : Nat) : Bool := a ≤ l * 128 && l * 128 + 128 ≤ a + n
    .block [
      .act (.mem a data),
      .each ((linesOf a n).filter (fun l => s.lineBad l && !whole l)) (fun l => reportUe l src 0x06 0xFF none),
      .act (.dmc (fun d => { d with poison := d.poison.filter (fun l => !whole l) }))])

/-- A write discarded for a pin (R250, Table 8.10). -/
def pinFault (src a : Nat) : Prog :=
  .dyn (fun s => .block [
    .when (s.fld F.LYR_PIN_FAULT_COUNT_COUNT == 0) (.block [
      .setReg R.LYR_PIN_FAULT_LO (BitVec.ofNat 32 a), .setFld F.LYR_PIN_FAULT_HI_ADDR_HI (a / 2 ^ 32),
      .setFld F.LYR_PIN_FAULT_HI_SRC src]),
    .count F.LYR_PIN_FAULT_COUNT_COUNT 1, .raise 276])

/-- One write that reaches the DMC, or an SRAM region (R250, R462, R477): stored, or discarded whole when it touches a
pinned range; a write to an address without memory changes nothing. -/
def memWrite (src a : Nat) (data : List Byte) : Prog :=
  .dyn (fun s =>
    let n := data.length
    if n = 0 then .nil
    else if inDram a && inDram (a + n - 1) then (if s.pinned a n then pinFault src a else storeBytes src a data)
    else if inMemory a && inMemory (a + n - 1) then .act (.mem a data)
    else .nil)

/-- Write a long run line by line: each line is one write of its own. -/
def memWriteLines (src : Nat) : Nat → Nat → List Byte → Prog
  | 0, _, _ => .nil
  | k + 1, a, data =>
    if data.isEmpty then .nil
    else
      let n := 128 - a % 128
      .seq (memWrite src a (data.take n)) (memWriteLines src k (a + n) (data.drop n))

/-- A run written line by line. -/
def memStream (src a : Nat) (data : List Byte) : Prog := memWriteLines src (data.length / 128 + 2) a data

/-- A range lies wholly within DRAM. -/
def rangeInDram (a n : Nat) : Bool := n == 0 || (inDram a && inDram (a + n - 1))
/-- A range lies wholly within one on-chip SRAM region (Table 16.5). -/
def rangeInSram (a n : Nat) : Bool :=
  n == 0 || (inStagingSram a && inStagingSram (a + n - 1)) ||
  (inGroveSram a && inGroveSram (a + n - 1) && a / 0x1000000 == (a + n - 1) / 0x1000000)

end Sys2Proof.Machine
end

