-- ==== Sys2Proof/Machine/Aperture.lean ====
section
/-! DEFINITION. Aperture layer drive (chapter 11): the line waveform, bands, requests, the journal and restore. -/

namespace Sys2Proof.Machine

/-! ### Rectangles and the mask image (R326, R336) -/

def rectK0 (r : Word) : Nat := getBits r 6 0
def rectKH (r : Word) : Nat := getBits r 13 7
def rectM0 (r : Word) : Nat := getBits r 21 14
def rectMW (r : Word) : Nat := getBits r 29 22

/-- The rectangle check of Table 11.4. -/
def rectValid (r : Word) : Bool := rectK0 r + rectKH r ≤ 127 && rectM0 r + rectMW r ≤ 255 && getBits r 31 30 == 0

/-- Bytes of one row of contents. -/
def rowSize (r : Word) : Nat := (rectMW r + 8) / 8

/-- The cells of row i of contents as a number, bit m for segment M0 + m. -/
def rowCells (r : Word) (bits : List Byte) (i : Nat) : Nat :=
  leNat ((bits.drop (i * rowSize r)).take (rowSize r)) % 2 ^ (rectMW r + 1)

/-- The mask with one row written. -/
def writeRow (r : Word) (bits : List Byte) (m : BitVec 32768) (i : Nat) : BitVec 32768 :=
  let pos := (rectK0 r + i) * 256 + rectM0 r
  (m &&& ~~~(BitVec.ofNat 32768 (2 ^ (rectMW r + 1) - 1) <<< pos)) ||| (BitVec.ofNat 32768 (rowCells r bits i) <<< pos)

/-- The mask with contents written over a rectangle. -/
def writeRect (m : BitVec 32768) (r : Word) (bits : List Byte) : BitVec 32768 :=
  (List.range (rectKH r + 1)).foldl (writeRow r bits) m

/-- Two requests share a cell (R338). -/
def rectsMeet (a b : Word) : Bool :=
  rectK0 a ≤ rectK0 b + rectKH b && rectK0 b ≤ rectK0 a + rectKH a &&
  rectM0 a ≤ rectM0 b + rectMW b && rectM0 b ≤ rectM0 a + rectMW a

/-! ### The waveform (R328 to R331) -/

/-- Level code of a sign: 0 V, +V or -V (R328). -/
def levelCode (x : Int) : Nat := if x = 0 then 0 else if 0 < x then 1 else 2

/-- The 384 levels of one phase (Table 11.2): common k, polarity p, segments m0 to m0 + n - 1 with their target cells. -/
def phaseLevels (k : Nat) (p : Int) (m0 : Nat) (cells : List Bool) (phase : Nat) : List Nat :=
  let blank : Bool := p = 1
  (List.range 128).map (fun c => if c = k then levelCode (if phase = 1 then -p else if phase = 2 then p else 0) else 0) ++
  (List.range 256).map (fun m =>
    if m0 ≤ m && m < m0 + cells.length then
      let select := cells.getD (m - m0) false != blank
      levelCode (match phase with
        | 1 => p
        | 2 => if select then -p else p
        | 3 => -p
        | _ => if select then p else -p)
    else 0)

/-- The bits shifted on the four chains for a phase: output 96j + 95 down to 96j, bit 1 then bit 0 (R328). -/
def chainBits (levels : List Nat) : List (List Bool) :=
  (List.range 4).map (fun j => (List.range 96).reverse.flatMap (fun i =>
    let l := levels.getD (96 * j + i) 0
    [bitOf l 1, bitOf l 0]))

/-- Levels are shifted out and APL_LAT raised: the outputs take them (R328). -/
def latchLevels (levels : List Nat) : Prog :=
  .seq (.send (.aplPhase (chainBits levels))) (.act (.pins (fun p => { p with aplOut := levels })))

/-- The levels of a running line in a phase (Table 11.2). -/
def AplWave.levels (w : AplWave) (phase : Nat) : List Nat := phaseLevels w.common w.pol w.seg w.cells phase

/-- A line starts with its first phase (R330). -/
def startWave (w : AplWave) : Prog :=
  .seq (.act (.apl (fun a => { a with wave := some w }))) (latchLevels (w.levels 1))

/-- The rest of a line: its later phase boundaries and its end, at which every output goes to 0 V (R328, R330, R339).
The commands name the end only, so it brings them all (log entry 71). -/
def endWave : Prog :=
  .dyn (fun s => .block [
    (match s.apl.wave with | some w => .each [2, 3, 4] (fun ph => latchLevels (w.levels ph)) | none => .nil),
    .act (.apl (fun a => { a with wave := none })),
    .send (.aplPhase (chainBits [])), .act (.pins (fun p => { p with aplOut := [] }))])

/-- The 16 bits of a reference word, most significant first (R329). -/
def refBits (vc : Nat) : List Bool := (List.range 16).reverse.map (bitOf (vc % 2 ^ 12))

/-! ### Temperature (R333 to R335) -/

/-- A lane's aperture temperature counts at an instant: received less than 100 ms before (R37, R333). -/
def State.aplReading (s : State) (lane : Nat) (t : Time) : Option (BitVec 16) :=
  match (s.drive lane).aplTemp with
  | some r => if t < r.1 + 100000000 * 256 && r.1 ≤ t then some r.2 else none
  | none => none

/-- The aperture temperature with its source: 0 for DL001, 1 for DL097 (R333, Table 11.9). -/
def State.aplTemp (s : State) (t : Time) : Option (BitVec 16 × Nat) :=
  match s.aplReading 1 t, s.aplReading 97 t with
  | some a, some b => if b.toInt < a.toInt then some (b, 1) else some (a, 0)
  | some a, none => some (a, 0)
  | none, some b => some (b, 1)
  | none, none => none

/-- TEMP_VALID and APL_TEMP as they stand at an instant (R333, Table 11.9); APL_TEMP keeps the last one that counted. -/
def aplTempProg (t : Time) : Prog :=
  .dyn (fun s => match s.aplTemp t with
    | none => .setFld F.APL_STATUS_TEMP_VALID 0
    | some r => .block [
        .setFld F.APL_STATUS_TEMP_VALID 1, .setFld F.APL_TEMP_T r.1.toNat, .setFld F.APL_TEMP_SRC r.2])

/-- The band with its hysteresis of 1 degree (Table 11.3), thresholds in 1/16 degree. -/
def aplBand (cur : Nat) (t : Int) : Nat :=
  let th : List Int := [-320, -80, 160, 400, 640, 880, 1120]
  let up := (th.filter (fun x => x ≤ t)).length
  let keep := (th.filter (fun x => x - 16 ≤ t)).length
  if cur < up then up else min cur keep

/-! ### Faults and counts -/

/-- FAULT from the aperture (R345, Table 11.7): the code of each condition is loaded; the detail is an open value. -/
def aplFault (code : Nat) : Prog :=
  .seq (.setFld F.APL_STATUS_FAULT_CODE code) (.withFree (fun w => enterFault 0x19 0x0B (0x10 + code) w.toNat))

/-! ### Lines (R334, R339) -/

/-- The request that follows the one that had the previous line (R339). -/
def Apl.nextReq (a : Apl) : Option AplReq :=
  match a.flight.findIdx? (fun r => some r.seq == a.lastSeq) with
  | some i => match a.flight[i + 1]? with
    | some r => some r
    | none => a.flight.head?
  | none => a.flight.head?

/-- Lines may run: enabled, tile power good, not in FAULT (R341, R343, Table 11.8). -/
def State.linesOpen (s : State) : Bool := s.flag F.APL_CTRL_ENABLE && !s.apl.stopped && s.node != .fault

/-- The cells of a row as levels' targets. -/
def cellList (n v : Nat) : List Bool := (List.range n).map (bitOf v)

/-- The line that is due runs in the band decided (R330, R339, R344 step 5). -/
def runLine : Prog :=
  .dyn (fun s => match s.apl.restore with
    | some n =>
      let k := n % 128
      .block [
        .act (.apl (fun a => { a with lineIdle := false, line := none })),
        .setFld F.APL_STATUS_BAND s.apl.band,
        startWave { common := k, pol := if n < 128 then 1 else -1, seg := 0
                    cells := cellList 256 (s.apl.mask.toNat / 2 ^ (256 * k) % 2 ^ 256) }]
    | none => match s.apl.nextReq with
      | none => .nil
      | some r =>
        let k := rectK0 r.rect + r.next
        .block [
          .act (.apl (fun a => { a with lineIdle := false, line := some r.seq, lastSeq := some r.seq })),
          .setFld F.APL_STATUS_BAND s.apl.band,
          startWave { common := k, pol := if s.apl.pol.getLsbD k then -1 else 1, seg := rectM0 r.rect
                      cells := cellList (rectMW r.rect + 1) (rowCells r.rect r.bits r.next) }])

/-- At a line boundary: the temperature, the band, its reference word, the next line (R333 to R335). -/
def lineBoundary (t : Time) : Prog :=
  .dyn (fun s =>
    if !s.apl.lineIdle || s.apl.settling || !s.linesOpen || (s.apl.restore.isNone && s.apl.flight.isEmpty) then .nil
    else match s.aplTemp t with
      | none => .when (!s.apl.staleTold)
          (.block [.setFld F.APL_STATUS_TEMP_VALID 0, .act (.apl (fun a => { a with staleTold := true })), .raiseAt 411 t])
      | some (temp, _) =>
        let band := aplBand s.apl.band temp.toInt
        .block [
          aplTempProg t,
          .act (.apl (fun a => { a with band := band, staleTold := false })),
          if s.apl.bandSent == some band then runLine
          else .block [
            .act (.apl (fun a => { a with bandSent := some band, settling := true })),
            .send (.aplRef (refBits (getBits (s.reg (R.APL_BAND0 + 4 * band)) 27 16))), .raiseAt 412 t]])

/-- APL_REF_SETTLED (R329, R334). -/
def execAplRefSettled (stamp : Time) (s : State) : Host.Outcome State Fault Refusal :=
  .next ((Prog.guard (fun s => s.apl.settling) (.seq (.act (.apl (fun a => { a with settling := false })))
    (.dyn (fun s => if s.apl.restore.isNone && s.apl.flight.isEmpty then .nil
      else if s.linesOpen then runLine else lineBoundary stamp)))).run s)

/-- A restore has written its last line (R344 step 6). -/
def restoreDone (t : Time) : Prog :=
  .dyn (fun s => .block [
    .act (.apl (fun a => { a with restore := none, pol := 0 })),
    .setReg R.APL_RESTORE_SEQ s.apl.restoreSeq, .setReg R.APL_RESTORE_INFO s.apl.restoreInfo,
    .setFld F.APL_STATUS_RESTORED 1, .raiseAt 409 t])

/-- The line of a request has ended (R331, R339, R340). -/
def requestLineDone (seq : Word) (t : Time) : Prog :=
  .dyn (fun s => match s.apl.flight.find? (fun r => r.seq == seq) with
    | none => .nil
    | some r =>
      let k := rectK0 r.rect + r.next
      let before := (s.apl.flight.takeWhile (fun x => x.seq != seq)).getLast?
      .seq (.act (.apl (fun a => { a with pol := a.pol ^^^ (1#128 <<< k) })))
        (if r.next < rectKH r.rect then
          .act (.apl (fun a => { a with flight := a.flight.map (fun x => if x.seq == seq then { x with next := x.next + 1 } else x) }))
         else .block [
          .act (.apl (fun a => { a with
            flight := a.flight.filter (fun x => x.seq != seq), lastSeq := before.map (·.seq) })),
          .setReg R.APL_DONE_SEQ seq, aplCounts, .raiseAt 408 t]))

/-- APL_LINE_END (R339, R340, R344). -/
def execAplLineEnd (stamp : Time) (s : State) : Host.Outcome State Fault Refusal :=
  .next ((Prog.guard (fun s => !s.apl.lineIdle) (.dyn (fun s => .block [
    .act (.apl (fun a => { a with lineIdle := true, line := none })),
    endWave,
    (match s.apl.line with
     | some seq => requestLineDone seq stamp
     | none => match s.apl.restore with
       | some n => if n + 1 < 256 then .act (.apl (fun a => { a with restore := some (n + 1) })) else restoreDone stamp
       | none => .nil),
    lineBoundary stamp]))).run s)

/-! ### Requests (R336 to R338) -/

/-- Take a request for judgement, or discard it while one is pending (R336). -/
def submitRequest (rect : Word) (fsn : Fsn) (immediate : Bool) (buf : Nat) : Prog :=
  .dyn (fun s =>
    if s.apl.pendingReq.isSome then .seq (.setFld F.APL_REQ_RESULT_OVERRUN 1) (.raise 410)
    else .seq (.act (.apl (fun a => { a with
        pendingReq := some { seq := 0, rect := rect, fsn := fsn, immediate := immediate, buf := buf } })))
      (.setFld F.APL_REQ_RESULT_PENDING 1))

def execAplRequestGo (immediate : Bool) (s : State) : Host.Outcome State Fault Refusal :=
  .next ((Prog.dyn (fun s => submitRequest (s.reg R.APL_REQ_RECT) (s.reg R.APL_REQ_FSN) immediate
    (s.addr F.APL_REQ_BUF_LO_ADDR_LO F.APL_REQ_BUF_HI_ADDR_HI))).run s)

/-- The rows of Table 11.4 that do not read the buffer, 0 where none applies; `buffer` says whether it can be read. -/
def State.judge (s : State) (r : Word) (buffer : Bool) : Nat :=
  if !s.flag F.APL_CTRL_ENABLE || !s.flag F.APL_STATUS_RESTORED || s.node == .fault then 0x01
  else if !rectValid r then 0x02
  else if !buffer then 0x03
  else if 8 ≤ s.apl.queue.length then 0x04
  else 0x00

/-- Queue an accepted request under the next SEQ (R337). -/
def acceptRequest (r : AplReq) (bits : List Byte) : Prog :=
  .dyn (fun s => .block [
    .act (.apl (fun a => { a with
      queue := a.queue ++ [{ r with seq := a.nextSeq, bits := bits }], nextSeq := a.nextSeq + 1 })),
    .setReg R.APL_REQ_SEQ s.apl.nextSeq, aplCounts])

/-- APL_REQUEST_JUDGED (R336, R337): an uncorrectable buffer line is reported as any read of the aperture drive. -/
def execAplRequestJudged (s : State) : Host.Outcome State Fault Refusal :=
  .next ((Prog.dyn (fun s => match s.apl.pendingReq with
    | none => .nil
    | some r =>
      let n := (rectKH r.rect + 1) * rowSize r.rect
      let inside := rangeInDram r.buf n
      let code := s.judge r.rect (inside && !s.badRange r.buf n)
      .block [
        .act (.apl (fun a => { a with pendingReq := none })),
        .setFld F.APL_REQ_RESULT_PENDING 0, .setFld F.APL_REQ_RESULT_STATUS code,
        if code = 0 then acceptRequest r (s.bytes r.buf n)
        else .seq (.raise 410) (.when (code == 3 && inside)
          (match (linesOf r.buf n).find? s.lineBad with
           | some line => uncorrectable line 0x15 0xFF none
           | none => .nil))])).run s)

/-- A request may start now (R338). -/
def State.canStart (s : State) (r : AplReq) : Bool :=
  (r.immediate || !laterFsn r.fsn s.S) && s.apl.flight.length < 4 &&
  !(s.apl.queue ++ s.apl.flight).any (fun x => laterFsn r.seq x.seq && rectsMeet x.rect r.rect)

/-! ### The journal (R342, R344) -/

/-- The whole mask as a rectangle. -/
def wholeMask : Word := 0x3FC03F80

/-- The contents of the whole mask (R326). -/
def maskBytes (m : BitVec 32768) : List Byte := leBytes 4096 m.toNat

/-- Bytes of the contents of a rectangle (R336). -/
def contentSize (r : Word) : Nat := (rectKH r + 1) * rowSize r

/-- Place of a journal slot in NVM (R342, Table 17.7). -/
def journalPlace (half slot : Nat) : Nat := 0xE8100000 + 0x100000 * (half + 1) + 0x2000 * slot

/-- A journal record: the header of Table 11.5 with its CRC, then the contents. -/
def journalBytes (kind : Nat) (seq rect jgen : Word) (contents : List Byte) : List Byte :=
  let h := leBytes 4 kind ++ leBytes 4 seq.toNat ++ leBytes 4 rect.toNat ++ leBytes 4 jgen.toNat ++ leBytes 44 0
  h ++ leBytes 4 (crc32c (h ++ contents)).toNat ++ contents

/-- Byte `i` of a slot: erased where nothing was programmed. -/
def slotByte (b : List Byte) (i : Nat) : Byte := b.getD i 0xFF

/-- The record in a slot, as it is read (R342, R344, Table 11.5). -/
def readSlot (b : List Byte) : JSlot :=
  let word (o : Nat) : Word := BitVec.ofNat 32 (leNat ((List.range 4).map (fun i => slotByte b (o + i))))
  let bits := (List.range (contentSize (word 8))).map (fun i => slotByte b (64 + i))
  { kind := (slotByte b 0).toNat, seq := word 4, rect := word 8, jgen := word 12, bits := bits
    valid := (slotByte b 0 == 1 || slotByte b 0 == 2) && word 60 == crc32c ((List.range 60).map (slotByte b) ++ bits) }

/-- Slots of a journal half. -/
def Apl.slots (a : Apl) (h : Nat) : List (List Byte) := a.journal.getD h []

/-- The record in a slot of a half. -/
def Apl.slotAt (a : Apl) (h i : Nat) : JSlot := readSlot ((a.slots h).getD i [])

/-- An erased half. -/
def erasedHalf : List (List Byte) := List.replicate 128 []

/-- APL_REQUEST_START (R338, R341 to R343): one journal record is written at a time; with the current half full the other
one is erased for the checkpoint. -/
def execAplRequestStart (s : State) : Host.Outcome State Fault Refusal :=
  .next ((Prog.guard (fun s => s.linesOpen && s.apl.writing.isNone && s.apl.restore.isNone) (.dyn (fun s =>
    match s.apl.queue.find? s.canStart with
    | none => .nil
    | some r => .seq (.act (.apl (fun a => { a with
        writing := some r, writeTries := 0
        journal := if a.slot < 128 then a.journal else a.journal.set (1 - a.half) erasedHalf }))) aplCounts))).run s)

/-- The later of two sequence numbers (R31). -/
def laterSeq (a b : Word) : Word := if laterFsn b a then b else a

/-- Greatest SEQ among the records of a half that hold something. -/
def greatestSeq (slots : List JSlot) (x : Word) : Word :=
  (slots.filter (fun j => (j.kind == 1 || j.kind == 2) && j.valid)).foldl (fun m j => laterSeq m j.seq) x

/-- The record of a request is in the journal: UPDATE in the next free slot, or a checkpoint in the other half (R342). -/
def Apl.record (a : Apl) (r : AplReq) : Apl :=
  let mask := writeRect a.mask r.rect r.bits
  if a.slot < 128 then
    { a with
      mask := mask
      journal := modAt a.journal a.half (fun h => h.set a.slot (journalBytes 2 r.seq r.rect 0 r.bits))
      slot := a.slot + 1 }
  else
    let other := 1 - a.half
    let cp := journalBytes 1 (greatestSeq ((a.slots a.half).map readSlot) r.seq) wholeMask
      ((a.slotAt a.half 0).jgen + 1) (maskBytes mask)
    { a with mask := mask, journal := a.journal.set other (erasedHalf.set 0 cp), half := other, slot := 1 }

/-- JOURNAL_WRITE_DONE (R338, R339, R342, R345): the request enters flight; a record that fails its read-back is not in
the journal, and two failures in succession are a FAULT. -/
def execJournalWriteDone (readBackOk : Bool) (stamp : Time) (s : State) : Host.Outcome State Fault Refusal :=
  .next ((Prog.dyn (fun s => match s.apl.writing with
    | none => .nil
    | some r =>
      if readBackOk then .block [
        .act (.apl (fun a => { a.record r with
          writing := none, writeTries := 0, queue := a.queue.filter (fun x => x.seq != r.seq)
          flight := a.flight ++ [{ r with next := 0 }] })),
        aplCounts, lineBoundary stamp]
      else if s.apl.writeTries = 0 then .act (.apl (fun a => { a with writeTries := 1 }))
      else .block [.act (.apl (fun a => { a with writing := none })), aplCounts, aplFault 2])).run s)

/-- A valid checkpoint stands in slot 0. -/
def JSlot.isCheckpoint (j : JSlot) : Bool := j.kind == 1 && j.valid

/-- Apply the UPDATE records of a half in slot order: mask, SEQs seen, records applied (R344 step 2). -/
def applyRecordsFrom : List JSlot → BitVec 32768 → List Word → Nat → BitVec 32768 × List Word × Nat
  | [], m, seen, n => (m, seen, n)
  | j :: rest, m, seen, n =>
    if j.kind == 2 && j.valid && rectValid j.rect && !seen.contains j.seq then
      applyRecordsFrom rest (writeRect m j.rect j.bits) (j.seq :: seen) (n + 1)
    else (m, seen, n)

/-- The half that holds the valid checkpoint of the later JGEN (R344 step 1). -/
def Apl.restoreHalf (a : Apl) : Option Nat :=
  let c (h : Nat) : JSlot := a.slotAt h 0
  if (c 0).isCheckpoint && (c 1).isCheckpoint then some (if laterFsn (c 1).jgen (c 0).jgen then 1 else 0)
  else if (c 0).isCheckpoint then some 0
  else if (c 1).isCheckpoint then some 1
  else none

/-- Restore begins (R344 steps 1 to 4); without checkpoint and initial mask it is a FAULT (Table 11.7). No checkpoint is
written while journal writes are stopped (R343). -/
def restoreProg (t : Time) : Prog :=
  .dyn (fun s => match s.apl.restoreHalf with
    | some h =>
      let slots := (s.apl.slots h).map readSlot
      let cp := slots.getD 0 {}
      let r := applyRecordsFrom (slots.drop 1) (BitVec.ofNat 32768 (leNat cp.bits)) [cp.seq] 0
      .seq (.act (.apl (fun a => { a with
          mask := r.1, half := h, slot := r.2.2 + 1
          nextSeq := r.2.1.foldl laterSeq cp.seq + 1
          restore := some 0, restoreAt := t
          restoreSeq := r.2.1.headD cp.seq
          restoreInfo := BitVec.ofNat 32 (r.2.2 + h * 2 ^ 16) }))) (lineBoundary t)
    | none => match s.apl.initialMask with
      | none => aplFault 4
      | some m => .seq (.act (.apl (fun a => { a with
          mask := m
          journal := if a.stopped then a.journal
            else a.journal.set 0 (erasedHalf.set 0 (journalBytes 1 0 wholeMask 0 (maskBytes m)))
          half := 0, slot := 1, nextSeq := 1, restore := some 0, restoreAt := t, restoreSeq := 0
          restoreInfo := 0x80000000 }))) (lineBoundary t))

/-- APL_CTRL.ENABLE written (R344, Table 11.8). -/
def aplEnable (enable : Bool) (t : Time) : Prog :=
  .dyn (fun s =>
    if !enable then .setFld F.APL_CTRL_ENABLE 0
    else if s.flag F.APL_CTRL_ENABLE then .nil
    else .seq (.setFld F.APL_CTRL_ENABLE 1)
      (if s.flag F.APL_STATUS_RESTORED || s.apl.restore.isSome then lineBoundary t else restoreProg t))

def execAplEnableWrite (enable : Bool) (stamp : Time) (s : State) : Host.Outcome State Fault Refusal :=
  .next ((aplEnable enable stamp).run s)

/-- APL_DRIVER_FAULT (Table 11.7). -/
def execAplDriverFault (lowNs : Nat) (s : State) : Host.Outcome State Fault Refusal :=
  .next ((Prog.when (decide (10000 ≤ lowNs)) (aplFault 1)).run s)

/-- APL_RESTORE_TEMP_TIMEOUT (Table 11.7). -/
def execAplRestoreTempTimeout (s : State) : Host.Outcome State Fault Refusal :=
  .next ((Prog.guard (fun s => s.apl.restore == some 0 && s.apl.lineIdle && !s.apl.settling) (aplFault 3)).run s)

/-- TILE_POWER_FAIL (R343, R558, R575): a low pulse under 1 µs is ignored; a running line completes; then every output is at 0 V; a BIST stops. -/
def execTilePowerFail (widthNs : Nat) (s : State) : Host.Outcome State Fault Refusal :=
  .next ((Prog.when (decide (1000 ≤ widthNs)) (.block [
    .act (.apl (fun a => { a with stopped := true })),
    .act (.pins (fun p => { p with tilePg := false })),
    .guard (fun s => s.apl.lineIdle) (.act (.pins (fun p => { p with aplOut := [] }))),
    bistStop true])).run s)

end Sys2Proof.Machine
end

