-- ==== Sys2Proof/Machine/Serial.lean ====
section
/-! DEFINITION. Serial lanes (chapter 10): lane states, training, calibration, margins, background recalibration,
port retrains, failures and loop-backs. -/

namespace Sys2Proof.Machine

/-- Lane `i`. -/
def State.lane (s : State) (i : Nat) : Lane := s.sds.lanes.getD i {}

/-- Change lane `i`. -/
def modLane (i : Nat) (f : Lane → Lane) : Prog := .act (.sds (fun d => { d with lanes := modAt d.lanes i f }))

/-- The fabric port of a lane; none for a drive lane (Table 10.1). -/
def laneFabricPort (i : Nat) : Option Nat :=
  if i < 192 then none else if i < 208 then some ((i - 192) / 4) else if i < 216 then some 4
  else if i < 224 then some 5 else none

/-- The lanes of a fabric port (Table 10.1). -/
def portLanes (p : Nat) : List Nat :=
  if p < 4 then (List.range 4).map (fun k => 192 + 4 * p + k) else (List.range 8).map (fun k => 208 + 8 * (p - 4) + k)

/-- The place of a lane in its port. -/
def laneInPort (i : Nat) : Nat := if i < 208 then i % 4 else i % 8

/-- The PORT code that this node's lane sends (Table 10.3). -/
def lanePortCode (i : Nat) : Nat := (laneFabricPort i).getD 6

/-- The die temperature word (R547). -/
def State.dieT (s : State) : BitVec 16 := BitVec.ofNat 16 (s.fld F.HKP_TEMP_T)

/-- A quality figure meets the margin of a band (R315). -/
def State.meetsMargin (s : State) (band ew eh : Nat) : Bool :=
  let w := (s.reg (R.SDS_MARGIN0 + 4 * band)).toNat
  bitsOf w 5 0 ≤ ew && bitsOf w 23 16 ≤ eh

/-- 2 ms in 1/256 ns, the bound of a calibration run (R313). -/
def runBound : Time := 2000000 * 256

/-- A lane at the beginning of its bring-up: 3.125 Gbaud both ways, nothing received. -/
def Lane.fresh (l : Lane) : Lane :=
  { l with
    speed := 0, rxSpeed := 0, rxNext := none, runStart := none, adapted := false, tsRun := 0, farRun := none, skew := 0
    rxDone := false, partner := none, goes := false, ready := false, seen := false, loopMeasured := false
    loopOut := none, loopIn := false, loopRetry := false }

/-- A calibration run of the own receiver starts (R313). -/
def Lane.startRun (l : Lane) (t : Time) (band : Nat) (temp : BitVec 16) : Lane :=
  { l with runStart := some t, runBand := band, runTemp := temp, adapted := false, tsRun := 0, rxDone := false }

/-- A lane as it enters OFFSET_CAL: a calibration run starts (R307, R313). -/
def Lane.restart (l : Lane) (t : Time) (band : Nat) (temp : BitVec 16) : Lane :=
  { l.fresh.startRun t band temp with st := .offsetCal }

/-- Put a lane into OFFSET_CAL. -/
def restartLane (i : Nat) (t : Time) : Prog :=
  .dyn (fun s => modLane i (fun l => l.restart t s.sds.band s.dieT))

/-- Take lanes out of the recalibration queue and stop a background run on them (R316, R320). -/
def dropRecal (ls : List Nat) : Prog :=
  .act (.sds (fun d => { d with
    due := d.due.filter (fun i => !ls.contains i)
    bgRun := match d.bgRun with | some i => if ls.contains i then none else some i | none => none }))

/-- A port that carried packets goes out of ACTIVE (R354). -/
def portOut (p : Nat) (st : PortState) (t : Time) : Prog :=
  .dyn (fun s => if portCarries (s.port p) then portStop p st t
    else modPort p (fun q => if q.st == .disabled || q.st == .guestRefused then q else { q with st := st }))

/-- Lanes fail at one instant, each with its code (R321): FAILED, SDS_LFAIL, the events, the lowest of the first
failures in SDS_SUMMARY, FAULT. A lane that is OFF or FAILED does not fail again. -/
def failEach (ls : List (Nat × Nat)) (t : Time) : Prog :=
  .dyn (fun s =>
    let f := ls.filter (fun x => x.1 < 224 && (s.lane x.1).st != .off && (s.lane x.1).st != .failed)
    match f with
    | [] => .nil
    | first :: _ =>
      let low := f.foldl (fun m x => if x.1 < m.1 then x else m) first
      .block [
        .each f (fun x => .block [
          modLane x.1 (fun l => { l with st := .failed, runStart := none, farRun := none, ready := false }),
          .setFld (F.SDS_LFAIL_CODE x.1) x.2, .raiseAt 377 t]),
        dropRecal (f.map (·.1)),
        .when (!s.flag F.SDS_SUMMARY_FAIL_VALID) (.block [
          .setFld F.SDS_SUMMARY_FAIL_LANE low.1, .setFld F.SDS_SUMMARY_FAIL_VALID 1]),
        .each (f.filterMap (fun x => laneFabricPort x.1)).eraseDups (fun p => portOut p .down t),
        enterFault 0x18 0x05 low.2 low.1])

/-- Lanes fail with one code. -/
def failLanes (ls : List Nat) (code : Nat) (t : Time) : Prog := failEach (ls.map (fun i => (i, code))) t

/-- A fabric port retrains from OFFSET_CAL; a fourth start within 60 s fails its lanes (R317, R318). -/
def retrainPort (p : Nat) (t : Time) : Prog :=
  .dyn (fun s =>
    let recent := (s.sds.retrains.getD p []).filter (fun u => t - 60000000000 * 256 ≤ u && u < t)
    .block [
      .act (.sds (fun d => { d with
        retrains := d.retrains.set p (recent ++ [t]), firstTs := d.firstTs.set p none })),
      .raiseAt 379 t,
      portOut p .training t,
      dropRecal (portLanes p),
      if recent.length ≥ 3 then failLanes (portLanes p) 0x08 t
      else .each (portLanes p) (fun i => .dyn (fun s =>
        if (s.lane i).st == .off || (s.lane i).st == .failed then .nil else restartLane i t))])

/-! ### The training sets that this end sends (R308) -/

/-- The eight symbols of an own training set (Table 10.3): K28.5, K28.2, COUNT with GO, DONE and FE_LOOP, SPEEDS with
NEXT, EW and EH once DONE, LANE with PORT, CHECK. -/
def State.ownTs (s : State) (i : Nat) (go : Bool) (count next : Nat) (loop : Bool) : List Byte :=
  let l := s.lane i
  let own (f : Fld) : Nat := if l.rxDone then s.fld f else 0
  let b : List Byte := [
    BitVec.ofNat 8 (count + 16 * boolNat go + 32 * boolNat l.rxDone + 64 * boolNat loop),
    BitVec.ofNat 8 (0xF + 16 * next), BitVec.ofNat 8 (own (F.SDS_LEYE_EW i)), BitVec.ofNat 8 (own (F.SDS_LEYE_EH i)),
    BitVec.ofNat 8 ((if i < 192 then 0 else laneInPort i) + 16 * lanePortCode i)]
  [0xBC, 0x5C] ++ b ++ [b.foldl (· ^^^ ·) 0x5A]

/-- Send the training set of the moment, which the lane repeats from now on: GO 0, COUNT 15, NEXT the next step. -/
def sendTs (i : Nat) : Prog :=
  .dyn (fun s => .send (.trainingSet i (s.ownTs i false 15 (min 3 ((s.lane i).speed + 1)) false)))

/-- Send 16 training sets with GO and COUNT from 15 to 0 (R310, R311). -/
def sendGo (i next : Nat) : Prog :=
  .dyn (fun s => .each (List.range 16) (fun k => .send (.trainingSet i (s.ownTs i true (15 - k) next false))))

/-- Lanes enter ACTIVE after their last training sets (R311) and raise EV_SDS_LANE_UP (Table 10.12); a drive lane brings
its driver up (R299). -/
def activateLanes (ls : List Nat) (t : Time) : Prog :=
  .each ls (fun i => .block [
    sendGo i 3,
    modLane i (fun l => { l with st := .active }), .raiseAt 376 t, .when (decide (i < 192)) (driverBringUp i)])

/-- The asymmetry of a node port at bring-up, and whether the port is time-capable (R383, R385). -/
def loadAsym (p : Nat) (t : Time) : Prog :=
  .dyn (fun s =>
    let l0 := (portLanes p).getD 0 0
    let l1 := l0 + (portLanes p).length - 1
    let adj := signedOf 12 (s.fld (F.TIM_ASYM_ADJ p))
    let diff : Int := (s.fld (F.SDS_LRTT_RTT l0) : Int) - (s.fld (F.SDS_LRTT_RTT l1) : Int)
    let a := if s.flag (F.SDS_LSTATE_REVERSED l0) then Int.tdiv diff 4 + adj else adj
    let ok := s.flag (F.SDS_LRTT_VALID l0) && s.flag (F.SDS_LRTT_VALID l1) && decide (a.natAbs ≤ 512)
    .block [
      .setFld (F.TIM_ASYM_MEAS p) (unsignedOf 12 a), .setFlag (F.TIM_ASYM_VALID p) ok,
      .when (!ok) (.raiseAt 102 t)])

/-- R311 holds for every lane of the port. -/
def State.portReady (s : State) (p : Nat) : Bool :=
  (portLanes p).all (fun i => (s.lane i).st == .step && (s.lane i).ready)

/-- A port whose lanes are all ready is deskewed: lanes more than 64 symbols apart fail (R312). -/
def deskewPort (p : Nat) (t : Time) : Prog :=
  .guard (fun s => s.portReady p) (.seq (.send (.deskewSet p 64)) (.dyn (fun s =>
    .when ((portLanes p).any (fun i => 64 < (s.lane i).skew)) (failLanes (portLanes p) 0x05 t))))

/-- A fabric port whose lanes are all ready and measured enters ACTIVE; a node port starts its link (R312, R324). -/
def tryPortActive (p : Nat) (t : Time) : Prog :=
  .dyn (fun s =>
    if s.portReady p && (portLanes p).all (fun i => (s.lane i).loopMeasured) then
      .block [activateLanes (portLanes p) t, .when (p < 4) (.seq (loadAsym p t) (nodePortUp p t))]
    else .nil)

/-- A lane that LOOP or TEST_SPEED hold in TEST (R322). -/
def State.testFields (s : State) (i : Nat) : Bool :=
  s.fld (F.SDS_LCTRL_LOOP i) != 0 || s.fld (F.SDS_LCTRL_TEST_SPEED i) != 0

/-- A lane goes to TEST; without a loop-back it trains from 3.125 Gbaud to the held speed (R306, R322). -/
def toTest (i : Nat) : Prog :=
  .seq (modLane i (fun l => { l.fresh with st := .test }))
    (.dyn (fun s => .when (s.fld (F.SDS_LCTRL_LOOP i) == 0) (sendTs i)))

/-- The lanes that an ENABLE of lane `i` brings up (R304): a drive lane alone; every lane of a fabric port that the role
enables, none of another port. -/
def State.enableSet (s : State) (i : Nat) : List Nat :=
  match laneFabricPort i with
  | none => [i]
  | some p => if bitOf (s.fld F.FAB_ROLE_PORT_EN) p then portLanes p else []

/-- A lane that is OFF starts offset calibration, and goes on to TEST where LOOP or TEST_SPEED is not 0 (R306, R307). -/
def bringUpLane (i : Nat) (t : Time) : Prog :=
  .dyn (fun s => .when ((s.lane i).st == .off) (.block [
    .setFld (F.SDS_LCTRL_ENABLE i) 1,
    restartLane i t,
    modLane i (fun l => { l with enabledAt := some t }),
    .when (s.testFields i) (toTest i)]))

/-- LANE_ENABLE (R304, R306, R307): ENABLE written 1. -/
def laneEnableProg (i : Nat) (t : Time) : Prog :=
  .seq (.setFld (F.SDS_LCTRL_ENABLE i) 1) (.dyn (fun s => .each (s.enableSet i) (fun k => bringUpLane k t)))

def execLaneEnable (lane : Nat) (stamp : Time) (s : State) : Host.Outcome State Fault Refusal :=
  .next ((Prog.when (decide (lane < 224)) (laneEnableProg lane stamp)).go s)

/-- The rest of a port when one of its lanes leaves ACTIVE by a write: the port stops, the other lanes restart and leave
the recalibration queue (R306, R316). -/
def portLosesLane (i : Nat) (t : Time) : Prog :=
  match laneFabricPort i with
  | none => .nil
  | some p => .dyn (fun s => .block [
      portOut p .training t,
      dropRecal (portLanes p),
      .each ((portLanes p).filter (fun k => k != i)) (fun k =>
        if (s.lane k).st == .active then restartLane k t else .nil)])

/-- LANE_DISABLE (R306): ENABLE written 0 powers the lane down; FAILED is left only through a reset. -/
def laneDisableProg (i : Nat) (t : Time) : Prog :=
  .block [
    .setFld (F.SDS_LCTRL_ENABLE i) 0,
    .dyn (fun s => if (s.lane i).st == .failed then .nil else .block [
      .when ((s.lane i).st == .active) (portLosesLane i t),
      modLane i (fun l => { l.fresh with st := .off, enabledAt := none }),
      dropRecal [i]])]

def execLaneDisable (lane : Nat) (stamp : Time) (s : State) : Host.Outcome State Fault Refusal :=
  .next ((Prog.when (decide (lane < 224)) (laneDisableProg lane stamp)).go s)

/-- A RETRAIN write (R318): the fabric lane's whole port retrains; ignored on drive lanes and on a port that is not
ACTIVE. -/
def laneRetrainProg (i : Nat) (t : Time) : Prog :=
  match laneFabricPort i with
  | none => .nil
  | some p => .guard (fun s => (s.lane i).st == .active) (retrainPort p t)

def execLaneRetrainRequest (lane : Nat) (stamp : Time) (s : State) : Host.Outcome State Fault Refusal :=
  .next ((laneRetrainProg lane stamp).go s)

/-- REG writes, loop-backs and test fields are open in RAW, TEST and RETURN (Table 18.1); R322 names TEST and RETURN for
the lane fields. -/
def lcTest (l : LcState) : Bool := l == .test || l == .returned

/-- The generator and the checker of a lane run: it is in TEST with a loop-back (R322). -/
def State.patternRuns (s : State) (i : Nat) : Bool := (s.lane i).st == .test && s.fld (F.SDS_LCTRL_LOOP i) != 0

/-- The checker of a lane stops: the bit errors that it has counted, an open amount (R322, log entry 25). -/
def patternStops (i : Nat) : Prog :=
  .guard (fun s => s.patternRuns i) (.withFree (fun w => .count (F.SDS_LPRBS_ERR_COUNT i) w.toNat))

/-- LANE_TEST_WRITE (R306, R322): the fields are written in TEST and RETURN only; PATTERN 0b11 is reserved (R13). A
lane with LOOP or TEST_SPEED not 0 goes to TEST, one with both 0 leaves TEST for OFFSET_CAL. -/
def laneTestProg (i : Nat) (loop pattern testSpeed : Nat) (t : Time) : Prog :=
  .dyn (fun s =>
    if !lcTest s.lc || pattern == 3 then .nil
    else .block [
      patternStops i,
      .setFld (F.SDS_LCTRL_LOOP i) loop, .setFld (F.SDS_LCTRL_PATTERN i) pattern,
      .setFld (F.SDS_LCTRL_TEST_SPEED i) testSpeed,
      let st := (s.lane i).st
      if loop != 0 || testSpeed != 0 then
        if st == .active then .block [portLosesLane i t, dropRecal [i], toTest i]
        else .when (st == .offsetCal || st == .trainLow || st == .step || st == .test) (toTest i)
      else .when (st == .test) (restartLane i t)])

def execLaneTestWrite (lane : Nat) (loop pattern testSpeed : BitVec 2) (stamp : Time) (s : State) :
    Host.Outcome State Fault Refusal :=
  .next ((Prog.when (decide (lane < 224)) (laneTestProg lane loop.toNat pattern.toNat testSpeed.toNat stamp)).go s)

/-- OFFSET_CAL_DONE (R307, R308, R313): the offsets are loaded and the lane enters TRAIN_LOW, within 2 ms of its start;
from then on it sends training sets. -/
def execOffsetCalDone (lane : Nat) (offsets : Word) (stamp : Time) (s : State) : Host.Outcome State Fault Refusal :=
  .next ((Prog.guard (fun s => (s.lane lane).st == .offsetCal) (.dyn (fun s =>
    match (s.lane lane).runStart with
    | none => .nil
    | some t0 =>
      if t0 + runBound ≤ stamp then failLanes [lane] 0x01 stamp
      else .block [
        .setReg (R.SDS_LOFS lane) (offsets &&& 0x3F3F3F3F#32),
        modLane lane (fun l => { l.fresh with st := .trainLow }), sendTs lane]))).go s)

/-- The CHECK symbol of a training set (Table 10.3). -/
def tsCheck (ts : TrainingSet) : Byte := ts.s2 ^^^ ts.s3 ^^^ ts.s4 ^^^ ts.s5 ^^^ ts.s6 ^^^ 0x5A

/-- Symbol `k` (2 to 6) of the last accepted TS. -/
def Lane.sym (l : Lane) (k : Nat) : Nat := match l.partner with | some p => byteAt p (k - 2) | none => 0

/-- The partner's last accepted TS shows DONE (R310). -/
def Lane.partnerDone (l : Lane) : Bool := l.partner.isSome && bitOf (l.sym 2) 5

/-- How a lane's partner is ordered: straight, reversed, or neither (R312). -/
def laneOrder (i n code : Nat) : Option Bool :=
  if code = laneInPort i then some false else if code = n - 1 - laneInPort i then some true else none

/-- The port mapping that the lanes with an accepted TS show is possible: one PORT code, one order (R312). -/
def portOrderOk (s : State) (p : Nat) : Bool :=
  let ls := (portLanes p).filter (fun i => (s.lane i).partner.isSome)
  let n := (portLanes p).length
  let codes := ls.map (fun i => bitsOf ((s.lane i).sym 6) 6 4)
  let orders := ls.map (fun i => laneOrder i n (bitsOf ((s.lane i).sym 6) 3 0))
  match codes, orders with
  | c :: cs, some o :: os => cs.all (· == c) && os.all (· == some o)
  | [], _ => true
  | _, _ => false

/-- The lane trains: TRAIN_LOW, STEP, or TEST with a held speed and no loop-back (R308, R322). -/
def State.trains (s : State) (i : Nat) : Bool :=
  (s.lane i).st == .trainLow || (s.lane i).st == .step || ((s.lane i).st == .test && s.fld (F.SDS_LCTRL_LOOP i) == 0)

/-- The forward speed to which the lane trains: 25 Gbaud, or the held speed (R310, R322). -/
def State.topSpeed (s : State) (i : Nat) : Nat :=
  if (s.lane i).st == .test then s.fld (F.SDS_LCTRL_TEST_SPEED i) - 1 else 3

/-- The countdown to the next step runs where R310 allows it. -/
def tryCountdown (i : Nat) : Prog :=
  .dyn (fun s =>
    let l := s.lane i
    .when (s.trains i && l.rxDone && l.partnerDone && !l.goes && l.speed < s.topSpeed i && bitOf (l.sym 3) (l.speed + 1))
      (.seq (sendGo i (l.speed + 1)) (modLane i (fun l => { l with goes := true }))))

/-- A lane at 25 Gbaud: margins of R311, then ACTIVE for a drive lane, ready for a fabric lane. -/
def tryReady (i : Nat) (t : Time) : Prog :=
  .dyn (fun s =>
    let l := s.lane i
    let own := s.meetsMargin l.runBand (s.fld (F.SDS_LEYE_EW i)) (s.fld (F.SDS_LEYE_EH i))
    let port := laneFabricPort i
    if !(l.st == .step && l.speed == 3 && l.rxDone && !l.ready && (port.isNone || l.rxSpeed == 3)) then .nil
    else if !own then failLanes [i] 0x04 t
    else if !l.partnerDone then .nil
    else match port with
      | none =>
        if s.meetsMargin l.runBand (l.sym 4 % 64) (l.sym 5) then
          .seq (modLane i (fun l => { l with ready := true })) (activateLanes [i] t)
        else failLanes [i] 0x04 t
      | some p => .block [modLane i (fun l => { l with ready := true }), deskewPort p t, tryPortActive p t])

/-- The receiver is DONE (R310): adapted, and at a step below 25 Gbaud 4,096 consecutive accepted TS; within 2 ms of the
start of the run (R313). -/
def tryDone (i : Nat) (t : Time) : Prog :=
  .dyn (fun s =>
    let l := s.lane i
    .when (l.adapted && !l.rxDone && (l.rxSpeed == 3 || 4096 ≤ l.tsRun)) (match l.runStart with
      | none => .nil
      | some t0 =>
        if t0 + runBound ≤ t then failLanes [i] 0x01 t
        else .seq (modLane i (fun l => { l with rxDone := true, runStart := none })) (sendTs i)))

/-- The driver's run at a new forward speed ends with its first TS that shows DONE, within 2 ms (R313). -/
def farDone (i : Nat) (t : Time) : Prog :=
  .dyn (fun s =>
    let l := s.lane i
    match l.farRun with
    | none => .nil
    | some t0 => .when l.partnerDone
        (if t0 + runBound ≤ t then failLanes [i] 0x01 t else modLane i (fun l => { l with farRun := none })))

/-- A symbol arrives: the first one at a new speed starts a calibration run (R313). -/
def firstSymbol (i : Nat) (t : Time) : Prog :=
  .dyn (fun s =>
    let l := s.lane i
    match l.rxNext with
    | some n => modLane i (fun l => { (l.startRun t s.sds.band s.dieT) with rxSpeed := n, rxNext := none })
    | none => .when (!l.rxDone && l.runStart.isNone) (modLane i (fun l => l.startRun t s.sds.band s.dieT)))

/-- A received request for a far-end loop-back (R323): granted, or settled by PORT code where an own one is outstanding. -/
def loopReceived (i : Nat) : Prog :=
  .dyn (fun s =>
    let l := s.lane i
    if l.loopOut.isNone then modLane i (fun l => { l with loopIn := true })
    else
      let mine := lanePortCode i
      let theirs := bitsOf (l.sym 6) 6 4
      if theirs < mine then modLane i (fun l => { l with loopIn := true, loopOut := none })
      else if theirs = mine then modLane i (fun l => { l with loopOut := none, loopRetry := true })
      else .nil)

/-- What an accepted training set tells of the partner (Table 10.3): its symbols, and on a fabric lane the speed that its
transmitter moves to after COUNT 0. -/
def Lane.take (l : Lane) (fabric : Bool) (ts : TrainingSet) (skew : Nat) : Lane :=
  let next := bitsOf ts.s3.toNat 5 4
  { l with
    partner := some [ts.s2, ts.s3, ts.s4, ts.s5, ts.s6], seen := true, tsRun := l.tsRun + 1, skew := skew
    rxNext := if fabric && bitOf ts.s2.toNat 4 && bitsOf ts.s2.toNat 3 0 == 0 && next != l.rxSpeed then some next
      else l.rxNext }

/-- What an accepted training set tells of the port: the first one starts its 50 ms (R314); one PORT code, one lane order
(R312); the port opposite (R356). -/
def portSet (i p : Nat) (ts : TrainingSet) (t : Time) : Prog :=
  .seq (.act (.sds (fun d => { d with firstTs := modAt d.firstTs p (fun o => if o.isSome then o else some t) })))
    (.dyn (fun s => if !portOrderOk s p then failLanes (portLanes p) 0x06 t
      else .block [
        .setFlag (F.SDS_LSTATE_REVERSED i) (laneOrder i (portLanes p).length (bitsOf ts.s6.toNat 3 0) == some true),
        .when (bitsOf ts.s6.toNat 6 4 != oppositePort p) (fabFault 0x13 (bitsOf ts.s6.toNat 6 4))]))

/-- An accepted training set (R308 to R314, R323, R356). -/
def acceptTs (i : Nat) (ts : TrainingSet) (skew : Nat) (t : Time) : Prog :=
  .block [
    modLane i (fun l => l.take (laneFabricPort i).isSome ts skew),
    .setFld (F.SDS_LEYE_FAR_EW i) (ts.s4.toNat % 64), .setFld (F.SDS_LEYE_FAR_EH i) ts.s5.toNat,
    (match laneFabricPort i with
     | none => .nil
     | some p => portSet i p ts t),
    .dyn (fun s => if (s.lane i).st == .failed then .nil
      else if !bitOf ts.s3.toNat 3 then failLanes [i] 0x03 t
      else .block [
        .when (bitOf ts.s2.toNat 6) (loopReceived i),
        tryDone i t, farDone i t, tryCountdown i, tryReady i t])]

/-- A training set with a coding error: one coding error, and an open number of disparity errors (Table 10.11, log
entry 25). -/
def codingErrors (i : Nat) : Prog :=
  .seq (.count (F.SDS_LCODE_ERR_CODE i) 1) (.withFree (fun w => .count (F.SDS_LCODE_ERR_DISP i) w.toNat))

/-- TRAINING_SET_RECEIVE (R308, R313, R318): a coding error or a wrong check discards the set; a set accepted on an
ACTIVE fabric lane retrains the port. -/
def execTrainingSetReceive (lane : Nat) (ts : TrainingSet) (codingError : Bool) (skew : Nat) (stamp : Time)
    (s : State) : Host.Outcome State Fault Refusal :=
  .next ((Prog.dyn (fun s =>
    let bad := codingError || ts.check != tsCheck ts
    .block [
      .when (codingError && decide (lane < 224) && (s.lane lane).st != .off) (codingErrors lane),
      if s.trains lane then .seq (firstSymbol lane stamp)
        (if bad then modLane lane (fun l => { l with tsRun := 0 }) else acceptTs lane ts skew stamp)
      else match laneFabricPort lane with
        | some p => .when (!bad && (s.lane lane).st == .active) (retrainPort p stamp)
        | none => .nil])).go s)

/-- SPEED_SWITCH (R310, R313): after the countdown the transmitter moves to the next step; the driver of a drive lane
starts its run there. -/
def execSpeedSwitch (lane : Nat) (stamp : Time) (s : State) : Host.Outcome State Fault Refusal :=
  .next ((Prog.guard (fun s => (s.lane lane).goes && s.trains lane) (.seq
    (modLane lane (fun l => { l with
      st := if l.st == .test then .test else .step
      speed := l.speed + 1, goes := false, partner := none, loopMeasured := false
      farRun := if (laneFabricPort lane).isSome then none else some stamp }))
    (sendTs lane))).go s)

/-- What a calibration run loads (R313, R317, Table 10.11); T_cal is that of a run at the configured speed (R316). -/
def loadEye (i : Nat) (q : EyeResult) (band : Nat) (temp : BitVec 16) (configured : Bool) : Prog :=
  .block [
    .setFld (F.SDS_LEYE_EW i) q.ew.toNat, .setFld (F.SDS_LEYE_EH i) q.eh.toNat,
    .setReg (R.SDS_LCTLE i) (q.ctle &&& 0xF1F#32), .setReg (R.SDS_LDFE i) (q.dfe &&& 0x7FFFFFFF#32),
    .setReg (R.SDS_LOFS i) (q.ofs &&& 0x3F3F3F3F#32),
    .setFld (F.SDS_LSTATE_BAND i) band, .when configured (.setFld (F.SDS_LCAL_TCAL i) temp.toNat)]

/-- CAL_RUN_DONE (R310, R313): the run has adapted the receiver at its speed, unless 2 ms have passed. -/
def execCalRunDone (lane : Nat) (q : EyeResult) (stamp : Time) (s : State) : Host.Outcome State Fault Refusal :=
  .next ((Prog.dyn (fun s =>
    let l := s.lane lane
    match l.runStart with
    | none => .nil
    | some t0 => .when (s.trains lane && !l.adapted) (
        if t0 + runBound ≤ stamp then failLanes [lane] 0x01 stamp
        else .block [
          loadEye lane q l.runBand l.runTemp ((laneFabricPort lane).isNone || l.rxSpeed == 3),
          .setFlag (F.SDS_LSTATE_RX_INV lane) q.rxInv,
          modLane lane (fun l => { l with adapted := true }),
          tryDone lane stamp, tryCountdown lane, tryReady lane stamp]))).go s)

/-- CAL_RUN_TIMEOUT (R313): the own run, the driver's or a background run is not DONE in time. -/
def execCalRunTimeout (lane : Nat) (stamp : Time) (s : State) : Host.Outcome State Fault Refusal :=
  .next ((Prog.dyn (fun s =>
    let l := s.lane lane
    if l.runStart.isSome || l.farRun.isSome || s.sds.bgRun == some lane then failLanes [lane] 0x01 stamp else .nil)).go s)

/-- The code of a lane that is not ACTIVE 50 ms after its port's first TS (R314): no TS, a run that is not DONE, else one
of Table 10.6 that no rule gives (log entry 15). -/
def Lane.lateCode (l : Lane) (w : Word) : Nat :=
  if !l.seen then 0x02 else if l.runStart.isSome then 0x01 else w.toNat % 9 + 1

/-- NO_PARTNER_TIMEOUT (R314): a drive lane without a TS fails; so do the lanes of a fabric port that has had its first
TS and are not ACTIVE. -/
def execNoPartnerTimeout (lane : Nat) (stamp : Time) (s : State) : Host.Outcome State Fault Refusal :=
  .next ((Prog.dyn (fun s =>
    let waits (i : Nat) : Bool :=
      (s.lane i).st == .offsetCal || (s.lane i).st == .trainLow || (s.lane i).st == .step
    match laneFabricPort lane with
    | none => .when (waits lane && !(s.lane lane).seen) (failLanes [lane] 0x02 stamp)
    | some p => .when (s.sds.firstTs.getD p none).isSome (.withFree (fun w =>
        failEach (((portLanes p).filter waits).map (fun i => (i, (s.lane i).lateCode w))) stamp)))).go s)

/-- BG_RECAL_START (R316): the first due lane that is ACTIVE starts its background run. -/
def execBgRecalStart (stamp : Time) (s : State) : Host.Outcome State Fault Refusal :=
  .next ((Prog.guard (fun s => s.flag F.SDS_CTRL_BGCAL_EN && s.sds.bgRun.isNone) (.dyn (fun s =>
    match s.sds.due.filter (fun i => (s.lane i).st == .active) with
    | [] => .nil
    | i :: rest => .act (.sds (fun d => { d with
        due := rest, bgRun := some i, bgStart := stamp, bgTemp := s.dieT, bgBand := d.band }))))).go s)

/-- BG_RECAL_DONE (R317, R313): the figures are loaded; below margin a drive lane fails and a fabric port retrains. -/
def execBgRecalDone (q : EyeResult) (stamp : Time) (s : State) : Host.Outcome State Fault Refusal :=
  .next ((Prog.dyn (fun s =>
    match s.sds.bgRun with
    | none => .nil
    | some i =>
      if s.sds.bgStart + runBound ≤ stamp then failLanes [i] 0x01 stamp
      else .block [
        .act (.sds (fun d => { d with bgRun := none })),
        loadEye i q s.sds.bgBand s.sds.bgTemp true,
        .count (F.SDS_LCAL_RECALS i) 1,
        .raiseAt 378 stamp,
        if s.meetsMargin s.sds.bgBand q.ew.toNat q.eh.toNat then .nil
        else match laneFabricPort i with
          | none => failLanes [i] 0x04 stamp
          | some p => retrainPort p stamp])).go s)

/-- LANE_LOCK_LOST (R318). -/
def execLaneLockLost (lane : Nat) (stamp : Time) (s : State) : Host.Outcome State Fault Refusal :=
  .next ((Prog.guard (fun s => (s.lane lane).st == .active) (
    match laneFabricPort lane with
    | none => failLanes [lane] 0x07 stamp
    | some p => retrainPort p stamp)).go s)

/-- Send a training set with FE_LOOP = 1 (R323). -/
def sendLoopRequest (i : Nat) (t : Time) : Prog :=
  .seq (modLane i (fun l => { l with loopOut := some t, loopRetry := false }))
    (.dyn (fun s => .send (.trainingSet i (s.ownTs i false 15 (min 3 ((s.lane i).speed + 1)) true))))

/-- FE_LOOP_REQUEST (R323): an own request goes out, or one is received. -/
def execFeLoopRequest (lane : Nat) (own : Bool) (stamp : Time) (s : State) : Host.Outcome State Fault Refusal :=
  .next ((Prog.guard (fun s => (s.lane lane).st == .step || (s.lane lane).st == .trainLow || (s.lane lane).st == .test)
    (if own then sendLoopRequest lane stamp else loopReceived lane)).go s)

/-- FE_LOOP_END (R323, R324): the window ends; the requester has sent its 64 markers and loads SDS_LRTT. Only a loop-back
at 25 Gbaud after R311 holds is the one that R324 asks for. -/
def execFeLoopEnd (lane : Nat) (rtt : BitVec 24) (stamp : Time) (s : State) : Host.Outcome State Fault Refusal :=
  .next ((Prog.dyn (fun s =>
    let l := s.lane lane
    if l.loopOut.isSome then .block [
      .send (.loopMarkers lane 64),
      .setFld (F.SDS_LRTT_RTT lane) rtt.toNat, .setFld (F.SDS_LRTT_VALID lane) 1,
      modLane lane (fun l => { l with loopOut := none, loopMeasured := l.ready && l.speed == 3 }),
      .raiseAt 381 stamp,
      (match laneFabricPort lane with
       | some p => tryPortActive p stamp
       | none => .nil)]
    else modLane lane (fun l => { l with loopIn := false }))).go s)

/-- FE_LOOP_RETRY (R323). -/
def execFeLoopRetry (lane : Nat) (stamp : Time) (s : State) : Host.Outcome State Fault Refusal :=
  .next ((Prog.guard (fun s => (s.lane lane).loopRetry) (sendLoopRequest lane stamp)).go s)

/-- Lane bands with their hysteresis of 2 degrees (R315, Table 10.4), thresholds in 1/16 degree. -/
def bandWith (thresholds : List Int) (cur : Nat) (t : Int) : Nat :=
  let up := (thresholds.filter (fun x => x ≤ t)).length
  let keep := (thresholds.filter (fun x => x - 32 ≤ t)).length
  if cur < up then up else min cur keep

/-- What a housekeeping die sample does to the lanes: the band, and the lanes that become due in rising order (R315,
R316). -/
def recalCheck (t : Int) : Prog :=
  .block [
    .act (.sds (fun d => { d with band := bandWith [0, 800, 1360] d.band t })),
    .dyn (fun s =>
      let fresh := (List.range 224).filter (fun i =>
        (s.lane i).st == .active && !s.sds.due.contains i && s.sds.bgRun != some i &&
        decide (s.fld F.SDS_RECAL_DELTA_DELTA < (t - signedOf 16 (s.fld (F.SDS_LCAL_TCAL i))).natAbs))
      .act (.sds (fun d => { d with due := d.due ++ fresh })))]

end Sys2Proof.Machine
end

