-- ==== Sys2Proof/Machine/Cards.lean ====
section
/-! DEFINITION. Cards: reading and checking records, prediction, the setup record in the panel frame, and the tests by
which a card enters a bin (R70 to R74, R89, R122 to R130, R135, R155). -/

namespace Sys2Proof.Machine

/-- The binary32 at a byte offset. -/
def f32At (b : List Byte) (i : Nat) : F32 := BitVec.ofNat 32 (leAt b i 4)

/-- Three binary32 at a byte offset, subnormals taken as 0 (R71). -/
def v3At (b : List Byte) (i : Nat) : V3 := { x := ftz (f32At b i), y := ftz (f32At b (i + 4)), z := ftz (f32At b (i + 8)) }

/-- Flag bits of a card (Table 2.7). -/
def CardRec.isStatic (c : CardRec) : Bool := c.flags.getLsbD 0
def CardRec.isDynamic (c : CardRec) : Bool := c.flags.getLsbD 1
def CardRec.isLive (c : CardRec) : Bool := c.flags.getLsbD 2
def CardRec.isRelief (c : CardRec) : Bool := c.flags.getLsbD 3
def CardRec.twoSided (c : CardRec) : Bool := c.flags.getLsbD 4
def CardRec.predicts (c : CardRec) : Bool := c.flags.getLsbD 5
def CardRec.isRemove (c : CardRec) : Bool := c.flags.getLsbD 6

/-- A card record of 96 bytes (Table 2.7). -/
def readCard (b : List Byte) : CardRec :=
  { id := leAt b 0 2, flags := BitVec.ofNat 16 (leAt b 2 2), tex := leAt b 4 2, relTex := leAt b 6 2
    origin := v3At b 8, sAxis := v3At b 20, tAxis := v3At b 32
    uv := [leAt b 44 3, leAt b 47 3, leAt b 50 3, leAt b 53 3]
    opacity := leAt b 56 2, relDepth := ftz (f32At b 60), vel := v3At b 64, spin := v3At b 76 }

/-- Every byte is 0. -/
def allZero (b : List Byte) : Bool := b.all (· == 0)

/-- Bytes `i` to `i + n - 1`. -/
def slice (b : List Byte) (i n : Nat) : List Byte := (b.drop i).take n

/-- Every component is a finite number. -/
def vfinite (v : V3) : Bool := isFinite v.x && isFinite v.y && isFinite v.z

/-- Every component's magnitude is at most a bound. -/
def vwithin (v : V3) (m : F32) : Bool := fle (fabs v.x) m && fle (fabs v.y) m && fle (fabs v.z) m

/-- U or V by place in the record: U0, V0, U1, V1. -/
def CardRec.coord (c : CardRec) (i : Nat) : Nat := c.uv.getD i 0

/-- The geometry and texture-coordinate tests of R71, in binary32. -/
def CardRec.geometryOk (c : CardRec) : Bool :=
  vfinite c.origin && vfinite c.sAxis && vfinite c.tAxis && isFinite c.relDepth && vfinite c.vel && vfinite c.spin &&
  vwithin c.origin 0x47C35000 &&
  (let a := vlen c.sAxis
   let b := vlen c.tAxis
   fle 0x38D1B717 a && fle a 0x447A0000 && fle 0x38D1B717 b && fle b 0x447A0000 &&
   fle (fmul (fmul 0x3E800000 a) b) (vlen (cross c.sAxis c.tAxis))) &&
  c.coord 0 != c.coord 2 && c.coord 1 != c.coord 3 &&
  fle (vlen c.spin) 0x3F000000 && fle (vlen c.vel) 0x41200000

/-- The record without REMOVE is valid (R71); `raw` are its bytes, for the reserved ones. -/
def cardValid (c : CardRec) (raw : List Byte) : Bool :=
  c.geometryOk && c.tex ≤ 16383 && c.relTex ≤ 16383 &&
  (if c.isRelief then flt 0 c.relDepth && fle c.relDepth 0x3F800000 else c.relTex == 0 && isZero c.relDepth) &&
  bitsOf c.flags.toNat 15 7 == 0 && allZero (slice raw 58 2) && allZero (slice raw 88 8)

/-- The record with REMOVE is valid (R71). -/
def removeValid (c : CardRec) (raw : List Byte) : Bool := c.flags == 0x40 && allZero (raw.drop 4)

/-- The fields of an amend record in place of a card's (Table 2.12, R87). -/
def amendCard (c : CardRec) (b : List Byte) : CardRec :=
  { c with
    origin := v3At b 4, sAxis := v3At b 16, tAxis := v3At b 28
    uv := [leAt b 40 3, leAt b 43 3, leAt b 46 3, leAt b 49 3], opacity := leAt b 52 2 }

/-! ### Prediction (R74) -/

/-- rot of R74 by the rotation vector `r` of length `th`. -/
def rotate (r : V3) (th : F32) (v : V3) : V3 :=
  if isZero th then v else
    let u := vdivs r th
    let co := fcos th
    let si := fsin th
    vadd (vadd (vscale v co) (vscale (cross u v) si)) (vscale u (fmul (dot u v) (fsub 0x3F800000 co)))

/-- The card `k` frame periods after the frame that last set or amended it (R74). -/
def predictCard (c : CardRec) (k : Nat) : CardRec :=
  if !c.predicts then c else
    let kf := ofInt (k : Nat)
    let ctr := vadd c.origin (vscale (vadd c.sAxis c.tAxis) 0x3F000000)
    let r := vscale c.spin kf
    let th := vlen r
    let m := vscale c.vel kf
    if isZero th && isZero m.x && isZero m.y && isZero m.z then c
    else { c with
      origin := vadd (vadd ctr m) (rotate r th (vsub c.origin ctr))
      sAxis := rotate r th c.sAxis
      tAxis := rotate r th c.tAxis }

/-! ### The setup record (R155) and the solid (R122) -/

/-- Column `i` of the pose's rotation: row `i` of its transpose (R23). -/
def poseCol (pose : List F32) (i : Nat) : V3 :=
  { x := pose.getD i 0, y := pose.getD (4 + i) 0, z := pose.getD (8 + i) 0 }

/-- Transposed rotation applied to a vector (R155). -/
def toPanel (pose : List F32) (v : V3) : V3 :=
  { x := dot (poseCol pose 0) v, y := dot (poseCol pose 1) v, z := dot (poseCol pose 2) v }

/-- The setup record of a card version, with the card itself. -/
structure Setup where
  card : CardRec
  o : V3
  s : V3
  t : V3
  n : V3
  q : F32
  sr : V3
  tr : V3
  deriving DecidableEq, Repr

/-- Build the setup record (R155). -/
def setupCard (pose : List F32) (c : CardRec) : Setup :=
  let o := toPanel pose (vsub c.origin { x := pose.getD 3 0, y := pose.getD 7 0, z := pose.getD 11 0 })
  let s := toPanel pose c.sAxis
  let t := toPanel pose c.tAxis
  let n := cross s t
  let q := dot n n
  { card := c, o := o, s := s, t := t, n := n, q := q, sr := vdivs (cross t n) q, tr := vdivs (cross n s) q }

/-- The front normal (R122). -/
def Setup.normal (k : Setup) : V3 := vdivs k.n (fsqrt k.q)

/-- The vertices of the solid (R122). -/
def Setup.vertices (k : Setup) : List V3 :=
  let flat := [k.o, vadd k.o k.s, vadd k.o k.t, vadd (vadd k.o k.s) k.t]
  if k.card.isRelief then flat ++ flat.map (fun v => vsub v (vscale k.normal k.card.relDepth)) else flat

/-- The depth key (R130). -/
def Setup.key (k : Setup) : F32 :=
  match k.vertices.map (·.z) with
  | [] => 0
  | z :: zs => zs.foldl fmax z

/-! ### Entering a bin -/

/-- What the bin tests read: pitch, margin, tile reach and the bounds table. -/
structure BinView where
  pose : List F32
  p : F32
  m : F32
  sh : F32
  sv : F32
  /-- SX_MIN, SX_MAX, SY_MIN, SY_MAX of a bin (R124). -/
  bounds : Nat → F32 × F32 × F32 × F32
  on : Bool

/-- Every vertex satisfies a strict test. -/
def allOut (vs : List V3) (f : V3 → Bool) : Bool := vs.all f

/-- The solid is separated from a wedge whose sides are x0 + xa × z, x1 + xb × z, y0 + ya × z, y1 + yb × z
(Table 4.2). -/
def separated (vs : List V3) (front : Bool) (x0 xa x1 xb y0 ya y1 yb : F32) : Bool :=
  allOut vs (fun v => if front then flt v.z 0 else flt 0 v.z) ||
  allOut vs (fun v => flt v.x (fadd x0 (fmul xa v.z))) || allOut vs (fun v => flt (fadd x1 (fmul xb v.z)) v.x) ||
  allOut vs (fun v => flt v.y (fadd y0 (fmul ya v.z))) || allOut vs (fun v => flt (fadd y1 (fmul yb v.z)) v.y)

/-- The card lies outside the tile reach (R89, R128). -/
def outsideReach (w : BinView) (vs : List V3) : Bool :=
  let x := fmul 0x44000000 w.p
  (allOut vs (fun v => flt v.z 0) ||
    allOut vs (fun v => flt (fadd x (fmul w.sh v.z)) v.x) || allOut vs (fun v => flt v.x (fsub (fneg x) (fmul w.sh v.z))) ||
    allOut vs (fun v => flt (fadd x (fmul w.sv v.z)) v.y) || allOut vs (fun v => flt v.y (fsub (fneg x) (fmul w.sv v.z)))) &&
  (allOut vs (fun v => flt 0 v.z) ||
    allOut vs (fun v => flt (fsub x (fmul w.sh v.z)) v.x) || allOut vs (fun v => flt v.x (fadd (fneg x) (fmul w.sh v.z))) ||
    allOut vs (fun v => flt (fsub x (fmul w.sv v.z)) v.y) || allOut vs (fun v => flt v.y (fadd (fneg x) (fmul w.sv v.z))))

/-- The card enters bin b (R126, R127), its reach aside. -/
def entersBin (w : BinView) (k : Setup) (vs : List V3) (nrm : V3) (b : Nat) : Bool :=
  let x0 := 32 * (b / 8 % 32)
  let y0 := 32 * (b / 256)
  let e := w.bounds b
  let a := fsub e.1 w.m
  let b' := fadd e.2.1 w.m
  let c := fsub e.2.2.1 w.m
  let d := fadd e.2.2.2 w.m
  let bx0 := fmul (ofInt ((x0 : Int) - 512)) w.p
  let bx1 := fmul (ofInt ((x0 : Int) + 32 - 512)) w.p
  let by0 := fmul (ofInt (480 - (y0 : Int))) w.p
  let by1 := fmul (ofInt (512 - (y0 : Int))) w.p
  let away (sx sy : F32) : Bool := fle (dot nrm { x := sx, y := sy, z := 0x3F800000 }) 0
  !(separated vs true bx0 a bx1 b' by0 c by1 d && separated vs false bx0 b' bx1 a by0 d by1 c) &&
  (k.card.twoSided || !(away a c && away a d && away b' c && away b' d))

/-- The footprint of a card: one bit per bin (R126 to R128, R136); none while binning is off (Table 4.6). -/
def footprint (w : BinView) (c : CardRec) : BitVec 8192 :=
  if !w.on then 0 else
    let k := setupCard w.pose c
    let vs := k.vertices
    let nrm := k.normal
    if outsideReach w vs then 0
    else BitVec.ofNat 8192 ((List.range 8192).foldl (fun acc b => if entersBin w k vs nrm b then acc + 2 ^ b else acc) 0)

/-- A card comes before another in a bin list: greater key, then lower CARD_ID (R130). -/
def Setup.before (a b : Setup) : Bool := flt b.key a.key || (!flt a.key b.key && a.card.id < b.card.id)

/-- Insert into a bin list. -/
def insertSetup (k : Setup) : List Setup → List Setup
  | [] => [k]
  | x :: l => if k.before x then k :: x :: l else x :: insertSetup k l

/-- The list of a bin in candidate order (R130). -/
def binList (pose : List F32) (cards : List CardVer) (b : Nat) : List Setup :=
  (cards.filter (fun c => c.foot.getLsbD b)).foldl (fun l c => insertSetup (setupCard pose c.card) l) []

/-- Cards in a bin's list. -/
def binCount (cards : List CardVer) (b : Nat) : Nat := (cards.filter (fun c => c.foot.getLsbD b)).length

/-- The lowest bin with more than 32 cards (R132). -/
def overfullBin (cards : List CardVer) : Option Nat := (List.range 8192).find? (fun b => 32 < binCount cards b)

/-- The bins with more than 32 cards (R134). -/
def overfullBins (cards : List CardVer) : BitVec 8192 :=
  BitVec.ofNat 8192 ((List.range 8192).foldl (fun acc b => if 32 < binCount cards b then acc + 2 ^ b else acc) 0)

/-- The record's fields that the tolerance test wants equal (R135). -/
def sameFields (p a : CardRec) : Bool :=
  p.id == a.id && (p.flags &&& 0xFFDF#16) == (a.flags &&& 0xFFDF#16) && p.tex == a.tex && p.relTex == a.relTex &&
  p.uv == a.uv && p.opacity == a.opacity && p.relDepth == a.relDepth

/-- The error terms of a pair of vertices are below a limit (R135). -/
def vertexClose (w : BinView) (limit : F32) (p a : V3) : Bool :=
  let d := vsub a p
  flt (fadd (fabs d.x) (fmul (fabs d.z) w.sh)) limit && flt (fadd (fabs d.y) (fmul (fabs d.z) w.sv)) limit

/-- The actual card passes the tolerance test against the predicted one (R135). -/
def passesTolerance (w : BinView) (p a : CardRec) : Bool :=
  !a.isDynamic && sameFields p a &&
  ((setupCard w.pose p).vertices.zip (setupCard w.pose a).vertices).all
    (fun v => vertexClose w (fdiv w.p 0x41000000) v.1 v.2)

/-- The tile pose in use (R23). -/
def State.pose (s : State) : List F32 := (s.grv.panel.drop 3).take 12

/-- The bin bounds table in use (R124, R583). -/
def State.boundsAddr (s : State) : Nat :=
  match s.grv.boundsChg.inUse with
  | [a, b] => a.toNat / 2 ^ 12 * 2 ^ 12 + b.toNat % 64 * 2 ^ 32
  | _ => 0

/-- What the bin tests read in a state. -/
def State.binView (s : State) : BinView :=
  { pose := s.pose, p := s.effReg R.GRV_PITCH, m := s.reg R.BIN_MARGIN
    sh := reachSlope (fabs (s.grv.maxSlope.getD 0 0)), sv := reachSlope (fabs (s.grv.maxSlope.getD 1 0))
    bounds := fun b =>
      let a := s.boundsAddr + 16 * b
      (s.word32 a, s.word32 (a + 4), s.word32 (a + 8), s.word32 (a + 12))
    on := s.flag F.BIN_CTRL_ENABLE }

end Sys2Proof.Machine
end

