-- ==== Sys2Proof/Machine/Texture.lean ====
section
/-! DEFINITION. Textures: formats, levels, tiles and pages, and the texels a version holds (R75, R76, R79, R84, R170). -/

namespace Sys2Proof.Machine

/-- Bytes per texel (Table 2.8); 0 for no format. -/
def texelBytes : Nat → Nat
  | 1 => 4
  | 2 => 4
  | 3 => 8
  | 0x10 => 1
  | 0x11 => 2
  | _ => 0

/-- A relief format (Table 2.8). -/
def reliefFormat (f : Nat) : Bool := f == 0x10 || f == 0x11

/-- Columns and rows of the tile of one cache line (Table 5.3). -/
def tileSize : Nat → Nat × Nat
  | 3 => (8, 4)
  | 0x10 => (16, 16)
  | 0x11 => (16, 8)
  | _ => (8, 8)

/-- Width and height of level k (R76). -/
def TexVer.levelSize (t : TexVer) (k : Nat) : Nat × Nat := (max 1 (t.width / 2 ^ k), max 1 (t.height / 2 ^ k))

/-- Bytes of level k. -/
def TexVer.levelBytes (t : TexVer) (k : Nat) : Nat := (t.levelSize k).1 * (t.levelSize k).2 * texelBytes t.fmt

/-- Byte offset of level k in the texture's content. -/
def TexVer.levelBase (t : TexVer) (k : Nat) : Nat := ((List.range k).map t.levelBytes).sum

/-- Tiles across and down a level (R170). -/
def TexVer.levelTiles (t : TexVer) (k : Nat) : Nat × Nat :=
  let s := t.levelSize k
  let d := tileSize t.fmt
  ((s.1 + d.1 - 1) / d.1, (s.2 + d.2 - 1) / d.2)

/-- Pages of a level (R84). -/
def TexVer.levelPages (t : TexVer) (k : Nat) : Nat := ((t.levelTiles k).1 * (t.levelTiles k).2 + 255) / 256

/-- Pages of every level before level k. -/
def TexVer.pageBase (t : TexVer) (k : Nat) : Nat := ((List.range k).map t.levelPages).sum

/-- Pages of the whole texture (R84). -/
def TexVer.pageCount (t : TexVer) : Nat := t.pageBase t.mips

/-- Tile of a texel in its level (R170). -/
def TexVer.tileOf (t : TexVer) (k x y : Nat) : Nat :=
  y / (tileSize t.fmt).2 * (t.levelTiles k).1 + x / (tileSize t.fmt).1

/-- Pages that hold a tile which the rectangle of an update touches (R84), rising. -/
def TexVer.touched (t : TexVer) (u : UpdHead) : List Nat :=
  let d := tileSize t.fmt
  let cols := (List.range ((u.x0 + u.w - 1) / d.1 + 1)).drop (u.x0 / d.1)
  let rows := (List.range ((u.y0 + u.h - 1) / d.2 + 1)).drop (u.y0 / d.2)
  rows.foldl (fun l r => cols.foldl (fun l c =>
    insertNat (t.pageBase u.mip + (r * (t.levelTiles u.mip).1 + c) / 256) l) l) []

/-- Put one content byte, offsets rising. -/
def putCell (k : Nat) (b : Byte) : List Host.Cell → List Host.Cell
  | [] => [(k, b)]
  | (a, v) :: l => if k < a then (k, b) :: (a, v) :: l else if k == a then (k, b) :: l else (a, v) :: putCell k b l

/-- Content after an update's data, row by row from the top (R79). -/
def TexVer.write (t : TexVer) (u : UpdHead) (data : List Byte) : TexVer :=
  let bpp := texelBytes t.fmt
  let base := t.levelBase u.mip
  let wide := (t.levelSize u.mip).1
  let row := u.w * bpp
  { t with texels := (data.zipIdx).foldl (fun l p =>
      putCell (base + ((u.y0 + p.2 / row) * wide + u.x0) * bpp + p.2 % row) p.1 l) t.texels }

/-- The touched pages take new version numbers from `n` on (R84, R181). -/
def TexVer.renumber (t : TexVer) (u : UpdHead) (n : Nat) : TexVer :=
  { t with pages := ((t.touched u).zipIdx).foldl (fun l p => l.set p.1 (n + p.2)) t.pages }

/-- Byte `i` of texel (x, y) of level k; an open value where no update has written it (R76). -/
def TexVer.byte (t : TexVer) (k x y i : Nat) : Byte :=
  let bpp := texelBytes t.fmt
  match t.texels.lookup (t.levelBase k + (y * (t.levelSize k).1 + x) * bpp + i) with
  | some b => b
  | none =>
    let j := t.tileOf k x y
    let d := tileSize t.fmt
    Config.texelByte (t.pages.getD (t.pageBase k + j / 256) 0)
      (256 * (j % 256) + (y % d.2 * d.1 + x % d.1) * bpp + i)

/-- The bits of a texel, least significant byte first (R9). -/
def TexVer.texel (t : TexVer) (k x y : Nat) : Nat :=
  leNat ((List.range (texelBytes t.fmt)).map (t.byte k x y))

/-- ⌊log2⌋ + 1 of the longer side, the most levels a texture may have (Table 2.9). -/
def maxMips (w h : Nat) : Nat := Nat.log2 (max w h) + 1

end Sys2Proof.Machine
end

