-- ==== Sys2Proof/Machine/Ray.lean ====
section
/-! DEFINITION. One ray: its measured direction, the cards it meets, relief, footprint, level of detail, sampling,
compositing and the 20-bit triple (R150 to R169, R213 to R215). -/

namespace Sys2Proof.Machine

/-- Three colour channels of binary32. -/
structure Rgb where
  r : F32 := 0
  g : F32 := 0
  b : F32 := 0
  deriving DecidableEq, Repr

def Rgb.scale (c : Rgb) (k : F32) : Rgb := { r := fmul c.r k, g := fmul c.g k, b := fmul c.b k }
def Rgb.add (a b : Rgb) : Rgb := { r := fadd a.r b.r, g := fadd a.g b.g, b := fadd a.b b.b }

/-- A premultiplied sample. -/
structure Sample where
  c : Rgb := {}
  a : F32 := 0
  deriving DecidableEq, Repr

def Sample.scale (s : Sample) (k : F32) : Sample := { c := s.c.scale k, a := fmul s.a k }
def Sample.add (s t : Sample) : Sample := { c := s.c.add t.c, a := fadd s.a t.a }

/-- What every ray of a frame depends on beside cards and textures (R147). -/
structure RayView where
  pose : List F32
  p : F32
  fsx : F32
  fsy : F32
  bias : Int
  half : Bool
  pq : Bool
  linScale : F32
  /-- A direction table entry's slopes and gradients by block and direction (Table 5.2). -/
  entry : Nat → Nat → List F32

/-- One hogel's ray: origin x and y, slopes. -/
structure Ray where
  hx : F32
  hy : F32
  sx : F32
  sy : F32
  deriving DecidableEq, Repr

/-- The direction D. -/
def Ray.dir (r : Ray) : V3 := { x := r.sx, y := r.sy, z := 0x3F800000 }

/-- The slopes of full-fan direction d at hogel (x, y) (R151). -/
def RayView.slopes (w : RayView) (x y d : Nat) : F32 × F32 :=
  let e := w.entry (y / 32 * 32 + x / 32) d
  let g (i : Nat) : F32 := e.getD i 0
  let ex := fratio (2 * (x % 32 : Nat) - 31) 2
  let ey := fratio (2 * (y % 32 : Nat) - 31) 2
  (fadd (fadd (g 0) (fmul (g 2) ex)) (fmul (g 3) ey), fadd (fadd (g 1) (fmul (g 4) ex)) (fmul (g 5) ey))

/-- The ray of hogel (x, y), physical index h (2h' in half-fan) and v (R151, R152). -/
def RayView.ray (w : RayView) (x y h v : Nat) : Ray :=
  let s :=
    if w.half then
      let a := w.slopes x y (128 * v + h / 2 * 2)
      let b := w.slopes x y (128 * v + h / 2 * 2 + 1)
      (fmul (fadd a.1 b.1) 0x3F000000, fmul (fadd a.2 b.2) 0x3F000000)
    else w.slopes x y (128 * v + h)
  { hx := fmul (fratio (2 * (x : Nat) - 1023) 2) w.p, hy := fmul (fratio (1023 - 2 * (y : Nat)) 2) w.p
    sx := s.1, sy := s.2 }

/-! ### Input transfer and texels -/

/-- Decode a colour channel (R214, R215). -/
def RayView.decode (w : RayView) (x : F32) : F32 :=
  if !w.pq then fmul x w.linScale
  else
    let i := fmul (fmin x 0x3F800000) 0x45800000
    let k := (floorScaled i 1).toNat
    if 4096 ≤ k then pqTable 4096
    else
      let f := fsub i (ofInt (k : Nat))
      fadd (pqTable k) (fmul (fsub (pqTable (k + 1)) (pqTable k)) f)

/-- A binary16 channel clamped (R165). -/
def clampHalf (h : Nat) : F32 :=
  let x := half h
  if isNan x || fneg? x then 0 else if isInf x then 0x477FE000 else x

/-- The four channels of a colour texel, normalised (R165, R214, Table 2.8). -/
def texelChannels (fmt bits : Nat) : List F32 :=
  match fmt with
  | 1 => (List.range 4).map (fun i => fdiv (ofInt (bitsOf bits (8 * i + 7) (8 * i) : Nat)) 0x437F0000)
  | 2 => [fdiv (ofInt (bitsOf bits 9 0 : Nat)) 0x447FC000, fdiv (ofInt (bitsOf bits 19 10 : Nat)) 0x447FC000,
      fdiv (ofInt (bitsOf bits 29 20 : Nat)) 0x447FC000, fdiv (ofInt (bitsOf bits 31 30 : Nat)) 0x40400000]
  | _ => (List.range 3).map (fun i => clampHalf (bitsOf bits (16 * i + 15) (16 * i))) ++
      [fmin (clampHalf (bitsOf bits 63 48)) 0x3F800000]

/-- A texel as a premultiplied sample in linear light (R165). -/
def RayView.texel (w : RayView) (t : TexVer) (k x y : Nat) : Sample :=
  let c := texelChannels t.fmt (t.texel k x y)
  let a := c.getD 3 0
  let ch (i : Nat) : F32 := fmul (w.decode (c.getD i 0)) a
  { c := { r := ch 0, g := ch 1, b := ch 2 }, a := a }

/-- The height of a relief texel (R160). -/
def texelHeight (t : TexVer) (k x y : Nat) : F32 :=
  fdiv (ofInt (t.texel k x y : Nat)) (if t.fmt = 0x10 then 0x437F0000 else 0x477FFF00)

/-! ### Sampling -/

/-- Columns (or rows) of the two taps and the weight of the second, 0 to 255 (R164). -/
def taps (u size : Nat) : Nat × Nat × Nat :=
  let x : Int := (u * size : Nat) - (2 ^ 23 : Nat)
  let x0 := x / ((2 ^ 24 : Nat) : Int)
  let clampTo (v : Int) : Nat := (clampInt 0 ((size : Int) - 1) v).toNat
  (clampTo x0, clampTo (x0 + 1), (x % ((2 ^ 24 : Nat) : Int)).toNat / 2 ^ 16)

/-- Steps 3 to 5 of R164 for samples. -/
def blend4 (wx wy : Nat) (t00 t10 t01 t11 : Sample) : Sample :=
  let k (n : Nat) : F32 := ofInt (n : Nat)
  let r0 := (t00.scale (k (256 - wx))).add (t10.scale (k wx))
  let r1 := (t01.scale (k (256 - wx))).add (t11.scale (k wx))
  ((r0.scale (k (256 - wy))).add (r1.scale (k wy))).scale 0x37800000

/-- A bilinear sample of what a texture holds at (x, y) of level k (R164). -/
def bilinear (t : TexVer) (f : Nat → Nat → Sample) (k u v : Nat) : Sample :=
  let s := t.levelSize k
  let x := taps u s.1
  let y := taps v s.2
  blend4 x.2.2 y.2.2 (f x.1 y.1) (f x.2.1 y.1) (f x.1 y.2.1) (f x.2.1 y.2.1)

/-- Card coordinate in 24-bit units (R157). -/
def q24 (s : F32) : Nat :=
  (clampInt 0 (2 ^ 24 - 1) (if isNan s then Config.nanFloor else floorScaled s (2 ^ 24))).toNat

/-- Texture coordinates of card coordinates (s, t) (R157). -/
def texCoords (c : CardRec) (s t : F32) : Nat × Nat :=
  let f (q : Nat) (a b : Nat) : Nat := ((a : Int) + ((q : Int) * ((b : Int) - (a : Int))) / ((2 ^ 24 : Nat) : Int)).toNat
  (f (q24 s) (c.coord 0) (c.coord 2), f (q24 t) (c.coord 1) (c.coord 3))

/-- The level value of R163 turned into a level and the weight of the next, of `mips` levels; `none` is infinity. -/
def levelOf (l : Option Int) (mips : Nat) : Nat × Nat :=
  match l with
  | none => (mips - 1, 0)
  | some l =>
    if l ≤ 0 then (0, 0)
    else if 256 * ((mips : Int) - 1) ≤ l then (mips - 1, 0)
    else (l.toNat / 256, l.toNat % 256)

/-- The level value of a footprint length (R163); a length of 0 stands below every level. -/
def RayView.level (w : RayView) (len : F32) : Option Int :=
  if !isFinite len then none
  else if isZero len then some (-(2 ^ 20))
  else some (log2Scaled len + w.bias)

/-- The footprint length on a texture at depth z (R161, R162). -/
def RayView.footprint (w : RayView) (r : Ray) (k : Setup) (den z : F32) (t : TexVer) : F32 :=
  let fsx := if w.half then fmul 0x40000000 w.fsx else w.fsx
  let fx := fmax w.p (fmul (fabs z) fsx)
  let fy := fmax w.p (fmul (fabs z) w.fsy)
  let kk := dot k.sr r.dir
  let j := dot k.tr r.dir
  let d (a b n : F32) : F32 := fsub a (fdiv (fmul b n) den)
  let dsx := d k.sr.x kk k.n.x
  let dtx := d k.tr.x j k.n.x
  let dsy := d k.sr.y kk k.n.y
  let dty := d k.tr.y j k.n.y
  let size (a b n : Nat) : F32 := fdiv (fmul (ofInt ((a : Int) - (b : Int)).natAbs) (ofInt (n : Nat))) 0x4B800000
  let wu := size (k.card.coord 2) (k.card.coord 0) t.width
  let hv := size (k.card.coord 3) (k.card.coord 1) t.height
  let len (f a b : F32) : F32 :=
    let p := fmul a wu
    let q := fmul b hv
    fmul f (fsqrt (fadd (fmul p p) (fmul q q)))
  let la := len fx dsx dtx
  let lb := len fy dsy dty
  if isNan la || isNan lb then fnan else fmax la lb

/-- The filtered colour of a texture at (u, v) and a level value (R163). -/
def RayView.colourSample (w : RayView) (t : TexVer) (l : Option Int) (uv : Nat × Nat) : Sample :=
  let kw := levelOf l t.mips
  let at_ (k : Nat) : Sample := bilinear t (w.texel t k) k uv.1 uv.2
  if kw.2 = 0 && (kw.1 = 0 || kw.1 = t.mips - 1) then at_ kw.1
  else
    let f (n : Nat) (s : Sample) : Sample := (s.scale (ofInt (n : Nat))).scale 0x3B800000
    (f (256 - kw.2) (at_ kw.1)).add (f kw.2 (at_ (kw.1 + 1)))

/-! ### Meeting a card -/

/-- P at depth λ along the ray (R156). -/
def Ray.point (r : Ray) (l : F32) : V3 := { x := fadd r.hx (fmul l r.sx), y := fadd r.hy (fmul l r.sy), z := l }

/-- Card coordinates at depth λ (R156 steps 3 and 4). -/
def Setup.coords (k : Setup) (r : Ray) (l : F32) : F32 × F32 :=
  let q := vsub (r.point l) k.o
  (dot k.sr q, dot k.tr q)

/-- 0 ≤ s < 1 for both coordinates. -/
def onCard (st : F32 × F32) : Bool := fle 0 st.1 && flt st.1 0x3F800000 && fle 0 st.2 && flt st.2 0x3F800000

/-- The textures that a strip was issued with (R148). -/
abbrev TexSet := List TexVer

/-- The height of the surface at depth λ (R159). -/
def reliefHeight (k : Setup) (t : TexVer) (lev : Nat) (r : Ray) (l : F32) : F32 :=
  let st := k.coords r l
  let uv := texCoords k.card st.1 st.2
  (bilinear t (fun x y => { c := {}, a := texelHeight t lev x y }) lev uv.1 uv.2).a

/-- The fixed steps of R159 from step k of 4: (a, b). -/
def fixedSteps (below : F32 → Bool) : Nat → Nat → F32 → F32 × F32
  | 0, _, a => (a, 0x3F800000)
  | n + 1, k, a =>
    let f := fmul (ofInt (k : Nat)) 0x3E800000
    if below f then (a, f) else fixedSteps below n (k + 1) f

/-- The refinement steps of R159. -/
def refineSteps (below : F32 → Bool) : Nat → F32 × F32 → F32 × F32
  | 0, ab => ab
  | n + 1, ab =>
    let m := fmul (fadd ab.1 ab.2) 0x3F000000
    refineSteps below n (if below m then (ab.1, m) else (m, ab.2))

/-- A hit: depth, colour and alpha, in the list order it was found. -/
structure Hit where
  z : F32
  s : Sample
  deriving DecidableEq, Repr

/-- The hit of a ray on a card, if it meets it (R156 to R166). -/
def RayView.meets (w : RayView) (texs : TexSet) (r : Ray) (k : Setup) : Option Hit :=
  let den := dot k.n r.dir
  if isZero den || !isFinite den || (fneg? den && !k.card.twoSided) then none
  else
    let num := dot k.n (vsub k.o { x := r.hx, y := r.hy, z := 0 })
    let l0 := fdiv num den
    let st0 := k.coords r l0
    if !isFinite l0 || !onCard st0 then none
    else
      let at_ : Option (F32 × (F32 × F32)) :=
        if k.card.isRelief && !fneg? den then
          match texs.find? (fun t => t.id == k.card.relTex) with
          | none => none
          | some rt =>
            let kn := fdiv den (fsqrt k.q)
            let span := fdiv k.card.relDepth kn
            let lev := (levelOf (w.level (w.footprint r k den l0 rt)) rt.mips).1
            let down (f : F32) : F32 := fsub l0 (fmul f span)
            let below (f : F32) : Bool := fle (reliefHeight k rt lev r (down f)) f
            let ab := refineSteps below 4 (fixedSteps below 4 1 0)
            let l := down (fmul (fadd ab.1 ab.2) 0x3F000000)
            let st := k.coords r l
            if flt st.1 0 || fle 0x3F800000 st.1 || flt st.2 0 || fle 0x3F800000 st.2 then none else some (l, st)
        else some (l0, st0)
      match at_, texs.find? (fun t => t.id == k.card.tex) with
      | some (l, st), some t =>
        let c := w.colourSample t (w.level (w.footprint r k den l t)) (texCoords k.card st.1 st.2)
        some { z := l, s := c.scale (fdiv (ofInt (k.card.opacity : Nat)) 0x477FFF00) }
      | _, _ => none

/-! ### Compositing -/

/-- Insert a hit: greatest depth first, equal depths in list order (R167). -/
def insertHit (h : Hit) : List Hit → List Hit
  | [] => [h]
  | x :: l => if flt x.z h.z then h :: x :: l else x :: insertHit h l

/-- Composite buffered hits in front of a key; the accumulator, what is left, and whether the ray is done (R167, R168). -/
def drainHits (key : Option F32) : List Hit → Sample → Sample × List Hit × Bool
  | [], acc => (acc, [], false)
  | h :: rest, acc =>
    if (match key with | none => true | some k => flt k h.z) then
      let acc' := acc.add (h.s.scale (fsub 0x3F800000 acc.a))
      if fle 0x3F7F7CEE acc'.a then (acc', rest, true) else drainHits key rest acc'
    else (acc, h :: rest, false)

/-- The compositing loop of R167 over a bin list. -/
def RayView.composite (w : RayView) (texs : TexSet) (r : Ray) : List Setup → List Hit → Sample → Sample
  | [], _, acc => acc
  | k :: rest, buf, acc =>
    let buf := match w.meets texs r k with
      | some h => insertHit h buf
      | none => buf
    let d := drainHits ((rest.head?).map (·.key)) buf acc
    if d.2.2 then d.1 else w.composite texs r rest d.2.1 d.1

/-- A channel in units of 1/64 cd/m² (R169). -/
def triple20 (x : F32) : Nat := min (2 ^ 20 - 1) (roundScaled x 64).toNat

/-- The 20-bit triple of a ray (R169). -/
def RayView.trace (w : RayView) (texs : TexSet) (list : List Setup) (r : Ray) : Nat × Nat × Nat :=
  let c := (w.composite texs r list [] {}).c
  (triple20 c.r, triple20 c.g, triple20 c.b)

/-- The direction table in use (R150, R583). -/
def State.dirAddr (s : State) : Nat :=
  match s.grv.dirChg.inUse with
  | [a, b] => a.toNat / 2 ^ 16 * 2 ^ 16 + b.toNat % 64 * 2 ^ 32
  | _ => 0

/-- A direction table entry (Table 5.2). -/
def State.dirEntry (s : State) (table i : Nat) : List F32 :=
  let a := table + 16 * i
  [s.word32 a, s.word32 (a + 4)] ++ (List.range 4).map (fun k => half (leNat (s.bytes (a + 8 + 2 * k) 2)))

/-- What the rays of frame n depend on in a state (R147). -/
def State.rayView (s : State) (n : Fsn) : RayView :=
  { pose := s.pose, p := s.effReg R.GRV_PITCH, fsx := s.effReg R.GRV_FP_SX, fsy := s.effReg R.GRV_FP_SY
    bias := signedOf 11 (s.effFld F.GRV_LOD_BIAS_BIAS), half := s.halfFan n
    pq := s.effFlag F.COL_CTRL_INPUT_TF, linScale := s.effReg R.COL_LIN_SCALE
    entry := fun b d => s.dirEntry s.dirAddr (b * 1024 + d) }

end Sys2Proof.Machine
end

