-- ==== Sys2Proof/Machine/Composite.lean ====
section
/-! DEFINITION. The layer compositor: pixels in linear light, static groups, planes and a ray through them (R234 to
R241, R253). -/

namespace Sys2Proof.Machine

def descX0 (d : List Word) : F32 := d.getD 9 0
def descY0 (d : List Word) : F32 := d.getD 10 0
def descQ (d : List Word) : F32 := d.getD 11 0
def descZ (d : List Word) : F32 := d.getD 12 0
/-- RANGE: full range (Table 8.1). -/
def descRange (d : List Word) : Bool := bitOf (dword d 0) 2

/-- Sample (i, j) of plane p (R236, Table 8.2). -/
def State.planeSample (s : State) (d : List Word) (p i j : Nat) : Nat :=
  let n := descBps d
  let v := leNat (s.bytes (descAddr d p + j * descPitch d p + i * n) n)
  if n = 2 then v % 1024 else v

/-- Clamp to [0, 1]. -/
def clamp01 (x : F32) : F32 := if flt x 0 then 0 else if flt 0x3F800000 x then 0x3F800000 else x

/-- R', G', B' and alpha of a pixel before clamping (R238 steps 1 and 2). -/
def State.pixelCoded (s : State) (d : List Word) (i j : Nat) : List F32 :=
  let f (n : Nat) : F32 := ofInt (n : Nat)
  match descFormat d with
  | 0 =>
    let v := s.planeSample d 0 i j
    let ch (lo : Nat) : F32 := fdiv (f (bitsOf v (lo + 7) lo)) 0x437F0000
    [ch 16, ch 8, ch 0, ch 24]
  | 1 =>
    let v := leNat (s.bytes (descAddr d 0 + j * descPitch d 0 + i * 4) 4)
    let ch (lo : Nat) : F32 := fdiv (f (bitsOf v (lo + 9) lo)) 0x447FC000
    [ch 20, ch 10, ch 0, fdiv (f (bitsOf v 31 30)) 0x40400000]
  | fm =>
    let c := descChroma d
    let n := if fm ≤ 4 then 8 else 10
    let k := 2 ^ (n - 8)
    let full := descRange d
    let y := s.planeSample d 0 i j
    let ch (p : Nat) : F32 :=
      let v : Int := s.planeSample d p (i / c.1) (j / c.2)
      fdiv (ofInt (v - (2 ^ (n - 1) : Nat))) (if full then f (2 ^ n - 1) else f (224 * k))
    let yy := if full then fdiv (f y) (f (2 ^ n - 1)) else fdiv (ofInt ((y : Int) - (16 * k : Nat))) (f (219 * k))
    let cb := ch 1
    let cr := ch 2
    [fadd yy (fmul 0x3FBCBFB1 cr), fsub (fsub yy (fmul 0x3E288095 cb)) (fmul 0x3F124431 cr),
      fadd yy (fmul 0x3FF0D1B7 cb), 0x3F800000]

/-- One pixel as premultiplied linear light (R238). -/
def State.layerPixel (s : State) (w : RayView) (d : List Word) (i j : Nat) : Sample :=
  let v := s.pixelCoded d i j
  let a := fmul (v.getD 3 0) (fdiv (ofInt (descGalpha d : Nat)) 0x437F0000)
  let ch (k : Nat) : F32 := fmul (w.decode (clamp01 (v.getD k 0))) a
  { c := { r := ch 0, g := ch 1, b := ch 2 }, a := a }

/-- One over another (R241). -/
def Sample.over (top bottom : Sample) : Sample := top.add (bottom.scale (fsub 0x3F800000 top.a))

/-- Two consecutive enabled layers belong to one static group (R240). -/
def sameGroup (a b : List Word) : Bool :=
  bitOf (dword a 0) 1 && bitOf (dword b 0) 1 && a.getD 1 0 == b.getD 1 0 &&
  feq (descX0 a) (descX0 b) && feq (descY0 a) (descY0 b) && feq (descQ a) (descQ b) && feq (descZ a) (descZ b)

/-- The composition planes of a layer set, each the layers of one plane, ascending (R240). -/
def planesOf : List (List Word) → List (List (List Word))
  | [] => []
  | d :: rest => match planesOf rest with
    | (e :: g) :: more => if sameGroup d e then (d :: e :: g) :: more else [d] :: (e :: g) :: more
    | more => [d] :: more

/-- The pixel of a plane (R238, R241). -/
def State.planePixel (s : State) (w : RayView) (g : List (List Word)) (i j : Nat) : Sample :=
  match g with
  | [d] => s.layerPixel w d i j
  | _ => g.foldl (fun acc d => (s.layerPixel w d i j).over acc) {}

/-- The sample of a plane at a ray's crossing (R239). -/
def State.planeAt (s : State) (w : RayView) (g : List (List Word)) (r : Ray) : Sample :=
  let d := g.headD []
  let px := fadd r.hx (fmul (descZ d) r.sx)
  let py := fadd r.hy (fmul (descZ d) r.sy)
  let u := fdiv (fsub px (descX0 d)) (descQ d)
  let v := fdiv (fsub (descY0 d) py) (descQ d)
  let split (u : F32) : Int × Nat :=
    let x := fsub u 0x3F000000
    let x0 := floorScaled x 1
    (x0, (floorScaled (fmul (fsub x (ofInt x0)) 0x43800000) 1).toNat)
  let x := split u
  let y := split v
  let tap (i j : Int) : Sample :=
    if 0 ≤ i && i < (descWidth d : Int) && 0 ≤ j && j < (descHeight d : Int) then s.planePixel w g i.toNat j.toNat else {}
  blend4 x.2 y.2 (tap x.1 y.1) (tap (x.1 + 1) y.1) (tap x.1 (y.1 + 1)) (tap (x.1 + 1) (y.1 + 1))

/-- The composited triple of a ray (R235): unchanged where no plane shows. -/
def State.compositeLayers (s : State) (w : RayView) (layers : List (List Word)) (r : Ray) (t : Nat × Nat × Nat) :
    Nat × Nat × Nat :=
  let f (n : Nat) : F32 := fdiv (ofInt (n : Nat)) 0x42800000
  let c := (planesOf (layers.filter descOn)).foldl (fun (l : Rgb) g =>
    let p := s.planeAt w g r
    p.c.add (l.scale (fsub 0x3F800000 p.a))) { r := f t.1, g := f t.2.1, b := f t.2.2 }
  (triple20 c.r, triple20 c.g, triple20 c.b)

/-- The background triple of the slate table (R252). -/
def State.slateBackground (s : State) : Nat × Nat × Nat :=
  let f (k : Nat) : Nat := (s.word32 (s.slateAddr + 4 * k)).toNat % 2 ^ 20
  (f 1, f 2, f 3)

/-! ### The check of a set (R237) -/

/-- A magnitude bound that a NaN or an infinity fails. -/
def absAtMost (x m : F32) : Bool := fle (fabs x) m

/-- The first word of an enabled descriptor that breaks R237. -/
def descFault (d : List Word) : Option Nat :=
  let wOk (n : Nat) : Bool := 2 ≤ n && n ≤ 2048
  let fm := descFormat d
  let planes := List.range (descPlanes d)
  let inDramPlane (p : Nat) : Bool := rangeInDram (descAddr d p) (descPitch d p * (planeSize d p).2)
  let pitchOk (p : Nat) : Bool :=
    descPitch d p % 64 == 0 && (planeSize d p).1 * descBps d ≤ descPitch d p && descPitch d p ≤ 16384
  let bad : Nat → Bool
    | 0 => 8 ≤ fm || dword d 0 &&& 0xFF00F0F8 != 0
    | 1 => !(wOk (descWidth d) && wOk (descHeight d)) || (fm != 4 && fm != 7 && 2 ≤ fm && descWidth d % 2 != 0) ||
        ((fm == 2 || fm == 5) && descHeight d % 2 != 0)
    | 2 => planes.any (fun p => p ≤ 1 && !pitchOk p)
    | 3 => dword d 3 % 256 != 0 || !inDramPlane 0
    | 4 => dword d 4 / 64 != 0
    | 5 => dword d 5 % 256 != 0 || (planes.contains 1 && !inDramPlane 1)
    | 6 => dword d 6 / 64 != 0
    | 7 => dword d 7 % 256 != 0 || (planes.contains 2 && !inDramPlane 2)
    | 8 => dword d 8 / 64 != 0
    | 9 => !absAtMost (descX0 d) 0x42C80000
    | 10 => !absAtMost (descY0 d) 0x42C80000
    | 11 => !(fle 0x3851B717 (descQ d) && fle (descQ d) 0x3D4CCCCD)
    | 12 => !absAtMost (descZ d) 0x41200000
    | k => dword d k != 0
  (List.range 16).find? bad

/-- The first offending layer and word of a set (R237, R243). -/
def setFault (ds : List (List Word)) : Option (Nat × Nat) :=
  ((ds.zipIdx.filter (fun p => descOn p.1)).filterMap (fun p => (descFault p.1).map (fun w => (p.2, w)))).head?

end Sys2Proof.Machine
end

