-- ==== Sys2Proof/Machine/Memory.lean ====
section
/-! DEFINITION. The memory commands (chapter 16): requests at the DMC, the line code at work, migration, refresh,
tracking, frequency change, SRAM ports and the SRAM test. -/

namespace Sys2Proof.Machine

/-! ### Requests -/

/-- No request is served while a failed frequency change holds every rank in self-refresh (R471). -/
def State.dmcDead (s : State) : Bool := s.dmc.changing && s.fld F.DMC_FAULT_CODE == 0x02

/-- One corrected error of a position (R461, R474): counted over an hour. -/
def countCorrected (c pos dev : Nat) (t : Time) : Prog :=
  .dyn (fun s =>
    let i := c * 3 + pos
    let l := t :: (s.dmc.ceHour.getD i []).filter (fun u => decide (t - u < 3600 * 1000000000 * 256))
    let limit := s.fld F.DMC_CE_LIMIT_LIMIT
    .block [
      .act (.dmc (fun d => { d with ceHour := d.ceHour.set i l, deviceErr := [(c, dev)] })),
      .count (F.DMC_CE_COUNT c) 1, .setFld (F.DMC_CE_DEVICE c) dev, .setFld (F.DMC_CE_POS c) pos,
      .when (s.flag F.DMC_CTRL_MIG_CE_EN && limit ≤ l.length && (s.dmc.mig.getD c none).map (·.fromPos) != some pos)
        (.seq (.act (.dmc (fun d => { d with ceHour := d.ceHour.set i [] }))) (startMigration c pos (some t)))])

/-- The corrected line is written back and no longer poisoned; one device of each channel counts (R461). -/
def correctLine (line : Nat) (got : List (List Nat)) (fixed : List (Nat × Nat × Nat)) (t : Time) : Prog :=
  .dyn (fun s =>
    let data := got.zipIdx.flatMap (fun p =>
      ((fixed.filter (fun f => f.1 == p.2)).foldl (fun w f => xorAt w f.2.1 f.2.2) p.1).take 16)
    let last (k : Nat) := ((fixed.map (fun f => symbolDevice f.2.1)).filter (fun d => d.1 == k)).getLast?
    let chan (k : Nat) := 2 * pairOf (line * 128) + k
    let told := match s.dmc.ceEvAt with | some u => decide (t - u < 1000000000 * 256) | none => false
    .block [
      .act (.mem (line * 128) (data.map (BitVec.ofNat 8))),
      .act (.dmc (fun d => { d with poison := d.poison.filter (· != line) })),
      .each [0, 1] (fun k => match last k with
        | some d => countCorrected (chan k) (s.rankPos (chan k) (rankOf (line * 128))) d.2 t
        | none => .nil),
      .when (!told) (.seq (.act (.dmc (fun d => { d with ceEvAt := some t }))) (.raiseAt 448 t))])

/-- The code words of a line that cannot be corrected. -/
def badWords (l : List Decoded) : List Nat := (l.zipIdx.filter (fun p => p.1 == .bad)).map (·.2)

/-- The symbols of a line to correct: code word, position, error. -/
def fixedWords (l : List Decoded) : List (Nat × Nat × Nat) :=
  l.zipIdx.filterMap (fun p => match p.1 with | .corrected pos err => some (p.2, pos, err) | _ => none)

/-- One line is read (R461, R462): decode eight code words, correct and write back, or report. -/
def readLine (src : Nat) (line : Nat) (errs : List SymbolError) (t : Time) : Prog :=
  .dyn (fun s =>
    let dec := s.decodeLine line errs
    if !(badWords dec).isEmpty then uncorrectable line src (((badWords dec).map (fun j => 2 ^ j)).sum) (some t)
    else .when (!(fixedWords dec).isEmpty)
      (correctLine line ((List.range 8).map (s.wordRead line errs)) (fixedWords dec) t))

/-- Errors of one line of a request that starts at `first`: code words count on from line to line. -/
def errsOf (errs : List SymbolError) (i : Nat) : List SymbolError :=
  (errs.filter (fun e => e.codeword / 8 == i)).map (fun e => { e with codeword := e.codeword % 8 })

/-- Some code word of a line is uncorrectable. -/
def State.lineFails (s : State) (line : Nat) (errs : List SymbolError) : Bool :=
  !(badWords (s.decodeLine line errs)).isEmpty

/-- What the requester makes of poison by its own rule (R462): the blitter's running operation ends with BLT_E_BUS, the
destination written as far as an open value says (R261); the Thicket job that reads the line stops there (R107). A core
takes the error as its answer; the groves' poison is STRIP_COMPLETE's, the aperture's is judged at GO. -/
def poisonTaken (src line : Nat) : Prog :=
  if src = 0x10 then .withFree (fun w => .act (.lyr (fun l => { l with blt := l.blt.map (fun b =>
    if b.code = 0 then { code := 0x07, todo := b.todo.take (w.toNat % (b.todo.length + 1)) } else b) })))
  else if src = 0x11 then .act (.thk (fun t => { t with jobs := t.jobs.map (fun j =>
    if j.channel.isSome && j.queue != 0 && (linesOf j.desc.src j.desc.srcLen).contains line then
      { j with badLines := j.badLines ++ [line] } else j) }))
  else .nil

/-- Lines of DRAM are read; what fails is the requester's (R461, R462). -/
def readLines (src : Nat) (ls : List (Nat × Nat)) (errs : List SymbolError) (t : Time) : Prog :=
  .dyn (fun s => .each ls (fun p => .seq (readLine src p.1 (errsOf errs p.2) t)
    (.when (s.lineFails p.1 (errsOf errs p.2)) (poisonTaken src p.1))))

/-- Some line is uncorrectable. -/
def State.anyFails (s : State) (ls : List (Nat × Nat)) (errs : List SymbolError) : Bool :=
  ls.any (fun p => s.lineFails p.1 (errsOf errs p.2))

/-- A read of DRAM: every line is decoded; the answer is an error when one is uncorrectable (R461, R462). -/
def dramRead (src addr len : Nat) (errs : List SymbolError) (t : Time) : Prog :=
  .dyn (fun s =>
    let ls := (linesOf addr len).zipIdx
    .block [
      readLines src ls errs t,
      .dyn (fun r => .act (.bus { data := if s.anyFails ls errs then [] else wordsOf (r.bytes addr len)
                                  error := s.anyFails ls errs }))])

/-! ### The L2 (R484) -/

/-- The source is an application core (Table 16.3). -/
def isCore (src : Nat) : Bool := src < 8

/-- Blocks of 64 bytes that a range touches; at least the one of its first byte. -/
def blocksOf (a n : Nat) : List Nat := (List.range ((a + (n - 1)) / 64 + 1 - a / 64)).map (· + a / 64)

/-- The L2 holds a block. -/
def State.l2Holds (s : State) (b : Nat) : Bool := s.ctl.l2.any (fun x => x.block == b)

/-- What an application core sees at an address: the L2's byte where it holds the block, else memory's. -/
def State.coreByte (s : State) (a : Nat) : Byte :=
  match s.ctl.l2.find? (fun x => x.block == a / 64) with
  | some x => x.data.getD (a % 64) 0
  | none => Memory.read s.mem a

/-- Change the blocks of the L2. -/
def modL2 (f : List L2Block → List L2Block) : Prog := .act (.ctl (fun c => { c with l2 := f c.l2 }))

/-- Blocks not held are read from memory; after an uncorrectable line none is taken and the core gets a bus error. -/
def l2Fill (src : Nat) (blocks : List Nat) (errs : List SymbolError) (t : Time) (p : Prog) : Prog :=
  .dyn (fun s =>
    let missing := blocks.filter (fun b => !s.l2Holds b)
    let lines := (missing.map (· / 2)).eraseDups
    let first := (blocks.head?.getD 0) / 2
    let ls := lines.map (fun l => (l, l - first))
    .seq (readLines src ls errs t)
      (if s.anyFails ls errs then .act (.bus { data := [], error := true })
       else .seq (.dyn (fun r => modL2 (fun l => l ++ missing.map (fun b =>
          ({ block := b, data := r.bytes (b * 64) 64 } : L2Block))))) p))

/-- A load of an application core. -/
def coreLoad (src a n : Nat) (op : L2Op) (errs : List SymbolError) (t : Time) : Prog :=
  .seq (.when (op == .invalidate) (modL2 (fun l => l.filter (fun x => !(blocksOf a n).contains x.block))))
    (l2Fill src (blocksOf a n) errs t
      (.dyn (fun s => .act (.bus { data := wordsOf ((List.range n).map (fun k => s.coreByte (a + k))), error := false }))))

/-- A block's bytes with those of a store. -/
def L2Block.store (x : L2Block) (a : Nat) (data : List Byte) : L2Block :=
  if (blocksOf a data.length).contains x.block && !data.isEmpty then
    { x with
      dirty := true
      data := x.data.zipIdx.map (fun p =>
        let at_ := x.block * 64 + p.2
        if a ≤ at_ && at_ < a + data.length then data.getD (at_ - a) 0 else p.1) }
  else x

/-- A store of an application core; a clean writes its lines to memory, where the other sources see them. -/
def coreStore (src a : Nat) (data : List Byte) (op : L2Op) (t : Time) : Prog :=
  l2Fill src (if data.isEmpty then [] else blocksOf a data.length) [] t (.block [
    modL2 (fun l => l.map (fun x => x.store a data)),
    .when (op == .clean) (.dyn (fun s => .block [
      .each (s.ctl.l2.filter (fun x => x.dirty && (blocksOf a data.length).contains x.block))
        (fun x => memWrite src (x.block * 64) x.data),
      modL2 (fun l => l.map (fun x =>
        if (blocksOf a data.length).contains x.block then { x with dirty := false } else x))]))])

/-! ### Ports and arbitration (R465 to R468) -/

/-- Port of a source (Table 16.3): RT, ING, CPX, SYS. -/
def portOf (src : Nat) : Nat :=
  if src = 0x20 || src = 0x21 then 0
  else if src = 0x10 || src = 0x11 || src = 0x16 then 1
  else if src < 0x0C then 2 else 3

/-- Bytes that a request touches. -/
def DmcReq.size (r : DmcReq) : Nat := match r.data with | some d => d.length | none => r.len

/-- A channel has served a port: it ranks last among the non-RT ports (R467). -/
def grantPort (c port : Nat) : Prog :=
  .act (.dmc (fun d => { d with lastGrant := modAt d.lastGrant c (fun l => l.filter (· != port) ++ [port]) }))

/-- The channels that a request uses: both of each pair its lines lie in (R457). -/
def DmcReq.channels (r : DmcReq) : List Nat :=
  ((linesOf r.addr r.size).flatMap (fun l => [2 * pairOf (l * 128), 2 * pairOf (l * 128) + 1])).eraseDups

/-- The request needs DRAM: not one that the L2 serves alone. -/
def State.reqNeedsDram (s : State) (r : DmcReq) : Bool :=
  inDram r.addr && r.size != 0 &&
  !(isCore r.src.toNat && r.op == .plain && (blocksOf r.addr r.size).all s.l2Holds)

/-- A request cannot issue now: the ports are held for a frequency change (R471), panic holds back all but the RT port
(R468), or a rank position that it reaches is being retrained (R473). -/
def State.reqBlocked (s : State) (r : DmcReq) : Bool :=
  s.reqNeedsDram r && (s.dmc.changing || (s.dmc.panicGroves != 0 && portOf r.src.toNat != 0) ||
    (linesOf r.addr r.size).any (fun l => s.dmc.retrain.any (fun p =>
      p.1 / 2 == pairOf (l * 128) && p.2 == s.rankPos p.1 (rankOf (l * 128)))))

/-- A request is served (R250, R461 to R463, R484). -/
def serveReq (r : DmcReq) : Prog :=
  .block [
    .guard (fun s => portOf r.src.toNat != 0 && s.reqNeedsDram r)
      (.each r.channels (fun c => grantPort c (portOf r.src.toNat))),
    match r.data with
    | some d =>
      if isCore r.src.toNat && inDram r.addr then coreStore r.src.toNat r.addr d r.op r.stamp
      else memWrite r.src.toNat r.addr d
    | none =>
      if isCore r.src.toNat then coreLoad r.src.toNat r.addr r.len r.op r.errs r.stamp
      else dramRead r.src.toNat r.addr r.len r.errs r.stamp]

/-- A request arrives: served, or waiting behind what holds it or behind an earlier one of its source (R466). -/
def dmcRequest (r : DmcReq) : Prog :=
  .dyn (fun s =>
    if s.reqBlocked r || s.dmc.held.any (fun x => x.src == r.src) then
      .act (.dmc (fun d => { d with held := d.held ++ [r] }))
    else serveReq r)

/-- Rank of a port on a channel: RT, then ports never granted by number, then the least recently granted (R467). -/
def State.portRank (s : State) (c port : Nat) : Nat :=
  if port = 0 then 0
  else match (s.dmc.lastGrant.getD c []).findIdx? (· == port) with
    | none => port
    | some i => 4 + i

/-- The waiting requests that could issue, with their places: those not blocked, the first of each source. -/
def State.readyReqs (s : State) : List (Nat × DmcReq) :=
  ((s.dmc.held.zipIdx.map (fun p => (p.2, p.1))).filter (fun p =>
    !s.reqBlocked p.2 && !(s.dmc.held.take p.1).any (fun x => x.src == p.2.src)))

/-- The request that the DMC serves next (R467): by the rank of its port on its channel, then by arrival. -/
def State.nextReq (s : State) : Option (Nat × DmcReq) :=
  s.readyReqs.foldl (fun b p => match b with
    | none => some p
    | some q =>
      let rank (x : Nat × DmcReq) : Nat := s.portRank (x.2.channels.head?.getD 0) (portOf x.2.src.toNat)
      if rank p < rank q then some p else some q) none

/-- Take a waiting request out and serve it. -/
def serveHeld (i : Nat) (r : DmcReq) : Prog :=
  .seq (.act (.dmc (fun d => { d with held := d.held.eraseIdx i }))) (serveReq r)

/-- Serve what waits and can issue, in the order of the arbitration. -/
def drainReqs : Nat → Prog
  | 0 => .nil
  | k + 1 => .dyn (fun s => match s.nextReq with
    | none => .nil
    | some p => .seq (serveHeld p.1 p.2) (drainReqs k))

/-- What held requests back may have ended. -/
def drainAll : Prog := .dyn (fun s => drainReqs s.dmc.held.length)

/-- DMC_WRITE_REQUEST (R250, R463, R466 to R468, R484). -/
def execDmcWriteRequest (src : Byte) (addr : Nat) (data : List Byte) (op : L2Op) (stamp : Time) (s : State) :
    Host.Outcome State Fault Refusal :=
  .next ((dmcRequest { src := src, addr := addr, data := some data, op := op, stamp := stamp }).go s)

/-- DMC_READ_REQUEST (R461, R462, R466 to R468, R484). -/
def execDmcReadRequest (src : Byte) (addr len : Nat) (op : L2Op) (errs : List SymbolError) (stamp : Time) (s : State) :
    Host.Outcome State Fault Refusal :=
  .next ((Prog.guard (fun _ => rangeInDram addr len && len != 0)
    (dmcRequest { src := src, addr := addr, len := len, op := op, errs := errs, stamp := stamp })).go s)

/-- SCRUB_READ (R464). -/
def execScrubRead (addr : Nat) (errs : List SymbolError) (stamp : Time) (s : State) : Host.Outcome State Fault Refusal :=
  .next ((Prog.guard (fun s => s.flag F.DMC_CTRL_SCRUB_EN && !s.dmc.changing && s.dmc.panicGroves == 0) (readLine 0x1F (addr / 128) errs stamp)).go s)

/-! ### Migration -/

/-- A line that a migration's copy could not read is written to the spare poisoned; the read is reported as every
uncorrectable read is (R462, R463, R475). -/
def copyPoisoned (line : Nat) : Prog :=
  .seq (reportUe line 0x1F 0x05 0xFF none)
    (.act (.dmc (fun d => { d with poison := (d.poison.filter (· != line)) ++ [line] })))

/-- MIGRATION_DONE (R475): the spare takes the position's place, the position is retired; `bad` are the lines that the
copy found uncorrectable. LINES cannot hold the count of a whole position: an open value. -/
def execMigrationDone (channel : Nat) (bad : List Nat) (s : State) : Host.Outcome State Fault Refusal :=
  .next ((Prog.guard (fun s => s.dmc.panicGroves == 0) (.dyn (fun s =>
    match s.dmc.mig.getD channel none with
    | none => .nil
    | some m =>
      let spare := s.fld (F.DMC_RANKMAP_SPARE_POS channel)
      let here (l : Nat) : Bool := pairOf (l * 128) == channel / 2 && inDram (l * 128) &&
        s.rankPos channel (rankOf (l * 128)) == m.fromPos
      .block [
        .each (bad.filter here) copyPoisoned,
        if s.fld (F.DMC_RANKMAP_LR0_POS channel) = m.fromPos then .setFld (F.DMC_RANKMAP_LR0_POS channel) spare
        else .setFld (F.DMC_RANKMAP_LR1_POS channel) spare,
        .setFld (F.DMC_RANKMAP_SPARE_POS channel) 3,
        .setFld (F.DMC_RANKMAP_RETIRED channel) (s.fld (F.DMC_RANKMAP_RETIRED channel) ||| 2 ^ m.fromPos),
        .act (.dmc (fun d => { d with mig := d.mig.set channel none })),
        .act (.nvm (fun n => { n with retired := n.retired ++ [(channel, m.fromPos)] })),
        .setFld (F.DMC_MIG_ACTIVE channel) 0, .withFree (fun w => .setFld (F.DMC_MIG_LINES channel) w.toNat),
        .setFld F.DMC_STATUS_MIG (s.fld F.DMC_STATUS_MIG &&& (15 - 2 ^ channel)), .raise 451]))).go s)

/-- RANK_RETRAINING_DONE (R473, R474, R476). -/
def execRankRetrainingDone (channel pos : Nat) (ok caOk : Bool) (stamp : Time) (s : State) :
    Host.Outcome State Fault Refusal :=
  .next ((Prog.guard (fun s => s.dmc.retrain.contains (channel, pos)) (.block [
    .act (.dmc (fun d => { d with
      retrain := d.retrain.filter (· != (channel, pos)), dqs := d.dqs.zipIdx.map (fun p => if p.2 / 10 = channel * 3 + pos then 0 else p.1) })),
    .dyn (fun s =>
      if !caOk then dmcFault 0x01
      else if ok then .nil
      else if s.fld (F.DMC_RANKMAP_SPARE_POS channel) = pos then dmcFault 0x04
      else .when ((s.dmc.mig.getD channel none).map (·.fromPos) != some pos) (startMigration channel pos (some stamp))),
    drainAll])).go s)

/-! ### Refresh, panic, tracking -/

/-- REFRESH_DUE (R469, R470). -/
def execRefreshDue (channel pos : Nat) (rtQueued : Bool) (s : State) : Host.Outcome State Fault Refusal :=
  .next ((Prog.guard (fun s => !bitOf (s.fld (F.DMC_RANKMAP_RETIRED channel)) pos) (.dyn (fun s =>
    let i := channel * 3 + pos
    let n := s.dmc.owed.getD i 0 + 1
    if !rtQueued then .act (.dmc (fun d => { d with owed := d.owed.set i 0 }))
    else if 5 ≤ n then .seq (.act (.dmc (fun d => { d with owed := d.owed.set i 4 }))) (.count F.DMC_REF_PREEMPT_COUNT 1)
    else .act (.dmc (fun d => { d with owed := d.owed.set i n }))))).go s)

/-- The oldest waiting request of a port on a channel that would issue but for panic (R468). -/
def State.starving (s : State) (c port : Nat) : Option (Nat × DmcReq) :=
  (s.dmc.held.zipIdx.map (fun p => (p.2, p.1))).find? (fun p =>
    portOf p.2.src.toNat == port && p.2.channels.contains c &&
    !(s.dmc.held.take p.1).any (fun x => x.src == p.2.src) &&
    !({ s with dmc := { s.dmc with panicGroves := 0 } } : State).reqBlocked p.2)

/-- STARVE_ISSUE (R468): while panic is asserted, one non-RT request of a port that has waited DMC_STARVE is issued; the
port's wait then starts again. -/
def execStarveIssue (channel port : Nat) (stamp : Time) (s : State) : Host.Outcome State Fault Refusal :=
  .next ((Prog.guard (fun s => s.dmc.panicGroves != 0 && 1 ≤ port && port ≤ 3) (.dyn (fun s =>
    match s.starving channel port with
    | none => .nil
    | some p =>
      let k := channel * 4 + port
      let since := match s.dmc.starve.lookup k with
        | some t => max t p.2.stamp
        | none => p.2.stamp
      .when (decide (since + (s.fld F.DMC_STARVE_NS * 256 : Nat) ≤ stamp)) (.seq
        (.act (.dmc (fun d => { d with starve := putKey k stamp d.starve }))) (serveHeld p.1 p.2))))).go s)

/-- The channel's last MR4 report is above 85 C: refresh-rate codes 3 and up (R469, log entry 20). -/
def mr4Above (code : BitVec 3) : Bool := 3 ≤ code.toNat

/-- MR4_READ (R469). -/
def execMr4Read (channel : Nat) (mr4 : BitVec 3) (s : State) : Host.Outcome State Fault Refusal :=
  .next ((Prog.block [
    .setFld (F.DMC_TEMP_MR4 channel) mr4.toNat, .setFlag (F.DMC_TEMP_HOT channel) (mr4Above mr4),
    .act (.dmc (fun d => { d with
      mr4Hot := if mr4Above mr4 then d.mr4Hot ||| (1#4 <<< channel) else d.mr4Hot &&& ~~~(1#4 <<< channel) }))]).go s)

/-- DQS_TRACK (R473): at most 1/64 UI per step; beyond 1/4 UI since the last full training the position retrains. -/
def execDqsTrack (channel pos device : Nat) (step : Int) (s : State) : Host.Outcome State Fault Refusal :=
  .next ((Prog.dyn (fun s =>
    let i := (channel * 3 + pos) * 10 + device
    let d := s.dmc.dqs.getD i 0 + clampInt (-1) 1 step
    .act (.dmc (fun x => { x with
      dqs := x.dqs.set i d
      retrain := if 16 < d.natAbs && !x.retrain.contains (channel, pos) then x.retrain ++ [(channel, pos)]
        else x.retrain })))).go s)

/-- ZQ_CALIBRATION (R473): no other state of the block changes. -/
def execZqCalibration (_channel : Nat) (s : State) : Host.Outcome State Fault Refusal :=
  .next ((Prog.act (.dmc (fun d => { d with zqCount := d.zqCount + 1 }))).go s)

/-! ### Frequency change (R471) -/

/-- A write of DMC_FREQ.TARGET: discarded while a change is pending or runs. -/
def freqRequest (target : Bool) : Prog :=
  .guard (fun s => !s.flag F.DMC_STATUS_CHANGING) (.dyn (fun s => .block [
    .setFlag F.DMC_FREQ_TARGET target,
    .when (s.flag F.DMC_STATUS_FREQ != target) (.block [
      .act (.dmc (fun d => { d with change := some target })), .setFld F.DMC_STATUS_CHANGING 1])]))

/-- FREQ_CHANGE_REQUEST (R471). -/
def execFreqChangeRequest (target : Bool) (s : State) : Host.Outcome State Fault Refusal :=
  .next ((freqRequest target).go s)

/-- A fill has active lines unsent (R275, R471). -/
def State.linesUnsent (s : State) : Bool := s.pdl.fills.any (fun f => f.nextLine < 32 || !f.resend.isEmpty)

/-- The next opening V of a fill (R187, R274): of frame S + 2 while its SPEC_START lies ahead, else of frame S + 3. -/
def State.nextV (s : State) : Time :=
  match s.ing.epochs.find? (fun e => e.fsn == s.S + 2) with
  | some e => if e.specStarted then s.specStart (s.S + 3) else s.specStart (s.S + 2)
  | none => s.specStart (s.S + 2)

/-- FREQ_CHANGE_START (R471): every owed refresh is issued and the ports are held. -/
def execFreqChangeStart (stamp : Time) (s : State) : Host.Outcome State Fault Refusal :=
  .next ((Prog.guard (fun s => s.dmc.change.isSome && !s.dmc.changing && !s.linesUnsent &&
      decide (stamp + 1000000 * 256 ≤ s.nextV))
    (.act (.dmc (fun d => { d with changing := true, owed := d.owed.map (fun _ => 0) })))).go s)

/-- FREQ_CHANGE_DONE (R471). -/
def execFreqChangeDone (trained : Bool) (stamp : Time) (s : State) : Host.Outcome State Fault Refusal :=
  .next ((Prog.guard (fun s => s.dmc.changing) (.dyn (fun s =>
    if trained then
      let b := s.dmc.change.getD false
      .block [.setFlag F.DMC_STATUS_FREQ b, .setFlag F.DMC_FREQ_SET b, .setFld F.DMC_STATUS_CHANGING 0,
        .act (.dmc (fun d => { d with
          change := none, changing := false, retrain := [], dqs := d.dqs.map (fun _ => 0) })),
        .raiseAt 452 stamp, drainAll]
    else dmcFault 0x02))).go s)

/-! ### On-chip SRAM -/

/-- The word of an access. -/
def wordOf (x : SramAccess) : Nat := x.addr / 8

/-- One access of a port proceeds: a write stores, a read answers the system port. Bit errors of the word read are
corrected, or put the node into FAULT (R477, R480). -/
def sramRun (systemPort : Bool) (x : SramAccess) (t : Time) : Prog :=
  if x.write then .act (.mem (wordOf x * 8) (x.data.take 8))
  else .dyn (fun s =>
    let told := match s.sram.ceEvAt with | some u => decide (t - u < 1000000000 * 256) | none => false
    .block [
      .when (x.flips == 1) (.block [.count F.MEM_CE_COUNT_COUNT 1,
        .when (!told) (.seq (.act (.sram (fun m => { m with ceEvAt := some t }))) (.raiseAt 466 t))]),
      .when (2 ≤ x.flips) (memFault 0x10 (BitVec.ofNat 32 (wordOf x * 8))),
      .when systemPort (.act (.bus { data := wordsOf (s.bytes (wordOf x * 8) 8), error := false }))])

/-- A collision is counted and told (R478). -/
def collide (word kind src event : Nat) (t : Time) : Prog :=
  .dyn (fun s => .block [
    .when (s.fld F.MEM_COLLIDE_COUNT_COUNT == 0) (.block [
      .setReg R.MEM_COLLIDE_LO (BitVec.ofNat 32 (word * 8)), .setFld F.MEM_COLLIDE_HI_ADDR_HI (word * 8 / 2 ^ 32),
      .setFld F.MEM_COLLIDE_HI_KIND kind, .setFld F.MEM_COLLIDE_HI_SRC src]),
    .count F.MEM_COLLIDE_COUNT_COUNT 1, .raiseAt event t])

/-- The error response of the system port. -/
def sramError : Prog := .act (.bus { data := [], error := true })

/-- Accesses issued in one cycle (R477 to R479). -/
def sramCycle (a b : Option SramAccess) (src : Nat) (t : Time) : Prog :=
  match a, b with
  | none, none => .nil
  | some x, none => sramRun false x t
  | none, some y => sramRun true y t
  | some x, some y =>
    if wordOf x ≠ wordOf y || (!x.write && !y.write) then .seq (sramRun false x t) (sramRun true y t)
    else if x.write && y.write then
      .seq (sramRun false x t) (.when (x.data.take 8 != y.data.take 8) (collide (wordOf x) 1 src 464 t))
    else .block [.when x.write (.seq (sramRun false x t) sramError), collide (wordOf x) 2 src 465 t]

/-- The word that a read of this cycle holds in the next. -/
def heldWord (x : Option SramAccess) : Option Nat := x.bind (fun y => if y.write then none else some (wordOf y))

/-- The accesses of one cycle beside the reads of the cycle before, which still hold their words: a write to such a word
by the other port is the later access and receives BUSY (R477, R478); port A repeats it in its next cycle. -/
def sramAccess (a b : Option SramAccess) (follows : Bool) (src : Nat) (t : Time) : Prog :=
  .dyn (fun s =>
    let turns := s.sram.again ++ a.toList
    let hit (x : Option SramAccess) (held : Option Nat) : Bool :=
      follows && (match x with | some y => y.write && held == some (wordOf y) | none => false)
    let x := turns.head?
    let hitA := hit x s.sram.readB
    let hitB := hit b s.sram.readA
    .block [
      .when hitA (match x with | some y => .seq sramError (collide (wordOf y) 2 src 465 t) | none => .nil),
      .when hitB (match b with | some y => collide (wordOf y) 2 src 465 t | none => .nil),
      sramCycle (if hitA then none else x) (if hitB then none else b) src t,
      .act (.sram (fun m => { m with
        again := if hitA then turns else turns.drop 1
        readA := if hitA then none else heldWord x
        readB := heldWord b }))])

/-- SRAM_PORT_ACCESS (R477 to R480): the accesses of one cycle, and whether it follows the cycle of the accesses before
at once; an address without SRAM is not reached. -/
def execSramPortAccess (a b : Option SramAccess) (follows : Bool) (src : Byte) (stamp : Time) (s : State) :
    Host.Outcome State Fault Refusal :=
  let ok (x : Option SramAccess) := x.filter (fun y => inGroveSram y.addr || inStagingSram y.addr)
  .next ((sramAccess (ok a) (ok b) follows src.toNat stamp).go s)

/-- 64-bit words of Table 16.5. -/
def sramWords : Nat := 8 * 10 * 2 ^ 17 + 24 * 2 ^ 17 + 16 * 2 ^ 17

/-- Address bits 31:0 of a word of the test's round; an L2 word has none. -/
def sramWordAddr (w : Nat) : Option Nat :=
  if w < 8 * 10 * 2 ^ 17 then some (w / (10 * 2 ^ 17) * 0x1000000 + w % (10 * 2 ^ 17) * 8)
  else if w < 8 * 10 * 2 ^ 17 + 24 * 2 ^ 17 then some (0x10000000 + (w - 8 * 10 * 2 ^ 17) * 8) else none

/-- SRAM_TEST_STEP (R481): one word; a mismatch puts the node into FAULT. The address of an L2 word is open. -/
def execSramTestStep (ok : Bool) (s : State) : Host.Outcome State Fault Refusal :=
  .next ((Prog.guard (fun s => s.flag F.MEM_CTRL_TEST_EN) (.dyn (fun s =>
    if !ok then (match sramWordAddr s.sram.word with
      | some a => memFault 0x11 (BitVec.ofNat 32 a)
      | none => .withFree (fun w => memFault 0x11 w))
    else if s.sram.word + 1 = sramWords then
      .block [.act (.sram (fun m => { m with word := 0 })), .count F.MEM_TEST_ROUNDS_COUNT 1, .raise 467]
    else .act (.sram (fun m => { m with word := m.word + 1 }))))).go s)

end Sys2Proof.Machine
end

