-- ==== Sys2Proof/Machine/Epochs.lean ====
section
/-! DEFINITION. Epochs as shared programs: card and texture views, invalidation sets, reconciliation, errors, closing,
abandonment and rollback (R60 to R64, R91, R92, R131, R132, R136, R142, R175, R180 to R206). -/

namespace Sys2Proof.Machine

/-! ### Invalidation sets -/

/-- Every bin. -/
def allBins : BitVec 8192 := BitVec.allOnes 8192

/-- The bins of a set, ascending. -/
def binsOf (b : BitVec 8192) : List Nat := (List.range 8192).filter (fun i => b.getLsbD i)

/-- set_bits of R192: bits set, bins that do not wait already queued in ascending order (R142, R143); a synthesised
frame with a queued bin is so no longer (R193). -/
def Epoch.setBits (e : Epoch) (bins : BitVec 8192) : Epoch :=
  let q := e.queue ++ (binsOf bins).filter (fun b => !e.queue.contains b)
  { e with
    inval := e.inval ||| bins
    queue := q
    st := if e.st == .synthesised && !q.isEmpty then .closed else e.st }

/-- The card of a table with a CARD_ID. -/
def cardOf (l : List CardVer) (k : Nat) : Option CardVer := l.find? (fun c => c.card.id == k)

/-- The footprint of a card that may be absent. -/
def footOf (c : Option CardVer) : BitVec 8192 := match c with | some v => v.foot | none => 0

/-- compare of R192 (Table 4.3, R135). -/
def Epoch.compare (w : BinView) (e : Epoch) (k : Nat) : Epoch :=
  let p := cardOf e.pred k
  let a := cardOf e.cards k
  let keep := match p, a with
    | some p, some a => passesTolerance w p.card a.card
    | none, none => true
    | _, _ => false
  let e := if keep then e else e.setBits (footOf p ||| footOf a)
  { e with cmp := insertNat k e.cmp }

/-- What a set, removed or amended card does to the epoch's set (R192); `before` is its footprint before the change. -/
def Epoch.cardTouched (w : BinView) (e : Epoch) (k : Nat) (before : BitVec 8192) : Epoch :=
  let e := { e with cmp := e.cmp.filter (· != k) }
  if !e.specStarted then e
  else if e.predState == .none then e.setBits (before ||| footOf (cardOf e.cards k))
  else e.compare w k

/-- A card names a texture (Table 2.7). -/
def CardRec.names (c : CardRec) (t : Nat) : Bool := c.tex == t || (c.isRelief && c.relTex == t)

/-- What an updated texture does to the epoch's set (R192, Table 4.3). -/
def Epoch.texTouched (e : Epoch) (t : Nat) : Epoch :=
  if !e.specStarted then e
  else e.setBits ((e.cards.filter (fun c => c.card.names t)).foldl (fun b c => b ||| c.foot) 0)

/-! ### Card tables and texture directories -/

/-- Put a card version into a table of rising CARD_ID. -/
def putCard (v : CardVer) : List CardVer → List CardVer
  | [] => [v]
  | c :: l =>
    if v.card.id < c.card.id then v :: c :: l
    else if v.card.id == c.card.id then v :: l else c :: putCard v l

/-- Take a card out of a table. -/
def dropCard (k : Nat) (l : List CardVer) : List CardVer := l.filter (fun c => c.card.id != k)

/-- The texture of a directory with a TEX_ID. -/
def texOf (l : List TexVer) (t : Nat) : Option TexVer := l.find? (fun x => x.id == t)

/-- Put a texture into a directory of rising TEX_ID. -/
def putTex (v : TexVer) : List TexVer → List TexVer
  | [] => [v]
  | c :: l => if v.id < c.id then v :: c :: l else if v.id == c.id then v :: l else c :: putTex v l

/-- Take a texture out of a directory. -/
def dropTex (t : Nat) (l : List TexVer) : List TexVer := l.filter (fun x => x.id != t)

/-- One card of an epoch's table changes; `own` for a record of the frame itself (R131, R181, R182). -/
def Epoch.changeCard (w : BinView) (own : Bool) (k : Nat) (v : Option CardVer) (e : Epoch) : Epoch :=
  let before := footOf (cardOf e.cards k)
  let e := { e with
    cards := match v with
      | some c => putCard { c with own := own } e.cards
      | none => dropCard k e.cards
    gone := if own then (match v with
      | some _ => e.gone.filter (· != k)
      | none => insertNat k e.gone) else e.gone }
  e.cardTouched w k before

/-! ### Held frames -/

/-- Change one held frame. -/
def modEpoch (n : Fsn) (f : Epoch → Epoch) : Prog :=
  .act (.ing (fun g => { g with epochs := g.epochs.map (fun e => if e.fsn == n then f e else e) }))

/-- Make room for the errors of a frame that has no epoch (R56). -/
def needEpoch (n : Fsn) : Prog :=
  .dyn (fun s => if (s.epoch n).isSome then .nil
    else .act (.ing (fun g => { g with epochs := g.epochs ++ [{ fsn := n }] })))

/-- The view that a frame built on a base starts with: the base's, nothing of it its own (R60, R181). -/
def State.viewOf (s : State) (b : Option Fsn) : List CardVer × List TexVer :=
  match b.bind s.epoch with
  | some e => (e.cards.map (fun c => { c with own := false }), e.texs.map (fun t => { t with own := false, fresh := false }))
  | none => ([], [])

/-- Frames whose FRAME_OPEN or prediction rests on a frame (R190, R196, R197). -/
def State.builtOn (s : State) (n : Fsn) : List Fsn :=
  (s.ing.epochs.filter (fun e => e.fsn != n && ((e.opened && e.base == some n) ||
    (!e.opened && e.specStarted && e.specBase == some n)))).map (·.fsn)

/-- Held frames whose FRAME_OPEN named a frame as base (R61). -/
def State.dependents (s : State) (n : Fsn) : List Fsn :=
  (s.ing.epochs.filter (fun e => e.opened && e.base == some n)).map (·.fsn)

/-- Texture page versions that a held frame's view reaches (R203). -/
def State.livePages (s : State) : List Nat := (s.ing.epochs.flatMap (fun e => e.texs.flatMap (·.pages))).eraseDups

/-- Run a program; page versions that no view reaches afterwards are marked for reclamation (R203, R206). -/
def withReclaim (p : Prog) : Prog :=
  .dyn (fun s => .seq p (.dyn (fun t =>
    let live := t.livePages
    .act (.ing (fun g => { g with reclaim := g.reclaim + (s.livePages.filter (fun x => !live.contains x)).length })))))

/-! ### Fills, as far as errors reach them -/

/-- Bin of strip `i` of strip group (l, c), in issue order (R138, R139). -/
def stripBin (i : Nat) : Nat :=
  let k := i % 512
  let c := i / 512 % 16
  (k / 16 * 32 + k / 8 % 2 * 16 + c) * 8 + k % 8

/-- Hogel row of strip `i`. -/
def stripRow (i : Nat) : Nat := i % 512 / 16 * 32 + i / 512 / 16

/-- Strips in the released groups of a fill. -/
def Fill.ready (f : Fill) : Nat := f.released * 512

/-- Pass the strips at the front that are sent blank (R189, R190, R195). -/
def Fill.skipBlank : Nat → Fill → Fill
  | 0, f => f
  | n + 1, f =>
    if f.issued < f.ready && f.blankBins.getLsbD (stripBin f.issued) then
      Fill.skipBlank n { f with issued := f.issued + 1 } else f

/-- A fill after its front blank strips have been passed. -/
def Fill.advance (f : Fill) : Fill :=
  if f.blank then { f with issued := max f.issued f.ready } else Fill.skipBlank (f.ready - f.issued) f

/-- Change the fill of a frame (not a slate fill). -/
def modFill (n : Fsn) (f : Fill → Fill) : Prog :=
  .act (.pdl (fun p => { p with fills := p.fills.map (fun x => if x.fsn == n && !x.slate then f x else x) }))

/-- Issue number of the strip of a bin in a hogel row (R138, R139). -/
def stripIndex (bin row : Nat) : Nat :=
  let col := bin / 8 % 32
  (row % 32 * 16 + col % 16) * 512 + (bin / 256 * 16 + col / 16 * 8 + bin % 8)

/-- Strips finished or sent blank in group k of a fill: the group is complete (R140). -/
def Fill.groupComplete (f : Fill) (k : Nat) : Bool :=
  512 * (k + 1) ≤ f.issued && !f.pendingStrips.any (fun i => i / 512 == k)

/-- The fill of a frame. -/
def State.fillOf (s : State) (n : Fsn) : Option Fill := s.pdl.fills.find? (fun f => f.fsn == n && !f.slate)

/-- Panic of groves whose group is complete, or whose fill is gone, ends (R172); how many DMC cycles it lasted is an open
value (R468). -/
def panicCheck : Prog :=
  .dyn (fun s =>
    let keep := s.grv.panics.filter (fun p => match s.fillOf p.2.1 with
      | some f => !f.groupComplete p.2.2
      | none => false)
    .block [
      .act (.grv (fun g => { g with panics := keep })),
      .each (List.range 8) (fun g =>
        let on := keep.any (fun p => p.1 == g)
        .dyn (fun s =>
          let off := groveReg g 8
          .setReg off (putBits (s.reg off) 16 16 (boolNat on)))),
      .dyn (fun _ =>
        let b := (List.range 8).foldl (fun acc g => if keep.any (fun p => p.1 == g) then acc + 2 ^ g else acc) 0
        .block [
          .act (.dmc (fun d => { d with panicGroves := BitVec.ofNat 8 b })),
          .setFlag F.DMC_STATUS_PANIC (b != 0),
          .when (!s.grv.panics.isEmpty && b == 0) (.withFree (fun w => .count F.DMC_PANIC_CYCLES_COUNT w.toNat)),
          .when (b == 0) drainAll])])

/-- Every strip of the frame not yet issued is sent blank (R190, R195, R196, R198); a group may so be complete (R172). -/
def blankFill (n : Fsn) : Prog :=
  .block [modEpoch n (fun e => { e with fillBlank := true }), modFill n (fun f => { f with blank := true }.advance),
    panicCheck]

/-- A queue 0 job writes a texture of frame `d` (R116, R182). -/
def ThkJob.writes (j : ThkJob) (d : Fsn) : Bool := (j.takes && j.fsn == d) || j.frames.contains d

/-- Queue 0 jobs not yet ended for good, oldest first. -/
def State.q0Jobs (s : State) : List ThkJob := (s.thk.q0 ++ s.thk.jobs).filter (fun j => j.queue == 0 && !j.aborted)

/-- A texture of a frame waits for queue 0 jobs (R117). -/
def State.texBusy (s : State) (n : Fsn) (t : Nat) : Bool := s.q0Jobs.any (fun j => j.upd.tex == t && j.writes n)

/-- A card waits for a texture of a frame (R117). -/
def State.cardBusy (s : State) (n : Fsn) (c : CardRec) : Bool :=
  s.texBusy n c.tex || (c.isRelief && s.texBusy n c.relTex)

/-- The predicted lists of a frame are released once its set has closed and its fill has issued its last strip (R192,
R203). -/
def releasePred (n : Fsn) : Prog :=
  .dyn (fun s => match s.epoch n with
    | none => .nil
    | some e =>
      let issued := match s.fillOf n with | some f => f.blank || f.issued == 262144 | none => true
      .when (e.setClosed && e.specStarted && issued && e.predState != .none)
        (modEpoch n (fun e => { e with pred := [], predState := .none, cmp := [], predBlank := 0 })))

/-- A bin of the frame is being re-synthesised: its strips are being issued, or not all of its rows are staged (R175). -/
def State.resynthing (s : State) (n : Fsn) : Bool :=
  s.grv.works.any (fun w => w.fsn == n) || s.grv.handed.any (fun w => w.fsn == n && w.done != 32)

/-- The re-synthesis of a frame whose strips are not all issued is dropped: those on engines run to their end without
effect (R195, R198). -/
def dropWork (n : Fsn) : Prog := .act (.grv (fun g => { g with works := g.works.filter (fun w => w.fsn != n) }))

/-- Every strip of the frame's fill has been written to drive staging (R175). -/
def State.fillStaged (s : State) (n : Fsn) : Bool :=
  s.pdl.fills.any (fun f => f.fsn == n && !f.slate && f.issued == 262144 && f.pendingStrips.isEmpty)

/-- P(N) as the frame becomes synthesised: loaded, held for the demand, judged against the ceiling (R225, R228). -/
def loadPower (n : Fsn) : Prog :=
  .dyn (fun s =>
    let l := { s.latched n with power := some (s.latched n).powerOf }
    .block [
      modLatched n (fun _ => l),
      .setReg R.COL_POWER l.powerOf, .setReg R.COL_POWER_FSN n,
      .when l.overCeiling (.seq (.raise 259) (recordCause n 0x0205))])

/-- The frame becomes synthesised where R175 holds and no bin of it waits for a texture (R117, R200, Table 6.6). -/
def synthCheck (n : Fsn) : Prog :=
  .dyn (fun s => match s.epoch n with
    | none => .nil
    | some e =>
      .when (e.st == .closed && e.setClosed && e.queue.isEmpty && !s.resynthing n &&
          s.fillStaged n && !s.frozen && !e.cards.any (fun c => c.foot != 0 && s.cardBusy n c.card))
        (.block [modEpoch n (fun e => { e with st := .synthesised }), .setReg R.GRV_SYNTH_FSN n, .raise 224, loadPower n,
          tryVote]))

/-! ### SCENE_REPORT and errors -/

/-- The Glade header (Table 2.1). -/
def gladeHeader (type : Nat) (len : Nat) (fsn : Fsn) (stream seq : Nat) : List Byte :=
  leBytes 1 type ++ leBytes 1 1 ++ leBytes 2 len ++ leBytes 4 fsn.toNat ++ leBytes 2 stream ++ leBytes 2 seq ++ leBytes 4 0

/-- A SCENE_REPORT for frame N (R91, Table 2.13). PKT_SEQ, and COMMITTED_FSN while there is no C, are open values. -/
def sceneReport (n : Fsn) (decision : Nat) : Prog :=
  .dyn (fun s => match s.boundSource with
    | none => .nil
    | some src => .withFree (fun w => .withFree (fun c =>
      let e := (s.epoch n).getD { fsn := n }
      let vote := if s.node != .member then 2 else match s.voteFor n with
        | none => 3
        | some v => if v.ready then 0 else 1
      sendUnicast 2 1 src (gladeHeader 0x20 32 n (s.effFld F.ING_STREAM_STREAM_ID) (w.toNat % 65536) ++
        leBytes 1 decision ++ leBytes 1 vote ++ leBytes 1 e.err.code ++ leBytes 1 0 ++ leBytes 4 e.err.detail.toNat ++
        leBytes 4 e.err.count ++ leBytes 4 (s.ing.committed.getD c).toNat ++ leBytes 2 e.cards.length ++ leBytes 2 0 ++
        leBytes 4 e.pktCount ++ leBytes 4 e.digest.toNat ++ leBytes 4 0))))

/-- Where an error takes an epoch (Table 6.6). -/
def EpState.onError : EpState → EpState
  | .created => .error
  | .active => .error
  | .closed => .error
  | .synthesised => .error
  | x => x

/-- An error with a vote effect is recorded against a frame that is not decided (R64, R91, R92, R96, R195, R407, Table
2.18, Table 2.19). -/
def recordErr (n : Fsn) (code detail : Nat) : Prog :=
  .dyn (fun s => if !laterFsn n s.S then .nil else .block [
    needEpoch n,
    .dyn (fun s =>
      let first := ((s.epoch n).getD {}).err.count == 0
      .block [
        modEpoch n (fun e => { e with
          err := { code := if first then code else e.err.code
                   detail := if first then BitVec.ofNat 32 detail else e.err.detail
                   count := satAdd (2 ^ 32 - 1) e.err.count 1 }
          st := e.st.onError
          workStop := true }),
        blankFill n, dropWork n,
        .dyn (fun s =>
          let err := ((s.epoch n).getD {}).err
          .block [.setReg R.ING_ERR_FSN n, .setFld F.ING_ERR_INFO_DETAIL err.detail.toNat,
            .setFld F.ING_ERR_INFO_COUNT (min 255 err.count), .setFld F.ING_ERR_INFO_CODE err.code]),
        .when first (.raise 160),
        recordCause n (sceneReason code),
        .when first (sceneReport n 0)])])

/-! ### Changes that reach frames built on the changed one -/

/-- A record or an inherited change would overflow a bin (R132, Table 4.10, Table 4.11). -/
def binOverflow (n : Fsn) (bin card : Nat) : Prog :=
  .block [.setReg R.BIN_OVF_FSN n, .setFld F.BIN_OVF_INFO_CARD_ID card, .setFld F.BIN_OVF_INFO_BIN bin, .raise 208,
    recordErr n 0x14 bin]

/-- A card change of the base reaches a frame that has no record of that card (R132, R182). -/
def inheritCard (k : Nat) (v : Option CardVer) (d : Fsn) : Prog :=
  .dyn (fun s => match s.epoch d with
    | none => .nil
    | some e =>
      if e.gone.contains k || (cardOf e.cards k).any (·.own) then .nil
      else
        let w := s.binView
        let e' := e.changeCard w false k v
        match overfullBin e'.cards with
        | some b => binOverflow d b k
        | none => modEpoch d (fun e => e.changeCard w false k v))

/-- A card of frame N changes by its own record, and in the frames that follow it (R131, R182). -/
def changeCard (n : Fsn) (k : Nat) (v : Option CardVer) : Prog :=
  .dyn (fun s =>
    let w := s.binView
    .seq (modEpoch n (fun e => e.changeCard w true k v)) (.each (s.dependents n) (inheritCard k v)))

/-- A texture entry of frame N reaches the frames that follow it (R182); `updated` when texels changed. -/
def inheritTex (n : Fsn) (t : Nat) (updated : Bool) : Prog :=
  .dyn (fun s => .each (s.dependents n) (fun d => modEpoch d (fun e =>
    if e.texGone.contains t || (texOf e.texs t).any (·.own) then e
    else
      let e := { e with texs := match ((s.epoch n).map (·.texs)).bind (fun l => texOf l t) with
        | some x => putTex { x with own := false, fresh := false } e.texs
        | none => dropTex t e.texs }
      if updated then e.texTouched t else e)))

/-- A frame built on N follows N's view afresh: cards that leave first, then those that come or change, each in rising
CARD_ID; then textures (R182, R196). -/
def followBase (n d : Fsn) : Prog :=
  .dyn (fun s =>
    let view := s.viewOf (some n)
    let old := ((s.epoch d).getD {}).cards.filter (fun c => !c.own)
    let leave := (old.filter (fun c => (cardOf view.1 c.card.id).isNone)).map (·.card.id)
    let come := view.1.filter (fun c => match cardOf old c.card.id with
      | some o => !(o.card == c.card && o.last == c.last)
      | none => true)
    .block [
      .each leave (fun k => inheritCard k none d),
      .each come (fun c => inheritCard c.card.id (some c) d),
      modEpoch d (fun e => { e with
        texs := (e.texs.filter (·.own)) ++ view.2.filter (fun t =>
          !e.texGone.contains t.id && !(e.texs.any (fun x => x.own && x.id == t.id))) |>.foldl (fun l t => putTex t l) [] })])

/-! ### Closing the invalidation set -/

/-- The set closes (R137, R192): cards carried over are compared, the count is loaded. -/
def closeSet (n : Fsn) : Prog :=
  .dyn (fun s => match s.epoch n with
    | none => .nil
    | some e =>
      if e.setClosed then .nil else
        let w := s.binView
        let ids := ((e.pred.map (·.card.id)) ++ e.cards.map (·.card.id)).foldl (fun l k => insertNat k l) []
        let e' := if e.predState == .derived then
            (ids.filter (fun k => !e.cmp.contains k)).foldl (fun e k => e.compare w k) e else e
        .block [
          modEpoch n (fun _ => { e' with setClosed := true, st := if e'.st == .active then .closed else e'.st }),
          .setFld F.BIN_INVAL_COUNT_COUNT (binsOf e'.inval).length, .setReg R.BIN_INVAL_FSN n, .raise 209,
          releasePred n, synthCheck n])

/-- Frame N is complete under R67, and under R88 when LIVE_PENDING = 1 (R96, R137). -/
def frameComplete (n : Fsn) : Prog := .seq (.raise 161) (closeSet n)

/-- R190: predictions are gone, every bin is in the set, the fill goes blank. -/
def discardPred (n : Fsn) : Prog :=
  .seq (modEpoch n (fun e => { e with pred := [], predState := .none, cmp := [] }.setBits allBins)) (blankFill n)

/-- Every bin of a frame is queued anew, in ascending order (R196, R198). -/
def requeueAll (n : Fsn) : Prog :=
  .seq (modEpoch n (fun e => { e with
      pred := [], predState := .none, cmp := [], inval := allBins, queue := List.range 8192, workStop := false
      setClosed := false
      st := if e.specStarted then .active else .created }))
    (.seq (modLatched n (fun l => { l with unwritten := false })) (blankFill n))

/-- A whole-table change: every bin of the pending and speculative frames enters its set (R125, R153). -/
def wholeTableChange : Prog :=
  .dyn (fun s => .each [s.S + 1, s.S + 2] (fun n => modEpoch n (fun e => e.setBits allBins)))

/-! ### Abandonment and rollback -/

/-- Drop the queue 0 jobs of a frame, and its name from other jobs; a job on a channel runs on without effect. -/
def dropTexJobs (n : Fsn) : Prog :=
  .act (.thk (fun t => { t with
    q0 := (t.q0.filter (fun j => j.fsn != n)).map (fun j => { j with frames := j.frames.filter (· != n) })
    jobs := (t.jobs.filter (fun j => !(j.queue == 0 && j.fsn == n && j.ended))).map (fun j =>
      if j.queue != 0 then j
      else if j.fsn == n then { j with aborted := true }
      else { j with frames := j.frames.filter (· != n) }) }))

/-- An epoch is rolled back because frame N was abandoned (R198). -/
def rollBack (n x : Fsn) : Prog :=
  .dyn (fun s =>
    let view := s.viewOf s.ing.committed
    let opened := s.frameOpened x
    .block [
      modEpoch x (fun e => { e with
        cards := view.1, texs := view.2, gone := [], texGone := [], joins := [], base := none, opened := false
        everOpen := opened || e.everOpen, closed := false, closeSeen := false, setClosed := false
        pred := [], predState := .none, cmp := [], inval := allBins, queue := []
        st := if e.st == .none || e.st == .decided || e.st == .abandoned then e.st else .rolledBack }),
      dropTexJobs x, blankFill x, dropWork x,
      .when opened (recordErr x 0x07 n.toNat)])

/-- Pending frame N is abandoned (R197). -/
def abandonFrame (n : Fsn) : Prog :=
  withReclaim (.block [
    modEpoch n (fun e => { e with
      st := if e.st == .none || e.st == .decided then e.st else .abandoned, workStop := true }),
    .act (.ing (fun g => { g with dead := n :: g.dead.filter (laterFsn n) })),
    blankFill n, dropWork n,
    .dyn (fun s => .each (s.builtOn n) (rollBack n)),
    dropTexJobs n,
    modEpoch n (fun e => { e with texs := [] }),
    .setReg R.ING_ROLLBACK_FSN n, .count F.ING_ROLLBACK_COUNT_COUNT 1, .raise 164])

end Sys2Proof.Machine
end

