-- ==== Sys2Proof/Machine/Inflate.lean ====
section
/-! DEFINITION. Decompression: the block stream of RFC 1951 and of the Thicket frame, bit by bit in stream order, with
the one code that each fault reports (R97 to R102, R107 to R109). Every loop runs on fuel that the input bounds. -/

namespace Sys2Proof.Machine

/-- A decoder position: the input not yet read, its next bit, what has been produced (newest first) and how much. -/
structure Inf where
  input : List Byte
  bit : Nat := 0
  out : List Byte := []
  len : Nat := 0
  deriving DecidableEq, Repr

/-- A step of the decoder: a value and the position after it, or the status code and the position at which it stopped. -/
inductive InfRes (α : Type)
  | ok (a : α) (s : Inf)
  | fail (code : Nat) (s : Inf)

/-- Do one thing, then the next unless the first has stopped. -/
def InfRes.bind {α β : Type} (r : InfRes α) (f : α → Inf → InfRes β) : InfRes β :=
  match r with
  | .ok a s => f a s
  | .fail c s => .fail c s

/-- Limits of a job (R107 to R109): Thicket, window, the most bytes that may be produced. -/
structure InfJob where
  thicket : Bool
  window : Nat
  limit : Nat
  deriving DecidableEq, Repr

/-- The next bit; THK_E_TRUNCATED at the end of the input. -/
def Inf.next (s : Inf) : InfRes Nat :=
  match s.input with
  | [] => .fail 5 s
  | b :: t =>
    if s.bit = 7 then .ok (bitsOf b.toNat 7 7) { s with input := t, bit := 0 }
    else .ok (bitsOf b.toNat s.bit s.bit) { s with bit := s.bit + 1 }

/-- `n` bits, least significant first. -/
def Inf.bits : Nat → Inf → InfRes Nat
  | 0, s => .ok 0 s
  | n + 1, s => s.next.bind (fun b s => (Inf.bits n s).bind (fun v s => .ok (b + 2 * v) s))

/-- Skip to the next byte boundary; the skipped bits. -/
def Inf.align (s : Inf) : Nat × Inf :=
  if s.bit = 0 then (0, s)
  else match s.input with
    | [] => (0, s)
    | b :: t => (b.toNat / 2 ^ s.bit, { s with input := t, bit := 0 })

/-- Symbols of a code with a length, in rising order, for each length 1 to 15: a canonical Huffman code (RFC 1951). -/
def codeTable (lens : List Nat) : List (List Nat) :=
  (List.range 15).map (fun l => (lens.zipIdx.filter (fun p => p.1 == l + 1)).map (·.2))

/-- Sum of 2^(15 - length) over the used codes: 2^15 for a complete code (R102). -/
def codeWeight (lens : List Nat) : Nat := (lens.map (fun l => if l = 0 then 0 else 2 ^ (15 - l))).sum

/-- The code is complete (R102). -/
def codeComplete (lens : List Nat) : Bool := codeWeight lens == 2 ^ 15

/-- A distance code may also be one code of length 1, or none at all (R102). -/
def distanceOk (lens : List Nat) : Bool :=
  codeComplete lens || lens.all (· == 0) || ((lens.filter (· != 0)) == [1])

/-- Read one symbol: `code` bits so far, `first` code of this length, over the remaining lengths; an undefined code is
met as soon as no longer code is left. -/
def Inf.symbolFrom : List (List Nat) → Nat → Nat → Inf → InfRes Nat
  | [], _, _, s => .fail 1 s
  | syms :: rest, code, first, s =>
    s.next.bind (fun b s =>
      let code := 2 * code + b
      let first := 2 * first
      match (if first ≤ code then syms[code - first]? else none) with
      | some v => .ok v s
      | none => if rest.all (·.isEmpty) then .fail 1 s else Inf.symbolFrom rest code (first + syms.length) s)

/-- Read one symbol of a code. -/
def Inf.symbol (table : List (List Nat)) (s : Inf) : InfRes Nat := Inf.symbolFrom table 0 0 s

/-- Base and extra bits of a length symbol 257 to 286 (RFC 1951, Table 3.3). -/
def lengthCode (sym : Nat) : Nat × Nat :=
  if sym < 265 then (sym - 254, 0)
  else if sym < 285 then
    let e := (sym - 261) / 4
    ((4 + (sym - 261) % 4) * 2 ^ e + 3, e)
  else if sym = 285 then (258, 0) else (259, 16)

/-- Base and extra bits of a distance code 0 to 39 (RFC 1951, Table 3.4: codes 30 to 39 go on in the same way). -/
def distanceCode (d : Nat) : Nat × Nat :=
  if d < 4 then (d + 1, 0)
  else
    let e := d / 2 - 1
    ((2 + d % 2) * 2 ^ e + 1, e)

/-- Produce one literal; THK_E_LENGTH_OVERRUN when it would exceed the limit (R109). -/
def Inf.literal (j : InfJob) (b : Byte) (s : Inf) : InfRes Unit :=
  if j.limit < s.len + 1 then .fail 3 s else .ok () { s with out := b :: s.out, len := s.len + 1 }

/-- Copy `n` bytes from `dist` back. -/
def copyBack (dist : Nat) : Nat → List Byte → List Byte
  | 0, out => out
  | n + 1, out => copyBack dist n (out.getD (dist - 1) 0 :: out)

/-- Produce a match: distance, then length (R107, R109). -/
def Inf.copy (j : InfJob) (len dist : Nat) (s : Inf) : InfRes Unit :=
  if s.len < dist || j.window < dist then .fail 2 s
  else if j.limit < s.len + len then .fail 3 s
  else .ok () { s with out := copyBack dist len s.out, len := s.len + len }

/-- A stored block's bytes. -/
def Inf.storedBytes (j : InfJob) : Nat → Inf → InfRes Unit
  | 0, s => .ok () s
  | n + 1, s => (Inf.bits 8 s).bind (fun b s => (s.literal j (BitVec.ofNat 8 b)).bind (fun _ s => Inf.storedBytes j n s))

/-- A stored block: LEN, its complement, the bytes (RFC 1951). -/
def Inf.stored (j : InfJob) (s : Inf) : InfRes Unit :=
  (Inf.bits 16 s.align.2).bind (fun n s => (Inf.bits 16 s).bind (fun c s =>
    if n + c = 65535 then Inf.storedBytes j n s else .fail 1 s))

/-- The symbols of a compressed block up to the end-of-block symbol. Every symbol takes at least one bit, so the fuel
of one step per remaining bit never runs out before the input does. -/
def Inf.body (j : InfJob) (lit dist : List (List Nat)) : Nat → Inf → InfRes Unit
  | 0, s => .fail 5 s
  | fuel + 1, s =>
    (s.symbol lit).bind (fun sym s =>
      if sym < 256 then (s.literal j (BitVec.ofNat 8 sym)).bind (fun _ s => Inf.body j lit dist fuel s)
      else if sym = 256 then .ok () s
      else if (if j.thicket then 286 else 285) < sym then .fail 1 s
      else if dist.all (·.isEmpty) then .fail 1 s
      else
        let l := lengthCode sym
        (Inf.bits l.2 s).bind (fun x s =>
          (s.symbol dist).bind (fun d s =>
            if (if j.thicket then 39 else 29) < d then .fail 1 s
            else
              let c := distanceCode d
              (Inf.bits c.2 s).bind (fun y s =>
                (s.copy j (l.1 + x) (c.1 + y)).bind (fun _ s => Inf.body j lit dist fuel s)))))

/-- Bits not yet read. -/
def Inf.left (s : Inf) : Nat := s.input.length * 8

/-- The order of the code-length code's lengths (RFC 1951). -/
def clOrder : List Nat := [16, 17, 18, 0, 8, 7, 9, 6, 10, 5, 11, 4, 12, 3, 13, 2, 14, 1, 15]

/-- Read `n` three-bit lengths. -/
def Inf.clLens : Nat → Inf → InfRes (List Nat)
  | 0, s => .ok [] s
  | n + 1, s => (Inf.bits 3 s).bind (fun v s => (Inf.clLens n s).bind (fun l s => .ok (v :: l) s))

/-- Read code lengths until `want` of them are there, with the repeats of RFC 1951; a repeat beyond the end or with
nothing before it is illegal. -/
def Inf.lens (table : List (List Nat)) (want : Nat) : Nat → List Nat → Inf → InfRes (List Nat)
  | 0, acc, s => if acc.length = want then .ok acc s else .fail 1 s
  | fuel + 1, acc, s =>
    if acc.length = want then .ok acc s
    else (s.symbol table).bind (fun sym s =>
      if sym < 16 then Inf.lens table want fuel (acc ++ [sym]) s
      else
        match (if sym = 16 then acc.getLast? else some 0) with
        | none => .fail 1 s
        | some v =>
          let r := if sym = 16 then (2, 3) else if sym = 17 then (3, 3) else (7, 11)
          (Inf.bits r.1 s).bind (fun x s =>
            let n := r.2 + x
            if want < acc.length + n then .fail 1 s
            else Inf.lens table want fuel (acc ++ List.replicate n v) s))

/-- A dynamic block (RFC 1951, Table 3.3, R102). -/
def Inf.dynamic (j : InfJob) (s : Inf) : InfRes Unit :=
  (Inf.bits 5 s).bind (fun hl s => if (if j.thicket then 287 else 286) < hl + 257 then .fail 1 s else
    (Inf.bits (if j.thicket then 6 else 5) s).bind (fun hd s =>
    if (if j.thicket then 40 else 32) < hd + 1 then .fail 1 s
    else (Inf.bits 4 s).bind (fun hc s => (Inf.clLens (hc + 4) s).bind (fun cl s =>
      let lens := (List.range 19).map (fun i => ((clOrder.zip cl).lookup i).getD 0)
      if !codeComplete lens then .fail 1 s
      else (Inf.lens (codeTable lens) (hl + 257 + hd + 1) (hl + hd + 300) [] s).bind (fun all s =>
        let lit := all.take (hl + 257)
        let dist := all.drop (hl + 257)
        if codeComplete lit && distanceOk dist then Inf.body j (codeTable lit) (codeTable dist) (s.left + 1) s
        else .fail 1 s)))))

/-- Lengths of the fixed literal/length code (RFC 1951). -/
def fixedLit : List Nat :=
  List.replicate 144 8 ++ List.replicate 112 9 ++ List.replicate 24 7 ++ List.replicate 8 8

/-- Blocks up to the last one. -/
def Inf.blocks (j : InfJob) : Nat → Inf → InfRes Unit
  | 0, s => .fail 5 s
  | fuel + 1, s =>
    s.next.bind (fun last s => (Inf.bits 2 s).bind (fun kind s =>
      let r := match kind with
        | 0 => s.stored j
        | 1 => if j.thicket then .fail 1 s
            else Inf.body j (codeTable fixedLit) (codeTable (List.replicate 30 5 ++ [5, 5])) (s.left + 1) s
        | 2 => s.dynamic j
        | _ => .fail 1 s
      r.bind (fun _ s => if last = 1 then .ok () s else Inf.blocks j fuel s)))

/-- What a decompression ends with: status (Table 3.6), the bytes produced, in order. -/
structure InfEnd where
  status : Nat
  out : List Byte
  deriving DecidableEq, Repr

/-- The end of a job that stopped at a position. -/
def Inf.stop (s : Inf) (code : Nat) : InfEnd := { status := code, out := s.out.reverse }

/-- The end of a job whose decoder stopped: input that ran out is THK_E_BUS where bytes that the source still has could
not be read (Table 3.6). -/
def Inf.stopAt (s : Inf) (code : Nat) (unread : Bool) : InfEnd :=
  s.stop (if code = 5 && unread then 0x0B else code)

/-- A raw DEFLATE job of SRC_LEN bytes of which `src` can be read (R97, R107): stream, then THK_E_LENGTH_SHORT and
THK_E_FRAME_SIZE in table order. -/
def inflateRaw (exact : Bool) (limit total : Nat) (src : List Byte) : InfEnd :=
  match Inf.blocks { thicket := false, window := 32768, limit := limit } (src.length * 8 + 1) { input := src } with
  | .fail c s => s.stopAt c (src.length < total)
  | .ok _ s =>
    let a := s.align
    if exact && s.len < limit then s.stop 6
    else if a.1 != 0 || src.length - a.2.input.length < total then s.stop 8
    else s.stop 0

/-- The Thicket header is valid (R99, Table 3.2). -/
def thicketHeaderOk (h : List Byte) : Bool :=
  leAt h 0 4 == 0x544B4854 && byteAt h 4 == 1 && 15 ≤ byteAt h 5 && byteAt h 5 ≤ 20 && leAt h 6 2 == 0 &&
  1 ≤ leAt h 8 8 && leAt h 8 8 ≤ 2 ^ 36 && 1 ≤ leAt h 16 8 && leAt h 16 8 ≤ 2 ^ 36 &&
  leAt h 24 4 == (crc32c (h.take 24)).toNat && leAt h 28 4 == 0

/-- A Thicket job of SRC_LEN bytes of which `src` can be read (R99, R100, R107, R108): header, lengths, block stream of
COMP_LENGTH bytes alone, end-of-stream checks in table order, trailer. -/
def inflateThicket (exact : Bool) (limit total : Nat) (src : List Byte) : InfEnd :=
  let h := src.take 32
  let orig := leAt h 8 8
  let comp := leAt h 16 8
  if total < 32 then { status := 5, out := [] }
  else if src.length < 32 then { status := 0x0B, out := [] }
  else if !thicketHeaderOk h then { status := 7, out := [] }
  else if limit < orig then { status := 3, out := [] }
  else if exact && orig < limit then { status := 6, out := [] }
  else
    let body := (src.drop 32).take comp
    match Inf.blocks { thicket := true, window := 2 ^ byteAt h 5, limit := orig } (body.length * 8 + 1)
        { input := body } with
    | .fail c s => s.stopAt c (src.length < min total (32 + comp))
    | .ok _ s =>
      let a := s.align
      if total < 36 + comp then s.stop 5
      else if s.len < orig then s.stop 6
      else if 36 + comp < total || a.1 != 0 || body.length - a.2.input.length < comp then s.stop 8
      else if src.length < total then s.stop 0x0B
      else if leAt src (32 + comp) 4 != (crc32c s.out.reverse).toNat then s.stop 4
      else s.stop 0

/-- A decompression by FORMAT (Table 3.7): 0 Thicket, 1 raw DEFLATE. -/
def decompress (format : Nat) (exact : Bool) (limit total : Nat) (src : List Byte) : InfEnd :=
  if format = 0 then inflateThicket exact limit total src else inflateRaw exact limit total src

end Sys2Proof.Machine
end

