-- ==== Sys2Proof/Machine/Ingest.lean ====
section
/-! DEFINITION. Ingest: placing, judging and applying Glade packets (chapter 02), and the packets that wait for pages
(R204 to R206). -/

namespace Sys2Proof.Machine

/-! ### A packet as its command carries it -/

/-- A Glade packet: how it arrived, its TYPE and its body. -/
structure Glade where
  env : GladeEnv
  type : Nat
  body : List Byte
  deriving DecidableEq, Repr

/-- The 8-byte body of a FRAME_OPEN (Table 2.4). -/
def openBody (base : Fsn) (keyframe reopen : Bool) (rsv : BitVec 30) : List Byte :=
  leBytes 4 base.toNat ++ leBytes 4 (boolNat keyframe + 2 * boolNat reopen + 4 * rsv.toNat)

/-- The 12-byte body of a FRAME_CLOSE (Table 2.5). -/
def closeBody (pktCount digest : Word) (cardCount : BitVec 16) (live : Bool) (rsv : BitVec 15) : List Byte :=
  leBytes 4 pktCount.toNat ++ leBytes 4 digest.toNat ++ leBytes 2 cardCount.toNat ++
  leBytes 2 (boolNat live + 2 * rsv.toNat)

/-- The packet that a command brings; none for a command of another kind. -/
def gladeOf : Instr → Option Glade
  | .frameOpen env base key rsv => some { env := env, type := 1, body := openBody base key false rsv }
  | .frameReopen env base key rsv => some { env := env, type := 1, body := openBody base key true rsv }
  | .frameClose env n d c live rsv => some { env := env, type := 7, body := closeBody n d c live rsv }
  | .cardSet env body => some { env := env, type := 2, body := body }
  | .texDefine env body => some { env := env, type := 3, body := body }
  | .texUpdate env body => some { env := env, type := 4, body := body }
  | .texRelease env body => some { env := env, type := 5, body := body }
  | .amend env body => some { env := env, type := 6, body := body }
  | .gladeUnknownTypePacket env type body => some { env := env, type := type.toNat, body := body }
  | _ => none

/-- Up to the next multiple of 4. -/
def pad4 (n : Nat) : Nat := (n + 3) / 4 * 4

/-- The body size that TYPE and the count fields as they stand require (R55, R582). -/
def Glade.needs (g : Glade) : Option Nat :=
  match g.type with
  | 1 => some 8
  | 2 => some (4 + 96 * byteAt g.body 0)
  | 3 => some 12
  | 4 => some (24 + pad4 (leAt g.body 18 2))
  | 5 => some (4 + pad4 (2 * leAt g.body 0 2))
  | 6 => some (8 + 64 * byteAt g.body 0)
  | 7 => some 12
  | _ => none

/-- The header is valid (R55). -/
def Glade.headerOk (g : Glade) : Bool :=
  let n := g.env.hdr.bodyLength.toNat
  g.env.hdr.version == 1 && g.env.hdr.rsvA == 0 && g.env.hdr.rsvB == 0 && n % 4 == 0 && n ≤ 2032 &&
  n + 16 == g.env.xtfLen.toNat && g.needs == some n

/-- FSN of the packet. -/
def Glade.fsn (g : Glade) : Fsn := g.env.hdr.fsn
/-- PKT_SEQ of the packet. -/
def Glade.seq (g : Glade) : Nat := g.env.hdr.pktSeq.toNat

/-- The bytes of header and body (R50, Table 2.1). -/
def Glade.bytes (g : Glade) : List Byte :=
  let h := g.env.hdr
  leBytes 1 g.type ++ leBytes 1 (h.version.toNat + 16 * h.rsvA.toNat) ++ leBytes 2 h.bodyLength.toNat ++
  leBytes 4 h.fsn.toNat ++ leBytes 2 h.streamId.toNat ++ leBytes 2 h.pktSeq.toNat ++ leBytes 4 h.rsvB.toNat ++ g.body

/-- Counted in FRAME_CLOSE (Table 2.2). -/
def Glade.counted (g : Glade) : Bool := 2 ≤ g.type && g.type ≤ 5

/-- A FRAME_OPEN with REOPEN (Table 2.4). -/
def Glade.isReopen (g : Glade) : Bool := g.type == 1 && bitOf (byteAt g.body 4) 1

/-- A body whose fields break R582, with the DETAIL of its error. -/
def Glade.badBody (g : Glade) : Bool :=
  let b := g.body
  match g.type with
  | 1 => leAt b 4 4 / 4 != 0
  | 2 => !(1 ≤ byteAt b 0 && byteAt b 0 ≤ 21) || leAt b 1 3 != 0
  | 3 => leAt b 8 4 / 2 != 0
  | 4 =>
    let n := leAt b 18 2
    2 < byteAt b 3 || leAt b 8 2 == 0 || leAt b 10 2 == 0 || leAt b 16 2 == 0 || leAt b 16 2 ≤ leAt b 14 2 ||
    !(1 ≤ n && n ≤ 2008) || leAt b 20 4 != 0 || !allZero (b.drop (24 + n))
  | 5 =>
    let n := leAt b 0 2
    !(1 ≤ n && n ≤ 1014) || leAt b 2 2 != 0 || !allZero (b.drop (4 + 2 * n))
  | 6 =>
    let sealing := bitOf (byteAt b 1) 0
    31 < byteAt b 0 || (byteAt b 0 == 0 && !sealing) || byteAt b 1 / 2 != 0 || leAt b 2 2 != 0 ||
    (!sealing && leAt b 4 4 != 0)
  | _ => leAt b 10 2 / 2 != 0

/-- DETAIL of SCN_E_FIELD_INVALID for a body field (R582). -/
def Glade.bodyDetail (g : Glade) : Nat := if g.type = 4 then leAt g.body 0 2 else g.seq

/-! ### FRAME_OPEN and REOPEN -/

/-- The base that a FRAME_OPEN names is C or a pending frame not abandoned, and earlier (R61). -/
def State.baseOk (s : State) (n base : Fsn) : Bool :=
  laterFsn n base && (s.ing.committed == some base ||
    (base == s.S + 1 && (match s.epoch base with | some e => e.st != .abandoned | none => false)))

/-- A frame opened on a base takes part in the updates that its base still waits for (R182). -/
def joinTexJobs (n : Fsn) (base : Option Fsn) : Prog :=
  .act (.thk (fun t =>
    let f (j : ThkJob) : ThkJob :=
      if j.queue == 0 && (base == some j.fsn) && !j.frames.contains n then { j with frames := j.frames ++ [n] } else j
    { t with q0 := t.q0.map f, jobs := t.jobs.map f }))

/-- The errors of a frame that were recorded after a packet, as the frame's own (R63, R91). -/
def errOf (after : List (Nat × Word)) : SceneErr :=
  match after with
  | [] => {}
  | x :: _ => { code := x.1, detail := x.2, count := after.length }

/-- An error that stands against a frame whose work restarts keeps it in ERROR (R195, Table 6.6). -/
def Epoch.standErr (e : Epoch) : Epoch :=
  if e.err.count = 0 then e else { e with st := e.st.onError, workStop := true }

/-- Open frame N (R52, R60, R61, R63, R190, R196, R198). `after` are the errors recorded after this packet was stamped: a
REOPEN leaves them. `again`: a REOPEN of an open frame, R196; its roots are empty with KEYFRAME (log entry 54). -/
def openFrame (n base : Fsn) (keyframe reopen : Bool) (after : List (Nat × Word)) : Prog :=
  .dyn (fun s =>
    let e := (s.epoch n).getD { fsn := n }
    let again := reopen && (e.opened || e.everOpen)
    let restart := again || (reopen && e.st == .error) || e.st == .rolledBack
    let first := s.ing.keyNeeded
    let needsKey := first || s.ing.keyFsn == some n
    let baseGood := keyframe || s.baseOk n base
    let src := if keyframe || !baseGood then none else some base
    let view := s.viewOf (if src.isSome then src else s.ing.committed)
    let off := e.specStarted && !(e.specBase == src && src.isSome) && !restart
    .block [
      .when first (.act (.ing (fun g => { g with keyNeeded := false, keyFsn := some n }))),
      .when again (.raise 162),
      .when reopen (.seq (clearScene n after) (dropTexJobs n)),
      modEpoch n (fun e => { e with
        opened := true, everOpen := true, keyframe := keyframe, base := src
        specBase := if off || restart then none else e.specBase
        cards := if keyframe then [] else view.1, gone := []
        texs := if keyframe && again then [] else view.2, texGone := [], joins := []
        pktCount := 0, digest := 0, closed := false, livePending := false, closeSeen := false
        amends := 0, sealSeen := false, sealOk := false
        err := if reopen then errOf after else e.err }),
      joinTexJobs n src,
      .when restart (.seq (requeueAll n) (modEpoch n (·.standErr))),
      .when off (discardPred n),
      .when restart (.each ((s.builtOn n).filter (· != n)) discardPred),
      .each ((s.dependents n).filter (· != n)) (followBase n),
      .when (needsKey && !keyframe) (recordErr n 0x06 base.toNat),
      .when (!(needsKey && !keyframe) && !baseGood)
        (recordErr n (if s.ing.dead.contains base then 0x07 else 0x06) base.toNat),
      tryVote])

/-- A REOPEN of a frame that has no epoch discards its errors and opens nothing (R63, R201; log entry 54). -/
def reopenNone (n : Fsn) (after : List (Nat × Word)) : Prog :=
  .seq (clearScene n after) (modEpoch n (fun e => { e with err := errOf after }))

/-- FRAME_OPEN applied (R63, R65). A decided or abandoned frame takes no REOPEN (R201). -/
def applyOpen (g : Glade) (after : List (Nat × Word)) : Prog :=
  .dyn (fun s =>
    let e := (s.epoch g.fsn).getD {}
    if g.badBody then recordErr g.fsn 0x0B g.seq
    else if e.st == .none then .when g.isReopen (reopenNone g.fsn after)
    else if e.st == .decided || e.st == .abandoned then
      .when (!g.isReopen && e.opened) (recordErr g.fsn 0x05 g.seq)
    else if e.opened && !g.isReopen then recordErr g.fsn 0x05 g.seq
    else withReclaim (openFrame g.fsn (BitVec.ofNat 32 (leAt g.body 0 4)) (bitOf (byteAt g.body 4) 0) g.isReopen after))

/-! ### FRAME_CLOSE -/

/-- The first texture that a card names and the directory does not have (R83). -/
def Epoch.missingTex (e : Epoch) : Option Nat :=
  ((e.cards.flatMap (fun c => if c.card.isRelief then [c.card.tex, c.card.relTex] else [c.card.tex])).find?
    (fun t => (texOf e.texs t).isNone))

/-- FRAME_CLOSE applied (R66, R67, R69, R83, R86). -/
def applyClose (g : Glade) : Prog :=
  .dyn (fun s =>
    let n := g.fsn
    let e := (s.epoch n).getD {}
    let live := bitOf (byteAt g.body 10) 0
    if g.badBody then recordErr n 0x0B g.seq
    else if !e.opened || e.closed then recordErr n 0x04 g.seq
    else .seq (modEpoch n (fun e => { e with closeSeen := true, livePending := live }))
      (if leAt g.body 0 4 != e.pktCount % 2 ^ 32 || leAt g.body 4 4 != e.digest.toNat ||
          leAt g.body 8 2 != e.cards.length then recordErr n 0x03 g.seq
       else match e.missingTex with
        | some t => recordErr n 0x11 t
        | none => .seq (modEpoch n (fun e => { e with closed := true })) (.when (!live) (frameComplete n))))

/-! ### CARD_SET -/

/-- The first breach of R72 by a record without REMOVE. -/
def Epoch.flagError (e : Epoch) (c : CardRec) : Option (Nat × Nat) :=
  if c.isStatic == c.isDynamic then some (0x0E, c.id)
  else match texOf e.texs c.tex with
    | none => some (0x0F, c.tex)
    | some t =>
      if reliefFormat t.fmt || t.dynamic != c.isDynamic then some (0x0E, c.id)
      else if !c.isRelief then none
      else match texOf e.texs c.relTex with
        | none => some (0x0F, c.relTex)
        | some r => if r.dynamic || !reliefFormat r.fmt then some (0x0E, c.id) else none

/-- A card change of frame N that the 32-card limit may refuse (R131, R132). -/
def judgedChange (n : Fsn) (k : Nat) (v : Option CardVer) : Prog :=
  .dyn (fun s => match s.epoch n with
    | none => .nil
    | some e => match overfullBin (e.changeCard s.binView true k v).cards with
      | some b => binOverflow n b k
      | none => changeCard n k v)

/-- One card record (R71 to R73). -/
def applyCard (n : Fsn) (raw : List Byte) : Prog :=
  .dyn (fun s =>
    let e := (s.epoch n).getD {}
    let c := readCard raw
    let there := (cardOf e.cards c.id).isSome
    if c.isRemove then
      if !removeValid c raw then recordErr n 0x0B c.id
      else if !there then recordErr n 0x0D c.id
      else judgedChange n c.id none
    else if !cardValid c raw then recordErr n 0x0B c.id
    else match e.flagError c with
      | some x => recordErr n x.1 x.2
      | none =>
        if !there && 4096 ≤ e.cards.length then recordErr n 0x0C c.id
        else judgedChange n c.id (some { card := c, last := n, foot := footprint s.binView c }))

/-- Frame N has an error recorded (R64) beside `k` errors that were recorded after the packet in hand was stamped. -/
def State.erroredBut (s : State) (n : Fsn) (k : Nat) : Bool :=
  match s.epoch n with | some e => decide (k < e.err.count) | none => false

/-- Frame N has an error recorded (R64). -/
def State.errored (s : State) (n : Fsn) : Bool := s.erroredBut n 0

/-- Apply records in order; nothing of the packet after an error (R64, R132). `m` errors were recorded after the packet
was stamped and do not count. -/
def applyRecords (n : Fsn) (size : Nat) (f : List Byte → Prog) (m : Nat) : Nat → List Byte → Prog
  | 0, _ => .nil
  | k + 1, b => .seq (f (b.take size)) (.dyn (fun s =>
      if s.erroredBut n m then .nil else applyRecords n size f m k (b.drop size)))

/-! ### Textures -/

/-- The texture a TEX_DEFINE defines (Table 2.9). -/
def readDefine (b : List Byte) : TexVer :=
  { id := leAt b 0 2, fmt := byteAt b 2, mips := byteAt b 3, width := leAt b 4 2, height := leAt b 6 2
    dynamic := bitOf (byteAt b 8) 0, fresh := true, own := true }

/-- The fields of a TEX_DEFINE are in range (R77). -/
def TexVer.defineOk (t : TexVer) : Bool :=
  t.id ≤ 16383 && texelBytes t.fmt != 0 && 8 ≤ t.width && t.width ≤ 16384 && 8 ≤ t.height && t.height ≤ 16384 &&
  1 ≤ t.mips && t.mips ≤ maxMips t.width t.height && !(reliefFormat t.fmt && t.dynamic)

/-- Pages that queue 0 jobs have taken for their output (R84, R116). -/
def State.jobPages (s : State) : Nat :=
  (s.q0Jobs.map (fun j =>
    match (if j.takes then (s.epoch j.fsn).bind (fun e => texOf e.texs j.upd.tex) else none) with
    | some t => (t.touched j.upd).length
    | none => 0)).sum

/-- The store can supply `n` more pages (R84, R204). -/
def State.hasPages (s : State) (n : Nat) : Bool :=
  s.livePages.length + s.jobPages + s.ing.reclaim + n ≤ s.fld F.ING_TEX_STORE_MIB * 16

/-- TEX_DEFINE applied (R77, R84). -/
def applyDefine (g : Glade) : Prog :=
  .dyn (fun s =>
    let n := g.fsn
    let t := readDefine g.body
    let e := (s.epoch n).getD {}
    if !t.defineOk then recordErr n 0x0B t.id
    else if (texOf e.texs t.id).isSome then recordErr n 0x10 t.id
    else if !s.hasPages t.pageCount then recordErr n 0x13 t.id
    else .block [
      .act (.ing (fun x => { x with freshPage := x.freshPage + t.pageCount })),
      modEpoch n (fun e => { e with
        texs := putTex { t with pages := (List.range t.pageCount).map (· + s.ing.freshPage) } e.texs
        texGone := e.texGone.filter (· != t.id) }),
      inheritTex n t.id false])

/-- Frames that follow a texture of frame N now (R182). -/
def State.followers (s : State) (n : Fsn) (t : Nat) : List Fsn :=
  (s.dependents n).filter (fun d => match s.epoch d with
    | some e => !e.texGone.contains t && !(texOf e.texs t).any (·.own)
    | none => false)

/-- A queue 0 job writes a texture no more in frames that have released it; it runs on, and an error of it still counts
(R80, R82). -/
def ThkJob.forget (t : Nat) (gone : List Fsn) (j : ThkJob) : ThkJob :=
  if j.queue == 0 && j.upd.tex == t then
    { j with takes := j.takes && !gone.contains j.fsn, frames := j.frames.filter (fun d => !gone.contains d) }
  else j

/-- TEX_RELEASE applied, ID by ID (R82, R83). -/
def applyReleases (n : Fsn) : List Nat → Prog
  | [] => .nil
  | t :: rest => .dyn (fun s =>
      if ((s.epoch n).bind (fun e => texOf e.texs t)).isNone then recordErr n 0x0F t
      else .block [
        modEpoch n (fun e => { e with texs := dropTex t e.texs, texGone := insertNat t e.texGone }),
        .act (.thk (fun k =>
          let f := ThkJob.forget t (n :: s.followers n t)
          { k with q0 := k.q0.map f, jobs := k.jobs.map f })),
        inheritTex n t false,
        applyReleases n rest])

/-- The texels of one update reach one frame's texture, in new page versions (R81, R84, R181). -/
def writeTexture (n : Fsn) (own : Bool) (u : UpdHead) (data : List Byte) : Prog :=
  .dyn (fun s => match (s.epoch n).bind (fun e => texOf e.texs u.tex) with
    | none => .nil
    | some t => .block [
        .act (.ing (fun g => { g with freshPage := g.freshPage + (t.touched u).length })),
        modEpoch n (fun e => { e with
          texs := putTex { (t.write u data).renumber u s.ing.freshPage with own := own || t.own } e.texs }.texTouched u.tex)])

/-- A fill that waited for a job takes the texture which it wrote (R117, R148). -/
def fillTakes (j : ThkJob) : Prog :=
  .dyn (fun s => .act (.pdl (fun p => { p with fills := p.fills.map (fun f =>
    if f.waits.contains j.index then
      match (s.epoch f.texOwner).bind (fun e => texOf e.texs j.upd.tex) with
      | some t => { f with texs := putTex t f.texs }
      | none => f
    else f) })))

/-- An update takes effect in its frame, in the frames that follow it, and in those that took part in it before an update
of their own (R79, R81, R182). -/
def completeUpdate (j : ThkJob) (data : List Byte) : Prog :=
  withReclaim (.dyn (fun s =>
    let n := j.fsn
    let apart := j.frames.filter (fun d => match s.epoch d with
      | some e => !j.takes || !(s.dependents n).contains d || (texOf e.texs j.upd.tex).any (·.own)
      | none => false)
    .block [
      .when j.takes (.seq (writeTexture n true j.upd data) (inheritTex n j.upd.tex true)),
      .each apart (fun d => writeTexture d true j.upd data),
      fillTakes j]))

/-- The fields that every segment of an update shares (Table 2.10). -/
def readUpdHead (b : List Byte) : UpdHead :=
  { tex := leAt b 0 2, mip := byteAt b 2, enc := byteAt b 3, x0 := leAt b 4 2, y0 := leAt b 6 2, w := leAt b 8 2
    h := leAt b 10 2, tag := leAt b 12 2, segCount := leAt b 16 2 }

/-- Two segments belong to one update (R79). -/
def sameUpdate (a b : UpdHead) : Bool := a.tex == b.tex && a.mip == b.mip && a.tag == b.tag

/-- The segments in SEG_INDEX order, joined (R79). -/
def UpdJoin.data (j : UpdJoin) : List Byte := (List.range j.head.segCount).flatMap (fun i => (j.got.lookup i).getD [])

/-- The join after one more segment; none where R80 refuses it. -/
def addSegment (old : Option UpdJoin) (u : UpdHead) (i : Nat) (d : List Byte) : Option UpdJoin :=
  let j := old.getD { head := u }
  if j.head != u || j.done || (j.got.lookup i).isSome then none
  else
    let got := (i, d) :: j.got
    some { head := u, got := got, done := got.length == u.segCount }

/-- A queue 0 job of one of the frames still writes the texture (R117). -/
def State.texJobs (s : State) (frames : List Fsn) (t : Nat) : Bool := frames.any (fun d => s.texBusy d t)

/-- The frame has updated a texture from the arrival of the last segment on, though its texels may change later (R79,
R182). -/
def ownTexture (n : Fsn) (t : Nat) : Prog :=
  modEpoch n (fun e => { e with texs := e.texs.map (fun x => if x.id == t then { x with own := true } else x) })

/-- The last segment of an update has arrived (R79, R80, R84, R116, R117). -/
def finishUpdate (n : Fsn) (j : UpdJoin) : Prog :=
  .dyn (fun s => match (s.epoch n).bind (fun e => texOf e.texs j.head.tex) with
    | none => .nil
    | some t =>
      let u := j.head
      let size := u.w * u.h * texelBytes t.fmt
      let frames := s.followers n u.tex
      if u.enc == 0 && j.data.length != size then recordErr n 0x12 u.tex
      else if !s.hasPages (t.touched u).length then recordErr n 0x13 u.tex
      else
        let job : ThkJob :=
          { queue := 0, index := s.thk.q0Next, upd := u, data := j.data, fsn := n, frames := frames
            desc := { op := 0, format := u.enc - 1, exact := true, limit := size, srcLen := j.data.length } }
        .seq (ownTexture n u.tex)
        (if u.enc != 0 then .act (.thk (fun k => { k with q0 := k.q0 ++ [job], q0Next := k.q0Next + 1 }))
        else if s.texJobs (n :: frames) u.tex then
          .act (.thk (fun k => { k with
            jobs := k.jobs ++ [{ job with ended := true, out := j.data }], q0Next := k.q0Next + 1 }))
        else completeUpdate job j.data))

/-- TEX_UPDATE applied (R79, R80). -/
def applyUpdate (g : Glade) : Prog :=
  .dyn (fun s =>
    let n := g.fsn
    let b := g.body
    let u := readUpdHead b
    let e := (s.epoch n).getD {}
    match texOf e.texs u.tex with
    | none => recordErr n 0x0F u.tex
    | some t =>
      if t.mips ≤ u.mip then recordErr n 0x0B u.tex
      else if (t.levelSize u.mip).1 < u.x0 + u.w || (t.levelSize u.mip).2 < u.y0 + u.h then recordErr n 0x0B u.tex
      else match addSegment (e.joins.find? (fun j => sameUpdate j.head u)) u (leAt b 14 2) (slice b 24 (leAt b 18 2)) with
        | none => recordErr n 0x12 u.tex
        | some j => .seq
            (modEpoch n (fun e => { e with joins := j :: e.joins.filter (fun x => !sameUpdate x.head u) }))
            (.when j.done (finishUpdate n j)))

/-- Pages that a packet would take if it were applied now; 0 for a packet that takes none or would be refused first; `m`
errors were recorded after it was stamped (R64, R84, R204). -/
def State.pagesFor (s : State) (g : Glade) (m : Nat) : Nat :=
  match s.epoch g.fsn with
  | none => 0
  | some e =>
    if g.badBody || !e.opened || e.closeSeen || m < e.err.count then 0
    else if g.type = 3 then
      let t := readDefine g.body
      if t.defineOk && (texOf e.texs t.id).isNone then t.pageCount else 0
    else if g.type = 4 then
      let u := readUpdHead g.body
      match texOf e.texs u.tex with
      | none => 0
      | some t =>
        if t.mips ≤ u.mip || (t.levelSize u.mip).1 < u.x0 + u.w || (t.levelSize u.mip).2 < u.y0 + u.h then 0
        else match addSegment (e.joins.find? (fun j => sameUpdate j.head u)) u (leAt g.body 14 2)
            (slice g.body 24 (leAt g.body 18 2)) with
          | some j => if j.done && (u.enc != 0 || j.data.length == u.w * u.h * texelBytes t.fmt)
              then (t.touched u).length else 0
          | none => 0
    else 0

/-- The packet must wait for reclamation (R204). -/
def State.mustWait (s : State) (g : Glade) (m : Nat) : Bool :=
  let n := s.pagesFor g m
  n != 0 && s.ing.reclaim != 0 && !s.hasPages n

/-! ### AMEND -/

/-- One amend record (R87); the amended card is one last amended by this frame (R133). -/
def applyAmendRecord (n : Fsn) (raw : List Byte) : Prog :=
  .dyn (fun s =>
    let k := leAt raw 0 2
    match cardOf ((s.epoch n).getD {}).cards k with
    | none => recordErr n 0x0D k
    | some v =>
      let c := amendCard v.card raw
      if !v.card.isLive then recordErr n 0x15 k
      else if leAt raw 2 2 != 0 || !allZero (slice raw 54 10) || !c.geometryOk then recordErr n 0x0B k
      else judgedChange n k (some { card := c, last := n, foot := footprint s.binView c }))

/-- AMEND applied: the window of R86, the records of R87, the SEAL of R88, which counts whatever its records do. -/
def applyAmend (g : Glade) (m : Nat) : Prog :=
  .dyn (fun s =>
    let n := g.fsn
    let sealing := bitOf (byteAt g.body 1) 0
    let e := (s.epoch n).getD {}
    let count := modEpoch n (fun e => { e with amends := e.amends + 1 })
    if !e.closeSeen || !e.livePending || e.sealSeen then .seq count (recordErr n (if g.badBody then 0x0B else 0x04) g.seq)
    else .block [
      count,
      .when sealing (modEpoch n (fun e => { e with sealSeen := true, sealOk := leAt g.body 4 4 == e.amends })),
      if g.badBody then recordErr n 0x0B g.seq
      else applyRecords n 64 (applyAmendRecord n) m (byteAt g.body 0) (g.body.drop 8),
      .dyn (fun s =>
        let e := (s.epoch n).getD {}
        .when (sealing && e.sealOk && !s.erroredBut n m && e.closed) (frameComplete n))])

/-! ### Queue 0 results -/

/-- An update whose job has ended may take effect: no earlier queue 0 job writes its texture in one of its frames
(R117). -/
def q0Free (t : Thk) (j : ThkJob) : Bool :=
  !(t.q0 ++ t.jobs).any (fun x => x.queue == 0 && !x.aborted && x.index < j.index && x.upd.tex == j.upd.tex &&
    (j.fsn :: j.frames).any (fun f => j.writes f && x.writes f))

/-- Queue 0 results take effect (R116, R117): texels in new page versions, or SCN_E_TEX_DATA. -/
def settleLoop : Nat → Prog
  | 0 => .nil
  | k + 1 => .dyn (fun s =>
      match s.thk.jobs.find? (fun j => j.queue == 0 && j.ended && q0Free s.thk j) with
      | none => .nil
      | some j => .block [
          .act (.thk (fun t => { t with jobs := t.jobs.filter (fun x => !(x.queue == 0 && x.index == j.index)) })),
          if j.status = 0 then completeUpdate j j.out else recordErr j.fsn 0x12 j.status,
          synthCheck (s.S + 1), synthCheck (s.S + 2), settleLoop k])

/-- Every queue 0 result that can take effect does, where the epochs are not frozen (R186). -/
def settleQ0 : Prog := .guard (fun s => !s.frozen) (.dyn (fun s => settleLoop s.thk.jobs.length))

/-! ### Applying and placing -/

/-- A packet of a pending or speculative frame is applied (R63, R64, R66, R67, R69, R582). `after` are the errors recorded
against its frame after it was stamped. -/
def applyPacket (g : Glade) (after : List (Nat × Word)) : Prog :=
  .dyn (fun s =>
    let n := g.fsn
    let m := after.length
    let e := (s.epoch n).getD {}
    if s.erroredBut n m && !g.isReopen then .nil
    else .block [
      .when (g.counted && e.opened) (modEpoch n (fun e => { e with
        pktCount := e.pktCount + 1, digest := e.digest + crc32c g.bytes })),
      if g.type = 1 then .seq (applyOpen g after) settleQ0
      else if g.type = 7 then applyClose g
      else if g.type = 6 then
        (if !e.opened then .seq (modEpoch n (fun e => { e with amends := e.amends + 1 }))
            (recordErr n (if g.badBody then 0x0B else 0x04) g.seq)
         else applyAmend g m)
      else if g.badBody then recordErr n 0x0B g.bodyDetail
      else if !e.opened || e.closeSeen then recordErr n 0x04 g.seq
      else match g.type with
        | 2 => applyRecords n 96 (applyCard n) m (byteAt g.body 0) (g.body.drop 4)
        | 3 => applyDefine g
        | 4 => applyUpdate g
        | _ => .seq
            (withReclaim (applyReleases n ((List.range (leAt g.body 0 2)).map (fun i => leAt g.body (4 + 2 * i) 2))))
            settleQ0])

/-- Apply a packet, or hold it and what follows until pages come back (R204). -/
def takePacket (h : HeldPacket) : Prog :=
  .dyn (fun s => match gladeOf h.pkt with
    | none => .nil
    | some g =>
      if !s.ing.deferred.isEmpty || s.mustWait g h.after.length then
        .act (.ing (fun x => { x with deferred := x.deferred ++ [h] }))
      else applyPacket g h.after)

/-- Apply waiting packets until one has to wait again (R204). -/
def drainDeferred : Nat → Prog
  | 0 => .nil
  | n + 1 => .dyn (fun s => match s.ing.deferred with
      | [] => .nil
      | h :: rest => match gladeOf h.pkt with
        | none => .nil
        | some g =>
          if s.mustWait g h.after.length then .nil
          else .block [.act (.ing (fun x => { x with deferred := rest })), applyPacket g h.after, drainDeferred n])

/-- Packets that wait, in arrival order. -/
def State.heldPackets (s : State) : List HeldPacket := s.ing.deferred ++ s.ing.preEpoch

/-- A held packet of frame N. -/
def HeldPacket.isFor (n : Fsn) (h : HeldPacket) : Bool := match gladeOf h.pkt with | some g => g.fsn == n | none => false

/-- An error is recorded against frame N at an instant, after every packet of N that waits (R63, R64). -/
def recordNow (n : Fsn) (code detail : Nat) : Prog :=
  let f (h : HeldPacket) : HeldPacket :=
    if h.isFor n then { h with after := h.after ++ [(code, BitVec.ofNat 32 detail)] } else h
  .seq (.act (.ing (fun g => { g with preEpoch := g.preEpoch.map f, deferred := g.deferred.map f })))
    (recordErr n code detail)

/-- An error stands against frame N after every packet of it that waits: one recorded since the last REOPEN that waits,
which discards the others (R63, R64). -/
def State.erroredNow (s : State) (n : Fsn) : Bool :=
  match (s.heldPackets.filter (fun h => h.isFor n &&
      (match gladeOf h.pkt with | some g => g.isReopen && !g.badBody | none => false))).getLast? with
  | some h => !h.after.isEmpty
  | none => s.errored n

/-- A foreign packet (R51, Table 2.20, Table 2.21). -/
def foreignPacket : Prog :=
  .dyn (fun s => .block [
    .when s.ing.firstForeign (.raise 163),
    .act (.ing (fun g => { g with firstForeign := false })),
    .count F.ING_FOREIGN_COUNT_FOREIGN 1])

/-- Bytes in the pre-epoch queue (R57). -/
def State.queuedBytes (s : State) : Nat := (s.ing.preEpoch.map (·.bytes)).sum

/-- DETAIL of a late AMEND: the CARD_ID of its first record (Table 2.14); an open value where it has none. -/
def lateAmend (g : Glade) : Prog :=
  if byteAt g.body 0 = 0 then .withFree (fun w => recordNow g.fsn 0x16 w.toNat)
  else recordNow g.fsn 0x16 (leAt g.body 8 2)

/-- A Glade packet arrives (R51, R55 to R58, R64, R86). -/
def arrive (i : Instr) : Prog :=
  .dyn (fun s => match gladeOf i with
    | none => .nil
    | some g =>
      let n := g.fsn
      let t := g.env.stamp
      let near := n == s.S + 1 || n == s.S + 2 || n == s.S + 3
      if s.boundSource != some g.env.src then foreignPacket
      else if g.env.xtfLen.toNat < 16 then
        .when (!s.frozen)
          (if g.env.xtfLen.toNat < 8 || !near then .act (.ing (fun x => { x with badHeaders := x.badHeaders + 1 }))
           else if g.env.xtfLen.toNat < 12 then .withFree (fun w => recordNow n 0x0A (w.toNat % 65536))
           else recordNow n 0x0A g.seq)
      else if g.env.hdr.streamId.toNat != s.effFld F.ING_STREAM_STREAM_ID then foreignPacket
      else if s.frozen then .nil
      else if !g.headerOk then
        if near then recordNow n 0x0A g.seq
        else .act (.ing (fun x => { x with badHeaders := x.badHeaders + 1 }))
      else if !laterFsn n s.S then .count F.ING_FOREIGN_COUNT_STALE 1
      else if g.type = 6 && s.instant .amend n ≤ t then .when (!s.erroredNow n) (lateAmend g)
      else if g.type != 6 && s.instant .scene n ≤ t then
        .when (!s.erroredNow n || g.isReopen) (recordNow n 0x01 g.seq)
      else if s.erroredNow n && !g.isReopen then .nil
      else if laterFsn n (s.S + 3) then recordNow n 0x08 g.seq
      else
        let h : HeldPacket := { pkt := i, bytes := g.body.length + 16, s := s.S }
        if n == s.S + 3 then
          (if 64 * 2 ^ 20 < s.queuedBytes + h.bytes then recordNow n 0x09 g.seq
           else .act (.ing (fun x => { x with preEpoch := x.preEpoch ++ [h] })))
        else takePacket h)

def execFrameOpen (env : GladeEnv) (base : Fsn) (keyframe : Bool) (rsv : BitVec 30) (s : State) :
    Host.Outcome State Fault Refusal :=
  .next ((arrive (.frameOpen env base keyframe rsv)).go s)

def execFrameReopen (env : GladeEnv) (base : Fsn) (keyframe : Bool) (rsv : BitVec 30) (s : State) :
    Host.Outcome State Fault Refusal :=
  .next ((arrive (.frameReopen env base keyframe rsv)).go s)

def execFrameClose (env : GladeEnv) (pktCount digest : Word) (cardCount : BitVec 16) (livePending : Bool)
    (rsv : BitVec 15) (s : State) : Host.Outcome State Fault Refusal :=
  .next ((arrive (.frameClose env pktCount digest cardCount livePending rsv)).go s)

def execCardSet (env : GladeEnv) (body : List Byte) (s : State) : Host.Outcome State Fault Refusal :=
  .next ((arrive (.cardSet env body)).go s)

def execTexDefine (env : GladeEnv) (body : List Byte) (s : State) : Host.Outcome State Fault Refusal :=
  .next ((arrive (.texDefine env body)).go s)

def execTexUpdate (env : GladeEnv) (body : List Byte) (s : State) : Host.Outcome State Fault Refusal :=
  .next ((arrive (.texUpdate env body)).go s)

def execTexRelease (env : GladeEnv) (body : List Byte) (s : State) : Host.Outcome State Fault Refusal :=
  .next ((arrive (.texRelease env body)).go s)

def execAmend (env : GladeEnv) (body : List Byte) (s : State) : Host.Outcome State Fault Refusal :=
  .next ((arrive (.amend env body)).go s)

/-- GLADE_UNKNOWN_TYPE_PACKET (R55): a TYPE of no producer packet makes the header invalid. -/
def execGladeUnknownTypePacket (env : GladeEnv) (type : Byte) (body : List Byte) (s : State) :
    Host.Outcome State Fault Refusal :=
  .next ((Prog.when (type.toNat == 0 || 7 < type.toNat) (arrive (.gladeUnknownTypePacket env type body))).go s)

/-- SCENE_DEADLINE (R68). -/
def execSceneDeadline (fsn : Fsn) (s : State) : Host.Outcome State Fault Refusal :=
  .next ((Prog.guard (fun s => !s.frozen) (.dyn (fun s =>
    match s.epoch fsn with
    | none => recordNow fsn 0x02 0
    | some e => if !e.opened && !e.everOpen then recordNow fsn 0x02 0
        else .when (!e.closed) (recordNow fsn 0x03 0)))).go s)

/-- AMEND_DEADLINE (R88). -/
def execAmendDeadline (fsn : Fsn) (s : State) : Host.Outcome State Fault Refusal :=
  .next ((Prog.guard (fun s => !s.frozen) (.dyn (fun s =>
    match s.epoch fsn with
    | none => .nil
    | some e => .when (e.closeSeen && e.livePending && !e.sealOk) (recordNow fsn 0x17 e.amends)))).go s)

/-- DEFERRED_PACKET_APPLY (R204). -/
def execDeferredPacketApply (s : State) : Host.Outcome State Fault Refusal :=
  .next ((Prog.guard (fun s => !s.frozen) (.dyn (fun s => drainDeferred s.ing.deferred.length))).go s)

/-- RECLAIM_DONE (R206): nothing while no page is outstanding. -/
def execReclaimDone (s : State) : Host.Outcome State Fault Refusal :=
  .next ((Prog.guard (fun s => s.ing.reclaim != 0)
    (.seq (.act (.ing (fun g => { g with reclaim := 0 }))) (.raise 165))).go s)

end Sys2Proof.Machine
end

