-- ==== Sys2Proof/Machine/Synth.lean ====
section
/-! DEFINITION. Table checks of R583, strip groups, strips on engines, re-synthesised bins and panic (R124, R125, R138 to
R149, R153, R171 to R178, R189 to R195, R219, R220). -/

namespace Sys2Proof.Machine

/-! ### Table changes (R583) -/

/-- The address registers of a table, with their field masks (Tables 4.8, 4.9, 5.12, 5.13, 7.7). -/
def tableRegs : TableId → List (Nat × Word)
  | .bounds => [(R.BIN_BOUNDS_LO, 0xFFFFF000), (R.BIN_BOUNDS_HI, 0x3F)]
  | .dirs => [(R.GRV_DIR_LO, 0xFFFF0000), (R.GRV_DIR_HI, 0x3F)]
  | .colour => [(R.COL_TABLE_LO, 0xFFFFF000), (R.COL_TABLE_HI, 0x3F), (R.COL_GMAP_LO, 0xFFFF0000), (R.COL_GMAP_HI, 0x3F)]

/-- The change of a table. -/
def State.tableChg (s : State) : TableId → TableChg
  | .bounds => s.grv.boundsChg
  | .dirs => s.grv.dirChg
  | .colour => s.grv.colChg

/-- Alter the change of a table. -/
def modTable (t : TableId) (f : TableChg → TableChg) : Prog :=
  .act (.grv (fun g => match t with
    | .bounds => { g with boundsChg := f g.boundsChg }
    | .dirs => { g with dirChg := f g.dirChg }
    | .colour => { g with colChg := f g.colChg }))

/-- The shadow values of a table's registers. -/
def State.tableShadow (s : State) (t : TableId) : List Word := (tableRegs t).map (fun r => s.reg r.1)

/-- A write to the `i`-th address register of a table: the check starts anew, and one that runs is abandoned; a change
that a check has accepted waits on for its swap instant (R583 items 1 and 3). -/
def tableWrite (t : TableId) (i : Nat) (v : Word) (stamp : Time) : Prog :=
  match (tableRegs t)[i]? with
  | none => .nil
  | some r => .block [
      .setReg r.1 (v &&& r.2),
      modTable t (fun c => { c with checking := true, lastWrite := stamp, atStart := false }),
      .when (t == .colour) (.setFld F.COL_STATUS_CHECKING 1)]

def execBinBoundsWrite (hi : Bool) (value : Word) (stamp : Time) (s : State) : Host.Outcome State Fault Refusal :=
  .next ((tableWrite .bounds (boolNat hi) value stamp).go s)

def execGrvDirWrite (hi : Bool) (value : Word) (stamp : Time) (s : State) : Host.Outcome State Fault Refusal :=
  .next ((tableWrite .dirs (boolNat hi) value stamp).go s)

/-- The place of a colour address register. -/
def colRegIndex : ColReg → Nat
  | .tableLo => 0
  | .tableHi => 1
  | .gmapLo => 2
  | .gmapHi => 3

def execColTableWrite (reg : ColReg) (value : Word) (stamp : Time) (s : State) : Host.Outcome State Fault Refusal :=
  .next ((tableWrite .colour (colRegIndex reg) value stamp).go s)

/-- The address that a LO and a HI word name. -/
def pairAddr (lo hi : Word) : Nat := lo.toNat + hi.toNat * 2 ^ 32

/-- Why a check refuses a table: out of DRAM, or the index of the first bad entry or offset (R124, R153, R219, R583). -/
inductive TableFault | range | entry (i : Nat)
  deriving DecidableEq, Repr

/-- Bounds entry `b` is refused (R124). -/
def State.badBounds (s : State) (a b : Nat) : Bool :=
  let f (k : Nat) : F32 := s.word32 (a + 16 * b + 4 * k)
  !((List.range 4).all (fun k => isFinite (f k))) || flt (f 1) (f 0) || flt (f 3) (f 2)

/-- Direction entry `i` is invalid (R153). -/
def State.badDir (s : State) (a i : Nat) : Bool :=
  let e := s.dirEntry a i
  !((e.take 2).all (fun x => isFinite x && fle (fabs x) 0x40800000) &&
    (e.drop 2).all (fun x => isFinite x && fle (fabs x) 0x3C800000))

/-- Colour table word at byte offset 4 × i has a reserved bit set (R219, Table 7.2). -/
def State.badColour (s : State) (a i : Nat) : Bool :=
  let w := s.word32 (a + 4 * i)
  if i < 576 then 2 ^ 20 ≤ w.toNat else if i < 1024 then w != 0 else false

/-- The result of a check (R583). -/
def State.tableFault (s : State) (t : TableId) : Option TableFault :=
  match t, s.tableShadow t with
  | .bounds, [lo, hi] =>
    let a := pairAddr lo hi
    if !rangeInDram a 0x20000 then some .range
    else ((List.range 8192).find? (s.badBounds a)).map .entry
  | .dirs, [lo, hi] =>
    let a := pairAddr lo hi
    if !rangeInDram a 0x1000000 then some .range
    else ((List.range 1048576).find? (s.badDir a)).map .entry
  | .colour, [lo, hi, glo, ghi] =>
    let a := pairAddr lo hi
    if !(rangeInDram a 0x7000 && rangeInDram (pairAddr glo ghi) 0x600000) then some .range
    else ((List.range 1024).find? (s.badColour a)).map .entry
  | _, _ => none

/-- The error register, the event and the cause of FAULT of a refused table (Tables 5.20, 7.16, 19.6). -/
def reportTable (t : TableId) (why : TableFault) (stamp : Time) : Prog :=
  match t with
  | .bounds => .raiseAt 211 stamp
  | .dirs => .block [
      .setReg R.GRV_DIR_ERR (match why with | .range => 0x80000000 | .entry i => BitVec.ofNat 32 i), .raiseAt 226 stamp]
  | .colour => .block [
      .setReg R.COL_TABLE_ERR (match why with | .range => 0x80000000 | .entry i => BitVec.ofNat 32 (4 * i)),
      .raiseAt 256 stamp]

/-- BLOCK and code of the FAULT that a table refused at start causes (Table 19.6). -/
def tableCause : TableId → Nat × Nat
  | .bounds => (0x0A, 0x30)
  | .dirs => (0x0B, 0x31)
  | .colour => (0x13, 0x32)

/-- TABLE_CHECK_END (R583): the detail of the FAULT at start is an open value. -/
def execTableCheckEnd (table : TableId) (stamp : Time) (s : State) : Host.Outcome State Fault Refusal :=
  .next ((Prog.guard (fun s => (s.tableChg table).checking) (.block [
    modTable table (fun c => { c with checking := false }),
    .when (table == .colour) (.setFld F.COL_STATUS_CHECKING 0),
    .dyn (fun s => match s.tableFault table with
      | none => modTable table (fun c => { c with
          accepted := c.accepted ++ [(c.lastWrite, s.tableShadow table)], atStart := false })
      | some why =>
        let c := s.tableChg table
        .block [
          .each ((tableRegs table).zip c.inUse) (fun p => .seq (.setReg p.1.1 p.2) (.act (.eff p.1.1 p.2))),
          reportTable table why stamp,
          modTable table (fun c => { c with atStart := false }),
          .when c.atStart (.withFree (fun w =>
            enterFault (tableCause table).1 0x0B (tableCause table).2 w.toNat))])])).go s)

/-- The greater of two magnitudes. -/
def absMax (a b : F32) : F32 := if flt (fabs a) (fabs b) then fabs b else fabs a

/-- The greatest slopes of the direction table in force, across and up, over the hogels of every block (R89). -/
def State.slopeMax (s : State) : List F32 :=
  let table := s.dirAddr
  let corners : List (F32 × F32) :=
    [(0xC1780000, 0xC1780000), (0xC1780000, 0x41780000), (0x41780000, 0xC1780000), (0x41780000, 0x41780000)]
  let m := (List.range 1048576).foldl (fun (m : F32 × F32) i =>
    let e := s.dirEntry table i
    let g (k : Nat) : F32 := e.getD k 0
    corners.foldl (fun m c =>
      (absMax m.1 (fadd (fadd (g 0) (fmul (g 2) c.1)) (fmul (g 3) c.2)),
       absMax m.2 (fadd (fadd (g 1) (fmul (g 4) c.1)) (fmul (g 5) c.2)))) m) (0, 0)
  [m.1, m.2]

/-- A predicted table binned anew: an overfull list is left empty and its bin is not speculated (R125, R134). -/
def Epoch.rebin (w : BinView) (e : Epoch) : Epoch :=
  let f (c : CardVer) : CardVer := { c with foot := footprint w c.card }
  let pred := e.pred.map f
  let full := overfullBins pred
  { e with cards := e.cards.map f, pred := pred.map (fun c => { c with foot := c.foot &&& ~~~full })
           predBlank := e.predBlank ||| full }

/-- Rebuild every bin list from the bounds table in use (R125). -/
def rebuildLists : Prog :=
  .dyn (fun s => .act (.ing (fun g => { g with epochs := g.epochs.map (Epoch.rebin s.binView) })))

/-- A frame that was neither released nor retired still latches a superseded colour table, or a superseded gain map,
that the values in use do not name (R220). -/
def State.retirePending (s : State) : Bool :=
  s.grv.retireTables.any (fun p => s.pdl.frames.any (fun l =>
    l.lamKnown && !l.retired && !l.released && ((l.colTable == p.1 && p.1 != s.colTables.1) ||
      (l.gainMap == p.2 && p.2 != s.colTables.2))))

/-- COL_STATUS.RETIRE_PENDING follows the frames (R220). -/
def retireCheck : Prog :=
  .dyn (fun s => .seq
    (.act (.grv (fun g => { g with retireTables := if s.retirePending then g.retireTables else [] })))
    (.setFlag F.COL_STATUS_RETIRE_PENDING s.retirePending))

/-- The registers of a table take new values in effect (R583 item 3); their shadows follow unless a check runs on newer
ones. The reach comes from the direction table in force; the frames' lists and sets follow while the epochs are not
frozen (R89, R125, R153, R186). -/
def tableTakes (t : TableId) (v : List Word) : Prog :=
  .dyn (fun s =>
    let old := (s.tableChg t).inUse
    .block [
      modTable t (fun c => { c with inUse := v }),
      .each ((tableRegs t).zip v) (fun p => .seq (.act (.eff p.1.1 p.2))
        (.when (!(s.tableChg t).checking) (.setReg p.1.1 p.2))),
      (match t with
       | .bounds => .when (v != old && !s.frozen) (.seq rebuildLists wholeTableChange)
       | .dirs => .seq (.dyn (fun s => .act (.grv (fun g => { g with maxSlope := s.slopeMax }))))
          (.when (v != old && !s.frozen) wholeTableChange)
       | .colour => .when (v != old)
          (.seq (.act (.grv (fun g => { g with retireTables := s.colTables :: g.retireTables }))) retireCheck))])

/-- An accepted change takes effect at the first swap instant that R40 allows for the last of its writes (R583 item 3). -/
def tableSwap (t : TableId) (n : Fsn) : Prog :=
  .dyn (fun s =>
    let due (p : Time × List Word) : Bool := decide (p.1 < s.instant .localAbort n)
    let take := (s.tableChg t).accepted.filter due
    .block [
      modTable t (fun c => { c with accepted := c.accepted.filter (fun p => !due p) }),
      (match take.getLast? with
       | none => .nil
       | some p => tableTakes t p.2)])

/-! ### Strips -/

/-- The rays of a strip: hogel x, physical index h, v; hogel, then direction of the group, ascending (R20, R139). -/
def stripRays (half : Bool) (bin : Nat) : List (Nat × Nat × Nat) :=
  let hs : List Nat := if half then (List.range 8).map (fun k => bin % 8 * 16 + 2 * k)
    else (List.range 16).map (fun k => bin % 8 * 16 + k)
  (List.range 32).flatMap (fun i => (List.range 8).flatMap (fun v => hs.map (fun h => (bin / 8 % 32 * 32 + i, h, v))))

/-- What a strip yields: codes, code sums by colour, clamped channels (R139, R225, Table 7.17). -/
structure StripYield where
  codes : List Nat := []
  sums : Nat × Nat × Nat := (0, 0, 0)
  high : Nat := 0
  neg : Nat := 0
  deriving DecidableEq, Repr

/-- Add one ray's three codes. -/
def StripYield.add (y : StripYield) (k : Nat) (c : List (Nat × Work)) : StripYield :=
  let at_ (i : Nat) : Nat := k * ((c.map (·.1)).getD i 0)
  { codes := y.codes ++ c.map (·.1)
    sums := (y.sums.1 + at_ 0, y.sums.2.1 + at_ 1, y.sums.2.2 + at_ 2)
    high := y.high + (c.map (·.2.high)).sum
    neg := y.neg + (c.map (·.2.neg)).sum }

/-- Synthesise one strip of frame n from a bin list and texture versions; black rays where a read was poisoned (R146 to
R169, R173, R213 to R231, R235). -/
def State.synthStrip (s : State) (n : Fsn) (list : List Setup) (texs : TexSet) (bin row : Nat) (black : Bool) : StripYield :=
  let w := s.rayView n
  let l := s.latched n
  (stripRays w.half bin).foldl (fun y p =>
    let (x, h, v) := p
    let r := w.ray x row h v
    let t := if black then (0, 0, 0) else w.trace texs list r
    let t := s.compositeLayers w l.layers r t
    y.add (if w.half then 2 else 1) ((List.range 3).map (fun c => codeOf s l n x row h v c t))) {}

/-- STRIP_GROUP_RELEASE (R139). -/
def execStripGroupRelease (fsn : Fsn) (s : State) : Host.Outcome State Fault Refusal :=
  .next ((Prog.dyn (fun s => match s.fillOf fsn with
    | none => .nil
    | some f =>
      let k := f.released
      let sent := k < 2 || (f.groupComplete (k - 2) && (k - 2) / 16 < f.nextLine)
      .when (k < 512 && sent) (.seq
        (modFill fsn (fun f => { f with released := k + 1, sentGroups := max f.sentGroups (k - 1) }.advance))
        (.block [panicCheck, releasePred fsn, synthCheck fsn])))).go s)

/-- The frame's re-synthesis may be issued (R186, R195, R197). -/
def State.workOpen (s : State) (n : Fsn) : Bool :=
  match s.epoch n with
  | none => false
  | some e => e.specStarted && !e.workStop && e.st != .error && e.st != .rolledBack && e.st != .abandoned

/-- A fill strip of a bin waits for a queue 0 job of a texture that its list names (R117). -/
def State.fillWaits (s : State) (f : Fill) (b : Nat) : Bool :=
  let busy (t : Nat) : Bool := s.q0Jobs.any (fun j => f.waits.contains j.index && j.upd.tex == t && j.writes f.texOwner)
  f.cards.any (fun c => c.foot.getLsbD b && (busy c.card.tex || (c.card.isRelief && busy c.card.relTex)))

/-- The fill of a frame has a strip ready for issue. -/
def State.fillReady (s : State) (n : Fsn) : Bool :=
  match s.fillOf n with
  | none => false
  | some f => !f.blank && f.issued < f.ready && !s.fillWaits f (stripBin f.issued)

/-- The running re-synthesis of a frame that has rows left (R144). -/
def State.openWork (s : State) (n : Fsn) : Option BinWork := s.grv.works.find? (fun w => w.fsn == n && w.nextRow < 32)

/-- The bin that a frame would start next, where its textures are complete (R117, R142). -/
def State.nextBin (s : State) (n : Fsn) : Option Nat :=
  match s.epoch n with
  | none => none
  | some e => (e.queue.head?).filter (fun b => !(e.cards.any (fun c => c.foot.getLsbD b && s.cardBusy n c.card)))

/-- Put a strip on an engine (Table 5.9). -/
def startStrip (st : Strip) : Prog :=
  .block [
    .act (.grv (fun g => { g with strips := g.strips ++ [st] })),
    .dyn (fun s =>
      let off := groveReg (st.engine / 16) 8
      .setReg off (s.reg off ||| (1#32 <<< (st.engine % 16))))]

/-- Issue the next fill strip of a frame (R139). -/
def issueFill (n : Fsn) (engine : Nat) : Prog :=
  .dyn (fun s => match s.fillOf n with
    | none => .nil
    | some f =>
      let i := f.issued
      .block [
        modFill n (fun f => { f with issued := i + 1, pendingStrips := f.pendingStrips ++ [i] }.advance),
        startStrip { engine := engine, kind := .fill, fsn := n, bin := stripBin i, row := stripRow i },
        releasePred n])

/-- The drive lane of a half, band and colour (Table 9.1). -/
def driveLane (half band colour : Nat) : Nat := half * 96 + band * 3 + colour

/-- The three lanes of a bin (R141). -/
def binLanes (bin : Nat) : List Nat := (List.range 3).map (fun c => driveLane (bin / 128 % 2) (bin / 256) c)

/-- Sums of the codes of a bin's strips by colour. -/
def codeSums (k : Nat) : List Nat → Nat × Nat × Nat → Nat × Nat × Nat
  | a :: b :: c :: rest, (x, y, z) => codeSums k rest (x + k * a, y + k * b, z + k * c)
  | _, acc => acc

/-- A re-synthesis whose last strip has been issued is handed to the drive link as three rectangle writes: from here on
its strips run to their end whatever happens to the frame (R141, R195, R280; log entry 70). -/
def handWork (w : BinWork) : Prog :=
  .dyn (fun s => .block [
    .act (.grv (fun g => { g with handed := g.handed ++ [w], works := g.works.filter (fun x => x.id != w.id) })),
    modLatched w.fsn (fun l => { l with written := false }),
    .each (binLanes w.bin) (fun i => modDrive i (fun d => { d with
      queue := d.queue ++ [.rect w.fsn (s.latched w.fsn).slot w.bin w.id] }))])

/-- Hand over the re-synthesis of a frame whose strips are all issued. -/
def handIssued (n : Fsn) : Prog :=
  .dyn (fun s => .each (s.grv.works.filter (fun w => w.fsn == n && w.nextRow == 32)) handWork)

/-- Issue the next row of a re-synthesis (R138). -/
def issueRow (n : Fsn) (engine : Nat) : Prog :=
  .dyn (fun s => match s.openWork n with
    | none => .nil
    | some w => .block [
        .act (.grv (fun g => { g with works := g.works.map (fun x =>
          if x.id == w.id then { x with nextRow := x.nextRow + 1 } else x) })),
        startStrip { engine := engine, kind := .resynth, fsn := n, bin := w.bin, row := w.bin / 256 * 32 + w.nextRow, work := w.id },
        handIssued n])

/-- Start the re-synthesis of a queued bin from the lists and textures of the moment (R144, R148). -/
def startWork (n : Fsn) (b : Nat) : Prog :=
  .dyn (fun s => match s.epoch n with
    | none => .nil
    | some e => .block [
        modEpoch n (fun e => { e with queue := e.queue.drop 1 }),
        .act (.grv (fun g => { g with
          nextWork := g.nextWork + 1
          works := g.works ++ [{ id := g.nextWork, fsn := n, bin := b, texs := e.texs
                                 list := (binList s.pose e.cards b).map (·.card) }] }))])

/-- Issue re-synthesis of a frame, or none (R142, R144). -/
def State.resynthReady (s : State) (n : Fsn) : Bool :=
  s.workOpen n && ((s.openWork n).isSome || (s.nextBin n).isSome)

/-- Issue one row of re-synthesis. -/
def issueResynth (n : Fsn) (engine : Nat) : Prog :=
  .dyn (fun s =>
    if (s.openWork n).isSome then issueRow n engine
    else match s.nextBin n with
      | some b => .seq (startWork n b) (issueRow n engine)
      | none => .nil)

/-- STRIP_ISSUE (R146, R177, R186, R191). -/
def execStripIssue (engine : Nat) (s : State) : Host.Outcome State Fault Refusal :=
  .next ((Prog.guard (fun s => s.arrayOn && !s.frozen && engine < 128 && !s.grv.strips.any (fun x => x.engine == engine))
    (.dyn (fun s =>
      let p := s.S + 1
      let q := s.S + 2
      if s.fillReady p then issueFill p engine
      else if s.resynthReady p then issueResynth p engine
      else if s.fillReady q then issueFill q engine
      else if s.resynthReady q then issueResynth q engine
      else .nil))).go s)

/-- The address of a ray (R24, R25): in half-fan the physical index is that of the merged ray, even. -/
def rayAddress (x y h v : Nat) : Word := BitVec.ofNat 32 (y * 2 ^ 20 + x * 2 ^ 10 + v * 2 ^ 7 + h)

/-- The address of ray `i` of a strip, in the strip's order (R24, R25, R139). -/
def State.stripRay (s : State) (st : Strip) (i : Nat) : Word :=
  let rays := stripRays (s.halfFan st.fsn) st.bin
  let r := rays.getD (i % rays.length) (0, 0, 0)
  rayAddress r.1 st.row r.2.1 r.2.2

/-- A strip read poisoned data, first for ray `i` of it (R173). -/
def poisonedStrip (st : Strip) (i : Nat) : Prog :=
  .dyn (fun s => .block [.setReg R.GRV_POISON_RAY (s.stripRay st i), .raise 227,
    modLatched st.fsn (fun l => { l with poisoned := true }), recordCause st.fsn 0x0202])

/-- The codes of a finished fill strip go to drive staging (R139, R141, R225). -/
def fillStripDone (st : Strip) (black : Bool) : Prog :=
  .dyn (fun s => match s.fillOf st.fsn with
    | none => .nil
    | some f =>
      let y := s.synthStrip st.fsn (binList s.pose f.cards st.bin) f.texs st.bin st.row black
      .block [
        modFill st.fsn (fun f => { f with
          pendingStrips := f.pendingStrips.filter (· != stripIndex st.bin st.row)
          staged := f.staged ++ [{ fsn := st.fsn, bin := st.bin, row := st.row, codes := y.codes }] }),
        modLatched st.fsn (fun l =>
          let o := lookupD st.bin (0, 0, 0) l.fillSums
          { l with fillSums := putKey st.bin (o.1 + y.sums.1, o.2.1 + y.sums.2.1, o.2.2 + y.sums.2.2) l.fillSums }),
        countClamps y.high y.neg, panicCheck])

/-- A row of a re-synthesis is staged. -/
def BinWork.stage (w : BinWork) (id : Nat) (c : StripCodes) : BinWork :=
  if w.id = id then { w with done := w.done + 1, codes := w.codes ++ [c] } else w

/-- A re-synthesis with all rows staged: its codes replace the bin's sums (R225). -/
def rectSum (w : BinWork) : Prog :=
  .dyn (fun s => .when (w.done == 32) (modLatched w.fsn (fun l => { l with
    rectSums := putKey w.bin (codeSums (if s.halfFan w.fsn then 2 else 1) (w.codes.flatMap (·.codes)) (0, 0, 0)) l.rectSums })))

/-- The codes of a finished re-synthesis row go to drive staging (R142 to R144, R280). -/
def rowDone (st : Strip) (black : Bool) : Prog :=
  .dyn (fun s => match (s.grv.works ++ s.grv.handed).find? (fun w => w.id == st.work) with
    | none => .nil
    | some w =>
      let y := s.synthStrip st.fsn (w.list.map (setupCard s.pose)) w.texs st.bin st.row black
      let c : StripCodes := { fsn := st.fsn, bin := st.bin, row := st.row, codes := y.codes }
      .block [
        .act (.grv (fun g => { g with works := g.works.map (·.stage w.id c), handed := g.handed.map (·.stage w.id c) })),
        countClamps y.high y.neg,
        rectSum (w.stage w.id c)])

/-- STRIP_COMPLETE (R146, R173, R175). -/
def execStripComplete (engine : Nat) (poison : Option Nat) (hits misses : Nat) (s : State) :
    Host.Outcome State Fault Refusal :=
  .next ((Prog.dyn (fun s => match s.grv.strips.find? (fun x => x.engine == engine) with
    | none => .nil
    | some st =>
      let off := groveReg (engine / 16) 8
      .block [
        .act (.grv (fun g => { g with strips := g.strips.filter (fun x => x.engine != engine) })),
        .setReg off (s.reg off &&& ~~~(1#32 <<< (engine % 16))),
        .count ⟨groveReg (engine / 16) 0x10, 31, 0⟩ hits, .count ⟨groveReg (engine / 16) 0x14, 31, 0⟩ misses,
        (match poison with
         | some i => poisonedStrip st i
         | none => .nil),
        (match st.kind with
         | .fill => fillStripDone st poison.isSome
         | .resynth => rowDone st poison.isSome),
        synthCheck st.fsn])).go s)

/-- GROVE_PANIC_ASSERT (R172): the grove has a strip of an incomplete group of a fill. -/
def execGrovePanicAssert (grove : Nat) (s : State) : Host.Outcome State Fault Refusal :=
  .next ((Prog.dyn (fun s => match s.grv.strips.find? (fun x => x.engine / 16 == grove && x.kind == .fill) with
    | none => .nil
    | some st => match s.fillOf st.fsn with
      | none => .nil
      | some f =>
        let e := (grove, st.fsn, stripIndex st.bin st.row / 512)
        .block [
          .act (.grv (fun g => { g with panics := if g.panics.contains e then g.panics else g.panics ++ [e] })),
          .setReg (groveReg grove 8) (putBits (s.reg (groveReg grove 8)) 16 16 1),
          .act (.dmc (fun d => { d with panicGroves := d.panicGroves ||| (1#8 <<< grove) })),
          .setFld F.DMC_STATUS_PANIC 1,
          .when (!f.panicked) (.seq (modFill st.fsn (fun f => { f with panicked := true })) (.raise 228))])).go s)

/-- GRV_CLK_WRITE (R178): the pause alters timing only. -/
def execGrvClkWrite (grove : Nat) (value : Word) (s : State) : Host.Outcome State Fault Refusal :=
  .next ((Prog.when (decide (grove < 8)) (.setReg (groveReg grove 4) (value &&& 3))).go s)

end Sys2Proof.Machine
end

