-- ==== Sys2Proof/Machine/Drive.lean ====
section
/-! DEFINITION. The panel drive link (chapter 09): items, the fill raster, rectangle writes, confirmations, latency and
driver status. -/

namespace Sys2Proof.Machine

/-- FAULT from the drive link (Tables 9.12, 19.6); the detail is an open value. A lane in TEST is not judged (Table
10.3a). -/
def driveFault (lane code : Nat) : Prog :=
  .guard (fun s => (s.lane lane).st != .test) (.withFree (fun w => enterFault (0x16 + lane / 96) 0x05 code w.toNat))

/-- A drive lane carries items (R305). -/
def State.carries (s : State) (lane : Nat) : Bool := lane < 192 && (s.lane lane).st == .active

/-- Half 0 or 1 of a drive lane. -/
def laneHalf (lane : Nat) : Nat := lane / 96
/-- Band of a drive lane. -/
def laneBand (lane : Nat) : Nat := lane % 96 / 3

/-! ### Items on a lane (R267 to R271) -/

/-- Codes packed two to three bytes (R268). -/
def packCodes : List Nat → List Byte
  | a :: b :: rest => leBytes 3 (a % 4096 + b % 4096 * 4096) ++ packCodes rest
  | [a] => leBytes 3 (a % 4096)
  | [] => []

/-- Trims packed four to five bytes (R268). -/
def packTrims : List Nat → List Byte
  | a :: b :: c :: d :: rest => leBytes 5 (a + b * 2 ^ 10 + c * 2 ^ 20 + d * 2 ^ 30) ++ packTrims rest
  | [] => []
  | l => leBytes 5 (l.foldr (fun x acc => x + acc * 2 ^ 10) 0)

/-- The 16-byte header of an item (Table 9.2). -/
def itemHeader (half : Bool) (slotOf : Nat) (seq : BitVec 16) : ItemKind → List Byte
  | .line fsn _ _ line =>
    leBytes 1 1 ++ leBytes 1 (slotOf + 4 * boolNat half) ++ leBytes 2 seq.toNat ++ leBytes 1 line ++
    List.replicate 7 0 ++ leBytes 1 fsn.toNat ++ List.replicate 3 0
  | .rect _ _ bin _ =>
    leBytes 1 2 ++ leBytes 1 (slotOf + 4 * boolNat half) ++ leBytes 2 seq.toNat ++ leBytes 1 0 ++ leBytes 1 32 ++
    leBytes 2 (bin / 8 % 16 * 32) ++ leBytes 2 32 ++ leBytes 1 (bin % 8 * (if half then 8 else 16)) ++
    leBytes 1 (if half then 8 else 16) ++ leBytes 1 0 ++ leBytes 1 8 ++ leBytes 2 0
  | .trim line =>
    leBytes 1 3 ++ leBytes 1 0 ++ leBytes 2 seq.toNat ++ leBytes 1 line ++ leBytes 1 1 ++ leBytes 2 0 ++
    leBytes 2 512 ++ List.replicate 6 0
  | .cfgWrite addr value =>
    leBytes 1 4 ++ leBytes 1 0 ++ leBytes 2 seq.toNat ++ leBytes 1 addr ++ List.replicate 3 0 ++ leBytes 3 value ++
    List.replicate 5 0
  | .cfgRead addr =>
    leBytes 1 5 ++ leBytes 1 0 ++ leBytes 2 seq.toNat ++ leBytes 1 addr ++ List.replicate 11 0

/-- An item between SOI and EOI: header, payload, CRC-32C (R267). -/
def itemBytes (header payload : List Byte) : List Byte :=
  header ++ payload ++ leBytes 4 (crc32c (header ++ payload)).toNat

/-- The code of a strip at hogel i, v, place k of its group and colour; 0 in a blank strip. -/
def StripCodes.at_ (c : StripCodes) (per i v k colour : Nat) : Nat := c.codes.getD (((i * 8 + v) * per + k) * 3 + colour) 0

/-- Codes of one bin row in RECT order for a colour (R270): hogel, v, h. -/
def StripCodes.colourCodes (c : StripCodes) (per colour : Nat) : List Nat :=
  (List.range 32).flatMap (fun i => (List.range 8).flatMap (fun v => (List.range per).map (fun k => c.at_ per i v k colour)))

/-- Codes of an active line on a lane (R270, R27): hogel, then v, then h over the eight groups. -/
def lineCodes (staged : List StripCodes) (half : Bool) (lane line : Nat) : List Nat :=
  let per := if half then 8 else 16
  let row := laneBand lane * 32 + line
  (List.range 16).flatMap (fun col =>
    let bin (g : Nat) : Nat := (laneBand lane * 32 + laneHalf lane * 16 + col) * 8 + g
    let strips := (List.range 8).map (fun g => (staged.find? (fun c => c.bin == bin g && c.row == row)).getD {})
    (List.range 32).flatMap (fun i => (List.range 8).flatMap (fun v =>
      strips.flatMap (fun c => (List.range per).map (fun k => c.at_ per i v k (lane % 3))))))

/-- The composited triple of a slate ray (R253). -/
def State.slateRay (s : State) (x y h v : Nat) : Nat × Nat × Nat :=
  let w := s.rayView s.S
  s.compositeLayers w s.slateDescs (w.ray x y h v) s.slateBackground

/-- Codes of a slate line on a lane (R253, R279; log entry 18). -/
def State.slateCodes (s : State) (lane line : Nat) : List Nat :=
  let half := s.halfFan s.S
  let y := laneBand lane * 32 + line
  (List.range 512).flatMap (fun i => (List.range 8).flatMap (fun v =>
    (List.range (if half then 64 else 128)).map (fun k =>
      let x := laneHalf lane * 512 + i
      let h := if half then 2 * k else k
      Config.slateCode (s.slateRay x y h v) x y h v (lane % 3) % 4096)))

/-- The calibration store whose trims are loaded (R455, R503). -/
def State.trimStore (s : State) : List Byte := (s.nvm.stores.getD s.ctl.trimPass {}).bytes

/-- Offset of MB in a store: behind the header, the direction table, the bin bounds table, the colour table, the gain map
and the temperature coefficients (R455, Table 15.8, log entry 19). -/
def trimBaseAt : Nat := 4695 + 16777216 + 131072 + 28672 + 6291456 + 28

/-- Offset of a trim residual frame: the frames follow MB one after another (Table 15.8, R99, log entry 19). -/
def residualAt (store : List Byte) : Nat → Nat
  | 0 => trimBaseAt + 393216
  | k + 1 => residualAt store k + 36 + leNat (slice store (residualAt store k + 16) 8)

/-- The original bytes of a lane's and line's residual frame (R99, R455). -/
def residualBytes (store : List Byte) (lane line : Nat) : List Byte :=
  let a := residualAt store (lane * 32 + line)
  let n := 36 + leNat (slice store (a + 16) 8)
  (inflateThicket true 1048576 n (slice store a n)).out

/-- The trims of a lane and line (R286, R455, Table 15.8). -/
def trimsOf (store : List Byte) (lane line : Nat) : List Nat :=
  let out := residualBytes store lane line
  (List.range 524288).map (fun pos =>
    let base := leNat (slice store (trimBaseAt + (lane * 1024 + pos % 1024) * 2) 2)
    let r : Int := if 2 * pos + 2 ≤ out.length then (BitVec.ofNat 16 (leNat (slice out (2 * pos) 2))).toInt
      else Config.trimResidual store lane line pos
    (clampInt 0 1023 ((base : Int) + r)).toNat)

/-- The payload of an item as the lane sends it. -/
def State.itemPayload (s : State) (lane : Nat) : ItemKind → List Byte
  | .line fsn slate _ line =>
    packCodes (if slate then s.slateCodes lane line
      else lineCodes ((s.fillOf fsn).map (·.staged) |>.getD []) (s.halfFan fsn) lane line)
  | .rect fsn _ _ work =>
    match s.grv.handed.find? (fun w => w.id == work) with
    | some w => packCodes ((List.range 32).flatMap (fun r =>
        ((w.codes.find? (fun c => c.row % 32 == r)).getD {}).colourCodes (if s.halfFan fsn then 8 else 16) (lane % 3)))
    | none => []
  | .trim line => packTrims (trimsOf s.trimStore lane line)
  | .cfgWrite _ _ => []
  | .cfgRead _ => []

/-- The slot that an item names. -/
def itemSlot : ItemKind → Nat
  | .line _ _ slot _ => slot
  | .rect _ slot _ _ => slot
  | _ => 0

/-- The fan mode under which an item goes (R269). -/
def State.itemHalf (s : State) : ItemKind → Bool
  | .line fsn slate _ _ => s.halfFan (if slate then s.S else fsn)
  | .rect fsn _ _ _ => s.halfFan fsn
  | _ => false

/-- An item as sent. -/
def State.itemOut (s : State) (lane : Nat) (seq : BitVec 16) (k : ItemKind) : Out :=
  .item lane k (itemBytes (itemHeader (s.itemHalf k) (itemSlot k) seq k) (s.itemPayload lane k))

/-! ### Timing of the raster -/

/-- LINE_SYMBOLS (R272). -/
def State.lineSymbols (s : State) (half : Bool) : Nat :=
  s.fld F.PDL_HTIMING_HSYNC + s.fld F.PDL_HTIMING_HBACK + 22 + 512 * (if half then 768 else 1536) + s.fld F.PDL_HTIMING_HFRONT

/-- `n` line times after an instant have passed at an instant; T_line is LINE_SYMBOLS × 102.4 / 256 ns (R272). -/
def State.linesPassed (s : State) (half : Bool) (n : Nat) (v t : Time) : Bool :=
  (v * 10 + (n * s.lineSymbols half * 1024 : Nat)) ≤ t * 10

/-- A fill opens at V (R139, R274): its first two groups are released. -/
def openFill (f : Fill) : Prog :=
  .dyn (fun s =>
    let half := s.halfFan (if f.slate then s.S else f.fsn)
    let f1 : Byte := BitVec.ofNat 8 (f.slot + 4 * boolNat half)
    let f2 : Byte := f.fsn.setWidth 8
    .block [
      .act (.pdl (fun p => { p with fills := p.fills ++ [if f.slate then f else { f with released := 2 }.advance] })),
      .raiseAt 312 f.v,
      .send (.fillOpen f1 f2 (f1 ^^^ f2 ^^^ 0x3C))])

/-- Change a fill, the slate fill or a frame's. -/
def modFillAny (n : Fsn) (slate : Bool) (f : Fill → Fill) : Prog :=
  .act (.pdl (fun p => { p with fills := p.fills.map (fun x => if x.fsn == n && x.slate == slate then f x else x) }))

/-- A fill has active lines unsent. -/
def Fill.unsent (f : Fill) : Bool := f.nextLine < 32 || !f.resend.isEmpty

/-- The items of a lane that are being sent or in flight. -/
def DriveLane.busyItems (d : DriveLane) : List ItemKind := d.sending.map (·.2) ++ d.flight.map (·.2)

/-- An item writes a slot's codes. -/
def writesSlot (slot : Nat) : ItemKind → Bool
  | .line _ _ k _ => k == slot
  | .rect _ k _ _ => k == slot
  | _ => false

/-- The frame of an item. -/
def itemFsn : ItemKind → Option Fsn
  | .line fsn slate _ _ => if slate then none else some fsn
  | .rect fsn _ _ _ => some fsn
  | _ => none

/-- The first active line of a fill may start (R275): no item of its slot from before it, and no earlier fill unsent. -/
def State.firstLineOk (s : State) (f : Fill) : Bool :=
  if f.slate then s.pdl.lanes.all (fun d => !d.busyItems.any (writesSlot f.slot))
  else
    s.pdl.lanes.all (fun d => !(d.busyItems ++ d.queue).any (fun k => writesSlot f.slot k && itemFsn k != some f.fsn)) &&
    ((s.pdl.fills.filter (fun x => !x.slate)).takeWhile (fun x => x.fsn != f.fsn)).all (fun x => !x.unsent)

/-- A fill has an eligible active line at an instant (R274, R275, R277). -/
def State.lineEligible (s : State) (f : Fill) (t : Time) : Bool :=
  f.unsent && s.linesPassed (s.halfFan (if f.slate then s.S else f.fsn))
    (s.fld F.PDL_VTIMING_VSYNC + s.fld F.PDL_VTIMING_VBACK) f.v t &&
  (f.nextLine != 0 || s.firstLineOk f)

/-- Two items overlap on one lane (R280). -/
def overlaps : ItemKind → ItemKind → Bool
  | .rect _ s b _, .rect _ t c _ => s == t && b == c
  | _, _ => false

/-- The slot is free for a RECT: its fills have passed FRAME_DONE (R280). -/
def State.slotOpen (s : State) (slot : Nat) : Bool := s.pdl.fills.all (fun f => f.slot != slot || f.frameDone)

/-- The first row of a RECT is in drive staging (R280). -/
def State.rowStaged (s : State) : ItemKind → Bool
  | .rect _ _ _ work => s.grv.handed.any (fun w => w.id == work && w.codes.any (fun c => c.row % 32 == 0))
  | _ => true

/-- The eligible RECTs of a lane, in queue order (R280). -/
def State.eligibleRects (s : State) (d : DriveLane) : List ItemKind :=
  (d.queue.zipIdx.filter (fun p =>
    s.rowStaged p.1 && s.slotOpen (itemSlot p.1) && !(d.busyItems ++ d.queue.take p.2).any (overlaps p.1))).map (·.1)

/-- Remove the first occurrence of each chosen item. -/
def takeOut : List ItemKind → List ItemKind → List ItemKind
  | [], q => q
  | k :: ks, q => takeOut ks (q.erase k)

/-- Up to four RECTs of a lane for a rectangle line: those of the preferred slot first (R278). -/
def State.chooseRects (s : State) (d : DriveLane) (prefer : Option Nat) : List ItemKind :=
  let e := s.eligibleRects d
  match prefer with
  | none => e.take 4
  | some slot => ((e.filter (fun k => itemSlot k == slot)) ++ (e.filter (fun k => itemSlot k != slot))).take 4

/-- A lane begins to send items: each takes the next SEQ (R267). -/
def DriveLane.begin_ (d : DriveLane) (ks : List ItemKind) : DriveLane :=
  ks.foldl (fun d k => { d with sending := d.sending ++ [(d.seq, k)], seq := d.seq + 1 }) d

/-- Change every lane that carries items (R305). -/
def modCarrying (f : State → DriveLane → DriveLane) : Prog :=
  .dyn (fun s => .act (.pdl (fun p => { p with
    lanes := p.lanes.zipIdx.map (fun d => if s.carries d.2 then f s d.1 else d.1) })))

/-- The kind and the place of the line that begins (Table 9.15). -/
def beginLine (kind : LineKind) (slot line : Nat) (code : Nat) : Prog :=
  .block [
    .act (.pdl (fun p => { p with kind := kind })),
    .setFld F.PDL_RASTER_KIND code,
    .when (code == 1 || code == 2 || code == 3) (.seq (.setFld F.PDL_RASTER_SLOT slot) (.setFld F.PDL_RASTER_LINE line)),
    .send (.rasterLine kind slot line)]

/-- The next active line of a fill begins on all lanes (R273, R283). -/
def beginFillLine (f : Fill) (kind : LineKind) (code : Nat) (t : Time) : Prog :=
  let line := match f.resend with | l :: _ => l | [] => f.nextLine
  .block [
    modFillAny f.fsn f.slate (fun x => match x.resend with
      | _ :: rest => { x with resend := rest }
      | [] => { x with nextLine := x.nextLine + 1 }),
    modFillAny f.fsn f.slate (fun x => { x with unconf := x.unconf ++ (List.range 192).map (fun i => (i, line)) }),
    modCarrying (fun _ d => d.begin_ [.line f.fsn f.slate f.slot line]),
    .act (.pdl (fun p => { p with running := some (f.fsn, f.slate, line) })),
    beginLine kind f.slot line code,
    .dyn (fun s => .when (s.flag F.PDL_LINE_MATCH_ENABLE && s.fld F.PDL_LINE_MATCH_LINE == line) (.raiseAt 313 t))]

/-- A rectangle line begins (R278). -/
def beginRectLine (prefer : Option Nat) : Prog :=
  .seq
    (modCarrying (fun s d =>
      let ks := s.chooseRects d prefer
      { d with queue := takeOut ks d.queue }.begin_ ks))
    (beginLine .rectangle 0 0 4)

/-- A trim may be sent: no TICK yet, or the last had PWM_EN = 0 (R285). -/
def State.trimAllowed (s : State) : Bool := match s.pdl.tick with | some k => !k.pwm | none => true

/-- The first CFG or TRIM item that may go. -/
def nextService (trims : Bool) (l : List ItemKind) : Option ItemKind :=
  l.find? (fun k => match k with | .trim _ => trims | _ => true)

/-- A service line begins (R278, R285). -/
def beginServiceLine : Prog :=
  .seq
    (modCarrying (fun s d => match nextService s.trimAllowed d.service with
      | some k => { d with service := d.service.erase k }.begin_ [k]
      | none => d))
    (beginLine .service 0 0 5)

/-- The slot of the pending frame. -/
def State.pendingSlot (s : State) : Nat := s.fld F.ING_EPOCH_STATE_SLOT_READY

/-- The next line of all lanes (Table 9.3, R279). -/
def chooseLine (t : Time) : Prog :=
  .dyn (fun s =>
    let fills := s.pdl.fills
    let rect (k : ItemKind → Bool) : Bool := s.pdl.lanes.zipIdx.any (fun d => s.carries d.2 && (s.eligibleRects d.1).any k)
    let slateUnsent := fills.any (fun f => f.slate && f.unsent)
    match fills.find? (fun f => f.slate && s.lineEligible f t) with
    | some f => beginFillLine f .slateFill 1 t
    | none =>
      if slateUnsent then beginServiceLine
      else match fills.find? (fun f => !f.slate && f.fsn == s.N && s.lineEligible f t) with
        | some f => beginFillLine f .pendFill 2 t
        | none =>
          if rect (fun k => itemSlot k == s.pendingSlot) then beginRectLine (some s.pendingSlot)
          else match fills.find? (fun f => !f.slate && f.fsn != s.N && s.lineEligible f t) with
            | some f => beginFillLine f .specFill 3 t
            | none => if rect (fun _ => true) then beginRectLine none else beginServiceLine)

/-! ### Ends of lines and items -/

/-- RECTs of a half that are in flight (R282). -/
def State.rectsInFlight (s : State) (half : Nat) : Nat :=
  ((List.range 96).map (fun k => ((s.drive (half * 96 + k)).flight.filter (fun p =>
    match p.2 with | .rect _ _ _ _ => true | _ => false)).length)).sum

/-- RECTs of a half that the running line still holds. -/
def State.rectsSending (s : State) (half : Nat) : Nat :=
  ((List.range 96).map (fun k => ((s.drive (half * 96 + k)).sending.filter (fun p =>
    match p.2 with | .rect _ _ _ _ => true | _ => false)).length)).sum

/-- The data of an item are all in drive staging, so that its EOI can be sent (R276, R281). -/
def State.itemStaged (s : State) : ItemKind → Bool
  | .line fsn false _ line => match s.fillOf fsn with
    | some f => (List.range 16).all (fun c => f.groupComplete (16 * line + c))
    | none => true
  | .rect _ _ _ work => match s.grv.handed.find? (fun w => w.id == work) with
    | some w => w.done == 32
    | none => true
  | _ => true

/-- The running line may end: its items are staged in full (R276, R281), no more than 16 RECTs of a half are in flight
(R282). -/
def State.lineMayEnd (s : State) : Bool :=
  s.pdl.lanes.all (fun d => d.sending.all (fun p => s.itemStaged p.2)) &&
  (List.range 2).all (fun h => s.rectsInFlight h + s.rectsSending h ≤ 16)

/-- Works whose rows are all staged and whose RECTs have all left are no longer staged. -/
def dropSentWorks : Prog :=
  .dyn (fun s => .act (.grv (fun g => { g with handed := g.handed.filter (fun w =>
    w.done != 32 || s.pdl.lanes.any (fun d => (d.queue ++ d.sending.map (·.2)).any (fun k => match k with
      | .rect _ _ _ id => id == w.id
      | _ => false))) })))

/-- The items of a lane whose EOI leaves: each is sent with its bytes and is in flight from then on (R282). -/
def eoiLeaves (lane n : Nat) : Prog :=
  .dyn (fun s => .seq (.each ((s.drive lane).sending.take n) (fun p => .send (s.itemOut lane p.1 p.2)))
    (modDrive lane (fun d => { d with sending := d.sending.drop n, flight := d.flight ++ d.sending.take n })))

/-- The items of the running line leave (R273, R278). -/
def endLine (t : Time) : Prog :=
  .dyn (fun s => .block [
    .each (List.range 192) (fun i => eoiLeaves i (s.drive i).sending.length),
    (match s.pdl.running with
     | some (fsn, slate, line) => modFillAny fsn slate (fun f => { f with
        sentGroups := if slate then f.sentGroups else max f.sentGroups (16 * (line + 1))
        staged := f.staged.filter (fun c => c.row % 32 != line)
        lastEnd := if f.nextLine == 32 && f.resend.isEmpty then some t else f.lastEnd })
     | none => .nil),
    .act (.pdl (fun p => { p with running := none })),
    dropSentWorks])

/-- LINE_END (R277). -/
def execLineEnd (stamp : Time) (s : State) : Host.Outcome State Fault Refusal :=
  .next ((Prog.guard (fun s => s.lineMayEnd) (.seq (endLine stamp) (.dyn (fun s =>
    if s.flag F.PDL_CTRL_LINK_EN then chooseLine stamp
    else .seq (.act (.pdl (fun p => { p with kind := .none }))) (.setFld F.PDL_RASTER_KIND 0))))).go s)

/-- FILL_UNDERRUN_STALL (R140, R276): the first incomplete group of the running line is late. -/
def execFillUnderrunStall (fsn : Fsn) (s : State) : Host.Outcome State Fault Refusal :=
  .next ((Prog.dyn (fun s => match s.pdl.running, s.fillOf fsn with
    | some (n, false, line), some f =>
      match if n == fsn then (List.range 16).find? (fun c => !f.groupComplete (16 * line + c)) else none with
      | none => .nil
      | some c =>
        let g := 16 * line + c
        .block [
          .when (!f.lateGroups.contains g) (.count F.BIN_LATE_COUNT 1),
          .when f.lateGroups.isEmpty (.raise 210),
          .when (!f.lateGroups.any (fun x => x / 16 == line)) (.count F.PDL_UNDERRUN_COUNT 1),
          .when (!f.underran) (.raise 315),
          modFill fsn (fun f => { f with
            underran := true, lateGroups := if f.lateGroups.contains g then f.lateGroups else f.lateGroups ++ [g] })]
    | _, _ => .nil)).go s)

/-- A frame has a RECT queued, being sent or in flight (R249, R284). -/
def State.rectOut (s : State) (n : Fsn) : Bool :=
  s.pdl.lanes.any (fun d => (d.queue ++ d.busyItems).any (fun k => match k with
    | .rect fsn _ _ _ => fsn == n
    | _ => false))

/-- A frame has a bin queued or being re-synthesised (R249, R284). -/
def State.binOpen (s : State) (n : Fsn) : Bool :=
  (match s.epoch n with | some e => !e.queue.isEmpty | none => false) || s.resynthing n

/-- The frame becomes written where R284 holds. -/
def writtenCheck (n : Fsn) : Prog :=
  .dyn (fun s =>
    let fill := match s.fillOf n with | some f => f.frameDone && f.unconf.isEmpty | none => false
    .when (fill && !(s.latched n).written && !(s.latched n).unwritten && !s.rectOut n && !s.binOpen n)
      (.block [modLatched n (fun l => { l with written := true }), .setReg R.PDL_WRITTEN_FSN n, .raise 316, tryVote]))

/-- FRAME_DONE (R275). -/
def execFrameDone (fsn : Fsn) (slate : Bool) (s : State) : Host.Outcome State Fault Refusal :=
  .next ((Prog.dyn (fun s => match s.pdl.fills.find? (fun f => f.fsn == fsn && f.slate == slate) with
    | none => .nil
    | some f => .when (f.lastEnd.isSome && !f.unsent && !f.frameDone) (.block [
        modFillAny fsn slate (fun f => { f with frameDone := true }), .raise 314,
        .when (!slate) (writtenCheck fsn)]))).go s)

/-- The frame holds a role of Table 6.1. -/
def State.holdsRole (s : State) (n : Fsn) : Bool := n == s.S + 1 || n == s.S + 2 || s.ing.committed == some n

/-- Bins of a frame are queued again at the tail, unless its work has stopped or it holds no role (R143, R283): it is
then not written until its work restarts (R284). -/
def requeueBins (n : Fsn) (bins : List Nat) : Prog :=
  .dyn (fun s =>
    let ok := s.holdsRole n && (match s.epoch n with | some e => !e.workStop | none => false)
    if ok then .seq
      (modEpoch n (fun e =>
        let q := e.queue ++ bins.filter (fun b => !e.queue.contains b)
        { e with queue := q, st := if e.st == .synthesised && !q.isEmpty then .closed else e.st }))
      (modLatched n (fun l => { l with written := false }))
    else modLatched n (fun l => { l with unwritten := true }))

/-- PDL_ITEM_FAIL of a lane's half and EV_PDL_ITEM_FAIL (Tables 9.16, 9.18). -/
def countItemFail (lane : Nat) : Prog :=
  if lane < 96 then .seq (.count F.PDL_ITEM_FAIL0_COUNT 1) (.raise 317)
  else .seq (.count F.PDL_ITEM_FAIL1_COUNT 1) (.raise 349)

/-- An item fails (R283, R286, Table 9.12). -/
def failItem (lane : Nat) (k : ItemKind) : Prog :=
  .block [
    countItemFail lane,
    modDrive lane (fun d => { d with consec := d.consec + 1 }),
    (match k with
     | .rect fsn _ bin _ => .block [
        modDrive lane (fun d => { d with binFails := putKey bin (lookupD bin 0 d.binFails + 1) d.binFails }),
        requeueBins fsn [bin], writtenCheck fsn]
     | .line fsn false _ line => .block [
        modFill fsn (fun f => { f with unconf := f.unconf.filter (· != (lane, line)) }),
        requeueBins fsn ((List.range 128).map (fun i => laneBand lane * 256 + laneHalf lane * 128 + i)),
        writtenCheck fsn]
     | .line fsn true _ line => modFillAny fsn true (fun f => { f with
        unconf := f.unconf.filter (· != (lane, line)), resend := f.resend ++ [line] })
     | k => modDrive lane (fun d => { d with service := k :: d.service })),
    .dyn (fun s =>
      let third := match k with | .rect _ _ bin _ => lookupD bin 0 (s.drive lane).binFails == 3 | _ => false
      .when ((s.drive lane).consec == 3 || third) (driveFault lane 0x11))]

/-- A driver's answer to a CFG_READ at bring-up (R291, R299, Table 9.12). -/
def readBack (lane addr value : Nat) (t : Time) : Prog :=
  .dyn (fun s =>
    let d := s.drive lane
    if addr = 0 then .when (value / 2 ^ 16 != 1) (driveFault lane 0x12)
    else if addr = 1 then modDrive lane (fun d => { d with dfx := BitVec.ofNat 24 value })
    else match d.written.lookup addr with
      | none => .nil
      | some v =>
        if v % 2 ^ 24 != value then driveFault lane 0x12
        else modDrive lane (fun d =>
          let w := d.written.filter (fun p => p.1 != addr)
          { d with written := w, calStart := if w.isEmpty && d.calStart.isNone then some t else d.calStart }))

/-- An answer to an item of the running line shows that its EOI has left, and those of the items before it on its lane;
an EOI that had to wait for staging, or for one of the 16 places of its half, has not (R276, R281, R282). -/
def seenEoi (lane : Nat) (seq : BitVec 16) : Prog :=
  .dyn (fun s => match (s.drive lane).sending.findIdx? (fun p => p.1 == seq) with
    | none => .nil
    | some n =>
      let out := (s.drive lane).sending.take (n + 1)
      let rects := (out.filter (fun p => match p.2 with | .rect _ _ _ _ => true | _ => false)).length
      .when (out.all (fun p => s.itemStaged p.2) && s.rectsInFlight (laneHalf lane) + rects ≤ 16)
        (eoiLeaves lane (n + 1)))

/-- The item leaves flight. -/
def leaveFlight (lane : Nat) (seq : BitVec 16) : Prog :=
  modDrive lane (fun d => { d with flight := d.flight.filter (fun p => p.1 != seq) })

/-- PDL_CRC_ERR.RET of a lane's half (R295). -/
def countCrc (lane : Nat) : Prog :=
  if lane < 96 then .count F.PDL_CRC_ERR0_RET 1 else .count F.PDL_CRC_ERR1_RET 1

/-- Coding errors met on a return lane (R265, Tables 9.16, 10.11); the disparity errors beside them are open. -/
def countCoding (lane n : Nat) : Prog :=
  .when (n != 0) (.block [
    .count (if lane < 96 then F.PDL_CRC_ERR0_CODE else F.PDL_CRC_ERR1_CODE) n,
    .count (F.SDS_LCODE_ERR_CODE lane) n, .withFree (fun w => .count (F.SDS_LCODE_ERR_DISP lane) w.toNat)])

/-- A return item on a lane that carries items: coding errors are counted, an item with a wrong CRC is counted and
discarded (R265, R295, R305). -/
def returnItem (lane codeErrs : Nat) (crcOk : Bool) (p : Prog) : Prog :=
  .guard (fun s => s.carries lane) (.seq (countCoding lane codeErrs) (if crcOk then p else countCrc lane))

/-- A CONF with status OK (R284, R286, R299). -/
def itemConfirmed (lane : Nat) (k : ItemKind) (value : Nat) (t : Time) : Prog :=
  .seq (modDrive lane (fun d => { d with consec := 0 })) (match k with
    | .rect fsn _ bin _ => .block [
        modDrive lane (fun d => { d with binFails := d.binFails.filter (fun p => p.1 != bin) }), dropSentWorks,
        writtenCheck fsn]
    | .line fsn slate _ line => .seq
        (modFillAny fsn slate (fun f => { f with unconf := f.unconf.filter (· != (lane, line)) }))
        (.when (!slate) (writtenCheck fsn))
    | .cfgRead addr => readBack lane addr value t
    | _ => .nil)

/-- CONF_RECEIVE (R283, R284, R295, R296): a CONF whose SEQ no item in flight has is discarded. -/
def execConfReceive (lane : Nat) (seq : BitVec 16) (status : Byte) (value : BitVec 24) (codeErrs : Nat) (crcOk : Bool)
    (stamp : Time) (s : State) : Host.Outcome State Fault Refusal :=
  .next ((returnItem lane codeErrs crcOk (.seq (seenEoi lane seq) (.dyn (fun s =>
    match (s.drive lane).flight.lookup seq with
    | none => .nil
    | some k => .seq (leaveFlight lane seq)
        (if status != 0 then failItem lane k else itemConfirmed lane k value.toNat stamp))))).go s)

/-- RECT_CONF_TIMEOUT (R282, R295): an item whose CONF does not come leaves flight and fails. -/
def execRectConfTimeout (lane : Nat) (seq : BitVec 16) (s : State) : Host.Outcome State Fault Refusal :=
  .next ((Prog.when (decide (lane < 192)) (.seq (seenEoi lane seq) (.dyn (fun s =>
    match (s.drive lane).flight.lookup seq with
    | none => .nil
    | some k => .seq (leaveFlight lane seq) (failItem lane k))))).go s)

/-! ### Latency -/

/-- ECHO_SEND (R290). -/
def execEchoSend (lane : Nat) (stamp : Time) (s : State) : Host.Outcome State Fault Refusal :=
  .next ((Prog.guard (fun s => lane < 192 && (s.lane lane).st == .active) (.dyn (fun s => .block [
    modDrive lane (fun d => { d with echoId := d.echoId + 1, echoAt := some stamp }),
    .send (.echo lane ((s.drive lane).echoId + 1) (~~~((s.drive lane).echoId + 1)))]))).go s)

/-- LATADJ of a lane (Table 9.17). -/
def State.latAdj (s : State) (lane : Nat) : Int :=
  signedOf 12 (s.fld (if lane < 96 then F.PDL_LATADJ0_ADJ lane else F.PDL_LATADJ1_ADJ (lane - 96)))

/-- L of a lane (R291): over 64 samples the sum divided by 128. -/
def State.laneL (s : State) (lane : Nat) : Int :=
  let d := s.drive lane
  (d.samples.foldl (· + ·) 0) / ((2 * d.samples.length : Nat) : Int) + (d.dfx.toNat : Int) + s.latAdj lane

/-- PDL_LAT_k of a lane (Table 9.17). -/
def loadLat (lane : Nat) (l : Int) : Prog :=
  let f := if lane < 96 then F.PDL_LAT0_L lane else F.PDL_LAT1_L (lane - 96)
  let v := if lane < 96 then F.PDL_LAT0_VALID lane else F.PDL_LAT1_VALID (lane - 96)
  .seq (.setFld f (unsignedOf 20 l)) (.setFld v 1)

/-- A sample differs from the current mean by at most 2 ns; the first is taken (R291). -/
def DriveLane.accepts (d : DriveLane) (x : Int) : Bool :=
  d.samples.isEmpty || decide ((x * d.samples.length - d.samples.foldl (· + ·) 0).natAbs ≤ 512 * d.samples.length)

/-- An accepted or refused sample at bring-up: 256 are taken (R294). -/
def calibrationSample (lane : Nat) (x : Int) (t : Time) : Prog :=
  .block [
    modDrive lane (fun d => if d.accepts x then { d with
        samples := (x :: d.samples).take 64, calCount := d.calCount + 1
        calSpan := match d.calSpan with | some p => some (min p.1 x, max p.2 x) | none => some (x, x) }
      else { d with calCount := d.calCount + 1 }),
    .dyn (fun s =>
      let d := s.drive lane
      let wide := match d.calSpan with | some p => decide (256 < p.2 - p.1) | none => false
      let late := match d.calStart with | some t0 => decide (t0 + 10000000 * 256 ≤ t) | none => false
      if wide || late then driveFault lane 0x14
      else .when (d.calCount == 256) (.seq
        (modDrive lane (fun d => { d with bringL := some (s.laneL lane) })) (loadLat lane (s.laneL lane))))]

/-- A sample in service: L is recomputed and its drift judged (R291, R294). -/
def serviceSample (lane : Nat) (x bring : Int) : Prog :=
  .dyn (fun s =>
    if !(s.drive lane).accepts x then .nil
    else
      let before := s.laneL lane
      .seq (modDrive lane (fun d => { d with samples := (x :: d.samples).take 64 })) (.dyn (fun s =>
        let l := s.laneL lane
        let far := (l - bring).natAbs
        .block [
          loadLat lane l,
          .when (128 < far && (before - bring).natAbs ≤ 128) (.raise (if lane < 96 then 318 else 350)),
          .when (1024 < far) (driveFault lane 0x15)])))

/-- ECHO_REPLY_RECEIVE (R290, R291, R294). -/
def execEchoReplyReceive (lane : Nat) (e1 : Byte) (turn : BitVec 24) (codeErrs : Nat) (stamp : Time) (s : State) :
    Host.Outcome State Fault Refusal :=
  .next ((returnItem lane codeErrs true (.dyn (fun s =>
    let d := s.drive lane
    match d.echoAt with
    | none => .nil
    | some t0 =>
      if d.echoId != e1 then .nil
      else
        let x := stamp - t0 - (turn.toNat : Int)
        .seq (modDrive lane (fun d => { d with echoAt := none }))
          (match d.bringL with
           | some b => serviceSample lane x b
           | none => .when d.calStart.isSome (calibrationSample lane x stamp))))).go s)

/-- LATENCY_CAL_TIMEOUT (R294). -/
def execLatencyCalTimeout (lane : Nat) (s : State) : Host.Outcome State Fault Refusal :=
  .next ((Prog.guard (fun s => (s.drive lane).calStart.isSome && (s.drive lane).bringL.isNone) (driveFault lane 0x14)).go s)

/-! ### Driver status -/

/-- The coding-error count of a STATUS (R319): an event at most once a second, 16 within 1 s fail the lane. -/
def driverErrors (lane n : Nat) (t : Time) : Prog :=
  .dyn (fun s =>
    let l := s.lane lane
    if n ≤ l.drvErr then modLane lane (fun l => { l with drvErr := n })
    else
      let rises := (l.drvRises.filter (fun p => decide (t - 1000000000 * 256 < p.1))) ++ [(t, n - l.drvErr)]
      let told := match l.drvEvAt with | some u => decide (t < u + 1000000000 * 256) | none => false
      .block [
        modLane lane (fun l => { l with
          drvErr := n, drvRises := rises, drvEvAt := if told then l.drvEvAt else some t }),
        .when (!told) (.raiseAt 380 t),
        .when (decide (16 ≤ (rises.map (·.2)).sum)) (failLanes [lane] 0x09 t)])

/-- The first STATUS of a lane at least 10 microseconds after a TICK is held against it (Table 9.12). -/
def tickMatch (lane : Nat) (flags : Byte) (t : Time) : Prog :=
  .dyn (fun s => match s.pdl.tick with
    | none => .nil
    | some k =>
      if !(s.pdl.tickCheck.contains lane && decide (k.stamp + 10000 * 256 ≤ t)) then .nil
      else .seq (.act (.pdl (fun p => { p with tickCheck := p.tickCheck.filter (· != lane) })))
        (.when (bitsOf flags.toNat 1 0 != k.slot || bitOf flags.toNat 2 != k.pwm) (driveFault lane 0x13)))

/-- DRIVER_STATUS_RECEIVE (R295, R297, R300, R319). -/
def execDriverStatusReceive (lane : Nat) (st : DriverStatus) (codeErrs : Nat) (crcOk : Bool) (stamp : Time)
    (s : State) : Host.Outcome State Fault Refusal :=
  .next ((returnItem lane codeErrs crcOk (.block [
    modDrive lane (fun d => { d with
      lastStatus := some stamp, codeErrs := st.codeErr
      zoneTemps := if lane % 3 == 1 && bitOf st.flags.toNat 3 then d.zoneTemps ++ [(stamp, st.zoneT)] else d.zoneTemps
      aplTemp := if (lane == 1 || lane == 97) && bitOf st.flags.toNat 4 then some (stamp, st.aplT) else d.aplTemp }),
    .when (lane == 1 || lane == 97) (.seq (aplTempProg stamp) (lineBoundary stamp)),
    tickMatch lane st.flags stamp,
    driverErrors lane st.codeErr.toNat stamp])).go s)

/-- DRIVER_SILENT_TIMEOUT (R300). -/
def execDriverSilentTimeout (lane : Nat) (s : State) : Host.Outcome State Fault Refusal :=
  .next ((Prog.guard (fun s => lane < 192 && (s.lane lane).st == .active) (driveFault lane 0x10)).go s)

end Sys2Proof.Machine
end

