-- ==== Sys2Proof/Machine/Layers.lean ====
section
/-! DEFINITION. Overlay layers, the flattened cache, frame retirement, the slate and the blitter (chapter 08). -/

namespace Sys2Proof.Machine

/-! ### Layer commits -/

/-- The descriptor of live layer n (R236); its numbers as R580 reads them. -/
def State.liveDesc (s : State) (n : Nat) : List Word := (List.range 16).map (fun k =>
  let w := s.reg (R.LYR_DESC0 n + 4 * k)
  if 9 ≤ k && k ≤ 12 then fieldF32 w else w)

/-- Make sure that a frame has a record of latched values, with the slot that would hold it. -/
def needLatched (n : Fsn) : Prog :=
  .dyn (fun s => if s.pdl.frames.any (fun l => l.fsn == n) then .nil
    else .act (.pdl (fun p => { p with frames := p.frames ++ [{ fsn := n, slot := s.fld F.ING_EPOCH_STATE_SLOT_WORK }] })))

/-- The static groups of a layer set (R240). -/
def staticGroups (ds : List (List Word)) : List (List (List Word)) :=
  (planesOf (ds.filter descOn)).filter (fun g => g.all descStatic)

/-- LYR_STATUS.CACHED and FLATTEN_BUSY follow the slots (Table 8.8). -/
def cacheStatus : Prog :=
  .dyn (fun s => .seq
    (.setFld F.LYR_STATUS_CACHED ((s.lyr.cache.filter (fun c => !c.group.isEmpty && c.ready)).length))
    (.setFlag F.LYR_STATUS_FLATTEN_BUSY (s.lyr.cache.any (fun c => !c.group.isEmpty && !c.ready))))

/-- Slots whose group no held commit and no latched set uses are freed (R242). -/
def freeSlots : Prog :=
  .dyn (fun s =>
    let used := (match s.lyr.held with | some h => staticGroups h.descs | none => []) ++
      (s.pdl.frames.filter (fun l => !l.retired)).flatMap (fun l => staticGroups l.layers)
    .seq (.act (.lyr (fun l => { l with cache := l.cache.map (fun c => if used.contains c.group then c else {}) })))
      cacheStatus)

/-- Put a group into the first free slot while fewer than four are cached (R242). -/
def placeGroup (g : List (List Word)) (cache : List CacheSlot) : List CacheSlot :=
  if cache.any (fun c => c.group == g) || 4 ≤ (cache.filter (fun c => !c.group.isEmpty)).length then cache
  else match cache.findIdx? (fun c => c.group.isEmpty) with
    | some i => cache.set i { group := g, ready := false }
    | none => cache

/-- A write of LYR_COMMIT.GO (R237, R242, R243, R246, R251). -/
def layerCommitProg (stamp : Time) : Prog :=
  .dyn (fun s =>
    let ds := (List.range 8).map s.liveDesc
    match setFault ds with
    | some f => .block [
        .setFld F.LYR_STATUS_REJECT 1, .setFld F.LYR_STATUS_REJ_LAYER f.1, .setFld F.LYR_STATUS_REJ_WORD f.2,
        .raiseAt 274 stamp]
    | none => .block [
        .act (.lyr (fun l => { l with held := some { descs := ds, target := s.reg R.LYR_TARGET_FSN, stamp := stamp } })),
        .setFld F.LYR_STATUS_HELD 1,
        freeSlots,
        .act (.lyr (fun l => { l with cache := (staticGroups ds).foldl (fun c g => placeGroup g c) l.cache })),
        cacheStatus])

def execLayerCommitGo (stamp : Time) (s : State) : Host.Outcome State Fault Refusal :=
  .next ((layerCommitProg stamp).go s)

/-- A stamp lies before LYR_LATCH(N) = V(N) - LYR_GUARD × T_line (R244). -/
def State.beforeLatch (s : State) (n : Fsn) (t : Time) : Bool :=
  t * 10 + (s.fld F.LYR_CTRL_GUARD * s.lineSymbols (s.halfFan n) * 1024 : Nat) < s.specStart n * 10

/-- The held commit applies at this latch, where it counts (R245). -/
def applyCommit (n : Fsn) : Prog :=
  .dyn (fun s => match s.lyr.held with
    | none => .nil
    | some h =>
      if notBeforeFsn n h.target && s.beforeLatch n h.stamp then .block [
        .act (.lyr (fun l => { l with held := none, applied := h.descs })),
        .setFld F.LYR_STATUS_HELD 0, .setReg R.LYR_APPLIED_FSN n, .raise 272,
        .when (n != h.target) (.seq (.setFld F.LYR_STATUS_COMMIT_LATE 1) (.raise 273))]
      else .nil)

/-- LAYER_LATCH (R244, R245, R247). A frame latches once. -/
def execLayerLatch (fsn : Fsn) (s : State) : Host.Outcome State Fault Refusal :=
  .next ((Prog.guard (fun s => !(s.latched fsn).layersLatched && !s.frozen) (.block [
    needLatched fsn, applyCommit fsn,
    .dyn (fun s => modLatched fsn (fun l => { l with layers := s.lyr.applied, layersLatched := true })),
    freeSlots])).go s)

/-- The bytes of a cached group: (c_R, c_G, c_B, a) of each pixel, row by row (R242). -/
def State.flatBytes (s : State) (g : List (List Word)) : List Byte :=
  let w := s.rayView s.S
  let d := g.headD []
  (List.range (descHeight d)).flatMap (fun j => (List.range (descWidth d)).flatMap (fun i =>
    let p := s.planePixel w g i j
    [p.c.r, p.c.g, p.c.b, p.a].flatMap (fun x => leBytes 4 x.toNat)))

/-- FLATTEN_DONE (R242). -/
def execFlattenDone (slot : Nat) (s : State) : Host.Outcome State Fault Refusal :=
  .next ((Prog.dyn (fun s =>
    let c := s.lyr.cache.getD slot {}
    if c.group.isEmpty || c.ready then .nil
    else .block [
      .act (.mem (s.cacheAddr + slot * 0x4000000) (s.flatBytes c.group)),
      .act (.lyr (fun l => { l with cache := modAt l.cache slot (fun c => { c with ready := true }) })),
      cacheStatus])).go s)

/-- FRAME_RETIRED (R249): its swap instant has passed, and no RECT and no bin of it is outstanding. -/
def execFrameRetired (fsn : Fsn) (s : State) : Host.Outcome State Fault Refusal :=
  .next ((Prog.guard (fun s => s.pdl.frames.any (fun l => l.fsn == fsn && !l.retired) && !laterFsn fsn s.S &&
      !s.rectOut fsn && !s.binOpen fsn)
    (.block [
      modLatched fsn (fun l => { l with retired := true }), .setReg R.LYR_RETIRED_FSN fsn, .raise 275,
      freeSlots, retireCheck])).go s)

/-! ### The slate -/

/-- The slate breaks R237, a reserved bit of words 0 to 15 is set, or the table lies outside DRAM (R252). -/
def State.slateBad (s : State) : Bool :=
  let a := s.slateAddr
  let w := wordsOf (s.bytes a 64)
  let f (k : Nat) : Nat := (w.getD k 0).toNat
  !rangeInDram a 576 || 256 ≤ f 0 || (List.range 3).any (fun k => 2 ^ 20 ≤ f (k + 1)) ||
  (List.range 12).any (fun k => f (k + 4) != 0) || (setFault s.slateDescs).isSome

/-- LYR_CTRL.LOCK is set: the slate is checked (R252, Table 19.6). -/
def lockLayers : Prog :=
  .dyn (fun s => if s.flag F.LYR_CTRL_LOCK then .nil
    else .seq (.setFld F.LYR_CTRL_LOCK 1) (.dyn (fun s =>
      if s.slateBad then .withFree (fun w => enterFault 0x14 0x0B 0x33 w.toNat)
      else .act (.lyr (fun l => { l with slateOk := true })))))

/-- SLATE_FILL_END (R254): the slate is shown from the next swap instant on. -/
def execSlateFillEnd (s : State) : Host.Outcome State Fault Refusal :=
  .next ((Prog.dyn (fun s =>
    .when (s.lyr.slateWait && s.pdl.fills.any (fun f => f.slate && f.frameDone && f.unconf.isEmpty && !f.unsent)) (.block [
      .act (.lyr (fun l => { l with slateDone := true })),
      .act (.pdl (fun p => { p with fills := p.fills.filter (fun f => !f.slate) }))]))).go s)

/-! ### The blitter -/

/-- Bytes per pixel (Table 8.4). -/
def bltBpp : Nat → Nat
  | 0 => 4
  | 1 => 4
  | 2 => 1
  | _ => 2

/-- A rectangle as the blitter addresses it (R257). -/
structure BltRect where
  base : Nat
  pitch : Nat
  x : Nat
  y : Nat
  w : Nat
  h : Nat
  fmt : Nat
  deriving DecidableEq, Repr

/-- Address of pixel x of row j. -/
def BltRect.at_ (r : BltRect) (i j : Nat) : Nat := r.base + (r.y + j) * r.pitch + (r.x + i) * bltBpp r.fmt
/-- Bytes of a row. -/
def BltRect.rowBytes (r : BltRect) : Nat := r.w * bltBpp r.fmt
/-- A row wraps (R257). -/
def BltRect.wraps (r : BltRect) : Bool := r.pitch < (r.x + r.w) * bltBpp r.fmt
/-- Rows as byte ranges. -/
def BltRect.rows (r : BltRect) : List (Nat × Nat) := (List.range r.h).map (fun j => (r.at_ 0 j, r.rowBytes))
/-- The byte set lies wholly within DRAM or within one SRAM region (Table 8.5). -/
def BltRect.inRange (r : BltRect) : Bool :=
  let a := r.at_ 0 0
  let n := r.at_ 0 (r.h - 1) + r.rowBytes - a
  rangeInDram a n || rangeInSram a n
/-- Address and pitch alignment (Table 8.4). -/
def BltRect.aligned (r : BltRect) : Bool := r.base % bltBpp r.fmt == 0 && r.pitch % bltBpp r.fmt == 0

/-- The source rectangle of the registers. -/
def State.bltSrc (s : State) (fmt : Nat) : BltRect :=
  { base := s.addr F.BLT_SRC_LO_ADDR_LO F.BLT_SRC_HI_ADDR_HI, pitch := s.fld F.BLT_SRC_PITCH_PITCH
    x := s.fld F.BLT_SRC_XY_X, y := s.fld F.BLT_SRC_XY_Y, w := s.fld F.BLT_SIZE_W, h := s.fld F.BLT_SIZE_H, fmt := fmt }

/-- The destination rectangle of the registers. -/
def State.bltDst (s : State) (fmt : Nat) : BltRect :=
  { base := s.addr F.BLT_DST_LO_ADDR_LO F.BLT_DST_HI_ADDR_HI, pitch := s.fld F.BLT_DST_PITCH_PITCH
    x := s.fld F.BLT_DST_XY_X, y := s.fld F.BLT_DST_XY_Y, w := s.fld F.BLT_SIZE_W, h := s.fld F.BLT_SIZE_H, fmt := fmt }

/-- The three operations (Table 8.11). -/
inductive BltOpKind | copy | fill | blend
  deriving DecidableEq, Repr

/-- Source and destination share a byte. -/
def bltOverlap (a b : BltRect) : Bool := a.rows.any (fun p => b.rows.any (fun q => p.1 < q.1 + q.2 && q.1 < p.1 + p.2))

/-- The first failing check of Table 8.5, 0 for none (R261). -/
def State.bltCheck (s : State) (op : BltOpKind) (src dst : BltRect) : Nat :=
  let reads := op != .fill
  let argb (f : Nat) : Bool := f ≤ 1
  if dst.w == 0 || dst.h == 0 || dst.pitch == 0 || (reads && src.pitch == 0) ||
      (op == .fill && dst.fmt == 3 && s.fld ⟨R.BLT_COLOUR, 15, 10⟩ != 0) then 0x01
  else if (op == .blend && !(argb src.fmt && argb dst.fmt)) || (op == .copy && argb src.fmt != argb dst.fmt) then 0x02
  else if !dst.aligned || (reads && !src.aligned) then 0x03
  else if !dst.inRange || (reads && !src.inRange) then 0x04
  else if reads && bltOverlap src dst &&
      !(src.pitch == dst.pitch && src.fmt == dst.fmt && !src.wraps && !dst.wraps) then 0x05
  else if dst.rows.any (fun r => s.pinned r.1 r.2) then 0x06
  else 0

/-- round(p / q), ties to even. -/
def roundRatio (p q : Nat) : Nat := (rneDivInt p q).toNat

/-- Bits of a channel of a format: alpha (0) and colours (1 to 3: R, G, B). -/
def bltBits (fmt k : Nat) : Nat := if fmt = 0 then 8 else if k = 0 then 2 else 10

/-- Place of a channel (Table 8.4). -/
def bltShift (fmt k : Nat) : Nat := if k = 0 then (if fmt = 0 then 24 else 30) else (3 - k) * bltBits fmt k

/-- Channel k of a pixel. -/
def bltChan (fmt px k : Nat) : Nat := px / 2 ^ bltShift fmt k % 2 ^ bltBits fmt k

/-- A pixel from its channels. -/
def bltPack (fmt : Nat) (f : Nat → Nat) : Nat := ((List.range 4).map (fun k => f k * 2 ^ bltShift fmt k)).sum

/-- A pixel converted by COPY (R258). -/
def bltConvert (a b px : Nat) : Nat :=
  if a = b then px
  else if a ≤ 1 then bltPack b (fun k => roundRatio (bltChan a px k * (2 ^ bltBits b k - 1)) (2 ^ bltBits a k - 1))
  else if a = 2 then roundRatio (px * 1023) 255
  else roundRatio (px % 1024 * 255) 1023

/-- One pixel of BLEND (R259). -/
def bltBlendPixel (sf df g sp dp : Nat) : Nat :=
  let n (f k : Nat) : Nat := 2 ^ bltBits f k - 1
  let a := bltChan sf sp 0 * g
  let aa := n sf 0 * 255
  let d := bltChan df dp 0
  let dd := n df 0
  let t := a * dd + d * (aa - a)
  bltPack df (fun k =>
    if k = 0 then roundRatio (t * dd) (aa * dd)
    else if t = 0 then 0
    else roundRatio ((bltChan sf sp k * n df k * a * dd + bltChan df dp k * n sf k * d * (aa - a)) * n df k)
      (n sf k * n df k * t))

/-- The bytes of destination row j (R258, R259). -/
def State.bltRow (s : State) (op : BltOpKind) (src dst : BltRect) (g j : Nat) : List Byte :=
  let db := bltBpp dst.fmt
  (List.range dst.w).flatMap (fun i =>
    let sp := leNat (s.bytes (src.at_ i j) (bltBpp src.fmt))
    leBytes db (match op with
      | .fill => (s.reg R.BLT_COLOUR).toNat
      | .copy => bltConvert src.fmt dst.fmt sp
      | .blend => bltBlendPixel src.fmt dst.fmt g sp (leNat (s.bytes (dst.at_ i j) db))))

/-- A row cut into runs within lines, ascending. -/
def lineRuns : Nat → Nat → List Byte → List (Nat × List Byte)
  | 0, _, _ => []
  | k + 1, a, bs => if bs.isEmpty then [] else
      let n := 128 - a % 128
      (a, bs.take n) :: lineRuns k (a + n) (bs.drop n)

/-- What an operation writes, in processing order (R258, R260). -/
def State.bltRuns (s : State) (op : BltOpKind) (src dst : BltRect) (g : Nat) : List (Nat × List Byte) :=
  let meet := op != .fill && bltOverlap src dst
  let row (j : Nat) : List (Nat × List Byte) := lineRuns (dst.rowBytes / 128 + 2) (dst.at_ 0 j) (s.bltRow op src dst g j)
  let down := List.range dst.h
  if !meet then down.flatMap row
  else if src.y < dst.y then down.reverse.flatMap row
  else if dst.y < src.y then down.flatMap row
  else if src.x < dst.x then down.flatMap (fun j => (row j).reverse)
  else if dst.x < src.x then down.flatMap row
  else []

/-- The first poisoned line that an operation reads: the source's, and for BLEND the destination's. -/
def State.bltPoison (s : State) (op : BltOpKind) (src dst : BltRect) : Option Nat :=
  let reads := (if op = .fill then [] else src.rows) ++ (if op = .blend then dst.rows else [])
  (reads.flatMap (fun r => linesOf r.1 r.2)).find? s.lineBad

/-- BLT_CTRL as a START write leaves it (Table 8.11). -/
def bltCtrl (op : BltOpKind) (sf df : BitVec 2) (g : Byte) : Word :=
  BitVec.ofNat 32 ((match op with | .copy => 0 | .fill => 1 | .blend => 2) + sf.toNat * 16 + df.toNat * 64 + g.toNat * 65536)

/-- A START write (R256, R261): an uncorrectable read leaves the destination partly written, how far is an open value. -/
def bltStart (op : BltOpKind) (sf df : BitVec 2) (g : Byte) : Prog :=
  .dyn (fun s =>
    if s.lyr.blt.isSome then .seq (.setFld F.BLT_STATUS_REJECTED 1) (.raise 305)
    else
      let src := s.bltSrc sf.toNat
      let dst := s.bltDst df.toNat
      let code := s.bltCheck op src dst
      let go (c : Nat) (runs : List (Nat × List Byte)) : Prog := .act (.lyr (fun l => { l with blt := some { code := c, todo := runs } }))
      .block [
        .setReg R.BLT_CTRL (bltCtrl op sf df g), .setFld F.BLT_STATUS_BUSY 1,
        if code != 0 then go code []
        else match s.bltPoison op src dst with
          | none => go 0 (s.bltRuns op src dst g.toNat)
          | some line => .seq (uncorrectable line 0x10 0xFF none) (.withFree (fun w =>
              let runs := s.bltRuns op src dst g.toNat
              go 0x07 (runs.take (w.toNat % (runs.length + 1)))))])

def execBltCopy (srcFmt dstFmt : BitVec 2) (galpha : Byte) (s : State) : Host.Outcome State Fault Refusal :=
  .next ((bltStart .copy srcFmt dstFmt galpha).go s)

def execBltFill (srcFmt dstFmt : BitVec 2) (galpha : Byte) (s : State) : Host.Outcome State Fault Refusal :=
  .next ((bltStart .fill srcFmt dstFmt galpha).go s)

def execBltBlend (srcFmt dstFmt : BitVec 2) (galpha : Byte) (s : State) : Host.Outcome State Fault Refusal :=
  .next ((bltStart .blend srcFmt dstFmt galpha).go s)

/-- Write the runs until one is discarded for a pin (R250, R261). -/
def bltWrite : List (Nat × List Byte) → Nat → Prog
  | [], code => .act (.lyr (fun l => { l with blt := some { code := code } }))
  | r :: rest, code => .dyn (fun s =>
      .seq (memWrite 0x10 r.1 r.2)
        (if inDram r.1 && s.pinned r.1 r.2.length then .act (.lyr (fun l => { l with blt := some { code := 0x06 } }))
         else bltWrite rest code))

/-- BLT_DONE (R256). -/
def execBltDone (s : State) : Host.Outcome State Fault Refusal :=
  .next ((Prog.dyn (fun s => match s.lyr.blt with
    | none => .nil
    | some b => .block [
        bltWrite b.todo b.code,
        .dyn (fun s => .setFld F.BLT_STATUS_CODE ((s.lyr.blt.map (·.code)).getD 0)),
        .act (.lyr (fun l => { l with blt := none })),
        .setFld F.BLT_STATUS_BUSY 0, .raise 304])).go s)

end Sys2Proof.Machine
end

