-- ==== Sys2Proof/Machine/Image.lean ====
section
/-! DEFINITION. The configuration image: header, sections, the policy it holds, and staging a changed image (R417, R496,
R497, R513, Tables 17.8 and 17.9). The words of a POLICY, FABRIC or PANEL body follow each other in the order in which
Table 17.9 names them (log entry 21). -/

namespace Sys2Proof.Machine

/-- Which image the boot-pointer record names (Table 18.10). -/
def State.configIndex (s : State) : Nat := match s.ptr with | some p => p.config | none => 0

/-- The signature that the device makes with its staging key: test keys only in TEST (R517, Table 18.1). -/
def State.dskSign (s : State) (b : List Byte) : List Byte :=
  if s.lc == .provisioned || s.lc == .field then Config.dskSign b else Config.testSign b

/-- The configuration image in force (R496, R513). -/
def State.image (s : State) : ConfigImage := s.nvm.configs.getD s.configIndex {}

/-- The sections of an image body: type and body of each. -/
def imageSections : Nat → List Byte → List (Nat × List Byte)
  | 0, _ => []
  | k + 1, b =>
    if b.length < 8 then [] else
      let n := leAt b 4 4
      (byteAt b 0, (b.drop 8).take n) :: imageSections k (b.drop (8 + n))

/-- The bytes of an image that its signature covers. -/
def ConfigImage.signed (c : ConfigImage) : List Byte := c.bytes.take (leAt c.bytes 12 4)

/-- The sections of an image. -/
def ConfigImage.sections (c : ConfigImage) : List (Nat × List Byte) :=
  imageSections (leAt c.bytes 16 2) (c.signed.drop 128)

/-- The body of the first section of a type. -/
def sectionBody (l : List (Nat × List Byte)) (t : Nat) : List Byte := (l.lookup t).getD []

/-- Word `i` of a section body. -/
def bodyWord (b : List Byte) (i : Nat) : Word := BitVec.ofNat 32 (leAt b (4 * i) 4)

/-- The POLICY body in force. -/
def State.policyBody (s : State) : List Byte := sectionBody s.image.sections 4

/-- POLICY_DIGEST: the first 32 bytes of the SHA3-512 of the POLICY body (Table 14.3, Table 17.9). -/
def State.policyDigest (s : State) : BitVec 256 := (Config.sha3 s.policyBody).setWidth 256

/-- A set of nodes from a map of 4,096 bytes (R417). -/
def setOfBytes (b : List Byte) : BitVec 32768 := BitVec.ofNat 32768 (leNat (b.take 4096))

/-- Expected set E of the POLICY section. -/
def State.imageE (s : State) : BitVec 32768 := setOfBytes (s.policyBody.drop 64)
/-- Excluded set X of the POLICY section. -/
def State.imageX (s : State) : BitVec 32768 := setOfBytes (s.policyBody.drop (64 + 4096))

/-- The bytes of a section. -/
def sectionBytes (p : Nat × List Byte) : List Byte := leBytes 4 p.1 ++ leBytes 4 p.2.length ++ p.2

/-- SEQ of an image (Table 17.8). -/
def imageSeq (c : ConfigImage) : Word := BitVec.ofNat 32 (leAt c.bytes 8 4)

/-- KEY_ID is the digest of the owner key or of the DSK, and the signature behind LENGTH bytes verifies under that key
(R496, R517). -/
def State.imageSigOk (s : State) (c : ConfigImage) : Bool :=
  let key := (c.bytes.drop 20).take 64
  let sig := c.bytes.drop (leAt c.bytes 12 4)
  let dsk := key == digestBytes Config.dskKeyId
  (dsk && sig == s.dskSign c.signed) || ((dsk || s.sec.fuses.ownerDigest == some key) && Config.configSigOk key c.signed sig)

/-- The bytes of a new image before its signature: the same node and SEQ one more, under the DSK (R513, Table 17.8). -/
def restagedBody (c : ConfigImage) (secs : List (Nat × List Byte)) : List Byte :=
  let body := secs.flatMap sectionBytes
  leBytes 4 0x47494643 ++ leBytes 1 1 ++ leBytes 3 0 ++ leBytes 4 (imageSeq c + 1).toNat ++
    leBytes 4 (128 + body.length) ++ leBytes 2 secs.length ++ (c.bytes.drop 18).take 2 ++ digestBytes Config.dskKeyId ++
    List.replicate 44 0 ++ body

/-- A new image with given sections, signed with the device staging key (R513, Table 17.8). -/
def State.restaged (s : State) (secs : List (Nat × List Byte)) : ConfigImage :=
  { bytes := restagedBody s.image secs ++ s.dskSign (restagedBody s.image secs) }

/-- The image is at most 98 % of its partition of 64 MiB (R495, Table 17.6). -/
def imageFits (c : ConfigImage) : Bool := decide (100 * c.bytes.length ≤ 98 * 2 ^ 26)

/-- Staging the sections cannot be done: the staging key is withheld, no boot-pointer record is in force, the NAND fails
the read-back, or the image is too long for its partition (R495, R513, Table 18.1). -/
def State.stageFails (s : State) (secs : List (Nat × List Byte)) : Bool :=
  s.lc == .returned || s.ptr.isNone || s.nvm.ptrFail || !imageFits (s.restaged secs)

/-- Steps 2 and 3 of R513: the image goes into the inactive partition, the boot-pointer record names it, and M7 takes it
(Table 18.4). -/
def stageSections (secs : List (Nat × List Byte)) : Prog :=
  .dyn (fun s => match s.ptr with
    | none => .nil
    | some p =>
      let img := s.restaged secs
      let other := 1 - s.configIndex
      .block [
        .act (.nvm (fun n => { n with configs := n.configs.set other img })),
        writePtr { p with config := other },
        measure 7 img.bytes])

/-- Replace or add the section of a type. -/
def putSection (t : Nat) (b : List Byte) (l : List (Nat × List Byte)) : List (Nat × List Byte) :=
  if l.any (fun p => p.1 == t) then l.map (fun p => if p.1 == t then (t, b) else p) else l ++ [(t, b)]

/-- The POLICY body of a policy in registers, and sets E and X (Table 17.9). -/
def policyBytes (words : List Word) (e x : BitVec 32768) : List Byte :=
  words.flatMap (fun w => leBytes 4 w.toNat) ++ leBytes 4096 e.toNat ++ leBytes 4096 x.toNat

/-- The registers that the POLICY section names, in its order (Table 17.9). -/
def policyRegs : List Nat :=
  [R.CMT_T_SCENE, R.CMT_T_AMEND, R.CMT_T_VOTE, R.CMT_T_COMMIT, R.CMT_T_LOCAL, R.CMT_HOLD_LIMIT, R.CMT_RATE,
   R.CMT_GENLOCK_OFS, R.TIM_ROOT, R.COL_CTRL, R.COL_LIN_SCALE, R.COL_PWR_BUDGET, R.COL_PWR_CEIL, R.COL_LIMIT_CFG,
   R.COL_LIMIT_START, R.ING_TEX_STORE]

/-- The sixteen policy words as the registers hold them; of COL_CTRL the section holds INPUT_TF alone. -/
def State.policyWords (s : State) : List Word :=
  policyRegs.map (fun r => if r = R.COL_CTRL then s.reg r &&& 1 else s.reg r)

/-- The sections of the image in force with new policy words and sets. -/
def State.policySections (s : State) (words : List Word) (e x : BitVec 32768) : List (Nat × List Byte) :=
  putSection 4 (policyBytes words e x) s.image.sections

/-- Stage the image with new policy words and sets (R513). -/
def stagePolicy (words : List Word) (e x : BitVec 32768) : Prog :=
  .dyn (fun s => stageSections (s.policySections words e x))

end Sys2Proof.Machine
end

