-- ==== Sys2Proof/Machine/Time.lean ====
section
/-! DEFINITION. Canopy time (chapter 13): trees, link exchanges, domain states, the followed domain, PTP house time and
the capture channels. -/

namespace Sys2Proof.Machine

/-- Change one domain. -/
def modDom (d : Bool) (f : Domain → Domain) : Prog :=
  .act (.tim (fun c => { c with doms := modAt c.doms (if d then 1 else 0) f }))

/-- A domain holds time lock (R394). -/
def Domain.lock (d : Domain) : Bool := d.st == .locked || d.st == .holdover || d.st == .root

/-- TIM_ROOT's address for a domain (R399). -/
def State.rootOf (s : State) (d : Bool) : BitVec 16 := if d then s.rootB else s.rootA

/-- A node port is time-capable and usable (R358, R385). -/
def State.timePort (s : State) (p : Nat) : Bool :=
  match s.here with
  | none => false
  | some a => p < 4 && s.flag (F.TIM_ASYM_VALID p) && s.linkUsable (addrX a) (addrY a) p

/-- Raise an event at a LOCAL instant; its stamp is fabric time. -/
def Prog.raiseLocal (e : Nat) (l : Time) : Prog := .dyn (fun s => .raiseAt e (s.fabricAt l))

/-- The node holds time lock (R394). -/
def State.timeLock (s : State) : Bool := (s.dom s.tim.follow).lock

/-- A port is a parent candidate of a domain at a LOCAL instant (R387, R389). -/
def State.isCandidate (s : State) (d : Bool) (p : Nat) (l : Time) : Bool :=
  s.timePort p && (match (s.dom d).cands.getD p none with
    | none => false
    | some c => c.fresh l && c.timed && !c.parent && decide (c.depth ≤ 63) && c.root == s.rootOf d)

/-! ### Offsets and rates (R377, R391, R399) -/

/-- The offset written down at a LOCAL instant; the domain's time does not move. -/
def Domain.rebase (d : Domain) (l : Time) : Domain := { d with offset := d.ofs l, base := l }

/-- A correction of at most `bound` that removes theta: against its sign (R391, R399). How large a part of the bound the
X1024 takes is open. -/
def slewPart (bound theta : Int) (n : Nat) : Int :=
  if theta = 0 then 0 else if 0 < theta then -(min (n : Int) bound) else min (n : Int) bound

/-- A domain is steered toward its source from a LOCAL instant by its rate alone: the source's rate against LOCAL, where
none is given an open value, and a correction within the bound (R391, R399, log entry 52). -/
def steer (d : Bool) (source : Option Int) (bound theta : Int) (l : Time) : Prog :=
  .withFree (fun a => .withFree (fun b => modDom d (fun x => { x.rebase l with
    track := source.getD a.toInt, corr := slewPart bound theta b.toNat })))

/-- A domain runs on LOCAL (R399). -/
def runLocal (d : Bool) (l : Time) : Prog := modDom d (fun x => { x.rebase l with track := 0, corr := 0 })

/-- A root steers its domain from the first source available after the initial step: A from HOUSE or LOCAL, B from
Canopy A, HOUSE or LOCAL (R399, Table 13.6a). -/
def steerRoot (d : Bool) (l : Time) : Prog :=
  .dyn (fun s =>
    let x := s.dom d
    let a := s.dom false
    if x.st != .root then .nil
    else if d && a.lock then steer d (some a.rate) 1000000 (x.ofs l - a.ofs l) l
    else if s.tim.house then steer d none 10000 (x.ofs l - s.tim.houseLocal) l
    else runLocal d l)

/-- Both roots' domains are steered (R399). -/
def steerRoots (l : Time) : Prog := .seq (steerRoot false l) (steerRoot true l)

/-- The DEPTH that a port's partner announced. -/
def State.candDepth (s : State) (d : Bool) (p : Nat) : Nat :=
  match (s.dom d).cands.getD p none with | some c => c.depth | none => 64

/-- The candidate of least DEPTH, lowest port among equals (R387). -/
def State.bestCandidate (s : State) (d : Bool) (l : Time) : Option Nat :=
  ([0, 1, 2, 3].filter (fun p => s.isCandidate d p l)).foldl
    (fun acc p => match acc with
      | none => some p
      | some q => if s.candDepth d p < s.candDepth d q then some p else some q) none

/-- A limit of HOLDOVER has passed at a LOCAL instant: 100 ms, or 10 ms without a candidate (R390, Table 13.5). -/
def Domain.expired (d : Domain) (l : Time) : Bool :=
  d.st == .holdover && (decide (d.since + 100000000 * 256 ≤ l) ||
    (match d.candLost with | some t => decide (t + 10000000 * 256 ≤ l) | none => false))

/-- The node changes the domain it follows when the followed one has lost lock at this instant and the other holds it and
does not lose it at the same instant; the bridge offset keeps fabric time where it was (R397, R398). -/
def followCheck (l : Time) : Prog :=
  .dyn (fun s =>
    let cur := s.dom s.tim.follow
    let oth := s.dom (!s.tim.follow)
    if !cur.lock && cur.lostAt == some l && oth.lock && !oth.expired l then .block [
      .act (.tim (fun c => { c with follow := !c.follow, beta := cur.ofs l + s.betaNow l - oth.ofs l, betaAt := l })),
      .raiseLocal 99 l]
    else .nil)

/-- A MEMBER whose two domains are both FREE enters FAULT (R395). -/
def timeLostCheck : Prog :=
  .dyn (fun s => .when (s.node == .member && (s.dom false).st == .free && (s.dom true).st == .free) (cmtFault 0x21))

/-- A domain takes a parent, or none: its exchanges start afresh (R381, R391 to R393). -/
def Domain.withParent (d : Domain) (p : Option Nat) (l : Time) : Domain :=
  { d with
    parent := p, ds := [], thetas := [], t1 := none, lastAcc := none, depth := 64
    candLost := if p.isSome then none else if d.candLost.isSome then d.candLost else some l
    cands := d.cands.map (fun o => o.map (fun c => { c with lowSince := none })) }

/-- The mean of a list, truncated toward 0. -/
def meanInt (l : List Int) : Int := if l.isEmpty then 0 else Int.tdiv (l.foldl (· + ·) 0) l.length

/-- A domain enters HOLDOVER: the mean rate of the last 16 exchanges is held, without a correction (R391). -/
def Domain.holdOver (d : Domain) (l : Time) : Domain :=
  { d.rebase l with st := .holdover, since := l, rateHeld := true, track := meanInt d.rates, corr := 0 }

/-- A domain goes FREE and runs on with its last rate (R390, Tables 13.4 and 13.8). -/
def goFree (d : Bool) (l : Time) : Prog :=
  .block [
    modDom d (fun x => { x.withParent none l with
      st := .free, stepped := false, rateHeld := false, since := l, lostAt := if x.lock then some l else x.lostAt }),
    .raiseLocal 97 l, followCheck l, steerRoots l, timeLostCheck]

/-- A domain without a parent takes the best candidate: FREE goes to ACQUIRE, HOLDOVER re-parents (R387, R390). -/
def chooseParent (d : Bool) (l : Time) : Prog :=
  .dyn (fun s =>
    let x := s.dom d
    if x.parent.isSome || x.st == .root then .nil
    else match s.bestCandidate d l with
      | none => modDom d (fun x => { x with candLost := if x.candLost.isSome then x.candLost else some l })
      | some p =>
        if x.st == .free then
          modDom d (fun x => { x.withParent (some p) l with st := .acquire, since := l, stepped := false })
        else .block [modDom d (fun x => x.withParent (some p) l), .raiseLocal 98 l])

/-- The parent of a domain is lost (R390): LOCKED holds over, ACQUIRE goes FREE; then a new parent is chosen. -/
def loseParent (d : Bool) (l : Time) : Prog :=
  .dyn (fun s =>
    let x := s.dom d
    if x.parent.isNone then .nil
    else .block [
      (match x.st with
       | .acquire => goFree d l
       | .locked => modDom d (fun x => (x.withParent none l).holdOver l)
       | _ => modDom d (fun x => x.withParent none l)),
      chooseParent d l])

/-- A better parent has been offered for 1 s (R387): a re-parent. -/
def reParent (d : Bool) (p : Nat) (l : Time) : Prog :=
  .block [
    modDom d (fun x => if x.st == .locked then (x.withParent (some p) l).holdOver l else x.withParent (some p) l),
    .raiseLocal 98 l]

/-- With time lock a node that reckons no frame yet takes S from fabric time (R56). -/
def alignNow (l : Time) : Prog := .dyn (fun s => .when s.timeLock (alignFrames (s.fabricAt l)))

/-- A root's domain at ENABLE: one step from its source (R390, R399, Table 13.6a). -/
def startRoot (d : Bool) (l : Time) : Prog :=
  .dyn (fun s =>
    if s.here == some (s.rootOf d) then
      let other := s.dom (!d)
      let ofs := if other.lock then other.ofs l else if s.tim.house then s.tim.houseLocal else 0
      .block [
        modDom d (fun x => { x.withParent none l with
          st := .root, depth := 0, offset := ofs, base := l, since := l, candLost := none }),
        steerRoot d l, .raiseLocal 96 l, alignNow l]
    else .nil)

/-- TIM_CTRL.ENABLE written 1 (R390, R397, R399). -/
def timeEnableProg (pref : Bool) (l : Time) : Prog :=
  .dyn (fun s =>
    if s.flag F.TIM_CTRL_ENABLE then .setFlag F.TIM_CTRL_PREF pref
    else .block [
      .setFlag F.TIM_CTRL_PREF pref, .setFld F.TIM_CTRL_ENABLE 1,
      .act (.tim (fun c => { c with follow := pref, beta := 0, betaAt := l })), .atLocal l,
      startRoot false l, startRoot true l,
      chooseParent false l, chooseParent true l])

def execTimeEnable (pref : Bool) (loc : Time) (s : State) : Host.Outcome State Fault Refusal :=
  .next ((timeEnableProg pref loc).go s)

/-- The ANNOUNCE body for one port (Table 13.2, R386). -/
def announceBytes (s : State) (d : Bool) (p : Nat) : List Byte :=
  let x := s.dom d
  let depth := if x.st == .root then 0 else if x.lock then
      (match x.parent with | some q => min 64 (s.candDepth d q + 1) | none => 64) else 64
  leBytes 1 1 ++ leBytes 1 (boolNat d + 2 * boolNat (x.parent == some p) + 4 * boolNat x.lock) ++
  leBytes 2 (s.rootOf d).toNat ++ leBytes 1 depth ++ leBytes 3 0 ++ leBytes 2 (s.here.getD 0).toNat ++ leBytes 2 0

/-- ANNOUNCE_SEND (R386): on every time-capable usable node port; an absent parent is found lost here as well. -/
def execAnnounceSend (domain : Bool) (loc : Time) (s : State) : Host.Outcome State Fault Refusal :=
  .next ((Prog.guard (fun s => s.flag F.TIM_CTRL_ENABLE) (.seq (.atLocal loc) (.dyn (fun s => .block [
    (match (s.dom domain).parent with
     | some p => .when (!s.isCandidate domain p loc) (loseParent domain loc)
     | none => chooseParent domain loc),
    .dyn (fun s => .each ([0, 1, 2, 3].filter s.timePort) (fun p => sendLink 0 2 p (announceBytes s domain p)))])))).go s)

/-- ANNOUNCE_RECEIVE (R386 to R389, R393): a reserved bit that is not 0, or a DEPTH above 64, is a bad message. A VOTE that
waited for a child port that is none any more goes (R409). -/
def execAnnounceReceive (port : Nat) (msg : AnnounceMsg) (loc : Time) (s : State) :
    Host.Outcome State Fault Refusal :=
  .next ((Prog.guard (fun s => s.flag F.TIM_CTRL_ENABLE && port < 4) (
    if msg.rsv != 0 || msg.depth > 64 then discardPacket 0x06 msg.addr
    else .block [
      .atLocal loc,
      .dyn (fun s =>
        let x := s.dom msg.domain
        let low := match x.parent with
          | some q => decide (q ≠ port) && decide (msg.depth + 4 ≤ s.candDepth msg.domain q)
          | none => false
        modDom msg.domain (fun x =>
          let since := match x.cands.getD port none with | some c => c.lowSince | none => none
          { x with
            depth := if x.parent == some port && x.depth != 64 then min 64 (msg.depth + 1) else x.depth
            cands := x.cands.set port (some {
              stamp := loc, root := msg.root, depth := msg.depth, parent := msg.parent, timed := msg.timed
              addr := msg.addr, lowSince := if low then (if since.isSome then since else some loc) else none }) })),
      .dyn (fun s => match (s.dom msg.domain).parent with
        | some q =>
          if !s.isCandidate msg.domain q loc then loseParent msg.domain loc
          else (match (s.dom msg.domain).cands.getD port none with
            | some c => (match c.lowSince with
              | some t0 => .when (decide (t0 + 1000000000 * 256 ≤ loc) && s.isCandidate msg.domain port loc)
                  (reParent msg.domain port loc)
              | none => .nil)
            | none => .nil)
        | none => chooseParent msg.domain loc),
      trySendVote msg.domain])).go s)

/-- EXCH_REQ_SEND (R381): T1 is the transmit stamp in this node's own time of the domain. -/
def execExchReqSend (domain : Bool) (loc : Time) (s : State) : Host.Outcome State Fault Refusal :=
  .next ((Prog.guard (fun s => s.flag F.TIM_CTRL_ENABLE) (.seq (.atLocal loc) (.dyn (fun s =>
    match (s.dom domain).parent with
    | none => .nil
    | some p =>
      let xid := (s.dom domain).xid + 1
      .block [
        modDom domain (fun x => { x with xid := xid, t1 := some (loc + x.ofs loc) }),
        sendLink 0 2 p (leBytes 1 2 ++ leBytes 1 (boolNat domain) ++ leBytes 2 xid.toNat ++ leBytes 4 0)])))).go s)

/-- The EXCH_RESP body (Table 13.3). -/
def exchRespBytes (domain : Bool) (xid : BitVec 16) (t2 t3 : Time) : List Byte :=
  leBytes 1 3 ++ leBytes 1 (boolNat domain) ++ leBytes 2 xid.toNat ++ [timeFrac t2, timeFrac t3] ++ leBytes 2 0 ++
  leBytes 4 (timeNs t2).toNat ++ leBytes 4 (timeNs t3).toNat ++ leBytes 4 0

/-- EXCH_REQ_RECEIVE (R380, R381): every request on a node port is answered, with the stamps in this node's time of the
domain. -/
def execExchReqReceive (port : Nat) (domain : Bool) (xid : BitVec 16) (l2 l3 : Time) (s : State) :
    Host.Outcome State Fault Refusal :=
  .next ((Prog.guard (fun s => s.flag F.TIM_CTRL_ENABLE && port < 4) (.seq (.atLocal l2) (.dyn (fun s =>
    let x := s.dom domain
    sendLink 0 2 port (exchRespBytes domain xid (l2 + x.ofs l2) (l3 + x.ofs l3)))))).go s)

/-- A difference of two time values, signed 40 bits (R376). -/
def timeDiff (a b : Time) : Int := signedOf 40 (unsignedOf 40 (a - b))

/-- d of an exchange (R382). -/
def exchD (t1 t2 t3 t4 : Time) : Int := Int.tdiv (timeDiff t2 t1 + timeDiff t4 t3) 2

/-- theta of an exchange with asymmetry `a` (R382). -/
def exchTheta (t1 t2 t3 t4 : Time) (a : Int) : Int := Int.tdiv (timeDiff t4 t3 - timeDiff t2 t1) 2 + a

/-- The span of a list. -/
def spanInt (l : List Int) : Int :=
  match l with
  | [] => 0
  | a :: t => t.foldl max a - t.foldl min a

/-- A domain has accepted an exchange with theta at a LOCAL instant (R382, R391 to R393): the first one of ACQUIRE steps by
its own theta; convergence locks, but not once a limit of HOLDOVER has passed (R37). -/
def Domain.accept (x : Domain) (d theta : Int) (parentDepth : Nat) (l : Time) : Domain :=
  let ds := (d :: x.ds).take 16
  let step := x.st == .acquire && !x.stepped
  let conv := ds.length == 16 && decide (spanInt ds ≤ 128)
  let lock := conv && (x.st == .acquire || (x.st == .holdover && !x.expired l))
  let y := x.rebase l
  { y with
    ds := ds, thetas := (theta :: x.thetas).take 16, t1 := none, lastAcc := some l
    offset := if step then y.offset - theta else y.offset
    stepped := x.stepped || step
    st := if lock then .locked else x.st
    since := if lock then l else x.since
    rateHeld := if lock then false else x.rateHeld
    depth := if conv then min 64 (parentDepth + 1) else x.depth }

/-- EXCH_RESP_RECEIVE (R381, R382, R391 to R393). -/
def execExchRespReceive (port : Nat) (domain : Bool) (xid : BitVec 16) (t2 t3 loc : Time) (s : State) :
    Host.Outcome State Fault Refusal :=
  .next ((Prog.seq (.atLocal loc) (.dyn (fun s =>
    let x := s.dom domain
    match x.t1 with
    | none => .nil
    | some t1 =>
      let t4 := loc + x.ofs loc
      if !(s.flag F.TIM_CTRL_ENABLE && x.parent == some port && x.xid == xid && decide (timeDiff t4 t1 ≤ 20000 * 256))
      then .nil
      else
        let th := exchTheta t1 t2 t3 t4 (signedOf 12 (s.fld (F.TIM_ASYM_MEAS port)))
        let y := x.accept (exchD t1 t2 t3 t4) th (s.candDepth domain port) loc
        let first := x.st == .acquire && !x.stepped
        .block [
          modDom domain (fun _ => y),
          .setReg (if domain then R.TIM_THETA_B else R.TIM_THETA_A) (BitVec.ofInt 32 (meanInt y.thetas)),
          .setFld (F.TIM_DELAY_D port) (unsignedOf 24 (meanInt y.ds)),
          .setFlag (F.TIM_DELAY_VALID port) (y.ds.length == 16 && decide (spanInt y.ds ≤ 128)),
          .when (!first && y.st != .holdover) (steer domain none 1000000 (meanInt y.thetas) loc),
          .when (y.st != .holdover) (modDom domain (fun z => { z with rates := (z.rate :: z.rates).take 16 })),
          steerRoots loc,
          .when (x.st != y.st) (.block [.raiseLocal 96 loc, followCheck loc, alignNow loc])]))).go s)

/-- PARENT_LOST (R390): the port is no candidate, or no exchange has been accepted for 1 ms. -/
def execParentLost (domain : Bool) (loc : Time) (s : State) : Host.Outcome State Fault Refusal :=
  .next ((Prog.seq (.atLocal loc) (.dyn (fun s =>
    let x := s.dom domain
    match x.parent with
    | none => .nil
    | some p =>
      let quiet := match x.lastAcc with
        | some t => decide (t + 1000000 * 256 ≤ loc)
        | none => decide (x.since + 1000000 * 256 ≤ loc)
      .when (!s.isCandidate domain p loc || quiet) (loseParent domain loc)))).go s)

/-- HOLDOVER_TIMEOUT (R390): 100 ms in HOLDOVER, or 10 ms without a candidate. -/
def execHoldoverTimeout (domain : Bool) (loc : Time) (s : State) : Host.Outcome State Fault Refusal :=
  .next ((Prog.seq (.atLocal loc) (.dyn (fun s =>
    .when ((s.dom domain).expired loc) (goFree domain loc)))).go s)

/-! ### House time -/

/-- A signed value saturated to 32 bits. -/
def sat32 (x : Int) : Int := max (-2 ^ 31) (min (2 ^ 31 - 1) x)

/-- The PTP offset of a Sync settles: HOUSE locks after 16 offsets within 1 microsecond and is lost beyond 10 (R400). Its
stamps give HOUSE against LOCAL, and TIM_HOUSE_OFFSET (R378, Table 13.7, log entry 16). -/
def houseSync (origin t2 : Int) (l : Time) : Prog :=
  .dyn (fun s =>
    let ofs := t2 - origin - s.tim.meanDelay
    let good := if ofs.natAbs ≤ 1000 * 256 then min 16 (s.tim.houseGood + 1) else 0
    let lock := !s.tim.house && good == 16
    let lost := s.tim.house && decide (10000 * 256 < ofs.natAbs)
    .block [
      .act (.tim (fun c => { c with
        houseOffset := ofs, houseGood := good, syncT1 := some origin, syncT2 := some t2, syncLoc := l
        houseLocal := t2 - l, house := (c.house || lock) && !lost })),
      .setReg R.TIM_HOUSE_OFFSET (BitVec.ofInt 32 (sat32 ((t2 - l - (s.dom false).ofs l) / 256))),
      steerRoots l,
      .when lock (.raiseLocal 100 l), .when lost (.raiseLocal 101 l),
      .send (.ptp 1 t2)])

/-- PTP_SYNC_RECEIVE (R378, R400): a one-step Sync carries its origin; a two-step one waits for its Follow_Up. Both stamps
are of the pins, and TIM_PTP_PHY.RX takes them to the wire. -/
def execPtpSyncReceive (twoStep : Bool) (seq : BitVec 16) (origin t2 : Int) (loc : Time) (s : State) :
    Host.Outcome State Fault Refusal :=
  .next ((Prog.guard (fun s => s.flag F.TIM_CTRL_PTP_EN && s.mgtRuns) (.seq (.atLocal loc) (.dyn (fun s =>
    let phy : Int := s.fld F.TIM_PTP_PHY_RX
    if twoStep then .act (.tim (fun c => { c with
      syncSeq := seq, syncT1 := none, syncT2 := some (t2 - phy), syncLoc := loc - phy }))
    else .seq (.act (.tim (fun c => { c with syncSeq := seq }))) (houseSync origin (t2 - phy) (loc - phy)))))).go s)

/-- PTP_FOLLOW_UP_RECEIVE (R400). -/
def execPtpFollowUpReceive (seq : BitVec 16) (origin : Int) (s : State) : Host.Outcome State Fault Refusal :=
  .next ((Prog.guard (fun s => s.flag F.TIM_CTRL_PTP_EN && s.mgtRuns) (.dyn (fun s =>
    match s.tim.syncT1, s.tim.syncT2 with
    | none, some t2 => if s.tim.syncSeq = seq then houseSync origin t2 s.tim.syncLoc else .nil
    | _, _ => .nil))).go s)

/-- PTP_DELAY_RESP_RECEIVE (R378, R400): the mean path delay. -/
def execPtpDelayRespReceive (t3 t4 : Int) (s : State) : Host.Outcome State Fault Refusal :=
  .next ((Prog.guard (fun s => s.flag F.TIM_CTRL_PTP_EN && s.mgtRuns) (.dyn (fun s =>
    match s.tim.syncT1, s.tim.syncT2 with
    | some t1, some t2 =>
      let tx := t3 + (s.fld F.TIM_PTP_PHY_TX : Int)
      .act (.tim (fun c => { c with meanDelay := Int.tdiv ((t2 - t1) + (t4 - tx)) 2, delayT3 := some tx }))
    | _, _ => .nil))).go s)

/-- The first data set is better: the first field in which they differ is smaller (default best master clock
algorithm, R400). -/
def betterMaster : List Nat → List Nat → Bool
  | a :: as, b :: bs => if a < b then true else if b < a then false else betterMaster as bs
  | _, _ => true

/-- PTP_ANNOUNCE_RECEIVE (R400): an Announce of the configured domain; the best master is kept. -/
def execPtpAnnounceReceive (domainNumber : Byte) (dataset : List Nat) (stamp : Time) (s : State) :
    Host.Outcome State Fault Refusal :=
  .next ((Prog.guard (fun s => s.flag F.TIM_CTRL_PTP_EN && s.mgtRuns && s.fld F.TIM_PTP_CFG_DOMAIN == domainNumber.toNat) (.dyn (fun s =>
    match s.tim.master with
    | some m => .when (betterMaster dataset m) (.act (.tim (fun c => { c with master := some dataset, masterAt := stamp })))
    | none => .act (.tim (fun c => { c with master := some dataset, masterAt := stamp }))))).go s)

/-- PTP_ANNOUNCE_TIMEOUT (R400). -/
def execPtpAnnounceTimeout (s : State) : Host.Outcome State Fault Refusal :=
  .next ((Prog.dyn (fun s => .block [
    .act (.tim (fun c => { c with master := none, house := false, houseGood := 0 })),
    steerRoots s.tim.now,
    .when s.tim.house (.raise 101)])).go s)

/-! ### Capture channels -/

/-- Capture channel `c`. -/
def State.cap (s : State) (c : Nat) : CapChannel := s.tim.caps.getD c {}

/-- Change capture channel `c`. -/
def modCap (c : Nat) (f : CapChannel → CapChannel) : Prog := .act (.tim (fun t => { t with caps := modAt t.caps c f }))

/-- A stamp lies in the window [WSTART, WEND), compared under R376 (R401). -/
def inCapWindow (s : State) (c : Nat) (t : Time) : Bool :=
  0 ≤ timeDiff t ((s.reg (R.TIM_CAP_WSTART c)).toNat * 256 : Nat) &&
  timeDiff t ((s.reg (R.TIM_CAP_WEND c)).toNat * 256 : Nat) < 0

/-- CAPTURE_EDGE (R401, R402). -/
def captureEdgeProg (c : Nat) (rising : Bool) (t : Time) : Prog :=
  .guard (fun s => c < 9 && s.flag (F.TIM_CAP_CTRL_ENABLE c)) (.dyn (fun s =>
    let ch := s.cap c
    let edge := s.fld (F.TIM_CAP_CTRL_EDGE c)
    let kind := if rising then bitOf edge 0 else bitOf edge 1
    let close := match ch.last with | some u => decide (t - u < 4 * 256) | none => false
    .block [
      modCap c (fun x => { x with last := some t }),
      if close then .count (F.TIM_CAP_INFO_MISSED c) 1
      else if !(kind && (s.flag (F.TIM_CAP_CTRL_ALWAYS c) || inCapWindow s c t)) then .nil
      else if ch.queue.length ≥ 16 then .block [.setFld (F.TIM_CAP_INFO_OVF c) 1, .raiseAt 105 t]
      else .block [
        modCap c (fun x => { x with
          queue := x.queue ++ [{ ns := timeNs t, frac := timeFrac t, rising := rising, domain := s.tim.follow }]
          latest := some t }),
        .setFld (F.TIM_CAP_INFO_LEVEL c) (ch.queue.length + 1),
        .when ch.queue.isEmpty (.raiseAt 104 t)]]))

def execCaptureEdge (channel : Nat) (rising : Bool) (stamp : Time) (s : State) : Host.Outcome State Fault Refusal :=
  .next ((captureEdgeProg channel rising stamp).go s)

/-- A read of TIM_CAP_NSc (R402): the oldest record goes, its other fields are latched. -/
def captureReadProg (c : Nat) : Prog :=
  .dyn (fun s =>
    if 9 ≤ c then .nil
    else match (s.cap c).queue with
    | [] => .block [.setFld (F.TIM_CAP_INFO_VALID c) 0, .act (.bus { data := [0] })]
    | r :: rest => .block [
        modCap c (fun x => { x with queue := rest }),
        .setFld (F.TIM_CAP_INFO_FRAC c) r.frac.toNat, .setFlag (F.TIM_CAP_INFO_RISING c) r.rising,
        .setFlag (F.TIM_CAP_INFO_DOMAIN c) r.domain, .setFld (F.TIM_CAP_INFO_VALID c) 1,
        .setFld (F.TIM_CAP_INFO_LEVEL c) rest.length, .act (.bus { data := [r.ns] })])

def execCaptureRead (channel : Nat) (s : State) : Host.Outcome State Fault Refusal :=
  .next ((captureReadProg channel).go s)

/-- A read of TIM_NOW_NS at an instant of fabric time and of LOCAL: the PTP seconds are those of HOUSE (R404). -/
def timeNowProg (now l : Time) : Prog :=
  .dyn (fun s =>
    let sec := unsignedOf 48 ((l + s.tim.houseLocal) / (256 * 1000000000))
    .block [
      .setReg R.TIM_NOW_NS (timeNs now),
      .setFld F.TIM_NOW_FRAC_FRAC (timeFrac now).toNat, .setFlag F.TIM_NOW_FRAC_LOCKED s.timeLock,
      .setReg R.TIM_NOW_LOCAL (timeNs l),
      .setReg R.TIM_HOUSE_SEC_LO (BitVec.ofNat 32 sec), .setFld F.TIM_HOUSE_SEC_HI_SEC (sec / 2 ^ 32),
      .act (.bus { data := [timeNs now] })])

def execTimeNowRead (loc : Time) (s : State) : Host.Outcome State Fault Refusal :=
  .next ((Prog.seq (.atLocal loc) (.dyn (fun s => timeNowProg (s.fabricAt loc) loc))).go s)

/-- TIME_NS_WRAP (R403). -/
def execTimeNsWrap (s : State) : Host.Outcome State Fault Refusal := .next ((Prog.raise 103).go s)

end Sys2Proof.Machine
end

