-- ==== Sys2Proof/Machine/Member.lean ====
section
/-! DEFINITION. Membership generations: records and segments, issue, JOIN and its judgement, and a generation coming
into force (R43, R46, R47, R417 to R422, R425). -/

namespace Sys2Proof.Machine

/-! ### Sets of nodes -/

/-- A node is in a set (R417): guests are in none. -/
def inSet (b : BitVec 32768) (a : BitVec 16) : Bool := b.getLsbD a.toNat
/-- The addresses of a set. -/
def setNodes (b : BitVec 32768) : List Nat := (List.range 32768).filter (fun a => b.getLsbD a)
/-- The sum of the addresses of a set, modulo 2^32. -/
def setSum (b : BitVec 32768) : Word := BitVec.ofNat 32 (setNodes b).sum
/-- One node as a set. -/
def oneNode (a : Nat) : BitVec 32768 := 1#32768 <<< a
/-- A list of nodes as a set. -/
def setOf (l : List Nat) : BitVec 32768 := l.foldl (fun b a => b ||| oneNode a) 0

/-! ### Generation records (Table 14.3) -/

/-- Segment 0 of a generation record (Table 14.3). -/
def Gen.segment0 (g : Gen) : List Byte :=
  leBytes 4 g.num.toNat ++ leBytes 1 g.rate ++ leBytes 1 (timeFrac g.anchor).toNat ++ leBytes 2 g.holdLimit ++
  leBytes 4 (timeNs g.anchor).toNat ++ leBytes 4 g.anchorFsn.toNat ++
  (List.range 5).flatMap (fun i => leBytes 4 (unsignedOf 32 (g.offsets.getD i 0))) ++ leBytes 2 g.limitStart ++
  leBytes 2 g.mCount ++ leBytes 4 g.mSum.toNat ++ leBytes 2 g.rootA.toNat ++ leBytes 2 g.rootB.toNat ++
  leBytes 32 g.policyDigest.toNat ++ leBytes 4 g.firstFsn.toNat ++ leBytes 2 g.texStore ++ leBytes 10 0

/-- Segment `k` of a generation record: 1 to 4 carry E, 5 to 8 X, 9 to 12 M (R417). -/
def Gen.segment (g : Gen) (k : Nat) : List Byte :=
  if k = 0 then g.segment0
  else
    let set := if k ≤ 4 then g.e else if k ≤ 8 then g.x else g.m
    leBytes 1024 (set.toNat / 2 ^ (8192 * ((k - 1) % 4)))

/-- A GEN_SEG message (Table 14.6). -/
def genSegBytes (num : Word) (k : Nat) (data : List Byte) : List Byte :=
  leBytes 1 5 ++ leBytes 1 k ++ leBytes 2 0 ++ leBytes 4 num.toNat ++ data

/-- The extended anchor that a received record means: ANCHOR_NS and ANCHOR_FRAC wrap every 2^32 ns; of the instants they
can mean, the one under which FIRST_FSN's swap instant lies nearest to the node's present reckoning (log entry 22). -/
def State.extendAnchor (s : State) (g : Gen) : Gen :=
  let d := g.swapTime g.firstFsn - s.swapTime g.firstFsn
  { g with anchor := g.anchor - d + signedOf 40 (unsignedOf 40 d) }

/-- A generation record from its 13 segments. -/
def readGen (seg : Nat → List Byte) : Gen :=
  let z := seg 0
  { num := BitVec.ofNat 32 (leAt z 0 4), rate := byteAt z 4
    anchor := (leAt z 8 4 * 256 + byteAt z 5 : Nat), anchorFsn := BitVec.ofNat 32 (leAt z 12 4)
    holdLimit := leAt z 6 2
    offsets := (List.range 5).map (fun i => signedOf 32 (leAt z (16 + 4 * i) 4))
    limitStart := leAt z 36 2, mCount := leAt z 38 2, mSum := BitVec.ofNat 32 (leAt z 40 4)
    rootA := BitVec.ofNat 16 (leAt z 44 2), rootB := BitVec.ofNat 16 (leAt z 46 2)
    policyDigest := BitVec.ofNat 256 (leAt z 48 32), firstFsn := BitVec.ofNat 32 (leAt z 80 4), texStore := leAt z 84 2
    e := setOfBytes (seg 1 ++ seg 2 ++ seg 3 ++ seg 4), x := setOfBytes (seg 5 ++ seg 6 ++ seg 7 ++ seg 8)
    m := setOfBytes (seg 9 ++ seg 10 ++ seg 11 ++ seg 12) }

/-- M_COUNT and M_SUM agree with the M map (R418). -/
def Gen.agrees (g : Gen) : Bool := g.mCount == (setNodes g.m).length && g.mSum == setSum g.m

/-- The node holds a generation (R418). -/
def State.genHeld (s : State) (num : Word) : Option Gen := s.cmt.gens.find? (fun g => g.num == num)

/-- Send every segment of a generation down tree A and to the root of B (R418). -/
def sendGen (g : Gen) : Prog :=
  .dyn (fun s => .each (List.range 13) (fun k =>
    let b := genSegBytes g.num k (g.segment k)
    .seq (sendTree true false 3 b) (sendUnicast 1 3 s.rootB b)))

/-- The segments of generation `num` with one more of them. -/
def addSeg (num : Word) (k : Nat) (d : List Byte) (l : List GenParts) : List GenParts :=
  let old := ((l.find? (fun p => p.num == num)).map (·.segs)).getD []
  { num := num, segs := putKey k d old } :: l.filter (fun p => p.num != num)

/-- The node takes a generation it has complete: it holds it from now on (R418). -/
def holdGen (num : Word) : Prog :=
  .dyn (fun s => match s.cmt.genParts.find? (fun p => p.num == num) with
    | none => .nil
    | some p =>
      let g := readGen (fun k => (p.segs.lookup k).getD [])
      .when (p.segs.length == 13 && g.agrees) (.act (.cmt (fun c => { c with
        gens := c.gens ++ [s.extendAnchor g], genParts := c.genParts.filter (fun q => q.num != num) }))))

/-- GEN_SEG_RECEIVE (R418, Table 14.6). -/
def execGenSegReceive (seg : Nat) (num : Word) (data : List Byte) (unicast : Bool) (s : State) :
    Host.Outcome State Fault Refusal :=
  .next ((Prog.when (decide (seg ≤ 12) && data.length == (if seg = 0 then 96 else 1024)) (.block [
    .guard (fun s => unicast && s.here == some s.rootB) (sendTree true true 3 (genSegBytes num seg data)),
    .guard (fun s => (s.genHeld num).isNone) (.seq
      (.act (.cmt (fun c => { c with genParts := addSeg num seg data c.genParts }))) (holdGen num))])).go s)

/-! ### Issuing (R420 to R422) -/

/-- A frame's swap instant lies more than four frame periods after an instant (R420). -/
def State.afterFour (s : State) (f : Fsn) (t : Time) : Bool :=
  let r := rateOf s.genNow.rate
  decide ((1024 * 1000000000 * r.2 : Nat) < (s.swapTime f - t) * (r.1 : Int))

/-- The first frame of a generation issued at an instant (R420). -/
def State.firstFrame (s : State) (t : Time) : Fsn :=
  let k := ((List.range 1024).find? (fun k => s.afterFour (s.S + 1 + BitVec.ofNat 32 k) t)).getD 1024
  s.S + 1 + BitVec.ofNat 32 k

/-- The first of the instants `base + ⌊k × period⌋` at or after a bound, k ≥ 0 (R422). -/
def advanceTo (rate : Nat) (base bound : Time) : Time :=
  let r := rateOf rate
  let p : Int := (256 * 1000000000 * r.2 : Nat)
  if bound ≤ base then base
  else
    let k := (bound - base) * (r.1 : Int) / p
    let at_ (k : Int) : Time := base + k * p / (r.1 : Int)
    if bound ≤ at_ k then at_ k else at_ (k + 1)

/-- The new anchor of a generation that begins with frame F (R422); without a GENLOCK_IN capture it is an open value. -/
def State.newAnchor (s : State) (rate : Nat) (f : Fsn) (free : Time) : Time :=
  let bound := s.swapTime (f - 1) + 20 * 256000000
  if s.flag F.CMT_RATE_ANCHOR_SRC then
    match (s.cap 8).latest with
    | none => free
    | some t => advanceTo rate (t + (s.reg R.CMT_GENLOCK_OFS).toInt * 256) bound
  else if s.tim.house then advanceTo rate 0 bound
  else -((-bound) / 256000000) * 256000000

/-- The greatest generation number held or issued. -/
def State.lastGen (s : State) : Word :=
  s.cmt.gens.foldl (fun n g => if n.toNat < g.num.toNat then g.num else n) s.cmt.gen.num

/-- Modify what only the deciding node holds. -/
def modDecider (f : Decider → Decider) : Prog := .act (.cmt (fun c => { c with decider := f c.decider }))

/-- The deciding node issues the next generation at an instant (R418, R420, R422): policy, sets, whether the anchor is
new, and the nodes whose JOIN it admits. -/
def issueGen (pol : Gen) (e x m : BitVec 32768) (reanchor : Bool) (joined : List (BitVec 16)) (t : Time) : Prog :=
  .withFreeStamp (fun free => .dyn (fun s =>
    let f := s.firstFrame t
    let g : Gen := { pol with
      num := s.lastGen + 1, firstFsn := f, e := e, x := x, m := m, mCount := (setNodes m).length, mSum := setSum m
      policyDigest := s.policyDigest
      anchor := if reanchor then s.newAnchor pol.rate f free else pol.anchor
      anchorFsn := if reanchor then f else pol.anchorFsn }
    .block [
      .act (.cmt (fun c => { c with
        next := some g, gens := c.gens ++ [g], decider := { c.decider with joined := joined } })),
      sendGen g]))

/-- E, X and M of the generation in force; before any, E and X of the configuration image (R417, Table 17.9). -/
def State.memberSets (s : State) : BitVec 32768 × BitVec 32768 × BitVec 32768 :=
  if s.cmt.gen.num = 0 then (s.imageE, s.imageX &&& s.imageE, 0) else (s.cmt.gen.e, s.cmt.gen.x, s.cmt.gen.m)

/-- Every expected node is MEMBER or EXCLUDED under a generation (R43, R47). -/
def State.admission (s : State) (g : Gen) : Bool :=
  g.num != 0 && g.e &&& ~~~g.x == g.e &&& g.m &&& ~~~g.x &&
  s.cmt.decider.away.all (fun a => !inSet g.m a || (s.cmt.gen.num != g.num && s.cmt.decider.joined.contains a))

/-! ### JOIN (R419, Table 14.4) -/

/-- JOIN_SEND (R419, R500). -/
def execJoinSend (s : State) : Host.Outcome State Fault Refusal :=
  .next ((Prog.guard (fun s => s.node == .sapling && (s.dom false).lock && (s.dom true).lock &&
      (List.range 10).all (fun k => s.ctl.ended.contains (k + 1)))
    (.dyn (fun s => .block [
      .act (.cmt (fun c => { c with saplingGen := some c.gen.num })),
      sendUnicast 1 3 s.rootA (leBytes 4 6 ++ leBytes 4 s.cmt.gen.num.toNat ++ leBytes 32 s.policyDigest.toNat)]))).go s)

/-- A VOUCH for a node has been received in the last second, [t - 1 s, t) (R37, Table 14.4). -/
def State.vouched (s : State) (a : BitVec 16) (t : Time) : Bool :=
  s.cmt.decider.vouches.any (fun v => v.1 == a && decide (t - 256000000000 ≤ v.2) && decide (v.2 < t))

/-- Row of Table 14.4 that judges a JOIN. -/
def State.judgeJoin (s : State) (a : BitVec 16) (digest : BitVec 256) (t : Time) : Nat :=
  let sets := s.memberSets
  if !inSet sets.1 a || inSet sets.2.1 a then 1
  else if digest != (if s.cmt.gen.num = 0 then s.policyDigest else s.cmt.gen.policyDigest) then 2
  else if !s.vouched a t then 3
  else if s.cmt.next.isSome then 4
  else 5

/-- JOIN_RESULT (Table 14.6). -/
def joinResultBytes (result reason : Nat) : List Byte :=
  leBytes 4 8 ++ leBytes 1 result ++ leBytes 1 0 ++ leBytes 2 reason

/-- JOIN_RECEIVE (R419 to R421): the deciding node judges and answers; a JOIN shows that the node is no MEMBER (R47). -/
def execJoinReceive (src : BitVec 16) (_held : Word) (digest : BitVec 256) (stamp : Time) (s : State) :
    Host.Outcome State Fault Refusal :=
  .next ((Prog.guard (fun s => s.isDecider) (.dyn (fun s =>
    let row := s.judgeJoin src digest stamp
    let sets := s.memberSets
    .block [
      modDecider (fun d => { d with away := if d.away.contains src then d.away else src :: d.away }),
      .when (row == 5) (issueGen s.genNow sets.1 sets.2.1 (sets.2.2 ||| oneNode src.toNat) (s.cmt.gen.num == 0) [src] stamp),
      sendUnicast 1 3 src (match row with
        | 1 => joinResultBytes 2 0x0234
        | 2 => joinResultBytes 2 0x0232
        | 5 => joinResultBytes 1 0
        | _ => joinResultBytes 0 0)]))).go s)

/-- VOUCH_RECEIVE (R419). -/
def execVouchReceive (sapling : BitVec 16) (stamp : Time) (s : State) : Host.Outcome State Fault Refusal :=
  .next ((Prog.guard (fun s => s.isDecider)
    (modDecider (fun d => { d with vouches := putKey sapling stamp d.vouches }))).go s)

/-- JOIN_RESULT_RECEIVE (R419). -/
def execJoinResultReceive (result : Byte) (reason : BitVec 16) (s : State) : Host.Outcome State Fault Refusal :=
  .next ((Prog.guard (fun s => s.node == .sapling)
    (.act (.cmt (fun c => { c with joinResult := some (result.toNat, reason) })))).go s)

/-- FAULT_NOTICE_RECEIVE (R415): CMT_E_DIVERGED sets the standing DARK request; a node in FAULT is no MEMBER (R47). -/
def execFaultNoticeReceive (src : BitVec 16) (_fsn : Fsn) (reason : BitVec 16) (s : State) :
    Host.Outcome State Fault Refusal :=
  .next ((Prog.guard (fun s => s.isDecider) (modDecider (fun d => { d with
    away := if d.away.contains src then d.away else src :: d.away
    darkStanding := d.darkStanding || reason == 0x0223 }))).go s)

/-! ### Coming into force (R420, R425) -/

/-- A hardware load of an RWS field: shadow, effective value, and the end of software writes that wait (R425). -/
def loadRws (f : Fld) (v : Nat) : Prog :=
  .block [
    .setFld f v,
    .dyn (fun s => .act (.eff f.off (putBits (s.effReg f.off) f.hi f.lo v))),
    .act (.rws (fun l => l.filter (fun w => w.off != f.off)))]

/-- The policy registers take a generation's values (R425, Table 14.8). -/
def loadPolicy (g : Gen) : Prog :=
  .block [
    .setFld F.CMT_T_SCENE_OFFSET (unsignedOf 18 (g.offsets.getD 0 0)),
    .setFld F.CMT_T_AMEND_OFFSET (unsignedOf 18 (g.offsets.getD 1 0)),
    .setFld F.CMT_T_VOTE_OFFSET (unsignedOf 18 (g.offsets.getD 2 0)),
    .setFld F.CMT_T_COMMIT_OFFSET (unsignedOf 18 (g.offsets.getD 3 0)),
    .setFld F.CMT_T_LOCAL_OFFSET (unsignedOf 18 (g.offsets.getD 4 0)),
    .setFld F.CMT_HOLD_LIMIT_LIMIT g.holdLimit, .setFld F.CMT_RATE_RATE g.rate,
    .setFld F.TIM_ROOT_ROOT_A g.rootA.toNat, .setFld F.TIM_ROOT_ROOT_B g.rootB.toNat,
    loadRws F.COL_LIMIT_START_GAIN g.limitStart, .setFld F.ING_TEX_STORE_MIB g.texStore,
    .setReg R.CMT_ANCHOR_NS (timeNs g.anchor), .setReg R.CMT_ANCHOR_FSN g.anchorFsn,
    .setFld F.CMT_ANCHOR_FRAC_FRAC (timeFrac g.anchor).toNat]

/-- The drivers take a new rate: FAN and PWM_PERIOD are written and read back on every ACTIVE lane (R289, R299). -/
def loadRate (rate : Nat) : Prog :=
  .dyn (fun s =>
    let params : List (Nat × Nat) := [(3, boolNat (halfFanRate rate)), (4, pwmPeriod rate)]
    .act (.pdl (fun p => { p with lanes := p.lanes.zipIdx.map (fun q =>
      if (s.lane q.2).st == .active then { q.1 with
        service := q.1.service ++ params.map (fun a => .cfgWrite a.1 a.2) ++ params.map (fun a => .cfgRead a.1)
        written := params.foldl (fun w a => putKey a.1 a.2 w) q.1.written }
      else q.1) })))

/-- The node state under a generation that comes into force at t_swap(N) (R46, R49, R420): exclusion decides. -/
def State.memberMove (s : State) (n : Fsn) (g : Gen) : Option NodeState :=
  match s.here with
  | none => none
  | some a =>
    if inSet g.x a then some .excluded
    else if s.node == .excluded then some .sapling
    else if s.node == .sapling && g.firstFsn == n && inSet g.m a &&
        (match s.cmt.saplingGen with | some k => decide (k.toNat < g.num.toNat) | none => false) then some .member
    else none

/-- A generation comes into force at t_swap(N) (R413, R420, R425, Table 14.9). -/
def enterGen (n : Fsn) (g : Gen) (t : Time) : Prog :=
  .dyn (fun s => .block [
    (match s.memberMove n g with | some x => moveNode x | none => .nil),
    .when (g.rate != s.genNow.rate) (loadRate g.rate),
    .act (.cmt (fun c => { c with
      gen := g
      next := c.next.filter (fun x => x.num != g.num)
      decider := { c.decider with
        away := c.decider.away.filter (fun a => !c.decider.joined.contains a && inSet g.e a && !inSet g.x a)
        joined := [], genSentAt := none } })),
    loadPolicy g, .raiseAt 133 t])

end Sys2Proof.Machine
end

