-- ==== Sys2Proof/Machine/Pmp.lean ====
section
/-! DEFINITION. PMP records, messages and services as shared programs: sealed records, answers, event messages, the
services a guest may use, requests that go on to the deciding node (R493, R506 to R512, R529). -/

namespace Sys2Proof.Machine

/-- An open session. -/
def State.session (s : State) (id : Nat) : Option PmpSession := s.ctl.sessions.find? (fun q => q.id == id && q.opened)

/-- Change one session. -/
def modSession (id : Nat) (f : PmpSession → PmpSession) : Prog :=
  .act (.ctl (fun c => { c with sessions := c.sessions.map (fun q => if q.id = id then f q else q) }))

/-- A session ends (R487, R508, R525): an update lock that it holds notes when; EV_MGT_SESSION. -/
def dropSession (id : Nat) (t : Time) : Prog :=
  .guard (fun s => s.ctl.sessions.any (fun q => q.id == id)) (.block [
    .act (.ctl (fun c => { c with sessions := c.sessions.filter (fun q => q.id != id) })),
    .act (.sec (fun x => { x with session := x.session.map (fun u =>
      if u.session = some id then { u with closedAt := some t } else u) })),
    .raiseAt 57 t])

/-! ### Records (R506, R508) -/

/-- A record header (Table 17.12). -/
def pmpHeader (kind len seq : Nat) : List Byte :=
  leBytes 2 0x4D50 ++ leBytes 1 1 ++ leBytes 1 kind ++ leBytes 4 len ++ leBytes 8 seq

/-- Open a record of the client: its key, its salt, its RECORD_SEQ, and the header as additional data (R508). -/
def PmpSession.openRecord (q : PmpSession) (kind seq : Nat) (body : List Byte) : Option (List Byte) :=
  Config.gcmOpen (q.keys.take 32) ((q.keys.drop 64).take 4 ++ leBytes 8 seq) (pmpHeader kind body.length seq) body

/-- Seal a record to the client (R508). -/
def PmpSession.sealRecord (q : PmpSession) (plain : List Byte) : List Byte :=
  Config.gcmSeal ((q.keys.drop 32).take 32) ((q.keys.drop 68).take 4 ++ leBytes 8 q.txSeq)
    (pmpHeader 0x10 (plain.length + 16) q.txSeq) plain

/-! ### Streams over the fabric (R509) -/

/-- A payload under the framing of R509: STREAM, FLAGS, OFFSET, stream bytes; filled with zeros to a multiple of four, as a
packet's LENGTH must be (Table 12.4, log entry 31). -/
def streamPayload (stream : BitVec 16) (flags offset : Nat) (data : List Byte) : List Byte :=
  let b := leBytes 2 stream.toNat ++ leBytes 1 flags ++ leBytes 1 0 ++ leBytes 4 offset ++ data
  b ++ List.replicate ((4 - b.length % 4) % 4) 0

/-- Stream bytes in pieces that one packet takes, each with its OFFSET. -/
def streamPieces (base : Nat) (bytes : List Byte) : List (Nat × List Byte) :=
  (List.range ((bytes.length + 2039) / 2040)).map (fun i => (base + 2040 * i, (bytes.drop (2040 * i)).take 2040))

/-- Send stream bytes in BULK packets; the last one has FIN where the stream ends with it. -/
def sendPieces (proto : Nat) (dst stream : BitVec 16) (base : Nat) (fin : Bool) (bytes : List Byte) : Prog :=
  .each (streamPieces base bytes) (fun p => sendUnicast 3 proto dst
    (streamPayload stream (if fin && p.1 + p.2.length = base + bytes.length then 2 else 0) p.1 p.2))

/-- A message of this node on a stream that it opens for it (R509, R522, R531). -/
def streamOut (proto : Nat) (dst : BitVec 16) (bytes : List Byte) : Prog :=
  .dyn (fun s => .seq (.act (.ctl (fun c => { c with nextStream := c.nextStream + 1 })))
    (sendPieces proto dst s.ctl.nextStream 0 true bytes))

/-- Bytes of a session go out over the fabric and stay until they are acknowledged (R509); over the management port TCP
carries them. -/
def sessionOut (id : Nat) (bytes : List Byte) (fin : Bool) (t : Time) : Prog :=
  .dyn (fun s => match s.ctl.sessions.find? (fun q => q.id == id) with
    | none => .nil
    | some q => match q.via with
      | none => .nil
      | some v => .seq (sendPieces 5 v.1 v.2 q.txOffset fin bytes)
          (modSession id (fun q => { q with
            txOffset := q.txOffset + bytes.length
            unacked := q.unacked ++ (streamPieces q.txOffset bytes).map (fun p => (t, p)) })))

/-- Send a record of a session with a header. -/
def sendRecord (id kind seq : Nat) (body : List Byte) (t : Time) : Prog :=
  .seq (.send (.pmpRecord id (BitVec.ofNat 8 kind) seq body))
    (sessionOut id (pmpHeader kind body.length seq ++ body) (kind == 0x11) t)

/-- Send a DATA record with a plaintext. -/
def sendData (id : Nat) (plain : List Byte) (t : Time) : Prog :=
  .dyn (fun s => match s.session id with
    | none => .nil
    | some q => .seq (sendRecord id 0x10 q.txSeq (q.sealRecord plain) t)
        (modSession id (fun q => { q with txSeq := q.txSeq + 1 })))

/-- The block closes a session with a code of Table 17.13 (R508). -/
def closeSession (id code : Nat) (t : Time) : Prog :=
  .dyn (fun s => match s.ctl.sessions.find? (fun q => q.id == id) with
    | none => .nil
    | some q => .seq (sendRecord id 0x11 q.txSeq (leBytes 1 code) t) (dropSession id t))

/-! ### Messages (R510) -/

/-- Body bytes of a message that one record takes beside its 16-byte header. -/
def partSize : Nat := 16368

/-- A message in records: every part has a header with the same REQ_ID, all but the last set MORE (R510). -/
def messageParts (svc op flags : Nat) (reqId : Word) (status : Nat) (body : List Byte) : List (List Byte) :=
  let n := max 1 ((body.length + partSize - 1) / partSize)
  (List.range n).map (fun i =>
    let part := (body.drop (i * partSize)).take partSize
    leBytes 2 svc ++ leBytes 1 op ++ leBytes 1 (flags + if i + 1 < n then 2 else 0) ++ leBytes 4 reqId.toNat ++
    leBytes 2 status ++ leBytes 2 0 ++ leBytes 4 part.length ++ part)

/-- Send a message to a session. -/
def sendMessage (id svc op flags : Nat) (reqId : Word) (status : Nat) (body : List Byte) (t : Time) : Prog :=
  .each (messageParts svc op flags reqId status body) (fun p => sendData id p t)

/-- An event record (Table 17.5). -/
def EventRec.bytes (r : EventRec) : List Byte :=
  leBytes 2 r.event ++ leBytes 2 0 ++ leBytes 4 r.fsn.toNat ++ leBytes 1 (timeFrac r.stamp).toNat ++ leBytes 3 0 ++
  leBytes 4 (timeNs r.stamp).toNat

/-- The queued event records of a session go out in an EVENT message (R493, R510, log entry 28); its OP is an open
value. -/
def sendEvents (id : Nat) (t : Time) : Prog :=
  .dyn (fun s => match s.session id with
    | none => .nil
    | some q => .when (!q.events.isEmpty) (.seq (modSession id (fun q => { q with events := [] }))
        (.withFree (fun w => sendMessage id 2 (w.toNat % 256) 4 0 0 (q.events.flatMap EventRec.bytes) t))))

/-- Answer a request: it is outstanding no more; a request that came in a record is answered in records (R510 to
R512). -/
def respond (req : PmpCtx) (status : Nat) (body : List Byte) : Prog :=
  .dyn (fun s =>
    let asked := (s.session req.session).bind (fun q => q.reqs.find? (fun r => r.reqId == req.reqId))
    .block [
      (match asked with
       | some r => sendMessage req.session r.service r.op 1 req.reqId status body req.stamp
       | none => .nil),
      modSession req.session (fun q => { q with
        reqs := q.reqs.filter (fun r => r.reqId != req.reqId), lastAt := max q.lastAt req.stamp }),
      .send (.response req.session req.reqId (BitVec.ofNat 16 status) body),
      sendEvents req.session req.stamp])

/-! ### Services (Table 17.14) -/

/-- The services of Table 17.14. -/
def knownService (svc : Nat) : Bool :=
  [0x01, 0x02, 0x03, 0x04, 0x05, 0x10, 0x11, 0x12, 0x13, 0x14, 0x15, 0x16, 0x20, 0x21, 0x30, 0x31, 0x32].contains svc

/-- The services that a guest may use: INFO, EVENT, LOG, SCREEN and QUOTE (R529). -/
def guestService (svc : Nat) : Bool := [0x01, 0x02, 0x04, 0x10, 0x30].contains svc

/-- A request that came in a record waits for an earlier one of the session to the same service (R511). -/
def PmpSession.mustWait (q : PmpSession) (svc : Nat) (reqId : Word) : Bool :=
  q.reqs.any (fun r => r.reqId == reqId) &&
  (match q.reqs.find? (fun r => r.service == svc) with | some r => r.reqId != reqId | none => false)

/-- A request to a service runs for an open session, those of one service in arrival order; a guest's to another service
is NOT_PERMITTED (R507, R511, R529). -/
def service (svc : Nat) (req : PmpCtx) (p : Prog) : Prog :=
  .dyn (fun s => match s.session req.session with
    | none => .nil
    | some q => .when (!q.mustWait svc req.reqId) (if q.guest && !guestService svc then respond req 3 [] else p))

/-- A screen-wide request: the deciding node runs it; any other node carries it there, and answers FORWARD_FAILED where
it has no coordinate to send from (Table 17.14, the rule after it). -/
def screenWide (svc : Nat) (req : PmpCtx) (body : List Byte) (p : Prog) : Prog :=
  service svc req (.dyn (fun s =>
    if s.isDecider then p
    else if s.here.isSome then streamOut 5 s.rootA (leBytes 2 svc ++ leBytes 4 req.reqId.toNat ++ body)
    else respond req 5 []))

end Sys2Proof.Machine
end

