-- ==== Sys2Proof/Machine/Metrology.lean ====
section
/-! DEFINITION. Metrology port and calibration service (chapter 15): camera frames, the image pipeline, raw taps, the
statistics record, exposure sets, and the calibration session. -/

namespace Sys2Proof.Machine

/-- Change one stream. -/
def modStream (i : Nat) (f : MetStream → MetStream) : Prog :=
  .act (.met (fun m => { m with streams := modAt m.streams i f }))
/-- One stream. -/
def State.stream (s : State) (i : Nat) : MetStream := s.met.streams.getD i {}
/-- Change the frame that a stream receives. -/
def modFrame (i : Nat) (f : MetFrame → MetFrame) : Prog := modStream i (fun x => { x with frame := x.frame.map f })
/-- Change one tap. -/
def modTap (i : Nat) (f : MetTap → MetTap) : Prog := .act (.met (fun m => { m with taps := modAt m.taps i f }))
/-- One tap. -/
def State.tap (s : State) (i : Nat) : MetTap := s.met.taps.getD i {}

/-- Record a MET_E_ code: the first since COUNT was read is kept (Table 15.6, Table 15.9, R456). -/
def metError (code : Nat) (t : Option Time) : Prog :=
  .dyn (fun s => .block [
    .when (s.fld F.MET_ERR_COUNT == 0) (.setFld F.MET_ERR_CODE code),
    .count F.MET_ERR_COUNT 1,
    .when (code < 0x20) (raiseIn 428 t)])

/-! ### The image pipeline (R435 to R438) -/

/-- CFA channel of a pixel. -/
def MetFrame.chan (f : MetFrame) (x y : Nat) : Nat := if f.mono then 0 else y % 2 * 2 + x % 2

/-- x0 of a pixel, where it was received (R430). -/
def MetFrame.x0 (f : MetFrame) (x y : Nat) : Option Nat := (f.px.lookup y).bind (fun r => r[x]?)

/-- x1 of a pixel (R435). -/
def MetFrame.x1 (f : MetFrame) (x y : Nat) : Option Nat := (f.x0 x y).map (fun v => v - f.bl.getD (f.chan x y) 0)

/-- Put a number into an ascending list. -/
def insertLe (n : Nat) : List Nat → List Nat
  | [] => [n]
  | a :: t => if n ≤ a then n :: a :: t else a :: insertLe n t

/-- Table 15.3. -/
def defectValue (l : List Nat) : Nat :=
  match l.foldr insertLe [] with
  | [_, b, c, _] => (b + c) / 2
  | [_, b, _] => b
  | [a, b] => (a + b) / 2
  | [a] => a
  | _ => 0

/-- A pixel is on the defect list. -/
def MetFrame.defect (f : MetFrame) (x y : Nat) : Bool := f.dpc.contains (y, x)

/-- The neighbours of a pixel that count (R436). -/
def MetFrame.neighbours (f : MetFrame) (x y : Nat) : List (Nat × Nat) :=
  let d := if f.mono then 1 else 2
  ([(x - d, y, decide (d ≤ x)), (x + d, y, true), (x, y - d, decide (d ≤ y)), (x, y + d, true)].filter
    (fun p => p.2.2 && decide (p.1 < f.width) && decide (p.2.1 < f.height) && !f.defect p.1 p.2.1)).map
      (fun p => (p.1, p.2.1))

/-- x2 of a pixel (R436); open where a neighbour was not received. -/
def MetFrame.x2 (f : MetFrame) (free : Nat) (x y : Nat) : Option Nat :=
  if f.defect x y then
    (f.x0 x y).map (fun _ =>
      let l := (f.neighbours x y).map (fun p => f.x1 p.1 p.2)
      if l.all Option.isSome then defectValue (l.map (·.getD 0)) else Config.openSample free x y % 65536)
  else f.x1 x y

/-- Columns and rows of a shading cell (R438). -/
def MetFrame.cell (f : MetFrame) : Nat × Nat := ((f.width + 15) / 16, (f.height + 15) / 16)

/-- Gain G[j][i] of a channel (R438). -/
def MetFrame.gain (f : MetFrame) (c j i : Nat) : Nat := f.shd.getD ((c * 17 + j) * 17 + i) 0

/-- x3 of a pixel (R438). -/
def MetFrame.x3 (f : MetFrame) (free : Nat) (x y : Nat) : Option Nat :=
  (f.x2 free x y).map (fun v =>
    let cw := f.cell.1
    let ch := f.cell.2
    let c := f.chan x y
    let row (j : Nat) : Nat := f.gain c j (x / cw) * (cw - x % cw) + f.gain c j (x / cw + 1) * (x % cw)
    min 65535 (roundRatio (v * (row (y / ch) * (ch - y % ch) + row (y / ch + 1) * (y % ch))) (cw * ch * 4096)))

/-- A pixel at a tap point (R439). -/
def MetFrame.point (f : MetFrame) (free p x y : Nat) : Option Nat :=
  match p with
  | 0 => f.x0 x y
  | 1 => f.x1 x y
  | 2 => f.x2 free x y
  | _ => f.x3 free x y

/-! ### Raw taps (R439 to R441) -/

def MetTap.stream (t : MetTap) : Nat := getBits (t.params.getD 0 0) 2 1
def MetTap.pointOf (t : MetTap) : Nat := getBits (t.params.getD 0 0) 5 4
def MetTap.count (t : MetTap) : Nat := getBits (t.params.getD 0 0) 11 8
/-- Address of the next row to copy. -/
def MetTap.rowAddr (t : MetTap) (f : MetFrame) (row : Nat) : Nat :=
  let base := (t.params.getD 1 0).toNat / 64 * 64 + getBits (t.params.getD 2 0) 5 0 * 2 ^ 32
  base + (t.buffer * f.height + row) * getBits (t.params.getD 3 0) 17 0

/-- A tap stops (R439, R440). -/
def tapStop (i : Nat) (at_ : Option Time) : Prog :=
  .block [modTap i (fun t => { t with running := false }), .setFld (F.MET_T_CTRL_BUSY i) 0, raiseIn 427 at_]

/-- Store a row in pieces that each lie in one line of memory; a piece that touches a pinned range is discarded and
stops the tap (R250, R440). -/
def tapStore (i : Nat) (at_ : Option Time) : Nat → Nat → List Byte → Prog
  | 0, _, _ => .nil
  | k + 1, a, data =>
    if data.isEmpty then .nil
    else
      let piece := data.take (128 - a % 128)
      .dyn (fun s => .seq (memWrite 0x12 a piece)
        (if inDram a && s.pinned a piece.length then .seq (metError 0x06 at_) (tapStop i at_)
        else tapStore i at_ k (a + piece.length) (data.drop (128 - a % 128))))

/-- Copy one row of the frame, where it was received (R432, R433, R439). -/
def tapRow (i st row : Nat) (at_ : Option Time) : Prog :=
  .dyn (fun s => match (s.stream st).frame with
    | none => .nil
    | some f =>
      let t := s.tap i
      let px := (List.range f.width).filterMap (fun x => f.point s.freeCount t.pointOf x row)
      .when (t.running && row < f.height) (.seq (.act (.free 1))
        (tapStore i at_ (px.length + 1) (t.rowAddr f row) (px.flatMap (leBytes 2)))))

/-- Copy the rows that have become complete: a point behind the defect stage waits for the rows below it. -/
def tapRows (st : Nat) (close : Option Time) : Prog :=
  .each (List.range 4) (fun i => .dyn (fun s => match (s.stream st).frame with
    | none => .nil
    | some f =>
      let t := s.tap i
      let ready := if close.isSome then f.height
        else if t.pointOf ≤ 1 then f.row else f.row - (if f.mono then 1 else 2)
      .when (t.running && t.stream == st) (.block [
        .each ((List.range ready).filter (fun r => decide (t.row ≤ r))) (fun r => tapRow i st r close),
        modTap i (fun t => { t with row := max t.row ready })])))

/-- A frame start arms what waits for it (R439). -/
def tapsBegin (st : Nat) (seq : Word) : Prog :=
  .each (List.range 4) (fun i => .dyn (fun s =>
    let t := s.tap i
    .block [
      .when (t.armed && t.stream == st) (.block [
        modTap i (fun t => { t with armed := false, running := true, buffer := 0, row := 0 }),
        .setFld (F.MET_T_CTRL_ARM i) 0, .setFld (F.MET_T_CTRL_BUSY i) 1,
        .setFld (F.MET_T_DONE_FRAMES i) 0, .setFld (F.MET_T_DONE_FIRST_SEQ i) (seq.toNat % 65536)]),
      .when (t.running && t.stream == st) (modTap i (fun t => { t with row := 0 }))]))

/-- A frame close ends a buffer of every tap of the stream, the last one the tap (R439). -/
def tapsEnd (st : Nat) (close : Time) : Prog :=
  .each (List.range 4) (fun i => .dyn (fun s =>
    let t := s.tap i
    .when (t.running && t.stream == st) (.block [
      modTap i (fun t => { t with buffer := t.buffer + 1 }),
      .setFld (F.MET_T_DONE_FRAMES i) (t.buffer + 1),
      .when (t.count ≤ t.buffer + 1) (tapStop i (some close))])))

/-- TAP_ARM (R439, R441, R564): the registers are sampled; COUNT 0 is a reserved encoding. -/
def tapArmProg (i : Nat) : Prog :=
  .guard (fun s => i < 4 && !s.flag (F.MET_T_CTRL_BUSY i) && s.fld (F.MET_T_CTRL_COUNT i) != 0) (.dyn (fun s => .block [
    modTap i (fun t => { t with
      armed := true
      params := [s.reg (R.MET_T_CTRL i), s.reg (R.MET_T_BASE_LO i), s.reg (R.MET_T_BASE_HI i), s.reg (R.MET_T_PITCH i)] }),
    .setFld (F.MET_T_CTRL_ARM i) 1]))

def execTapArm (tap : Nat) (s : State) : Host.Outcome State Fault Refusal := .next ((tapArmProg tap).go s)

/-! ### Statistics (R442 to R444) -/

/-- The received pixels of a frame with x3: x, y, value. -/
def MetFrame.pixels (f : MetFrame) (free : Nat) : List (Nat × Nat × Nat) :=
  (List.range f.height).flatMap (fun y => (List.range f.width).filterMap (fun x => (f.x3 free x y).map (fun v => (x, y, v))))

/-- The histogram area (Table 15.4). -/
def MetFrame.histogram (f : MetFrame) (px : List (Nat × Nat × Nat)) : List Byte :=
  (List.range 4).flatMap (fun c => (List.range 256).flatMap (fun k =>
    leBytes 4 (px.filter (fun p => f.chan p.1 p.2.1 == c && p.2.2 / 256 == k)).length))

/-- The zone means (R443); a zone without pixels has an open mean. -/
def MetFrame.zones (f : MetFrame) (free : Nat) (px : List (Nat × Nat × Nat)) : List Byte :=
  (List.range 16).flatMap (fun j => (List.range 16).flatMap (fun i =>
    let z := px.filter (fun p => p.1 / f.cell.1 == i && p.2.1 / f.cell.2 == j)
    leBytes 4 (if z.isEmpty then Config.openSample free i j % 2 ^ 24 else (z.map (·.2.2)).sum * 256 / z.length)))

/-- One spot record (R444). -/
def MetFrame.spot (f : MetFrame) (px : List (Nat × Nat × Nat)) (q : List Nat) : List Byte :=
  let g (k : Nat) : Nat := q.getD k 0
  let w := if g 2 = 0 then 64 else g 2
  let h := if g 3 = 0 then 64 else g 3
  if f.width < g 0 + w || f.height < g 1 + h then List.replicate 16 0
  else
    let win := px.filter (fun p => g 0 ≤ p.1 && p.1 < g 0 + w && g 1 ≤ p.2.1 && p.2.1 < g 1 + h)
    let s := (win.map (fun p => p.2.2 - g 4)).sum
    let c (k : Nat × Nat × Nat → Nat) : Nat := if s = 0 then 0 else (win.map (fun p => (p.2.2 - g 4) * k p)).sum * 256 / s
    leBytes 4 (c (·.1)) ++ leBytes 4 (c (·.2.1)) ++ leBytes 4 s ++ leBytes 2 (win.foldl (fun m p => max m p.2.2) 0) ++
    leBytes 2 (win.filter (fun p => p.2.2 == 65535)).length

/-- The spot area; records beyond COUNT are open (Table 15.4). -/
def MetFrame.spotArea (f : MetFrame) (free : Nat) (px : List (Nat × Nat × Nat)) : List Byte :=
  (List.range 256).flatMap (fun q => match f.spots[q]? with
    | some e => f.spot px e
    | none => leBytes 16 (Config.openSample free q 256))

/-- The statistics record (Table 15.4). -/
def MetFrame.recordBytes (f : MetFrame) (free : Nat) (noFe : Bool) (close : Time) (closeFsn : Fsn) : List Byte :=
  let flag (k : Nat) (b : Bool) : Nat := if b then 2 ^ k else 0
  let px := if f.short then [] else f.pixels free
  leBytes 4 f.seq.toNat ++ leBytes 4 f.tag.toNat ++
  leBytes 2 (flag 0 (!f.short) + flag 1 f.short + flag 2 f.long + flag 3 noFe + flag 4 f.expFault + flag 5 f.dpcErr +
    flag 6 f.slate + flag 7 f.test) ++
  leBytes 2 (min 65535 f.lines) ++ [timeFrac f.start, timeFrac close] ++ leBytes 2 0 ++
  leBytes 4 (timeNs f.start).toNat ++ leBytes 4 (timeNs close).toNat ++
  leBytes 4 f.startFsn.toNat ++ leBytes 4 closeFsn.toNat ++ leBytes 4 f.bad ++ leBytes 28 0 ++
  (if f.short then List.replicate 9216 0 else f.histogram px ++ f.zones free px ++ f.spotArea free px) ++
  List.replicate 7104 0

/-! ### Frame accounting (R427 to R434) -/

/-- The entries of a defect list that count: each later in (Y, X) than the one before (R437). -/
def risingEntries : Option Nat → List Nat → List Nat × Bool
  | _, [] => ([], false)
  | last, e :: rest =>
    if (match last with | some l => decide (e ≤ l) | none => false) then ([], true)
    else ((e :: (risingEntries (some e) rest).1), (risingEntries (some e) rest).2)

/-- The frame that starts on a stream, with its tables latched (R431, R434, R437). -/
def State.newFrame (s : State) (i : Nat) (seq : Word) (t : Time) (fsn : Fsn) (test : Bool) (bits : Nat) : MetFrame :=
  let words (a n : Nat) : List Nat := (List.range n).map (fun k => leNat (s.bytes (a + 4 * k) 4))
  let dpc := risingEntries none
    (words (s.addr (F.MET_S_DPC_LO_ADDR_LO i) (F.MET_S_DPC_HI_ADDR_HI i)) (s.fld (F.MET_S_DPC_HI_COUNT i)))
  let shd := s.addr (F.MET_S_SHD_LO_ADDR i) (F.MET_S_SHD_HI_ADDR i)
  let spot := s.addr (F.MET_S_SPOT_LO_ADDR i) (F.MET_S_SPOT_HI_ADDR i)
  { seq := seq, start := t, startFsn := fsn, slate := s.cmt.screen == .slate, test := test, dpcErr := dpc.2
    tag := (s.stream i).tag, expFault := (s.stream i).faults.contains seq
    mono := s.fld (F.MET_S_CFG_CFA i) == 0, bits := bits
    width := s.fld (F.MET_S_SIZE_W i), height := s.fld (F.MET_S_SIZE_H i)
    bl := [s.fld (F.MET_S_BL_BL0 i), s.fld (F.MET_S_BL_BL1 i), s.fld (F.MET_S_BL2_BL2 i), s.fld (F.MET_S_BL2_BL3 i)]
    dpc := dpc.1.map (fun e => (e / 65536, e % 65536))
    shd := (List.range 1156).map (fun k => leNat (s.bytes (shd + 2 * k) 2))
    spots := (List.range (s.fld (F.MET_S_SPOT_HI_COUNT i))).map (fun q =>
      let b := s.bytes (spot + 8 * q) 8
      [leAt b 0 2, leAt b 2 2, byteAt b 4, byteAt b 5, leAt b 6 2])
    record := s.addr (F.MET_S_REC_LO_ADDR i) (F.MET_S_REC_HI_ADDR i)
    ringLog := s.fld (F.MET_S_REC_HI_RING_LOG i) }

/-- Use the committed frame, an open value while there is none. -/
def withCommitted (f : Fsn → Prog) : Prog := .withFree (fun w => .dyn (fun s => f (s.ing.committed.getD w)))

/-- The sets of the window that a frame start ends take their place; what the new frame brings into force is in force
(R446, R447). -/
def MetStream.turn (x : MetStream) (t : Time) : MetStream :=
  let seq := x.nextSeq
  let window := if seq = 0 then 0 else seq - 1
  let past := x.ends.filter (fun e => decide (e.1 < t))
  let from_ (e : Time × Nat × Option Word) : Word := window + BitVec.ofNat 32 e.2.1
  let tags := x.tags ++ past.filterMap (fun e => e.2.2.map (fun tag => (from_ e, tag)))
  let due := tags.filter (fun p => notBeforeFsn seq p.1)
  { x with
    ends := x.ends.filter (fun e => !decide (e.1 < t))
    tags := tags.filter (fun p => !notBeforeFsn seq p.1)
    tag := (due.foldl (fun (b : Option (Word × Word)) p => match b with
      | none => some p
      | some q => if notBeforeFsn p.1 q.1 then some p else some q) none).elim x.tag (·.2)
    faults := x.faults.filter (fun f => notBeforeFsn f seq) ++
      past.filterMap (fun e => if e.2.2.isNone then some (from_ e) else none)
    nextSeq := seq + 1 }

/-- EN goes to 1: FRAME_SEQ counts from 0 again, and what was to come into force after some frames still does so after as
many (R431, R446; log entry 77). -/
def MetStream.restart (x : MetStream) : MetStream :=
  { x with
    nextSeq := 0, frame := none
    tags := x.tags.map (fun p => (p.1 - x.nextSeq, p.2))
    faults := (x.faults.filter (fun f => notBeforeFsn f x.nextSeq)).map (fun f => f - x.nextSeq) }

/-- A frame start (R431, R434, R439, R446). -/
def frameStart (i : Nat) (t : Time) (test : Bool) (bits : Nat) : Prog :=
  withCommitted (fun c => .dyn (fun s =>
    let seq := (s.stream i).nextSeq
    .block [
      modStream i (fun x => x.turn t),
      .dyn (fun s =>
        let f := s.newFrame i seq t c test bits
        .seq (modStream i (fun x => { x with frame := some f })) (.when f.dpcErr (metError 0x05 (some t)))),
      tapsBegin i seq]))

/-- A frame close: size flags, the last tap rows, the record (R432, R439, R442, R456). -/
def frameClose (i : Nat) (t : Time) (noFe : Bool) : Prog :=
  .guard (fun s => (s.stream i).frame.isSome) (.block [
    modFrame i (fun f => { f with short := f.short || decide (f.lines < f.height) }),
    tapRows i (some t),
    withCommitted (fun c => .dyn (fun s => match (s.stream i).frame with
      | none => .nil
      | some f => .block [
        .act (.free 1),
        memStream 0x12 (f.record + f.seq.toNat % 2 ^ f.ringLog * 16384) (f.recordBytes s.freeCount noFe t c),
        .setReg (R.MET_S_REC_IDX i) f.seq,
        modStream i (fun x => { x with frame := none, lastRecord := some t }),
        .raiseAt 424 t, .when (f.short || f.long) (.raiseAt 425 t)])),
    tapsEnd i t])

/-- A line that is counted: its pixels enter at its row (R430 to R433). -/
def lineIn (i : Nat) (samples : List Nat) : Prog :=
  .seq (modFrame i (fun f =>
      let px := samples.map (fun p => p % 2 ^ f.bits * 2 ^ (16 - f.bits))
      let lines := f.lines + 1
      { f with
        row := f.row + 1, lines := lines
        short := f.short || decide (px.length < f.width)
        long := f.long || decide (f.width < px.length) || decide (f.height < lines)
        px := if f.row < f.height && lines ≤ f.height then f.px ++ [(f.row, px.take f.width)] else f.px }))
    (tapRows i none)

/-- The input buffer overflows: the rest of the frame is dropped (Table 15.2). -/
def overflowIn (i : Nat) : Prog := .seq (modFrame i (fun f => { f with overflow := true, short := true })) (metError 0x04 none)

/-- A stream receives: the port is enabled in the mode that carries it, and the stream is enabled (Table 15.1). -/
def State.receives (s : State) (mode i : Nat) : Bool :=
  s.flag F.MET_CTRL_ENABLE && s.fld F.MET_CTRL_MODE == mode && s.flag (F.MET_S_CFG_EN i) && i < 4 &&
  s.fld (F.MET_S_CFG_TEST i) == 0

/-- A CSI-2 packet arrives: one with an uncorrectable header is discarded (R428). -/
def csiPacket (vc : Nat) (eccOk : Bool) (t : Option Time) (p : Prog) : Prog :=
  .guard (fun s => s.flag F.MET_CTRL_ENABLE && s.fld F.MET_CTRL_MODE == 1)
    (if eccOk then .guard (fun s => s.receives 1 vc) p else metError 0x01 t)

/-- A stamp of the serial port, corrected by MET_CSI_LAT (R434). -/
def State.csiTime (s : State) (t : Time) : Time := t - (s.fld F.MET_CSI_LAT_NS * 256 : Nat)

/-- Sample width of a data type (R428, Table 15.9). -/
def csiBits (dt : Nat) : Nat := 2 * dt - 76

/-- CSI_FRAME_START (R428, R431). -/
def execCsiFrameStart (vc : Nat) (eccOk : Bool) (stamp : Time) (s : State) : Host.Outcome State Fault Refusal :=
  .next ((csiPacket vc eccOk (some stamp) (.dyn (fun s => .seq (frameClose vc (s.csiTime stamp) true)
    (frameStart vc (s.csiTime stamp) false (csiBits (s.fld (F.MET_S_CFG_DT vc))))))).go s)

/-- CSI_LINE_PACKET (R428, R430 to R432): a line with a bad CRC keeps its row. -/
def execCsiLinePacket (vc dataType : Nat) (eccOk crcOk overflow : Bool) (samples : List Nat) (s : State) :
    Host.Outcome State Fault Refusal :=
  .next ((csiPacket vc eccOk none (.dyn (fun s =>
    if dataType != s.fld (F.MET_S_CFG_DT vc) then metError 0x03 none
    else match (s.stream vc).frame with
    | none => .nil
    | some f =>
      if f.overflow then .nil
      else if overflow then overflowIn vc
      else if !crcOk then .block [
        modFrame vc (fun f => { f with row := f.row + 1, bad := f.bad + 1 }), tapRows vc none, metError 0x02 none]
      else lineIn vc samples))).go s)

/-- CSI_FRAME_END (R431, R432). -/
def execCsiFrameEnd (vc : Nat) (eccOk : Bool) (stamp : Time) (s : State) : Host.Outcome State Fault Refusal :=
  .next ((csiPacket vc eccOk (some stamp) (.dyn (fun s => frameClose vc (s.csiTime stamp) false))).go s)

/-- PARALLEL_VSYNC_EDGE (R427, R434). -/
def execParallelVsyncEdge (stamp : Time) (s : State) : Host.Outcome State Fault Refusal :=
  .next ((Prog.guard (fun s => s.receives 2 0) (.dyn (fun s => .seq (frameClose 0 stamp false)
    (frameStart 0 stamp false (s.fld F.MET_PAR_BITS))))).go s)

/-- PARALLEL_HSYNC_LINE (R429 to R433). -/
def execParallelHsyncLine (overflow : Bool) (samples : List Nat) (s : State) : Host.Outcome State Fault Refusal :=
  .next ((Prog.guard (fun s => s.receives 2 0) (.dyn (fun s => match (s.stream 0).frame with
    | none => .nil
    | some f => if f.overflow then .nil else if overflow then overflowIn 0 else lineIn 0 samples))).go s)

/-- One sample of a test pattern (R448); the flat field above 65,535 is open. -/
def testSample (pattern bl0 free x y : Nat) : Nat :=
  match pattern with
  | 1 => (x + y) * 64 % 65536
  | 2 => if (x / 8 + y / 8) % 2 = 0 then 0 else 65535
  | _ => if bl0 + 32768 < 65536 then bl0 + 32768 else Config.openSample free 0 0 % 65536

/-- A stream is in test (R448). -/
def State.testing (s : State) (i : Nat) : Bool :=
  s.flag F.MET_CTRL_ENABLE && s.flag (F.MET_S_CFG_EN i) && i < 4 && s.fld (F.MET_S_CFG_TEST i) != 0 &&
  (s.fld F.MET_CTRL_MODE == 1 || (s.fld F.MET_CTRL_MODE == 2 && i == 0))

/-- TEST_FRAME_START (R448): the generated frame runs through every stage; its close stamp is open. -/
def execTestFrameStart (stream : Nat) (stamp : Time) (s : State) : Host.Outcome State Fault Refusal :=
  .next ((Prog.guard (fun s => s.testing stream) (.withFreeStamp (fun close => .block [
    frameClose stream stamp false,
    frameStart stream stamp true 16,
    .dyn (fun s => .seq (.act (.free 1)) (.each (List.range (s.fld (F.MET_S_SIZE_H stream))) (fun y =>
      lineIn stream ((List.range (s.fld (F.MET_S_SIZE_W stream))).map
        (fun x => testSample (s.fld (F.MET_S_CFG_TEST stream)) (s.fld (F.MET_S_BL_BL0 stream)) s.freeCount x y))))),
    frameClose stream close false]))).go s)

/-! ### Exposure control (R445 to R447) -/

/-- EXP_SET_GO (R445, R564): the descriptor is read at the write; a fifth set is discarded. -/
def expSetGoProg (i : Nat) : Prog :=
  .guard (fun _ => i < 4) (.dyn (fun s =>
    if 4 ≤ (s.stream i).queued.length then metError 0x07 none
    else .block [
      modStream i (fun x => { x with queued := x.queued ++
        [(s.bytes (s.addr (F.MET_S_EXP_LO_ADDR i) (F.MET_S_EXP_HI_ADDR i)) 64, s.met.goOrder)] }),
      .act (.met (fun m => { m with goOrder := m.goOrder + 1 })),
      .setFld (F.MET_S_EXP_GO_QUEUED i) ((s.stream i).queued.length + 1)]))

def execExpSetGo (stream : Nat) (s : State) : Host.Outcome State Fault Refusal := .next ((expSetGoProg stream).go s)

/-- The stream whose first queued set has the earliest GO (R445). -/
def State.nextSet (s : State) : Option Nat :=
  ((List.range 4).filterMap (fun i => ((s.stream i).queued.head?).map (fun q => (i, q.2)))).foldl
    (fun (b : Option (Nat × Nat)) p => match b with
      | none => some p
      | some q => if p.2 < q.2 then some p else some q) none |>.map (·.1)

/-- The write transactions of a set, one per entry (R445). -/
def setWrites (d : List Byte) : List CciWrite :=
  (List.range (min 8 (byteAt d 4))).map (fun k =>
    let wideReg := bitOf (byteAt d 5) 0
    let wideValue := bitOf (byteAt d 5) 1
    let reg := leAt d (8 + 4 * k) 2
    let value := leAt d (10 + 4 * k) 2
    { device := byteAt d 6 % 128, wideReg := wideReg, wideValue := wideValue
      reg := if wideReg then reg else reg % 256, value := if wideValue then value else value % 256 })

/-- EXP_SET_START (R445): one set at a time, in the order of the GO writes. -/
def execExpSetStart (s : State) : Host.Outcome State Fault Refusal :=
  .next ((Prog.guard (fun s => s.met.cci.isNone) (.dyn (fun s => match s.nextSet with
    | none => .nil
    | some i => match (s.stream i).queued with
      | [] => .nil
      | q :: rest => .block [
        modStream i (fun x => { x with queued := rest }),
        .setFld (F.MET_S_EXP_GO_QUEUED i) rest.length,
        .act (.met (fun m => { m with cci := some (i, q.1) })),
        .setFld F.MET_CCI_BUSY 1, .send (.cci i (setWrites q.1))]))).go s)

/-- The running set ends at a stamp (R446, R447). -/
def setEnds (tag : List Byte → Option Word) (t : Time) (p : Nat → Prog) : Prog :=
  .dyn (fun s => match s.met.cci with
    | none => .nil
    | some c => .block [
      .act (.met (fun m => { m with cci := none })), .setFld F.MET_CCI_BUSY 0,
      modStream c.1 (fun x => { x with ends := x.ends ++ [(t, s.fld (F.MET_S_CFG_EXP_LATENCY c.1), tag c.2)] }),
      p c.1])

/-- EXP_SET_DONE (R446, R447): the window is judged from the stamp at the next frame start. -/
def execExpSetDone (acked : Bool) (stamp : Time) (s : State) : Host.Outcome State Fault Refusal :=
  .next ((setEnds (fun d => if acked then some (BitVec.ofNat 32 (leAt d 0 4)) else none) stamp
    (fun _ => if acked then .raiseAt 426 stamp else metError 0x08 (some stamp))).go s)

/-- CCI_TIMEOUT (R447): nine clocks and a STOP follow. -/
def execCciTimeout (stamp : Time) (s : State) : Host.Outcome State Fault Refusal :=
  .next ((setEnds (fun _ => none) stamp (fun i => .seq (metError 0x09 (some stamp)) (.send (.cciReset i)))).go s)

/-! ### The calibration service (R449 to R455) -/

/-- Refuse a request of the service (Table 15.6). -/
def metRefuse (req : PmpCtx) (code : Nat) : Prog := .seq (metError code none) (respond req (0x0800 + code) [])

/-- Change the session. -/
def modCal (f : CalSession → CalSession) : Prog := .act (.met (fun m => { m with cal := m.cal.map f }))

/-- Write the four colour address registers (R219). -/
def writeColour (words : List Word) (t : Time) : Prog :=
  .each (List.range 4) (fun k => tableWrite .colour k (words.getD k 0) t)

/-- The words of two addresses as the colour registers take them. -/
def addrWords (a b : Nat) : List Word :=
  [BitVec.ofNat 32 a, BitVec.ofNat 32 (a / 2 ^ 32), BitVec.ofNat 32 b, BitVec.ofNat 32 (b / 2 ^ 32)]

/-- The neutral colour table: identity region matrices, every gain 32,768 (R450, Table 7.2). -/
def neutralTable : List Byte :=
  (List.range 64).flatMap (fun _ => (List.range 9).flatMap (fun k => leBytes 4 (if k % 4 = 0 then 0x10000 else 0))) ++
  List.replicate 1792 0 ++ (List.range 12288).flatMap (fun _ => leBytes 2 32768)

/-- The neutral gain map (R450). -/
def neutralMap : List Byte := (List.range 3145728).flatMap (fun _ => leBytes 2 32768)

/-- Some enabled stream has produced a record in the second before an instant (R37, R449). -/
def State.sensorSeen (s : State) (t : Time) : Bool :=
  (List.range 4).any (fun i => s.flag (F.MET_S_CFG_EN i) && (match (s.stream i).lastRecord with
    | some r => decide (t - 256000000000 ≤ r) && decide (r < t)
    | none => false))

/-- CAL_SESSION_OPEN (R449, R450). -/
def execCalSessionOpen (req : PmpCtx) (force : Bool) (neutralTableAddr neutralMapAddr : Nat) (s : State) :
    Host.Outcome State Fault Refusal :=
  .next ((service 0x20 req (.dyn (fun s =>
    if s.met.cal.isSome then metRefuse req 0x20
    else if s.cmt.screen == .show && s.sec.onAir then metRefuse req 0x21
    else if !s.sensorSeen req.stamp then metRefuse req 0x22
    else .block [
      .act (.met (fun m => { m with
        cal := some { client := req.session, force := force, prevTable := s.tableShadow .colour } })),
      memStream 0 neutralTableAddr neutralTable, memStream 0 neutralMapAddr neutralMap,
      writeColour (addrWords neutralTableAddr neutralMapAddr) req.stamp,
      respond req 0 []]))).go s)

/-- A record counts: both DISPLAY FSNs are one, and name a frame that latched the pattern (R450). -/
def State.recordCounts (s : State) (c : CalSession) (record : List Word) : Bool :=
  let fsn := record.getD 6 0
  16 ≤ record.length && fsn == record.getD 7 0 && !c.pattern.isEmpty && (s.latched fsn).layersLatched &&
  (s.latched fsn).layers == c.pattern

/-- The session belongs to the client of a request. -/
def State.calOf (s : State) (req : PmpCtx) : Option CalSession := s.met.cal.filter (fun c => c.client == req.session)

/-- CAL_PATTERN (R450): a record of the pattern shown so far is taken, with its limiter gain; the next pattern is
committed as a layer set. -/
def execCalPattern (req : PmpCtx) (descs : List (List Word)) (target : Fsn) (record : List Word) (s : State) :
    Host.Outcome State Fault Refusal :=
  .next ((service 0x20 req (.dyn (fun s => match s.calOf req with
    | none => respond req 2 []
    | some c => .block [
      .when (s.recordCounts c record) (modCal (fun c => { c with
        samples := c.samples ++ [(record, (s.latched (record.getD 6 0)).lam)] })),
      .each ((List.range 8).flatMap (fun n => (List.range 16).map (fun k => (n, k)))) (fun p =>
        .setReg (R.LYR_DESC0 p.1 + 4 * p.2) ((descs.getD p.1 []).getD p.2 0)),
      .setReg R.LYR_TARGET_FSN target,
      layerCommitProg req.stamp,
      modCal (fun c => { c with pattern := descs }),
      respond req 0 []]))).go s)

/-- The service ends its session and stages the previous colour table again (R450). -/
def calAbandon (t : Time) : Prog :=
  .dyn (fun s => match s.met.cal with
    | none => .nil
    | some c => .seq (.act (.met (fun m => { m with cal := none }))) (writeColour c.prevTable t))

/-- The bounds of a bin from a direction table: the least and greatest slopes at the four corner hogels over the
directions of its group (R451). -/
def State.derivedBounds (s : State) (table b : Nat) : List F32 :=
  let w : RayView := { pose := [], p := 0, fsx := 0, fsy := 0, bias := 0, half := false, pq := false, linScale := 0
                       entry := fun blk d => s.dirEntry table (blk * 1024 + d) }
  let x0 := b / 8 % 32 * 32
  let y0 := b / 256 * 32
  let dirs := (List.range 8).flatMap (fun v => (List.range 16).map (fun h => 128 * v + b % 8 * 16 + h))
  let l := [(x0, y0), (x0 + 31, y0), (x0, y0 + 31), (x0 + 31, y0 + 31)].flatMap (fun p => dirs.map (w.slopes p.1 p.2))
  match l with
  | [] => [0, 0, 0, 0]
  | a :: t => t.foldl (fun m p => [fmin (m.getD 0 0) p.1, fmax (m.getD 1 0) p.1, fmin (m.getD 2 0) p.2,
      fmax (m.getD 3 0) p.2]) [a.1, a.1, a.2, a.2]

/-- Derived bounds that R124 would refuse. -/
def boundsBad (e : List F32) : Bool :=
  !(e.all isFinite) || flt (e.getD 1 0) (e.getD 0 0) || flt (e.getD 3 0) (e.getD 2 0)

/-- A solve breaks R153 or R124, or too many trims lie outside their range (R452). -/
def State.solveFails (s : State) (table out total : Nat) : Bool :=
  (List.range 1048576).any (s.badDir table) || (List.range 8192).any (fun b => boundsBad (s.derivedBounds table b)) ||
  decide (total < out * 1000)

/-- The figures meet the targets of Table 15.7. -/
def figuresMeet (f : List Nat) : Bool := f.getD 0 0 ≤ 100 && f.getD 1 0 ≤ 500 && f.getD 2 0 ≤ 200

/-- The quality figures as a body. -/
def figureBytes (f : List Nat) : List Byte := (List.range 4).flatMap (fun k => leBytes 4 (f.getD k 0))

/-- CAL_SOLVE (R450 to R453). -/
def execCalSolve (req : PmpCtx) (dirAddr trimsOutOfRange trimsTotal : Nat) (figures : List Nat) (s : State) :
    Host.Outcome State Fault Refusal :=
  .next ((service 0x20 req (.dyn (fun s => match s.calOf req with
    | none => respond req 2 []
    | some c =>
      if s.solveFails dirAddr trimsOutOfRange trimsTotal then .seq (calAbandon req.stamp) (metRefuse req 0x23)
      else if figuresMeet figures || c.force then .seq
        (modCal (fun c => { c with solved := true, dirAddr := dirAddr, figures := figures }))
        (respond req 0 (figureBytes figures))
      else .seq (calAbandon req.stamp) (metRefuse req 0x24)))).go s)

/-- SEQ of a store, from its header (R455). -/
def storeSeq (c : CalStore) : Word := BitVec.ofNat 32 (leNat (c.bytes.take 4))

/-- A store is valid: its header is whole, the digest is that of the rest of the store, and the signature is this
device's (R455). -/
def State.storeValid (s : State) (c : CalStore) : Bool :=
  let signed := c.bytes.take 68
  let sig := slice c.bytes 68 4627
  decide (4695 ≤ c.bytes.length) && (signed.drop 4 == digestBytes (Config.sha3 (c.bytes.drop 4695))) &&
  (sig == s.dskSign signed || Config.storeSigOk signed sig)

/-- The store that a start would use: valid, the later SEQ (R455). -/
def State.activeStore (s : State) : Option Nat :=
  let st (i : Nat) : CalStore := s.nvm.stores.getD i {}
  if s.storeValid (st 0) && s.storeValid (st 1) then some (if laterFsn (storeSeq (st 1)) (storeSeq (st 0)) then 1 else 0)
  else if s.storeValid (st 0) then some 0 else if s.storeValid (st 1) then some 1 else none

/-- The header of a store: SEQ, digest, signature (R455). -/
def State.storeHeader (s : State) (seq : Word) (content : List Byte) : List Byte :=
  let h := leBytes 4 seq.toNat ++ digestBytes (Config.sha3 content)
  h ++ s.dskSign h

/-- The solved direction table as bytes (R150, R451). -/
def State.solvedDirs (s : State) (c : CalSession) : List Byte := s.bytes c.dirAddr 0x1000000

/-- The derived bin bounds table as bytes (R124, R451). -/
def State.solvedBounds (s : State) (c : CalSession) : List Byte :=
  (List.range 8192).flatMap (fun b => (s.derivedBounds c.dirAddr b).flatMap (fun f => leBytes 4 f.toNat))

/-- The service stages its result (R454): the four tables into DRAM, their address registers, then the inactive store
with the whole content of Table 15.8, which becomes the active one. `rest` is what lies in the store between the bounds
table and the quality figures. -/
def calStageNow (c : CalSession) (addrs : List Nat) (rest : List Byte) (t : Time) : Prog :=
  .dyn (fun s =>
    let a (k : Nat) : Nat := addrs.getD k 0
    let idx := match s.activeStore with | some 0 => 1 | _ => 0
    let seq := match s.activeStore with | some i => storeSeq (s.nvm.stores.getD i {}) + 1 | none => 1
    let content := s.solvedDirs c ++ s.solvedBounds c ++ rest ++ figureBytes c.figures
    .block [
      memStream 0 (a 0) (s.solvedDirs c),
      memStream 0 (a 1) (s.solvedBounds c),
      memStream 0 (a 2) (rest.take 0x7000),
      memStream 0 (a 3) (slice rest 0x7000 0x600000),
      .each (List.range 2) (fun k => tableWrite .dirs k ((addrWords (a 0) 0).getD k 0) t),
      .each (List.range 2) (fun k => tableWrite .bounds k ((addrWords (a 1) 0).getD k 0) t),
      writeColour (addrWords (a 2) (a 3)) t,
      .act (.nvm (fun n =>
        let made : CalStore := { bytes := s.storeHeader seq content ++ content }
        { n with stores := n.stores.set idx made })),
      .act (.met (fun m => { m with cal := none }))])

/-- CAL_STAGE (R454): the address registers are written from t_swap(N - 1) to 2 ms before LOCAL_ABORT(N); a request that
comes later in the window of N waits for t_swap(N). -/
def execCalStage (req : PmpCtx) (addrs : List Nat) (rest : List Byte) (s : State) : Host.Outcome State Fault Refusal :=
  .next ((service 0x20 req (.dyn (fun s => match s.calOf req with
    | none => respond req 2 []
    | some c =>
      if s.lc == .returned then respond req 3 []
      else if !c.solved || c.waiting.isSome then respond req 2 []
      else if decide (req.stamp < s.instant .localAbort s.N - 512000000) then
        .seq (calStageNow c addrs rest req.stamp) (respond req 0 [])
      else modCal (fun c => { c with waiting := some (req, addrs, rest) })))).go s)

/-- What waited for the window of the next frame is staged at its start (R454). -/
def calStageDue (t : Time) : Prog :=
  .dyn (fun s => match s.met.cal with
    | none => .nil
    | some c => match c.waiting with
      | none => .nil
      | some w => .seq (calStageNow c w.2.1 w.2.2 t) (respond w.1 0 []))

/-- TRIM items for every line of every drive lane (R286). -/
def loadTrims : Prog :=
  .act (.pdl (fun p => { p with lanes := p.lanes.map (fun d =>
    { d with service := d.service ++ (List.range 32).map ItemKind.trim }) }))

/-- The calibration store that trims come from from now on; M8 takes its header (R455, Table 18.4, Table 17.15). -/
def useStore (i : Nat) : Prog :=
  .dyn (fun s => .block [
    .act (.ctl (fun c => { c with trimPass := i })), .setFld F.CPX_START_STORE i,
    measure 8 ((s.nvm.stores.getD i {}).bytes.take 4695)])

/-- TRIM_RELOAD (R285, R286, R454): only while the screen is DARK. -/
def execTrimReload (req : PmpCtx) (s : State) : Host.Outcome State Fault Refusal :=
  .next ((service 0x21 req (.dyn (fun s =>
    if s.cmt.screen != .dark then respond req 3 []
    else match s.activeStore with
      | none => respond req 2 []
      | some i => .block [useStore i, loadTrims, respond req 0 []]))).go s)

end Sys2Proof.Machine
end

