-- ==== Sys2Proof/Machine/Commit.lean ====
section
/-! DEFINITION. Votes, decisions and swap instants (chapters 01, 06 and 14): the vote window, aggregation, the decision,
screen commands, the swap instant with the slot roles, TICK, and the start of speculation. -/

namespace Sys2Proof.Machine

/-! ### Screen states (Table 1.8) -/

/-- The code of a screen state (Table 14.5a). -/
def screenCode : Screen → Nat
  | .dark => 0
  | .show => 1
  | .hold => 2
  | .slate => 3

/-- One more swap instant without a commit, in the ten bits of CMT_STATE.HOLD_COUNT. -/
def holdMore (h : Nat) : Nat := satAdd 1023 h 1

/-- Table 1.8 and R42 at one swap instant: the state and the hold count, from the frame's outcome and the screen
commands. -/
def screenTable (screen : Screen) (hold : Nat) (commit trigger release dark : Bool) (limit : Nat) : Screen × Nat :=
  if trigger then (.slate, hold)
  else if screen = .slate then
    if !release then (.slate, hold) else if commit then (.show, 0) else (.dark, holdMore hold)
  else if dark then (.dark, holdMore hold)
  else if commit then (.show, 0)
  else if screen = .dark then (.dark, holdMore hold)
  else if hold + 1 ≤ limit then (.hold, hold + 1)
  else (.dark, holdMore hold)

/-- The instant D(N) (R411). -/
def State.decideAt (s : State) (n : Fsn) : Time :=
  let g := s.genOf n
  let gap := g.offsets.getD 3 0 * 1000 - g.offsets.getD 2 0 * 1000
  s.instant .vote n + 9 * gap / 10 * 256

/-! ### The vote window (R407, R409 to R411) -/

/-- The reason of a vote that nothing has settled (R407): the first failing check. -/
def State.lateReason (s : State) (n : Fsn) : BitVec 16 :=
  if !s.binOn then 0x0207 else if !s.synthesised n || !s.arrayOn then 0x0201 else 0x0206

/-- VOTE_DEADLINE (R176, R407, R409). -/
def execVoteDeadline (s : State) : Host.Outcome State Fault Refusal :=
  .next ((Prog.block [
    .dyn (fun s => .act (.cmt (fun c => { c with voteDepth := some (s.N, (s.dom false).depth, (s.dom true).depth) }))),
    .guard (fun s => s.node == .member) (.block [
      .dyn (fun s => match s.epoch s.N with
        | some e => .when (e.st == .created || e.st == .active || e.st == .closed)
            (.seq (.raiseAt 225 (s.instant .vote s.N)) (.count F.GRV_LATE_COUNT_COUNT 1))
        | none => .nil),
      .dyn (fun s => .when (s.flag F.CMT_CTRL_ENABLE && (s.voteFor s.N).isNone)
        (settleVote false (s.lateReason s.N)))])]).go s)

/-- The send limit L_k of frame N in a domain: k is the depth as it stood at VOTE_DEADLINE(N) (R409). -/
def State.sendLimit (s : State) (d : Bool) (n : Fsn) : Time :=
  let g := s.genOf n
  let gap := g.offsets.getD 3 0 * 1000 - g.offsets.getD 2 0 * 1000
  let k : Nat := match s.cmt.voteDepth with
    | some (m, a, b) => if m == n then (if d then b else a) else (s.dom d).depth
    | none => (s.dom d).depth
  s.instant .vote n + (64 - (k : Int)) * gap / 80 * 256

/-- Modify the deciding node's VOTE_FWD aggregates. -/
def storeFwd (n : Fsn) (a : Agg) : Prog := modDecider (fun d => { d with fwd := d.fwd ++ [(n, a)] })

/-- VOTE_SEND_LIMIT (R409): the VOTE goes up; the root of B sends VOTE_FWD (R411). -/
def execVoteSendLimit (domain : Bool) (s : State) : Host.Outcome State Fault Refusal :=
  .next ((Prog.guard (fun s => s.flag F.CMT_CTRL_ENABLE && !s.voteSent domain s.N) (.dyn (fun s =>
    if (s.dom domain).parent.isSome then sendVote domain
    else if domain && s.here == some s.rootB then .block [
      .act (.cmt (fun c => { c with sent := (true, s.N) :: c.sent })),
      if s.isDecider then storeFwd s.N (s.aggregate true s.N)
      else sendUnicast 1 3 s.rootA (voteBytes 2 s.N (s.aggregate true s.N))]
    else .nil))).go s)

/-- A VOTE comes after the node has sent its own, or is stamped at or after the send limit, or at the deciding node after
D(N) (R38, R409 to R411). -/
def State.voteLate (s : State) (d : Bool) (n : Fsn) (t : Time) : Bool :=
  !laterFsn n s.S || s.voteSent d n ||
  (if !d && s.isDecider then (n == s.N && s.cmt.decider.made.isSome) || decide (s.decideAt n ≤ t)
   else decide (s.sendLimit d n ≤ t))

/-- VOTE_RECEIVE (R409, R410). -/
def execVoteReceive (domain : Bool) (port : Nat) (fsn : Fsn) (agg : Agg) (stamp : Time) (s : State) :
    Host.Outcome State Fault Refusal :=
  .next ((Prog.guard (fun s => s.flag F.CMT_CTRL_ENABLE) (.dyn (fun s =>
    if s.voteLate domain fsn stamp then .count F.CMT_LATE_AGG_COUNT 1
    else .block [
      .atFabric stamp,
      .act (.cmt (fun c => { c with children := c.children ++
        [{ domain := domain, port := port, fsn := fsn, agg := agg, stamp := stamp }] })),
      trySendVote domain]))).go s)

/-- VOTE_FWD_RECEIVE (R411). -/
def execVoteFwdReceive (src : BitVec 16) (fsn : Fsn) (agg : Agg) (stamp : Time) (s : State) :
    Host.Outcome State Fault Refusal :=
  .next ((Prog.guard (fun s => s.isDecider && s.flag F.CMT_CTRL_ENABLE && src == s.rootB && laterFsn fsn s.S &&
      decide (stamp < s.decideAt fsn) && !(fsn == s.N && s.cmt.decider.made.isSome) &&
      (s.cmt.decider.fwd.lookup fsn).isNone)
    (storeFwd fsn agg)).go s)

/-! ### Screen commands (R416) -/

/-- A command reaches the deciding node's requests: 1 SLATE_TRIGGER, 2 SLATE_RELEASE, 3 DARK_ON, 4 DARK_OFF. -/
def Decider.take (d : Decider) (cmd : Nat) : Decider :=
  match cmd with
  | 1 => { d with trigger := true }
  | 2 => { d with release := true }
  | 3 => { d with darkStanding := true }
  | 4 => { d with darkStanding := false }
  | _ => d

/-- The deciding node takes a command once by source and REQ_ID; one that D(N) precedes is kept for N + 1 (R416). -/
def takeCommand (src : BitVec 16) (reqId : Word) (cmd : Nat) (late : State → Bool) : Prog :=
  .guard (fun s => s.isDecider && !s.cmt.decider.seenReqs.contains (src, reqId)) (.dyn (fun s =>
    modDecider (fun d =>
      let d := { d with seenReqs := (src, reqId) :: d.seenReqs }
      if d.made.isSome || late s then { d with lateCmds := d.lateCmds ++ [cmd] } else d.take cmd)))

/-- A SCREEN_CMD message (Table 14.6). -/
def screenCmdBytes (cmd : Nat) (reqId : Word) : List Byte :=
  leBytes 4 4 ++ leBytes 4 cmd ++ leBytes 4 reqId.toNat

/-- A screen command enters at this node, stamped, and goes to the deciding node (R38, R416). -/
def screenCommand (cmd : Nat) (t : Time) : Prog :=
  .dyn (fun s =>
    let id := s.cmt.reqId
    .block [
      .act (.cmt (fun c => { c with reqId := c.reqId + 1 })),
      sendUnicast 1 3 s.rootA (screenCmdBytes cmd id),
      (match s.here with | some a => takeCommand a id cmd (fun s => decide (s.decideAt s.N ≤ t)) | none => .nil)])

def execSlateTrigger (stamp : Time) (s : State) : Host.Outcome State Fault Refusal := .next ((screenCommand 1 stamp).go s)

def execSlateRelease (stamp : Time) (s : State) : Host.Outcome State Fault Refusal := .next ((screenCommand 2 stamp).go s)

def execDarkOn (stamp : Time) (s : State) : Host.Outcome State Fault Refusal := .next ((screenCommand 3 stamp).go s)

def execDarkOff (stamp : Time) (s : State) : Host.Outcome State Fault Refusal := .next ((screenCommand 4 stamp).go s)

/-- SCREEN_CMD_RECEIVE (R416). -/
def execScreenCmdReceive (src : BitVec 16) (cmd : Byte) (reqId : Word) (stamp : Time) (s : State) :
    Host.Outcome State Fault Refusal :=
  .next ((takeCommand src reqId cmd.toNat (fun s => decide (s.decideAt s.N ≤ stamp))).go s)

/-! ### The decision (R411, R412) -/

/-- The deciding node can decide: time lock in domain A, not FAULT, CMT enabled (R406, Table 14.8). -/
def State.canDecide (s : State) : Bool :=
  s.isDecider && s.flag F.CMT_CTRL_ENABLE && (s.dom false).lock && s.node != .fault

/-- The two aggregates at D(N), the second where a VOTE_FWD has come (R411). -/
def State.aggregates (s : State) (n : Fsn) : List Agg :=
  s.aggregate false n :: (s.cmt.decider.fwd.lookup n).toList

/-- An aggregate is complete for the admitted set of the generation in force (R411). -/
def State.aggComplete (s : State) (a : Agg) : Bool := a.ready == s.cmt.gen.mCount && a.sum == s.cmt.gen.mSum

/-- COMMIT under R411. -/
def State.decidesCommit (s : State) (n : Fsn) : Bool :=
  let aggs := s.aggregates n
  s.admission (s.genOf n) && aggs.all (fun a => a.notReady == 0) && aggs.any s.aggComplete

/-- The reason and REASON_NODE of an ABORT (R411). -/
def State.abortReason (s : State) (n : Fsn) : BitVec 16 × BitVec 16 :=
  match (s.aggregates n).filter (fun a => a.notReady != 0) with
  | [] => (if s.admission (s.genOf n) then 0x0210 else 0x0211, 0)
  | a :: l =>
    let b := l.foldl (fun b x => if x.reasonNode.toNat < b.reasonNode.toNat then x else b) a
    (b.reason, b.reasonNode)

/-- READY of the complete aggregate, or the greater of the two (Table 14.5a). -/
def State.readyCount (s : State) (n : Fsn) : Nat :=
  match (s.aggregates n).find? s.aggComplete with
  | some a => a.ready
  | none => (s.aggregates n).foldl (fun m a => max m a.ready) 0

/-- λ that a generation gives: its first two frames (R223). -/
def State.genLam (s : State) (n : Fsn) : Option Nat :=
  let g := s.genOf n
  if g.num ≠ 0 ∧ (n = g.firstFsn ∨ n = g.firstFsn + 1) then some g.limitStart else none

/-- λ_(N+1) at the deciding node: issued or given for it, else the latest issued or given before it, else
COL_LIMIT_START (R227). -/
def State.lamUpTo (s : State) (n : Fsn) : Nat :=
  let known := s.cmt.decider.issuedLam ++
    s.cmt.gens.flatMap (fun g => [(g.firstFsn, g.limitStart), (g.firstFsn + 1, g.limitStart)])
  match s.genLam n with
  | some x => x
  | none =>
    match s.cmt.decider.issuedLam.lookup n with
    | some x => x
    | none =>
      match (known.filter (fun p => laterFsn n p.1)).foldl (fun (b : Option (Fsn × Nat)) p =>
          match b with
          | none => some p
          | some q => if laterFsn p.1 q.1 then some p else b) none with
      | some p => p.2
      | none => s.effFld F.COL_LIMIT_START_GAIN

/-- λ_(N+2) (R223, R227). -/
def State.nextLam (s : State) (n : Fsn) : Nat :=
  match s.genLam (n + 2) with
  | some x => x
  | none =>
    let prev := s.lamUpTo (n + 1)
    let least := (s.aggregates n).foldl (fun d a => minDemand d a.demand) none
    max (s.effFld F.COL_LIMIT_CFG_FLOOR) (min (min (least.getD prev) (prev + s.effFld F.COL_LIMIT_CFG_RISE)) 0x8000)

/-- The activation fields of the decision on N (R423). -/
def State.actFields (s : State) (n : Fsn) : Option (Fsn × Word) :=
  s.cmt.decider.actReq.filter (fun a => decide (4 ≤ (a.1 - n).toNat) && decide ((a.1 - n).toNat ≤ 255))

/-- The code of CMD (Table 14.5a): the command of the highest row of Table 1.8 that applies (R416). -/
def Decider.cmdCode (d : Decider) (screen : Screen) : Nat :=
  if d.trigger then 1 else if d.release && screen == .slate then 2 else if d.darkStanding then 3 else 0

/-- DECISION(N) as D(N) fixes it; COMMITTED_FSN is an open value while no frame has committed (R411, R412). -/
def State.makeDecision (s : State) (n : Fsn) (free : Fsn) : Decision :=
  let commit := s.decidesCommit n
  let d := s.cmt.decider
  let t := screenTable s.cmt.screen s.cmt.holdCount commit d.trigger (d.release && s.cmt.screen == .slate) d.darkStanding
    (s.genOf n).holdLimit
  let why := if commit then (0, 0) else s.abortReason n
  let act := s.actFields n
  { fsn := n, commit := commit, screen := t.1, cmd := d.cmdCode s.cmt.screen, actValid := act.isSome, holdCount := t.2
    gen := (s.genOf n).num, lam := s.nextLam n, reason := why.1, reasonNode := why.2, ready := s.readyCount n
    actFsn := (act.map (·.1)).getD 0, actId := (act.map (·.2)).getD 0
    committedFsn := if commit then n else (d.lastCommit.orElse (fun _ => s.ing.committed)).getD free }

/-- DECIDE (R406, R411, R416): the pending slate commands are spent. -/
def execDecide (s : State) : Host.Outcome State Fault Refusal :=
  .next ((Prog.guard (fun s => s.canDecide && s.cmt.decider.made.isNone) (.withFree (fun w => .dyn (fun s =>
    modDecider (fun d => { d with made := some (s.makeDecision s.N w), trigger := false, release := false }))))).go s)

/-- A DECISION message (Table 14.5a). -/
def decisionBytes (d : Decision) : List Byte :=
  leBytes 1 3 ++
  leBytes 1 ((if d.commit then 1 else 2) + screenCode d.screen * 4 + d.cmd * 16 + boolNat d.actValid * 128) ++
  leBytes 2 d.holdCount ++ leBytes 4 d.fsn.toNat ++ leBytes 4 d.gen.toNat ++ leBytes 2 d.lam ++ leBytes 2 d.reason.toNat ++
  leBytes 2 d.reasonNode.toNat ++ leBytes 2 d.ready ++ leBytes 4 d.actFsn.toNat ++ leBytes 4 d.actId.toNat ++
  leBytes 4 d.committedFsn.toNat

/-! ### A decision arrives (R197, R201, R202, R413, R415, R418) -/

/-- The pending frame is abandoned; decompressed textures that waited for it settle (R116, R197). -/
def abandonNow (n : Fsn) : Prog := .seq (abandonFrame n) settleQ0

/-- COMMIT for the pending frame: a synthesised epoch waits for its swap instant; with any other the node enters FAULT
and the epoch is abandoned (R201, R202); a node that holds no epoch of the frame has none to judge (log entry 23). -/
def commitFrame (n : Fsn) : Prog :=
  .dyn (fun s => match s.epoch n with
    | none => .nil
    | some e =>
      if e.st == .none then .nil
      else if e.st == .synthesised then modEpoch n (fun e => { e with st := .decided })
      else if nodeMove s.node .fault then .block [
        modEpoch n (fun e => { e with st := .abandoned, workStop := true }), cmtFault 0x20, .raise 166]
      else abandonNow n)

/-- The first copy of DECISION(N) is held, forwarded by the root of B and acted on; a differing copy is a conflict
(R412, R413, R418). -/
def takeDecision (d : Decision) : Prog :=
  .dyn (fun s => match s.cmt.decision with
    | some old => .when (old != d && s.node == .member) (cmtFault 0x22)
    | none => .block [
      .act (.cmt (fun c => { c with decision := some d })),
      .when (s.here == some s.rootB) (sendTree true true 3 (decisionBytes d)),
      .when (s.node == .member && d.gen != s.cmt.gen.num && (s.genHeld d.gen).isNone) (cmtFault 0x24),
      .guard (fun s => !s.frozen) (if d.commit then commitFrame d.fsn else abandonNow d.fsn),
      sceneReport d.fsn (if d.commit then 1 else 2)])

/-- A node without a generation in force that holds the one a decision names reckons its frames from that decision
(R56, R413, log entry 29). -/
def alignDecision (d : Decision) : Prog :=
  .guard (fun s => s.unaligned && (s.genHeld d.gen).isSome) (alignTo (d.fsn - 1))

/-- DECISION_RECEIVE (R413): a copy stamped at or after LOCAL_ABORT(N) is discarded. -/
def execDecisionReceive (_viaB : Bool) (dec : Decision) (stamp : Time) (s : State) : Host.Outcome State Fault Refusal :=
  .next ((Prog.guard (fun s => s.here.isSome) (.seq (alignDecision dec)
    (.guard (fun s => dec.fsn == s.N && decide (stamp < s.instant .localAbort dec.fsn)) (takeDecision dec)))).go s)

/-- The generation in force is sent once every second (R418). -/
def sendGenInForce (n : Fsn) : Prog :=
  .dyn (fun s =>
    let now := s.instant .commit n
    let due := match s.cmt.decider.genSentAt with | some t => decide (t + 256000000000 ≤ now) | none => true
    .when (s.cmt.gen.num != 0 && due) (.seq (modDecider (fun d => { d with genSentAt := some now })) (sendGen s.cmt.gen)))

/-- COMMIT_BROADCAST (R406, R412, R418, R423). -/
def execCommitBroadcast (s : State) : Host.Outcome State Fault Refusal :=
  .next ((Prog.guard (fun s => s.canDecide) (.dyn (fun s => .block [
    (match s.cmt.decider.made with
     | none => .nil
     | some d => .block [
        sendTree true false 3 (decisionBytes d),
        sendUnicast 1 3 s.rootB (decisionBytes d),
        modDecider (fun x => { x with
          issuedLam := ((d.fsn + 2, d.lam) :: x.issuedLam).take 8
          actCarried := x.actCarried || (d.commit && d.actValid)
          lastCommit := if d.commit then some d.fsn else x.lastCommit }),
        .guard (fun s => s.here.isSome) (takeDecision d)]),
    (match s.cmt.next with | some g => sendGen g | none => .nil),
    sendGenInForce s.N]))).go s)

/-- LOCAL_ABORT (R197, R414). -/
def execLocalAbort (s : State) : Host.Outcome State Fault Refusal :=
  .next ((Prog.guard (fun s => s.cmt.decision.isNone && !s.cmt.abandoned) (.dyn (fun s => .block [
    .act (.cmt (fun c => { c with abandoned := true })),
    .guard (fun s => !s.frozen) (abandonNow s.N),
    .count F.CMT_NO_DECISION_COUNT 1, .raiseAt 131 (s.instant .localAbort s.N), sceneReport s.N 2]))).go s)

/-! ### The outcome of a swap instant -/

/-- Screen state and hold count from t_swap(N): the decision's, or rows 2 and 7 to 9 with the node's own hold count
(R413, R414). -/
def State.swapScreen (s : State) : Screen × Nat :=
  match s.cmt.decision with
  | some d => (d.screen, d.holdCount)
  | none => screenTable s.cmt.screen s.cmt.holdCount false false false false s.genNow.holdLimit

/-- Frame N commits at this node: its epoch is DECIDED (R185, R201). -/
def State.commitsHere (s : State) : Bool :=
  !s.frozen && (match s.epoch s.N with | some e => e.st == .decided | none => false)

/-- A SWAP is issued (Table 6.2). -/
def State.swaps (s : State) : Bool := s.commitsHere && s.swapScreen.1 != .slate

/-- The generation that the decision brings into force, where the node holds it (R413). -/
def State.swapGen (s : State) : Option Gen :=
  match s.cmt.decision with
  | some d => if d.gen == s.cmt.gen.num then none else s.genHeld d.gen
  | none => none

/-- The node state from t_swap(N) (R46, R49, R420). -/
def State.swapNode (s : State) : NodeState :=
  match s.swapGen.bind (s.memberMove s.N) with
  | some x => if nodeMove s.node x then x else s.node
  | none => s.node

/-- The TICK of t_swap(N) (Table 9.5). -/
def State.swapTick (s : State) : Tick :=
  let screen := s.swapScreen.1
  let lit := screen == .show || screen == .hold
  let slot := s.fld F.ING_EPOCH_STATE_SLOT_DISPLAY
  let base : Tick := { stamp := s.swapTime s.N, fsn := s.N, swap := false, slot := slot, pwm := false }
  match s.swapNode with
  | .member =>
    if s.swaps then { base with swap := true, slot := s.fld F.ING_EPOCH_STATE_SLOT_READY, pwm := screen == .show }
    else if screen == .slate then { base with pwm := s.cmt.screen == .slate && s.lyr.slateDone }
    else { base with pwm := lit }
  | .fault => { base with pwm := lit }
  | _ => base

/-- The eight symbols of a TICK: K28.1, T1, T2, T3, twice (Table 9.1, R287). -/
def tickSet (k : Tick) : List Byte :=
  let t1 : Byte := BitVec.ofNat 8 (boolNat k.swap + 2 * boolNat k.pwm + 4 * k.slot)
  let t2 : Byte := k.fsn.setWidth 8
  let c := [0x3C, t1, t2, t1 ^^^ t2 ^^^ 0xA5]
  c ++ c

/-- The symbol boundary of a lane nearest to an instant, the earlier of two equally near ones, in tenths of 1/256 ns: a
symbol lasts 0.4 ns, where the boundaries lie is open (R292). -/
def nearestBoundary (phase : Nat) (target : Int) : Int :=
  let p : Int := phase % 1024
  p + 1024 * ((target - p + 511) / 1024)

/-- TICK_LAUNCH (R287, R292): on each drive lane at the boundary nearest to t_swap(N) - L. -/
def execTickLaunch (s : State) : Host.Outcome State Fault Refusal :=
  .next ((Prog.guard (fun s => s.timeLock) (.dyn (fun s =>
    let k := s.swapTick
    let lanes := (List.range 192).filter s.carries
    .block [
      .act (.pdl (fun p => { p with tick := some k, tickCheck := lanes })),
      .act (.free 1),
      .send (.tick (tickSet k) (lanes.map (fun i =>
        (i, nearestBoundary (Config.symbolPhase s.freeCount i) (10 * (k.stamp - s.laneL i))))))]))).go s)

/-! ### What moves at a swap instant -/

/-- Slot roles after t_swap(N) (Table 6.2). -/
def moveSlots (swap : Bool) : Prog :=
  .dyn (fun s =>
    let d := s.fld F.ING_EPOCH_STATE_SLOT_DISPLAY
    let r := s.fld F.ING_EPOCH_STATE_SLOT_READY
    let w := s.fld F.ING_EPOCH_STATE_SLOT_WORK
    if swap then .block [
      .setFld F.ING_EPOCH_STATE_SLOT_DISPLAY r, .setFld F.ING_EPOCH_STATE_SLOT_READY w,
      .setFld F.ING_EPOCH_STATE_SLOT_WORK d, .setFld F.ING_EPOCH_STATE_SLATE_DISPLAY 0]
    else .block [.setFld F.ING_EPOCH_STATE_SLOT_READY w, .setFld F.ING_EPOCH_STATE_SLOT_WORK r])

/-- Length and lowest bin of the longest list (Table 4.12). -/
def longestList (cards : List CardVer) : Nat × Nat :=
  (List.range 8192).foldl (fun m b => let n := binCount cards b; if m.1 < n then (n, b) else m) (0, 0)

/-- BIN_MAX_LIST of a committed frame (Table 4.12). -/
def loadMaxList (n : Fsn) : Prog :=
  .dyn (fun s =>
    let m := longestList (((s.epoch n).map (·.cards)).getD [])
    .seq (.setFld F.BIN_MAX_LIST_BIN m.2) (.setFld F.BIN_MAX_LIST_LENGTH m.1))

/-- The frame keeps a role once N has become the last swap instant: the committed frame, or a later one (Table 6.1). -/
def keepsRole (committed : Option Fsn) (n x : Fsn) : Bool := committed == some x || laterFsn x n

/-- Epochs at t_swap(N) (Table 6.1, R185, R200, R201): N becomes C or is released, S + 2 is created. -/
def moveEpochs (n : Fsn) (commit : Bool) : Prog :=
  withReclaim (.dyn (fun s =>
    let c := if commit then some n else s.ing.committed
    .act (.ing (fun g =>
      let kept := g.epochs.filter (fun e => keepsRole c n e.fsn)
      let kept := if kept.any (fun e => e.fsn == n + 2) then kept else kept ++ [{ fsn := n + 2 }]
      { g with
        committed := c
        deferred := g.deferred.filter (fun h => match gladeOf h.pkt with | some p => laterFsn p.fsn n | none => false)
        epochs := kept.map (fun e =>
          if e.fsn == n + 2 then { e with
            st := if e.err.count == 0 then .created else .error
            workStop := e.err.count != 0 }
          else e) }))))

/-- Frames whose slot takes the WORK role are released; what no frame needs any more goes (Table 6.2, R220, R249). -/
def releaseFrames (n : Fsn) : Prog :=
  .dyn (fun s =>
    let work := s.fld F.ING_EPOCH_STATE_SLOT_WORK
    let c := s.ing.committed
    .block [
      .act (.pdl (fun p => { p with
        frames := (p.frames.map (fun l =>
          if l.slot == work && !laterFsn l.fsn n then { l with released := true } else l)).filter
            (fun l => !(l.released && l.retired))
        fills := p.fills.filter (fun f => f.slate || !f.frameDone || keepsRole c n f.fsn)
        lams := (lastLam (n - 3) p.lams).toList ++ p.lams.filter (fun x => laterFsn x.1 (n - 4)) })),
      needLatched (n + 2),
      modLatched (n + 2) (fun l => { l with slot := work }),
      freeSlots, retireCheck])

/-- RWS writes stamped before LOCAL_ABORT(N) take effect (R13, R36, R40); a changed ingest binding wants a KEYFRAME
(R52), and its source's first SCENE packet is delivered whatever its SRC_SEQ (R364). -/
def commitRws (n : Fsn) : Prog :=
  .dyn (fun s =>
    let due := s.rwsPend.filter (fun w => decide (w.stamp < s.instant .localAbort n))
    let old := (s.effFld F.ING_STREAM_STREAM_ID, s.effFld F.ING_SOURCE_SOURCE_ADDR)
    .block [
      .each due (fun w => .act (.eff w.off w.value)),
      .act (.rws (fun l => l.filter (fun w => !decide (w.stamp < s.instant .localAbort n)))),
      .dyn (fun s => .when ((s.effFld F.ING_STREAM_STREAM_ID, s.effFld F.ING_SOURCE_SOURCE_ADDR) != old)
        (.seq (.act (.ing (fun g => { g with keyNeeded := true, keyFsn := none })))
          (.act (.fab (fun b => { b with sceneSeq := none })))))])

/-- The registers and events of an applied decision, and its limiter gain (R413, Table 14.8, Table 14.9). -/
def applyDecision (d : Decision) (t : Time) : Prog :=
  .block [
    .setReg R.CMT_DEC_FSN d.fsn,
    .setFld F.CMT_DEC_OUTCOME (if d.commit then 1 else 2), .setFld F.CMT_DEC_REASON d.reason.toNat,
    .setFld F.CMT_DEC_NODE_REASON_NODE d.reasonNode.toNat, .setFld F.CMT_DEC_NODE_READY d.ready,
    .act (.pdl (fun p => { p with lams := (d.fsn + 2, d.lam) :: p.lams })),
    .raiseAt 129 t, .when (!d.commit) (.raiseAt 130 t)]

/-- A MEMBER whose C differs from COMMITTED_FSN has diverged (R415); a node without a C compares nothing. -/
def divergeCheck (d : Decision) : Prog :=
  .dyn (fun s => match s.ing.committed with
    | none => .nil
    | some c => .when (s.node == .member && c != d.committedFsn) (cmtFault 0x23))

/-- The slot of a bundle that the node could activate: the inactive slot, verified, with that BUNDLE_ID. -/
def State.stagedSlot (s : State) (id : Word) : Option Nat :=
  match s.ptr with
  | none => none
  | some p =>
    let k := 1 - p.active
    if (s.slot k).verified && headBundleId (s.slot k).head == id.toNat then some k else none

/-- A bundle carries a configuration image (Table 18.7). -/
def headHasConfig (h : List Byte) : Bool := (headComponent h 6).isSome

/-- The bundle's configuration image goes into the inactive partition (R537). -/
def placeConfig (k part : Nat) : Prog :=
  .dyn (fun s => match headComponent (s.slot k).head 6 with
    | none => .nil
    | some c =>
      let b := (s.slot k).read c.1 c.2
      let made : ConfigImage := { bytes := b }
      .act (.nvm (fun n => { n with configs := n.configs.set part made })))

/-- Arming at the COMMIT that carries an activation (R423, R537): a node that runs the bundle does not arm. -/
def armActivation (fsn : Fsn) (id : Word) (t : Time) : Prog :=
  .dyn (fun s => match s.ptr with
    | none => cmtFault 0x25
    | some p =>
      if s.cmt.armed.isSome || p.activeId == id then .nil
      else match s.stagedSlot id with
        | none => cmtFault 0x25
        | some k => .block [
          .act (.cmt (fun c => { c with armed := some (fsn, id) })),
          .raiseAt 135 t,
          .act (.sec (fun x => { x with armedSlot := k })),
          if s.nvm.ptrFail then .seq (reportUpd 0x0C) (enterFault 0x01 0x09 0x0C 0)
          else .seq (placeConfig k (1 - p.config)) (writePtr { p with
            active := k, trial := true, attempts := 3, fallback := p.active, fallbackId := p.activeId, activeId := id
            config := if headHasConfig (s.slot k).head then 1 - p.config else p.config }),
          setUpd .armed])

/-- A trial counts the COMMITs of a MEMBER and is confirmed at the 600th (R540). -/
def confirmTrial (t : Time) : Prog :=
  .dyn (fun s => match s.ptr with
    | none => .nil
    | some p => .block [
      writePtr { p with trial := false },
      .act (.fuseVersion (BitVec.ofNat 32 (headSecVersion (s.slot p.active).head))),
      .act (.sec (fun x => { x with trialFrom := none })),
      .raiseAt 21 t, setUpd .confirmed])

/-- Health of a trial at t_swap(N) (R540, Table 18.15). -/
def healthStep (n : Fsn) (commit : Bool) (t : Time) : Prog :=
  .dyn (fun s =>
    let counting := s.sec.upd == .trial || s.sec.trialFrom.isSome
    let inWindow := match s.sec.trialFrom with | some f => notBeforeFsn n f | none => true
    let k := if s.node == .member && commit && inWindow then satAdd 1023 s.sec.commits 1 else 0
    let left := 120 - ((t - s.sec.trialSince) / 256000000000).toNat
    .when counting (.block [
      .act (.sec (fun x => { x with commits := k })),
      .setFld F.SEC_HEALTH_COMMITS k, .setFld F.SEC_HEALTH_SECONDS left,
      .when (600 ≤ k && s.sec.upd == .trial && decide (t < s.sec.trialSince + 120 * 256000000000)) (confirmTrial t)]))

/-- The slate at a swap instant (R254, R255): late, left, shown or entered. -/
def slateStep (n : Fsn) (was now : Screen) (t : Time) : Prog :=
  .block [
    .dyn (fun s => .when (s.lyr.slateWait && s.pdl.fills.any (fun f => f.slate && f.fsn + 1 == n)) (.raiseAt 278 t)),
    .when (was == .slate && now != .slate) (.block [
      .act (.pdl (fun p => { p with fills := p.fills.filter (fun f => !f.slate) })),
      .act (.lyr (fun l => { l with slateWait := false, slateDone := false }))]),
    .dyn (fun s => .when (was == .slate && now == .slate && s.lyr.slateWait && s.lyr.slateDone) (.block [
      .act (.lyr (fun l => { l with slateWait := false })),
      .setFld F.ING_EPOCH_STATE_SLATE_DISPLAY 1, .raiseAt 277 t])),
    .dyn (fun s => .when (was != .slate && now == .slate && s.node == .member) (.block [
      .act (.lyr (fun l => { l with slateWait := true, slateDone := false })),
      openFill { fsn := n, slate := true, slot := s.fld F.ING_EPOCH_STATE_SLOT_DISPLAY, v := t }]))]

/-- The limiter gain latched for the frame that has become pending (Table 7.13). -/
def movePend : Prog := .dyn (fun s => .setFld F.COL_LIMIT_GAIN_PEND (s.fld F.COL_LIMIT_GAIN_SPEC))

/-- The commit unit's own state at t_swap(N): the window of N closes and that of N + 1 opens. -/
def turnWindow (n : Fsn) : Prog :=
  .act (.cmt (fun c =>
    let d := c.decider.lateCmds.foldl Decider.take { c.decider with lateCmds := [], made := none }
    { c with
      s := n, reckons := true, vote := none, decision := none, abandoned := false
      causes := c.causes.filter (fun x => laterFsn x.1 n)
      children := c.children.filter (fun x => laterFsn x.fsn n)
      sent := c.sent.filter (fun x => laterFsn x.2 n)
      decider := { d with fwd := d.fwd.filter (fun x => laterFsn x.1 n) } }))

/-- An activation that no COMMIT has carried lapses after the decision on ACT_FSN - 4 (R423). -/
def lapseCheck (n : Fsn) (t : Time) : Prog :=
  .dyn (fun s => match s.cmt.decider.actReq with
    | none => .nil
    | some a =>
      .when (notBeforeFsn (n + 4) a.1) (.block [
        .when (!s.cmt.decider.actCarried) (.seq (.raiseAt 136 t) (.send (.note 0x31 a.2))),
        modDecider (fun d => { d with actReq := none, actCarried := false })]))

/-- ON_AIR takes a change stamped before LOCAL_ABORT(N) (R40, R528). -/
def onAirStep (n : Fsn) : Prog :=
  .dyn (fun s => match s.sec.onAirNext with
    | none => .nil
    | some x => .when (decide (x.2 < s.instant .localAbort n))
        (.act (.sec (fun y => { y with onAir := x.1, onAirNext := none }))))

/-- The packets that waited for frame S + 3 are applied, in arrival order (R56). -/
def applyPreEpoch : Prog :=
  .dyn (fun s => .seq (.act (.ing (fun g => { g with preEpoch := [] }))) (.each s.ing.preEpoch takePacket))

/-- What a node that is not frozen does with its epochs and slots at t_swap(N) (R184 to R186). -/
def swapEpochs (n : Fsn) : Prog :=
  .dyn (fun s =>
    let commit := s.commitsHere
    .block [
      moveSlots s.swaps, moveEpochs n commit, .when commit (loadMaxList n), releaseFrames n, movePend])

/-- SWAP_INSTANT: t_swap(N) of the pending frame N passes (R40 to R49, R184 to R186, R254, R413 to R415, R420, R583). -/
def swapInstantProg : Prog :=
  .dyn (fun s =>
    let n := s.N
    let t := s.swapTime n
    let was := s.cmt.screen
    let now := s.swapScreen
    let tick := s.swapTick
    let decision := s.cmt.decision
    let commit := match decision with | some d => d.commit | none => false
    .block [
      commitRws n, onAirStep n,
      (match decision with | some d => applyDecision d t | none => .nil),
      .act (.cmt (fun c => { c with screen := now.1, holdCount := now.2 })),
      .when (now.1 != was) (.raiseAt 132 t),
      .guard (fun s => !s.frozen) (swapEpochs n),
      (match decision with | some d => divergeCheck d | none => .nil),
      (match s.swapGen with | some g => enterGen n g t | none => .nil),
      slateStep n was now.1 t,
      .when s.timeLock (.act (.cmt (fun c => { c with pwmOn := tick.pwm }))),
      (match decision with
       | some d => .when (d.commit && d.actValid) (armActivation d.actFsn d.actId t)
       | none => .nil),
      healthStep n commit t,
      turnWindow n, lapseCheck n t,
      .each [TableId.dirs, .bounds, .colour] (fun k => tableSwap k n), calStageDue t,
      .guard (fun s => !s.frozen) applyPreEpoch,
      tryVote, trySendVote false, trySendVote true])

def execSwapInstant (s : State) : Host.Outcome State Fault Refusal := .next (swapInstantProg.go s)

/-! ### The start of speculation (R187 to R190, R192) -/

/-- The speculative base and how predicted lists are made (Table 6.3): row and base. -/
def State.specChoice (s : State) (n : Fsn) (e : Epoch) : Nat × Option Fsn :=
  if !s.effFlag F.ING_SPEC_CTRL_SPEC_ENABLE then (1, none)
  else if e.closed && (!e.livePending || e.setClosed) then (2, none)
  else if e.closed then (3, none)
  else if e.opened && e.keyframe then (4, none)
  else if e.opened then (5, e.base)
  else match s.epoch (n - 1) with
    | some p =>
      if n - 1 == s.N && p.opened && p.err.count == 0 && p.st != .abandoned then (6, some (n - 1))
      else match s.ing.committed with | some c => (7, some c) | none => (8, none)
    | none => match s.ing.committed with | some c => (7, some c) | none => (8, none)

/-- A card of the base moved to frame N and binned (R133). -/
def predictVer (w : BinView) (n : Fsn) (c : CardVer) : CardVer :=
  let p := predictCard c.card (n - c.last).toNat
  { c with card := p, foot := footprint w p, own := false }

/-- Bins that a table marks not speculated: overfull, or holding a DYNAMIC card (R134). -/
def markedBins (cards : List CardVer) : BitVec 8192 :=
  (cards.filter (fun c => c.card.isDynamic)).foldl (fun b c => b ||| c.foot) (overfullBins cards)

/-- The cards that a frame's own records name, ascending (R192). -/
def Epoch.ownCards (e : Epoch) : List Nat :=
  ((e.cards.filter (·.own)).map (fun c => c.card.id) ++ e.gone).foldl (fun l k => insertNat k l) []

/-- The epoch after SPEC_START(N) (R187, R188, R192). -/
def State.specEpoch (s : State) (n : Fsn) (e : Epoch) : Epoch :=
  let w := s.binView
  let (row, base) := s.specChoice n e
  let stopped := e.st == EpState.error || e.st == EpState.rolledBack
  let e : Epoch := { e with
    specStarted := true, specBase := base
    st := if e.st == EpState.created then (if row = 2 then .closed else .active) else e.st }
  if row = 2 then { e with predState := .none, fillBlank := stopped }
  else if row = 3 then { e with pred := e.cards, predState := .copied, fillBlank := stopped }
  else if e.inval == allBins then { e with predState := .none, fillBlank := true }
  else match base with
    | none => { e with predState := .none, fillBlank := true }.setBits allBins
    | some b =>
      let all := (((s.epoch b).map (·.cards)).getD []).map (predictVer w n)
      let full := overfullBins all
      let marked := markedBins all
      let pred := all.map (fun c => { c with foot := c.foot &&& ~~~full })
      let e := { e with pred := pred, predState := .derived, predBlank := marked, fillBlank := stopped }.setBits marked
      e.ownCards.foldl (fun e k => e.compare w k) e

/-- The frame whose texture directory frame N shows: its own once it is open, its speculative base's before (R148,
R181). -/
def State.texOwner (_s : State) (n : Fsn) (e : Epoch) : Fsn := if e.opened then n else e.specBase.getD n

/-- The fill that opens at SPEC_START(N) (R117, R148, R189, R194, R274). -/
def State.specFill (s : State) (n : Fsn) (e : Epoch) : Fill :=
  { fsn := n, slot := (s.latched n).slot, v := s.specStart n
    cards := if e.predState == .none then e.cards else e.pred
    texs := if e.opened then e.texs else (s.viewOf e.specBase).2
    texOwner := s.texOwner n e, waits := (s.q0Jobs.filter (fun j => j.writes (s.texOwner n e))).map (·.index)
    blankBins := if e.predState == .derived then e.predBlank else 0
    blank := e.fillBlank }

/-- The colour values of frame N are latched; causes against its vote are recorded (R211, R221 to R224, Table 7.13). -/
def latchColourProg (n : Fsn) (t : Time) : Prog :=
  .block [
    needLatched n,
    .dyn (fun s => modLatched n (s.latchColour n)),
    .dyn (fun s =>
      let l := s.latched n
      .block [
        .setFld F.COL_LIMIT_GAIN_SPEC l.lam,
        .act (.pdl (fun p => { p with lanes := p.lanes.map (fun d => { d with zoneTemps := keepReports t d.zoneTemps }) })),
        .when l.tempStale (.seq (.raiseAt 257 t) (recordCause n 0x0203)),
        .when l.lamUnknown (.seq (.raiseAt 258 t) (recordCause n 0x0204))])]

/-- SPEC_START (R187, R211, R274): once for the speculative frame S + 2. -/
def execSpecStart (s : State) : Host.Outcome State Fault Refusal :=
  .next ((Prog.guard (fun s => !s.frozen) (.dyn (fun s =>
    let n := s.S + 2
    let t := s.specStart n
    match s.epoch n with
    | none => .nil
    | some e =>
      if e.specStarted || e.st == .none then .nil
      else .block [
        latchColourProg n t,
        modEpoch n (s.specEpoch n),
        .dyn (fun s => openFill (s.specFill n ((s.epoch n).getD {}))),
        releasePred n, synthCheck n]))).go s)

end Sys2Proof.Machine
end

