-- ==== Sys2Proof/Machine/Fabric.lean ====
section
/-! DEFINITION. The tile fabric (chapter 12): discovery, receiving and forwarding packets, link acknowledgements and
credits, failed links and guests. -/

namespace Sys2Proof.Machine

/-- Adopt a coordinate (R355): FAB_COORD, EV_FAB_COORD, and FAULT where it is not FAB_EXPECT (R356). -/
def adoptCoord (a : BitVec 16) : Prog :=
  .dyn (fun s => .block [
    .act (.fab (fun b => { b with coord := some a, coordFrom := some a })),
    .setFld F.FAB_COORD_ADDR a.toNat, .setFld F.FAB_COORD_VALID 1, .raise 64,
    .when (s.fld F.FAB_EXPECT_ADDR != a.toNat) (fabFault 0x12 a.toNat)])

/-- FAB_CTRL.ENABLE written 1 (R355): the ports of PORT_EN are enabled; an anchor adopts FAB_EXPECT. -/
def fabricEnableProg (t : Time) : Prog :=
  .dyn (fun s =>
    if s.flag F.FAB_CTRL_ENABLE then .nil
    else .block [
      .setFld F.FAB_CTRL_ENABLE 1,
      .act (.fab (fun b => { b with enabledAt := some t })),
      .each (List.range 6) (fun p => .when (bitOf (s.fld F.FAB_ROLE_PORT_EN) p && (s.port p).st == .disabled)
        (modPort p (fun q => { q with st := .training }))),
      .when (s.flag F.FAB_ROLE_ANCHOR && s.here.isNone) (adoptCoord (BitVec.ofNat 16 (s.fld F.FAB_EXPECT_ADDR)))])

def execFabricEnable (stamp : Time) (s : State) : Host.Outcome State Fault Refusal :=
  .next ((fabricEnableProg stamp).go s)

/-- The coordinate offered to the partner of a port, 0xFFFF where it has none in the grid (Table 12.1, log entry 17). -/
def offerFor (a : BitVec 16) (p : Nat) : Nat :=
  let q := partnerXY (addrX a) (addrY a) p
  if inGrid q then (nodeAddr q.1.toNat q.2.toNat).toNat else 0xFFFF

/-- COORD_OFFER_SEND (R355, Table 12.8). -/
def execCoordOfferSend (s : State) : Host.Outcome State Fault Refusal :=
  .next ((Prog.dyn (fun s => match s.here with
    | none => .nil
    | some a => .each ((List.range 4).filter (fun p => (s.port p).st == .up)) (fun p =>
        sendLink 1 4 p (leBytes 4 1 ++ leBytes 2 (offerFor a p) ++ leBytes 1 p ++ leBytes 1 0)))).go s)

/-- COORD_OFFER_RECEIVE (R355, R356). -/
def execCoordOfferReceive (port : Nat) (offered : BitVec 16) (sender : Byte) (rsv : BitVec 32) (s : State) :
    Host.Outcome State Fault Refusal :=
  .next ((Prog.guard (fun s => port < 4 && (s.port port).st == .up) (.dyn (fun s =>
    if rsv != 0 then discardPacket 0x06 0
    else if sender.toNat != oppositePort port then fabFault 0x13 sender.toNat
    else if bitOf offered.toNat 15 then fabFault 0x11 offered.toNat
    else match s.here with
      | none => adoptCoord offered
      | some a => .when (a != offered) (fabFault 0x10 offered.toNat)))).go s)

/-- Send NAK with the expected LSEQ, once per gap (R352). -/
def nakOnce (p : Nat) : Prog :=
  .dyn (fun s => if (s.port p).gapNak then .nil
    else .block [sendLinkctl p 0x20 (s.port p).rxSeq, modPort p (fun q => { q with gapNak := true })])

/-- The guest address of an X port (R366, Table 12.2). -/
def State.guestAddr (s : State) (p : Nat) : BitVec 16 :=
  BitVec.ofNat 16 (0x8000 + (if p = 4 then s.fld F.FAB_GUEST_ID_X1_ID else s.fld F.FAB_GUEST_ID_X2_ID))

/-- What is wrong with an accepted packet before it is routed: its code, none where nothing is. A guest's protocol and
mode are judged under R368 before Table 12.5's CLASS (R351, R357, R362, R368). -/
def packetError (s : State) (input : Nat) (pkt : XtfPacket) : Option Nat :=
  let guest := input = 4 ∨ input = 5
  if !fieldsOk pkt then some 0x06
  else if guest ∧ pkt.src ≠ s.guestAddr input then some 0x0C
  else if guest ∧ (!(pkt.proto == 0x01 || pkt.proto == 0x05 || pkt.proto == 0x07) ||
      !modeAllowed pkt.proto.toNat pkt.mode.toNat) then some 0x0B
  else if !headerOk pkt then some 0x06
  else if input < 4 ∧ 128 ≤ pkt.hops.toNat + 1 then some 0x07
  else if s.here.isNone ∧ pkt.mode ≠ 4 then some 0x08
  else none

/-- A packet as a node passes it on: a node port's counts a link (R362). -/
def passedOn (input : Nat) (pkt : XtfPacket) : XtfPacket := if input < 4 then { pkt with hops := pkt.hops + 1 } else pkt

/-- Route an accepted packet from an input; a discard returns its credits (R358 to R363). -/
def acceptPacket (input : Nat) (pkt : XtfPacket) : Prog :=
  .dyn (fun s => match packetError s input pkt with
    | some code => .block [discardPacket code pkt.src, returnCredits input pkt.cls.toNat (creditsOf pkt)]
    | none => forwardPacket input (passedOn input pkt))

/-- The copies of a COMMIT packet that went cut-through before its CRC failed: they end in EOP_BAD and hold no credits
(R352, R371). TIME packets are link-mode only and go no further. -/
def cutThrough (input : Nat) (pkt : XtfPacket) : Prog :=
  .dyn (fun s =>
    let hops := if pkt.cls = 1 ∧ pkt.lseq = (s.port input).rxSeq ∧ (packetError s input pkt).isNone
      then routeHops s (passedOn input pkt) else []
    .seq (.each hops (fun h => match h with
        | .send p k => enqueue p { pkt := k, input := input, bad := true }
        | _ => .nil))
      (.each hops (fun h => match h with | .send p _ => pumpPort p | _ => .nil)))

/-- A reliable packet has been taken at its LSEQ, with its credits held: ACK (R352, R353). -/
def takeSeq (input : Nat) (pkt : XtfPacket) : Prog :=
  let cls := pkt.cls.toNat
  .seq (modPort input (fun q => { q with
      rxSeq := if cls = 0 then q.rxSeq else q.rxSeq + 1
      gapNak := if cls = 0 then q.gapNak else false
      held := modAt q.held cls (· + creditsOf pkt) }))
    (.when (cls != 0) (sendLinkctl input 0x10 pkt.lseq))

/-- PACKET_FORWARD: a packet from an input with the CRC it carries is checked by the link layer and forwarded, delivered
or discarded (R351 to R353, R357 to R368). A packet whose header is good and which the buffer cannot hold is a credit
error. Input 6 is this node's own source. -/
def packetForwardProg (input : Nat) (pkt : XtfPacket) (crc : Word) (t : Time) : Prog :=
  .seq (.atFabric t) (.dyn (fun s =>
    if input = 6 then acceptPacket 6 pkt
    else if 6 < input ∨ !portCarries (s.port input) then .nil
    else
      let q := s.port input
      let cls := pkt.cls.toNat
      if crc ≠ packetCrc pkt then
        .block [cutThrough input pkt, discardAtPort input 0x01 pkt.src, .when (cls != 0) (nakOnce input)]
      else if cls ≠ 0 ∧ pkt.lseq ≠ q.rxSeq then nakOnce input
      else if fieldsOk pkt ∧ bufferOf input cls < q.held.getD cls 0 + creditsOf pkt then
        .block [recordFab 0x05 input, firstDiscard 0x05 pkt.src, retrainPort input t]
      else .block [takeSeq input pkt, .count (F.FAB_P_RX_COUNT input) 1, acceptPacket input pkt]))

def execPacketForward (input : Nat) (pkt : XtfPacket) (crc : Word) (stamp : Time) (s : State) :
    Host.Outcome State Fault Refusal :=
  .next ((packetForwardProg input pkt crc stamp).go s)

/-- BAD_PACKET_RECEIVE (R349, R352, R371, R373): a bad CRC or form is discarded with one NAK per gap; a stomped packet
counts as received for LSEQ, is acknowledged, and delivers nothing. -/
def execBadPacketReceive (port : Nat) (pkt : XtfPacket) (how : BadPacket) (s : State) :
    Host.Outcome State Fault Refusal :=
  .next ((Prog.guard (fun s => portCarries (s.port port)) (.dyn (fun s =>
    let cls := pkt.cls.toNat
    match how with
    | .stomped =>
      if cls ≠ 0 ∧ pkt.lseq ≠ (s.port port).rxSeq then nakOnce port
      else .block [
        discardAtPort port 0x02 pkt.src,
        .dyn (fun s => .seq (takeSeq port pkt) (.dyn (fun _ =>
          dispatchHops port cls (creditsOf pkt) true
            (if pkt.cls = 1 ∧ (packetError s port pkt).isNone then routeHops s (passedOn port pkt) else []))))]
    | .crc => .block [cutThrough port pkt, discardAtPort port 0x01 pkt.src, .when (cls != 0) (nakOnce port)]
    | .form => .block [discardAtPort port 0x01 pkt.src, .when (cls != 0) (nakOnce port)]))).go s)

/-- A LINKCTL check symbol holds (Table 12.6). -/
def linkctlOk (c1 value check : Byte) : Bool := check == c1 ^^^ value ^^^ 0xC3

/-- The unacknowledged packets that an ACK covers: up to the one with its LSEQ (R352). -/
def ackDrop (lseq : Byte) (l : List Queued) : List Queued :=
  if l.any (fun c => c.pkt.lseq == lseq) then (l.dropWhile (fun c => c.pkt.lseq != lseq)).drop 1 else l

/-- ACK_RECEIVE (R352). -/
def execAckReceive (port : Nat) (lseq check : Byte) (s : State) : Host.Outcome State Fault Refusal :=
  .next ((Prog.guard (fun s => portCarries (s.port port) && linkctlOk 0x10 lseq check) (.block [
    .dyn (fun s =>
      let l := ackDrop lseq (s.port port).unacked
      modPort port (fun q => { q with unacked := l, resends := if l = q.unacked then q.resends else 0 })),
    pumpPort port])).go s)

/-- Send the unacknowledged packets again, in their order, ahead of new ones; with the eighth resend of one LSEQ in
succession FAB_E_REPLAY_LIMIT is recorded and the port retrains (R352). -/
def resendAll (p : Nat) (t : Time) : Prog :=
  .dyn (fun s =>
    let q := s.port p
    .when (!q.unacked.isEmpty) (.block [
      .count (F.FAB_P_REPLAY_REPLAY p) 1,
      modPort p (fun q => { q with resends := q.resends + 1 }),
      .each q.unacked (sendPacket p),
      .when (decide (8 ≤ q.resends + 1)) (.seq (recordFab 0x04 p) (retrainPort p t))]))

/-- NAK_RECEIVE (R352): all from the oldest unacknowledged packet goes again. -/
def execNakReceive (port : Nat) (lseq check : Byte) (stamp : Time) (s : State) : Host.Outcome State Fault Refusal :=
  .next ((Prog.guard (fun s => portCarries (s.port port) && linkctlOk 0x20 lseq check)
    (.seq (resendAll port stamp) (pumpPort port))).go s)

/-- ACK_TIMEOUT (R352): FAB_E_ACK_TIMEOUT is counted and the packets go again. -/
def execAckTimeout (port : Nat) (stamp : Time) (s : State) : Host.Outcome State Fault Refusal :=
  .next ((Prog.guard (fun s => portCarries (s.port port) && !(s.port port).unacked.isEmpty) (.block [
    .count (F.FAB_P_REPLAY_TIMEOUT port) 1, resendAll port stamp])).go s)

/-- CREDIT_RECEIVE (R353, Table 12.6): the cumulative count of its class; a reserved bit or a bad check discards it. The
cycles that a packet has waited for credits are an open amount (log entry 25). -/
def execCreditReceive (port : Nat) (c1 value check : Byte) (s : State) : Host.Outcome State Fault Refusal :=
  .next ((Prog.guard (fun s => portCarries (s.port port) && linkctlOk c1 value check && c1.toNat < 4) (.block [
    .dyn (fun s => .when (portStalled (s.port port)) (.withFree (fun w => .count (F.FAB_P_CREDIT_STALL_CYCLES port) w.toNat))),
    modPort port (fun q => { q with creditLimit := q.creditLimit.set c1.toNat value.toNat }),
    pumpPort port])).go s)

/-- CREDIT_ADVERTISE (R353). -/
def execCreditAdvertise (port : Nat) (s : State) : Host.Outcome State Fault Refusal :=
  .next ((Prog.guard (fun s => portCarries (s.port port)) (advertise port)).go s)

/-- LINK_DOWN_REPORT (R359): a node port out of ACTIVE for DOWN_REPORT, or absent for ABSENT since ENABLE; the report
repeats every 1 s. -/
def execLinkDownReport (port : Nat) (stamp : Time) (s : State) : Host.Outcome State Fault Refusal :=
  .next ((Prog.guard (fun s => port < 4 && bitOf (s.fld F.FAB_ROLE_PORT_EN) port && (s.port port).st != .up &&
      (s.port port).st != .disabled) (.dyn (fun s =>
    let due := match (s.port port).downSince, s.fab.enabledAt with
      | some t, _ => decide (t + (s.fld F.FAB_TIMING_DOWN_REPORT : Int) * 256000 ≤ stamp)
      | none, some t => decide (t + (s.fld F.FAB_TIMING_ABSENT : Int) * 256000000 ≤ stamp)
      | none, none => false
    .when due (.block [.atFabric stamp, modPort port (fun q => { q with st := .down }), reportLink port true stamp])))).go s)

/-- LINK_STATE_RECEIVE (R359): the latest report of an end is kept; a root sends a report that came up its tree down
the tree. -/
def execLinkStateReceive (msg : LinkMsg) (domain down : Bool) (stamp : Time) (s : State) :
    Host.Outcome State Fault Refusal :=
  .next ((Prog.dyn (fun s =>
    if msg.rsv != 0 || 1 < msg.down.toNat || 3 < msg.port.toNat then discardPacket 0x06 msg.reporter
    else .block [
      .atFabric stamp,
      storeLinkEnd {
        addr := msg.addr, port := msg.port.toNat, reporter := msg.reporter, down := msg.down == 1
        eventSeq := msg.eventSeq, stamp := stamp },
      .when (!down && (s.dom domain).st == .root) (sendTree true domain 4
        (linkStateBytes (msg.addr, msg.port.toNat) (msg.down == 1) msg.eventSeq msg.reporter))])).go s)

/-- LINK_ENTRY_EXPIRE (R359): a down report older than 3.5 s leaves the table. -/
def execLinkEntryExpire (stamp : Time) (s : State) : Host.Outcome State Fault Refusal :=
  .next ((Prog.act (.fab (fun b => { b with
    links := b.links.filter (fun e => !(e.down && decide (e.stamp + 3500000000 * 256 < stamp))) }))).go s)

/-- GUEST_ANNOUNCE in both domains (R366, Table 12.8). -/
def announceGuest (p : Nat) (gone : Bool) : Prog :=
  .dyn (fun s =>
    let seq := s.fab.guestSeq.getD (p - 4) 0
    let body := leBytes 4 3 ++ leBytes 2 (s.guestAddr p).toNat ++ leBytes 2 (s.here.getD 0).toNat ++ leBytes 1 p ++
      leBytes 1 (boolNat gone) ++ leBytes 2 seq.toNat
    .block [
      .act (.fab (fun b => { b with guestSeq := modAt b.guestSeq (p - 4) (· + 1) })),
      .each [false, true] (fun d => .dyn (fun s => sendTree ((s.dom d).st == .root) d 4 body))])

/-- The guest table keeps one entry a guest, at most 1,024 (R366). -/
def putGuest (g : GuestEntry) (l : List GuestEntry) : List GuestEntry :=
  if l.any (fun x => x.guest == g.guest) then l.map (fun x => if x.guest == g.guest then g else x)
  else if l.length < 1024 then l ++ [g] else l

/-- GUEST_PORT_UP (R305, R366): with every lane ACTIVE the port is guest up; with a coordinate come GUEST_ASSIGN, once,
the announcement and this node's own entry, unless a lower host has the guest; the 1 s repeat announces again. A refused
port stays refused. -/
def execGuestPortUp (port : Nat) (stamp : Time) (s : State) : Host.Outcome State Fault Refusal :=
  .next ((Prog.guard (fun s => (port == 4 || port == 5) && bitOf (s.fld F.FAB_ROLE_PORT_EN) port &&
      (s.port port).st != .guestRefused && (portLanes port).all (fun i => (s.lane i).st == .active)) (.block [
    .atFabric stamp,
    .guard (fun s => (s.port port).st != .guestUp) (.seq (portStart port .guestUp) (.raiseAt 68 stamp)),
    .dyn (fun s => match s.here with
      | none => .nil
      | some a =>
        let lower := match s.guestEntry (s.guestAddr port) with
          | some g => decide (g.host.toNat < a.toNat)
          | none => false
        .block [
          .when (!(s.port port).assigned) (.seq (modPort port (fun q => { q with assigned := true }))
            (sendLink 1 4 port (leBytes 4 4 ++ leBytes 2 (s.guestAddr port).toNat ++ leBytes 2 a.toNat))),
          .when (!lower) (.act (.fab (fun b =>
            let g : GuestEntry := ⟨s.guestAddr port, a, port, b.guestSeq.getD (port - 4) 0, stamp⟩
            { b with guests := putGuest g b.guests }))),
          announceGuest port false])])).go s)

/-- GUEST_PORT_DOWN (R366): the port has been out of ACTIVE for DOWN_REPORT; the host announces the guest as gone. -/
def execGuestPortDown (port : Nat) (stamp : Time) (s : State) : Host.Outcome State Fault Refusal :=
  .next ((Prog.guard (fun s => (port == 4 || port == 5) && !portCarries (s.port port) &&
      (s.port port).st != .disabled && (s.port port).st != .guestRefused &&
      (match (s.port port).downSince with
       | some t => decide (t + (s.fld F.FAB_TIMING_DOWN_REPORT : Int) * 256000 ≤ stamp)
       | none => false)) (.dyn (fun s => .block [
    .atFabric stamp,
    modPort port (fun q => { q with st := .down, downSince := none }),
    .act (.fab (fun b => { b with
      guests := b.guests.filter (fun g => !(g.guest == s.guestAddr port && some g.host == s.here)) })),
    announceGuest port true, .raiseAt 69 stamp]))).go s)

/-- GUEST_ANNOUNCE_RECEIVE (R366): the table is updated; of two hosts of one guest the lower address keeps it, and the
other refuses its port. -/
def execGuestAnnounceReceive (msg : GuestMsg) (domain down : Bool) (stamp : Time) (s : State) :
    Host.Outcome State Fault Refusal :=
  .next ((Prog.dyn (fun s =>
    let body := leBytes 4 3 ++ leBytes 2 msg.guest.toNat ++ leBytes 2 msg.host.toNat ++ leBytes 1 msg.port.toNat ++
      leBytes 1 msg.gone.toNat ++ leBytes 2 msg.eventSeq.toNat
    let mine := [4, 5].filter (fun p => (s.port p).st == .guestUp && s.guestAddr p == msg.guest)
    let conflict := !mine.isEmpty && msg.gone == 0 && s.here != some msg.host
    let lose := conflict && decide (msg.host.toNat < (s.here.getD 0).toNat)
    let keep := conflict && !lose
    let new : GuestEntry := ⟨msg.guest, msg.host, msg.port.toNat, msg.eventSeq, stamp⟩
    if msg.rsv != 0 || 1 < msg.gone.toNat || !(msg.port == 4 || msg.port == 5) then discardPacket 0x06 msg.host
    else .block [
      .atFabric stamp,
      .when (!down && (s.dom domain).st == .root) (sendTree true domain 4 body),
      .when lose (.each mine (fun p => .block [recordFab 0x14 p, portOut p .guestRefused stamp, .raiseAt 69 stamp])),
      .when (!keep) (.act (.fab (fun b =>
        match b.guests.find? (fun g => g.guest == msg.guest) with
        | some g =>
          if msg.gone == 1 then
            (if g.host == msg.host then { b with guests := b.guests.filter (fun x => x.guest != msg.guest) } else b)
          else if g.host == msg.host && newer16 g.eventSeq msg.eventSeq then b
          else if g.host != msg.host && g.host.toNat < msg.host.toNat then b
          else { b with guests := putGuest new b.guests }
        | none => if msg.gone == 1 then b else { b with guests := putGuest new b.guests })))])).go s)

/-- GUEST_ENTRY_EXPIRE (R366): an entry goes 3.5 s after its last announcement. -/
def execGuestEntryExpire (stamp : Time) (s : State) : Host.Outcome State Fault Refusal :=
  .next ((Prog.act (.fab (fun b => { b with
    guests := b.guests.filter (fun g => decide (stamp < g.stamp + 3500000000 * 256)) }))).go s)

/-- GUEST_ASSIGN_RECEIVE (R357, R367): an X1024 never acts as a guest; a message with a reserved byte that is not 0 is
discarded. -/
def execGuestAssignReceive (_port : Nat) (guest host : BitVec 16) (rsv : BitVec 24) (s : State) :
    Host.Outcome State Fault Refusal :=
  .next ((if rsv ≠ 0 then discardPacket 0x06 host else fabFault 0x13 guest.toNat).go s)

end Sys2Proof.Machine
end

