-- ==== Sys2Proof/Machine/Restart.lean ====
section
/-! DEFINITION. The CPX restart, the requested warm reset and the shutdown BIST that goes before it (R485 to R488, R554,
R556). -/

namespace Sys2Proof.Machine

/-- One hour in 1/256 ns. -/
def oneHour : Int := 3600 * 1000000000 * 256

/-- How many of the instants lie in [t - 1 h, t) (R487, R488). -/
def inLastHour (l : List Time) (t : Time) : Nat := (l.filter (fun x => decide (t - oneHour ≤ x) && decide (x < t))).length

/-- A CPX restart at an instant; the third within the hour is a warm reset instead (R487). The application cores' own
work, sessions, requests and a calibration session, is lost. -/
def cpxRestartProg (t : Time) : Prog :=
  .dyn (fun s =>
    if 2 ≤ inLastHour s.ctl.cpxRestarts t then warmResetAt 0x14 t
    else .block [
      .act (.ctl (fun c => { c with cpxRestarts := c.cpxRestarts ++ [t], restarting := true, l2 := [] })),
      .each s.ctl.sessions (fun q => dropSession q.id t),
      .act (.met (fun m => { m with cal := none }))])

/-- The shutdown BIST starts (R554, R556): the aperture stops as R343 says and the diode reading is kept. -/
def bistStart : Prog :=
  .dyn (fun s => .block [
    .act (.hkp (fun h => { h with bist := some (BitVec.ofNat 16 (s.fld (F.HKP_CH_VALUE 0))) })),
    .act (.apl (fun a => { a with stopped := true })),
    .when s.apl.lineIdle (.act (.pins (fun p => { p with aplOut := [] })))])

/-- A warm reset with cause 0x10 or 0x11 is requested: the BIST runs first unless BIST_EN is 0 (R486, R554). -/
def warmRequest (cause : Nat) (t : Time) : Prog :=
  .dyn (fun s =>
    if s.hkp.bist.isSome then
      .act (.hkp (fun h => { h with bistWarm := some (h.bistWarm.getD (BitVec.ofNat 8 cause)) }))
    else if s.flag F.HKP_CTRL_BIST_EN then
      .seq (.act (.hkp (fun h => { h with bistWarm := some (BitVec.ofNat 8 cause) }))) bistStart
    else warmResetAt cause t)

def execAcWatchdogExpire (core : Nat) (stamp : Time) (s : State) : Host.Outcome State Fault Refusal :=
  .next ((Prog.when (decide (core < 8)) (.seq (.raiseAt 1 stamp) (cpxRestartProg stamp))).go s)

def execHkWatchdogExpire (core : Nat) (stamp : Time) (s : State) : Host.Outcome State Fault Refusal :=
  .next ((Prog.when (decide (8 ≤ core) && decide (core < 12)) (.seq (.raiseAt 1 stamp) (warmResetAt 0x12 stamp))).go s)

def execWarmResetRequest (stamp : Time) (s : State) : Host.Outcome State Fault Refusal :=
  .next ((warmRequest 0x10 stamp).go s)

def execCpxRestartRequest (stamp : Time) (s : State) : Host.Outcome State Fault Refusal :=
  .next ((cpxRestartProg stamp).go s)

/-- CPX_RESTART_DONE (R487, R538): a restart into a newly activated bundle enters TRIAL. -/
def execCpxRestartDone (s : State) : Host.Outcome State Fault Refusal :=
  .next ((Prog.guard (fun s => s.ctl.restarting) (.block [
    .act (.ctl (fun c => { c with restarting := false })),
    .guard (fun s => s.sec.trialFrom.isSome && s.sec.upd == .armed) (setUpd .trial)])).go s)

/-- FAULT_RESTART_TIMER (R488): CPX_FAULT_RESTART.SEC after entering FAULT; the fourth warm reset of the hour does not
take place. -/
def execFaultRestartTimer (stamp : Time) (s : State) : Host.Outcome State Fault Refusal :=
  .next ((Prog.guard (fun s => s.node == .fault && s.fld F.CPX_FAULT_RESTART_SEC != 0 &&
    decide (inLastHour s.ctl.warmResets stamp < 3)) (warmResetAt 0x13 stamp)).go s)

end Sys2Proof.Machine
end

