-- ==== Sys2Proof/Machine/Deflate.lean ====
section
/-! DEFINITION. Compression: the match search of R103, the blocks of R104, the stream of R100 (log entry 12 names what
the spec leaves open of it: the hash, where a block ends, the Huffman code lengths). -/

namespace Sys2Proof.Machine

/-- What a compression job asks for: the format, the window, LEVEL. -/
structure DefJob where
  thicket : Bool
  window : Nat
  level : Nat
  deriving DecidableEq, Repr

/-- A symbol of a block: a literal, or a match of a length at a distance. -/
inductive DefTok
  | lit (b : Nat)
  | copy (len dist : Nat)
  deriving DecidableEq, Repr

/-! ### The match search (R103) -/

/-- Chain depth by LEVEL (Table 3.5). -/
def DefJob.depth (j : DefJob) : Nat := 4 ^ j.level
/-- A match is deferred by one byte at levels 3 and 4 (Table 3.5). -/
def DefJob.lazyMatch (j : DefJob) : Bool := 3 ≤ j.level
/-- The longest match that the format has (Table 3.3). -/
def DefJob.maxLen (j : DefJob) : Nat := if j.thicket then 65794 else 258

/-- Length of the common start of two lists. -/
def commonLen : List Byte → List Byte → Nat
  | a :: s, b :: t => if a = b then commonLen s t + 1 else 0
  | _, _ => 0

/-- The input from `d` bytes back on; `past` is newest first. -/
def fromBack (past rest : List Byte) (d : Nat) : List Byte := (past.take d).reverse ++ rest

/-- The chain of a position: the distances of the earlier positions with its hash, nearest first, to the depth of LEVEL. -/
def DefJob.chain (j : DefJob) (past rest : List Byte) : List Nat :=
  let h := Config.chainHash (rest.take 3)
  (((List.range (min j.window past.length)).map (· + 1)).filter
    (fun d => Config.chainHash ((fromBack past rest d).take 3) == h)).take j.depth

/-- The longest match found at a position, the nearer of two equally long ones; lengths below 3 are no match. -/
def DefJob.best (j : DefJob) (past rest : List Byte) : Option (Nat × Nat) :=
  let found := (j.chain past rest).foldl (fun (m : Nat × Nat) d =>
    let n := min j.maxLen (commonLen (fromBack past rest d) rest)
    if m.1 < n then (n, d) else m) (0, 0)
  if found.1 < 3 then none else some found

/-- The match that is taken at a position: the best one, unless it is deferred because the next position yields a longer
one. -/
def DefJob.taken (j : DefJob) (past : List Byte) (b : Byte) (rest : List Byte) : Option (Nat × Nat) :=
  (j.best past (b :: rest)).filter (fun m =>
    !(j.lazyMatch && (match j.best (b :: past) rest with
      | none => false
      | some k => m.1 < k.1)))

/-- The symbols of a block's bytes, with the bytes before them as history. -/
def DefJob.tokens (j : DefJob) : Nat → List Byte → List Byte → List DefTok
  | 0, _, _ => []
  | _ + 1, _, [] => []
  | fuel + 1, past, b :: rest =>
    match j.taken past b rest with
    | none => .lit b.toNat :: DefJob.tokens j fuel (b :: past) rest
    | some m => .copy m.1 m.2 :: DefJob.tokens j fuel (((b :: rest).take m.1).reverse ++ past) ((b :: rest).drop m.1)

/-! ### Huffman codes -/

/-- Bits of a number, least significant first. -/
def bitsLsb : Nat → Nat → List Bool
  | 0, _ => []
  | n + 1, v => (v % 2 == 1) :: bitsLsb n (v / 2)

/-- A canonical code word (RFC 1951), most significant bit first. -/
def codeBits (lens : List Nat) (sym : Nat) : List Bool :=
  let l := lens.getD sym 0
  let first := ((lens.map (fun k => if k = 0 || l ≤ k then 0 else 2 ^ (l - k)))).sum
  (bitsLsb l (first + ((lens.take sym).filter (· == l)).length)).reverse

/-- The length symbol of a match length. -/
def lengthSym (len : Nat) : Nat :=
  if len = 258 then 285 else if 258 < len then 286
  else (((List.range 28).map (· + 257)).filter (fun s => (lengthCode s).1 ≤ len)).getLast?.getD 257

/-- The distance code of a distance. -/
def distanceSym (dist : Nat) : Nat :=
  ((List.range 40).filter (fun d => (distanceCode d).1 ≤ dist)).getLast?.getD 0

/-- The literal/length symbol and the distance symbol that a symbol of the block takes. -/
def DefTok.syms : DefTok → Nat × Option Nat
  | .lit b => (b, none)
  | .copy l d => (lengthSym l, some (distanceSym d))

/-- How often each of `n` symbols occurs. -/
def countSyms (n : Nat) (l : List Nat) : List Nat := (List.range n).map (fun i => l.count i)

/-- A complete code of the used symbols with lengths as equal as can be; a single symbol takes one bit. -/
def flatLens (used : List Bool) : List Nat :=
  let n := used.count true
  let k := Nat.log2 (n - 1) + 1
  (used.zipIdx.map (fun p =>
    if !p.1 then 0
    else if n < 2 then 1
    else if (used.take p.2).count true < 2 ^ k - n then k - 1 else k))

/-- The code lengths for symbols of given counts: the open choice of the compressor where it is a legal code (R102) that
has every symbol in use, a flat code otherwise. -/
def lensFor (limit : Nat) (legal : List Nat → Bool) (counts : List Nat) : List Nat :=
  let c := Config.codeLengths limit counts
  if c.length == counts.length && c.all (· ≤ limit) && legal c && (c.zip counts).all (fun p => p.2 == 0 || p.1 != 0) then c
  else flatLens (counts.map (· != 0))

/-- The bits of a block's symbols up to and with the end of block. -/
def bodyBits (lit dist : List Nat) (toks : List DefTok) : List Bool :=
  toks.flatMap (fun t => match t with
    | .lit b => codeBits lit b
    | .copy l d =>
      let ls := lengthSym l
      let ds := distanceSym d
      codeBits lit ls ++ bitsLsb (lengthCode ls).2 (l - (lengthCode ls).1) ++
        codeBits dist ds ++ bitsLsb (distanceCode ds).2 (d - (distanceCode ds).1)) ++ codeBits lit 256

/-! ### Block types (R100, R104) -/

/-- Lengths up to the last one in use, at least `least` of them. -/
def trimLens (least : Nat) (l : List Nat) : List Nat :=
  l.take (max least (((l.zipIdx.filter (fun p => p.1 != 0)).map (·.2 + 1)).getLast?.getD 0))

/-- The lengths that a symbol of the code-length code stands for, after those before it. -/
def runLens (sofar : List Nat) (t : Nat × Nat) : List Nat :=
  if t.1 < 16 then [t.1]
  else if t.1 = 16 then List.replicate (3 + t.2) (sofar.getLast?.getD 0)
  else if t.1 = 17 then List.replicate (3 + t.2) 0 else List.replicate (11 + t.2) 0

/-- Extra bits of a symbol of the code-length code. -/
def runExtra (sym : Nat) : Nat := if sym < 16 then 0 else if sym = 16 then 2 else if sym = 17 then 3 else 7

/-- The code lengths as symbols of the code-length code: the open choice of the compressor where it spells them, one
symbol a length otherwise. -/
def runsFor (lens : List Nat) : List (Nat × Nat) :=
  let c := Config.lengthRuns lens
  let said := c.foldl (fun (a : Option (List Nat)) t => a.bind (fun l =>
    if 18 < t.1 || 2 ^ runExtra t.1 ≤ t.2 || (t.1 == 16 && l.isEmpty) then none else some (l ++ runLens l t))) (some [])
  if said == some lens then c else lens.map (fun l => (l, 0))

/-- A complete code-length code over what is used: a second symbol joins a single one. -/
def codeLengthLens (runs : List (Nat × Nat)) : List Nat :=
  let counts := countSyms 19 (runs.map (·.1))
  let counts := if (counts.filter (· != 0)).length < 2 then counts.set (if counts.getD 0 0 = 0 then 0 else 1) 1 else counts
  lensFor 7 codeComplete counts

/-- A dynamic block after its BFINAL bit. -/
def dynamicBits (thicket : Bool) (toks : List DefTok) : List Bool :=
  let lit := trimLens 257 (lensFor 15 codeComplete (countSyms (if thicket then 287 else 286) (256 :: toks.map (fun t => t.syms.1))))
  let dist := trimLens 1 (lensFor 15 distanceOk (countSyms (if thicket then 40 else 30) (toks.filterMap (fun t => t.syms.2))))
  let runs := runsFor (lit ++ dist)
  let cl := codeLengthLens runs
  let order := trimLens 4 (clOrder.map (fun i => cl.getD i 0))
  bitsLsb 2 2 ++ bitsLsb 5 (lit.length - 257) ++ bitsLsb (if thicket then 6 else 5) (dist.length - 1) ++
    bitsLsb 4 (order.length - 4) ++ order.flatMap (bitsLsb 3) ++
    runs.flatMap (fun t => codeBits cl t.1 ++ bitsLsb (runExtra t.1) t.2) ++ bodyBits lit dist toks

/-- A fixed-Huffman block after its BFINAL bit. -/
def fixedBits (toks : List DefTok) : List Bool := bitsLsb 2 1 ++ bodyBits fixedLit (List.replicate 32 5) toks

/-- Stored blocks of a piece, at most 65,535 bytes each, from a bit position on, BFINAL on the last one. -/
def storedBits (last : Bool) : Nat → Nat → List Byte → List Bool
  | 0, _, _ => []
  | fuel + 1, at_, src =>
    let now := src.take 65535
    let rest := src.drop 65535
    let head := (last && rest.isEmpty) :: bitsLsb 2 0
    let pad := List.replicate ((8 - (at_ + 3) % 8) % 8) false
    let block := head ++ pad ++ bitsLsb 16 now.length ++ bitsLsb 16 (65535 - now.length) ++
      now.flatMap (fun b => bitsLsb 8 b.toNat)
    block ++ (if rest.isEmpty then [] else storedBits last fuel (at_ + block.length) rest)

/-- A block: the shortest legal type, the stored one when two are equally short (R104). -/
def blockBits (j : DefJob) (last : Bool) (at_ : Nat) (past src : List Byte) : List Bool :=
  let toks := j.tokens src.length past src
  let stored := storedBits last (src.length + 1) at_ src
  let dyn := last :: dynamicBits j.thicket toks
  let fixed := last :: fixedBits toks
  let coded := if j.thicket then dyn
    else if fixed.length < dyn.length || (fixed.length == dyn.length && Config.preferFixed src) then fixed else dyn
  if coded.length < stored.length then coded else stored

/-- The bytes of the next block: at most 128 KiB, the rest of the choice open (R104). -/
def blockLen (src : List Byte) : Nat := min 131072 (Config.blockCut src % 131072 + 1)

/-- The blocks of the input. -/
def streamBits (j : DefJob) : Nat → Nat → List Byte → List Byte → List Bool
  | 0, _, _, _ => []
  | fuel + 1, at_, past, src =>
    let now := src.take (blockLen src)
    let rest := src.drop (blockLen src)
    let bits := blockBits j rest.isEmpty at_ past now
    bits ++ (if rest.isEmpty then [] else streamBits j fuel (at_ + bits.length) (now.reverse ++ past) rest)

/-- Bytes of a bit stream, least significant bit first, zero bits up to the boundary (R100). -/
def packBits : Nat → List Bool → List Byte
  | 0, _ => []
  | _ + 1, [] => []
  | fuel + 1, l =>
    let v := ((l.take 8).zipIdx.map (fun p => if p.1 then 2 ^ p.2 else 0)).sum
    BitVec.ofNat 8 v :: packBits fuel (l.drop 8)

/-- The block stream that the compressor makes of its input (R100, R103 to R105). -/
def compressStream (j : DefJob) (src : List Byte) : List Byte :=
  let bits := streamBits j (src.length + 1) 0 [] src
  packBits bits.length bits

/-- The Thicket frame around a block stream (R99). -/
def thicketFrame (wlog : Nat) (body src : List Byte) : List Byte :=
  let h := leBytes 4 0x544B4854 ++ leBytes 1 1 ++ leBytes 1 wlog ++ leBytes 2 0 ++ leBytes 8 src.length ++
    leBytes 8 body.length
  h ++ leBytes 4 (crc32c h).toNat ++ leBytes 4 0 ++ body ++ leBytes 4 (crc32c src).toNat

/-- What a compression job writes in full, by FORMAT (0 Thicket, 1 raw DEFLATE), LEVEL and WINDOW_LOG (R99, R105). -/
def compressBytes (format level wlog : Nat) (src : List Byte) : List Byte :=
  if format = 0 then thicketFrame wlog (compressStream { thicket := true, window := 2 ^ wlog, level := level } src) src
  else compressStream { thicket := false, window := 32768, level := level } src

end Sys2Proof.Machine
end

