-- ==== Sys2Proof/Machine/Thicket.lean ====
section
/-! DEFINITION. The Thicket engine: rings, channels, jobs, results in ring order, aborts (chapter 03). -/

namespace Sys2Proof.Machine

/-- Indexes of queue n run modulo this (Table 3.14). -/
def State.ringMod (s : State) (q : Nat) : Nat := 2 ^ (s.fld (F.THK_QCFG_SIZE_LOG (q - 1)) + 1)
/-- TAIL of queue q. -/
def State.ringTail (s : State) (q : Nat) : Nat := s.fld (F.THK_QTAIL_TAIL (q - 1)) % s.ringMod q
/-- HEAD of queue q. -/
def State.ringHead (s : State) (q : Nat) : Nat := s.fld (F.THK_QHEAD_HEAD (q - 1)) % s.ringMod q
/-- The next index that queue q starts. -/
def State.ringStart (s : State) (q : Nat) : Nat := s.thk.nextStart.getD (q - 1) 0 % s.ringMod q
/-- Entries from one index to another of queue q. -/
def State.ringSpan (s : State) (q a b : Nat) : Nat := (b + s.ringMod q - a) % s.ringMod q

/-- Address of the descriptor at an index (R110). -/
def State.descAt (s : State) (q i : Nat) : Nat :=
  s.addr (F.THK_QBASE_LO_ADDR_LO (q - 1)) (F.THK_QBASE_HI_ADDR_HI (q - 1)) + 64 * (i % (s.ringMod q / 2))

/-- Two ranges share a byte. -/
def rangesMeet (a n b m : Nat) : Bool := a < b + m && b < a + n

/-- Read a descriptor and judge it (R110 to R112). -/
def readDesc (b : List Byte) : ThkDesc :=
  let op := byteAt b 0
  let format := byteAt b 1
  let level := byteAt b 2
  let wlog := byteAt b 3
  let exact := bitOf (byteAt b 4) 0
  let src := leAt b 8 8
  let srcLen := leAt b 16 8
  let dst := leAt b 24 8
  let limit := leAt b 32 8
  let lenOk (n : Nat) : Bool := 1 ≤ n && n ≤ 2 ^ 36
  let shape :=
    if op = 0 then level == 0 && wlog == 0
    else op == 1 && 1 ≤ level && level ≤ 4 && !exact && (if format = 0 then 15 ≤ wlog && wlog ≤ 20 else wlog == 0)
  { op := op, format := format, level := level, wlog := wlog, exact := exact, irq := bitOf (byteAt b 4) 1
    bad := !(1 < format) && shape && byteAt b 4 / 4 == 0 && leAt b 5 3 == 0 && lenOk srcLen && lenOk limit &&
      (rangeInDram src srcLen || rangeInSram src srcLen) && (rangeInDram dst limit || rangeInSram dst limit) &&
      !rangesMeet src srcLen dst limit && !bitOf (byteAt b 49) 0 |> not
    src := src, srcLen := srcLen, dst := dst, limit := limit }

/-- The descriptor at an index of queue q. -/
def State.descOf (s : State) (q i : Nat) : ThkDesc := readDesc (s.bytes (s.descAt q i) 64)

/-- The kind of channel that a descriptor wants: the compressor, or a decompressor. -/
def ThkDesc.compresses (d : ThkDesc) : Bool := d.op == 1

/-! ### Results -/

/-- The result bytes 48 to 63 of a descriptor (Table 3.7). -/
def resultBytes (j : ThkJob) : List Byte :=
  leBytes 1 j.status ++ leBytes 1 1 ++ leBytes 2 0 ++ leBytes 4 j.crc.toNat ++ leBytes 8 j.outLen

/-- Results of queue q in ring order: each result is written, then HEAD advances (R113, R115, R119). -/
def writeBack (q : Nat) : Nat → Prog
  | 0 => .nil
  | k + 1 => .dyn (fun s =>
      match s.thk.jobs.find? (fun j => j.queue == q && j.index == s.ringHead q) with
      | none => .nil
      | some j =>
        if !j.ended then .nil
        else
          let head := (s.ringHead q + 1) % s.ringMod q
          .block [
            memWrite 0x11 (s.descAt q j.index + 48) (resultBytes j),
            .act (.thk (fun t => { t with jobs := t.jobs.filter (fun x => !(x.queue == q && x.index == j.index)) })),
            .setFld (F.THK_QHEAD_HEAD (q - 1)) head,
            .when j.desc.irq (.raise 192),
            .when (j.status != 0) (.raise 193),
            .when (s.thk.abortTo.getD (q - 1) none == some head) (.block [
              .act (.thk (fun t => { t with abortTo := t.abortTo.set (q - 1) none })),
              .setFld ⟨R.THK_CTRL, 4 + q, 4 + q⟩ 0]),
            writeBack q k])

/-- A queue that QENABLE = 0 waits for has no job left (Table 3.13). -/
def closeQueue (q : Nat) : Prog :=
  .guard (fun s => s.thk.closing.getD (q - 1) false && !s.thk.jobs.any (fun j => j.queue == q))
    (.seq (.act (.thk (fun t => { t with closing := t.closing.set (q - 1) false }))) (.setFld (F.THK_QCFG_QENABLE (q - 1)) 0))

/-- Write every result of queue q that can be written. -/
def settleQueue (q : Nat) : Prog :=
  .dyn (fun s => if q = 0 then settleQ0 else .seq (writeBack q s.thk.jobs.length) (closeQueue q))

/-! ### Commands -/

/-- A TAIL write (R118). -/
def tailWrite (q : Nat) (value : Nat) : Prog :=
  .dyn (fun s =>
    if s.ringMod q / 2 < s.ringSpan q (s.ringHead q) (value % s.ringMod q) then .raise 194
    else .setFld (F.THK_QTAIL_TAIL (q - 1)) value)

/-- THK_QTAIL_WRITE (R118). -/
def execThkQtailWrite (queue : Nat) (value : Word) (s : State) : Host.Outcome State Fault Refusal :=
  .next ((Prog.when (1 ≤ queue && queue ≤ 3) (tailWrite queue (value.toNat % 2 ^ 13))).go s)

/-- A write of 1 to ABORTn (R115): every job up to TAIL ends with THK_E_ABORTED, a running one at its next output byte. -/
def abortQueue (q : Nat) : Prog :=
  .dyn (fun s =>
    let tail := s.ringTail q
    let waiting := (List.range (s.ringSpan q (s.ringStart q) tail)).map (fun k => (s.ringStart q + k) % s.ringMod q)
    if s.ringHead q = tail then .nil
    else .block [
      .setFld ⟨R.THK_CTRL, 4 + q, 4 + q⟩ 1,
      .act (.thk (fun t => { t with
        abortTo := t.abortTo.set (q - 1) (some tail)
        nextStart := t.nextStart.set (q - 1) tail
        jobs := (t.jobs.map (fun j =>
            if j.queue != q then j
            else if j.ended then { j with aborted := true, status := 0x0C } else { j with aborted := true })) ++
          waiting.map (fun i =>
            ({ queue := q, index := i, desc := s.descOf q i, aborted := true, ended := true, status := 0x0C } : ThkJob)) })),
      settleQueue q])

/-- THK_ABORT (R115). -/
def execThkAbort (queue : Nat) (s : State) : Host.Outcome State Fault Refusal :=
  .next ((Prog.when (1 ≤ queue && queue ≤ 3) (abortQueue queue)).go s)

/-- Queue q has a waiting job of the wanted kind at its front (R113, R114). -/
def State.frontFits (s : State) (compressor : Bool) (q : Nat) : Bool :=
  s.flag (F.THK_QCFG_QENABLE (q - 1)) && !s.thk.closing.getD (q - 1) false && s.ringStart q != s.ringTail q &&
  (s.descOf q (s.ringStart q)).compresses == compressor

/-- The software queues in round-robin order after the one last served (R114). -/
def rrOrder (last : Nat) : List Nat := if last = 1 then [2, 3, 1] else if last = 2 then [3, 1, 2] else [1, 2, 3]

/-- THK_JOB_START (R111 to R114): a free channel takes the next job of its kind. -/
def execThkJobStart (channel : Nat) (s : State) : Host.Outcome State Fault Refusal :=
  .next ((Prog.guard (fun s => s.flag F.THK_CTRL_ENABLE && channel ≤ 4 &&
      !s.thk.jobs.any (fun j => j.channel == some channel)) (.dyn (fun s =>
    let busy := Prog.setFld ⟨R.THK_STATUS, channel, channel⟩ 1
    match (if channel = 4 then [] else s.thk.q0) with
    | j :: rest => .seq
        (.act (.thk (fun t => { t with q0 := rest, jobs := t.jobs ++ [{ j with channel := some channel }] }))) busy
    | [] => match (rrOrder s.thk.lastServed).find? (s.frontFits (channel == 4)) with
      | none => .nil
      | some q => .seq
          (.act (.thk (fun t => { t with
            lastServed := q
            nextStart := t.nextStart.set (q - 1) ((s.ringStart q + 1) % s.ringMod q)
            jobs := t.jobs ++ [{ queue := q, index := s.ringStart q, channel := some channel
                                 desc := s.descOf q (s.ringStart q) }] })))
          busy))).go s)

/-- The bytes of a job's source before the first line that cannot be read: a poisoned one, or one whose read has failed. -/
def State.readable (s : State) (j : ThkJob) : Nat :=
  j.badLines.foldl (fun k l => min k (l * 128 - j.desc.src)) (s.cleanPrefix j.desc.src j.desc.srcLen)

/-- What a decompression of memory ends with: a source line that cannot be read stops it with THK_E_BUS where its bytes
are needed (R107, Table 3.6). -/
def State.inflateFrom (s : State) (j : ThkJob) : InfEnd :=
  let d := j.desc
  decompress d.format d.exact d.limit d.srcLen (s.bytes d.src (s.readable j))

/-- What a compression of memory would write in full (R105). -/
def State.deflateFrom (s : State) (d : ThkDesc) : List Byte :=
  compressBytes d.format d.level d.wlog (s.bytes d.src d.srcLen)

/-- End the job of a channel with its result. -/
def endJob (c : Nat) (q : Nat) (f : ThkJob → ThkJob) : Prog :=
  .block [
    .act (.thk (fun t => { t with jobs := t.jobs.map (fun j =>
      if j.channel == some c then { f j with channel := none, ended := true } else j) })),
    .setFld ⟨R.THK_STATUS, c, c⟩ 0,
    settleQueue q]

/-- A job that failed: the first `n` bytes of what it would have written are there (R109); `crc` is over the original
bytes processed. -/
def endFailed (c : Nat) (j : ThkJob) (status n : Nat) (out : List Byte) (crc : Word) : Prog :=
  .seq (memStream 0x11 j.desc.dst (out.take n))
    (endJob c j.queue (fun x => { x with status := status, crc := crc, outLen := n }))

/-- A decompression that an abort stopped after an open number of its bytes (R115). -/
def endInflateAborted (c : Nat) (j : ThkJob) (out : List Byte) : Prog :=
  .withFree (fun w =>
    let n := w.toNat % (out.length + 1)
    endFailed c j 0x0C n out (crc32c (out.take n)))

/-- A compression that failed after `n` bytes of its output; how much of the source it had read is open. -/
def endDeflateFailed (c : Nat) (j : ThkJob) (status n : Nat) (src out : List Byte) : Prog :=
  .withFree (fun w => endFailed c j status n out (crc32c (src.take (w.toNat % (src.length + 1)))))

/-- THK_JOB_COMPLETE (R106 to R109, R111 to R117). -/
def execThkJobComplete (channel : Nat) (s : State) : Host.Outcome State Fault Refusal :=
  .next ((Prog.dyn (fun s =>
    match s.thk.jobs.find? (fun j => j.channel == some channel) with
    | none => .nil
    | some j =>
      let d := j.desc
      let unread : Prog := .each (((linesOf d.src d.srcLen).filter s.lineBad).take 1) (fun l => uncorrectable l 0x11 0xFF none)
      if j.queue = 0 then
        if j.aborted then .seq
          (.act (.thk (fun t => { t with jobs := t.jobs.filter (fun x => x.channel != some channel) })))
          (.seq (.setFld ⟨R.THK_STATUS, channel, channel⟩ 0) (settleQueue 0))
        else
          let r := decompress d.format true d.limit j.data.length j.data
          endJob channel 0 (fun x => { x with status := r.status, out := r.out, outLen := r.out.length })
      else if d.bad then
        endJob channel j.queue (fun x => { x with status := if j.aborted then 0x0C else 0x0A, crc := crc32c [], outLen := 0 })
      else if d.op = 0 then
        let r := s.inflateFrom j
        if j.aborted then endInflateAborted channel j r.out
        else .block [
          .when (r.status == 0x0B) unread,
          memStream 0x11 d.dst r.out,
          endJob channel j.queue (fun x => { x with status := r.status, crc := crc32c r.out, outLen := r.out.length })]
      else
        let src := s.bytes d.src d.srcLen
        let out := s.deflateFrom d
        let most := min out.length (min d.limit (d.srcLen - 1))
        if j.aborted then .withFree (fun w => endDeflateFailed channel j 0x0C (w.toNat % (most + 1)) src out)
        else if s.readable j < d.srcLen then
          .seq unread (.withFree (fun w => endDeflateFailed channel j 0x0B (w.toNat % (most + 1))
            (s.bytes d.src (s.readable j)) out))
        else if d.srcLen ≤ out.length && d.srcLen ≤ d.limit + 1 then
          endDeflateFailed channel j 0x09 (d.srcLen - 1) src out
        else if d.limit < out.length then endDeflateFailed channel j 0x03 d.limit src out
        else .seq (memStream 0x11 d.dst out) (endJob channel j.queue (fun x => { x with
          status := 0, crc := crc32c src, outLen := out.length })))).go s)

end Sys2Proof.Machine
end

