-- ==== Sys2Proof/Machine/Registers.lean ====
section
/-! DEFINITION. Reads and writes of the register window: what a read returns and does, which writes count, locks,
reserved encodings, shadow registers, and the side effects of a write (R9 to R16, R207, R404, R490 to R492, R562 to R566,
R580, R583). -/

namespace Sys2Proof.Machine

/-! ### What a read returns -/

/-- Replace fields of a word. -/
def putFields (w : Word) (l : List (Nat × Nat × Nat)) : Word := l.foldl (fun a f => putBits a f.1 f.2.1 f.2.2) w

/-- Code of an epoch state (Table 6.5). -/
def epCode : EpState → Nat
  | .none => 0
  | .created => 1
  | .active => 2
  | .closed => 3
  | .synthesised => 4
  | .error => 5
  | .rolledBack => 6
  | .decided => 7
  | .abandoned => 8

/-- Code of a domain state (Table 13.4). -/
def domCode : DomState → Nat
  | .free => 0
  | .acquire => 1
  | .locked => 2
  | .holdover => 3
  | .root => 4

/-- Code of a lane state (Table 10.2). -/
def laneCode : LaneState → Nat
  | .off => 0
  | .offsetCal => 1
  | .trainLow => 2
  | .step => 3
  | .active => 4
  | .test => 5
  | .failed => 6

/-- Code of a node state (Table 14.8). -/
def nodeCode : NodeState → Nat
  | .sapling => 0
  | .member => 1
  | .fault => 2
  | .excluded => 3

/-- A number with one bit for each element of a list. -/
def bitSet (l : List Nat) : Nat := l.foldl (fun a i => a ||| 2 ^ i) 0

/-- State code of a held frame, 0 where none is held (Table 6.13). -/
def State.epochCode (s : State) (n : Fsn) : Nat := match s.epoch n with | some e => epCode e.st | none => 0

/-- RECTs queued on the lanes of a half, saturating (Table 9.16). -/
def State.rectsQueued (s : State) (half : Nat) : Nat :=
  min 4095 ((List.range 96).map (fun k => (s.drive (half * 96 + k)).queue.length)).sum

/-- THERMAL condition of the guard: the die is in the hottest band (Table 18.8, Table 19.2). -/
def State.guardThermal (s : State) : Bool := s.fld F.HKP_TEMP_BAND == 2

/-- Pending and enabled events of a core, lowest first (R492). -/
def State.claimable (s : State) (core : Nat) : Option Nat :=
  (List.range 640).find? (fun e => s.ctl.pend.getLsbD (640 * core + e) &&
    bitOf (s.reg (R.CPX_EV_EN core (e / 32))).toNat (e % 32))

/-- Lanes in ACTIVE (Table 10.10). -/
def State.lanesActive (s : State) : Nat := (s.sds.lanes.filter (fun l => l.st == .active)).length

/-- Fields of CPX, SEC, HKP and MGT that follow other state. -/
def State.viewControl (s : State) (block o : Nat) : List (Nat × Nat × Nat) :=
  match block with
  | 0 =>
    if 0x2000 ≤ o && o < 0x2600 then [(31, 0, s.ctl.pend.toNat / 2 ^ (640 * ((o - 0x2000) / 0x80) + 8 * (o % 0x80)) % 2 ^ 32)]
    else if 0x3800 ≤ o && o < 0x3830 then
      match s.claimable ((o - 0x3800) / 4) with
      | some e => [(9, 0, e), (31, 31, 0)]
      | none => [(9, 0, 0), (31, 31, 1)]
    else []
  | 1 =>
    if o = 0 then [(2, 0, lcCode s.lc)]
    else if o = 4 then [(31, 0, s.secVersion.toNat)]
    else if o = 8 then [(7, 0, s.advancesLeft)]
    else if 0x10 ≤ o && o < 0x20 then [(31, 0, (s.sec.fuses.uid.getD ((o - 0x10) / 4) 0).toNat)]
    else if o = 0x24 then [(0, 0, boolNat s.sec.onAir), (1, 1, boolNat s.sec.updLock), (2, 2, boolNat (!s.pins.tilePg)),
      (3, 3, boolNat s.guardThermal)]
    else if o = 0x28 then [(3, 0, updCode s.sec.upd)]
    else if 0x100 ≤ o && o < 0x500 then
      [(31, 0, (s.meas.getD ((o - 0x100) / 0x40) 0).toNat / 2 ^ (8 * (o % 0x40)) % 2 ^ 32)]
    else []
  | 2 => if o = 0x10 then [(25, 17, s.hkp.over6.toNat / 2 % 2 ^ 9)] else []
  | 4 =>
    if o = 4 then [(0, 0, boolNat s.ctl.mgtLink), (11, 8, (s.ctl.sessions.filter (fun q => q.opened)).length)]
    else if o = 8 then [(31, 0, s.sec.fuses.mac.toNat % 2 ^ 32)]
    else if o = 0xC then [(15, 0, s.sec.fuses.mac.toNat / 2 ^ 32)]
    else []
  | _ => []

/-- Fields of FAB, TIM, CMT and ING that follow other state. -/
def State.viewScreen (s : State) (block o : Nat) : List (Nat × Nat × Nat) :=
  match block with
  | 5 =>
    if o = 0x18 then [(31, 0, s.portStateWord.toNat)]
    else if o = 0x1C then [(6, 0, (failedLinks s.fab.links).length)]
    else if o = 0x20 then [(10, 0, s.fab.guests.length)]
    else []
  | 6 =>
    if o = 8 then [(2, 0, domCode (s.dom false).st), (6, 4, domCode (s.dom true).st), (8, 8, boolNat s.tim.follow),
      (9, 9, boolNat s.tim.house), (22, 16, (s.dom false).depth), (30, 24, (s.dom true).depth)]
    else if o = 0xC then [(2, 0, (s.dom false).parent.getD 7), (6, 4, (s.dom true).parent.getD 7),
      (11, 8, bitSet (s.children false)), (15, 12, bitSet (s.children true))]
    else []
  | 7 =>
    if o = 4 then [(1, 0, screenCode s.cmt.screen), (5, 4, nodeCode s.node), (8, 8, boolNat s.isDecider),
      (25, 16, s.cmt.holdCount)]
    else if o = 8 then [(31, 0, s.cmt.gen.num.toNat)]
    else if o = 0x5C then [(31, 0, (match s.cmt.armed with | some a => a.1 | none => 0).toNat)]
    else if o = 0x60 then [(31, 0, (match s.cmt.armed with | some a => a.2 | none => 0).toNat)]
    else if o = 0x64 then [(0, 0, boolNat s.cmt.armed.isSome)]
    else []
  | 8 =>
    if o = 0x44 then [(31, 0, (s.ing.committed.getD 0).toNat)]
    else if o = 0x48 then [(31, 0, if s.cmt.reckons then s.N.toNat else 0)]
    else if o = 0x4C then [(31, 0, if s.cmt.reckons then (s.N + 1).toNat else 0)]
    else if o = 0x50 then [(8, 8, boolNat s.ing.committed.isSome), (7, 4, s.epochCode (s.N + 1)), (3, 0, s.epochCode s.N)]
    else if o = 0x5C then [(19, 0, s.ing.reclaim)]
    else []
  | _ => []

/-- Fields of THK, GRV, PDL, SDS, APL and DMC that follow other state. -/
def State.viewPipes (s : State) (block o : Nat) : List (Nat × Nat × Nat) :=
  if block = 9 then
    if o = 4 then [(4, 0, bitSet (s.thk.jobs.filterMap (fun j => j.channel)))] else []
  else if 0xB ≤ block && block ≤ 0x12 then
    if o = 8 then [(15, 0, bitSet (s.grv.strips.filterMap (fun x =>
      if x.engine / 16 = block - 0xB then some (x.engine % 16) else none)))] else []
  else if block = 0x16 || block = 0x17 then
    if o = 0x100 then [(4, 0, s.rectsInFlight (block - 0x16)), (27, 16, s.rectsQueued (block - 0x16))]
    else if block = 0x16 && o = 0x10 then
      [(19, 0, s.fld F.PDL_HTIMING_HSYNC + s.fld F.PDL_HTIMING_HBACK + 22 + 512 * (if s.halfFan s.N then 768 else 1536) +
        s.fld F.PDL_HTIMING_HFRONT)]
    else []
  else if block = 0x18 then
    if o = 0x20 then [(7, 0, s.lanesActive)]
    else if o = 0x24 then [(7, 0, s.sds.bgRun.getD 0), (8, 8, boolNat s.sds.bgRun.isSome), (23, 16, s.sds.due.length)]
    else if 0x1000 ≤ o && o < 0x4800 && o % 0x40 = 4 then
      [(3, 0, laneCode (s.lane ((o - 0x1000) / 0x40)).st), (5, 4, (s.lane ((o - 0x1000) / 0x40)).speed)]
    else []
  else if block = 0x19 then
    if 0x1000 ≤ o && o < 0x2000 then [(31, 0, s.apl.mask.toNat / 2 ^ (8 * (o - 0x1000)) % 2 ^ 32)] else []
  else if block = 0x1B then
    if o = 4 then [(7, 4, if s.fld F.HKP_TEMP_BAND = 0 then s.dmc.mr4Hot.toNat else 15)] else []
  else []

/-- The word that a register holds, with the fields that follow other state. -/
def State.view (s : State) (off : Nat) : Word :=
  let block := off / 0x100000
  let o := off % 0x100000
  putFields (s.reg off)
    (if block ≤ 4 then s.viewControl block o else if block ≤ 8 then s.viewScreen block o else s.viewPipes block o)

/-- The high register of a pair with ROV fields (R564, Tables 8.10, 16.7, 16.9). -/
def pairHigh (off : Nat) : Option Nat :=
  if off = R.DMC_UE_ADDR_LO then some R.DMC_UE_ADDR_HI
  else if off = R.MEM_COLLIDE_LO then some R.MEM_COLLIDE_HI
  else if off = R.LYR_PIN_FAULT_LO then some R.LYR_PIN_FAULT_HI
  else none

/-- A latched register's value, where one is latched (R207, R564). -/
def State.latchedWord (s : State) (off : Nat) : Option Word :=
  match (if [R.DMC_UE_ADDR_HI, R.MEM_COLLIDE_HI, R.LYR_PIN_FAULT_HI].contains off then s.latches.lookup off else none) with
  | some w => some w
  | none => match s.ing.epLatch with
    | some l =>
      if off = R.ING_EPOCH_P then l[0]? else if off = R.ING_EPOCH_S then l[1]?
      else if off = R.ING_EPOCH_STATE then l[2]? else none
    | none => none

/-- Bits of a register that a read gives no stated value: its reserved bits (Table 0.5, log entry 25). -/
def openMask (row : RegRow) : Word :=
  ~~~(row.flds.foldl (fun m f => if f.acc = .rsvd then m else m ||| maskW f.hi f.lo) 0)

/-- Mask of the fields of an access code. -/
def accMask (a : Acc) (l : List FldRow) : Word := l.foldl (fun m f => if f.acc = a then m ||| maskW f.hi f.lo else m) 0

/-- What a read of a register returns, with `w` for the bits that no rule states (R12, R14, R207, R564). -/
def State.readWord (s : State) (off : Nat) (w : Word) : Word :=
  match findReg off with
  | none => 0
  | some row =>
    let v := (s.latchedWord off).getD (s.view off)
    let m := openMask row
    (v &&& ~~~(accMask .wo row.flds) &&& ~~~m) ||| (w &&& m)

/-- A claim: the lowest event that is pending and enabled for a core is no longer pending (R492). -/
def claimProg (core : Nat) : Prog :=
  .dyn (fun s => match s.claimable core with
    | some e => .act (.ctl (fun c => { c with pend := c.pend &&& ~~~(1#7680 <<< (640 * core + e)) }))
    | none => .nil)

/-- What a read of a register does beside returning its value (R14, R207, R402, R404, R492, R564, Table 2.21). -/
def readEffect (off : Nat) : Prog :=
  .dyn (fun s => match findReg off with
    | none => .nil
    | some row => .block [
        (match pairHigh off with
         | some h => .act (.latch (fun l => putKey h (s.view h) l))
         | none => .nil),
        .when (off == R.ING_EPOCH_C) (.act (.ing (fun g => { g with
          epLatch := some [s.view R.ING_EPOCH_P, s.view R.ING_EPOCH_S, s.view R.ING_EPOCH_STATE] }))),
        .when (off / 0x100000 == 0 && decide (0x3800 ≤ off)) (claimProg ((off - 0x3800) / 4)),
        .when (accMask .rc row.flds != 0 && !(off / 0x100000 == 0 && decide (0x3800 ≤ off))) (.setReg off (s.reg off &&& ~~~(accMask .rc row.flds))),
        .when (off == R.FAB_DISCARD) (.act (.fab (fun b => { b with firstTold := false }))),
        .when (off == R.ING_FOREIGN_COUNT) (.act (.ing (fun g => { g with firstForeign := true }))),
        .when (off == R.HKP_TEMP_MAX) (.act (.hkp (fun h => { h with maxFresh := true })))])

/-- What a counter that runs with time or with traffic outside the commands has counted by a read of it, an open amount
(log entry 25): cycles of panic (R468) and of a packet that waits for credits (Table 12.24), pattern errors of a lane in
loop-back (R322), frames that the management port drops. -/
def runningCount (off : Nat) : Prog :=
  let add (f : Fld) : Prog := .withFree (fun w => .count f w.toNat)
  .dyn (fun s =>
    if off == R.DMC_PANIC_CYCLES then .when (!s.grv.panics.isEmpty) (add F.DMC_PANIC_CYCLES_COUNT)
    else if off == R.MGT_RX_DROP then .when s.mgtUp (add F.MGT_RX_DROP_COUNT)
    else match (List.range 6).find? (fun p => off == R.FAB_P_CREDIT_STALL p) with
      | some p => .when (portStalled (s.port p)) (add (F.FAB_P_CREDIT_STALL_CYCLES p))
      | none => .when (off / 0x100000 == 0x18) (match (List.range 224).find? (fun i => off == R.SDS_LPRBS_ERR i) with
        | some i => .when (s.patternRuns i) (add (F.SDS_LPRBS_ERR_COUNT i))
        | none => .nil))

/-- A read of an aligned word of the window at an instant: its value as the answer, and what the read does. -/
def readProg (off : Nat) (t : Time) : Prog :=
  if off / 0x100000 == 6 && 0x10C ≤ off % 0x100000 && (off % 0x100000 - 0x10C) % 0x20 == 0 &&
      off % 0x100000 < 0x220 then captureReadProg ((off % 0x100000 - 0x10C) / 0x20)
  else if off == R.TIM_NOW_NS then .dyn (fun s => timeNowProg t (s.localOf t))
  else .block [
    .when (off == R.TIM_PARENT) (.atFabric t),
    .when (off == R.APL_STATUS || off == R.APL_TEMP) (aplTempProg t),
    runningCount off,
    .withFree (fun w => .dyn (fun s => .seq (.act (.bus { data := [s.readWord off w] })) (readEffect off)))]

/-! ### Which writes count -/

/-- An encoding is one that its field table allows (R13, R580). -/
def Valid.holds (v : Valid) (w : Word) (x : Nat) : Bool :=
  match v with
  | .any => true
  | .range lo hi => lo ≤ x && x ≤ hi
  | .oneOf l => l.contains x
  | .signed n m => (signedOf n x).natAbs ≤ m
  | .f32 lo hi => fle (BitVec.ofNat 32 lo) w && fle w (BitVec.ofNat 32 hi)
  | .f32Signed lo hi => fle (fneg (BitVec.ofNat 32 lo)) w && fle w (BitVec.ofNat 32 hi)
  | .f32Mag m => fle (fabs w) (BitVec.ofNat 32 m)
  | .pitch => isZero w || (fle 0x38D1B717 w && fle w 0x3CA3D70A)
  | .offset lo hi => lo ≤ signedOf 18 x && signedOf 18 x ≤ hi

/-- A field that software can write at all. -/
def Acc.writable : Acc → Bool
  | .rw | .rws | .rwl | .wo | .w1c | .w1s => true
  | _ => false

/-- A write has a reserved encoding in one of its fields: the whole write is discarded (R13). -/
def reservedWrite (row : RegRow) (v : Word) : Bool :=
  row.flds.any (fun f => f.acc.writable && !f.valid.holds v (getBits v f.hi f.lo))

/-- The lock of a field is on (Table 0.5, the field tables). -/
def State.locked (s : State) (off : Nat) : Lock → Bool
  | .none => false
  | .cpxLock => s.flag F.CPX_FAULT_RESTART_LOCK
  | .lock8 => bitOf (s.reg (off / 0x100000 * 0x100000)).toNat 8
  | .lock1 => bitOf (s.reg (off / 0x100000 * 0x100000)).toNat 1
  | .thkQen => bitOf (s.reg (off / 0x100 * 0x100 + 8)).toNat 4
  | .bltBusy => s.flag F.BLT_STATUS_BUSY
  | .pdlTiming => s.flag F.PDL_CTRL_LINK_EN || s.flag F.PDL_CTRL_LOCK
  | .pdlLock => s.flag F.PDL_CTRL_LOCK
  | .sdsLock => s.flag F.SDS_CTRL_LOCK
  | .lifecycle => !lcTest s.lc
  | .tapBusy => s.flag (F.MET_T_CTRL_BUSY ((off % 0x100000 - 0x300) / 0x20))
  | .dmcChanging => s.flag F.DMC_STATUS_CHANGING

/-- The word after a write, field by field (Table 0.5). -/
def State.storedWord (s : State) (off : Nat) (v : Word) : List FldRow → Word
  | [] => s.reg off
  | f :: t =>
    let w := s.storedWord off v t
    let x := getBits v f.hi f.lo
    if s.locked off f.lock then w
    else match f.acc with
      | .rw | .rws | .rwl | .wo => putBits w f.hi f.lo x
      | .w1c => w &&& ~~~(v &&& maskW f.hi f.lo)
      | .w1s => w ||| (v &&& maskW f.hi f.lo)
      | _ => w

/-- A register whose write waits for the owning block's commit: RWS, but for the layer descriptors, which a layer commit
reads (R237), and the table addresses of R583. -/
def waitsForCommit (off : Nat) (row : RegRow) : Bool := accMask .rws row.flds != 0 && off / 0x100000 != 0x14

/-- A capture window whose span would be 2^31 or more (R401). -/
def State.windowReserved (s : State) (off : Nat) (v : Word) : Bool :=
  let o := off % 0x100000
  if off / 0x100000 = 6 && 0x104 ≤ o && o < 0x220 then
    if (o - 0x104) % 0x20 = 0 then 2 ^ 31 ≤ (s.reg (off + 4) - v).toNat
    else if (o - 0x104) % 0x20 = 4 then 2 ^ 31 ≤ (v - s.reg (off - 4)).toNat
    else false
  else false

/-- Registers whose reserved bits are checked when what they describe is used, so that a write keeps them: the layer
descriptors (R237) and APL_REQ_RECT (Table 11.6). -/
def keepsReserved (off : Nat) : Bool := (0x1400100 ≤ off && off < 0x1400300) || off == R.APL_REQ_RECT

/-- Store the word of a write. -/
def storeProg (off : Nat) (row : RegRow) (v : Word) (t : Time) : Prog :=
  .dyn (fun s =>
    let w := s.storedWord off v row.flds
    let w := if keepsReserved off then (w &&& ~~~(openMask row)) ||| (v &&& openMask row) else w
    .seq (.setReg off w)
      (.when (waitsForCommit off row)
        (.act (.rws (fun l => l ++ [{ off := off, value := w, stamp := t }])))))

/-! ### The side effects of a write -/

/-- Extend M10 + REG with SEC_EXT_DATA, low word first (R519, Table 18.15). -/
def extendProg (r : Nat) : Prog :=
  .dyn (fun s => .act (.extend (10 + r % 4)
    (BitVec.ofNat 512 ((List.range 16).foldl (fun a w => a + (s.reg (R.SEC_EXT_DATA w)).toNat * 2 ^ (32 * w)) 0))))

/-- A write of CPX_RESET with the right key (Table 17.15). -/
def cpxResetWrite (v : Word) (t : Time) : Prog :=
  .when (getBits v 31 16 == 0x5A5A) (if getBits v 1 0 == 1 then warmRequest 0x10 t else cpxRestartProg t)

/-- Writes of CPX, SEC, FAB, TIM and CMT that do more than store, or do not store. -/
def controlWrite (off : Nat) (row : RegRow) (v : Word) (t : Time) : Prog :=
  if off = R.CPX_RESET then cpxResetWrite v t
  else if off = R.CPX_EV_RAISE then .raiseAt (getBits v 9 0) t
  else if 0x2000 ≤ off && off < 0x2600 then
    .act (.ctl (fun c => { c with pend := c.pend &&&
      ~~~(BitVec.ofNat 7680 v.toNat <<< (640 * ((off - 0x2000) / 0x80) + 8 * (off % 0x80))) }))
  else if off = R.SEC_EXT_GO then .when (bitOf v.toNat 8) (extendProg (getBits v 1 0))
  else if off = R.FAB_CTRL then .seq (.when (bitOf v.toNat 0) (fabricEnableProg t)) (storeProg off row v t)
  else if off = R.TIM_CTRL then .seq
    (.when (bitOf v.toNat 0) (.dyn (fun s => timeEnableProg (bitOf v.toNat 2) (s.localOf t)))) (storeProg off row v t)
  else if off = R.CMT_SCREEN_CMD then screenCommand (getBits v 2 0) t
  else .seq (storeProg off row v t)
    (.when (off == R.CMT_CTRL || off == R.BIN_CTRL || off / 0x100000 == 0xB) tryVote)

/-- Writes of THK, BIN, GRV0 and COL tables, LYR and BLT that do more than store. -/
def pipeWrite (off : Nat) (row : RegRow) (v : Word) (t : Time) : Prog :=
  let o := off % 0x100000
  if off = R.THK_CTRL then .seq (.setFlag F.THK_CTRL_ENABLE (bitOf v.toNat 0))
    (.each [1, 2, 3] (fun q => .when (bitOf v.toNat (4 + q)) (abortQueue q)))
  else if off / 0x100000 = 9 && 0x100 ≤ o && o % 0x100 = 0xC then tailWrite (o / 0x100) (v.toNat % 2 ^ 13)
  else if off / 0x100000 = 9 && 0x100 ≤ o && o % 0x100 = 8 then .dyn (fun s => .seq
    (.when (!bitOf v.toNat 4 && s.thk.jobs.any (fun j => j.queue == o / 0x100 && j.channel.isSome))
      (.act (.thk (fun k => { k with closing := k.closing.set (o / 0x100 - 1) true }))))
    (storeProg off row v t))
  else if off = R.BIN_BOUNDS_LO then tableWrite .bounds 0 v t
  else if off = R.BIN_BOUNDS_HI then tableWrite .bounds 1 v t
  else if off = R.GRV_DIR_LO then tableWrite .dirs 0 v t
  else if off = R.GRV_DIR_HI then tableWrite .dirs 1 v t
  else if off = R.COL_TABLE_LO then tableWrite .colour 0 v t
  else if off = R.COL_TABLE_HI then tableWrite .colour 1 v t
  else if off = R.COL_GMAP_LO then tableWrite .colour 2 v t
  else if off = R.COL_GMAP_HI then tableWrite .colour 3 v t
  else if off = R.LYR_CTRL then .seq (.setFld F.LYR_CTRL_GUARD (getBits v 4 0)) (.when (bitOf v.toNat 8) lockLayers)
  else if off = R.LYR_COMMIT then .when (bitOf v.toNat 0) (layerCommitProg t)
  else if off = R.BLT_CTRL && bitOf v.toNat 31 then
    bltStart (match getBits v 1 0 with | 0 => .copy | 1 => .fill | _ => .blend) (BitVec.ofNat 2 (getBits v 5 4))
      (BitVec.ofNat 2 (getBits v 7 6)) (BitVec.ofNat 8 (getBits v 23 16))
  else storeProg off row v t

/-- A write of SDS_LCTRL of lane `i` (R306, R318, R322). -/
def laneCtrlWrite (i : Nat) (v : Word) (t : Time) : Prog :=
  .dyn (fun s => .block [
    .when (lcTest s.lc && (getBits v 5 4 != s.fld (F.SDS_LCTRL_LOOP i) || getBits v 9 8 != s.fld (F.SDS_LCTRL_PATTERN i) ||
        getBits v 13 12 != s.fld (F.SDS_LCTRL_TEST_SPEED i)))
      (laneTestProg i (getBits v 5 4) (getBits v 9 8) (getBits v 13 12) t),
    if bitOf v.toNat 0 == s.flag (F.SDS_LCTRL_ENABLE i) then .nil
    else if bitOf v.toNat 0 then laneEnableProg i t else laneDisableProg i t,
    .when (bitOf v.toNat 1) (laneRetrainProg i t)])

/-- Writes of PDL, SDS, APL, MET and DMC that do more than store. -/
def linkWrite (off : Nat) (row : RegRow) (v : Word) (t : Time) : Prog :=
  let o := off % 0x100000
  if off = R.PDL_CTRL then .dyn (fun s => .seq (storeProg off row v t)
    (.when (bitOf v.toNat 0 && !s.flag F.PDL_CTRL_LINK_EN && s.pdl.kind == .none) (chooseLine t)))
  else if off / 0x100000 = 0x18 && 0x1000 ≤ o && o < 0x4800 && o % 0x40 = 0 then laneCtrlWrite ((o - 0x1000) / 0x40) v t
  else if off = R.APL_CTRL then .seq (.when (bitOf v.toNat 1) (.setFld F.APL_CTRL_LOCK 1)) (aplEnable (bitOf v.toNat 0) t)
  else if off = R.APL_REQ_GO then .when (bitOf v.toNat 0) (.dyn (fun s =>
    submitRequest (s.reg R.APL_REQ_RECT) (s.reg R.APL_REQ_FSN) (bitOf v.toNat 1)
      (s.addr F.APL_REQ_BUF_LO_ADDR_LO F.APL_REQ_BUF_HI_ADDR_HI)))
  else if off / 0x100000 = 0x1A && 0x100 ≤ o && o < 0x200 && o % 0x40 = 0 then .dyn (fun s => .seq
    (storeProg off row v t)
    (.when (bitOf v.toNat 0 && !bitOf (s.reg off).toNat 0) (.act (.met (fun m => { m with streams := modAt m.streams ((o - 0x100) / 0x40) MetStream.restart })))))
  else if off / 0x100000 = 0x1A && 0x100 ≤ o && o < 0x200 && o % 0x40 = 0x3C then
    .when (bitOf v.toNat 0) (expSetGoProg ((o - 0x100) / 0x40))
  else if off / 0x100000 = 0x1A && 0x300 ≤ o && o < 0x380 && o % 0x20 = 0 then
    .guard (fun s => !bitOf (s.reg off).toNat 16) (.seq (storeProg off row (v &&& ~~~1#32) t)
      (.when (bitOf v.toNat 0) (tapArmProg ((o - 0x300) / 0x20))))
  else if off = R.DMC_FREQ then freqRequest (bitOf v.toNat 0)
  else storeProg off row v t

/-- A write of an aligned word that no rule discards. -/
def writeEffect (off : Nat) (row : RegRow) (v : Word) (t : Time) : Prog :=
  let block := off / 0x100000
  if block ≤ 8 || block = 0xA && off % 0x100000 = 0 then controlWrite off row v t
  else if 0xB ≤ block && block ≤ 0x12 && (block ≠ 0xB || (off ≠ R.GRV_DIR_LO && off ≠ R.GRV_DIR_HI)) then
    .seq (storeProg off row v t) tryVote
  else if block ≤ 0x15 then pipeWrite off row v t
  else linkWrite off row v t

/-- A software write to the window (R10, R12, R13, R14): an access that is no aligned 32-bit word, an offset without a
register and a reserved encoding change nothing. -/
def writeProg (off size : Nat) (v : Word) (t : Time) : Prog :=
  if size ≠ 4 || off % 4 ≠ 0 then .nil
  else match findReg off with
    | none => .nil
    | some row => .guard (fun s => !reservedWrite row v && !s.windowReserved off v) (writeEffect off row v t)

/-- Island AON: SEC, HKP, NVM, APL and MEM run while the other islands are held in reset (Table 17.3, R552). -/
def aonBlock (off : Nat) : Bool := [1, 2, 3, 0x19, 0x1C].contains (off / 0x100000)

/-- Run a register access where its island runs. -/
def Prog.at_ (p : Prog) (off : Nat) (s : State) : State := if aonBlock off then p.run s else p.go s

def execRegisterWrite (off size : Nat) (value : Word) (stamp : Time) (s : State) : Host.Outcome State Fault Refusal :=
  .next ((writeProg off size value stamp).at_ off s)

/-! ### Locks, reads and timeouts -/

/-- The register and bit of a block's LOCK (the field tables); blocks without one have none. -/
def lockBit : Nat → Option (Nat × Nat)
  | 0x0 => some (R.CPX_FAULT_RESTART, 16)
  | 0x2 => some (R.HKP_CTRL, 8)
  | 0x4 => some (R.MGT_CTRL, 8)
  | 0x5 => some (R.FAB_CTRL, 1)
  | 0x6 => some (R.TIM_CTRL, 8)
  | 0x7 => some (R.CMT_CTRL, 8)
  | 0xA => some (R.BIN_CTRL, 1)
  | 0x14 => some (R.LYR_CTRL, 8)
  | 0x16 => some (R.PDL_CTRL, 1)
  | 0x18 => some (R.SDS_CTRL, 8)
  | 0x19 => some (R.APL_CTRL, 1)
  | 0x1A => some (R.MET_CTRL, 8)
  | 0x1B => some (R.DMC_CTRL, 8)
  | _ => none

/-- Set a block's LOCK bit (R14, R496); LYR's also checks the slate (R252). -/
def lockProg (block : Nat) : Prog :=
  if block = 0x14 then lockLayers
  else match lockBit block with
    | some b => .dyn (fun s => .setReg b.1 (putBits (s.reg b.1) b.2 b.2 1))
    | none => .nil

def execLockSet (block : Nat) (s : State) : Host.Outcome State Fault Refusal :=
  .next ((lockProg block).at_ (block * 0x100000) s)

/-- A read of `size` bytes: one that is no aligned 32-bit word returns 0 and does nothing else (R10). -/
def busRead (off size : Nat) (t : Time) : Prog := if size == 4 && off % 4 == 0 then readProg off t else .act (.bus { data := [0] })

/-- PAIR_LOW_READ (R564). -/
def execPairLowRead (off size : Nat) (stamp : Time) (s : State) : Host.Outcome State Fault Refusal :=
  .next ((busRead off size stamp).at_ off s)

/-- EPOCH_C_READ (R207). -/
def execEpochCRead (s : State) : Host.Outcome State Fault Refusal := .next ((readProg R.ING_EPOCH_C 0).go s)

/-- COUNTER_READ_CLEAR (Table 0.5). -/
def execCounterReadClear (off size : Nat) (stamp : Time) (s : State) : Host.Outcome State Fault Refusal :=
  .next ((busRead off size stamp).at_ off s)

/-- REGISTER_ACCESS_TIMEOUT (R490): a read returns 0, a write is discarded. -/
def execRegisterAccessTimeout (off : Nat) (write : Bool) (s : State) : Host.Outcome State Fault Refusal :=
  .next ((Prog.dyn (fun s => .block [
    .when (!write) (.act (.bus { data := [0] })),
    .when (s.fld F.CPX_BUS_ERR_COUNT_COUNT == 0) (.setFld F.CPX_BUS_ERR_OFFSET off),
    .count F.CPX_BUS_ERR_COUNT_COUNT 1,
    .raise 0])).go s)

/-- EVENT_CLAIM (R492). -/
def execEventClaim (core : Nat) (s : State) : Host.Outcome State Fault Refusal :=
  .next ((Prog.when (decide (core < 12)) (readProg (R.CPX_EV_CLAIM core) 0)).go s)

/-- SW_EVENT_RAISE (R566): 480 to 639; the other values are reserved encodings. -/
def execSwEventRaise (event : Nat) (stamp : Time) (s : State) : Host.Outcome State Fault Refusal :=
  .next ((Prog.when (decide (480 ≤ event) && decide (event < 640)) (.raiseAt event stamp)).go s)

/-- MEASUREMENT_EXTEND (R519). -/
def execMeasurementExtend (reg : BitVec 2) (s : State) : Host.Outcome State Fault Refusal :=
  .next ((extendProg reg.toNat).run s)

end Sys2Proof.Machine
end

