-- ==== Sys2Proof/Machine/Start.lean ====
section
/-! DEFINITION. Resets, the start sequence with the configuration image, the activation hand-over and the trial's end
(R16, R35, R59, R475, R472, R486, R496 to R503, R521, R535, R538, R541, R552, R557, R573, R574). -/

namespace Sys2Proof.Machine

/-! ### Resets -/

/-- POWER_ON (R573): every island is held in cold reset; TILE_PG is high with the rails. -/
def execPowerOn (s : State) : Host.Outcome State Fault Refusal :=
  .next ((Prog.block [.act (.reset false), .setFld F.CPX_RESET_CAUSE_CAUSE 1,
    .act (.pins (fun p => { p with tilePg := true })), .act (.ctl (fun c => { c with inReset := true }))]).run s)

/-- A cold reset while the comparator is tripped leaves the islands held and THERM_TRIP_N low (R552, R553). -/
def keepTrip (was : Bool) : Prog :=
  .when was (.block [.act (.hkp (fun h => { h with tripped := true })),
    .act (.pins (fun p => { p with thermTripN := false })), .act (.ctl (fun c => { c with inReset := true }))])

/-- SYS_RESET_ASSERT (R574). -/
def execSysResetAssert (widthNs : Nat) (s : State) : Host.Outcome State Fault Refusal :=
  .next ((Prog.when (decide (1000 ≤ widthNs)) (.dyn (fun s => .seq (coldResetProg 2) (keepTrip s.hkp.tripped)))).run s)

/-- COLD_RESET (R486, Table 17.2). -/
def execColdReset (cause : Byte) (s : State) : Host.Outcome State Fault Refusal :=
  .next ((Prog.when (decide (1 ≤ cause.toNat) && decide (cause.toNat ≤ 3)) (coldResetProg cause.toNat)).run s)

/-- WARM_RESET (R486, Table 17.2). -/
def execWarmReset (cause : Byte) (stamp : Time) (s : State) : Host.Outcome State Fault Refusal :=
  .next ((Prog.when (decide (0x10 ≤ cause.toNat) && decide (cause.toNat ≤ 0x14)) (warmResetAt cause.toNat stamp)).go s)

/-! ### The configuration image at start (R496, R497) -/

/-- A record that the image writes: window offset, mask, value. -/
abbrev InitRec := Nat × Word × Word

/-- The records of a REGINIT body. -/
def reginitRecords (b : List Byte) : List InitRec :=
  (List.range (b.length / 12)).map (fun i => (leAt b (12 * i) 4, bodyWord b (3 * i + 1), bodyWord b (3 * i + 2)))

/-- The registers of the FABRIC section, in its order (Table 17.9). -/
def fabricRegs : List Nat := [R.FAB_ROLE, R.FAB_EXPECT, R.FAB_GUEST_ID, R.FAB_TIMING]

/-- The records that a section writes through the register rules. -/
def sectionRecords (sec : Nat × List Byte) : List InitRec :=
  match sec.1 with
  | 1 => reginitRecords sec.2
  | 3 => fabricRegs.zipIdx.map (fun r => (r.1, 0xFFFFFFFF, bodyWord sec.2 r.2))
  | 4 => (policyRegs.take 15).zipIdx.map (fun r =>
      (r.1, if r.1 = R.COL_CTRL then 1 else 0xFFFFFFFF, bodyWord sec.2 r.2))
  | _ => []

/-- A REGINIT record is valid (R496, R497): a register that is not SEC's and that no POLICY or FABRIC field sets, and
every bit of MASK for a WO field. -/
def recordOk (r : InitRec) : Bool :=
  match findReg r.1 with
  | none => false
  | some row => r.1 / 0x100000 != 1 && !policyRegs.contains r.1 && !fabricRegs.contains r.1 &&
      (r.2.1 &&& accMask .wo row.flds == 0 || r.2.1 == 0xFFFFFFFF)

/-- What a TABLE section decompresses to (Table 17.9). -/
def tableContent (b : List Byte) : InfEnd := inflateThicket false (2 ^ 36) (b.drop 4).length (b.drop 4)

/-- A section is valid (Table 17.9). -/
def sectionOk (sec : Nat × List Byte) : Bool :=
  let b := sec.2
  match sec.1 with
  | 1 => b.length % 12 == 0 && (reginitRecords b).all recordOk
  | 2 => b.length == 64
  | 3 => b.length == 16
  | 4 => b.length == 64 + 8192
  | 5 => leAt b 1 3 == 0 && (tableContent b).status == 0 &&
      ((byteAt b 0 == 1 && (tableContent b).out.length == 4096) || byteAt b 0 == 2)
  | _ => false

/-- The sections of a body, with every head checked: none where one is malformed or overruns (Table 17.8). -/
def parseSections : Nat → List Byte → Option (List (Nat × List Byte))
  | 0, b => if b.isEmpty then some [] else none
  | k + 1, b =>
    let n := leAt b 4 4
    if b.length < 8 || leAt b 1 3 != 0 || n % 4 != 0 || b.length < 8 + n then none
    else (parseSections k (b.drop (8 + n))).map (fun l => (byteAt b 0, (b.drop 8).take n) :: l)

/-- The header fields are in range and the reserved ones 0 (Table 17.8). -/
def ConfigImage.headerOk (c : ConfigImage) : Bool :=
  leAt c.bytes 0 4 == 0x47494643 && byteAt c.bytes 4 == 1 && leAt c.bytes 5 3 == 0 && 128 ≤ leAt c.bytes 12 4 &&
  leAt c.bytes 12 4 ≤ c.bytes.length && leAt c.bytes 84 44 == 0

/-- The code with which an image is rejected before it is applied (R497, Table 17.10): header, signature, sections. -/
def State.rejects (s : State) (c : ConfigImage) : Option Nat :=
  if !c.headerOk then some 0x41
  else if !s.imageSigOk c then some 0x40
  else match parseSections (leAt c.bytes 16 2) (c.signed.drop 128) with
    | none => some 0x41
    | some l => if l.all sectionOk then none else some 0x41

/-- Write (old AND NOT MASK) OR (VALUE AND MASK) (R496). -/
def writeRecord (t : Time) (r : InitRec) : Prog :=
  .dyn (fun s => writeProg r.1 4 ((s.reg r.1 &&& ~~~r.2.1) ||| (r.2.2 &&& r.2.1)) t)

/-- Apply one section (R496, Table 17.9). The slate's bytes lie from LYR_SLATE on. -/
def applySection (t : Time) (sec : Nat × List Byte) : Prog :=
  .seq (.each (sectionRecords sec) (writeRecord t))
    (match sec.1 with
     | 2 => .act (.grv (fun g => { g with panel := wordsOf sec.2 }))
     | 4 => .setFld F.ING_TEX_STORE_MIB ((bodyWord sec.2 15).toNat % 2 ^ 16)
     | 5 =>
       let b := (tableContent sec.2).out
       if byteAt sec.2 0 = 1 then .act (.apl (fun a => { a with initialMask := some (BitVec.ofNat 32768 (leNat b)) }))
       else .dyn (fun s => memStream 8 s.slateAddr b)
     | _ => .nil)

/-- The bits that the last record to write them gave a register: mask and value. -/
def lastWritten (recs : List InitRec) (off : Nat) : Word × Word :=
  recs.foldl (fun a r => if r.1 = off then (a.1 ||| r.2.1, (a.2 &&& ~~~r.2.1) ||| (r.2.2 &&& r.2.1)) else a) (0, 0)

/-- Every RW, RWL and RWS field that the records wrote reads back (R496). -/
def State.readsBack (s : State) (recs : List InitRec) : Bool :=
  recs.all (fun r => match findReg r.1 with
    | none => false
    | some row =>
      let m := (accMask .rw row.flds ||| accMask .rwl row.flds ||| accMask .rws row.flds) &&& (lastWritten recs r.1).1
      (s.reg r.1 ^^^ (lastWritten recs r.1).2) &&& m == 0)

/-- SCENE_DEADLINE lies at least 2 ms after t_swap(N - 3) (R59). -/
def sceneRoom (rate : Nat) (scene : Int) : Bool :=
  0 ≤ (scene - 2000) * ((rateOf rate).1 : Int) + 3000000 * ((rateOf rate).2 : Int)

/-- The image is rejected after it was applied (R497): read-back, NODE, R35, R59. -/
def State.valueRejected (s : State) (c : ConfigImage) : Bool :=
  let g := s.regGen
  !s.readsBack (c.sections.flatMap sectionRecords) || leAt c.bytes 18 2 != s.fld F.FAB_EXPECT_ADDR ||
  !offsetsOk g.offsets || !sceneRoom g.rate (g.offsets.getD 0 0)

/-- The check of a table that the image names is the one at start (R583 item 6). -/
def markTablesAtStart : Prog :=
  .each [TableId.bounds, .dirs, .colour] (fun k => modTable k (fun c => { c with atStart := c.checking }))

/-- The writes of the start firmware come before LOCAL_ABORT of the first frame whose swap instant passes (log entry 26). -/
def stampStartWrites : Prog :=
  .dyn (fun s => .seq
    (.act (.rws (fun l => l.map (fun w => { w with stamp := s.swapTime s.S }))))
    (.each [TableId.bounds, .dirs, .colour] (fun k => modTable k (fun c =>
      if c.checking then { c with lastWrite := s.swapTime s.S } else c))))

/-- A start step fails: CPX_START names it (R502). -/
def stepFailed (step : Nat) : Prog := .seq (.setFld F.CPX_START_STEP step) (.setFld F.CPX_START_FAILED 1)

/-- FAULT for a configuration image (Table 19.6); the detail is an open value. -/
def rejectConfig (code : Nat) : Prog :=
  .seq (stepFailed 3) (.withFree (fun w => enterFault 0x00 0x09 code w.toNat))

/-- Apply the configuration image in force (R496, R497), then set every LOCK bit. -/
def applyConfig : Prog :=
  .dyn (fun s => match s.rejects s.image with
    | some code => rejectConfig code
    | none => .withFreeStamp (fun t => .block [
        .each s.image.sections (applySection t),
        markTablesAtStart, stampStartWrites,
        .dyn (fun s => if s.valueRejected s.image then rejectConfig 0x42 else .each (List.range 0x1D) lockProg)]))

/-! ### The start sequence (R499 to R503) -/

/-- The steps that a step waits for (Table 17.11). -/
def stepDeps : Nat → List Nat
  | 2 => [1]
  | 3 => [2]
  | 4 => [3]
  | 5 => [3]
  | 6 => [5]
  | 7 => [4, 6]
  | 8 => [3, 5]
  | 9 => [3]
  | 10 => [9]
  | 11 => [7, 8, 10]
  | _ => []

/-- The register block of a step's fault, and the family and code of a failure (Tables 19.6, 19.7). -/
def stepBlock : Nat → Nat
  | 4 => 0x1B
  | 5 => 0x18
  | 6 => 0x16
  | 7 => 0x03
  | 8 => 0x19
  | 9 => 0x05
  | _ => 0x07

/-- The same cause stands in HKP_FAULT of a node in FAULT: the condition itself put the node there. -/
def State.faultIs (s : State) (block family code : Nat) : Bool :=
  s.node == .fault && s.flag F.HKP_FAULT_VALID && s.fld F.HKP_FAULT_BLOCK == block && s.fld F.HKP_FAULT_FAMILY == family &&
  s.fld F.HKP_FAULT_CODE == code

/-- A step from 4 on, or the interconnect test, fails: FAULT (R502, R557). The test's item and failure go to HKP_BIST, and
make up the detail. -/
def laterStepFails (step : Nat) (f : StepFail) : Prog :=
  let code := f.code.toNat
  let test := code = 0x0B03
  let block := if test then 0x02 else stepBlock step
  .block [
    stepFailed step,
    .when test (.block [.setFld F.HKP_BIST_ITEM f.item, .setFld F.HKP_BIST_DETAIL f.detail.toNat]),
    .guard (fun s => !s.faultIs block (code / 256) (code % 256))
      (enterFault block (code / 256) (code % 256)
        (if test then f.item % 16 * 2 ^ 16 + f.detail.toNat % 2 ^ 16 else f.detail.toNat))]

/-- A step from 1 to 3 fails: the slot fails R521, and the slot rules of R535 choose again (R502, R521). -/
def earlyStepFails (step : Nat) : Prog :=
  .seq (stepFailed step) (.dyn (fun s => match s.ptr with
    | none => romHalt
    | some p => .block [
        .act (.sec (fun x => { x with slots := modAt x.slots p.active (fun t => { t with verified := false }) })),
        bootChecked p,
        .act (.ctl (fun c => { c with started := [1], ended := [], stepMs := [] }))]))

/-- The bytes of a BIST record (Table 19.5). -/
def BistRec.bytes (r : BistRec) : List Byte :=
  withCrc (leBytes 4 0x54534942 ++ leBytes 4 r.seq.toNat ++ leBytes 1 r.result ++ leBytes 1 r.item ++
    leBytes 2 r.detail.toNat ++ leBytes 4 r.bundleId.toNat ++ leBytes 2 r.temp.toNat ++ List.replicate 42 0)

/-- What a copy of the BIST record says, where it is valid (Table 19.5). -/
def readRec (b : List Byte) : Option BistRec :=
  if recordValid 0x54534942 b then
    some { seq := BitVec.ofNat 32 (leAt b 4 4), result := byteAt b 8, item := byteAt b 9
           detail := BitVec.ofNat 16 (leAt b 10 2), bundleId := BitVec.ofNat 32 (leAt b 12 4)
           temp := BitVec.ofNat 16 (leAt b 16 2) }
  else none

/-- The valid BIST record copy with the higher SEQ (R557). -/
def currentRec (l : List (List Byte)) : Option Nat :=
  laterCopy ((readRec (l.getD 0 [])).map (·.seq)) ((readRec (l.getD 1 [])).map (·.seq))

/-- The BIST record in force, if any. -/
def State.bistRec (s : State) : Option BistRec := (currentRec s.hkp.recs).bind (fun i => readRec (s.hkp.recs.getD i []))

/-- Write a BIST record with the next SEQ into the other copy (R534, R556). -/
def writeRec (r : BistRec) : Prog :=
  .dyn (fun s =>
    let seq := match s.bistRec with | some q => q.seq + 1 | none => 1
    let target := match currentRec s.hkp.recs with | some 0 => 1 | _ => 0
    .act (.hkp (fun h => { h with recs := h.recs.set target ({ r with seq := seq } : BistRec).bytes })))

/-- Step 2 ends: HK0 reads the BIST record; a valid PASS record is consumed, else the interconnect test runs (R557). -/
def readBistRecord : Prog :=
  .dyn (fun s =>
    let r := s.bistRec
    let pass := match r, s.ptr with
      | some r, some p => r.result == 1 && r.bundleId.toNat == headBundleId (s.slot p.active).head
      | _, _ => false
    .block [
      .setFld F.HKP_BIST_RECORD (match r with | some r => r.result | none => 0),
      .setFld F.HKP_BIST_ITEM (match r with | some r => r.item | none => 0),
      .setFld F.HKP_BIST_DETAIL (match r with | some r => r.detail.toNat | none => 0),
      if pass then writeRec { r.getD {} with result := 3 }
      else .seq (.setFld F.HKP_BIST_RAN_AT_START 1) (.setFld F.CPX_START_BIST 1)])

/-- M3 to M6 take the components of a bundle (Table 18.4). -/
def measureComponents (head : List Byte) : Prog :=
  .each (List.range 4) (fun k => .act (.extend (3 + k) (headDigest head (measuredTypes.getD (k + 1) 0))))

/-- Step 3 ends: M3 to M7 take firmware and image, and the image is applied (R496, R520, Table 18.4). -/
def measureAndApply : Prog :=
  .dyn (fun s =>
    let head := (s.slot (match s.ptr with | some p => p.active | none => 0)).head
    .block [
      measureComponents head,
      measure 7 s.image.bytes,
      applyConfig])

/-- Step 4 ends: of the positions of a channel that the retirement record does not list, the two lowest are ranks 0 and
1 and the next one is the spare (R472, log entry 27). -/
def rankChannel (c : Nat) : Prog :=
  .dyn (fun s =>
    let l := (List.range 3).filter (fun p => !s.nvm.retired.contains (c, p))
    match l with
    | a :: b :: t => .block [
        .setFld (F.DMC_RANKMAP_LR0_POS c) a, .setFld (F.DMC_RANKMAP_LR1_POS c) b,
        .setFld (F.DMC_RANKMAP_SPARE_POS c) (t.head?.getD 3),
        .setFld (F.DMC_RANKMAP_RETIRED c) (bitSet ((List.range 3).filter (fun p => s.nvm.retired.contains (c, p))))]
    | _ => .seq (stepFailed 4) (.guard (fun s => !s.faultIs 0x1B 0x07 1) (dmcFault 1)))

/-- Step 7 starts: the valid store with the later SEQ, or FAULT (R455, R503). -/
def startTrims : Prog :=
  .dyn (fun s => match s.activeStore with
    | some i => .seq (useStore i) loadTrims
    | none => laterStepFails 7 { code := 0x0B21 })

/-- Step 7 fails at the end of a store: once more from the other store, then FAULT (R503). -/
def trimFails : Prog :=
  .dyn (fun s =>
    let other := 1 - s.ctl.trimPass
    let ok := s.storeValid (s.nvm.stores.getD other {})
    if s.ctl.trimTried || !ok then laterStepFails 7 { code := 0x0B22 }
    else .block [.act (.ctl (fun c => { c with trimTried := true })), useStore other, loadTrims])

/-- Pages were read: how many were corrected and how many could not be (R495, Table 17.16, Table 17.17). -/
def nvmPages (p : Nat × Nat) (t : Time) : Prog :=
  .block [.count F.NVM_ECC_CORR p.1, .count F.NVM_ECC_UNCORR p.2, .when (0 < p.1 + p.2) (.raiseAt 48 t)]

/-- What the end of a step does (R499, Table 17.11). -/
def stepEnds (step : Nat) (t : Time) : Prog :=
  match step with
  | 1 => .withFree (fun bad => .seq (.setFld F.NVM_STATUS_OCTAL 1) (.setFld F.NVM_STATUS_BAD_BLOCKS bad.toNat))
  | 2 => readBistRecord
  | 3 => measureAndApply
  | 4 => .each (List.range 4) rankChannel
  | 11 => .dyn (fun s => .block [
      .act (.ctl (fun c => { c with startDone := true })),
      .setFld F.CPX_START_STEP 11, .setFld F.CPX_START_FAILED 0,
      .each s.ctl.stepMs (fun p => .setFld (F.CPX_START_MS_MS (p.1 - 1)) (min p.2 65535)),
      .raiseAt 2 t])
  | _ => .nil

/-- The steps that may start now (R499). -/
def Control.startable (c : Control) : List Nat :=
  ((List.range 12).drop 1).filter (fun k => !c.ended.contains k && !c.started.contains k &&
    (stepDeps k).all c.ended.contains)

/-- Step 5 starts: every drive lane is enabled, and the lanes of each port that the fabric role enables (R304). -/
def startLanes (t : Time) : Prog :=
  .dyn (fun s =>
    .each (List.range 192 ++ ((List.range 6).filter (bitOf (s.fld F.FAB_ROLE_PORT_EN))).flatMap portLanes)
      (fun i => bringUpLane i t))

/-- Start every step whose dependencies have ended. -/
def startSteps (t : Time) : Prog :=
  .dyn (fun s =>
    let l := s.ctl.startable
    .seq (.act (.ctl (fun c => { c with started := c.started ++ l }))) (.seq (.when (l.contains 5) (startLanes t)) (.when (l.contains 7) startTrims)))

/-- A TRIM is waiting for its turn on a lane. -/
def DriveLane.trimsLeft (d : DriveLane) : Bool :=
  (d.service ++ d.busyItems).any (fun k => match k with | .trim _ => true | _ => false)

/-- The work of a step of Table 17.11 is done, as far as the state shows it: lanes ACTIVE, latencies calibrated, trims
sent, the aperture restored (R344), time lock, MEMBER. -/
def State.stepDone (s : State) : Nat → Bool
  | 5 => (List.range 192).all s.carries
  | 6 => s.pdl.lanes.all (·.bringL.isSome)
  | 7 => !s.pdl.lanes.any (·.trimsLeft)
  | 8 => s.flag F.APL_STATUS_RESTORED
  | 10 => s.timeLock
  | 11 => s.node == .member
  | _ => true

/-- A step runs and may end: RAW runs the ROM only and a halted ROM runs nothing (Table 18.1, R535). -/
def State.stepMayEnd (s : State) (step : Nat) : Bool :=
  s.ctl.started.contains step && !s.flag F.SEC_BOOT_HALT && (step == 1 || s.lc != .raw) && s.stepDone step

/-- START_STEP_END (R495, R499, R502, R503). -/
def execStartStepEnd (step : Nat) (fail : Option StepFail) (localMs : Nat) (pages : Nat × Nat) (stamp : Time) (s : State) :
    Host.Outcome State Fault Refusal :=
  .next ((Prog.dyn (fun s => match fail with
    | some f => .guard (fun s => s.ctl.started.contains step) (.seq (nvmPages pages stamp)
        (if f.code = 0x0B03 then laterStepFails step f
         else if step ≤ 3 then earlyStepFails step
         else if step = 7 then trimFails
         else laterStepFails step f))
    | none => .when (s.stepMayEnd step) (.block [
        .act (.ctl (fun c => { c with
          started := c.started.filter (fun k => k != step)
          ended := c.ended ++ [step]
          stepMs := c.stepMs ++ [(step, localMs)] })),
        nvmPages pages stamp, stepEnds step stamp, startSteps stamp]))).go s)

/-! ### The hand-over and the trial's end (R538, R541) -/

/-- ACTIVATION_HANDOVER (R520, R538) at V(ACT_FSN): M9 takes the manifest, M3 to M7 the new components; the CPX restart
follows, and TRIAL with its end. -/
def execActivationHandover (stamp : Time) (s : State) : Host.Outcome State Fault Refusal :=
  .next ((Prog.dyn (fun s => match s.cmt.armed with
    | none => .nil
    | some a =>
      let head := (s.slot s.sec.armedSlot).head
      .block [
        measure 9 ((head.drop 64).take (80 * byteAt head 5)),
        measureComponents head,
        measure 7 s.image.bytes,
        .act (.cmt (fun c => { c with armed := none })),
        .act (.sec (fun x => { x with trialFrom := some a.1, trialSince := stamp, commits := 0 })),
        cpxRestartProg stamp])).go s)

/-- TRIAL_TIMEOUT (R541). -/
def execTrialTimeout (s : State) : Host.Outcome State Fault Refusal :=
  .next ((Prog.guard (fun s => s.sec.upd == .trial || s.sec.trialFrom.isSome) fallBack).go s)

end Sys2Proof.Machine
end

