-- ==== Sys2Proof/Machine/Housekeeping.lean ====
section
/-! DEFINITION. Housekeeping: the sampling round, bands, supplies, the thermal shutdown, power-off and the end of the
shutdown BIST (R546 to R558). The housekeeping cores are in island AON and run on while the others are held in reset. -/

namespace Sys2Proof.Machine

/-- FAULT of the housekeeping block (Table 19.7). -/
def hkpFault (code detail : Nat) : Prog := .guard (fun s => !s.ctl.inReset) (enterFault 0x02 0x0B code detail)

/-- Nominal value of a supply channel in mV (Table 19.1). -/
def nominalMv : Nat → Int
  | 1 => 720
  | 2 => 800
  | 3 => 800
  | 4 => 850
  | 5 => 850
  | 6 => 1200
  | 7 => 1100
  | 8 => 1800
  | 9 => 3300
  | 10 => 600
  | _ => 0

/-- A reading lies more than `pct` percent from nominal (R549). -/
def beyond (pct : Int) (c : Nat) (v : BitVec 16) : Bool :=
  decide (pct * nominalMv c < 100 * ((v.toNat : Int) - nominalMv c).natAbs)

/-- The die band after a reading in 1/16 degree, hysteresis 2 degrees (R550, Table 19.2). -/
def dieBand (cur : Nat) (t : Int) : Nat := bandWith [1520, 1680] cur t

/-- A diode reading is implausible (R548). -/
def State.implausible (s : State) (r : BitVec 16) : Bool :=
  decide (r.toInt < -800) || decide (2400 < r.toInt) ||
  (match s.hkp.diode with | some p => decide (160 < (r.toInt - p.toInt).natAbs) | none => false)

/-- An accepted diode reading (R316, R547, R550, R551, Table 19.8). -/
def acceptDiode (r : BitVec 16) (t : Time) : Prog :=
  .dyn (fun s =>
    let cur := s.fld F.HKP_TEMP_BAND
    let band := dieBand cur r.toInt
    let hot := if 1760 ≤ r.toInt then s.hkp.hotRun + 1 else 0
    let top := s.hkp.maxFresh || decide ((BitVec.ofNat 16 (s.fld F.HKP_TEMP_MAX_T)).toInt < r.toInt)
    .block [
      .act (.hkp (fun h => { h with diode := some r, implausible := false, hotRun := hot, maxFresh := false })),
      .setFld (F.HKP_CH_VALUE 0) r.toNat, .setFld F.HKP_TEMP_T r.toNat, .setFld F.HKP_TEMP_VALID 1,
      .when top (.setFld F.HKP_TEMP_MAX_T r.toNat),
      .when (band != cur) (.seq (.setFld F.HKP_TEMP_BAND band) (.raiseAt 32 t)),
      recalCheck r.toInt,
      .when (hot == 3) (hkpFault 2 r.toNat)])

/-- The diode reading of a valid round (R548). -/
def takeDiode (r : BitVec 16) (t : Time) : Prog :=
  .dyn (fun s =>
    if s.implausible r then .block [
      .raiseAt 34 t,
      .when s.hkp.implausible (hkpFault 4 r.toNat),
      .act (.hkp (fun h => { h with implausible := true }))]
    else acceptDiode r t)

/-- A mask with bit `c` set or cleared. -/
def putBit (m : BitVec 16) (c : Nat) (b : Bool) : BitVec 16 :=
  if b then m ||| (1#16 <<< c) else m &&& ~~~(1#16 <<< c)

/-- The supply reading of a channel in a valid round (R549). -/
def takeSupply (c : Nat) (v : BitVec 16) (t : Time) : Prog :=
  .dyn (fun s =>
    let far := beyond 6 c v
    .block [
      .setFld (F.HKP_CH_VALUE c) v.toNat,
      .when (beyond 3 c v && !s.hkp.over3.getLsbD c)
        (.seq (.setFld F.HKP_SUPPLY_WARN (s.fld F.HKP_SUPPLY_WARN ||| 2 ^ (c - 1))) (.raiseAt 33 t)),
      .when (far && s.hkp.over6.getLsbD c) (hkpFault 1 c),
      .act (.hkp (fun h => { h with over3 := putBit h.over3 c (beyond 3 c v), over6 := putBit h.over6 c far }))])

/-- Channels 10 and 11 say that a round is invalid (R548). -/
def roundInvalid (l : List (BitVec 16)) : Bool :=
  decide (6 < ((l.getD 10 0).toInt - 600).natAbs) || decide (6 < (l.getD 11 0).toInt.natAbs)

/-- Channel 11 has been sampled: the round's readings count, or none does (R548, log entry 37). -/
def judgeRound (l : List (BitVec 16)) (t : Time) : Prog :=
  .dyn (fun s =>
    if roundInvalid l then .seq (.when s.hkp.invalidRound (hkpFault 5 (l.getD 10 0).toNat))
      (.act (.hkp (fun h => { h with invalidRound := true })))
    else .block [
      .act (.hkp (fun h => { h with invalidRound := false })),
      takeDiode (l.getD 0 0) t,
      .each ((List.range 10).drop 1) (fun c => takeSupply c (l.getD c 0) t),
      .setFld (F.HKP_CH_VALUE 10) (l.getD 10 0).toNat, .setFld (F.HKP_CH_VALUE 11) (l.getD 11 0).toNat])

/-- HOUSEKEEPING_SAMPLE (R546): the next channel of the round. -/
def execHousekeepingSample (value : BitVec 16) (stamp : Time) (s : State) : Host.Outcome State Fault Refusal :=
  .next ((Prog.dyn (fun s =>
    let c := s.hkp.channel
    let l := s.hkp.round ++ [value]
    if c < 15 then .block [
      .act (.hkp (fun h => { h with channel := c + 1, round := l })), .when (c == 11) (judgeRound l stamp)]
    else .block [
      .act (.hkp (fun h => { h with channel := 0, round := [] })),
      .when (!s.hkp.invalidRound) (.countWrap F.HKP_ROUND_COUNT 1)])).run s)

/-! ### Thermal shutdown (R552, R553) -/

/-- THERMAL_TRIP (R552, R558). -/
def execThermalTrip (s : State) : Host.Outcome State Fault Refusal :=
  .next ((Prog.block [
    bistStop false,
    .act (.hkp (fun h => { h with tripped := true })),
    .act (.apl (fun a => { a with lineIdle := true, line := none, wave := none, settling := false, stopped := true })),
    .act (.pins (fun p => { p with thermTripN := false, aplOut := [] })),
    .act (.sds (fun d => { d with lanes := d.lanes.map (fun _ => {}) })),
    .act (.ctl (fun c => { c with inReset := true }))]).run s)

/-- THERMAL_TRIP_RELEASE (R553): a cold reset with cause 0x03. -/
def execThermalTripRelease (s : State) : Host.Outcome State Fault Refusal :=
  .next ((Prog.guard (fun s => s.hkp.tripped) (coldResetProg 3)).run s)

/-! ### Power-off and the shutdown BIST (R554 to R556) -/

/-- POWER_OFF_REQUEST (R554, R575): a low pulse under 1 µs is ignored; the BIST runs unless BIST_EN is 0
or the comparator holds it off (R558). Housekeeping is in AON and runs on while other islands are in reset. -/
def execPowerOffRequest (widthNs : Nat) (s : State) : Host.Outcome State Fault Refusal :=
  .next ((Prog.when (decide (1000 ≤ widthNs)) (.seq (.act (.hkp (fun h => { h with pwrOff := true }))) (.dyn (fun s =>
    if s.hkp.bist.isSome then .nil
    else if s.flag F.HKP_CTRL_BIST_EN && !s.hkp.tripped then bistStart
    else powerOffAck)))).run s)

/-- What follows the BIST (R554): a power-off request decides. -/
def afterBist (t : Time) : Prog :=
  .dyn (fun s =>
    let warm := s.hkp.bistWarm
    .seq (.act (.hkp (fun h => { h with bist := none, bistWarm := none })))
      (if s.hkp.pwrOff then powerOffAck
       else match warm with
        | some c => warmResetAt c.toNat t
        | none => .nil))

/-- BIST_DONE (R554, R556, Tables 19.4a and 19.5): a record whose read-back fails is not written and the current one
stays, as R534 has it. -/
def execBistDone (failItem : Nat) (detail : BitVec 16) (readBackOk : Bool) (stamp : Time)
    (s : State) : Host.Outcome State Fault Refusal :=
  .next ((Prog.dyn (fun s => match s.hkp.bist with
    | none => .nil
    | some temp => .seq
        (match s.ptr with
         | none => .nil
         | some p => .when readBackOk (.seq
            (writeRec { result := if failItem = 0 then 1 else 2, item := failItem, detail := detail
                        bundleId := p.activeId, temp := temp })
            (.raiseAt 35 stamp)))
        (afterBist stamp))).go s)

end Sys2Proof.Machine
end

