-- ==== Sys2Proof/Machine/Management.lean ====
section
/-! DEFINITION. The management port below PMP and PTP: link, address, ARP and ICMP echo (R504). -/

namespace Sys2Proof.Machine

/-- The block's IPv4 address: the lease with DHCP, else MGT_IP (R504, Table 17.16). -/
def State.ipAddress (s : State) : Option Word :=
  if s.flag F.MGT_IPCFG_DHCP then s.ctl.lease.map (·.1) else some (s.reg R.MGT_IP)

/-- MGT_LINK_CHANGE (R504): only 1000 Mb/s is a link; a link that comes up under DHCP asks for an address (RFC 2131). -/
def execMgtLinkChange (up : Bool) (mbps : Nat) (s : State) : Host.Outcome State Fault Refusal :=
  .next ((Prog.dyn (fun s =>
    let now := up && mbps == 1000
    .when (now != s.ctl.mgtLink) (.block [
      .act (.ctl (fun c => { c with mgtLink := now })), .raise 56,
      .when (now && s.flag F.MGT_CTRL_ENABLE && s.flag F.MGT_IPCFG_DHCP) (.send (.mgmt 1 0 []))]))).go s)

/-- DHCP_REPLY_RECEIVE (R504): the address is leased. -/
def execDhcpReplyReceive (ip mask gateway : Word) (s : State) : Host.Outcome State Fault Refusal :=
  .next ((Prog.guard (fun s => s.mgtUp && s.flag F.MGT_IPCFG_DHCP) (.seq
    (.act (.ctl (fun c => { c with lease := some (ip, mask, gateway) }))) (.setFld F.MGT_STATUS_DHCP_BOUND 1))).go s)

/-- ARP_REQUEST_RECEIVE (R504): a request for this address is answered to its sender with the MAC address. -/
def execArpRequestReceive (sender target : Word) (s : State) : Host.Outcome State Fault Refusal :=
  .next ((Prog.guard (fun s => s.mgtUp && s.ipAddress == some target)
    (.dyn (fun s => .send (.mgmt 2 sender (leBytes 6 s.sec.fuses.mac.toNat))))).go s)

/-- ICMP_ECHO_REQUEST_RECEIVE (R504): an echo to this address is answered to its sender with its payload. -/
def execIcmpEchoRequestReceive (sender dst : Word) (payload : List Byte) (s : State) : Host.Outcome State Fault Refusal :=
  .next ((Prog.guard (fun s => s.mgtUp && s.ipAddress == some dst) (.send (.mgmt 3 sender payload))).go s)

end Sys2Proof.Machine
end

