-- ==== Sys2Proof/Machine/Sessions.lean ====
section
/-! DEFINITION. PMP sessions: handshake, records, closing and the byte stream over the fabric (R506 to R511). -/

namespace Sys2Proof.Machine

/-- Five seconds and a minute in 1/256 ns. -/
def fiveSeconds : Int := 5 * 1000000000 * 256
def oneMinute : Int := 60 * 1000000000 * 256

/-- PMP can reach the application cores by a transport: no CPX restart runs; the management port carries traffic (R487,
R504, R505). -/
def State.pmpReaches (s : State) (via : Option (BitVec 16 × BitVec 16)) : Bool :=
  !s.ctl.restarting && (via.isSome || s.mgtRuns)

/-- A session whose record arrives now. -/
def State.heardSession (s : State) (id : Nat) : Option PmpSession :=
  (s.ctl.sessions.find? (fun q => q.id == id)).filter (fun q => s.pmpReaches q.via)

/-- A session ends, with a calibration session that it drives (R450, log entry 30). -/
def endSession (id : Nat) (t : Time) (close : Prog) : Prog :=
  .seq (.guard (fun s => match s.met.cal with | some c => c.client == id | none => false) (calAbandon t)) close

/-- A session closes with a code (R508). -/
def closeWith (id code : Nat) (t : Time) : Prog := endSession id t (closeSession id code t)

/-- The signature of HELLO_REPLY: test keys in TEST; the attestation key is withheld in RETURN (R507, Table 18.1, log
entry 39). -/
def State.helloSign (s : State) (h : List Byte) : List Byte :=
  if s.lc == .provisioned || s.lc == .field then Config.dakSign h else Config.testSign h

/-- A HELLO is answered: DEVICE_RANDOM, the ML-KEM ciphertext, the certificate chain, SIG over H (R507). -/
def helloReply (id : Nat) (via : Option (BitVec 16 × BitVec 16)) (guest : Bool) (body : List Byte) (t : Time) : Prog :=
  .withRandom 32 (fun device => .withRandom 32 (fun coins => .dyn (fun s =>
    let kem := Config.mlkemEncaps (body.drop 36) coins
    let reply := device ++ kem.1 ++ leBytes 2 Config.dakChain.length ++ Config.dakChain
    let h := digestBytes (Config.sha3 (body ++ reply))
    let made : PmpSession := { id := id, via := via, guest := guest, helloAt := t, lastAt := t
                               txSeq := 1, keys := Config.shake256 (kem.2 ++ h) 80, transcript := h
                               rxOffset := if via.isSome then 16 + body.length else 0 }
    .seq (.act (.ctl (fun c => { c with sessions := c.sessions ++ [made] })))
      (sendRecord id 0x02 0 (reply ++ s.helloSign h) t))))

/-- A record header as it should be: MAGIC, VERSION, KIND, LENGTH (Table 17.12). -/
def headerGood (kind : Nat) (header body : List Byte) : Bool :=
  header.length == 16 && leAt header 0 2 == 0x4D50 && byteAt header 2 == 1 && byteAt header 3 == kind &&
  leAt header 4 4 == body.length

/-- RECORD_SEQ of a header (Table 17.12). -/
def recordSeq (header : List Byte) : Nat := leAt header 8 8

/-- Refuse a session before it is held: CLOSE with a code, to where the HELLO came from (R508, R509). -/
def refuseHello (id : Nat) (via : Option (BitVec 16 × BitVec 16)) (code : Nat) : Prog :=
  .seq (.send (.pmpRecord id 0x11 0 (leBytes 1 code)))
    (match via with
     | none => .nil
     | some v => sendPieces 5 v.1 v.2 0 true (pmpHeader 0x11 1 0 ++ leBytes 1 code))

/-- PMP_HELLO (R507 to R509): RAW and RETIRED hold no device key (Table 18.1). -/
def execPmpHello (via : Option (BitVec 16 × BitVec 16)) (guest : Bool) (header body : List Byte) (stamp : Time) (s : State) :
    Host.Outcome State Fault Refusal :=
  .next ((Prog.guard (fun s => s.pmpReaches via && s.lc != .raw && s.lc != .retired) (.dyn (fun s =>
    let id := s.ctl.nextSession
    .seq (.act (.ctl (fun c => { c with nextSession := c.nextSession + 1 })))
      (if 8 ≤ s.ctl.sessions.length then refuseHello id via 0x40
       else if !headerGood 1 header body || recordSeq header ≠ 0 || body.length ≠ 1604 then refuseHello id via 0x42
       else helloReply id via guest body stamp)))).go s)

/-- A record of the client has come: its bytes in the stream, its instant. -/
def PmpSession.heard (q : PmpSession) (body : List Byte) (t : Time) : PmpSession :=
  { q with rxSeq := q.rxSeq + 1, lastAt := max q.lastAt t
           rxOffset := if q.via.isSome then q.rxOffset + 16 + body.length else 0 }

/-- A FINISH verifies: certificate chain and signature over H and the chain (R507, R517). -/
def State.finishOk (s : State) (q : PmpSession) (plain : List Byte) : Bool :=
  let n := leAt plain 0 2
  let chain := (plain.drop 2).take n
  plain.length == 2 + n + 4627 &&
  Config.clientAuth chain (lcTest s.lc) (digestBytes (Config.sha3 (q.transcript ++ chain))) (plain.drop (2 + n))

/-- PMP_FINISH (R507, R508, Table 17.13). -/
def execPmpFinish (session : Nat) (header body : List Byte) (stamp : Time) (s : State) :
    Host.Outcome State Fault Refusal :=
  .next ((Prog.dyn (fun s => match s.heardSession session with
    | none => .nil
    | some q =>
      if q.opened || !headerGood 3 header body || recordSeq header ≠ 0 then closeWith session 0x42 stamp
      else if q.helloAt + fiveSeconds ≤ stamp then closeWith session 0x41 stamp
      else match q.openRecord 3 0 body with
        | none => closeWith session 0x42 stamp
        | some plain =>
          if s.finishOk q plain then .seq (modSession session (fun q => { q.heard body stamp with opened := true }))
            (.raiseAt 57 stamp)
          else closeWith session 0x41 stamp)).go s)

/-- The messages of a plaintext: SERVICE, OP, FLAGS, REQ_ID of each (R510); a tail that is no whole message is left. -/
def readMessages : Nat → List Byte → List (Nat × Nat × Nat × Word)
  | 0, _ => []
  | k + 1, b =>
    let n := leAt b 12 4
    if b.length < 16 || b.length < 16 + n then []
    else (leAt b 0 2, byteAt b 2, byteAt b 3, BitVec.ofNat 32 (leAt b 4 4)) :: readMessages k (b.drop (16 + n))

/-- A request arrives with the last part of its message: an unknown service and a 17th outstanding request are answered
at once (R511, R512). -/
def takeRequest (session : Nat) (t : Time) (m : Nat × Nat × Nat × Word) : Prog :=
  .dyn (fun s => match s.session session with
    | none => .nil
    | some q =>
      let answer (status : Nat) : Prog := .seq (sendMessage session m.1 m.2.1 1 m.2.2.2 status [] t)
        (.send (.response session m.2.2.2 (BitVec.ofNat 16 status) []))
      if bitOf m.2.2.1 0 || bitOf m.2.2.1 1 then .nil
      else if !knownService m.1 then answer 1
      else if 16 ≤ q.reqs.length then answer 4
      else modSession session (fun q => { q with
        lastAt := max q.lastAt t, reqs := q.reqs ++ [{ service := m.1, op := m.2.1, reqId := m.2.2.2 }] }))

/-- PMP_DATA_RECORD (R508, R510, R511): what a request then does is its own command. -/
def execPmpDataRecord (session : Nat) (header body : List Byte) (stamp : Time) (s : State) :
    Host.Outcome State Fault Refusal :=
  .next ((Prog.dyn (fun s => match s.heardSession session with
    | none => .nil
    | some q =>
      if !q.opened || !headerGood 0x10 header body || recordSeq header ≠ q.rxSeq || 16400 < body.length then
        closeWith session 0x42 stamp
      else match q.openRecord 0x10 q.rxSeq body with
        | none => closeWith session 0x42 stamp
        | some plain => .block [
            modSession session (fun q => q.heard body stamp),
            .each (readMessages plain.length plain) (takeRequest session stamp),
            sendEvents session stamp])).go s)

/-- PMP_CLOSE (R508). -/
def execPmpClose (session : Nat) (stamp : Time) (s : State) : Host.Outcome State Fault Refusal :=
  .next ((Prog.guard (fun s => (s.heardSession session).isSome)
    (endSession session stamp (dropSession session stamp))).go s)

/-- PMP_SESSION_TIMEOUT (R508): FINISH not within 5 s of HELLO, or no record for 60 s. -/
def execPmpSessionTimeout (session : Nat) (stamp : Time) (s : State) : Host.Outcome State Fault Refusal :=
  .next ((Prog.dyn (fun s => match s.ctl.sessions.find? (fun q => q.id == session) with
    | none => .nil
    | some q =>
      if !q.opened && decide (q.helloAt + fiveSeconds ≤ stamp) then closeWith session 0x41 stamp
      else if q.opened && decide (q.lastAt + oneMinute ≤ stamp) then closeWith session 0x43 stamp
      else .nil)).go s)

/-- The acknowledgement of what has been received in order: ACK with the cumulative offset (R509). -/
def sendAck (q : PmpSession) : Prog :=
  match q.via with
  | none => .nil
  | some v => sendUnicast 3 5 v.1 (streamPayload v.2 1 q.rxOffset [])

/-- What of a payload the client has not acknowledged. -/
def unackedPart (acked : Nat) (p : Time × Nat × List Byte) : Option (Time × Nat × List Byte) :=
  if p.2.1 + p.2.2.length ≤ acked then none
  else some (p.1, max p.2.1 acked, p.2.2.drop (acked - p.2.1))

/-- 50 ms have passed since a payload was sent (R509). -/
def resendDue (t : Time) (p : Time × Nat × List Byte) : Bool := decide (p.1 + 50 * 1000000 * 256 ≤ t)

/-- PMP_STREAM_ACK_TIMER (R509): the cumulative acknowledgement goes out; of the bytes that the client has not acknowledged
up to `acked`, those sent 50 ms ago go out again. -/
def execPmpStreamAckTimer (session acked : Nat) (stamp : Time) (s : State) : Host.Outcome State Fault Refusal :=
  .next ((Prog.dyn (fun s => match s.heardSession session with
    | none => .nil
    | some q => match q.via with
      | none => .nil
      | some v =>
        let left := q.unacked.filterMap (unackedPart acked)
        .block [
          sendAck q,
          modSession session (fun q => { q with
            unacked := left.map (fun p => if resendDue stamp p then (stamp, p.2) else p) }),
          .each (left.filter (resendDue stamp)) (fun p =>
            sendUnicast 3 5 v.1 (streamPayload v.2 0 p.2.1 p.2.2))])).go s)

end Sys2Proof.Machine
end

