-- ==== Sys2Proof/Machine/Security.lean ====
section
/-! DEFINITION. Quotes, the verification of a Sapling, and the life cycle (R515 to R519, R522, R523). -/

namespace Sys2Proof.Machine

/-! ### Quotes (R522) -/

/-- The signed head of the running bundle. -/
def State.activeHead (s : State) : List Byte := match s.ptr with | some p => (s.slot p.active).head | none => []

/-- Life-cycle states that quote (Table 18.1). -/
def lcQuotes (l : LcState) : Bool := l == .provisioned || l == .field

/-- The signed part of a quote (Table 18.5). -/
def State.quoteBytes (s : State) (nonce : List Byte) : List Byte :=
  leBytes 4 0x544F5551 ++ leBytes 1 1 ++ leBytes 1 (lcCode s.lc) ++ leBytes 2 ((s.here.map (·.toNat)).getD 0xFFFF) ++
  leBytes 4 s.S.toNat ++ leBytes 4 s.secVersion.toNat ++ nonce ++ digestBytes (Config.sha3 s.image.bytes) ++
  s.meas.flatMap digestBytes ++ leBytes 4 (headBundleId s.activeHead) ++ leBytes 2 (headFabricProto s.activeHead) ++
  leBytes 2 0

/-- A quote with the DAK certificate chain. -/
def State.quote (s : State) (nonce : List Byte) : List Byte :=
  s.quoteBytes nonce ++ Config.dakSign (s.quoteBytes nonce) ++ Config.dakChain

/-- QUOTE_REQUEST (R522): by the QUOTE service, or from a fabric address under PROTO 0x07. -/
def execQuoteRequest (req : PmpCtx) (fabricSrc : Option (BitVec 16 × BitVec 16)) (nonce : List Byte) (s : State) :
    Host.Outcome State Fault Refusal :=
  .next ((match fabricSrc with
    | some src => Prog.dyn (fun s => .when (nonce.length == 64)
        (sendPieces 7 src.1 src.2 0 true (if lcQuotes s.lc then s.quote nonce else leBytes 2 0x0A03)))
    | none => service 0x30 req (.dyn (fun s =>
        if nonce.length ≠ 64 then respond req 2 []
        else if lcQuotes s.lc then respond req 0 (s.quote nonce)
        else respond req 0x0A03 []))).go s)

/-! ### Admission of a Sapling (R523) -/

/-- The coordinate beyond a node port (Table 12.1). -/
def State.partnerAddr (s : State) (port : Nat) : Option (BitVec 16) :=
  s.here.bind (fun a =>
    let q := partnerXY (addrX a) (addrY a) port
    if inGrid q then some (nodeAddr q.1.toNat q.2.toNat) else none)

/-- The node may verify the Sapling beyond a port: step 9 passed, not in FAULT, the port ACTIVE, a coordinate there. -/
def State.verifies (s : State) (port : Nat) : Bool :=
  port < 4 && s.ctl.ended.contains 9 && s.node != .fault && (s.port port).st == .up && (s.partnerAddr port).isSome

/-- SAPLING_VERIFY (R523): a fresh nonce goes to the Sapling. -/
def execSaplingVerify (port : Nat) (stamp : Time) (s : State) : Host.Outcome State Fault Refusal :=
  .next ((Prog.guard (fun s => s.verifies port) (.withRandom 64 (fun nonce => .dyn (fun s =>
    match s.partnerAddr port with
    | none => .nil
    | some a => .seq (.act (.sec (fun x => { x with attest := putKey port (nonce, stamp) x.attest })))
        (streamOut 7 a nonce))))).go s)

/-- The bundles that the node holds: the heads of its verified slots. -/
def State.heldHeads (s : State) : List (List Byte) :=
  ((List.range 2).filter (fun i => (s.slot i).verified)).map (fun i => (s.slot i).head)

/-- 50 ms in 1/256 ns. -/
def fiftyMs : Int := 50 * 1000000 * 256

/-- M2 to M6 of a quote body (Table 18.5). -/
def quoteMeasures (body : List Byte) : List (BitVec 512) :=
  (List.range 5).map (fun k => BitVec.ofNat 512 (leAt body (144 + 64 * (k + 2)) 64))

/-- M2 to M6 that a manifest yields: each register extended once from zeros (R519, R520, R523). -/
def manifestMeasures (h : List Byte) : List (BitVec 512) :=
  measuredTypes.map (fun t => Config.sha3 (List.replicate 64 0 ++ digestBytes (headDigest h t)))

/-- The distance of two versions. -/
def versionGap (a b : Nat) : Nat := max a b - min a b

/-- The first check of R523 that a quote fails; 0 when every one passes. -/
def State.judgeQuote (s : State) (port : Nat) (body chain : List Byte) (t : Time) : Nat :=
  let nonceOk := match s.sec.attest.lookup port with
    | some e => (body.drop 16).take 64 == e.1 && decide (e.2 ≤ t) && decide (t < e.2 + fiftyMs)
    | none => false
  if !(body.length == 5803 && leAt body 0 4 == 0x544F5551 && byteAt body 4 == 1 && Config.quoteSigOk body chain) then 0x10
  else if !nonceOk then 0x11
  else if !(s.partnerAddr port == some (BitVec.ofNat 16 (leAt body 6 2))) then 0x12
  else if !(byteAt body 5 == 3 && s.heldHeads.any (fun h => decide (headSecVersion h ≤ leAt body 12 4))) then 0x13
  else if !(s.heldHeads.any (fun h => manifestMeasures h == quoteMeasures body) &&
      decide (versionGap (leAt body 1172 2) (headFabricProto s.activeHead) ≤ 1)) then 0x14
  else 0

/-- A VOUCH message (Table 14.6). -/
def vouchBytes (a : BitVec 16) : List Byte := leBytes 4 7 ++ leBytes 2 a.toNat ++ leBytes 2 0

/-- QUOTE_RECEIVE (R419, R523): VOUCH, or the failure is counted and named. A nonce serves for one quote. -/
def execQuoteReceive (port : Nat) (body chain : List Byte) (stamp : Time) (s : State) :
    Host.Outcome State Fault Refusal :=
  .next ((Prog.guard (fun s => s.verifies port) (.dyn (fun s =>
    let code := s.judgeQuote port body chain stamp
    let a := (s.partnerAddr port).getD 0
    .seq (.act (.sec (fun x => { x with attest := x.attest.filter (fun e => e.1 != port) })))
      (if code = 0 then .seq (sendUnicast 1 3 s.rootA (vouchBytes a)) (.raiseAt 18 stamp)
       else .block [
        .count F.SEC_ATTEST_FAIL_COUNT 1, .setFld F.SEC_ATTEST_FAIL_CODE code,
        .setFld F.SEC_ATTEST_NODE_ADDR a.toNat, .raiseAt 17 stamp])))).go s)

/-! ### The life cycle (R515, R516) -/

/-- The state of a target code (Table 18.1). -/
def lcOfCode : Nat → Option LcState
  | 0 => some .raw
  | 1 => some .test
  | 2 => some .provisioned
  | 3 => some .field
  | 4 => some .returned
  | 5 => some .retired
  | _ => none

/-- Who signs the token of a transition (Table 18.2): 0 manufacturing, 1 provisioning, 2 return, 3 owner. -/
def lcSigner : LcState → LcState → Nat
  | .provisioned, _ => 1
  | .field, .returned => 2
  | .field, _ => 3
  | .returned, _ => 2
  | _, _ => 0

/-- What a token's signature covers (R516). -/
def tokenBytes (t : LcToken) : List Byte := leBytes 1 t.target.toNat ++ t.uid ++ t.nonce ++ t.owner

/-- The 16 bytes of SEC_UID. -/
def State.uidBytes (s : State) : List Byte := s.sec.fuses.uid.flatMap (fun w => leBytes 4 w.toNat)

/-- The nonce of a token was issued within the last 60 s (R516). -/
def State.nonceFresh (s : State) (n : List Byte) (t : Time) : Bool :=
  n.length == 32 && s.sec.nonces.any (fun e => e.1 == n && decide (t - oneMinute ≤ e.2) && decide (e.2 < t))

/-- The status of a life-cycle request: OK, SEC_E_LC_STATE or SEC_E_LC_TOKEN (R516, log entry 34). -/
def State.judgeToken (s : State) (tok : LcToken) (t : Time) : Nat :=
  match lcOfCode tok.target.toNat with
  | none => 0x0A01
  | some n =>
    if !lcMove s.lc n then 0x0A02
    else if !(tok.uid == s.uidBytes && s.nonceFresh tok.nonce t && (n == .field) == (tok.owner.length == 64) &&
        (n == .field || tok.owner.isEmpty) && Config.tokenSigOk (lcSigner s.lc n) (tokenBytes tok) tok.signature) then 0x0A01
    else 0

/-- What is fused with a transition (Table 18.2): the initial security version is an open value. -/
def lcFuses (n : LcState) (tok : LcToken) : Prog :=
  match n with
  | .provisioned => .seq (.act (.sec (fun x => { x with fuses := { x.fuses with deviceSecret := true } })))
      (.withFree (fun w => .act (.fuseInitial w)))
  | .field => .act (.sec (fun x => { x with fuses := { x.fuses with ownerDigest := some tok.owner } }))
  | _ => .nil

/-- Requests by JTAG reach a device that opens it (Table 18.1). -/
def lcJtag (l : LcState) : Bool := l == .raw || lcTest l

/-- A life-cycle request is judged; a transition ends in a warm reset (R516); a refusal extends M14 (Table 18.4). -/
def lifecycleProg (req : PmpCtx) (tok : LcToken) : Prog :=
  .dyn (fun s =>
    let code := s.judgeToken tok req.stamp
    if code ≠ 0 then .block [
      .act (.extend 14 (Config.codeDigest code)), .raiseAt 16 req.stamp, respond req code []]
    else match lcOfCode tok.target.toNat with
      | none => .nil
      | some n => .block [
          .act (.sec (fun x => { x with nonces := x.nonces.filter (fun e => e.1 != tok.nonce) })),
          lcFuses n tok, .act (.lifecycle n), respond req 0 [], warmResetOpen])

/-- LIFECYCLE_TRANSITION (R515, R516): RAW to TEST through JTAG, the others also as a PMP request. -/
def execLifecycleTransition (req : PmpCtx) (jtag : Bool) (tok : LcToken) (s : State) :
    Host.Outcome State Fault Refusal :=
  .next ((if jtag then Prog.guard (fun s => lcJtag s.lc) (lifecycleProg req tok)
    else service 0x32 req (lifecycleProg req tok)).go s)

/-- LIFECYCLE_GET_NONCE (R516): a RAW device, which has no sessions, gives it through JTAG. -/
def execLifecycleGetNonce (req : PmpCtx) (s : State) : Host.Outcome State Fault Refusal :=
  .next ((Prog.dyn (fun s =>
    let give : Prog := .withRandom 32 (fun n => .seq
      (.act (.sec (fun x => { x with nonces := (n, req.stamp) :: x.nonces }))) (respond req 0 n))
    if s.lc = .raw then give else service 0x32 req give)).go s)

end Sys2Proof.Machine
end

