-- ==== Sys2Proof/Machine/Services.lean ====
section
/-! DEFINITION. The PMP services INFO, EVENT, REG, LOG, RESET, MEMBERSHIP, POLICY, BINDING, TILE_REACH, APERTURE and CONFIG
(R512, R513, Table 17.14). The spec names what an answer holds; the order and the widths of its fields are the model's
(log entry 32). -/

namespace Sys2Proof.Machine

/-! ### INFO, EVENT, REG, LOG, RESET -/

/-- INFO_GET (Table 17.14): device, coordinate, node and screen state, C, fabric time, active slot; C before any commit
and the slot without a boot-pointer record are open values. -/
def execInfoGet (req : PmpCtx) (s : State) : Host.Outcome State Fault Refusal :=
  .next ((service 0x01 req (.withFree (fun c => .withFree (fun k => .dyn (fun s => respond req 0
    (leBytes 4 (s.reg R.CPX_DEVICE_ID).toNat ++ leBytes 2 ((s.here.map (·.toNat)).getD 0xFFFF) ++
     leBytes 1 (nodeCode s.node) ++ leBytes 1 (screenCode s.cmt.screen) ++ leBytes 4 (s.ing.committed.getD c).toNat ++
     leBytes 4 (timeNs req.stamp).toNat ++ leBytes 1 (timeFrac req.stamp).toNat ++
     leBytes 1 (match s.ptr with | some p => p.active | none => k.toNat))))))).go s)

/-- EVENT_SUBSCRIBE (R493). -/
def execEventSubscribe (req : PmpCtx) (mask : BitVec 640) (s : State) : Host.Outcome State Fault Refusal :=
  .next ((service 0x02 req (.seq (modSession req.session (fun q => { q with subMask := mask })) (respond req 0 []))).go s)

/-- EVENT_UNSUBSCRIBE (R493): the session has no queue any more. -/
def execEventUnsubscribe (req : PmpCtx) (s : State) : Host.Outcome State Fault Refusal :=
  .next ((service 0x02 req (.seq (modSession req.session (fun q => { q with subMask := 0, events := [], lost := 0 }))
    (respond req 0 []))).go s)

/-- Read words one after another and answer them. -/
def readWords (req : PmpCtx) : Nat → Nat → List Word → Prog
  | 0, _, acc => respond req 0 (acc.flatMap (fun w => leBytes 4 w.toNat))
  | n + 1, off, acc => .seq (readProg off req.stamp) (.dyn (fun s => readWords req n (off + 4) (acc ++ s.bus.data.take 1)))

/-- REG_READ (Table 17.14): 1 to 256 aligned words. -/
def execRegRead (req : PmpCtx) (off count : Nat) (s : State) : Host.Outcome State Fault Refusal :=
  .next ((service 0x03 req (if count = 0 || 256 < count || off % 4 ≠ 0 then respond req 2 []
    else readWords req count off [])).go s)

/-- REG_WRITE (R10, R14, Table 17.14): in TEST and RETURN only. -/
def execRegWrite (req : PmpCtx) (writes : List (Nat × Word)) (s : State) : Host.Outcome State Fault Refusal :=
  .next ((service 0x03 req (.dyn (fun s =>
    if !lcTest s.lc then respond req 3 []
    else .seq (.each writes (fun w => writeProg w.1 4 w.2 req.stamp))
      (.guard (fun s => (s.session req.session).isSome) (respond req 0 []))))).go s)

/-- A byte of the log partition: of the retirement record's first MiB no layout is given, so its bytes are open values;
the rest is what has been written (Table 17.6, log entry 33). -/
def State.logByte (s : State) (i : Nat) : Byte :=
  if i < 1048576 then Config.freeByte (s.freeCount + i) else (s.nvm.log.lookup i).getD 0xFF

/-- LOG_READ (Table 17.14): within the log partition of 367 MiB. -/
def execLogRead (req : PmpCtx) (off len : Nat) (s : State) : Host.Outcome State Fault Refusal :=
  .next ((service 0x04 req (if 384827392 < off + len then respond req 2 []
    else .dyn (fun s => .seq (.act (.free 1048576)) (respond req 0 ((List.range len).map (fun i => s.logByte (off + i))))))).go s)

/-- RESET_WARM (R486, R488, R554): always obeyed; the shutdown BIST goes first. -/
def execResetWarm (req : PmpCtx) (s : State) : Host.Outcome State Fault Refusal :=
  .next ((service 0x05 req (.seq (respond req 0 []) (warmRequest 0x11 req.stamp))).go s)

/-- RESET_CPX_RESTART (R487). -/
def execResetCpxRestart (req : PmpCtx) (s : State) : Host.Outcome State Fault Refusal :=
  .next ((service 0x05 req (.seq (respond req 0 []) (cpxRestartProg req.stamp))).go s)

/-! ### MEMBERSHIP (R417, R421, R513) -/

/-- A node list as a message body. -/
def nodeListBytes (op : Nat) (l : List Nat) : List Byte := leBytes 1 op ++ l.flatMap (fun a => leBytes 2 a)

/-- Stage the image with new sets and issue the generation that has them (R420, R421, R513): X stays inside E, M inside E
and outside X. -/
def changeSets (req : PmpCtx) (e x : BitVec 32768) : Prog :=
  .dyn (fun s =>
    if s.cmt.next.isSome then respond req 0x0233 []
    else if s.stageFails (s.policySections s.policyWords e (x &&& e)) then respond req 0x0943 []
    else .block [
      stagePolicy s.policyWords e (x &&& e),
      .dyn (fun s => issueGen s.genNow e (x &&& e) (s.memberSets.2.2 &&& e &&& ~~~x) (s.cmt.gen.num == 0) [] req.stamp),
      respond req 0 []])

/-- Every address of a list is that of a node. -/
def nodeList (l : List Nat) : Bool := l.all (fun a => decide (a < 32768))

/-- MEMBERSHIP_ADD_X (R417, R421): the nodes must be expected. -/
def execMembershipAddX (req : PmpCtx) (nodes : List Nat) (s : State) : Host.Outcome State Fault Refusal :=
  .next ((screenWide 0x11 req (nodeListBytes 0 nodes) (.dyn (fun s =>
    let sets := s.memberSets
    if nodeList nodes && setOf nodes &&& ~~~sets.1 == 0 then changeSets req sets.1 (sets.2.1 ||| setOf nodes)
    else respond req 2 []))).go s)

/-- MEMBERSHIP_REMOVE_X (R421). -/
def execMembershipRemoveX (req : PmpCtx) (nodes : List Nat) (s : State) : Host.Outcome State Fault Refusal :=
  .next ((screenWide 0x11 req (nodeListBytes 1 nodes) (.dyn (fun s =>
    if nodeList nodes then changeSets req s.memberSets.1 (s.memberSets.2.1 &&& ~~~(setOf nodes))
    else respond req 2 []))).go s)

/-- MEMBERSHIP_CHANGE_E (R421). -/
def execMembershipChangeE (req : PmpCtx) (e : List Nat) (s : State) : Host.Outcome State Fault Refusal :=
  .next ((screenWide 0x11 req (nodeListBytes 2 e) (.dyn (fun s =>
    if nodeList e then changeSets req (setOf e) s.memberSets.2.1 else respond req 2 []))).go s)

/-! ### POLICY (R33, R35, R59, R421, R422, R425, R513) -/

/-- A word is one that the register takes (R13). -/
def encodes (off : Nat) (v : Word) : Bool :=
  match findReg off with
  | none => false
  | some row => !reservedWrite row v

/-- CMT_RATE of a policy. -/
def polRateWord (p : PolicyReq) : Word := BitVec.ofNat 32 (p.rate + 256 * boolNat p.anchorSrc)

/-- The limiter words of a policy, with their registers. -/
def polLimiter (p : PolicyReq) : List (Nat × Word) :=
  [(R.COL_LIMIT_CFG, p.limitCfg), (R.COL_PWR_BUDGET, p.budget), (R.COL_PWR_CEIL, p.ceil)]

/-- The request is well formed: every value but the offsets is one that its register takes. -/
def polWellFormed (p : PolicyReq) : Bool :=
  p.rate ≤ 5 && p.offsets.length == 5 && p.holdLimit < 2 ^ 16 && encodes R.CMT_HOLD_LIMIT (BitVec.ofNat 32 p.holdLimit) &&
  p.limitStart < 2 ^ 16 && encodes R.COL_LIMIT_START (BitVec.ofNat 32 p.limitStart) &&
  (polLimiter p).all (fun w => encodes w.1 w.2)

/-- What the policy gives each register that it names. -/
def polWords (p : PolicyReq) : List (Nat × Word) :=
  (([R.CMT_T_SCENE, R.CMT_T_AMEND, R.CMT_T_VOTE, R.CMT_T_COMMIT, R.CMT_T_LOCAL].zip p.offsets).map
    (fun x => (x.1, BitVec.ofNat 32 (unsignedOf 18 x.2)))) ++
  [(R.CMT_HOLD_LIMIT, BitVec.ofNat 32 p.holdLimit), (R.CMT_RATE, polRateWord p), (R.CMT_GENLOCK_OFS, p.genlockOfs),
   (R.COL_LIMIT_START, BitVec.ofNat 32 p.limitStart)] ++ polLimiter p

/-- A new anchor is needed: first generation, new rate, or another source or offset of the anchor (R422). -/
def State.reanchors (s : State) (p : PolicyReq) : Bool :=
  s.cmt.gen.num == 0 || p.rate != s.genNow.rate || p.anchorSrc != s.flag F.CMT_RATE_ANCHOR_SRC ||
  p.genlockOfs != s.reg R.CMT_GENLOCK_OFS

/-- The policy takes effect at the deciding node: anchor source and offset as a hardware load, the limiter at the next
commit, the rest by a generation (R420, R425). -/
def usePolicy (p : PolicyReq) (t : Time) : Prog :=
  .dyn (fun s =>
    let pol : Gen := { s.genNow with
      rate := p.rate, holdLimit := p.holdLimit, offsets := p.offsets, limitStart := p.limitStart }
    let sets := s.memberSets
    let again := s.reanchors p
    .block [
      .setFlag F.CMT_RATE_ANCHOR_SRC p.anchorSrc, .setReg R.CMT_GENLOCK_OFS p.genlockOfs,
      .each (polLimiter p) (fun w => writeProg w.1 4 w.2 t),
      issueGen pol sets.1 sets.2.1 sets.2.2 again [] t])

/-- The bytes of a policy on its way to the deciding node. -/
def polBytes (p : PolicyReq) : List Byte := (polWords p).flatMap (fun w => leBytes 4 w.2.toNat)

/-- POLICY_SET (R33, R35, R59, R421, R513). -/
def execPolicySet (req : PmpCtx) (p : PolicyReq) (s : State) : Host.Outcome State Fault Refusal :=
  .next ((screenWide 0x12 req (polBytes p) (.dyn (fun s =>
    let words := policyRegs.zipWith (fun r w => ((polWords p).lookup r).getD w) s.policyWords
    if !polWellFormed p then respond req 2 []
    else if !offsetsOk p.offsets || !sceneRoom p.rate (p.offsets.getD 0 0) then respond req 0x0231 []
    else if s.cmt.screen != .dark then respond req 0x0230 []
    else if s.cmt.next.isSome then respond req 0x0233 []
    else if s.stageFails (s.policySections words s.memberSets.1 s.memberSets.2.1) then respond req 0x0943 []
    else .block [
      stagePolicy words s.memberSets.1 s.memberSets.2.1,
      usePolicy p req.stamp,
      respond req 0 []]))).go s)

/-! ### BINDING, TILE_REACH, APERTURE, CONFIG -/

/-- BINDING_SET (R52): the two binding words, in effect at a swap instant under R40. -/
def execBindingSet (req : PmpCtx) (stream : Word) (source : Word) (s : State) : Host.Outcome State Fault Refusal :=
  .next ((screenWide 0x13 req (leBytes 4 stream.toNat ++ leBytes 4 source.toNat)
    (if encodes R.ING_STREAM stream && encodes R.ING_SOURCE source then .block [
      writeProg R.ING_STREAM 4 stream req.stamp, writeProg R.ING_SOURCE 4 source req.stamp, respond req 0 []]
    else respond req 2 [])).go s)

/-- TILE_REACH_GET (R89): p, the two angles, S_H, S_V, the pose; the angles go out in degrees, correctly rounded to
binary32 (log entry 42). -/
def execTileReachGet (req : PmpCtx) (s : State) : Host.Outcome State Fault Refusal :=
  .next ((service 0x14 req (.dyn (fun s =>
    let v := s.binView
    let angle (k : Nat) : F32 := reachDegrees (fabs (s.grv.maxSlope.getD k 0))
    respond req 0 (([v.p, angle 0, angle 1, v.sh, v.sv] ++ v.pose).flatMap (fun w => leBytes 4 w.toNat))))).go s)

/-- The service status for a row of Table 11.4. -/
def aplStatus (code : Nat) : Nat := if code = 0 then 0 else if code = 4 then 4 else 2

/-- One node's rectangle is judged as Table 11.4 states, its contents in the request; contents of the wrong length are a bad
request (R337). -/
def aplUpdate (req : PmpCtx) (fsn : Fsn) (rect : Word) (bits : List Byte) : Prog :=
  .dyn (fun s =>
    let code := s.judge rect true
    if code ≠ 0 then .seq (.raiseAt 410 req.stamp) (respond req (aplStatus code) (leBytes 1 code))
    else if bits.length ≠ (rectKH rect + 1) * rowSize rect then respond req 2 []
    else .seq
      (acceptRequest { seq := 0, rect := rect, fsn := fsn, immediate := false, buf := 0 } bits)
      (respond req 0 (leBytes 4 s.apl.nextSeq.toNat)))

/-- A node's part of a screen rectangle on its way; every part has the same START_FSN (R338, log entry 49). -/
def aplPartBytes (fsn : Fsn) (p : BitVec 16 × Word × List Byte) : List Byte :=
  leBytes 2 p.1.toNat ++ leBytes 4 p.2.1.toNat ++ leBytes 4 fsn.toNat ++ p.2.2

/-- The deciding node sends each other node its part of a screen rectangle and judges its own (R338, Table 17.14). -/
def aplScreen (req : PmpCtx) (fsn : Fsn) (parts : List (BitVec 16 × Word × List Byte)) : Prog :=
  .dyn (fun s => .seq
    (.each (parts.filter (fun p => s.here != some p.1)) (fun p =>
      streamOut 5 p.1 (leBytes 2 0x15 ++ leBytes 4 req.reqId.toNat ++ aplPartBytes fsn p)))
    (match s.here.bind (fun a => parts.lookup a) with
     | some p => aplUpdate req fsn p.1 p.2
     | none => respond req 0 []))

/-- APERTURE_UPDATE (R336 to R338): on this node, or as a screen-wide request on a screen rectangle. -/
def execApertureUpdate (req : PmpCtx) (fsn : Fsn) (on : AplTarget) (s : State) : Host.Outcome State Fault Refusal :=
  .next ((match on with
    | .node rect bits => service 0x15 req (aplUpdate req fsn rect bits)
    | .screen parts => screenWide 0x15 req (parts.flatMap (aplPartBytes fsn)) (aplScreen req fsn parts)).go s)

/-- A record as the REGINIT section holds it. -/
def initRecBytes (r : InitRec) : List Byte := leBytes 4 r.1 ++ leBytes 4 r.2.1.toNat ++ leBytes 4 r.2.2.toNat

/-- A record of a request passes the rules of its register (R13, R496, R513). -/
def State.recordLive (s : State) (r : InitRec) : Bool :=
  recordOk r && encodes r.1 ((s.reg r.1 &&& ~~~r.2.1) ||| (r.2.2 &&& r.2.1))

/-- CONFIG_CHANGE (R513): the records join the REGINIT section of a new image and are then written. -/
def execConfigChange (req : PmpCtx) (records : List (Nat × Word × Word)) (staged : Bool) (s : State) :
    Host.Outcome State Fault Refusal :=
  .next ((service 0x16 req (.dyn (fun s =>
    let secs := putSection 1 (sectionBody s.image.sections 1 ++ records.flatMap initRecBytes) s.image.sections
    if !records.all s.recordLive then respond req 2 []
    else if !staged || s.stageFails secs then respond req 0x0943 []
    else .block [
      stageSections secs,
      .each records (writeRecord req.stamp),
      respond req 0 []]))).go s)

end Sys2Proof.Machine
end

