-- ==== Sys2Proof/Machine/Update.lean ====
section
/-! DEFINITION. Firmware update: offers, the guard, blocks, verification, status, activation requests and the two guard
flags (R524 to R532, R536). -/

namespace Sys2Proof.Machine

/-! ### The signed head (R524) -/

/-- Blocks of a bundle (R530). -/
def headBlocks (h : List Byte) : Nat := (leAt h 16 8 + 65535) / 65536

/-- A manifest entry is well formed in a bundle whose head has `n` bytes. -/
def entryOk (n len : Nat) (e : List Byte) : Bool :=
  1 ≤ byteAt e 0 && byteAt e 0 ≤ 6 && leAt e 1 3 == 0 && leAt e 12 4 == 0 && n ≤ leAt e 4 4 && leAt e 4 4 + leAt e 8 4 ≤ len

/-- A head is well formed: fields, reserved bytes, LENGTH, required components, a CRC for each block (Tables 18.6, 18.7,
R526 step 3). -/
def headFormOk (h : List Byte) (crcs : List Word) : Bool :=
  let types := (headEntries h).map (fun e => byteAt e 0)
  leAt h 0 4 == 0x4C444E42 && byteAt h 4 == 1 && (byteAt h 5 == 5 || byteAt h 5 == 6) && headBundleId h != 0 &&
  leAt h 16 8 ≤ 263066746 && leAt h 28 36 == 0 && h.length == 64 + 80 * byteAt h 5 + leAt h 24 4 + 4627 &&
  (headEntries h).all (entryOk h.length (leAt h 16 8)) && [1, 2, 3, 4, 5].all types.contains &&
  types.all (fun t => (types.filter (· == t)).length == 1) && crcs.length == headBlocks h

/-- The index of the update journal's copy in use: the one with the higher sequence number (R530). -/
def State.updIndex (s : State) : Nat :=
  if laterFsn (s.sec.journal.getD 1 {}).seq (s.sec.journal.getD 0 {}).seq then 1 else 0

/-- The copy in use (R530). -/
def State.updCopy (s : State) : UpdCopy := s.sec.journal.getD s.updIndex {}

/-- The verified-block bitmap (R530). -/
def State.bitmap (s : State) : List Nat := s.updCopy.blocks

/-- Record verified blocks in the other copy, with the next sequence number (R530). -/
def writeBitmap (head : List Byte) (blocks : List Nat) : Prog :=
  .dyn (fun s => .act (.sec (fun x => { x with
    journal := x.journal.set (1 - s.updIndex) { seq := s.updCopy.seq + 1, blocks := blocks, head := head } })))

/-- The slot that does not run. -/
def State.idleSlot (s : State) : Nat := match s.ptr with | some p => 1 - p.active | none => 1

/-- NODE of the optional configuration image, where the inactive slot already holds its header (R526 step 7, log entry
35). -/
def State.headNodeOk (s : State) (h : List Byte) : Bool :=
  match headComponent h 6 with
  | none => true
  | some c =>
    let first := c.1 / 65536
    let last := (c.1 + 19) / 65536
    if s.updCopy.head == h && s.bitmap.contains first && s.bitmap.contains last then
      leNat ((s.slot s.idleSlot).read (c.1 + 18) 2) == s.fld F.FAB_EXPECT_ADDR
    else true

/-! ### The guard and the judgement of an offer (R526, R527) -/

/-- The guard's code, 0 for clear (Table 18.8). -/
def State.guardCode (s : State) : Nat :=
  if s.cmt.screen == .show && s.sec.onAir then 2
  else if s.sec.updLock then 3
  else if !s.pins.tilePg then 4
  else if s.guardThermal then 5
  else 0

/-- Steps 2 to 7 of R526: the first code that applies, 0 for none. -/
def State.judgeHead (s : State) (h : List Byte) (crcs : List Word) : Nat :=
  if s.guardCode ≠ 0 then s.guardCode
  else if !headFormOk h crcs then 6
  else if !Config.bundleSigOk h then 7
  else if headSecVersion h < s.secVersion.toNat || (s.secVersion.toNat < headSecVersion h && s.advancesLeft == 0) then 8
  else if 1 < versionGap (headFabricProto h) (headFabricProto s.activeHead) then 9
  else if !s.headNodeOk h then 6
  else 0

/-- The holder's session has closed, less than 60 s ago, and the offer repeats its head: it resumes (R525). -/
def UpdSession.resumes (u : UpdSession) (h : List Byte) (t : Time) : Bool :=
  u.head == h && (match u.closedAt with | some c => decide (t < c + oneMinute) | none => false)

/-- The code of an offer (R526). -/
def State.judgeOffer (s : State) (h : List Byte) (crcs : List Word) (t : Time) : Nat :=
  match s.sec.session with
  | some u => if u.resumes h t then s.judgeHead h crcs else 1
  | none => s.judgeHead h crcs

/-- A refusal of the update service: ERR and EV_SEC_UPD_REFUSED (Tables 18.15, 18.16). -/
def updRefused (code : Nat) (t : Time) : Prog := .seq (reportUpd code) (.raiseAt 20 t)

/-- All blocks of the offer are verified: the whole bundle is verified now, else blocks arrive (R530, R532). -/
def downloadState : Prog :=
  .dyn (fun s => match s.sec.session with
    | none => .nil
    | some u => setUpd (if headBlocks u.head ≤ s.bitmap.length then .verifying else .downloading))

/-- SEC_UPD_BLOCKS.VERIFIED counts the blocks of the bitmap that the running update has (Table 18.15). -/
def loadVerified : Prog := .dyn (fun s => .setFld F.SEC_UPD_BLOCKS_VERIFIED s.bitmap.length)

/-- The offer takes the lock; the bitmap stands for the same head only (R525, R530). -/
def takeLock (u : UpdSession) : Prog :=
  .block [
    .act (.sec (fun x => { x with session := some u })),
    .dyn (fun s => .when (s.updCopy.head != u.head) (writeBitmap u.head [])),
    .setReg R.SEC_UPD_ID (BitVec.ofNat 32 (headBundleId u.head)),
    loadVerified, downloadState]

/-- The nodes of a rectangle (Table 12.4). -/
def rectNodes (r : Word) : List (BitVec 16) :=
  (List.range 256).flatMap (fun x => (List.range 128).filterMap (fun y =>
    if rectHolds r x y then some (nodeAddr x y) else none))

/-- An offer on its way to a target; the spec gives this message no layout (log entry 36). -/
def offerBytes (h : List Byte) (crcs : List Word) : List Byte :=
  leBytes 4 1 ++ leBytes 4 h.length ++ h ++ crcs.flatMap (fun c => leBytes 4 c.toNat)

/-- UPDATE_OFFER (R525 to R527, R531): an accepted offer is relayed to every other node of the rectangle. -/
def execUpdateOffer (req : PmpCtx) (rect : Word) (head : List Byte) (crcs : List Word) (s : State) :
    Host.Outcome State Fault Refusal :=
  .next ((service 0x31 req (.dyn (fun s =>
    let code := s.judgeOffer head crcs req.stamp
    if code ≠ 0 then .seq (updRefused code req.stamp) (respond req (0x0900 + code) [])
    else
      let u : UpdSession := { session := some req.session, source := s.here.getD 0, rect := rect, head := head, crcs := crcs
                              reqId := req.reqId }
      .block [
        takeLock u,
        .each ((rectNodes rect).filter (fun a => s.here != some a)) (fun a => streamOut 6 a (offerBytes head crcs)),
        respond req 0 []]))).go s)

/-- UPDATE_OFFER_RELAY_RECEIVE (R531): the lock is held in the distributing node's name. -/
def execUpdateOfferRelayReceive (src : BitVec 16) (head : List Byte) (crcs : List Word) (stamp : Time)
    (s : State) : Host.Outcome State Fault Refusal :=
  .next ((Prog.dyn (fun s =>
    let code := s.judgeOffer head crcs stamp
    if code ≠ 0 then updRefused code stamp
    else takeLock { session := none, source := src, head := head, crcs := crcs })).go s)

/-! ### Blocks (R530, R531) -/

/-- A slot with bytes programmed from an offset, an unlisted byte reading 0xFF (R530). -/
def Slot.program (t : Slot) (a : Nat) (d : List Byte) : Slot :=
  { t with bytes := t.bytes.filter (fun c => c.1 < a) ++
      (d.zipIdx.filterMap (fun p => if p.1 = 0xFF then none else some (a + p.2, p.1))) ++
      t.bytes.filter (fun c => a + d.length ≤ c.1) }

/-- A BLOCK packet (R531). -/
def blockBytes (id : Word) (block chunk : Nat) (data : List Byte) : List Byte :=
  leBytes 1 2 ++ leBytes 3 0 ++ leBytes 4 id.toNat ++ leBytes 2 block ++ leBytes 1 chunk ++ leBytes 5 0 ++ data

/-- Chunk `i` of a block, zero-padded. -/
def chunkOf (d : List Byte) (i : Nat) : List Byte :=
  let part := (d.drop (1024 * i)).take 1024
  part ++ List.replicate (1024 - part.length) 0

/-- Send a block as 64 BLOCK packets in a mode: 0 to a node, 1 to a rectangle (R531). -/
def sendBlock (mode : Nat) (dst : Word) (id : Word) (block : Nat) (d : List Byte) : Prog :=
  .each (List.range 64) (fun i => originate 3 mode 6 false dst (blockBytes id block i (chunkOf d i)))

/-- Bytes of a block of a bundle (R530). -/
def blockLength (h : List Byte) (block : Nat) : Nat := min 65536 (leAt h 16 8 - 65536 * block)

/-- The chunks of a block after one more. -/
def addChunk (l : List (Nat × List (Nat × List Byte))) (block chunk : Nat) (d : List Byte) :
    List (Nat × List (Nat × List Byte)) :=
  putKey block (putKey chunk d ((l.lookup block).getD [])) l

/-- A verified block is programmed and recorded; the first one of a download overwrites what the slot held. The
distributing node sends it on (R530, R531). -/
def programBlock (u : UpdSession) (block : Nat) (d : List Byte) : Prog :=
  .dyn (fun s => .block [
    .act (.sec (fun x => { x with
      slots := modAt x.slots s.idleSlot (fun t =>
        (if s.bitmap.isEmpty then ({} : Slot) else { t with verified := false }).program (65536 * block) d) })),
    writeBitmap u.head (insertNat block s.bitmap),
    loadVerified,
    .when u.session.isSome (sendBlock 1 u.rect (BitVec.ofNat 32 (headBundleId u.head)) block d),
    downloadState])

/-- All 64 chunks of a block are there: its CRC-32C decides (R530). -/
def judgeBlock (u : UpdSession) (block : Nat) (chunks : List (Nat × List Byte)) : Prog :=
  let d := ((List.range 64).flatMap (fun i => (chunks.lookup i).getD [])).take (blockLength u.head block)
  .seq (.act (.sec (fun x => { x with session := x.session.map (fun v =>
      { v with chunks := v.chunks.filter (fun c => c.1 != block) }) })))
    (if crc32c d = u.crcs.getD block 0 then programBlock u block d else .count F.SEC_UPD_BLOCKS_BLOCK_ERR 1)

/-- UPDATE_BLOCK_RECEIVE (R530, R531). -/
def execUpdateBlockReceive (bundleId : Word) (block : Nat) (chunk : Nat) (data : List Byte) (s : State) :
    Host.Outcome State Fault Refusal :=
  .next ((Prog.dyn (fun s => match s.sec.session with
    | none => .nil
    | some u =>
      if s.sec.upd != .downloading || bundleId.toNat != headBundleId u.head || headBlocks u.head ≤ block ||
          s.bitmap.contains block || 64 ≤ chunk || data.length != 1024 then .nil
      else
        let chunks := addChunk u.chunks block chunk data
        .seq (.act (.sec (fun x => { x with session := x.session.map (fun v => { v with chunks := chunks }) })))
          (.when (((chunks.lookup block).getD []).length == 64) (judgeBlock u block ((chunks.lookup block).getD []))))).go s)

/-! ### Verification and release (R525, R532) -/

/-- The code with which the whole bundle fails (R526, R532); a configuration image for another node is judged here at the
latest (log entry 35). -/
def State.judgeBundle (s : State) (u : UpdSession) : Nat :=
  let t := s.slot s.idleSlot
  if !(t.read 0 u.head.length == u.head && Config.bundleSigOk (t.read 0 u.head.length) && componentsOk t u.head) then 0x0A
  else if !s.headNodeOk u.head then 6
  else 0

/-- BUNDLE_VERIFY_DONE (R525, R532): STAGED releases the lock; a failure erases the slot and the bitmap. -/
def execBundleVerifyDone (s : State) : Host.Outcome State Fault Refusal :=
  .next ((Prog.guard (fun s => s.sec.upd == .verifying) (.dyn (fun s => match s.sec.session with
    | none => .nil
    | some u =>
      let code := s.judgeBundle u
      if code = 0 then .block [
        .act (.sec (fun x => { x with
          slots := modAt x.slots s.idleSlot (fun t => { t with verified := true, headLen := u.head.length })
          session := none })),
        setUpd .staged]
      else .block [
        reportUpd code,
        .act (.sec (fun x => { x with slots := x.slots.set s.idleSlot {} })),
        writeBitmap u.head [], loadVerified, setUpd .downloading]))).go s)

/-- The lock is released before the bundle is staged (R525). -/
def releaseLock : Prog := .seq (.act (.sec (fun x => { x with session := none }))) (setUpd .idle)

/-- UPDATE_ABANDON (R525): only the holder abandons. -/
def execUpdateAbandon (req : PmpCtx) (s : State) : Host.Outcome State Fault Refusal :=
  .next ((service 0x31 req (.dyn (fun s =>
    if (s.sec.session.bind (·.session)) = some req.session then .seq releaseLock (respond req 0 [])
    else respond req 2 []))).go s)

/-- UPDATE_LOCK_TIMEOUT (R525). -/
def execUpdateLockTimeout (stamp : Time) (s : State) : Host.Outcome State Fault Refusal :=
  .next ((Prog.dyn (fun s => match s.sec.session.bind (·.closedAt) with
    | some t => .when (decide (t + oneMinute ≤ stamp)) releaseLock
    | none => .nil)).go s)

/-! ### Status (R531) -/

/-- The lowest block that is missing. -/
def lowestMissing (n : Nat) (bitmap : List Nat) : Nat :=
  ((List.range n).find? (fun k => !bitmap.contains k)).getD n

/-- BUNDLE_ID of the verified bundle in the inactive slot, 0 for none: STAGED (Table 18.9, R543, log entry 43). -/
def State.stagedId (s : State) : Nat :=
  if (s.slot s.idleSlot).verified then headBundleId (s.slot s.idleSlot).head else 0

/-- A STATUS message; the spec gives it no layout (log entry 36). -/
def State.statusBytes (s : State) : List Byte :=
  let n := match s.sec.session with | some u => headBlocks u.head | none => 0
  leBytes 4 3 ++ leBytes 2 (s.here.getD 0).toNat ++ leBytes 1 (updCode s.sec.upd) ++ leBytes 1 s.guardCode ++
  leBytes 2 s.bitmap.length ++ leBytes 2 (lowestMissing n s.bitmap) ++ leBytes 4 s.stagedId ++
  leBytes 4 (headBundleId s.activeHead)

/-- UPDATE_STATUS_SEND (R531, R536): to the distributing node, and to the deciding node, which judges activations. -/
def execUpdateStatusSend (s : State) : Host.Outcome State Fault Refusal :=
  .next ((Prog.guard (fun s => s.here.isSome) (.dyn (fun s =>
    let b := s.statusBytes
    let dist := s.sec.session.map (·.source)
    .seq (match dist with | some a => streamOut 6 a b | none => .nil)
      (.when (dist != some s.rootA) (streamOut 6 s.rootA b))))).go s)

/-- The states of the targets that have reported, node and state of each. -/
def reportBytes (l : List UpdReport) : List Byte :=
  l.flatMap (fun r => leBytes 2 r.node.toNat ++ leBytes 1 r.state ++ leBytes 1 0)

/-- UPDATE_STATUS_RECEIVE (R531): the report is kept; the distributing node sends the lowest missing block by unicast and
answers the client with the state of every target. -/
def execUpdateStatusReceive (st : UpdReport) (s : State) : Host.Outcome State Fault Refusal :=
  .next ((Prog.seq (.act (.sec (fun x => { x with reports := st :: x.reports.filter (fun r => r.node != st.node) })))
    (.dyn (fun s => match s.sec.session with
      | none => .nil
      | some u => match u.session with
        | none => .nil
        | some id => .block [
            .when (st.state == 1 && s.bitmap.contains st.lowest && decide (st.lowest < headBlocks u.head))
              (sendBlock 0 (BitVec.ofNat 32 st.node.toNat) (BitVec.ofNat 32 (headBundleId u.head)) st.lowest
                ((s.slot s.idleSlot).read (65536 * st.lowest) (blockLength u.head st.lowest))),
            .when (s.session id).isSome (.send (.response id u.reqId 0 (reportBytes s.sec.reports)))]))).go s)

/-! ### Activation (R536) -/

/-- The report of a node within the last second (R536). -/
def State.freshReport (s : State) (a : Nat) (t : Time) : Option UpdReport :=
  s.sec.reports.find? (fun r => r.node.toNat == a && decide (t - 256000000000 ≤ r.stamp) && decide (r.stamp < t))

/-- The code of one node of M for an activation, 0 where it is ready. -/
def State.nodeReady (s : State) (id : Word) (t : Time) (a : Nat) : Nat :=
  match s.freshReport a t with
  | none => 0x0B
  | some r => if r.active == id then 0 else if r.staged == id then r.guardCode else 0x0B

/-- The first code that stops an activation, in rising order of node address, 0 for none (R536). -/
def State.judgeActivate (s : State) (id : Word) (t : Time) : Nat :=
  (((setNodes s.cmt.gen.m).map (s.nodeReady id t)).find? (· != 0)).getD 0

/-- UPDATE_ACTIVATE (R423, R536): ACT_FSN = S + 64; one activation runs at a time. -/
def execUpdateActivate (req : PmpCtx) (bundleId : Word) (s : State) : Host.Outcome State Fault Refusal :=
  .next ((screenWide 0x31 req (leBytes 1 0 ++ leBytes 4 bundleId.toNat) (.dyn (fun s =>
    let code := s.judgeActivate bundleId req.stamp
    if code ≠ 0 then .seq (updRefused code req.stamp) (respond req (0x0900 + code) [])
    else if s.cmt.decider.actReq.isSome then respond req 4 []
    else .seq (modDecider (fun d => { d with actReq := some (s.S + 64, bundleId), actCarried := false }))
      (respond req 0 [])))).go s)

/-! ### ON_AIR and UPDATE_LOCK (R528) -/

/-- ON_AIR_SET: taken at a swap instant under R40. -/
def execOnAirSet (req : PmpCtx) (s : State) : Host.Outcome State Fault Refusal :=
  .next ((screenWide 0x31 req (leBytes 1 1) (.seq
    (.act (.sec (fun x => { x with onAirNext := some (true, req.stamp) }))) (respond req 0 []))).go s)

/-- ON_AIR_CLEAR. -/
def execOnAirClear (req : PmpCtx) (s : State) : Host.Outcome State Fault Refusal :=
  .next ((screenWide 0x31 req (leBytes 1 2) (.seq
    (.act (.sec (fun x => { x with onAirNext := some (false, req.stamp) }))) (respond req 0 []))).go s)

/-- UPDATE_LOCK_SET: this node's flag. -/
def execUpdateLockSet (req : PmpCtx) (s : State) : Host.Outcome State Fault Refusal :=
  .next ((service 0x31 req (.seq (.act (.sec (fun x => { x with updLock := true }))) (respond req 0 []))).go s)

/-- UPDATE_LOCK_CLEAR. -/
def execUpdateLockClear (req : PmpCtx) (s : State) : Host.Outcome State Fault Refusal :=
  .next ((service 0x31 req (.seq (.act (.sec (fun x => { x with updLock := false }))) (respond req 0 []))).go s)

end Sys2Proof.Machine
end

