-- ==== Sys2Proof/Machine/Dispatch.lean ====
section
/-! DEFINITION. One arm for each command: its meaning, or its rejection by name. -/

namespace Sys2Proof.Machine

def exec (i : Instr) (s : State) : Host.Outcome State Fault Refusal :=
  match i with
  | .powerOn => Sys2Proof.Machine.execPowerOn s
  | .sysResetAssert widthNs => Sys2Proof.Machine.execSysResetAssert widthNs s
  | .coldReset cause => Sys2Proof.Machine.execColdReset cause s
  | .warmReset cause stamp => Sys2Proof.Machine.execWarmReset cause stamp s
  | .startStepEnd step fail localMs pages stamp => Sys2Proof.Machine.execStartStepEnd step fail localMs pages stamp s
  | .registerWrite off size value stamp => Sys2Proof.Machine.execRegisterWrite off size value stamp s
  | .lockSet block => Sys2Proof.Machine.execLockSet block s
  | .pairLowRead off size stamp => Sys2Proof.Machine.execPairLowRead off size stamp s
  | .epochCRead => Sys2Proof.Machine.execEpochCRead s
  | .counterReadClear off size stamp => Sys2Proof.Machine.execCounterReadClear off size stamp s
  | .registerAccessTimeout off write => Sys2Proof.Machine.execRegisterAccessTimeout off write s
  | .swapInstant => Sys2Proof.Machine.execSwapInstant s
  | .slateFillEnd => Sys2Proof.Machine.execSlateFillEnd s
  | .tickLaunch => Sys2Proof.Machine.execTickLaunch s
  | .specStart => Sys2Proof.Machine.execSpecStart s
  | .sceneDeadline fsn => Sys2Proof.Machine.execSceneDeadline fsn s
  | .amendDeadline fsn => Sys2Proof.Machine.execAmendDeadline fsn s
  | .voteDeadline => Sys2Proof.Machine.execVoteDeadline s
  | .voteSendLimit domain => Sys2Proof.Machine.execVoteSendLimit domain s
  | .voteReceive domain port fsn agg stamp => Sys2Proof.Machine.execVoteReceive domain port fsn agg stamp s
  | .voteFwdReceive src fsn agg stamp => Sys2Proof.Machine.execVoteFwdReceive src fsn agg stamp s
  | .decide => Sys2Proof.Machine.execDecide s
  | .commitBroadcast => Sys2Proof.Machine.execCommitBroadcast s
  | .decisionReceive viaB dec stamp => Sys2Proof.Machine.execDecisionReceive viaB dec stamp s
  | .localAbort => Sys2Proof.Machine.execLocalAbort s
  | .frameOpen env base keyframe rsv => Sys2Proof.Machine.execFrameOpen env base keyframe rsv s
  | .frameReopen env base keyframe rsv => Sys2Proof.Machine.execFrameReopen env base keyframe rsv s
  | .frameClose env pktCount digest cardCount livePending rsv => Sys2Proof.Machine.execFrameClose env pktCount digest cardCount livePending rsv s
  | .cardSet env body => Sys2Proof.Machine.execCardSet env body s
  | .texDefine env body => Sys2Proof.Machine.execTexDefine env body s
  | .texUpdate env body => Sys2Proof.Machine.execTexUpdate env body s
  | .texRelease env body => Sys2Proof.Machine.execTexRelease env body s
  | .amend env body => Sys2Proof.Machine.execAmend env body s
  | .deferredPacketApply => Sys2Proof.Machine.execDeferredPacketApply s
  | .reclaimDone => Sys2Proof.Machine.execReclaimDone s
  | .thkQtailWrite queue value => Sys2Proof.Machine.execThkQtailWrite queue value s
  | .thkAbort queue => Sys2Proof.Machine.execThkAbort queue s
  | .thkJobStart channel => Sys2Proof.Machine.execThkJobStart channel s
  | .thkJobComplete channel => Sys2Proof.Machine.execThkJobComplete channel s
  | .binBoundsWrite hi value stamp => Sys2Proof.Machine.execBinBoundsWrite hi value stamp s
  | .grvDirWrite hi value stamp => Sys2Proof.Machine.execGrvDirWrite hi value stamp s
  | .colTableWrite reg value stamp => Sys2Proof.Machine.execColTableWrite reg value stamp s
  | .tableCheckEnd table stamp => Sys2Proof.Machine.execTableCheckEnd table stamp s
  | .stripGroupRelease fsn => Sys2Proof.Machine.execStripGroupRelease fsn s
  | .stripIssue engine => Sys2Proof.Machine.execStripIssue engine s
  | .stripComplete engine poison hits misses => Sys2Proof.Machine.execStripComplete engine poison hits misses s
  | .grovePanicAssert grove => Sys2Proof.Machine.execGrovePanicAssert grove s
  | .grvClkWrite grove value => Sys2Proof.Machine.execGrvClkWrite grove value s
  | .fillUnderrunStall fsn => Sys2Proof.Machine.execFillUnderrunStall fsn s
  | .lineEnd stamp => Sys2Proof.Machine.execLineEnd stamp s
  | .frameDone fsn slate => Sys2Proof.Machine.execFrameDone fsn slate s
  | .confReceive lane seq status value codeErrs crcOk stamp => Sys2Proof.Machine.execConfReceive lane seq status value codeErrs crcOk stamp s
  | .rectConfTimeout lane seq => Sys2Proof.Machine.execRectConfTimeout lane seq s
  | .frameRetired fsn => Sys2Proof.Machine.execFrameRetired fsn s
  | .echoSend lane stamp => Sys2Proof.Machine.execEchoSend lane stamp s
  | .echoReplyReceive lane e1 turn codeErrs stamp => Sys2Proof.Machine.execEchoReplyReceive lane e1 turn codeErrs stamp s
  | .driverStatusReceive lane st codeErrs crcOk stamp => Sys2Proof.Machine.execDriverStatusReceive lane st codeErrs crcOk stamp s
  | .driverSilentTimeout lane => Sys2Proof.Machine.execDriverSilentTimeout lane s
  | .laneEnable lane stamp => Sys2Proof.Machine.execLaneEnable lane stamp s
  | .laneDisable lane stamp => Sys2Proof.Machine.execLaneDisable lane stamp s
  | .laneRetrainRequest lane stamp => Sys2Proof.Machine.execLaneRetrainRequest lane stamp s
  | .laneTestWrite lane loop pattern testSpeed stamp => Sys2Proof.Machine.execLaneTestWrite lane loop pattern testSpeed stamp s
  | .offsetCalDone lane offsets stamp => Sys2Proof.Machine.execOffsetCalDone lane offsets stamp s
  | .trainingSetReceive lane ts codingError skew stamp => Sys2Proof.Machine.execTrainingSetReceive lane ts codingError skew stamp s
  | .speedSwitch lane stamp => Sys2Proof.Machine.execSpeedSwitch lane stamp s
  | .calRunDone lane q stamp => Sys2Proof.Machine.execCalRunDone lane q stamp s
  | .calRunTimeout lane stamp => Sys2Proof.Machine.execCalRunTimeout lane stamp s
  | .noPartnerTimeout lane stamp => Sys2Proof.Machine.execNoPartnerTimeout lane stamp s
  | .bgRecalStart stamp => Sys2Proof.Machine.execBgRecalStart stamp s
  | .bgRecalDone q stamp => Sys2Proof.Machine.execBgRecalDone q stamp s
  | .laneLockLost lane stamp => Sys2Proof.Machine.execLaneLockLost lane stamp s
  | .feLoopRequest lane own stamp => Sys2Proof.Machine.execFeLoopRequest lane own stamp s
  | .feLoopEnd lane rtt stamp => Sys2Proof.Machine.execFeLoopEnd lane rtt stamp s
  | .feLoopRetry lane stamp => Sys2Proof.Machine.execFeLoopRetry lane stamp s
  | .aplEnableWrite enable stamp => Sys2Proof.Machine.execAplEnableWrite enable stamp s
  | .aplRequestGo immediate => Sys2Proof.Machine.execAplRequestGo immediate s
  | .aplRequestJudged => Sys2Proof.Machine.execAplRequestJudged s
  | .aplRequestStart => Sys2Proof.Machine.execAplRequestStart s
  | .journalWriteDone readBackOk stamp => Sys2Proof.Machine.execJournalWriteDone readBackOk stamp s
  | .aplLineEnd stamp => Sys2Proof.Machine.execAplLineEnd stamp s
  | .aplRefSettled stamp => Sys2Proof.Machine.execAplRefSettled stamp s
  | .aplDriverFault lowNs => Sys2Proof.Machine.execAplDriverFault lowNs s
  | .tilePowerFail widthNs => Sys2Proof.Machine.execTilePowerFail widthNs s
  | .layerCommitGo stamp => Sys2Proof.Machine.execLayerCommitGo stamp s
  | .layerLatch fsn => Sys2Proof.Machine.execLayerLatch fsn s
  | .flattenDone slot => Sys2Proof.Machine.execFlattenDone slot s
  | .bltCopy srcFmt dstFmt galpha => Sys2Proof.Machine.execBltCopy srcFmt dstFmt galpha s
  | .bltFill srcFmt dstFmt galpha => Sys2Proof.Machine.execBltFill srcFmt dstFmt galpha s
  | .bltBlend srcFmt dstFmt galpha => Sys2Proof.Machine.execBltBlend srcFmt dstFmt galpha s
  | .bltDone => Sys2Proof.Machine.execBltDone s
  | .dmcWriteRequest src addr data op stamp => Sys2Proof.Machine.execDmcWriteRequest src addr data op stamp s
  | .dmcReadRequest src addr len op errs stamp => Sys2Proof.Machine.execDmcReadRequest src addr len op errs stamp s
  | .migrationDone channel bad => Sys2Proof.Machine.execMigrationDone channel bad s
  | .scrubRead addr errs stamp => Sys2Proof.Machine.execScrubRead addr errs stamp s
  | .refreshDue channel pos rtQueued => Sys2Proof.Machine.execRefreshDue channel pos rtQueued s
  | .starveIssue channel port stamp => Sys2Proof.Machine.execStarveIssue channel port stamp s
  | .mr4Read channel mr4 => Sys2Proof.Machine.execMr4Read channel mr4 s
  | .dqsTrack channel pos device step => Sys2Proof.Machine.execDqsTrack channel pos device step s
  | .zqCalibration channel => Sys2Proof.Machine.execZqCalibration channel s
  | .freqChangeRequest target => Sys2Proof.Machine.execFreqChangeRequest target s
  | .freqChangeStart stamp => Sys2Proof.Machine.execFreqChangeStart stamp s
  | .freqChangeDone trained stamp => Sys2Proof.Machine.execFreqChangeDone trained stamp s
  | .sramPortAccess a b follows src stamp => Sys2Proof.Machine.execSramPortAccess a b follows src stamp s
  | .sramTestStep ok => Sys2Proof.Machine.execSramTestStep ok s
  | .fabricEnable stamp => Sys2Proof.Machine.execFabricEnable stamp s
  | .coordOfferSend => Sys2Proof.Machine.execCoordOfferSend s
  | .coordOfferReceive port offered sender rsv => Sys2Proof.Machine.execCoordOfferReceive port offered sender rsv s
  | .packetForward input pkt crc stamp => Sys2Proof.Machine.execPacketForward input pkt crc stamp s
  | .ackReceive port lseq check => Sys2Proof.Machine.execAckReceive port lseq check s
  | .nakReceive port lseq check stamp => Sys2Proof.Machine.execNakReceive port lseq check stamp s
  | .ackTimeout port stamp => Sys2Proof.Machine.execAckTimeout port stamp s
  | .creditReceive port c1 value check => Sys2Proof.Machine.execCreditReceive port c1 value check s
  | .creditAdvertise port => Sys2Proof.Machine.execCreditAdvertise port s
  | .linkDownReport port stamp => Sys2Proof.Machine.execLinkDownReport port stamp s
  | .linkStateReceive msg domain down stamp => Sys2Proof.Machine.execLinkStateReceive msg domain down stamp s
  | .linkEntryExpire stamp => Sys2Proof.Machine.execLinkEntryExpire stamp s
  | .guestPortUp port stamp => Sys2Proof.Machine.execGuestPortUp port stamp s
  | .guestAnnounceReceive msg domain down stamp => Sys2Proof.Machine.execGuestAnnounceReceive msg domain down stamp s
  | .guestEntryExpire stamp => Sys2Proof.Machine.execGuestEntryExpire stamp s
  | .guestAssignReceive port guest host rsv => Sys2Proof.Machine.execGuestAssignReceive port guest host rsv s
  | .timeEnable pref loc => Sys2Proof.Machine.execTimeEnable pref loc s
  | .announceSend domain loc => Sys2Proof.Machine.execAnnounceSend domain loc s
  | .announceReceive port msg loc => Sys2Proof.Machine.execAnnounceReceive port msg loc s
  | .exchReqSend domain loc => Sys2Proof.Machine.execExchReqSend domain loc s
  | .exchReqReceive port domain xid l2 l3 => Sys2Proof.Machine.execExchReqReceive port domain xid l2 l3 s
  | .exchRespReceive port domain xid t2 t3 loc => Sys2Proof.Machine.execExchRespReceive port domain xid t2 t3 loc s
  | .parentLost domain loc => Sys2Proof.Machine.execParentLost domain loc s
  | .holdoverTimeout domain loc => Sys2Proof.Machine.execHoldoverTimeout domain loc s
  | .ptpSyncReceive twoStep seq origin t2 loc => Sys2Proof.Machine.execPtpSyncReceive twoStep seq origin t2 loc s
  | .ptpAnnounceReceive domainNumber dataset stamp => Sys2Proof.Machine.execPtpAnnounceReceive domainNumber dataset stamp s
  | .ptpAnnounceTimeout => Sys2Proof.Machine.execPtpAnnounceTimeout s
  | .captureEdge channel rising stamp => Sys2Proof.Machine.execCaptureEdge channel rising stamp s
  | .captureRead channel => Sys2Proof.Machine.execCaptureRead channel s
  | .timeNowRead loc => Sys2Proof.Machine.execTimeNowRead loc s
  | .timeNsWrap => Sys2Proof.Machine.execTimeNsWrap s
  | .slateTrigger stamp => Sys2Proof.Machine.execSlateTrigger stamp s
  | .slateRelease stamp => Sys2Proof.Machine.execSlateRelease stamp s
  | .darkOn stamp => Sys2Proof.Machine.execDarkOn stamp s
  | .darkOff stamp => Sys2Proof.Machine.execDarkOff stamp s
  | .screenCmdReceive src cmd reqId stamp => Sys2Proof.Machine.execScreenCmdReceive src cmd reqId stamp s
  | .genSegReceive seg num data unicast => Sys2Proof.Machine.execGenSegReceive seg num data unicast s
  | .joinSend => Sys2Proof.Machine.execJoinSend s
  | .joinReceive src held digest stamp => Sys2Proof.Machine.execJoinReceive src held digest stamp s
  | .vouchReceive sapling stamp => Sys2Proof.Machine.execVouchReceive sapling stamp s
  | .joinResultReceive result reason => Sys2Proof.Machine.execJoinResultReceive result reason s
  | .faultNoticeReceive src fsn reason => Sys2Proof.Machine.execFaultNoticeReceive src fsn reason s
  | .activationHandover stamp => Sys2Proof.Machine.execActivationHandover stamp s
  | .trialTimeout => Sys2Proof.Machine.execTrialTimeout s
  | .csiFrameStart vc eccOk stamp => Sys2Proof.Machine.execCsiFrameStart vc eccOk stamp s
  | .csiLinePacket vc dataType eccOk crcOk overflow samples => Sys2Proof.Machine.execCsiLinePacket vc dataType eccOk crcOk overflow samples s
  | .csiFrameEnd vc eccOk stamp => Sys2Proof.Machine.execCsiFrameEnd vc eccOk stamp s
  | .parallelVsyncEdge stamp => Sys2Proof.Machine.execParallelVsyncEdge stamp s
  | .testFrameStart stream stamp => Sys2Proof.Machine.execTestFrameStart stream stamp s
  | .tapArm tap => Sys2Proof.Machine.execTapArm tap s
  | .expSetGo stream => Sys2Proof.Machine.execExpSetGo stream s
  | .expSetStart => Sys2Proof.Machine.execExpSetStart s
  | .expSetDone acked stamp => Sys2Proof.Machine.execExpSetDone acked stamp s
  | .cciTimeout stamp => Sys2Proof.Machine.execCciTimeout stamp s
  | .calSessionOpen req force neutralTable neutralMap => Sys2Proof.Machine.execCalSessionOpen req force neutralTable neutralMap s
  | .calPattern req descs target record => Sys2Proof.Machine.execCalPattern req descs target record s
  | .calSolve req dirAddr trimsOutOfRange trimsTotal figures => Sys2Proof.Machine.execCalSolve req dirAddr trimsOutOfRange trimsTotal figures s
  | .calStage req addrs rest => Sys2Proof.Machine.execCalStage req addrs rest s
  | .trimReload req => Sys2Proof.Machine.execTrimReload req s
  | .acWatchdogExpire core stamp => Sys2Proof.Machine.execAcWatchdogExpire core stamp s
  | .hkWatchdogExpire core stamp => Sys2Proof.Machine.execHkWatchdogExpire core stamp s
  | .warmResetRequest stamp => Sys2Proof.Machine.execWarmResetRequest stamp s
  | .cpxRestartRequest stamp => Sys2Proof.Machine.execCpxRestartRequest stamp s
  | .cpxRestartDone => Sys2Proof.Machine.execCpxRestartDone s
  | .faultRestartTimer stamp => Sys2Proof.Machine.execFaultRestartTimer stamp s
  | .eventClaim core => Sys2Proof.Machine.execEventClaim core s
  | .swEventRaise event stamp => Sys2Proof.Machine.execSwEventRaise event stamp s
  | .pmpHello via guest header body stamp => Sys2Proof.Machine.execPmpHello via guest header body stamp s
  | .pmpFinish session header body stamp => Sys2Proof.Machine.execPmpFinish session header body stamp s
  | .pmpDataRecord session header body stamp => Sys2Proof.Machine.execPmpDataRecord session header body stamp s
  | .pmpClose session stamp => Sys2Proof.Machine.execPmpClose session stamp s
  | .pmpSessionTimeout session stamp => Sys2Proof.Machine.execPmpSessionTimeout session stamp s
  | .pmpStreamAckTimer session acked stamp => Sys2Proof.Machine.execPmpStreamAckTimer session acked stamp s
  | .infoGet req => Sys2Proof.Machine.execInfoGet req s
  | .eventSubscribe req mask => Sys2Proof.Machine.execEventSubscribe req mask s
  | .eventUnsubscribe req => Sys2Proof.Machine.execEventUnsubscribe req s
  | .regRead req off count => Sys2Proof.Machine.execRegRead req off count s
  | .regWrite req writes => Sys2Proof.Machine.execRegWrite req writes s
  | .logRead req off len => Sys2Proof.Machine.execLogRead req off len s
  | .resetWarm req => Sys2Proof.Machine.execResetWarm req s
  | .resetCpxRestart req => Sys2Proof.Machine.execResetCpxRestart req s
  | .membershipAddX req nodes => Sys2Proof.Machine.execMembershipAddX req nodes s
  | .membershipRemoveX req nodes => Sys2Proof.Machine.execMembershipRemoveX req nodes s
  | .membershipChangeE req e => Sys2Proof.Machine.execMembershipChangeE req e s
  | .policySet req p => Sys2Proof.Machine.execPolicySet req p s
  | .bindingSet req stream source => Sys2Proof.Machine.execBindingSet req stream source s
  | .tileReachGet req => Sys2Proof.Machine.execTileReachGet req s
  | .apertureUpdate req fsn on => Sys2Proof.Machine.execApertureUpdate req fsn on s
  | .configChange req records staged => Sys2Proof.Machine.execConfigChange req records staged s
  | .quoteRequest req fabricSrc nonce => Sys2Proof.Machine.execQuoteRequest req fabricSrc nonce s
  | .saplingVerify port stamp => Sys2Proof.Machine.execSaplingVerify port stamp s
  | .quoteReceive port body chain stamp => Sys2Proof.Machine.execQuoteReceive port body chain stamp s
  | .updateOffer req rect head crcs => Sys2Proof.Machine.execUpdateOffer req rect head crcs s
  | .updateOfferRelayReceive src head crcs stamp => Sys2Proof.Machine.execUpdateOfferRelayReceive src head crcs stamp s
  | .updateBlockReceive bundleId block chunk data => Sys2Proof.Machine.execUpdateBlockReceive bundleId block chunk data s
  | .updateStatusSend => Sys2Proof.Machine.execUpdateStatusSend s
  | .updateStatusReceive st => Sys2Proof.Machine.execUpdateStatusReceive st s
  | .bundleVerifyDone => Sys2Proof.Machine.execBundleVerifyDone s
  | .updateAbandon req => Sys2Proof.Machine.execUpdateAbandon req s
  | .updateLockTimeout stamp => Sys2Proof.Machine.execUpdateLockTimeout stamp s
  | .updateActivate req bundleId => Sys2Proof.Machine.execUpdateActivate req bundleId s
  | .onAirSet req => Sys2Proof.Machine.execOnAirSet req s
  | .onAirClear req => Sys2Proof.Machine.execOnAirClear req s
  | .updateLockSet req => Sys2Proof.Machine.execUpdateLockSet req s
  | .updateLockClear req => Sys2Proof.Machine.execUpdateLockClear req s
  | .lifecycleGetNonce req => Sys2Proof.Machine.execLifecycleGetNonce req s
  | .lifecycleTransition req jtag tok => Sys2Proof.Machine.execLifecycleTransition req jtag tok s
  | .measurementExtend reg => Sys2Proof.Machine.execMeasurementExtend reg s
  | .housekeepingSample value stamp => Sys2Proof.Machine.execHousekeepingSample value stamp s
  | .thermalTrip => Sys2Proof.Machine.execThermalTrip s
  | .thermalTripRelease => Sys2Proof.Machine.execThermalTripRelease s
  | .powerOffRequest widthNs => Sys2Proof.Machine.execPowerOffRequest widthNs s
  | .bistDone failItem detail readBackOk stamp => Sys2Proof.Machine.execBistDone failItem detail readBackOk stamp s
  | .rankRetrainingDone channel pos ok caOk stamp => Sys2Proof.Machine.execRankRetrainingDone channel pos ok caOk stamp s
  | .aplRestoreTempTimeout => Sys2Proof.Machine.execAplRestoreTempTimeout s
  | .latencyCalTimeout lane => Sys2Proof.Machine.execLatencyCalTimeout lane s
  | .mgtLinkChange up mbps => Sys2Proof.Machine.execMgtLinkChange up mbps s
  | .dhcpReplyReceive ip mask gateway => Sys2Proof.Machine.execDhcpReplyReceive ip mask gateway s
  | .arpRequestReceive sender target => Sys2Proof.Machine.execArpRequestReceive sender target s
  | .icmpEchoRequestReceive sender dst payload => Sys2Proof.Machine.execIcmpEchoRequestReceive sender dst payload s
  | .parallelHsyncLine overflow samples => Sys2Proof.Machine.execParallelHsyncLine overflow samples s
  | .guestPortDown port stamp => Sys2Proof.Machine.execGuestPortDown port stamp s
  | .gladeUnknownTypePacket env type body => Sys2Proof.Machine.execGladeUnknownTypePacket env type body s
  | .ptpFollowUpReceive seq origin => Sys2Proof.Machine.execPtpFollowUpReceive seq origin s
  | .ptpDelayRespReceive t3 t4 => Sys2Proof.Machine.execPtpDelayRespReceive t3 t4 s
  | .badPacketReceive port pkt how => Sys2Proof.Machine.execBadPacketReceive port pkt how s

end Sys2Proof.Machine
end

