-- ==== Sys2Proof/Safety.lean ====
section
/-! DEFINITION. The words in which claims are made: what a safe state is, what it means that a command completes, which
parts of the state a command leaves as they were, and the ways in which the one-way states move. -/

namespace Sys2Proof.Machine

/-- The invariant of every state that a run reaches: both register stores and the memory are canonical, there are
sixteen measurement registers, and M15 is zero (R9, R16, R519, R562). -/
def State.Inv (s : State) : Prop :=
  Sparse.wf resetWord s.regs = true ∧ Sparse.wf resetWord s.eff = true ∧ Memory.wf s.mem = true ∧
  s.meas.length = 16 ∧ s.meas.getD 15 0 = 0

/-- The islands other than AON run (R552, R573). -/
def State.Awake (s : State) : Prop := s.ctl.inReset = false

/-- The command answers a next state, and that state is as described. -/
def Completes (c : Instr) (s : State) (P : State → Prop) : Prop := ∃ t, exec c s = .next t ∧ P t

/-- The parts of State. -/
inductive Part
  | regs | eff | rwsPend | latches | bus | mem | node | lc | secVersion | advancesLeft | meas | ing | thk | grv | lyr
  | pdl | sds | apl | fab | tim | cmt | met | dmc | sram | nvm | ctl | sec | hkp | pins | out | freeCount | pending
  deriving DecidableEq, Repr

/-- A part reads the same in both states: register by register, byte by byte, else as a whole. -/
def Part.Same (s t : State) : Part → Prop
  | .regs => ∀ off, t.reg off = s.reg off
  | .eff => ∀ off, t.effReg off = s.effReg off
  | .rwsPend => t.rwsPend = s.rwsPend
  | .latches => t.latches = s.latches
  | .bus => t.bus = s.bus
  | .mem => ∀ a, Memory.read t.mem a = Memory.read s.mem a
  | .node => t.node = s.node
  | .lc => t.lc = s.lc
  | .secVersion => t.secVersion = s.secVersion
  | .advancesLeft => t.advancesLeft = s.advancesLeft
  | .meas => t.meas = s.meas
  | .ing => t.ing = s.ing
  | .thk => t.thk = s.thk
  | .grv => t.grv = s.grv
  | .lyr => t.lyr = s.lyr
  | .pdl => t.pdl = s.pdl
  | .sds => t.sds = s.sds
  | .apl => t.apl = s.apl
  | .fab => t.fab = s.fab
  | .tim => t.tim = s.tim
  | .cmt => t.cmt = s.cmt
  | .met => t.met = s.met
  | .dmc => t.dmc = s.dmc
  | .sram => t.sram = s.sram
  | .nvm => t.nvm = s.nvm
  | .ctl => t.ctl = s.ctl
  | .sec => t.sec = s.sec
  | .hkp => t.hkp = s.hkp
  | .pins => t.pins = s.pins
  | .out => t.out = s.out
  | .freeCount => t.freeCount = s.freeCount
  | .pending => t.pending = s.pending

/-- Event `e` has become pending at the cores that its route selects, and nothing else has (R491). -/
def Pended (e : Nat) (s t : State) : Prop :=
  t.ctl.pend = pendSet (getBits (s.reg (R.CPX_EV_ROUTE e)) 11 0) e s.ctl.pend

/-- The registers that the ROM writes after a reset (R486, R535). -/
def romRegs : List Nat := [R.CPX_RESET_CAUSE, R.SEC_BOOT, R.SEC_UPD_STATE]

/-- A counter field that has counted one more: it saturates at its width. -/
def State.countUp (s : State) (f : Fld) : Nat := min (2 ^ (f.hi + 1 - f.lo) - 1) (s.fld f + 1)

/-- No trial of an update runs, so that a fault does not fall back into a reset (R541). -/
def State.NoTrial (s : State) : Prop := s.sec.upd ≠ .trial ∧ s.sec.trialFrom = none

/-- Nothing but the named parts, and of the registers only those at the named offsets, differs. -/
def Frame (parts : List Part) (offs : List Nat) (s t : State) : Prop :=
  (∀ p, p ∉ parts → p ≠ .regs → p.Same s t) ∧ ∀ off, off ∉ offs → t.reg off = s.reg off

/-- The memory outside `[lo, lo + n)` reads as it did. -/
def MemOutside (lo n : Nat) (s t : State) : Prop :=
  ∀ a, (a < lo ∨ lo + n ≤ a) → Memory.read t.mem a = Memory.read s.mem a

/-- A register whose accepted write does nothing but store: no command of its own, no table, no shadow of another field,
and nothing that a vote waits for. -/
def plainRegister (off : Nat) : Bool :=
  let block := off / 0x100000
  let o := off % 0x100000
  !([R.CPX_RESET, R.CPX_EV_RAISE, R.SEC_EXT_GO, R.FAB_CTRL, R.TIM_CTRL, R.CMT_SCREEN_CMD, R.CMT_CTRL, R.THK_CTRL,
      R.BIN_CTRL, R.BIN_BOUNDS_LO, R.BIN_BOUNDS_HI, R.COL_TABLE_LO, R.COL_TABLE_HI, R.COL_GMAP_LO, R.COL_GMAP_HI,
      R.LYR_CTRL, R.LYR_COMMIT, R.BLT_CTRL, R.PDL_CTRL, R.APL_CTRL, R.APL_REQ_GO, R.DMC_FREQ].contains off) &&
  !(decide (block = 0) && decide (0x2000 ≤ o) && decide (o < 0x2600)) &&
  !(decide (block = 9) && decide (0x100 ≤ o) && (decide (o % 0x100 = 0xC) || decide (o % 0x100 = 8))) &&
  !(decide (0xB ≤ block) && decide (block ≤ 0x12)) &&
  !(decide (block = 0x18) && decide (0x1000 ≤ o)) &&
  !(decide (block = 0x1A) && decide (0x100 ≤ o) && decide (o < 0x380))

/-- A counter of cycles, dropped frames or pattern errors, which goes on between commands (R322, R468, log entry 25). -/
def runsBetween (off : Nat) : Bool :=
  off == R.DMC_PANIC_CYCLES || off == R.MGT_RX_DROP || (List.range 6).any (fun p => off == R.FAB_P_CREDIT_STALL p) ||
  (List.range 224).any (fun i => off == R.SDS_LPRBS_ERR i)

/-- The commands whose work island AON does, which the other islands' reset does not stop: resets, the thermal
comparator, sampling, measurements, the aperture, and register accesses of AON's blocks (Table 17.3, R552, R573). -/
def aonCommand : Instr → Bool
  | .powerOn | .sysResetAssert _ | .coldReset _ | .thermalTrip | .thermalTripRelease => true
  | .housekeepingSample _ _ | .measurementExtend _ => true
  | .aplEnableWrite _ _ | .aplRequestGo _ | .aplRequestJudged | .aplRequestStart | .journalWriteDone _ _ => true
  | .aplLineEnd _ | .aplRefSettled _ | .aplDriverFault _ | .aplRestoreTempTimeout | .tilePowerFail _ => true
  | .powerOffRequest _ => true
  | .registerWrite off _ _ _ | .pairLowRead off _ _ | .counterReadClear off _ _ => aonBlock off
  | .lockSet block => aonBlock (block * 0x100000)
  | _ => false

/-- The DMC serves what arrives at once: no panic, no frequency change, no retraining, nothing waiting (R466, R468, R471,
R473). -/
def State.DmcOpen (s : State) : Prop :=
  s.dmc.changing = false ∧ s.dmc.panicGroves = 0 ∧ s.dmc.retrain = [] ∧ s.dmc.held = []

/-- A register access that its island takes. -/
def State.Reachable (s : State) (off : Nat) : Prop := aonBlock off = true ∨ s.Awake

/-- A screen of one node: its coordinate is that of both roots, it is the root of both trees, and it has no child (R399,
R406). -/
def State.Alone (s : State) (a : BitVec 16) : Prop :=
  s.here = some a ∧ isGuest a = false ∧ s.rootA = a ∧ s.rootB = a ∧ s.fab.srcSeq.length = 4 ∧
  ∀ d, (s.dom d).st = .root ∧ (s.dom d).parent = none ∧ s.children d = []

/-- A packet of this node with the `k`-th next SRC_SEQ of its class, as its own sink takes it (R358, R361). -/
def State.selfPacket (s : State) (k cls mode proto : Nat) (domain : Bool) (dst : BitVec 16) (payload : List Byte) : Out :=
  .deliver { s.newPacket cls mode proto domain (BitVec.ofNat 32 dst.toNat) payload with
    srcSeq := s.fab.srcSeq.getD cls 0 + BitVec.ofNat 16 k }

/-- What a port sends as a LINKCTL set (R349, Table 12.6). -/
def linkOut (port : Nat) (c1 c2 : Byte) : Out :=
  .linkctl port c1 c2 (c1 ^^^ c2 ^^^ 0xC3)
    (toLanes (portWidth port) (ctl 28 4 :: [c1, c2, c1 ^^^ c2 ^^^ 0xC3].map BitVec.toNat))

/-- What a port sends as a packet (R349, R350). -/
def packetOut (port : Nat) (c : Queued) : Out :=
  .xtf port c.pkt (toLanes (portWidth port) (packetSymbols c.pkt c.bad))

/-- A unicast packet of this node leaves by one port at once: it is the only hop of its route, and the port is idle with
room in its replay buffer and at its partner (R352, R353, R358). -/
def State.LeavesBy (s : State) (port cls proto : Nat) (dst : BitVec 16) (payload : List Byte) : Prop :=
  let k := s.newPacket cls 0 proto false (BitVec.ofNat 32 dst.toNat) payload
  s.fab.ports.length = 6 ∧ port < 6 ∧ portCarries (s.port port) = true ∧ routeHops s k = [.send port k] ∧
  (s.port port).queue = [] ∧ (s.port port).unacked.length < 64 ∧ creditsOf k ≤ creditsFree (s.port port) cls

/-- That packet as the port sends it. -/
def State.left (s : State) (port cls proto : Nat) (dst : BitVec 16) (payload : List Byte) : Out :=
  packetOut port { pkt := { s.newPacket cls 0 proto false (BitVec.ofNat 32 dst.toNat) payload with
    lseq := (s.port port).txSeq } }

/-- A good Glade packet that ingest applies at once: from the bound source and stream, for a frame with an epoch, stamped
in time, with no packet waiting for pages (R51, R55 to R58, R204). -/
def State.Placed (s : State) (g : Glade) : Prop :=
  s.boundSource = some g.env.src ∧ 16 ≤ g.env.xtfLen.toNat ∧
  g.env.hdr.streamId.toNat = s.effFld F.ING_STREAM_STREAM_ID ∧ s.node ≠ .fault ∧ g.headerOk = true ∧ g.badBody = false ∧
  (g.fsn = s.S + 1 ∨ g.fsn = s.S + 2) ∧
  g.env.stamp < s.instant (if g.type = 6 then .amend else .scene) g.fsn ∧ s.ing.deferred = []

/-- One held frame that nothing else follows, and an idle queue 0. -/
def State.Lone (s : State) (e : Epoch) : Prop :=
  s.ing.epochs = [e] ∧ e.base ≠ some e.fsn ∧ e.err.count = 0 ∧ s.thk.q0 = [] ∧ s.thk.jobs = []

/-- An error has been recorded as the first of frame `n` (R64, R91). -/
def State.Errs (t : State) (n : Fsn) (code detail : Nat) : Prop :=
  ∃ e, t.epoch n = some e ∧ e.err = { code := code, detail := BitVec.ofNat 32 detail, count := 1 } ∧
    t.reg R.ING_ERR_FSN = n ∧ t.fld F.ING_ERR_INFO_CODE = code

/-- An open session of a client that is no guest; no record of the request waits, no event is queued or subscribed to. -/
def State.Asks (s : State) (req : PmpCtx) : Prop :=
  ∃ q, s.session req.session = some q ∧ q.guest = false ∧ q.reqs = [] ∧ q.events = [] ∧ q.subMask = 0

/-- The last thing sent is the answer to a request, and nothing else was sent. -/
def Answered (req : PmpCtx) (status : Nat) (body : List Byte) (s t : State) : Prop :=
  t.out = .response req.session req.reqId (BitVec.ofNat 16 status) body :: s.out

/-- No tap waits or runs (R439). -/
def State.TapsIdle (s : State) : Prop := ∀ i, (s.tap i).armed = false ∧ (s.tap i).running = false

/-- What extending can make of a measurement register, or what a reset leaves (R519). -/
def MeasReach : BitVec 512 → BitVec 512 → Prop :=
  Relation.ReflTransGen (fun a b => b = 0 ∨ ∃ x, b = Config.sha3 (digestBytes a ++ digestBytes x))

/-- The life-cycle states that a part can still reach (Table 18.2). -/
def LcReach : LcState → LcState → Prop := Relation.ReflTransGen (fun a b => lcMove a b = true)

/-- One or more rows of Table 1.10, or a reset, which leaves SAPLING (R46, R47). -/
def NodeReach : NodeState → NodeState → Prop :=
  Relation.ReflTransGen (fun a b => nodeMove a b = true ∨ b = .sapling)

end Sys2Proof.Machine
end

