-- ==== Sys2Proof/Certificates/Slice0/Obligations.lean ====
section
/-! DEFINITION. The statements for the provers. -/

open Sys2Proof Sys2Proof.Machine

/-! ### The whole machine -/

/-- One step takes the command at the front of the queue and runs it on the state with the queue's rest; an empty queue idles
(log entry 13, the model's choice). -/
def Obligations.StepRunsFrontCommand : Prop :=
  (∀ (c : Instr) (rest : List Instr) (s : State), s.pending = c :: rest → step s = exec c { s with pending := rest }) ∧
  ∀ s : State, s.pending = [] → step s = .next s

/-- The block after reset meets the invariant. Readings and choices of the model: log entries 1, 2. -/
def Obligations.ResetInvariant : Prop := State.reset.Inv

/-- Every step keeps the invariant: canonical stores, sixteen measurement registers, M15 zero. Readings and choices of the
model: log entries 2. Readings and choices of the model: log entries 2. -/
def Obligations.StepKeepsInvariant : Prop :=
  ∀ s t : State, s.Inv → step s = .next t → t.Inv

/-- What reset leaves, as Tables 1.9, 10.2, 13.4 and 18.8, R39, R502 and R519 give it. Readings and choices of the model: log
entries 1. Readings and choices of the model: log entries 1. -/
def Obligations.ResetLeaves : Prop :=
  State.reset.node = .sapling ∧ State.reset.cmt.screen = .dark ∧ State.reset.sec.upd = .idle ∧
  (∀ i, i < 224 → (State.reset.lane i).st = .off) ∧ (∀ d, (State.reset.dom d).st = .free) ∧
  (∀ i, State.reset.meas.getD i 0 = 0) ∧ State.reset.ctl.sessions = [] ∧ State.reset.Awake ∧
  (∀ off, State.reset.reg off = resetWord off ∧ State.reset.effReg off = resetWord off) ∧
  ∀ w, State.reset.readWord R.CPX_DEVICE_ID w = 0x10241039

/-- The one-way states: along every step the life cycle moves only along Table 18.2, the fused security version never falls,
advances are only used up, and the node state moves along Table 1.10 or to SAPLING by a reset. -/
def Obligations.OneWayStates : Prop :=
  ∀ s t : State, step s = .next t →
    LcReach s.lc t.lc ∧ s.secVersion.toNat ≤ t.secVersion.toNat ∧ t.advancesLeft ≤ s.advancesLeft ∧
    NodeReach s.node t.node

/-- Every command completes, leaves the queue as it is, and only adds to what the block has sent and to the count of free
values. Readings and choices of the model: log entries 5. -/
def Obligations.CommandsKeepTheQueue : Prop :=
  ∀ (c : Instr) (s : State), Completes c s (fun t =>
    t.pending = s.pending ∧ s.freeCount ≤ t.freeCount ∧ ∃ l, t.out = l ++ s.out)

/-- While the islands other than AON are held in reset, the commands of those islands do nothing (R552, R573). Readings and
choices of the model: log entries 80. Readings and choices of the model: log entries 80. -/
def Obligations.IslandsHeldInReset : Prop :=
  ∀ (c : Instr) (s : State), s.ctl.inReset = true → aonCommand c = false → exec c s = .next s

/-- The measurement registers move only by extension and by a reset, M15 not at all (R519, Table 18.4). -/
def Obligations.MeasurementsOnlyExtend : Prop :=
  ∀ s t : State, s.meas.length = 16 → step s = .next t →
    ∀ i, MeasReach (s.meas.getD i 0) (t.meas.getD i 0) ∧ (i = 15 → t.meas.getD 15 0 = s.meas.getD 15 0 ∨
      t.meas.getD 15 0 = 0)

/-! ### Registers (chapters 00, 17 and 20) -/

/-- R12: an offset without a register reads as 0, and a write to it is discarded; the same of accesses that are no aligned
word (R10). -/
def Obligations.StrayAccessesDoNothing : Prop :=
  ∀ (s : State) (off size : Nat) (v : Word) (stamp : Time),
    ((findReg off = none ∨ off % 4 ≠ 0 ∨ size ≠ 4) →
      Completes (.registerWrite off size v stamp) s (fun t => t = s)) ∧
    ((findReg off = none ∨ off % 4 ≠ 0 ∨ size ≠ 4) → s.Reachable off →
      ∀ c ∈ [Instr.pairLowRead off size stamp, Instr.counterReadClear off size stamp],
        Completes c s (fun t => t.bus = { data := [0] } ∧ Frame [.bus, .freeCount] [] s t))

/-- R13: a write of a reserved encoding is discarded whole: the register keeps its value, and nothing else changes. -/
def Obligations.ReservedEncodingDiscarded : Prop :=
  ∀ (s : State) (off : Nat) (v : Word) (stamp : Time) (row : RegRow), findReg off = some row →
    reservedWrite row v = true → Completes (.registerWrite off 4 v stamp) s (fun t => t = s)

/-- Table 0.5 for an accepted write of a register that only stores: each field by its access code and lock; an RWS write
waits for its commit; reserved bits stay, but for those that are checked at use (R237, R337); nothing else changes (R13,
R14). Readings and choices of the model: log entries 25. -/
def Obligations.WritesFollowAccessCodes : Prop :=
  ∀ (s : State) (off : Nat) (v : Word) (stamp : Time) (row : RegRow) (f : FldRow), s.Inv → s.Reachable off →
    findReg off = some row → off % 4 = 0 → plainRegister off = true → reservedWrite row v = false →
    s.windowReserved off v = false → f ∈ row.flds →
    Completes (.registerWrite off 4 v stamp) s (fun t =>
      (s.locked off f.lock = true → getBits (t.reg off) f.hi f.lo = getBits (s.reg off) f.hi f.lo) ∧
      (s.locked off f.lock = false → f.acc ∈ [Acc.rw, .rws, .rwl, .wo] →
        getBits (t.reg off) f.hi f.lo = getBits v f.hi f.lo) ∧
      (s.locked off f.lock = false → f.acc = .w1c →
        getBits (t.reg off) f.hi f.lo = getBits (s.reg off &&& ~~~v) f.hi f.lo) ∧
      (s.locked off f.lock = false → f.acc = .w1s →
        getBits (t.reg off) f.hi f.lo = getBits (s.reg off ||| v) f.hi f.lo) ∧
      (f.acc ∈ [Acc.ro, .rov, .rovs, .rc] →
        getBits (t.reg off) f.hi f.lo = getBits (s.reg off) f.hi f.lo) ∧
      (f.acc = .rsvd → getBits (t.reg off) f.hi f.lo = getBits (if keepsReserved off then v else s.reg off) f.hi f.lo) ∧
      t.rwsPend = (if waitsForCommit off row then
        s.rwsPend ++ [{ off := off, value := t.reg off, stamp := stamp }] else s.rwsPend) ∧
      Frame [.rwsPend] [off] s t)

/-- The register accesses that start something answer what the command itself answers (Table 17.15, R237, R336, R401, R492,
R519, R566, R583). -/
def Obligations.StartAccessesAreCommands : Prop :=
  ∀ (s : State) (v : Word) (stamp : Time),
    (getBits v 31 16 = 0x5A5A → getBits v 1 0 = 1 →
      exec (.registerWrite R.CPX_RESET 4 v stamp) s = exec (.warmResetRequest stamp) s) ∧
    (getBits v 31 16 = 0x5A5A → getBits v 1 0 = 2 →
      exec (.registerWrite R.CPX_RESET 4 v stamp) s = exec (.cpxRestartRequest stamp) s) ∧
    (480 ≤ getBits v 9 0 → getBits v 9 0 < 640 →
      exec (.registerWrite R.CPX_EV_RAISE 4 v stamp) s = exec (.swEventRaise (getBits v 9 0) stamp) s) ∧
    (bitOf v.toNat 8 = true →
      exec (.registerWrite R.SEC_EXT_GO 4 v stamp) s = exec (.measurementExtend (BitVec.ofNat 2 (getBits v 1 0))) s) ∧
    (bitOf v.toNat 0 = true →
      exec (.registerWrite R.LYR_COMMIT 4 v stamp) s = exec (.layerCommitGo stamp) s) ∧
    (bitOf v.toNat 0 = true →
      exec (.registerWrite R.APL_REQ_GO 4 v stamp) s = exec (.aplRequestGo (bitOf v.toNat 1)) s) ∧
    exec (.registerWrite R.BIN_BOUNDS_LO 4 v stamp) s = exec (.binBoundsWrite false v stamp) s ∧
    (∀ ch, ch < 9 → exec (.pairLowRead (R.TIM_CAP_NS ch) 4 stamp) s = exec (.captureRead ch) s) ∧
    ∀ core, core < 12 → exec (.pairLowRead (R.CPX_EV_CLAIM core) 4 stamp) s = exec (.eventClaim core) s

/-- A read answers the register's word, and does what Table 0.5, R207 and R564 say beside: RC fields clear, a low register
latches its high one, ING_EPOCH_C latches its three companions. A counter that runs between commands is never less than it
stood; what follows the instant of the read (R333, R388) is brought up to it. Readings and choices of the model: log entries
5, 25. Readings and choices of the model: log entries 5, 25. -/
def Obligations.ReadsAnswerAndAct : Prop :=
  ∀ (s : State) (off : Nat) (stamp : Time) (row : RegRow), s.Inv → findReg off = some row → off % 4 = 0 →
    s.Reachable off →
    (∀ c ∈ [Instr.pairLowRead off 4 stamp, Instr.counterReadClear off 4 stamp],
      (runsBetween off = false → off ∉ [R.TIM_NOW_NS, R.TIM_PARENT, R.APL_STATUS, R.APL_TEMP] →
        (∀ ch, ch < 9 → off ≠ R.TIM_CAP_NS ch) → (∀ k, k < 12 → off ≠ R.CPX_EV_CLAIM k) → Completes c s (fun t =>
          t.bus = { data := [s.readWord off (Config.freeWord s.freeCount)] } ∧
          t.reg off = s.reg off &&& ~~~(accMask .rc row.flds) ∧
          (∀ h, pairHigh off = some h → t.latchedWord h = some (s.view h)) ∧
          (pairHigh off = none → t.latches = s.latches) ∧
          Frame [.bus, .latches, .ing, .fab, .hkp, .freeCount] [off] s t)) ∧
      (runsBetween off = true → Completes c s (fun t =>
        (∃ x : Word, t.bus = { data := [x] } ∧ (s.reg off).toNat ≤ x.toNat) ∧ t.reg off = 0 ∧
        Frame [.bus, .freeCount] [off] s t)) ∧
      (off = R.TIM_PARENT → Completes c s (fun t =>
        t.tim = { s.tim with now := max s.tim.now (s.localOf stamp) } ∧
        t.bus = { data := [t.readWord off (Config.freeWord s.freeCount)] } ∧
        Frame [.bus, .tim, .freeCount] [] s t)) ∧
      (off = R.APL_STATUS ∨ off = R.APL_TEMP → Completes c s (fun t =>
        t.flag F.APL_STATUS_TEMP_VALID = (s.aplTemp stamp).isSome ∧
        (∀ r, s.aplTemp stamp = some r → t.fld F.APL_TEMP_T = r.1.toNat) ∧
        t.bus = { data := [t.readWord off (Config.freeWord s.freeCount)] } ∧
        Frame [.bus, .freeCount] [R.APL_STATUS, R.APL_TEMP] s t))) ∧
    (s.Awake → Completes .epochCRead s (fun t =>
      t.bus = { data := [s.readWord R.ING_EPOCH_C (Config.freeWord s.freeCount)] } ∧
      t.ing.epLatch = some [s.view R.ING_EPOCH_P, s.view R.ING_EPOCH_S, s.view R.ING_EPOCH_STATE] ∧
      Frame [.bus, .ing, .freeCount] [] s t))

/-- REGISTER_ACCESS_TIMEOUT (R490): the read returns 0; the first offset is kept and accesses are counted; event 0. Locks,
claims, software events and measurement extensions (R14, R491, R492, R519, R566). -/
def Obligations.RegisterEventsReported : Prop :=
  (∀ (s : State) (off : Nat) (write : Bool), s.Inv → s.Awake → off < 2 ^ 28 →
     Completes (.registerAccessTimeout off write) s (fun t =>
       (write = false → t.bus = { data := [0] }) ∧ (write = true → t.bus = s.bus) ∧
       t.fld F.CPX_BUS_ERR_COUNT_COUNT = s.countUp F.CPX_BUS_ERR_COUNT_COUNT ∧
       t.fld F.CPX_BUS_ERR_OFFSET =
         (if s.fld F.CPX_BUS_ERR_COUNT_COUNT = 0 then off else s.fld F.CPX_BUS_ERR_OFFSET) ∧
       Pended 0 s t ∧
       Frame [.bus, .ctl, .freeCount] [R.CPX_BUS_ERR, R.CPX_BUS_ERR_COUNT] s t)) ∧
  (∀ (s : State), s.Inv → s.Awake →
     (∀ block r b, block ≠ 0x14 → lockBit block = some (r, b) →
       Completes (.lockSet block) s (fun t => getBits (t.reg r) b b = 1 ∧ Frame [] [r] s t)) ∧
     (∀ core e, core < 12 → s.claimable core = some e → Completes (.eventClaim core) s (fun t =>
       (∃ w, t.bus = { data := [w] } ∧ getBits w 9 0 = e ∧ getBits w 31 31 = 0) ∧
       t.ctl.pend.getLsbD (640 * core + e) = false ∧
       (∀ i, i ≠ 640 * core + e → t.ctl.pend.getLsbD i = s.ctl.pend.getLsbD i) ∧
       Frame [.bus, .ctl, .freeCount] [] s t)) ∧
     (∀ core, core < 12 → s.claimable core = none → Completes (.eventClaim core) s (fun t =>
       (∃ w, t.bus = { data := [w] } ∧ getBits w 31 31 = 1) ∧ Frame [.bus, .freeCount] [] s t)) ∧
     (∀ e stamp, 480 ≤ e → e < 640 → Completes (.swEventRaise e stamp) s (fun t =>
       t.ctl.pend = pendSet (getBits (s.reg (R.CPX_EV_ROUTE e)) 11 0) e s.ctl.pend ∧ Frame [.ctl] [] s t)) ∧
     ∀ (r : BitVec 2), s.meas.length = 16 → Completes (.measurementExtend r) s (fun t =>
       t.meas.getD (10 + r.toNat) 0 = Config.sha3 (digestBytes (s.meas.getD (10 + r.toNat) 0) ++ digestBytes
         (BitVec.ofNat 512 ((List.range 16).foldl (fun a w => a + (s.reg (R.SEC_EXT_DATA w)).toNat * 2 ^ (32 * w)) 0))) ∧
       (∀ i, i ≠ 10 + r.toNat → t.meas.getD i 0 = s.meas.getD i 0) ∧ Frame [.meas] [] s t))

/-! ### Resets, start, restarts and housekeeping (chapters 17 to 19) -/

/-- A cold reset (R16, R486, R520, Table 17.2): every register its reset value, the cause, SAPLING, DARK, memory unlisted,
fuses and NVM kept, and M0 extended by the fuse values. POWER_ON holds the islands (R573). Readings and choices of the model:
log entries 2, 3, 8, 80. Readings and choices of the model: log entries 2, 3, 8, 80. -/
def Obligations.ColdResets : Prop :=
  ∀ s : State,
    (∀ cause : Byte, 1 ≤ cause.toNat → cause.toNat ≤ 3 → Completes (.coldReset cause) s (fun t =>
      t.fld F.CPX_RESET_CAUSE_CAUSE = cause.toNat ∧ (∀ off, off ∉ romRegs → t.reg off = resetWord off) ∧
      t.eff = [] ∧ t.node = .sapling ∧ t.cmt.screen = .dark ∧ t.mem = [] ∧ t.lc = s.lc ∧ t.nvm = s.nvm ∧
      t.sec.slots = s.sec.slots ∧ t.Awake ∧
      t.meas.getD 0 0 = Config.sha3 (digestBytes 0 ++ digestBytes (Config.sha3
        (leBytes 1 (lcCode s.lc) ++ leBytes 4 s.secVersion.toNat ++ (s.sec.fuses.ownerDigest.getD [])))))) ∧
    Completes .powerOn s (fun t =>
      t.fld F.CPX_RESET_CAUSE_CAUSE = 1 ∧ (∀ off, off ≠ R.CPX_RESET_CAUSE → t.reg off = resetWord off) ∧
      t.node = .sapling ∧ t.ctl.inReset = true ∧ t.pins.tilePg = true ∧ t.lc = s.lc ∧ t.secVersion = s.secVersion ∧
      t.nvm = s.nvm) ∧
    (∀ n, n < 1000 → Completes (.sysResetAssert n) s (fun t => t = s)) ∧
    (∀ n, 1000 ≤ n → s.hkp.tripped = false → Completes (.sysResetAssert n) s (fun t =>
      exec (.coldReset 2) s = .next t)) ∧
    (∀ n, 1000 ≤ n → s.hkp.tripped = true → Completes (.sysResetAssert n) s (fun t =>
      t.fld F.CPX_RESET_CAUSE_CAUSE = 2 ∧ t.hkp.tripped = true ∧ t.pins.thermTripN = false ∧ t.ctl.inReset = true)) ∧
    (s.hkp.tripped = true → Completes .thermalTripRelease s (fun t => exec (.coldReset 3) s = .next t)) ∧
    (s.hkp.tripped = false → Completes .thermalTripRelease s (fun t => t = s))

/-- R16: "A warm reset does the same, except that fields marked sticky keep their value", with the causes of Table 17.15 and
the restarts of R487 and R488 that are warm resets. Readings and choices of the model: log entries 2, 47. -/
def Obligations.WarmResets : Prop :=
  ∀ (s : State) (stamp : Time), s.Inv → s.Awake →
    let warm := fun (cause : Nat) (t : State) =>
      t.fld F.CPX_RESET_CAUSE_CAUSE = cause ∧
      (∀ off, off ∉ romRegs → t.reg off = warmWord off (s.reg off)) ∧
      t.node = .sapling ∧ t.cmt.screen = .dark ∧ t.lc = s.lc ∧ t.nvm = s.nvm ∧
      t.ctl.warmResets.length = s.ctl.warmResets.length + 1
    (∀ cause : Byte, 0x10 ≤ cause.toNat → cause.toNat ≤ 0x14 →
      Completes (.warmReset cause stamp) s (warm cause.toNat)) ∧
    (∀ core, 8 ≤ core → core < 12 → Completes (.hkWatchdogExpire core stamp) s (warm 0x12)) ∧
    (s.node = .fault → s.fld F.CPX_FAULT_RESTART_SEC ≠ 0 → inLastHour s.ctl.warmResets stamp < 3 →
      Completes (.faultRestartTimer stamp) s (warm 0x13)) ∧
    (s.hkp.bist = none → s.flag F.HKP_CTRL_BIST_EN = false → Completes (.warmResetRequest stamp) s (warm 0x10)) ∧
    (∀ temp c item detail ok, s.hkp.bist = some temp → s.hkp.bistWarm = some c → s.hkp.pwrOff = false →
      Completes (.bistDone item detail ok stamp) s (warm c.toNat)) ∧
    (2 ≤ inLastHour s.ctl.cpxRestarts stamp → Completes (.cpxRestartRequest stamp) s (warm 0x14)) ∧
    (∀ core, core < 8 → 2 ≤ inLastHour s.ctl.cpxRestarts stamp →
      Completes (.acWatchdogExpire core stamp) s (warm 0x14))

/-- The fourth restart of a faulted node within an hour, or with SEC 0, does not take place (R488). A CPX restart that is no
warm reset, its end, and the hand-over to an activated bundle (R487, R520, R538). Readings and choices of the model: log
entries 47, 76. Readings and choices of the model: log entries 47, 76. -/
def Obligations.RestartsWithinTheHour : Prop :=
  (∀ (s : State) (stamp : Time),
     (s.node ≠ .fault ∨ s.fld F.CPX_FAULT_RESTART_SEC = 0 ∨ 3 ≤ inLastHour s.ctl.warmResets stamp) →
     Completes (.faultRestartTimer stamp) s (fun t => t = s)) ∧
  (∀ (s : State) (stamp : Time), s.Awake →
     (inLastHour s.ctl.cpxRestarts stamp < 2 → s.ctl.sessions = [] →
       Completes (.cpxRestartRequest stamp) s (fun t =>
         t.ctl.restarting = true ∧ t.ctl.cpxRestarts = s.ctl.cpxRestarts ++ [stamp] ∧ t.met.cal = none ∧
         Frame [.ctl, .met] [] s t) ∧
       ∀ core, core < 8 → Completes (.acWatchdogExpire core stamp) s (fun t =>
         Pended 1 s t ∧ t.ctl.restarting = true ∧ t.ctl.cpxRestarts = s.ctl.cpxRestarts ++ [stamp] ∧ t.met.cal = none ∧
         Frame [.ctl, .met] [] s t)) ∧
     (s.ctl.restarting = true → Completes .cpxRestartDone s (fun t =>
       t.ctl.restarting = false ∧
       t.sec.upd = (if s.sec.trialFrom.isSome && s.sec.upd == .armed then .trial else s.sec.upd) ∧
       Frame [.ctl, .sec, .freeCount] [] s t)) ∧
     (∀ a, s.cmt.armed = some a → inLastHour s.ctl.cpxRestarts stamp < 2 → s.ctl.sessions = [] →
       Completes (.activationHandover stamp) s (fun t =>
         t.cmt.armed = none ∧ t.sec.trialFrom = some a.1 ∧ t.sec.trialSince = stamp ∧ t.sec.commits = 0 ∧
         t.ctl.restarting = true ∧ Frame [.cmt, .sec, .ctl, .met, .meas] [] s t)))

/-- The end of a trial at its time limit (R541): where the record can be written, it names the fallback's slot and no trial
(and still does after the ROM where that slot passes); a warm reset follows, and EV_SEC_UPD_FALLBACK is pending after it.
Readings and choices of the model: log entries 14, 56. -/
def Obligations.TrialFallsBack : Prop :=
  ∀ (s : State) (p : BootPtr), s.Awake → s.sec.upd = .trial → s.ptr = some p →
    Completes .trialTimeout s (fun t =>
      t.node = .sapling ∧ t.ctl.warmResets.length = s.ctl.warmResets.length + 1 ∧ t.ctl.pend.getLsbD 22 = true ∧
      (s.nvm.ptrFail = false → s.sec.ptrs.length = 2 → ∃ q, t.ptr = some q ∧ q.trial = false ∧
        (s.slotPasses p.fallback = true → q.active = p.fallback ∧ q.activeId = p.fallbackId)) ∧
      t.lc = s.lc ∧ t.sec.slots = s.sec.slots)

/-- The start sequence (R499, R502): a step that runs ends and is timed, the next ones start, step 11 finishes the start, and
a step from 4 on that fails, and the interconnect test, put the node into FAULT. Readings and choices of the model: log
entries 26, 27, 81, 82. Readings and choices of the model: log entries 26, 27, 81, 82. -/
def Obligations.StartSteps : Prop :=
  ∀ (s : State) (ms : Nat) (pages : Nat × Nat) (stamp : Time), s.Inv → s.Awake →
    (∀ step ∈ [1, 2, 5, 8, 9, 10, 11], s.stepMayEnd step = true →
      (4 ∉ s.ctl.ended ∨ 6 ∉ s.ctl.ended ∨ 7 ∈ s.ctl.started ∨ 7 ∈ s.ctl.ended) →
      Completes (.startStepEnd step none ms pages stamp) s (fun t =>
      t.ctl.ended = s.ctl.ended ++ [step] ∧ t.ctl.stepMs = s.ctl.stepMs ++ [(step, ms)] ∧
      (∀ k ∈ t.ctl.started, k ∈ s.ctl.started ∨ (stepDeps k).all t.ctl.ended.contains = true) ∧
      (step = 11 → t.ctl.startDone = true ∧ t.fld F.CPX_START_STEP = 11 ∧ t.fld F.CPX_START_FAILED = 0) ∧
      t.node = s.node)) ∧
    (∀ step f, step ∈ s.ctl.started → s.NoTrial → (s.node = .sapling ∨ s.node = .member) →
      (step ∈ [4, 5, 6, 8, 9, 10, 11] → f.code ≠ 0x0B03 →
        Completes (.startStepEnd step (some f) ms pages stamp) s (fun t =>
          t.node = .fault ∧ t.fld F.CPX_START_STEP = step ∧ t.fld F.CPX_START_FAILED = 1)) ∧
      (step ≤ 11 → f.code = 0x0B03 → s.flag F.HKP_FAULT_VALID = false →
        Completes (.startStepEnd step (some f) ms pages stamp) s (fun t =>
          t.node = .fault ∧ t.fld F.CPX_START_STEP = step ∧ t.fld F.CPX_START_FAILED = 1 ∧
          t.fld F.HKP_FAULT_BLOCK = 2 ∧ t.fld F.HKP_FAULT_CODE = 3 ∧ t.fld F.HKP_BIST_ITEM = f.item % 16 ∧
          t.reg R.HKP_FAULT_DETAIL = BitVec.ofNat 32 (f.item % 16 * 2 ^ 16 + f.detail.toNat % 2 ^ 16))))

/-- Sampling (R546 to R551): the next channel of the round; after channel 11 a valid and plausible reading is loaded; after
channel 15 the round counter counts. Readings and choices of the model: log entries 37, 80. -/
def Obligations.HousekeepingRounds : Prop :=
  ∀ (s : State) (v : BitVec 16) (stamp : Time), s.Inv →
    (s.hkp.channel < 15 → s.hkp.channel ≠ 11 → Completes (.housekeepingSample v stamp) s (fun t =>
      t = { s with hkp := { s.hkp with channel := s.hkp.channel + 1, round := s.hkp.round ++ [v] } })) ∧
    (s.hkp.channel = 15 → s.hkp.invalidRound = false → Completes (.housekeepingSample v stamp) s (fun t =>
      t.hkp.channel = 0 ∧ t.hkp.round = [] ∧
      t.fld F.HKP_ROUND_COUNT = (s.fld F.HKP_ROUND_COUNT + 1) % 2 ^ (F.HKP_ROUND_COUNT.hi + 1 - F.HKP_ROUND_COUNT.lo) ∧
      Frame [.hkp] [R.HKP_ROUND] s t)) ∧
    (∀ r : BitVec 16, s.hkp.channel = 11 → s.hkp.round.getD 0 0 = r → s.hkp.round.length = 11 → r.toInt < 1760 →
      roundInvalid (s.hkp.round ++ [v]) = false → s.implausible r = false →
      (∀ c, 1 ≤ c → c ≤ 9 → beyond 6 c (s.hkp.round.getD c 0) = false) →
      Completes (.housekeepingSample v stamp) s (fun t =>
        t.hkp.channel = 12 ∧ t.hkp.diode = some r ∧ t.fld F.HKP_TEMP_T = r.toNat ∧ t.fld F.HKP_TEMP_VALID = 1 ∧
        t.fld F.HKP_TEMP_BAND = dieBand (s.fld F.HKP_TEMP_BAND) r.toInt % 4 ∧
        (∀ c, c ≤ 11 → t.fld (F.HKP_CH_VALUE c) = ((s.hkp.round ++ [v]).getD c 0).toNat)))

/-- Thermal shutdown, power-off and the end of the shutdown BIST (R552, R554, R556, R558). Readings and choices of the model:
log entries 46, 80. Readings and choices of the model: log entries 46, 80. -/
def Obligations.ShutDowns : Prop :=
  ∀ s : State,
    Completes .thermalTrip s (fun t =>
      t.hkp.tripped = true ∧ t.pins.thermTripN = false ∧ t.pins.aplOut = [] ∧ t.ctl.inReset = true ∧
      t.apl.lineIdle = true ∧ (∀ l ∈ t.sds.lanes, l.st = .off) ∧ Frame [.hkp, .apl, .pins, .sds, .ctl] [] s t) ∧
    (∀ n, n < 1000 → Completes (.powerOffRequest n) s (fun t => t = s)) ∧
    (∀ n, 1000 ≤ n → s.hkp.bist = none →
      (s.flag F.HKP_CTRL_BIST_EN = false ∨ s.hkp.tripped = true → Completes (.powerOffRequest n) s (fun t =>
        t.hkp.pwrOff = true ∧ t.pins.pwrOffAck = true ∧ t.ctl.inReset = true ∧ Frame [.hkp, .pins, .ctl] [] s t)) ∧
      (s.flag F.HKP_CTRL_BIST_EN = true → s.hkp.tripped = false → Completes (.powerOffRequest n) s (fun t =>
        t.hkp.pwrOff = true ∧ t.hkp.bist = some (BitVec.ofNat 16 (s.fld (F.HKP_CH_VALUE 0))) ∧ t.apl.stopped = true ∧
        t.pins.pwrOffAck = s.pins.pwrOffAck ∧ Frame [.hkp, .apl, .pins] [] s t))) ∧
    ∀ (item : Nat) (detail temp : BitVec 16) (p : BootPtr) (stamp : Time), s.Awake → s.hkp.bist = some temp →
      s.ptr = some p → s.hkp.recs.length = 2 → s.hkp.pwrOff = true →
      Completes (.bistDone item detail true stamp) s (fun t =>
        t.hkp.bist = none ∧ t.pins.pwrOffAck = true ∧ t.ctl.inReset = true ∧ Pended 35 s t ∧
        (∃ r : BistRec, r.bytes ∈ t.hkp.recs ∧ r.result = (if item = 0 then 1 else 2) ∧ r.item = item ∧
          r.detail = detail ∧ r.bundleId = p.activeId ∧ r.temp = temp) ∧
        Frame [.hkp, .pins, .ctl] [] s t)

/-! ### Serial lanes (chapter 10) -/

/-- A lane is enabled, disabled, put into TEST, taken out of it, calibrates its offsets (R304, R306, R307, R313, R322).
Readings and choices of the model: log entries 50. -/
def Obligations.LanesEnableAndCalibrate : Prop :=
  ∀ (s : State) (i : Nat) (stamp : Time), s.Inv → s.Awake → i < 224 → s.sds.lanes.length = 224 →
    let others := fun (t : State) => ∀ j, j ≠ i → t.lane j = s.lane j
    (i < 192 → (s.lane i).st = .off → s.testFields i = false → Completes (.laneEnable i stamp) s (fun t =>
        t.lane i = { (s.lane i).restart stamp s.sds.band s.dieT with enabledAt := some stamp } ∧
        t.fld (F.SDS_LCTRL_ENABLE i) = 1 ∧ others t ∧ Frame [.sds] [R.SDS_LCTRL i] s t)) ∧
    (∀ p, laneFabricPort i = some p → bitOf (s.fld F.FAB_ROLE_PORT_EN) p = false →
      Completes (.laneEnable i stamp) s (fun t =>
        t.fld (F.SDS_LCTRL_ENABLE i) = 1 ∧ Frame [] [R.SDS_LCTRL i] s t)) ∧
    (∀ p, laneFabricPort i = some p → bitOf (s.fld F.FAB_ROLE_PORT_EN) p = true →
      (∀ k ∈ portLanes p, s.testFields k = false) → Completes (.laneEnable i stamp) s (fun t =>
        (∀ k ∈ portLanes p, (s.lane k).st = .off →
          t.lane k = { (s.lane k).restart stamp s.sds.band s.dieT with enabledAt := some stamp } ∧
          t.fld (F.SDS_LCTRL_ENABLE k) = 1) ∧
        (∀ k, k ∉ portLanes p ∨ (s.lane k).st ≠ .off → t.lane k = s.lane k) ∧
        Frame [.sds] ((portLanes p).map R.SDS_LCTRL) s t)) ∧
    ((s.lane i).st ≠ .failed → ((s.lane i).st ≠ .active ∨ i < 192) → Completes (.laneDisable i stamp) s (fun t =>
        (t.lane i).st = .off ∧ t.fld (F.SDS_LCTRL_ENABLE i) = 0 ∧ others t ∧ Frame [.sds] [R.SDS_LCTRL i] s t)) ∧
    (∀ p, laneFabricPort i = some p → (s.lane i).st = .active → Completes (.laneDisable i stamp) s (fun t =>
        (t.lane i).st = .off ∧ t.fld (F.SDS_LCTRL_ENABLE i) = 0 ∧
        (∀ k ∈ portLanes p, k ≠ i → (s.lane k).st = .active → (t.lane k).st = .offsetCal) ∧
        (∀ k, k ∉ portLanes p → t.lane k = s.lane k))) ∧
    ((s.lane i).st = .failed → Completes (.laneDisable i stamp) s (fun t =>
        t.fld (F.SDS_LCTRL_ENABLE i) = 0 ∧ Frame [] [R.SDS_LCTRL i] s t)) ∧
    (∀ loop pattern speed : BitVec 2, (s.lc = .test ∨ s.lc = .returned) → pattern ≠ 3 →
      ((loop ≠ 0 ∨ speed ≠ 0) → ((s.lane i).st ∈ [LaneState.offsetCal, .trainLow, .step] ∨
          (s.lane i).st = .active ∧ i < 192) → Completes (.laneTestWrite i loop pattern speed stamp) s (fun t =>
        (t.lane i).st = .test ∧ t.fld (F.SDS_LCTRL_LOOP i) = loop.toNat ∧
        t.fld (F.SDS_LCTRL_PATTERN i) = pattern.toNat ∧ t.fld (F.SDS_LCTRL_TEST_SPEED i) = speed.toNat ∧ others t ∧
        Frame [.sds, .out] [R.SDS_LCTRL i] s t)) ∧
      (loop = 0 → speed = 0 → (s.lane i).st = .test → Completes (.laneTestWrite i loop pattern speed stamp) s (fun t =>
        t.lane i = (s.lane i).restart stamp s.sds.band s.dieT ∧ t.fld (F.SDS_LCTRL_LOOP i) = 0 ∧ others t ∧
        Frame [.sds, .freeCount] [R.SDS_LCTRL i, R.SDS_LPRBS_ERR i] s t))) ∧
    (∀ loop pattern speed : BitVec 2, ((s.lc ≠ .test ∧ s.lc ≠ .returned) ∨ pattern = 3) →
      Completes (.laneTestWrite i loop pattern speed stamp) s (fun t => t = s)) ∧
    ∀ (w : Word) (t0 : Time), (s.lane i).st = .offsetCal → (s.lane i).runStart = some t0 → stamp < t0 + runBound →
      Completes (.offsetCalDone i w stamp) s (fun t =>
        t.lane i = { (s.lane i).fresh with st := .trainLow } ∧
        t.reg (R.SDS_LOFS i) = w &&& 0x3F3F3F3F ∧ t.out = .trainingSet i (t.ownTs i false 15 1 false) :: s.out ∧
        others t ∧ Frame [.sds, .out] [R.SDS_LOFS i] s t)

/-- Training sets, calibration runs and speed steps (R308 to R314, Table 10.3): for every lane that trains, a good training
set is taken and loads the partner's figures, a run's end loads its figures, and the countdown's end moves the transmitter a
step up; and what follows of them on a lane that is alone. Readings and choices of the model: log entries 50. -/
def Obligations.LanesTrain : Prop :=
  ∀ (s : State) (i : Nat) (stamp : Time), s.Inv → s.Awake → i < 224 → s.sds.lanes.length = 224 →
    let others := fun (t : State) => ∀ j, j ≠ i → t.lane j = s.lane j
    (∀ ts skew, s.trains i = true → s.NoTrial → ts.check = tsCheck ts →
      Completes (.trainingSetReceive i ts false skew stamp) s (fun t =>
        (t.lane i).partner = some [ts.s2, ts.s3, ts.s4, ts.s5, ts.s6] ∧ (t.lane i).seen = true ∧
        (t.lane i).skew = skew ∧ t.fld (F.SDS_LEYE_FAR_EW i) = ts.s4.toNat % 64 ∧
        t.fld (F.SDS_LEYE_FAR_EH i) = ts.s5.toNat)) ∧
    (s.trains i = true → (s.lane i).goes = true → Completes (.speedSwitch i stamp) s (fun t =>
        (t.lane i).st = (if (s.lane i).st = .test then .test else .step) ∧
        (t.lane i).speed = (s.lane i).speed + 1 ∧ (t.lane i).goes = false ∧ (t.lane i).partner = none ∧
        (t.lane i).farRun = (if i < 192 then some stamp else none) ∧
        (t.lane i).rxSpeed = (s.lane i).rxSpeed ∧ (t.lane i).rxDone = (s.lane i).rxDone ∧
        t.out = .trainingSet i (t.ownTs i false 15 (min 3 ((s.lane i).speed + 2)) false) :: s.out ∧ others t ∧
        Frame [.sds, .out] [] s t)) ∧
    (∀ (q : EyeResult) (t0 : Time), s.trains i = true → s.NoTrial → (s.lane i).runStart = some t0 →
      (s.lane i).adapted = false → stamp < t0 + runBound → Completes (.calRunDone i q stamp) s (fun t =>
        (t.lane i).adapted = true ∧ t.fld (F.SDS_LEYE_EW i) = q.ew.toNat ∧ t.fld (F.SDS_LEYE_EH i) = q.eh.toNat ∧
        t.reg (R.SDS_LCTLE i) = q.ctle &&& 0xF1F ∧ t.reg (R.SDS_LDFE i) = q.dfe &&& 0x7FFFFFFF ∧
        t.reg (R.SDS_LOFS i) = q.ofs &&& 0x3F3F3F3F ∧ t.flag (F.SDS_LSTATE_RX_INV i) = q.rxInv)) ∧
    (∀ ts skew, (s.lane i).st ≠ .off → Completes (.trainingSetReceive i ts true skew stamp) s (fun t =>
        t.fld (F.SDS_LCODE_ERR_CODE i) = s.countUp (F.SDS_LCODE_ERR_CODE i) ∧
        (s.trains i = true → (t.lane i).tsRun = 0) ∧ (s.trains i = false → t.sds = s.sds) ∧ others t ∧
        Frame [.sds, .freeCount] [(F.SDS_LCODE_ERR_CODE i).off] s t)) ∧
    (∀ ts skew, ts.check ≠ tsCheck ts → s.trains i = false →
      Completes (.trainingSetReceive i ts false skew stamp) s (fun t => t = s)) ∧
    (∀ ts skew, ts.check ≠ tsCheck ts → s.trains i = true → (s.lane i).rxNext = none → (s.lane i).rxDone = true →
      Completes (.trainingSetReceive i ts false skew stamp) s (fun t =>
        t.lane i = { s.lane i with tsRun := 0 } ∧ others t ∧ Frame [.sds] [] s t)) ∧
    (∀ ts skew t0, ts.check = tsCheck ts → i < 192 → (s.lane i).st = .trainLow → (s.lane i).rxDone = false →
      (s.lane i).rxNext = none → (s.lane i).runStart = some t0 → (s.lane i).adapted = false → (s.lane i).farRun = none →
      bitOf ts.s3.toNat 3 = true → bitOf ts.s2.toNat 6 = false →
      Completes (.trainingSetReceive i ts false skew stamp) s (fun t =>
        t.lane i = { s.lane i with
          partner := some [ts.s2, ts.s3, ts.s4, ts.s5, ts.s6], seen := true, tsRun := (s.lane i).tsRun + 1, skew := skew } ∧
        others t ∧ Frame [.sds] [(F.SDS_LEYE_FAR_EW i).off] s t)) ∧
    (∀ ts skew, ts.check = tsCheck ts → i < 192 → (s.lane i).st = .trainLow → (s.lane i).rxDone = true →
      (s.lane i).rxNext = none → (s.lane i).goes = false → (s.lane i).speed = 0 → (s.lane i).farRun = none →
      bitOf ts.s3.toNat 3 = true → bitOf ts.s3.toNat 1 = true → bitOf ts.s2.toNat 6 = false → bitOf ts.s2.toNat 5 = true →
      Completes (.trainingSetReceive i ts false skew stamp) s (fun t =>
        (t.lane i).goes = true ∧ t.out.length = s.out.length + 16 ∧
        t.out.head? = some (.trainingSet i (t.ownTs i true 0 1 false)) ∧
        others t ∧ Frame [.sds, .out] [(F.SDS_LEYE_FAR_EW i).off] s t)) ∧
    ∀ (q : EyeResult) (t0 : Time), (s.lane i).st = .trainLow → (s.lane i).runStart = some t0 → stamp < t0 + runBound →
      (s.lane i).adapted = false → (s.lane i).rxDone = false → (s.lane i).partnerDone = false →
      let done := (s.lane i).rxSpeed == 3 || decide (4096 ≤ (s.lane i).tsRun)
      Completes (.calRunDone i q stamp) s (fun t =>
        t.lane i = { s.lane i with adapted := true, rxDone := done, runStart := if done then none else some t0 } ∧
        t.fld (F.SDS_LCAL_TCAL i) = (if i < 192 ∨ (s.lane i).rxSpeed = 3 then (s.lane i).runTemp.toNat
          else s.fld (F.SDS_LCAL_TCAL i)) ∧ others t ∧
        Frame [.sds, .out] [R.SDS_LEYE i, R.SDS_LCTLE i, R.SDS_LDFE i, R.SDS_LOFS i, R.SDS_LSTATE i, R.SDS_LCAL i] s t)

/-- Lanes that fail (R313, R314, R318, R321): FAILED with its code, the summary, FAULT of the node. Readings and choices of
the model: log entries 15, 48, 50. Readings and choices of the model: log entries 48, 50. -/
def Obligations.LanesFail : Prop :=
  ∀ (s : State) (i : Nat) (stamp : Time), s.Inv → s.Awake → i < 224 → s.sds.lanes.length = 224 → s.NoTrial →
    (s.node = .sapling ∨ s.node = .member) → (s.lane i).st ≠ .off → (s.lane i).st ≠ .failed →
    let failed := fun (code : Nat) (t : State) =>
      (t.lane i).st = .failed ∧ t.fld (F.SDS_LFAIL_CODE i) = code ∧ t.fld F.SDS_SUMMARY_FAIL_VALID = 1 ∧ t.node = .fault
    let waits := (s.lane i).st ∈ [LaneState.offsetCal, .trainLow, .step]
    (((s.lane i).runStart.isSome = true ∨ (s.lane i).farRun.isSome = true ∨ s.sds.bgRun = some i) →
      Completes (.calRunTimeout i stamp) s (failed 0x01)) ∧
    (i < 192 → waits → (s.lane i).seen = false → Completes (.noPartnerTimeout i stamp) s (failed 0x02)) ∧
    (∀ p, laneFabricPort i = some p → (s.sds.firstTs.getD p none).isSome = true → waits →
      ((s.lane i).seen = false → Completes (.noPartnerTimeout i stamp) s (failed 0x02)) ∧
      ((s.lane i).seen = true → (s.lane i).runStart.isSome = true →
        Completes (.noPartnerTimeout i stamp) s (failed 0x01)) ∧
      ((s.lane i).seen = true → (s.lane i).runStart = none →
        Completes (.noPartnerTimeout i stamp) s (fun t => ∃ code, 1 ≤ code ∧ code ≤ 9 ∧ failed code t))) ∧
    (i < 192 → (s.lane i).st = .active → Completes (.laneLockLost i stamp) s (failed 0x07))

/-- A retrain of a fabric port (R318): every lane of it that is neither OFF nor FAILED starts again from OFFSET_CAL, or at
the fourth time within 60 s fails; a request on a drive lane or on a lane that is not ACTIVE is ignored. Readings and choices
of the model: log entries 50. Readings and choices of the model: log entries 15, 50. -/
def Obligations.PortsRetrain : Prop :=
  ∀ (s : State) (i p : Nat) (stamp : Time), s.Inv → s.Awake → s.sds.lanes.length = 224 →
    (laneFabricPort i = some p → (s.lane i).st = .active →
      let recent := (s.sds.retrains.getD p []).filter
        (fun u => decide (stamp - 60000000000 * 256 ≤ u) && decide (u < stamp))
      ∀ ts skew, ts.check = tsCheck ts →
      ∀ c ∈ [Instr.laneRetrainRequest i stamp, .laneLockLost i stamp, .trainingSetReceive i ts false skew stamp],
        (recent.length < 3 → Completes c s (fun t =>
          ∀ k ∈ portLanes p, ((s.lane k).st ∈ [LaneState.off, .failed] → t.lane k = s.lane k) ∧
            ((s.lane k).st ∉ [LaneState.off, .failed] → (t.lane k).st = .offsetCal ∧ (t.lane k).runStart = some stamp))) ∧
        (3 ≤ recent.length → s.NoTrial → Completes c s (fun t =>
          ∀ k ∈ portLanes p, (s.lane k).st ≠ .off → (t.lane k).st = .failed ∧
            ((s.lane k).st ≠ .failed → t.fld (F.SDS_LFAIL_CODE k) = 0x08)))) ∧
    ((laneFabricPort i = none ∨ (s.lane i).st ≠ .active) →
      Completes (.laneRetrainRequest i stamp) s (fun t => t = s))

/-- Background recalibration and far-end loop-back (R316, R317, R323, R324). Readings and choices of the model: log entries
50. Readings and choices of the model: log entries 50. -/
def Obligations.LanesRecalibrateAndLoop : Prop :=
  ∀ (s : State) (i : Nat) (stamp : Time), s.Inv → s.Awake → i < 224 → s.sds.lanes.length = 224 →
    let others := fun (t : State) => ∀ j, j ≠ i → t.lane j = s.lane j
    let asks := Out.trainingSet i (s.ownTs i false 15 (min 3 ((s.lane i).speed + 1)) true)
    (∀ rest, s.flag F.SDS_CTRL_BGCAL_EN = true → s.sds.bgRun = none → s.sds.due = i :: rest → (s.lane i).st = .active →
      Completes (.bgRecalStart stamp) s (fun t =>
        t.sds = { s.sds with
          due := rest.filter (fun k => (s.lane k).st == .active), bgRun := some i, bgStart := stamp, bgTemp := s.dieT
          bgBand := s.sds.band } ∧ Frame [.sds] [] s t)) ∧
    (∀ q, s.sds.bgRun = some i → stamp < s.sds.bgStart + runBound →
      s.meetsMargin s.sds.bgBand q.ew.toNat q.eh.toNat = true → Completes (.bgRecalDone q stamp) s (fun t =>
        t.sds = { s.sds with bgRun := none } ∧ t.fld (F.SDS_LEYE_EW i) = q.ew.toNat ∧
        t.fld (F.SDS_LCAL_TCAL i) = s.sds.bgTemp.toNat ∧ Pended 378 s t ∧
        Frame [.sds, .ctl] [R.SDS_LEYE i, R.SDS_LCTLE i, R.SDS_LDFE i, R.SDS_LOFS i, R.SDS_LSTATE i, R.SDS_LCAL i] s t)) ∧
    ((s.lane i).st ∈ [LaneState.trainLow, .step, .test] → Completes (.feLoopRequest i true stamp) s (fun t =>
        t.lane i = { s.lane i with loopOut := some stamp, loopRetry := false } ∧ t.out = asks :: s.out ∧ others t ∧
        Frame [.sds, .out] [] s t)) ∧
    ((s.lane i).st ∈ [LaneState.trainLow, .step, .test] → (s.lane i).loopOut = none →
      Completes (.feLoopRequest i false stamp) s (fun t =>
        t.lane i = { s.lane i with loopIn := true } ∧ others t ∧ Frame [.sds] [] s t)) ∧
    (∀ rtt, i < 192 → (s.lane i).loopOut.isSome = true → Completes (.feLoopEnd i rtt stamp) s (fun t =>
        t.lane i = { s.lane i with loopOut := none, loopMeasured := (s.lane i).ready && (s.lane i).speed == 3 } ∧
        t.out = .loopMarkers i 64 :: s.out ∧ t.fld (F.SDS_LRTT_RTT i) = rtt.toNat ∧
        t.fld (F.SDS_LRTT_VALID i) = 1 ∧ Pended 381 s t ∧ others t ∧
        Frame [.sds, .ctl, .out] [R.SDS_LRTT i] s t)) ∧
    (∀ rtt, (s.lane i).loopOut = none → Completes (.feLoopEnd i rtt stamp) s (fun t =>
        t.lane i = { s.lane i with loopIn := false } ∧ others t ∧ Frame [.sds] [] s t)) ∧
    ((s.lane i).loopRetry = true → Completes (.feLoopRetry i stamp) s (fun t =>
        t.lane i = { s.lane i with loopRetry := false, loopOut := some stamp } ∧ t.out = asks :: s.out ∧ others t ∧
        Frame [.sds, .out] [] s t))

/-! ### Panel drive link (chapter 9) -/

/-- LINE_END (R276, R277, R282): nothing while the line may not end; else the running line's items are in flight on every
lane from this instant, and the next line begins, or the raster stops where the link is disabled. FRAME_DONE of a fill whose
last line has ended (R275), and a stall of a fill for a group that is not complete (R140, R276). Readings and choices of the
model: log entries 69, 70. Readings and choices of the model: log entries 69, 70. -/
def Obligations.LinesAndFillsRun : Prop :=
  (∀ (s : State) (stamp : Time), s.Inv → s.Awake → s.pdl.lanes.length = 192 →
     (s.lineMayEnd = false → Completes (.lineEnd stamp) s (fun t => t = s)) ∧
     (s.lineMayEnd = true → Completes (.lineEnd stamp) s (fun t =>
       (∀ i, (t.drive i).flight = (s.drive i).flight ++ (s.drive i).sending) ∧
       (s.flag F.PDL_CTRL_LINK_EN = true → t.pdl.kind ≠ .none) ∧
       (s.flag F.PDL_CTRL_LINK_EN = false → t.pdl.kind = .none ∧ t.fld F.PDL_RASTER_KIND = 0 ∧
         ∀ i, (t.drive i).sending = [])))) ∧
  (∀ (s : State) (fsn : Fsn) (f : Fill), s.Inv → s.Awake →
     (∀ slate, s.pdl.fills.find? (fun x => x.fsn == fsn && x.slate == slate) = some f → f.lastEnd.isSome = true →
       f.unsent = false → f.frameDone = false → (slate = true ∨ f.unconf ≠ []) →
       Completes (.frameDone fsn slate) s (fun t =>
         (∀ x ∈ t.pdl.fills, x.fsn = fsn → x.slate = slate → x.frameDone = true) ∧
         t.pdl.fills.length = s.pdl.fills.length ∧ Pended 314 s t ∧ Frame [.pdl, .ctl, .freeCount] [] s t)) ∧
     ∀ line c, s.pdl.running = some (fsn, false, line) → s.fillOf fsn = some f → f.lateGroups = [] → f.underran = false →
       (List.range 16).find? (fun c => !f.groupComplete (16 * line + c)) = some c →
       Completes (.fillUnderrunStall fsn) s (fun t =>
         t.fld F.BIN_LATE_COUNT = s.countUp F.BIN_LATE_COUNT ∧
         t.fld F.PDL_UNDERRUN_COUNT =
           s.countUp F.PDL_UNDERRUN_COUNT ∧
         t.ctl.pend = pendSet (getBits (s.reg (R.CPX_EV_ROUTE 315)) 11 0) 315
           (pendSet (getBits (s.reg (R.CPX_EV_ROUTE 210)) 11 0) 210 s.ctl.pend) ∧
         Frame [.pdl, .ctl, .freeCount] [F.BIN_LATE_COUNT.off, F.PDL_UNDERRUN_COUNT.off] s t))

/-- CONFs and their absence (R265, R283, R286, R295, R296, R305), shown on an item of a slate line; a CONF with a wrong CRC
is only counted, as are coding errors; a lane that is not ACTIVE takes none. Readings and choices of the model: log entries
70. Readings and choices of the model: log entries 70. -/
def Obligations.ItemsConfirmOrFail : Prop :=
  ∀ (s : State) (lane : Nat) (seq : BitVec 16) (fsn : Fsn) (slot line : Nat), s.Inv → s.Awake → lane < 192 →
    s.pdl.lanes.length = 192 →
    (s.carries lane = true → ∀ status value n stamp, Completes (.confReceive lane seq status value n false stamp) s (fun t =>
      (lane < 96 → t.fld F.PDL_CRC_ERR0_RET = s.countUp F.PDL_CRC_ERR0_RET ∧
        t.fld F.PDL_CRC_ERR0_CODE = min 65535 (s.fld F.PDL_CRC_ERR0_CODE + n)) ∧
      (96 ≤ lane → t.fld F.PDL_CRC_ERR1_RET = s.countUp F.PDL_CRC_ERR1_RET ∧
        t.fld F.PDL_CRC_ERR1_CODE = min 65535 (s.fld F.PDL_CRC_ERR1_CODE + n)) ∧
      Frame [.freeCount] [F.PDL_CRC_ERR0_RET.off, F.PDL_CRC_ERR1_RET.off, R.SDS_LCODE_ERR lane] s t)) ∧
    (s.carries lane = false → ∀ status value n ok stamp,
      Completes (.confReceive lane seq status value n ok stamp) s (fun t => t = s)) ∧
    ((s.drive lane).sending.lookup seq = none → (s.drive lane).flight.lookup seq = some (.line fsn true slot line) →
      (s.carries lane = true → ∀ value stamp, Completes (.confReceive lane seq 0 value 0 true stamp) s (fun t =>
        (t.drive lane).consec = 0 ∧ (t.drive lane).flight = (s.drive lane).flight.filter (fun p => p.1 != seq) ∧
        (∀ f ∈ t.pdl.fills, f.fsn = fsn → f.slate = true → (lane, line) ∉ f.unconf) ∧
        (∀ j, j ≠ lane → t.drive j = s.drive j) ∧ Frame [.pdl] [] s t)) ∧
      ((s.drive lane).consec ≠ 2 → ∀ (value : BitVec 24) (stamp : Time),
        ∀ c ∈ [Instr.rectConfTimeout lane seq, .confReceive lane seq 1 value 0 true stamp],
        (c = .rectConfTimeout lane seq ∨ s.carries lane = true) → Completes c s (fun t =>
          (t.drive lane).consec = (s.drive lane).consec + 1 ∧
          (t.drive lane).flight = (s.drive lane).flight.filter (fun p => p.1 != seq) ∧
          (∀ f ∈ t.pdl.fills, f.fsn = fsn → f.slate = true → line ∈ f.resend) ∧
          Pended (if lane < 96 then 317 else 349) s t ∧
          Frame [.pdl, .ctl, .freeCount] [F.PDL_ITEM_FAIL0_COUNT.off, F.PDL_ITEM_FAIL1_COUNT.off] s t)))

/-- Latency echoes (R290, R291, R294) and a driver that answers no calibration or is silent (R294, R300). A driver's STATUS
(R295, R297, R319): recorded; a zone temperature is taken from green lanes only; new coding errors raise their event.
Readings and choices of the model: log entries 70. -/
def Obligations.DriversAnswer : Prop :=
  (∀ (s : State) (lane : Nat) (stamp : Time), s.Inv → s.Awake → lane < 192 → s.pdl.lanes.length = 192 →
     ((s.lane lane).st = .active → Completes (.echoSend lane stamp) s (fun t =>
       t.drive lane = { s.drive lane with echoId := (s.drive lane).echoId + 1, echoAt := some stamp } ∧
       t.out = .echo lane ((s.drive lane).echoId + 1) (~~~((s.drive lane).echoId + 1)) :: s.out ∧ Frame [.pdl, .out] [] s t)) ∧
     (∀ (turn : BitVec 24) (t0 c0 : Time), s.carries lane = true → (s.drive lane).echoAt = some t0 → (s.drive lane).bringL = none →
       (s.drive lane).calStart = some c0 → stamp < c0 + 10000000 * 256 → (s.drive lane).samples = [] →
       (s.drive lane).calSpan = none → (s.drive lane).calCount ≠ 255 →
       Completes (.echoReplyReceive lane (s.drive lane).echoId turn 0 stamp) s (fun t =>
         (t.drive lane).echoAt = none ∧ (t.drive lane).samples = [stamp - t0 - (turn.toNat : Int)] ∧
         (t.drive lane).calCount = (s.drive lane).calCount + 1 ∧ Frame [.pdl] [] s t)) ∧
     (∀ (e1 : Byte) (turn : BitVec 24), e1 ≠ (s.drive lane).echoId →
       Completes (.echoReplyReceive lane e1 turn 0 stamp) s (fun t => t = s)) ∧
     (s.NoTrial → (s.node = .sapling ∨ s.node = .member) → s.flag F.HKP_FAULT_VALID = false →
       ((s.drive lane).calStart.isSome = true → (s.drive lane).bringL = none → Completes (.latencyCalTimeout lane) s (fun t =>
         t.node = .fault ∧ t.fld F.HKP_FAULT_CODE = 0x14 ∧ t.fld F.HKP_FAULT_BLOCK = 0x16 + lane / 96)) ∧
       ((s.lane lane).st = .active → Completes (.driverSilentTimeout lane) s (fun t =>
         t.node = .fault ∧ t.fld F.HKP_FAULT_CODE = 0x10 ∧ t.fld F.HKP_FAULT_BLOCK = 0x16 + lane / 96)))) ∧
  (∀ (s : State) (lane : Nat) (st : DriverStatus) (stamp : Time), s.Inv → s.Awake → lane < 192 →
     s.pdl.lanes.length = 192 → s.carries lane = true → s.pdl.tick = none → lane ≠ 1 → lane ≠ 97 →
     (st.codeErr.toNat ≤ (s.lane lane).drvErr → Completes (.driverStatusReceive lane st 0 true stamp) s (fun t =>
       t.drive lane = { s.drive lane with
         lastStatus := some stamp, codeErrs := st.codeErr
         zoneTemps := (s.drive lane).zoneTemps ++
           if lane % 3 == 1 && bitOf st.flags.toNat 3 then [(stamp, st.zoneT)] else [] } ∧
       (∀ j, j ≠ lane → t.drive j = s.drive j) ∧ Frame [.pdl, .sds] [] s t)) ∧
     ((s.lane lane).drvErr < st.codeErr.toNat → (s.lane lane).drvEvAt = none → (s.lane lane).drvRises = [] →
       st.codeErr.toNat < (s.lane lane).drvErr + 16 → Completes (.driverStatusReceive lane st 0 true stamp) s (fun t =>
         (t.drive lane).lastStatus = some stamp ∧ Pended 380 s t ∧ Frame [.pdl, .sds, .ctl] [] s t)))

/-! ### Aperture layer (chapter 11) -/

/-- Requests (R336 to R338, Table 11.4): taken for judgement once, accepted under the next SEQ or refused with its code, and
started one at a time. Readings and choices of the model: log entries 71. -/
def Obligations.ApertureRequests : Prop :=
  ∀ s : State, s.Inv →
    (∀ imm, s.apl.pendingReq = none → Completes (.aplRequestGo imm) s (fun t =>
      t.apl = { s.apl with pendingReq := some { seq := 0, rect := s.reg R.APL_REQ_RECT, fsn := s.reg R.APL_REQ_FSN
                                                immediate := imm
                                                buf := s.addr F.APL_REQ_BUF_LO_ADDR_LO F.APL_REQ_BUF_HI_ADDR_HI } } ∧
      t.fld F.APL_REQ_RESULT_PENDING = 1 ∧ Frame [.apl] [R.APL_REQ_RESULT] s t)) ∧
    (∀ imm, s.apl.pendingReq ≠ none → Completes (.aplRequestGo imm) s (fun t =>
      t.fld F.APL_REQ_RESULT_OVERRUN = 1 ∧ Pended 410 s t ∧ Frame [.ctl, .freeCount] [R.APL_REQ_RESULT] s t)) ∧
    (∀ r, s.apl.pendingReq = some r →
      let n := (rectKH r.rect + 1) * rowSize r.rect
      let code := s.judge r.rect (rangeInDram r.buf n && !s.badRange r.buf n)
      (code = 0 → Completes .aplRequestJudged s (fun t =>
        t.apl.queue = s.apl.queue ++ [{ r with seq := s.apl.nextSeq, bits := s.bytes r.buf n }] ∧
        t.apl.nextSeq = s.apl.nextSeq + 1 ∧ t.apl.pendingReq = none ∧ t.reg R.APL_REQ_SEQ = s.apl.nextSeq ∧
        t.fld F.APL_REQ_RESULT_STATUS = 0 ∧ t.fld F.APL_REQ_RESULT_PENDING = 0 ∧
        Frame [.apl] [R.APL_REQ_RESULT, R.APL_REQ_SEQ, R.APL_STATUS] s t)) ∧
      (code ≠ 0 → code ≠ 3 → Completes .aplRequestJudged s (fun t =>
        t.apl = { s.apl with pendingReq := none } ∧ t.fld F.APL_REQ_RESULT_STATUS = code ∧
        t.fld F.APL_REQ_RESULT_PENDING = 0 ∧ Pended 410 s t ∧
        Frame [.apl, .ctl, .freeCount] [R.APL_REQ_RESULT] s t))) ∧
    (∀ r, s.linesOpen = true → s.apl.writing = none → s.apl.restore = none → s.apl.queue.find? s.canStart = some r →
      Completes .aplRequestStart s (fun t =>
        t.apl = { s.apl with
          writing := some r, writeTries := 0
          journal := if s.apl.slot < 128 then s.apl.journal else s.apl.journal.set (1 - s.apl.half) erasedHalf } ∧
        t.fld F.APL_STATUS_JOURNAL_BUSY = 1 ∧
        Frame [.apl] [R.APL_STATUS] s t)) ∧
    (s.apl.queue.find? s.canStart = none → Completes .aplRequestStart s (fun t => t = s))

/-- The journal and the lines (R331, R334, R338 to R342, R344): a record read back puts its request in flight and its
contents into the mask; a line end toggles the polarity of its common and moves the request on. Readings and choices of the
model: log entries 71. Readings and choices of the model: log entries 71. -/
def Obligations.ApertureJournalAndLines : Prop :=
  ∀ (s : State) (r : AplReq) (stamp : Time), s.Inv →
    (s.apl.writing = some r → Completes (.journalWriteDone true stamp) s (fun t =>
      t.apl.mask = writeRect s.apl.mask r.rect r.bits ∧ t.apl.writing = none ∧
      t.apl.flight = s.apl.flight ++ [{ r with next := 0 }] ∧
      t.apl.queue = s.apl.queue.filter (fun x => x.seq != r.seq))) ∧
    (s.apl.writing = some r → s.apl.writeTries = 0 → Completes (.journalWriteDone false stamp) s (fun t =>
      t.apl = { s.apl with writeTries := 1 } ∧ Frame [.apl] [] s t)) ∧
    (s.apl.lineIdle = false → s.apl.line = some r.seq → s.apl.flight.find? (fun x => x.seq == r.seq) = some r →
      Completes (.aplLineEnd stamp) s (fun t =>
        t.apl.pol = s.apl.pol ^^^ (1#128 <<< (rectK0 r.rect + r.next)) ∧
        (r.next < rectKH r.rect → t.apl.flight =
          s.apl.flight.map (fun x => if x.seq == r.seq then { x with next := x.next + 1 } else x)) ∧
        (rectKH r.rect ≤ r.next → t.apl.flight = s.apl.flight.filter (fun x => x.seq != r.seq) ∧
          t.reg R.APL_DONE_SEQ = r.seq))) ∧
    (∀ n, s.apl.lineIdle = false → s.apl.line = none → s.apl.restore = some n → n + 1 < 256 →
      Completes (.aplLineEnd stamp) s (fun t => t.apl.restore = some (n + 1))) ∧
    (∀ n, s.apl.settling = true → s.apl.restore = some n → s.linesOpen = true →
      let w : AplWave := { common := n % 128, pol := if n < 128 then 1 else -1, seg := 0
                           cells := cellList 256 (s.apl.mask.toNat / 2 ^ (256 * (n % 128)) % 2 ^ 256) }
      Completes (.aplRefSettled stamp) s (fun t =>
        t.apl.settling = false ∧ t.apl.lineIdle = false ∧ t.fld F.APL_STATUS_BAND = s.apl.band % 8 ∧
        t.apl.wave = some w ∧ t.pins.aplOut = w.levels 1 ∧ t.out = .aplPhase (chainBits (w.levels 1)) :: s.out ∧ Frame [.apl, .pins, .out] [R.APL_STATUS] s t))

/-- Enabling, restoring from the initial mask, tile power and the faults of Table 11.7 (R341, R343 to R345). Readings and
choices of the model: log entries 71. Readings and choices of the model: log entries 71. -/
def Obligations.ApertureEnablesAndFails : Prop :=
  ∀ (s : State) (stamp : Time), s.Inv →
    Completes (.aplEnableWrite false stamp) s (fun t => t.fld F.APL_CTRL_ENABLE = 0 ∧ Frame [] [R.APL_CTRL] s t) ∧
    (∀ m, s.flag F.APL_CTRL_ENABLE = false → s.flag F.APL_STATUS_RESTORED = false → s.apl.restore = none →
      s.apl.restoreHalf = none → s.apl.initialMask = some m → Completes (.aplEnableWrite true stamp) s (fun t =>
        t.fld F.APL_CTRL_ENABLE = 1 ∧ t.apl.mask = m ∧ t.apl.restore = some 0 ∧ t.apl.nextSeq = 1 ∧
        t.apl.restoreInfo = 0x80000000)) ∧
    (∀ n, n < 1000 → Completes (.tilePowerFail n) s (fun t => t = s)) ∧
    (∀ n, s.hkp.bist = none → 1000 ≤ n → Completes (.tilePowerFail n) s (fun t =>
      t.apl = { s.apl with stopped := true } ∧ t.pins.tilePg = false ∧
      t.pins.aplOut = (if s.apl.lineIdle then [] else s.pins.aplOut) ∧ Frame [.apl, .pins] [] s t)) ∧
    (∀ n, n < 10000 → Completes (.aplDriverFault n) s (fun t => t = s)) ∧
    (s.NoTrial → (s.node = .sapling ∨ s.node = .member) → s.flag F.HKP_FAULT_VALID = false →
      (∀ n, 10000 ≤ n → Completes (.aplDriverFault n) s (fun t =>
        t.node = .fault ∧ t.fld F.HKP_FAULT_CODE = 0x11 ∧ t.fld F.HKP_FAULT_BLOCK = 0x19 ∧
        t.fld F.APL_STATUS_FAULT_CODE = 1)) ∧
      (s.apl.restore = some 0 → s.apl.lineIdle = true → s.apl.settling = false →
        Completes .aplRestoreTempTimeout s (fun t =>
          t.node = .fault ∧ t.fld F.HKP_FAULT_CODE = 0x13 ∧ t.fld F.HKP_FAULT_BLOCK = 0x19)))

/-! ### Overlay layers and blitter (chapter 8) -/

/-- Layer commits and latches (R237, R243 to R247): a descriptor set without fault is held, a faulty one is rejected with its
layer and word; a frame latches the applied set once. The flattened cache, retirement and the slate's end (R242, R249, R254).
Readings and choices of the model: log entries 63, 67. -/
def Obligations.LayersCommitCacheRetire : Prop :=
  (∀ (s : State) (stamp : Time) (fsn : Fsn), s.Inv → s.Awake →
     (setFault ((List.range 8).map s.liveDesc) = none → Completes (.layerCommitGo stamp) s (fun t =>
       t.lyr.held = some { descs := (List.range 8).map s.liveDesc, target := s.reg R.LYR_TARGET_FSN, stamp := stamp } ∧
       t.fld F.LYR_STATUS_HELD = 1 ∧ t.lyr.applied = s.lyr.applied ∧ Frame [.lyr] [R.LYR_STATUS] s t)) ∧
     (∀ f, setFault ((List.range 8).map s.liveDesc) = some f → f.1 < 8 → f.2 < 16 →
       Completes (.layerCommitGo stamp) s (fun t =>
         t.lyr = s.lyr ∧ t.fld F.LYR_STATUS_REJECT = 1 ∧ t.fld F.LYR_STATUS_REJ_LAYER = f.1 ∧
         t.fld F.LYR_STATUS_REJ_WORD = f.2 ∧ Pended 274 s t ∧ Frame [.ctl] [R.LYR_STATUS] s t)) ∧
     ((s.latched fsn).layersLatched = false → s.node ≠ .fault → s.lyr.held = none → Completes (.layerLatch fsn) s (fun t =>
       (t.latched fsn).layers = s.lyr.applied ∧ (t.latched fsn).layersLatched = true ∧
       (∀ m, m ≠ fsn → t.latched m = s.latched m) ∧ Frame [.pdl, .lyr] [R.LYR_STATUS] s t)) ∧
     ((s.latched fsn).layersLatched = true ∨ s.node = .fault →
       Completes (.layerLatch fsn) s (fun t => t = s))) ∧
  (∀ (s : State), s.Inv → s.Awake →
     (∀ slot, slot < s.lyr.cache.length → (s.lyr.cache.getD slot {}).group.isEmpty = false →
       (s.lyr.cache.getD slot {}).ready = false → Completes (.flattenDone slot) s (fun t =>
         (t.lyr.cache.getD slot {}).ready = true ∧
         (∀ i (h : i < (s.flatBytes (s.lyr.cache.getD slot {}).group).length),
           Memory.read t.mem (s.cacheAddr + slot * 0x4000000 + i) = (s.flatBytes (s.lyr.cache.getD slot {}).group)[i]) ∧
         MemOutside (s.cacheAddr + slot * 0x4000000) (s.flatBytes (s.lyr.cache.getD slot {}).group).length s t ∧
         Frame [.mem, .lyr] [R.LYR_STATUS] s t)) ∧
     (∀ fsn, s.pdl.frames.any (fun l => l.fsn == fsn && !l.retired) = true → laterFsn fsn s.S = false →
       s.rectOut fsn = false → s.binOpen fsn = false → Completes (.frameRetired fsn) s (fun t =>
         (∀ l ∈ t.pdl.frames, l.fsn = fsn → l.retired = true) ∧ t.reg R.LYR_RETIRED_FSN = fsn ∧ Pended 275 s t ∧
         Frame [.pdl, .lyr, .grv, .ctl, .freeCount] [R.LYR_RETIRED_FSN, R.LYR_STATUS, F.COL_STATUS_RETIRE_PENDING.off] s t)) ∧
     (s.lyr.slateWait = true → s.pdl.fills.any (fun f => f.slate && f.frameDone && f.unconf.isEmpty && !f.unsent) = true →
       Completes .slateFillEnd s (fun t =>
         t.lyr = { s.lyr with slateDone := true } ∧ t.pdl.fills = s.pdl.fills.filter (fun f => !f.slate) ∧
         Frame [.lyr, .pdl] [] s t)) ∧
     (s.lyr.slateWait = false ∨ (∀ f ∈ s.pdl.fills, f.slate = false) → Completes .slateFillEnd s (fun t => t = s)))

/-- The blitter starts and ends (R256, R258 to R261): refused while busy; else busy with the first failing check's code, or
with the pixels to write. Readings and choices of the model: log entries 66, 67. -/
def Obligations.BlitterRuns : Prop :=
  ∀ (s : State), s.Inv → s.Awake →
    (∀ (sf df : BitVec 2) (g : Byte) (op : BltOpKind) (c : Instr),
      (op, c) ∈ [(BltOpKind.copy, Instr.bltCopy sf df g), (.fill, .bltFill sf df g), (.blend, .bltBlend sf df g)] →
      (s.lyr.blt ≠ none → Completes c s (fun t =>
        t.fld F.BLT_STATUS_REJECTED = 1 ∧ Pended 305 s t ∧ Frame [.ctl, .freeCount] [R.BLT_STATUS] s t)) ∧
      (s.lyr.blt = none → s.bltCheck op (s.bltSrc sf.toNat) (s.bltDst df.toNat) ≠ 0 → Completes c s (fun t =>
        t.lyr = { s.lyr with blt := some { code := s.bltCheck op (s.bltSrc sf.toNat) (s.bltDst df.toNat), todo := [] } } ∧
        t.fld F.BLT_STATUS_BUSY = 1 ∧ t.reg R.BLT_CTRL = bltCtrl op sf df g ∧
        Frame [.lyr] [R.BLT_CTRL, R.BLT_STATUS] s t)) ∧
      (s.lyr.blt = none → s.bltCheck op (s.bltSrc sf.toNat) (s.bltDst df.toNat) = 0 →
        s.bltPoison op (s.bltSrc sf.toNat) (s.bltDst df.toNat) = none → Completes c s (fun t =>
        t.lyr = { s.lyr with
          blt := some { code := 0, todo := s.bltRuns op (s.bltSrc sf.toNat) (s.bltDst df.toNat) g.toNat } } ∧
        t.fld F.BLT_STATUS_BUSY = 1 ∧ t.reg R.BLT_CTRL = bltCtrl op sf df g ∧
        Frame [.lyr] [R.BLT_CTRL, R.BLT_STATUS] s t))) ∧
    (∀ b, s.lyr.blt = some b → Completes .bltDone s (fun t =>
      t.lyr = { s.lyr with blt := none } ∧ t.fld F.BLT_STATUS_BUSY = 0 ∧
      (b.todo = [] → t.fld F.BLT_STATUS_CODE = b.code % 2 ^ (F.BLT_STATUS_CODE.hi + 1 - F.BLT_STATUS_CODE.lo) ∧
        Pended 304 s t ∧ Frame [.lyr, .ctl, .freeCount] [R.BLT_STATUS] s t) ∧
      ∀ a, (∀ r ∈ b.todo, a < r.1 ∨ r.1 + r.2.length ≤ a) → Memory.read t.mem a = Memory.read s.mem a))

/-! ### Memory (chapter 16) -/

/-- Writes of DRAM and SRAM (R250, R463, R466, R477, R484): stored where nothing is pinned, discarded and reported where
something is, and never beyond their own bytes but for the L2's cleaned blocks; a core's store of blocks that the L2 holds
stays in it; a request that is held back waits. Readings and choices of the model: log entries 2, 64. -/
def Obligations.MemoryWrites : Prop :=
  ∀ (s : State) (src : Byte) (a : Nat) (data : List Byte) (op : L2Op) (stamp : Time), s.Inv → s.Awake → data ≠ [] →
    (op ≠ .clean ∨ isCore src.toNat = false →
      Completes (.dmcWriteRequest src a data op stamp) s (MemOutside a data.length s)) ∧
    (s.DmcOpen → isCore src.toNat = false → inDram a = true → inDram (a + data.length - 1) = true →
      (s.pinned a data.length = false → (∀ l ∈ linesOf a data.length, s.lineBad l = false) →
        Completes (.dmcWriteRequest src a data op stamp) s (fun t =>
          (∀ i (h : i < data.length), Memory.read t.mem (a + i) = data[i]) ∧ MemOutside a data.length s t ∧
          Frame [.mem, .dmc] [] s t)) ∧
      (s.pinned a data.length = true → Completes (.dmcWriteRequest src a data op stamp) s (fun t =>
        t.fld F.LYR_PIN_FAULT_COUNT_COUNT = s.countUp F.LYR_PIN_FAULT_COUNT_COUNT ∧ Pended 276 s t ∧
        Frame [.ctl, .dmc, .freeCount]
          [R.LYR_PIN_FAULT_LO, R.LYR_PIN_FAULT_HI, F.LYR_PIN_FAULT_COUNT_COUNT.off] s t))) ∧
    (s.DmcOpen → isCore src.toNat = true → inDram a = true → (blocksOf a data.length).all s.l2Holds = true → op = .plain →
      Completes (.dmcWriteRequest src a data op stamp) s (fun t =>
        t = { s with ctl := { s.ctl with l2 := s.ctl.l2.map (fun x => x.store a data) } })) ∧
    (s.DmcOpen → inMemory a = false → Completes (.dmcWriteRequest src a data op stamp) s (fun t => t = s)) ∧
    (let r : DmcReq := { src := src, addr := a, data := some data, op := op, stamp := stamp }
     s.reqBlocked r = true ∨ (∃ x ∈ s.dmc.held, x.src = src) →
      Completes (.dmcWriteRequest src a data op stamp) s (fun t =>
        t = { s with dmc := { s.dmc with held := s.dmc.held ++ [r] } }))

/-- Reads of DRAM and scrub reads (R460 to R462, R464, R466, R484): a clean line answers its bytes and changes nothing; a
poisoned one answers an error and is reported and counted; a core reads what the L2 holds. Readings and choices of the model:
log entries 2, 64. Readings and choices of the model: log entries 2, 64. -/
def Obligations.MemoryReads : Prop :=
  ∀ (s : State) (src : Byte) (a n : Nat) (op : L2Op) (stamp : Time), s.Inv → s.Awake → rangeInDram a n = true → n ≠ 0 →
    (s.DmcOpen → isCore src.toNat = false → s.dmc.poison = [] →
      Completes (.dmcReadRequest src a n op [] stamp) s (fun t =>
        t.bus = { data := wordsOf (Memory.readBytes s.mem a n), error := false } ∧ Frame [.bus, .dmc] [] s t)) ∧
    (s.DmcOpen → isCore src.toNat = true → (blocksOf a n).all s.l2Holds = true → op ≠ .invalidate →
      Completes (.dmcReadRequest src a n op [] stamp) s (fun t =>
        t.bus = { data := wordsOf ((List.range n).map (fun k => s.coreByte (a + k))), error := false } ∧
        Frame [.bus, .dmc] [] s t)) ∧
    (∀ line, s.DmcOpen → linesOf a n = [line] → s.lineBad line = true → s.NoTrial →
      (isCore src.toNat = false ∨ (blocksOf a n).all s.l2Holds = false) →
      Completes (.dmcReadRequest src a n op [] stamp) s (fun t =>
        t.bus = { data := [], error := true } ∧
        t.fld F.DMC_UE_COUNT_COUNT = s.countUp F.DMC_UE_COUNT_COUNT ∧ ∀ b, Memory.read t.mem b = Memory.read s.mem b)) ∧
    (let r : DmcReq := { src := src, addr := a, len := n, op := op, errs := [], stamp := stamp }
     s.reqBlocked r = true ∨ (∃ x ∈ s.dmc.held, x.src = src) →
      Completes (.dmcReadRequest src a n op [] stamp) s (fun t =>
        t = { s with dmc := { s.dmc with held := s.dmc.held ++ [r] } })) ∧
    (s.lineBad (a / 128) = false → Completes (.scrubRead a [] stamp) s (fun t => t = s))

/-- Rank migration, retraining, refresh, starvation, temperature and tracking (R467 to R470, R473 to R475). Readings and
choices of the model: log entries 20, 64. Readings and choices of the model: log entries 20, 64. -/
def Obligations.MemoryUpkeep : Prop :=
  ∀ (s : State) (c pos : Nat), s.Inv → s.Awake → c < 4 → pos < 3 →
    (∀ m bad, s.dmc.panicGroves = 0 → s.dmc.mig.getD c none = some m → Completes (.migrationDone c bad) s (fun t =>
      t.fld (F.DMC_RANKMAP_SPARE_POS c) = 3 ∧ t.fld (F.DMC_MIG_ACTIVE c) = 0 ∧ t.dmc.mig.getD c none = none ∧
      t.nvm.retired = s.nvm.retired ++ [(c, m.fromPos)] ∧
      (∀ l ∈ bad, pairOf (l * 128) = c / 2 → inDram (l * 128) = true → s.rankPos c (rankOf (l * 128)) = m.fromPos →
        t.lineBad l = true) ∧
      (bad = [] → Pended 451 s t ∧ Frame [.dmc, .nvm, .ctl, .freeCount]
        [(F.DMC_RANKMAP_SPARE_POS c).off, (F.DMC_MIG_ACTIVE c).off, R.DMC_STATUS] s t))) ∧
    (∀ stamp, s.dmc.held = [] → s.dmc.retrain.contains (c, pos) = true →
      Completes (.rankRetrainingDone c pos true true stamp) s (fun t =>
        t.dmc = { s.dmc with
          retrain := s.dmc.retrain.filter (· != (c, pos))
          dqs := s.dmc.dqs.zipIdx.map (fun p => if p.2 / 10 = c * 3 + pos then 0 else p.1) } ∧
        Frame [.dmc] [] s t)) ∧
    (bitOf (s.fld (F.DMC_RANKMAP_RETIRED c)) pos = false →
      Completes (.refreshDue c pos false) s (fun t =>
        t.dmc = { s.dmc with owed := s.dmc.owed.set (c * 3 + pos) 0 } ∧ Frame [.dmc] [] s t) ∧
      (s.dmc.owed.getD (c * 3 + pos) 0 < 4 → Completes (.refreshDue c pos true) s (fun t =>
        t.dmc = { s.dmc with owed := s.dmc.owed.set (c * 3 + pos) (s.dmc.owed.getD (c * 3 + pos) 0 + 1) } ∧
        Frame [.dmc] [] s t)) ∧
      (4 ≤ s.dmc.owed.getD (c * 3 + pos) 0 → Completes (.refreshDue c pos true) s (fun t =>
        t.dmc = { s.dmc with owed := s.dmc.owed.set (c * 3 + pos) 4 } ∧
        t.fld F.DMC_REF_PREEMPT_COUNT = s.countUp F.DMC_REF_PREEMPT_COUNT ∧ Frame [.dmc] [F.DMC_REF_PREEMPT_COUNT.off] s t))) ∧
    (∀ stamp port, s.dmc.panicGroves ≠ 0 → 1 ≤ port → port ≤ 3 →
      (∀ p, s.starving c port = some p → s.dmc.starve.lookup (c * 4 + port) = none →
        p.2.stamp + (s.fld F.DMC_STARVE_NS * 256 : Nat) ≤ stamp → Completes (.starveIssue c port stamp) s (fun t =>
          t.dmc.held = s.dmc.held.eraseIdx p.1 ∧ t.dmc.starve = putKey (c * 4 + port) stamp s.dmc.starve)) ∧
      (s.starving c port = none → Completes (.starveIssue c port stamp) s (fun t => t = s))) ∧
    (∀ mr4, Completes (.mr4Read c mr4) s (fun t =>
      t.fld (F.DMC_TEMP_MR4 c) = mr4.toNat ∧ t.flag (F.DMC_TEMP_HOT c) = mr4Above mr4 ∧
      t.dmc.mr4Hot.getLsbD c = mr4Above mr4 ∧ Frame [.dmc] [(F.DMC_TEMP_MR4 c).off] s t)) ∧
    (∀ (dev : Nat) (d : Int), dev < 10 → Completes (.dqsTrack c pos dev d) s (fun t =>
      let i := (c * 3 + pos) * 10 + dev
      let v := s.dmc.dqs.getD i 0 + clampInt (-1) 1 d
      t.dmc.dqs = s.dmc.dqs.set i v ∧ (16 < v.natAbs → (c, pos) ∈ t.dmc.retrain) ∧
      (v.natAbs ≤ 16 → t.dmc.retrain = s.dmc.retrain) ∧ Frame [.dmc] [] s t)) ∧
    Completes (.zqCalibration c) s (fun t =>
      t.dmc = { s.dmc with zqCount := s.dmc.zqCount + 1 } ∧ Frame [.dmc] [] s t)

/-- A change of the DRAM frequency: requested, begun, trained (R471). The SRAM ports and the SRAM test (R477, R478, R481):
one port writes and reads its word; of two different writes of one word port A's stays and the collision is reported, as is a
write of a word that a read of the cycle before still holds; the test goes on word by word. Readings and choices of the
model: log entries 64. Readings and choices of the model: log entries 64. -/
def Obligations.FrequencyAndSram : Prop :=
  (∀ s : State, s.Inv → s.Awake →
     (∀ target, s.flag F.DMC_STATUS_CHANGING = false → s.flag F.DMC_STATUS_FREQ ≠ target →
       Completes (.freqChangeRequest target) s (fun t =>
         t.dmc = { s.dmc with change := some target } ∧ t.flag F.DMC_FREQ_TARGET = target ∧
         t.flag F.DMC_STATUS_CHANGING = true ∧ Frame [.dmc] [R.DMC_FREQ, R.DMC_STATUS] s t)) ∧
     (∀ target, s.flag F.DMC_STATUS_CHANGING = true →
       Completes (.freqChangeRequest target) s (fun t => t = s)) ∧
     (∀ stamp, s.dmc.change.isSome = true → s.dmc.changing = false → s.linesUnsent = false →
       stamp + 1000000 * 256 ≤ s.nextV → Completes (.freqChangeStart stamp) s (fun t =>
         t = { s with dmc := { s.dmc with changing := true, owed := s.dmc.owed.map (fun _ => 0) } })) ∧
     (∀ stamp, s.dmc.changing = true → s.dmc.held = [] → Completes (.freqChangeDone true stamp) s (fun t =>
       t.dmc = { s.dmc with change := none, changing := false, retrain := [], dqs := s.dmc.dqs.map (fun _ => 0) } ∧
       t.flag F.DMC_STATUS_FREQ = s.dmc.change.getD false ∧ t.flag F.DMC_FREQ_SET = s.dmc.change.getD false ∧
       t.flag F.DMC_STATUS_CHANGING = false ∧ Pended 452 s t ∧
       Frame [.dmc, .ctl, .freeCount] [R.DMC_FREQ, R.DMC_STATUS] s t))) ∧
  (∀ (s : State) (x y : SramAccess) (follows : Bool) (src : Byte) (stamp : Time), s.Inv → s.Awake → s.sram.again = [] →
     (inGroveSram x.addr || inStagingSram x.addr) = true → (inGroveSram y.addr || inStagingSram y.addr) = true →
     (x.write = true → (follows = false ∨ s.sram.readA ≠ some (x.addr / 8)) →
       Completes (.sramPortAccess none (some x) follows src stamp) s (fun t =>
         t = { s with
           mem := Memory.writeBytes s.mem (x.addr / 8 * 8) (x.data.take 8)
           sram := { s.sram with readA := none, readB := none } } ∧
         MemOutside (x.addr / 8 * 8) (x.data.take 8).length s t)) ∧
     (x.write = true → follows = true → s.sram.readA = some (x.addr / 8) →
       Completes (.sramPortAccess none (some x) follows src stamp) s (fun t =>
         t.fld F.MEM_COLLIDE_COUNT_COUNT = s.countUp F.MEM_COLLIDE_COUNT_COUNT ∧ Pended 465 s t ∧
         Frame [.sram, .ctl, .freeCount] [R.MEM_COLLIDE_LO, R.MEM_COLLIDE_HI, F.MEM_COLLIDE_COUNT_COUNT.off] s t)) ∧
     (x.write = false → x.flips = 0 → Completes (.sramPortAccess none (some x) follows src stamp) s (fun t =>
       t.bus = { data := wordsOf (Memory.readBytes s.mem (x.addr / 8 * 8) 8), error := false } ∧
       t.sram.readB = some (x.addr / 8) ∧ Frame [.bus, .sram] [] s t)) ∧
     (x.write = true → y.write = true → follows = false → x.addr / 8 = y.addr / 8 → x.data.take 8 ≠ y.data.take 8 →
       Completes (.sramPortAccess (some x) (some y) follows src stamp) s (fun t =>
         t.mem = Memory.writeBytes s.mem (x.addr / 8 * 8) (x.data.take 8) ∧
         t.fld F.MEM_COLLIDE_COUNT_COUNT = s.countUp F.MEM_COLLIDE_COUNT_COUNT ∧ Pended 464 s t ∧
         Frame [.mem, .sram, .ctl, .freeCount] [R.MEM_COLLIDE_LO, R.MEM_COLLIDE_HI, F.MEM_COLLIDE_COUNT_COUNT.off] s t)) ∧
     (s.flag F.MEM_CTRL_TEST_EN = true → s.sram.word + 1 ≠ sramWords → Completes (.sramTestStep true) s (fun t =>
       t = { s with sram := { s.sram with word := s.sram.word + 1 } })) ∧
     (s.flag F.MEM_CTRL_TEST_EN = true → s.sram.word + 1 = sramWords → Completes (.sramTestStep true) s (fun t =>
       t.sram.word = 0 ∧ Pended 467 s t ∧
       t.fld F.MEM_TEST_ROUNDS_COUNT = s.countUp F.MEM_TEST_ROUNDS_COUNT ∧
       Frame [.sram, .ctl, .freeCount] [F.MEM_TEST_ROUNDS_COUNT.off] s t)))

/-! ### Tile fabric (chapter 12) -/

/-- Discovery (R355, R356): ENABLE trains the ports of PORT_EN; a node offers the coordinate of the partner on a port that is
up; the first offer, where it is FAB_EXPECT, is adopted; another one afterwards is FAULT 0x10, and a GUEST_ASSIGN is FAULT
0x13 (R367). Readings and choices of the model: log entries 17, 51. -/
def Obligations.FabricDiscovers : Prop :=
  ∀ s : State, s.Inv → s.Awake → s.fab.ports.length = 6 →
    (∀ stamp, s.flag F.FAB_CTRL_ENABLE = true → Completes (.fabricEnable stamp) s (fun t => t = s)) ∧
    (∀ stamp, s.flag F.FAB_CTRL_ENABLE = false → s.flag F.FAB_ROLE_ANCHOR = false →
      Completes (.fabricEnable stamp) s (fun t =>
        t.flag F.FAB_CTRL_ENABLE = true ∧ t.fab.enabledAt = some stamp ∧
        (∀ p, p < 6 → (t.port p).st =
          if bitOf (s.fld F.FAB_ROLE_PORT_EN) p && (s.port p).st == .disabled then .training else (s.port p).st) ∧
        Frame [.fab] [F.FAB_CTRL_ENABLE.off] s t)) ∧
    (s.here = none → Completes .coordOfferSend s (fun t => t = s)) ∧
    (∀ a p, s.here = some a → p < 4 → (s.port p).st = .up → (∀ q, q < 4 → q ≠ p → (s.port q).st ≠ .up) →
      (s.port p).queue = [] → (s.port p).unacked.length < 64 → 1 ≤ creditsFree (s.port p) 1 →
      Completes .coordOfferSend s (fun t =>
        let k : Queued := { pkt := { s.newPacket 1 4 4 false 0
          (leBytes 4 1 ++ leBytes 2 (offerFor a p) ++ leBytes 1 p ++ leBytes 1 0) with lseq := (s.port p).txSeq } }
        t.out = packetOut p k :: s.out ∧ (t.port p).unacked = (s.port p).unacked ++ [k] ∧
        (t.port p).txSeq = (s.port p).txSeq + 1 ∧
        t.fld (F.FAB_P_TX_COUNT p) = s.countUp (F.FAB_P_TX_COUNT p) ∧
        Frame [.fab, .out] [(F.FAB_P_TX_COUNT p).off] s t)) ∧
    (∀ port (offered : BitVec 16) (sender : Byte), port < 4 → (s.port port).st = .up →
      sender.toNat = oppositePort port → bitOf offered.toNat 15 = false →
      (s.here = none → s.fld F.FAB_EXPECT_ADDR = offered.toNat →
        Completes (.coordOfferReceive port offered sender 0) s (fun t =>
          t.here = some offered ∧ t.fld F.FAB_COORD_ADDR = offered.toNat ∧ t.flag F.FAB_COORD_VALID = true ∧
          Pended 64 s t ∧ Frame [.fab, .ctl, .freeCount] [F.FAB_COORD_ADDR.off] s t)) ∧
      (s.here = some offered → Completes (.coordOfferReceive port offered sender 0) s (fun t => t = s)) ∧
      (∀ a, s.here = some a → a ≠ offered → s.NoTrial → (s.node = .sapling ∨ s.node = .member) →
        s.flag F.HKP_FAULT_VALID = false → Completes (.coordOfferReceive port offered sender 0) s (fun t =>
          t.node = .fault ∧ t.fld F.HKP_FAULT_BLOCK = 5 ∧ t.fld F.HKP_FAULT_CODE = 0x10))) ∧
    (∀ port (g h : BitVec 16) (rsv : BitVec 24), rsv ≠ 0 → Completes (.guestAssignReceive port g h rsv) s (fun t =>
      t.fld F.FAB_DISCARD_HEADER = s.countUp F.FAB_DISCARD_HEADER ∧ t.node = s.node)) ∧
    (∀ port (g h : BitVec 16), s.NoTrial → (s.node = .sapling ∨ s.node = .member) → s.flag F.HKP_FAULT_VALID = false →
      Completes (.guestAssignReceive port g h 0) s (fun t =>
        t.node = .fault ∧ t.fld F.HKP_FAULT_BLOCK = 5 ∧ t.fld F.HKP_FAULT_CODE = 0x13))

/-- Packets (R349 to R352, R357, R358, R371, R373): a good packet addressed to this node is acknowledged, counted and handed
over with one more hop; a wrong LSEQ gets one NAK a gap; a bad CRC or form is counted and recorded, and the copy that went on
ahead of a bad CRC ends in EOP_BAD; a stomped packet is acknowledged and delivers nothing. Readings and choices of the model:
log entries 51. Readings and choices of the model: log entries 51. -/
def Obligations.PacketsAccepted : Prop :=
  ∀ (s : State) (port : Nat) (k : XtfPacket) (stamp : Time), s.Inv → s.Awake → s.fab.ports.length = 6 → port < 6 →
    portCarries (s.port port) = true → k.cls = 1 →
    (∀ a, port < 4 → s.here = some a → isGuest a = false → headerOk k = true → messageOk k = true → k.hops.toNat < 127 →
      k.mode = 0 → k.dst = BitVec.ofNat 32 a.toNat → k.detoured = false → k.lseq = (s.port port).rxSeq →
      (s.port port).held.getD 1 0 + creditsOf k ≤ 32 →
      Completes (.packetForward port k (packetCrc k) stamp) s (fun t =>
        t.out = .deliver { k with hops := k.hops + 1 } :: linkOut port 0x10 k.lseq :: s.out ∧
        (t.port port).rxSeq = (s.port port).rxSeq + 1 ∧
        t.fld (F.FAB_P_RX_COUNT port) = s.countUp (F.FAB_P_RX_COUNT port) ∧
        Frame [.fab, .tim, .out] [(F.FAB_P_RX_COUNT port).off] s t)) ∧
    (s.fab.firstTold = false → (s.port port).gapNak = true → Completes (.badPacketReceive port k .form) s (fun t =>
      t.fld F.FAB_FIRST_DISCARD_CODE = 1 ∧ t.fld F.FAB_FIRST_DISCARD_SRC = k.src.toNat ∧
      t.fld (F.FAB_P_CRC_CRC port) = s.countUp (F.FAB_P_CRC_CRC port) ∧ t.fab.firstTold = true ∧ Pended 70 s t)) ∧
    (s.fab.firstTold = true → (s.port port).gapNak = true →
      Completes (.badPacketReceive port k .form) s (fun t =>
        t.fld (F.FAB_P_CRC_CRC port) = s.countUp (F.FAB_P_CRC_CRC port) ∧ Frame [] [(F.FAB_P_CRC_CRC port).off] s t) ∧
      (k.lseq ≠ (s.port port).rxSeq →
        Completes (.badPacketReceive port k .crc) s (fun t =>
          t.fld (F.FAB_P_CRC_CRC port) = s.countUp (F.FAB_P_CRC_CRC port) ∧ Frame [] [(F.FAB_P_CRC_CRC port).off] s t) ∧
        Completes (.packetForward port k (packetCrc k) stamp) s (Frame [.tim] [] s) ∧
        ∀ crc, crc ≠ packetCrc k → Completes (.packetForward port k crc stamp) s (fun t =>
          t.fld (F.FAB_P_CRC_CRC port) = s.countUp (F.FAB_P_CRC_CRC port) ∧
          Frame [.tim] [(F.FAB_P_CRC_CRC port).off] s t)) ∧
      ∀ p, p < 6 → k.lseq = (s.port port).rxSeq → packetError s port k = none →
        routeHops s (passedOn port k) = [.send p (passedOn port k)] → portCarries (s.port p) = true →
        (s.port p).queue = [] → (s.port p).unacked.length < 64 → creditsOf k ≤ creditsFree (s.port p) 1 →
        Completes (.badPacketReceive port k .crc) s (fun t =>
          t.out = packetOut p { pkt := { passedOn port k with lseq := (s.port p).txSeq }, input := port, bad := true } ::
            s.out ∧
          t.fld (F.FAB_P_CRC_CRC port) = s.countUp (F.FAB_P_CRC_CRC port) ∧
          Frame [.fab, .out] [(F.FAB_P_CRC_CRC port).off, (F.FAB_P_TX_COUNT p).off] s t)) ∧
    (s.fab.firstTold = true → (s.port port).gapNak = false → Completes (.badPacketReceive port k .form) s (fun t =>
      (t.port port).gapNak = true ∧ t.out = linkOut port 0x20 (s.port port).rxSeq :: s.out ∧
      t.fld (F.FAB_P_CRC_CRC port) = s.countUp (F.FAB_P_CRC_CRC port) ∧
      Frame [.fab, .out] [(F.FAB_P_CRC_CRC port).off] s t)) ∧
    (s.fab.firstTold = true → k.lseq = (s.port port).rxSeq →
      (routeHops s (passedOn port k)).all (fun h => match h with | .send _ _ => false | _ => true) = true →
      Completes (.badPacketReceive port k .stomped) s (fun t =>
        (t.port port).rxSeq = (s.port port).rxSeq + 1 ∧ t.out = linkOut port 0x10 k.lseq :: s.out ∧
        t.fld (F.FAB_P_CRC_STOMP port) = s.countUp (F.FAB_P_CRC_STOMP port) ∧
        Frame [.fab, .out] [(F.FAB_P_CRC_STOMP port).off] s t))

/-- Link control (R352, R353): an ACK takes what it covers, a NAK or a silent partner has the rest sent again in its order,
the eighth time with a retrain, and credits count modulo 256. Readings and choices of the model: log entries 51. -/
def Obligations.LinksReplayAndCredit : Prop :=
  ∀ (s : State) (port : Nat) (stamp : Time), s.Inv → s.Awake → s.fab.ports.length = 6 → port < 6 →
    portCarries (s.port port) = true → (s.port port).queue = [] →
    (∀ lseq : Byte, Completes (.ackReceive port lseq (0x10 ^^^ lseq ^^^ 0xC3)) s (fun t =>
      (t.port port).unacked = ackDrop lseq (s.port port).unacked ∧ Frame [.fab] [] s t)) ∧
    (∀ lseq check : Byte,
      (check ≠ 0x10 ^^^ lseq ^^^ 0xC3 → Completes (.ackReceive port lseq check) s (fun t => t = s)) ∧
      (check ≠ 0x20 ^^^ lseq ^^^ 0xC3 → Completes (.nakReceive port lseq check stamp) s (fun t => t = s))) ∧
    ((s.port port).resends < 7 → (s.port port).unacked ≠ [] →
      (∀ lseq : Byte, Completes (.nakReceive port lseq (0x20 ^^^ lseq ^^^ 0xC3) stamp) s (fun t =>
        t.out = ((s.port port).unacked.map (packetOut port)).reverse ++ s.out ∧
        (t.port port).unacked = (s.port port).unacked ∧ (t.port port).resends = (s.port port).resends + 1 ∧
        t.fld (F.FAB_P_REPLAY_REPLAY port) = s.countUp (F.FAB_P_REPLAY_REPLAY port) ∧
        Frame [.fab, .out] [(F.FAB_P_REPLAY_REPLAY port).off, (F.FAB_P_TX_COUNT port).off] s t)) ∧
      Completes (.ackTimeout port stamp) s (fun t =>
        t.out = ((s.port port).unacked.map (packetOut port)).reverse ++ s.out ∧
        (t.port port).resends = (s.port port).resends + 1 ∧
        t.fld (F.FAB_P_REPLAY_TIMEOUT port) = s.countUp (F.FAB_P_REPLAY_TIMEOUT port) ∧
        Frame [.fab, .out] [(F.FAB_P_REPLAY_REPLAY port).off, (F.FAB_P_REPLAY_TIMEOUT port).off,
          (F.FAB_P_TX_COUNT port).off] s t)) ∧
    (∀ k, (s.port port).resends = 7 → (s.port port).unacked = [k] → k.pkt.cls ≠ 2 → k.pkt.cls ≠ 3 →
      (s.sds.retrains.getD port []) = [] → Completes (.ackTimeout port stamp) s (fun t =>
        t.out = packetOut port k :: s.out ∧ (4, port) ∈ t.fab.recorded ∧ (t.port port).st = .training ∧
        (t.port port).unacked = [])) ∧
    ((s.port port).unacked = [] → Completes (.ackTimeout port stamp) s (fun t => t = s)) ∧
    (∀ c1 value : Byte, c1.toNat < 4 → (s.port port).creditLimit.length = 4 →
      Completes (.creditReceive port c1 value (c1 ^^^ value ^^^ 0xC3)) s (fun t =>
        (t.port port).creditLimit.getD c1.toNat 0 = value.toNat ∧ Frame [.fab] [] s t)) ∧
    (∀ c1 value check : Byte, (4 ≤ c1.toNat ∨ check ≠ c1 ^^^ value ^^^ 0xC3) →
      Completes (.creditReceive port c1 value check) s (fun t => t = s)) ∧
    Completes (.creditAdvertise port) s (fun t =>
      t.out = ([3, 2, 1, 0].map (fun cls =>
        linkOut port (BitVec.ofNat 8 cls) (BitVec.ofNat 8 ((s.port port).creditBack.getD cls 0)))) ++ s.out ∧
      Frame [.out] [] s t)

/-- Failed links and guests (R359, R366), shown at a node that is the root of both domains and has no children. Readings and
choices of the model: log entries 51, 58. Readings and choices of the model: log entries 51, 58. -/
def Obligations.LinksFailAndGuestsCome : Prop :=
  ∀ (s : State) (a : BitVec 16) (stamp : Time), s.Inv → s.Awake → s.fab.ports.length = 6 → s.here = some a →
    (∀ d, (s.dom d).st = .root ∧ s.children d = []) →
    (∀ p t0, p < 4 → bitOf (s.fld F.FAB_ROLE_PORT_EN) p = true → ((s.port p).st = .down ∨ (s.port p).st = .training) →
      (s.port p).downSince = some t0 →
      (stamp < t0 + (s.fld F.FAB_TIMING_DOWN_REPORT : Int) * 256000 →
        Completes (.linkDownReport p stamp) s (fun t => t = s)) ∧
      (t0 + (s.fld F.FAB_TIMING_DOWN_REPORT : Int) * 256000 ≤ stamp → s.fab.links = [] →
        Completes (.linkDownReport p stamp) s (fun t =>
          let key := linkKey (addrX a) (addrY a) p
          t.fab.links = [{ addr := key.1, port := key.2, reporter := a, down := true,
                           eventSeq := (s.port p).eventSeq, stamp := stamp }] ∧
          (t.port p).st = .down ∧ (t.port p).eventSeq = (s.port p).eventSeq + 1 ∧ Pended 65 s t ∧
          Frame [.fab, .tim, .out, .ctl] [] s t))) ∧
    (∀ (m : LinkMsg) (domain : Bool), m.rsv = 0 → m.down.toNat ≤ 1 → m.port.toNat ≤ 3 → s.fab.links = [] →
      Completes (.linkStateReceive m domain true stamp) s (fun t =>
        t.fab.links = [{ addr := m.addr, port := m.port.toNat, reporter := m.reporter, down := m.down == 1,
                         eventSeq := m.eventSeq, stamp := stamp }] ∧ Frame [.fab, .tim] [] s t)) ∧
    (∀ (m : LinkMsg) (domain down : Bool), (m.rsv ≠ 0 ∨ 1 < m.down.toNat ∨ 3 < m.port.toNat) →
      Completes (.linkStateReceive m domain down stamp) s (fun t =>
        t.fab.links = s.fab.links ∧ t.fld F.FAB_DISCARD_HEADER = s.countUp F.FAB_DISCARD_HEADER)) ∧
    Completes (.linkEntryExpire stamp) s (fun t =>
      t.fab.links = s.fab.links.filter (fun e => !(e.down && decide (e.stamp + 3500000000 * 256 < stamp))) ∧
      Frame [.fab] [] s t) ∧
    Completes (.guestEntryExpire stamp) s (fun t =>
      t.fab.guests = s.fab.guests.filter (fun g => decide (stamp < g.stamp + 3500000000 * 256)) ∧ Frame [.fab] [] s t) ∧
    (∀ p, p = 4 ∨ p = 5 → (s.port p).queue = [] → (s.port p).unacked = [] →
      (bitOf (s.fld F.FAB_ROLE_PORT_EN) p = true → (s.port p).st = .down → s.fab.guests = [] →
        (portLanes p).all (fun i => (s.lane i).st == .active) = true → Completes (.guestPortUp p stamp) s (fun t =>
          (t.port p).st = .guestUp ∧ t.guestEntry (s.guestAddr p) =
            some ⟨s.guestAddr p, a, p, s.fab.guestSeq.getD (p - 4) 0, stamp⟩ ∧ Pended 68 s t ∧
          (∃ kA kB, t.out.take 2 = [.deliver kB, .deliver kA] ∧ kA.proto = 4 ∧ kB.proto = 4 ∧ kA.mode = 3 ∧ kB.mode = 3 ∧
            kA.domain = false ∧ kB.domain = true ∧ kA.payload = kB.payload) ∧
          Frame [.fab, .tim, .out, .ctl] [] s t)) ∧
      (∀ t0, (s.port p).st = .down → (s.port p).downSince = some t0 →
        t0 + (s.fld F.FAB_TIMING_DOWN_REPORT : Int) * 256000 ≤ stamp → Completes (.guestPortDown p stamp) s (fun t =>
        (t.port p).st = .down ∧ (t.port p).downSince = none ∧
        (∀ g ∈ t.fab.guests, ¬(g.guest = s.guestAddr p ∧ g.host = a)) ∧ Pended 69 s t ∧
        Frame [.fab, .tim, .out, .ctl] [] s t))) ∧
    (∀ (m : GuestMsg) (domain : Bool), m.rsv = 0 → m.port = 4 ∨ m.port = 5 →
      (∀ p, (s.port p).st ≠ .guestUp) → m.gone = 0 → s.fab.guests = [] →
      Completes (.guestAnnounceReceive m domain true stamp) s (fun t =>
        t.fab.guests = [⟨m.guest, m.host, m.port.toNat, m.eventSeq, stamp⟩] ∧ Frame [.fab, .tim] [] s t)) ∧
    (∀ (m : GuestMsg) (domain : Bool) (p : Nat), m.rsv = 0 → m.port = 4 ∨ m.port = 5 → m.gone = 0 →
      p = 4 ∨ p = 5 → (s.port p).st = .guestUp → m.guest = s.guestAddr p → m.host.toNat < a.toNat →
      (s.port p).queue = [] → (s.port p).unacked = [] → s.guestAddr 4 ≠ s.guestAddr 5 →
      Completes (.guestAnnounceReceive m domain true stamp) s (fun t =>
        (t.port p).st = .guestRefused ∧ (0x14, p) ∈ t.fab.recorded ∧ Pended 69 s t ∧
        Frame [.fab, .tim, .ctl] [] s t))

/-! ### Canopy time (chapter 13) -/

/-- Trees (R386, R387, R390, R397, R399): ENABLE, ANNOUNCE both ways, the first parent, and what its loss does. Readings and
choices of the model: log entries 52. Readings and choices of the model: log entries 52. -/
def Obligations.TreesFormAndBreak : Prop :=
  ∀ (s : State) (d : Bool) (stamp : Time), s.Inv → s.Awake → s.tim.doms.length = 2 → s.fab.ports.length = 6 →
    (s.flag F.TIM_CTRL_ENABLE = false → s.here = some (s.rootOf d) → ∀ pref,
      Completes (.timeEnable pref stamp) s (fun t =>
        t.flag F.TIM_CTRL_ENABLE = true ∧ (t.dom d).st = .root ∧ (t.dom d).parent = none ∧ (t.dom d).depth = 0)) ∧
    (s.flag F.TIM_CTRL_ENABLE = false → s.here = none → ∀ pref,
      Completes (.timeEnable pref stamp) s (fun t =>
        t.flag F.TIM_CTRL_ENABLE = true ∧ t.flag F.TIM_CTRL_PREF = pref ∧ t.tim.follow = pref ∧ t.tim.beta = 0 ∧
        (∀ x, (t.dom x).st = (s.dom x).st) ∧ Frame [.tim] [F.TIM_CTRL_ENABLE.off] s t)) ∧
    (s.flag F.TIM_CTRL_ENABLE = false → Completes (.announceSend d stamp) s (fun t => t = s)) ∧
    (s.flag F.TIM_CTRL_ENABLE = true → (s.dom d).st = .root → (s.dom d).parent = none → (s.dom d).cands = [] →
      ∀ p, p < 4 → s.timePort p = true → (∀ q, q < 4 → q ≠ p → s.timePort q = false) → (s.port p).queue = [] →
      1 ≤ creditsFree (s.port p) 0 → Completes (.announceSend d stamp) s (fun t =>
        t.out = packetOut p { pkt := { s.newPacket 0 4 2 false 0 (announceBytes s d p) with lseq := 0 } } :: s.out ∧
        t.fld (F.FAB_P_TX_COUNT p) = s.countUp (F.FAB_P_TX_COUNT p) ∧
        Frame [.tim, .fab, .out] [(F.FAB_P_TX_COUNT p).off] s t)) ∧
    (s.flag F.TIM_CTRL_ENABLE = true → ∀ (p : Nat) (m : AnnounceMsg), p < 4 → m.rsv = 0 → m.domain = d →
      (s.dom d).st = .free → (s.dom d).parent = none → (s.dom d).cands = [none, none, none, none] →
      s.timePort p = true → m.timed = true → m.parent = false → m.depth ≤ 63 → m.root = s.rootOf d →
      Completes (.announceReceive p m stamp) s (fun t =>
        (t.dom d).st = .acquire ∧ (t.dom d).parent = some p ∧ (t.dom d).since = stamp ∧ t.dom (!d) = s.dom (!d) ∧
        (s.flag F.CMT_CTRL_ENABLE = false → Frame [.tim] [] s t))) ∧
    (s.flag F.TIM_CTRL_ENABLE = true → ∀ (p : Nat) (m : AnnounceMsg), p < 4 → (m.rsv ≠ 0 ∨ 64 < m.depth) →
      Completes (.announceReceive p m stamp) s (fun t =>
        t.tim = s.tim ∧ t.fld F.FAB_DISCARD_HEADER = s.countUp F.FAB_DISCARD_HEADER)) ∧
    (∀ p, (s.dom d).parent = some p → (∀ q, s.isCandidate d q stamp = false) →
      ((s.dom d).st = .locked → Completes (.parentLost d stamp) s (fun t =>
        (t.dom d).st = .holdover ∧ (t.dom d).parent = none ∧ (t.dom d).rateHeld = true ∧ (t.dom d).since = stamp ∧
        (t.dom d).ofs stamp = (s.dom d).ofs stamp ∧ (t.dom d).corr = 0 ∧ t.dom (!d) = s.dom (!d) ∧
        Frame [.tim] [] s t)) ∧
      ((s.dom d).st = .acquire → s.tim.follow = (!d) → (s.dom (!d)).st ≠ .free → Completes (.parentLost d stamp) s (fun t =>
        (t.dom d).st = .free ∧ (t.dom d).parent = none ∧ Pended 97 s t ∧ Frame [.tim, .ctl, .freeCount] [] s t))) ∧
    ((s.dom d).parent = none → Completes (.parentLost d stamp) s (fun t =>
      t = { s with tim := { s.tim with now := max s.tim.now stamp } })) ∧
    ((s.dom d).expired stamp = false → Completes (.holdoverTimeout d stamp) s (fun t =>
      t = { s with tim := { s.tim with now := max s.tim.now stamp } })) ∧
    ((s.dom d).st = .holdover → (s.dom d).since + 100000000 * 256 ≤ stamp →
      (s.tim.follow = (!d) → (s.dom (!d)).st ≠ .free → Completes (.holdoverTimeout d stamp) s (fun t =>
        (t.dom d).st = .free ∧ (t.dom d).parent = none ∧ t.tim.follow = s.tim.follow ∧ Pended 97 s t ∧
        Frame [.tim, .ctl, .freeCount] [] s t)) ∧
      (s.tim.follow = d → (s.dom (!d)).lock = true → (s.dom (!d)).expired stamp = false → Completes (.holdoverTimeout d stamp) s (fun t =>
        (t.dom d).st = .free ∧ t.tim.follow = (!d) ∧ t.fabricAt stamp = s.fabricAt stamp ∧
        Frame [.tim, .ctl, .freeCount] [] s t)) ∧
      ((s.dom (!d)).st = .free → s.node = .member → s.NoTrial → s.flag F.HKP_FAULT_VALID = false →
        Completes (.holdoverTimeout d stamp) s (fun t =>
          t.node = .fault ∧ t.fld F.HKP_FAULT_BLOCK = 7 ∧ t.fld F.HKP_FAULT_CODE = 0x21)))

/-- Link exchanges (R381, R382, R391 to R393): the request and the response as sent, the first exchange of an acquiring
domain, which steps it, and the sixteenth within half a nanosecond, which locks it. Readings and choices of the model: log
entries 52. Readings and choices of the model: log entries 52. -/
def Obligations.ExchangesLockDomains : Prop :=
  ∀ (s : State) (d : Bool) (p : Nat), s.Inv → s.Awake → s.tim.doms.length = 2 → s.fab.ports.length = 6 → p < 4 →
    s.flag F.TIM_CTRL_ENABLE = true →
    (∀ loc, (s.dom d).parent = none → Completes (.exchReqSend d loc) s (fun t =>
      t = { s with tim := { s.tim with now := max s.tim.now loc } })) ∧
    (portCarries (s.port p) = true → (s.port p).queue = [] → 1 ≤ creditsFree (s.port p) 0 →
      (∀ loc, (s.dom d).parent = some p → Completes (.exchReqSend d loc) s (fun t =>
        (t.dom d).xid = (s.dom d).xid + 1 ∧ (t.dom d).t1 = some (loc + (s.dom d).ofs loc) ∧
        t.out = packetOut p { pkt := { s.newPacket 0 4 2 false 0 (leBytes 1 2 ++ leBytes 1 (boolNat d) ++
          leBytes 2 ((s.dom d).xid + 1).toNat ++ leBytes 4 0) with lseq := 0 } } :: s.out ∧
        Frame [.tim, .fab, .out] [(F.FAB_P_TX_COUNT p).off] s t)) ∧
      ∀ xid l2 l3, Completes (.exchReqReceive p d xid l2 l3) s (fun t =>
        t.out = packetOut p { pkt := { s.newPacket 0 4 2 false 0
          (exchRespBytes d xid (l2 + (s.dom d).ofs l2) (l3 + (s.dom d).ofs l3)) with lseq := 0 } } :: s.out ∧
        t.fld (F.FAB_P_TX_COUNT p) = s.countUp (F.FAB_P_TX_COUNT p) ∧
        Frame [.tim, .fab, .out] [(F.FAB_P_TX_COUNT p).off] s t)) ∧
    (∀ xid t2 t3 loc, (s.dom d).t1 = none ∨ xid ≠ (s.dom d).xid ∨ (s.dom d).parent ≠ some p →
      Completes (.exchRespReceive p d xid t2 t3 loc) s (fun t =>
        t = { s with tim := { s.tim with now := max s.tim.now loc } })) ∧
    ∀ t1 t2 t3 loc, (s.dom d).t1 = some t1 → (s.dom d).parent = some p →
      let t4 := loc + (s.dom d).ofs loc
      timeDiff t4 t1 ≤ 20000 * 256 → (s.dom d).st = .acquire →
      let th := exchTheta t1 t2 t3 t4 (signedOf 12 (s.fld (F.TIM_ASYM_MEAS p)))
      ((s.dom d).stepped = false → (s.dom d).ds = [] → (s.dom d).thetas = [] →
        Completes (.exchRespReceive p d (s.dom d).xid t2 t3 loc) s (fun t =>
          (t.dom d).ofs loc = (s.dom d).ofs loc - th ∧ (t.dom d).stepped = true ∧ (t.dom d).st = .acquire ∧
          (t.dom d).ds = [exchD t1 t2 t3 t4] ∧ (t.dom d).t1 = none ∧
          t.reg (if d then R.TIM_THETA_B else R.TIM_THETA_A) = BitVec.ofInt 32 th ∧
          t.fld (F.TIM_DELAY_D p) = unsignedOf 24 (exchD t1 t2 t3 t4) ∧ t.flag (F.TIM_DELAY_VALID p) = false ∧
          Frame [.tim, .freeCount] [R.TIM_THETA_A, R.TIM_THETA_B, (F.TIM_DELAY_D p).off] s t)) ∧
      (15 ≤ (s.dom d).ds.length → spanInt ((exchD t1 t2 t3 t4 :: (s.dom d).ds).take 16) ≤ 128 →
        Completes (.exchRespReceive p d (s.dom d).xid t2 t3 loc) s (fun t =>
          (t.dom d).st = .locked ∧ (t.dom d).since = loc ∧ (t.dom d).rateHeld = false ∧
          (t.dom (!d)).st = (s.dom (!d)).st ∧
          (t.dom d).depth = min 64 (s.candDepth d p + 1) ∧ t.flag (F.TIM_DELAY_VALID p) = true))

/-- House time (R400) and the capture channels (R401 to R404). Readings and choices of the model: log entries 6, 16, 52. -/
def Obligations.HouseTimeAndCaptures : Prop :=
  ∀ s : State, s.Inv → s.Awake →
    (s.flag F.TIM_CTRL_PTP_EN = true → s.mgtRuns = true →
      (∀ seq origin t2 loc, Completes (.ptpSyncReceive true seq origin t2 loc) s (fun t =>
        t.tim = { s.tim with
          now := max s.tim.now loc, syncSeq := seq, syncT1 := none, syncT2 := some (t2 - s.fld F.TIM_PTP_PHY_RX)
          syncLoc := loc - s.fld F.TIM_PTP_PHY_RX } ∧
        Frame [.tim] [] s t)) ∧
      (∀ seq origin t2 loc, s.tim.house = false → s.tim.houseGood = 15 →
        (t2 - (s.fld F.TIM_PTP_PHY_RX : Int) - origin - s.tim.meanDelay).natAbs ≤ 1000 * 256 →
        Completes (.ptpSyncReceive false seq origin t2 loc) s (fun t =>
          t.tim.house = true ∧ t.tim.houseOffset = t2 - (s.fld F.TIM_PTP_PHY_RX : Int) - origin - s.tim.meanDelay ∧
          t.tim.houseLocal = t2 - loc ∧
          t.reg R.TIM_HOUSE_OFFSET = BitVec.ofInt 32 (sat32 ((t2 - loc -
            (s.dom false).ofs (loc - (s.fld F.TIM_PTP_PHY_RX : Int))) / 256)) ∧
          t.out = .ptp 1 (t2 - s.fld F.TIM_PTP_PHY_RX) :: s.out ∧ Pended 100 s t ∧
          Frame [.tim, .ctl, .out, .freeCount] [R.TIM_HOUSE_OFFSET] s t)) ∧
      (∀ origin t2, s.tim.syncT1 = none → s.tim.syncT2 = some t2 → s.tim.house = true →
        10000 * 256 < (t2 - origin - s.tim.meanDelay).natAbs →
        Completes (.ptpFollowUpReceive s.tim.syncSeq origin) s (fun t =>
          t.tim.house = false ∧ t.tim.houseGood = 0 ∧ t.tim.syncT1 = some origin ∧ t.out = .ptp 1 t2 :: s.out ∧
          Pended 101 s t ∧ Frame [.tim, .ctl, .out, .freeCount] [R.TIM_HOUSE_OFFSET] s t)) ∧
      (∀ seq origin, seq ≠ s.tim.syncSeq → Completes (.ptpFollowUpReceive seq origin) s (fun t => t = s)) ∧
      (∀ t1 t2 t3 t4, s.tim.syncT1 = some t1 → s.tim.syncT2 = some t2 →
        Completes (.ptpDelayRespReceive t3 t4) s (fun t =>
          t.tim.meanDelay = Int.tdiv ((t2 - t1) + (t4 - (t3 + (s.fld F.TIM_PTP_PHY_TX : Int)))) 2 ∧
          Frame [.tim] [] s t)) ∧
      (∀ (dn : Byte) ds stamp, dn.toNat ≠ s.fld F.TIM_PTP_CFG_DOMAIN →
        Completes (.ptpAnnounceReceive dn ds stamp) s (fun t => t = s)) ∧
      (∀ (dn : Byte) ds stamp, dn.toNat = s.fld F.TIM_PTP_CFG_DOMAIN →
        (∀ m, s.tim.master = some m → betterMaster ds m = true) → Completes (.ptpAnnounceReceive dn ds stamp) s (fun t =>
          t.tim = { s.tim with master := some ds, masterAt := stamp } ∧ Frame [.tim] [] s t))) ∧
    (s.tim.house = true → Completes .ptpAnnounceTimeout s (fun t =>
      t.tim.master = none ∧ t.tim.house = false ∧ t.tim.houseGood = 0 ∧ Pended 101 s t ∧
      Frame [.tim, .ctl, .freeCount] [] s t)) ∧
    (∀ c rising stamp, c < 9 → s.flag (F.TIM_CAP_CTRL_ENABLE c) = false →
      Completes (.captureEdge c rising stamp) s (fun t => t = s)) ∧
    (∀ c rising stamp, c < 9 → s.tim.caps.length = 9 → s.flag (F.TIM_CAP_CTRL_ENABLE c) = true →
      s.flag (F.TIM_CAP_CTRL_ALWAYS c) = true → s.fld (F.TIM_CAP_CTRL_EDGE c) = 3 →
      (∀ u, (s.cap c).last = some u → 4 * 256 ≤ stamp - u) →
      ((s.cap c).queue = [] → Completes (.captureEdge c rising stamp) s (fun t =>
        (t.cap c).queue = [{ ns := timeNs stamp, frac := timeFrac stamp, rising := rising, domain := s.tim.follow }] ∧
        t.fld (F.TIM_CAP_INFO_LEVEL c) = 1 ∧ Pended 104 s t ∧ Frame [.tim, .ctl] [(F.TIM_CAP_INFO_LEVEL c).off] s t)) ∧
      ((s.cap c).queue.length = 16 → Completes (.captureEdge c rising stamp) s (fun t =>
        (t.cap c).queue = (s.cap c).queue ∧ t.flag (F.TIM_CAP_INFO_OVF c) = true ∧ Pended 105 s t ∧
        Frame [.tim, .ctl] [(F.TIM_CAP_INFO_LEVEL c).off] s t))) ∧
    (∀ c, c < 9 → (s.cap c).queue = [] → Completes (.captureRead c) s (fun t =>
      t.bus = { data := [0] } ∧ t.flag (F.TIM_CAP_INFO_VALID c) = false ∧
      Frame [.bus] [(F.TIM_CAP_INFO_LEVEL c).off] s t)) ∧
    (∀ c r rest, c < 9 → s.tim.caps.length = 9 → (s.cap c).queue = r :: rest → rest.length < 16 →
      Completes (.captureRead c) s (fun t =>
        t.bus = { data := [r.ns] } ∧ (t.cap c).queue = rest ∧ t.fld (F.TIM_CAP_INFO_FRAC c) = r.frac.toNat ∧
        t.flag (F.TIM_CAP_INFO_RISING c) = r.rising ∧ t.flag (F.TIM_CAP_INFO_DOMAIN c) = r.domain ∧
        t.flag (F.TIM_CAP_INFO_VALID c) = true ∧ t.fld (F.TIM_CAP_INFO_LEVEL c) = rest.length ∧
        Frame [.bus, .tim] [(F.TIM_CAP_INFO_LEVEL c).off] s t)) ∧
    (∀ loc, Completes (.timeNowRead loc) s (fun t =>
      let now := s.fabricAt loc
      let sec := unsignedOf 48 ((loc + s.tim.houseLocal) / (256 * 1000000000))
      t.bus = { data := [timeNs now] } ∧ t.reg R.TIM_NOW_NS = timeNs now ∧
      t.fld F.TIM_NOW_FRAC_FRAC = (timeFrac now).toNat ∧ t.flag F.TIM_NOW_FRAC_LOCKED = s.timeLock ∧
      t.reg R.TIM_NOW_LOCAL = timeNs loc ∧ t.reg R.TIM_HOUSE_SEC_LO = BitVec.ofNat 32 sec ∧
      t.fld F.TIM_HOUSE_SEC_HI_SEC = sec / 2 ^ 32 ∧
      Frame [.bus, .tim] [R.TIM_NOW_NS, R.TIM_NOW_FRAC, R.TIM_NOW_LOCAL, R.TIM_HOUSE_SEC_LO, R.TIM_HOUSE_SEC_HI] s t)) ∧
    Completes .timeNsWrap s (fun t => Pended 103 s t ∧ Frame [.ctl, .freeCount] [] s t)

/-! ### Frame commit (chapters 1 and 14) -/

/-- The vote window (R407 to R411): a MEMBER that nothing has settled votes NOT_READY at the deadline; a VOTE goes up the
tree by the limit, once; a child's VOTE or a VOTE_FWD is kept in time and counted when late. Readings and choices of the
model: log entries 75. Readings and choices of the model: log entries 75. -/
def Obligations.VotesAreCastAndGathered : Prop :=
  ∀ s : State, s.Inv → s.Awake →
    (s.node ≠ .member → Completes .voteDeadline s (fun t =>
      t = { s with cmt := { s.cmt with voteDepth := some (s.N, (s.dom false).depth, (s.dom true).depth) } })) ∧
    (s.node = .member → s.flag F.CMT_CTRL_ENABLE = true → s.voteFor s.N = none → s.epoch s.N = none →
      (∀ d, (s.dom d).parent = none) → Completes .voteDeadline s (fun t =>
        t.cmt.vote = some { fsn := s.N, ready := false, reason := s.lateReason s.N, demand := (s.latched s.N).demand } ∧
        t.reg R.CMT_VOTE_FSN = s.N ∧ t.flag F.CMT_VOTE_NOT_READY = true ∧
        t.fld F.CMT_VOTE_REASON = (s.lateReason s.N).toNat ∧ Pended 128 s t ∧
        Frame [.cmt, .ctl, .freeCount] [R.CMT_VOTE_FSN, F.CMT_VOTE_REASON.off] s t)) ∧
    (∀ d, (s.flag F.CMT_CTRL_ENABLE = false ∨ s.voteSent d s.N = true) →
      Completes (.voteSendLimit d) s (fun t => t = s)) ∧
    (∀ d p a, s.flag F.CMT_CTRL_ENABLE = true → s.voteSent d s.N = false → (s.dom d).parent = some p → p < 4 →
      s.fab.ports.length = 6 → s.here = some a → s.linkUsable (addrX a) (addrY a) p = true → (s.port p).queue = [] →
      (s.port p).unacked.length < 64 → 1 ≤ creditsFree (s.port p) 1 → Completes (.voteSendLimit d) s (fun t =>
        t.voteSent d s.N = true ∧
        t.out = packetOut p { pkt := { s.newPacket 1 2 3 d 0 (voteBytes 1 s.N (s.aggregate d s.N)) with
          lseq := (s.port p).txSeq } } :: s.out ∧ Frame [.cmt, .fab, .out] [(F.FAB_P_TX_COUNT p).off] s t)) ∧
    (∀ d port n g stamp, s.flag F.CMT_CTRL_ENABLE = true →
      (s.voteLate d n stamp = true → Completes (.voteReceive d port n g stamp) s (fun t =>
        t.fld F.CMT_LATE_AGG_COUNT = s.countUp F.CMT_LATE_AGG_COUNT ∧ Frame [] [F.CMT_LATE_AGG_COUNT.off] s t)) ∧
      (s.voteLate d n stamp = false → (s.dom d).parent = none → Completes (.voteReceive d port n g stamp) s (fun t =>
        t.cmt = { s.cmt with children := s.cmt.children ++
          [{ domain := d, port := port, fsn := n, agg := g, stamp := stamp }] } ∧ Frame [.cmt, .tim] [] s t))) ∧
    (∀ src n g stamp, s.isDecider = true → s.flag F.CMT_CTRL_ENABLE = true → src = s.rootB → laterFsn n s.S = true →
      s.cmt.decider.made = none → s.cmt.decider.fwd.lookup n = none →
      (s.decideAt n ≤ stamp → Completes (.voteFwdReceive src n g stamp) s (fun t => t = s)) ∧
      (stamp < s.decideAt n → Completes (.voteFwdReceive src n g stamp) s (fun t =>
        t.cmt = { s.cmt with decider := { s.cmt.decider with fwd := s.cmt.decider.fwd ++ [(n, g)] } } ∧
        Frame [.cmt] [] s t)))

/-- Screen commands (R416): one that enters at the deciding node's own pins or registers, and one received; a command is
taken once by its source and REQ_ID, and waits for the next frame when D(N) precedes it. Readings and choices of the model:
log entries 6, 72. Readings and choices of the model: log entries 6, 72. -/
def Obligations.ScreenCommandsTaken : Prop :=
  ∀ s : State, s.Inv → s.Awake →
    (∀ a, s.Alone a → s.cmt.decider.seenReqs.contains (a, s.cmt.reqId) = false → s.cmt.decider.made = none →
      ∀ (stamp : Time) c cmd,
      (c, cmd) ∈ [(Instr.slateTrigger stamp, 1), (.slateRelease stamp, 2), (.darkOn stamp, 3), (.darkOff stamp, 4)] →
      Completes c s (fun t =>
        let seen : Decider := { s.cmt.decider with seenReqs := (a, s.cmt.reqId) :: s.cmt.decider.seenReqs }
        t.cmt = { s.cmt with
          reqId := s.cmt.reqId + 1
          decider := if stamp < s.decideAt s.N then seen.take cmd else { seen with lateCmds := seen.lateCmds ++ [cmd] } } ∧
        t.out = s.selfPacket 0 1 0 3 false a (screenCmdBytes cmd s.cmt.reqId) :: s.out ∧ Frame [.cmt, .fab, .out] [] s t)) ∧
    (∀ src (cmd : Byte) id stamp,
      ((s.isDecider = false ∨ s.cmt.decider.seenReqs.contains (src, id) = true) →
        Completes (.screenCmdReceive src cmd id stamp) s (fun t => t = s)) ∧
      (s.isDecider = true → s.cmt.decider.seenReqs.contains (src, id) = false → s.cmt.decider.made = none →
        Completes (.screenCmdReceive src cmd id stamp) s (fun t =>
          (stamp < s.decideAt s.N → (cmd = 1 → t.cmt.decider.trigger = true) ∧ (cmd = 2 → t.cmt.decider.release = true) ∧
            (cmd = 3 → t.cmt.decider.darkStanding = true) ∧ (cmd = 4 → t.cmt.decider.darkStanding = false)) ∧
          (s.decideAt s.N ≤ stamp → t.cmt.decider.lateCmds = s.cmt.decider.lateCmds ++ [cmd.toNat] ∧
            t.cmt.decider.trigger = s.cmt.decider.trigger) ∧ Frame [.cmt] [] s t)))

/-- The decision (R406, R411 to R414): COMMIT exactly where the frame is admitted, no aggregate holds a NOT_READY and one is
complete; its broadcast, its first copy and a differing one; and a frame that no decision reaches is abandoned. Readings and
choices of the model: log entries 72, 73. Readings and choices of the model: log entries 72, 73. -/
def Obligations.DecisionsBind : Prop :=
  ∀ s : State, s.Inv → s.Awake →
    ((s.canDecide = false ∨ s.cmt.decider.made.isSome = true) → Completes .decide s (fun t => t = s)) ∧
    (s.canDecide = true → s.cmt.decider.made = none → Completes .decide s (fun t => ∃ d, t.cmt.decider.made = some d ∧
      d.fsn = s.N ∧
      (d.commit = true ↔ s.admission (s.genOf s.N) = true ∧ (∀ g ∈ s.aggregates s.N, g.notReady = 0) ∧
        ∃ g ∈ s.aggregates s.N, g.ready = s.cmt.gen.mCount ∧ g.sum = s.cmt.gen.mSum) ∧
      (d.commit = true → d.committedFsn = s.N ∧ d.reason = 0) ∧
      (s.cmt.decider.trigger = true → d.screen = .slate ∧ d.cmd = 1) ∧
      (s.cmt.screen = .show → s.cmt.decider.trigger = false → s.cmt.decider.darkStanding = false →
        (d.commit = true → d.screen = .show ∧ d.holdCount = 0) ∧
        (d.commit = false → s.cmt.holdCount + 1 ≤ (s.genOf s.N).holdLimit →
          d.screen = .hold ∧ d.holdCount = s.cmt.holdCount + 1) ∧
        (d.commit = false → (s.genOf s.N).holdLimit < s.cmt.holdCount + 1 → d.screen = .dark)) ∧
      t.cmt.decider.trigger = false ∧ t.cmt.decider.release = false ∧ Frame [.cmt, .freeCount] [] s t)) ∧
    (s.canDecide = false → Completes .commitBroadcast s (fun t => t = s)) ∧
    (∀ d, d.fsn = s.N → d.commit = true → d.gen = s.cmt.gen.num → s.node = .member → s.synthesised s.N = true →
      s.cmt.decision = none → s.boundSource = none →
      (∀ a, s.Alone a → s.canDecide = true → s.cmt.decider.made = some d → s.cmt.next = none →
        (∃ t0, s.cmt.decider.genSentAt = some t0 ∧ s.instant .commit s.N < t0 + 256000000000) →
        Completes .commitBroadcast s (fun t =>
          t.out = s.selfPacket 2 1 3 3 true 0 (decisionBytes d) :: s.selfPacket 1 1 0 3 false a (decisionBytes d) ::
            s.selfPacket 0 1 3 3 false 0 (decisionBytes d) :: s.out ∧
          t.cmt.decision = some d ∧ t.cmt.decider.lastCommit = some s.N ∧
          (∀ e, s.epoch s.N = some e → t.epoch s.N = some { e with st := .decided }) ∧
          Frame [.cmt, .ing, .fab, .out] [] s t)) ∧
      (∀ a viaB stamp, s.here = some a → a ≠ s.rootB → stamp < s.instant .localAbort s.N → s.cmt.gen.num ≠ 0 →
        Completes (.decisionReceive viaB d stamp) s (fun t =>
          t.cmt = { s.cmt with decision := some d } ∧
          (∀ e, s.epoch s.N = some e → t.epoch s.N = some { e with st := .decided }) ∧ Frame [.cmt, .ing] [] s t))) ∧
    (∀ d viaB stamp, s.here.isSome = true → s.cmt.gen.num ≠ 0 →
      ((d.fsn ≠ s.N ∨ s.instant .localAbort d.fsn ≤ stamp ∨ s.cmt.decision = some d) →
        Completes (.decisionReceive viaB d stamp) s (fun t => t = s)) ∧
      (∀ old, s.cmt.decision = some old → old ≠ d → d.fsn = s.N → stamp < s.instant .localAbort s.N → s.node = .member →
        s.NoTrial → s.flag F.HKP_FAULT_VALID = false → Completes (.decisionReceive viaB d stamp) s (fun t =>
          t.node = .fault ∧ t.fld F.HKP_FAULT_BLOCK = 7 ∧ t.fld F.HKP_FAULT_CODE = 0x22))) ∧
    (s.cmt.decision.isSome = true → Completes .localAbort s (fun t => t = s)) ∧
    (∀ e, s.cmt.decision = none → s.cmt.abandoned = false → s.node ≠ .fault → s.boundSource = none → s.thk.jobs = [] →
      s.ing.epochs = [e] → e.fsn = s.N → e.st ≠ .none → e.st ≠ .decided → Completes .localAbort s (fun t =>
        t.cmt = { s.cmt with abandoned := true } ∧
        (∃ e', t.ing.epochs = [e'] ∧ e'.fsn = s.N ∧ e'.st = .abandoned ∧ e'.texs = [] ∧ e'.fillBlank = true) ∧
        t.reg R.ING_ROLLBACK_FSN = s.N ∧ t.fld F.ING_ROLLBACK_COUNT_COUNT = s.countUp F.ING_ROLLBACK_COUNT_COUNT ∧
        t.fld F.CMT_NO_DECISION_COUNT = s.countUp F.CMT_NO_DECISION_COUNT ∧
        t.ctl.pend = pendSet (getBits (s.reg (R.CPX_EV_ROUTE 131)) 11 0) 131
          (pendSet (getBits (s.reg (R.CPX_EV_ROUTE 164)) 11 0) 164 s.ctl.pend) ∧
        Frame [.cmt, .ing, .pdl, .grv, .thk, .ctl, .freeCount]
          [R.ING_ROLLBACK_FSN, F.ING_ROLLBACK_COUNT_COUNT.off, F.CMT_NO_DECISION_COUNT.off] s t))

/-- Swap instants (Table 1.8, R42, R187, R274, R287, R413, R414): the screen follows the decision, or without one goes from
SHOW to HOLD up to the limit and then to DARK; the TICK says so in advance; SPEC_START opens the next frame. Readings and
choices of the model: log entries 6, 72, 73, 75. Readings and choices of the model: log entries 6, 72, 73, 75. -/
def Obligations.SwapInstantsTurnFrames : Prop :=
  ∀ s : State, s.Inv → s.Awake →
    (s.cmt.decision = none → s.ing.preEpoch = [] → Completes .swapInstant s (fun t =>
      t.cmt.s = s.cmt.s + 1 ∧ t.cmt.decision = none ∧ t.cmt.abandoned = false ∧
      (s.cmt.screen = .slate → t.cmt.screen = .slate ∧ t.cmt.holdCount = s.cmt.holdCount) ∧
      (s.cmt.screen = .dark → t.cmt.screen = .dark ∧ t.cmt.holdCount = min 1023 (s.cmt.holdCount + 1)) ∧
      ((s.cmt.screen = .show ∨ s.cmt.screen = .hold) →
        (s.cmt.holdCount + 1 ≤ s.genNow.holdLimit → t.cmt.screen = .hold ∧ t.cmt.holdCount = s.cmt.holdCount + 1) ∧
        (s.genNow.holdLimit < s.cmt.holdCount + 1 → t.cmt.screen = .dark)) ∧
      t.lc = s.lc ∧ t.secVersion.toNat ≥ s.secVersion.toNat ∧ t.meas.length = 16)) ∧
    (∀ d, s.cmt.decision = some d → s.ing.preEpoch = [] → s.NoTrial → d.gen = s.cmt.gen.num → d.actValid = false →
      Completes .swapInstant s (fun t =>
        t.cmt.s = s.cmt.s + 1 ∧ t.cmt.screen = d.screen ∧ t.cmt.holdCount = d.holdCount ∧ t.cmt.decision = none ∧
        t.reg R.CMT_DEC_FSN = d.fsn ∧ t.fld F.CMT_DEC_OUTCOME = (if d.commit then 1 else 2) ∧
        t.fld F.CMT_DEC_REASON = d.reason.toNat)) ∧
    (s.timeLock = false → Completes .tickLaunch s (fun t => t = s)) ∧
    (let lanes := (List.range 192).filter s.carries
     let launch := lanes.map (fun i =>
       (i, nearestBoundary (Config.symbolPhase s.freeCount i) (10 * (s.swapTime s.N - s.laneL i))))
     let plain : Tick := { fsn := s.N, swap := false, slot := s.fld F.ING_EPOCH_STATE_SLOT_DISPLAY, pwm := false }
     (s.timeLock = true → s.node = .sapling → s.swapGen = none → Completes .tickLaunch s (fun t =>
       t.out = .tick (tickSet plain) launch :: s.out ∧ t.pdl.tickCheck = lanes ∧ Frame [.pdl, .out, .freeCount] [] s t)) ∧
     (s.timeLock = true → s.node = .member → s.cmt.decision = none → s.commitsHere = false →
       (s.cmt.screen = .show ∨ s.cmt.screen = .hold) → s.cmt.holdCount + 1 ≤ s.genNow.holdLimit →
       Completes .tickLaunch s (fun t =>
         t.out = .tick (tickSet { plain with pwm := true }) launch :: s.out ∧
         t.pdl.tickCheck = lanes ∧ Frame [.pdl, .out, .freeCount] [] s t))) ∧
    ((s.node = .fault ∨ s.epoch (s.S + 2) = none ∨ ∃ e, s.epoch (s.S + 2) = some e ∧ e.specStarted = true) →
      Completes .specStart s (fun t => t = s)) ∧
    (∀ e, s.node = .sapling → s.epoch (s.S + 2) = some e → e.st = .created → e.specStarted = false →
      s.effFlag F.ING_SPEC_CTRL_SPEC_ENABLE = false → Completes .specStart s (fun t =>
        (∃ e', t.epoch (s.S + 2) = some e' ∧ e'.specStarted = true ∧ e'.st = .active ∧ e'.specBase = none ∧
          e'.inval = allBins) ∧
        (∃ f, t.pdl.fills = s.pdl.fills ++ [f] ∧ f.fsn = s.S + 2 ∧ f.slate = false ∧ f.released = 2) ∧
        Frame [.pdl, .ing, .cmt, .ctl, .out] [F.COL_LIMIT_GAIN_SPEC.off] s t))

/-- Membership generations (R417 to R422): segments received, JOIN and its judgement by the deciding node, vouches, and
notices of a fault. Readings and choices of the model: log entries 36, 74. -/
def Obligations.MembersJoin : Prop :=
  ∀ s : State, s.Inv → s.Awake →
    (∀ k num data, (12 < k ∨ data.length ≠ (if k = 0 then 96 else 1024)) →
      Completes (.genSegReceive k num data false) s (fun t => t = s)) ∧
    (∀ k num data, k ≤ 12 → data.length = (if k = 0 then 96 else 1024) → s.genHeld num = none → s.cmt.genParts = [] →
      Completes (.genSegReceive k num data false) s (fun t =>
        t.cmt = { s.cmt with genParts := [{ num := num, segs := [(k, data)] }] } ∧ Frame [.cmt] [] s t)) ∧
    (s.node ≠ .sapling → Completes .joinSend s (fun t => t = s)) ∧
    (∀ a, s.Alone a → s.node = .sapling → (∀ k, 1 ≤ k → k ≤ 10 → s.ctl.ended.contains k = true) →
      Completes .joinSend s (fun t =>
        t.cmt = { s.cmt with saplingGen := some s.cmt.gen.num } ∧
        t.out = s.selfPacket 0 1 0 3 false a (leBytes 4 6 ++ leBytes 4 s.cmt.gen.num.toNat ++
          leBytes 32 s.policyDigest.toNat) :: s.out ∧ Frame [.cmt, .fab, .out] [] s t)) ∧
    (∀ src held digest stamp, s.isDecider = false → Completes (.joinReceive src held digest stamp) s (fun t => t = s)) ∧
    (∀ a held digest stamp, s.Alone a → s.cmt.decider.away = [] →
      ((inSet s.memberSets.1 a = false ∨ inSet s.memberSets.2.1 a = true) →
        Completes (.joinReceive a held digest stamp) s (fun t =>
          t.cmt.decider.away = [a] ∧ t.cmt.next = s.cmt.next ∧ t.cmt.gens = s.cmt.gens ∧
          t.out = s.selfPacket 0 1 0 3 false a (joinResultBytes 2 0x0234) :: s.out ∧ Frame [.cmt, .fab, .out] [] s t)) ∧
      (inSet s.memberSets.1 a = true → inSet s.memberSets.2.1 a = false → s.cmt.gen.num ≠ 0 →
        digest ≠ s.cmt.gen.policyDigest → Completes (.joinReceive a held digest stamp) s (fun t =>
          t.cmt.next = s.cmt.next ∧ t.cmt.gens = s.cmt.gens ∧
          t.out = s.selfPacket 0 1 0 3 false a (joinResultBytes 2 0x0232) :: s.out)) ∧
      (inSet s.memberSets.1 a = true → inSet s.memberSets.2.1 a = false → s.cmt.gen.num ≠ 0 →
        digest = s.cmt.gen.policyDigest → s.vouched a stamp = true → s.cmt.next = none →
        Completes (.joinReceive a held digest stamp) s (fun t =>
          (∃ g, t.cmt.next = some g ∧ t.cmt.gens = s.cmt.gens ++ [g] ∧ g.num = s.lastGen + 1 ∧ inSet g.m a = true ∧
            g.e = s.cmt.gen.e ∧ g.x = s.cmt.gen.x ∧ g.rate = s.cmt.gen.rate ∧ g.firstFsn = s.firstFrame stamp) ∧
          t.cmt.decider.joined = [a] ∧ t.cmt.gen = s.cmt.gen ∧ t.out.length = s.out.length + 27 ∧
          Frame [.cmt, .fab, .out, .freeCount] [] s t))) ∧
    (∀ a stamp, s.isDecider = true → Completes (.vouchReceive a stamp) s (fun t =>
      t.cmt = { s.cmt with decider := { s.cmt.decider with vouches := putKey a stamp s.cmt.decider.vouches } } ∧
      Frame [.cmt] [] s t)) ∧
    (∀ (r : Byte) reason, s.node = .sapling → Completes (.joinResultReceive r reason) s (fun t =>
      t.cmt = { s.cmt with joinResult := some (r.toNat, reason) } ∧ Frame [.cmt] [] s t)) ∧
    (∀ src n, s.isDecider = true → Completes (.faultNoticeReceive src n 0x0223) s (fun t =>
      t.cmt.decider.darkStanding = true ∧ src ∈ t.cmt.decider.away ∧ Frame [.cmt] [] s t)) ∧
    (∀ src n reason, s.isDecider = true → reason ≠ 0x0223 → Completes (.faultNoticeReceive src n reason) s (fun t =>
      t.cmt.decider.darkStanding = s.cmt.decider.darkStanding ∧ src ∈ t.cmt.decider.away ∧ Frame [.cmt] [] s t))

/-! ### Glade scene stream (chapters 2 and 6) -/

/-- What ingest does with a packet before its body counts (R51, R55 to R58, R64, R88, R92, R68): foreign and stale packets
are counted, a bad header is the frame's error 0x0A, or of a frame placed nowhere near only counted, a frozen node takes
nothing, and a packet for S + 3 waits. The deadlines record what a frame lacks; reclamation ends; and what waited is applied
as if it had just come. Readings and choices of the model: log entries 54, 62. Readings and choices of the model: log entries
54, 62. -/
def Obligations.PacketsJudged : Prop :=
  ∀ (s : State) (i : Instr) (g : Glade), s.Inv → s.Awake → gladeOf i = some g →
    (∀ env ty body, i = .gladeUnknownTypePacket env ty body → ty.toNat = 0 ∨ 7 < ty.toNat) →
    (s.boundSource ≠ some g.env.src → s.ing.firstForeign = false → Completes i s (fun t =>
      t.fld F.ING_FOREIGN_COUNT_FOREIGN = s.countUp F.ING_FOREIGN_COUNT_FOREIGN ∧
      Frame [.ing] [F.ING_FOREIGN_COUNT_FOREIGN.off] s t)) ∧
    (s.boundSource = some g.env.src → 16 ≤ g.env.xtfLen.toNat →
      g.env.hdr.streamId.toNat = s.effFld F.ING_STREAM_STREAM_ID →
      (s.node = .fault → Completes i s (fun t => t = s)) ∧
      (s.node ≠ .fault → g.headerOk = true → laterFsn g.fsn s.S = false → Completes i s (fun t =>
        t.fld F.ING_FOREIGN_COUNT_STALE = s.countUp F.ING_FOREIGN_COUNT_STALE ∧
        Frame [] [F.ING_FOREIGN_COUNT_STALE.off] s t)) ∧
      (s.node ≠ .fault → g.headerOk = false → (g.fsn = s.S + 1 ∨ g.fsn = s.S + 2 ∨ g.fsn = s.S + 3) →
        (∀ e, s.epoch g.fsn = some e → e.err.count = 0) → Completes i s (fun t => t.Errs g.fsn 0x0A g.seq)) ∧
      (s.node ≠ .fault → g.headerOk = false → g.fsn ≠ s.S + 1 → g.fsn ≠ s.S + 2 → g.fsn ≠ s.S + 3 →
        Completes i s (fun t => t = { s with ing := { s.ing with badHeaders := s.ing.badHeaders + 1 } })) ∧
      (s.node ≠ .fault → g.headerOk = true → g.fsn = s.S + 3 → s.erroredNow g.fsn = false →
        g.env.stamp < s.instant (if g.type = 6 then .amend else .scene) g.fsn →
        s.queuedBytes + g.body.length + 16 ≤ 64 * 2 ^ 20 → Completes i s (fun t =>
          t.ing = { s.ing with preEpoch := s.ing.preEpoch ++ [{ pkt := i, bytes := g.body.length + 16, s := s.S }] } ∧
          Frame [.ing] [] s t))) ∧
    (∀ n, s.node ≠ .fault → (n = s.S + 1 ∨ n = s.S + 2) →
      (s.epoch n = none → Completes (.sceneDeadline n) s (fun t => t.Errs n 0x02 0)) ∧
      (∀ e, s.epoch n = some e → e.opened = true → (e.closed = true → Completes (.sceneDeadline n) s (fun t => t = s)) ∧
        (e.closed = false → e.err.count = 0 → Completes (.sceneDeadline n) s (fun t => t.Errs n 0x03 0))) ∧
      (∀ e, s.epoch n = some e → e.closeSeen = true → e.livePending = true →
        (e.sealOk = true → Completes (.amendDeadline n) s (fun t => t = s)) ∧
        (e.sealOk = false → e.err.count = 0 → Completes (.amendDeadline n) s (fun t => t.Errs n 0x17 e.amends)))) ∧
    (s.ing.reclaim = 0 → Completes .reclaimDone s (fun t => t = s)) ∧
    (s.ing.reclaim ≠ 0 → Completes .reclaimDone s (fun t =>
      t.ing = { s.ing with reclaim := 0 } ∧ Pended 165 s t ∧ Frame [.ing, .ctl, .freeCount] [] s t)) ∧
    (s.ing.deferred = [] → Completes .deferredPacketApply s (fun t => t = s)) ∧
    (∀ h, s.ing.deferred = [h] → h.pkt = i → h.after = [] → s.mustWait g 0 = false →
      let s' := { s with ing := { s.ing with deferred := [] } }
      s'.Placed g → s'.errored g.fsn = false → s'.erroredNow g.fsn = false → s'.mustWait g 0 = false →
      Completes .deferredPacketApply s (fun t => exec i s' = .next t))

/-- The producer's packets (R60 to R63, R65 to R67, R72, R73, R76 to R82, R86 to R88, R131, R181, R196), applied to a frame
that nothing else follows. Readings and choices of the model: log entries 54, 61. -/
def Obligations.ScenePacketsApplied : Prop :=
  ∀ (s : State) (env : GladeEnv) (e : Epoch), s.Inv → s.Awake → s.node = .sapling → s.Lone e → env.hdr.fsn = e.fsn →
    (∀ base, s.Placed { env := env, type := 1, body := openBody base true false 0 } → e.st = .created → e.opened = false →
      e.specStarted = false → Completes (.frameOpen env base true 0) s (fun t =>
        (∃ e', t.epoch e.fsn = some e' ∧ e'.opened = true ∧ e'.keyframe = true ∧ e'.base = none ∧ e'.cards = [] ∧
          e'.pktCount = 0 ∧ e'.closed = false ∧ e'.err = e.err) ∧
        Frame [.ing, .thk] [] s t)) ∧
    (∀ base, s.Placed { env := env, type := 1, body := openBody base true true 0 } → e.opened = true →
      e.st ≠ .decided → e.st ≠ .abandoned → Completes (.frameReopen env base true 0) s (fun t =>
        (∃ e', t.epoch e.fsn = some e' ∧ e'.opened = true ∧ e'.cards = [] ∧ e'.pktCount = 0 ∧ e'.closed = false ∧
          e'.err.count = 0 ∧ e'.inval = allBins ∧ e'.queue = List.range 8192) ∧ Pended 162 s t ∧
        Frame [.ing, .thk, .pdl, .cmt, .ctl, .freeCount] [] s t)) ∧
    (∀ live : Bool,
      let body := closeBody (BitVec.ofNat 32 e.pktCount) e.digest (BitVec.ofNat 16 e.cards.length) live 0
      s.Placed { env := env, type := 7, body := body } → e.opened = true → e.closed = false → e.pktCount < 2 ^ 32 →
      e.cards.length ≤ 65535 → e.missingTex = none →
      (live = true → Completes (.frameClose env (BitVec.ofNat 32 e.pktCount) e.digest (BitVec.ofNat 16 e.cards.length) live 0)
        s (fun t => t.epoch e.fsn = some { e with closeSeen := true, livePending := true, closed := true } ∧
          Frame [.ing] [] s t)) ∧
      (live = false → e.setClosed = false → e.predState = .none → e.st = .active → e.queue ≠ [] →
        Completes (.frameClose env (BitVec.ofNat 32 e.pktCount) e.digest (BitVec.ofNat 16 e.cards.length) live 0)
          s (fun t =>
          t.epoch e.fsn = some { e with
            closeSeen := true, livePending := false, closed := true, setClosed := true, st := .closed } ∧
          t.reg R.BIN_INVAL_FSN = e.fsn ∧ t.fld F.BIN_INVAL_COUNT_COUNT = (binsOf e.inval).length ∧
          Frame [.ing, .ctl, .freeCount] [R.BIN_INVAL_FSN, F.BIN_INVAL_COUNT_COUNT.off] s t))) ∧
    (∀ body, s.Placed { env := env, type := 2, body := body } → e.opened = true → e.closeSeen = false →
      byteAt body 0 = 1 →
      let raw := (body.drop 4).take 96
      let c := readCard raw
      let v : CardVer := { card := c, last := e.fsn, foot := footprint s.binView c }
      (c.isRemove = false → cardValid c raw = true → e.flagError c = none → e.cards.length < 4096 →
        overfullBin (e.changeCard s.binView true c.id (some v)).cards = none → Completes (.cardSet env body) s (fun t =>
          (∃ e', t.epoch e.fsn = some e' ∧ cardOf e'.cards c.id = some { v with own := true } ∧
            (∀ k, k ≠ c.id → cardOf e'.cards k = cardOf e.cards k) ∧ e'.pktCount = e.pktCount + 1 ∧ e'.err = e.err) ∧
          Frame [.ing] [] s t)) ∧
      (c.isRemove = true → removeValid c raw = true → (cardOf e.cards c.id).isSome = true →
        overfullBin (e.changeCard s.binView true c.id none).cards = none → Completes (.cardSet env body) s (fun t =>
          (∃ e', t.epoch e.fsn = some e' ∧ cardOf e'.cards c.id = none ∧ e'.pktCount = e.pktCount + 1) ∧
          Frame [.ing] [] s t))) ∧
    (∀ body, s.Placed { env := env, type := 3, body := body } → e.opened = true → e.closeSeen = false →
      let d := readDefine body
      d.defineOk = true → texOf e.texs d.id = none → s.hasPages d.pageCount = true → Completes (.texDefine env body) s (fun t =>
        (∃ e', t.epoch e.fsn = some e' ∧ texOf e'.texs d.id =
          some { d with pages := (List.range d.pageCount).map (· + s.ing.freshPage) }) ∧
        t.ing.freshPage = s.ing.freshPage + d.pageCount ∧ Frame [.ing] [] s t)) ∧
    (∀ body x, s.Placed { env := env, type := 4, body := body } → e.opened = true → e.closeSeen = false → e.joins = [] →
      let u := readUpdHead body
      texOf e.texs u.tex = some x → u.mip < x.mips → u.x0 + u.w ≤ (x.levelSize u.mip).1 →
      u.y0 + u.h ≤ (x.levelSize u.mip).2 →
      (u.segCount ≠ 1 → Completes (.texUpdate env body) s (fun t =>
        (∃ e', t.epoch e.fsn = some e' ∧
          e'.joins = [{ head := u, got := [(leAt body 14 2, slice body 24 (leAt body 18 2))], done := false }] ∧
          e'.texs = e.texs) ∧ Frame [.ing] [] s t)) ∧
      (u.segCount = 1 → leAt body 14 2 = 0 → u.enc ≠ 0 → s.hasPages (x.touched u).length = true →
        Completes (.texUpdate env body) s (fun t =>
          (∃ j, t.thk.q0 = [j] ∧ j.upd = u ∧ j.fsn = e.fsn ∧ j.data = slice body 24 (leAt body 18 2) ∧ j.queue = 0) ∧
          Frame [.ing, .thk] [] s t))) ∧
    (∀ body, s.Placed { env := env, type := 5, body := body } → e.opened = true → e.closeSeen = false → leAt body 0 2 = 1 →
      (texOf e.texs (leAt body 4 2)).isSome = true → Completes (.texRelease env body) s (fun t =>
        (∃ e', t.epoch e.fsn = some e' ∧ texOf e'.texs (leAt body 4 2) = none ∧
          (∀ k, k ≠ leAt body 4 2 → texOf e'.texs k = texOf e.texs k) ∧ leAt body 4 2 ∈ e'.texGone) ∧
        Frame [.ing, .thk] [] s t)) ∧
    (∀ body v, s.Placed { env := env, type := 6, body := body } → e.opened = true → e.closeSeen = true →
      e.livePending = true → e.sealSeen = false → byteAt body 0 = 1 → byteAt body 1 = 0 →
      let raw := (body.drop 8).take 64
      let k := leAt raw 0 2
      let c := amendCard v.card raw
      let w : CardVer := { card := c, last := e.fsn, foot := footprint s.binView c }
      cardOf e.cards k = some v → v.card.isLive = true → leAt raw 2 2 = 0 → allZero (slice raw 54 10) = true →
      c.geometryOk = true → overfullBin (e.changeCard s.binView true k (some w)).cards = none →
      Completes (.amend env body) s (fun t =>
        (∃ e', t.epoch e.fsn = some e' ∧ cardOf e'.cards k = some { w with own := true } ∧ e'.amends = e.amends + 1 ∧
          e'.sealSeen = false) ∧ Frame [.ing] [] s t))

/-! ### Synthesis and decompression (chapters 3 to 5) -/

/-- Table addresses and their checks (R124, R153, R219, R583), and strips on engines (R138 to R141, R146, R172, R173, R178,
R191). Readings and choices of the model: log entries 68, 69. -/
def Obligations.TablesAndStripsRun : Prop :=
  ∀ s : State, s.Inv → s.Awake →
    (∀ (value : Word) (stamp : Time),
      let started := fun (c : TableChg) => { c with checking := true, lastWrite := stamp, atStart := false }
      Completes (.binBoundsWrite false value stamp) s (fun t =>
        t.reg R.BIN_BOUNDS_LO = value &&& 0xFFFFF000 ∧ t.grv = { s.grv with boundsChg := started s.grv.boundsChg } ∧
        Frame [.grv] [R.BIN_BOUNDS_LO] s t) ∧
      Completes (.binBoundsWrite true value stamp) s (fun t =>
        t.reg R.BIN_BOUNDS_HI = value &&& 0x3F ∧ t.grv = { s.grv with boundsChg := started s.grv.boundsChg } ∧
        Frame [.grv] [R.BIN_BOUNDS_HI] s t) ∧
      Completes (.grvDirWrite false value stamp) s (fun t =>
        t.reg R.GRV_DIR_LO = value &&& 0xFFFF0000 ∧ t.grv = { s.grv with dirChg := started s.grv.dirChg } ∧
        Frame [.grv] [R.GRV_DIR_LO] s t) ∧
      Completes (.colTableWrite .gmapLo value stamp) s (fun t =>
        t.reg R.COL_GMAP_LO = value &&& 0xFFFF0000 ∧ t.grv = { s.grv with colChg := started s.grv.colChg } ∧
        t.fld F.COL_STATUS_CHECKING = 1 ∧ Frame [.grv] [R.COL_GMAP_LO, F.COL_STATUS_CHECKING.off] s t)) ∧
    (∀ k stamp, (s.tableChg k).checking = false → Completes (.tableCheckEnd k stamp) s (fun t => t = s)) ∧
    (∀ k stamp, (s.tableChg k).checking = true → s.tableFault k = none → Completes (.tableCheckEnd k stamp) s (fun t =>
      t.tableChg k = { s.tableChg k with
        checking := false, atStart := false,
        accepted := (s.tableChg k).accepted ++ [((s.tableChg k).lastWrite, s.tableShadow k)] } ∧
      (∀ j, j ≠ k → t.tableChg j = s.tableChg j) ∧ Frame [.grv] [F.COL_STATUS_CHECKING.off] s t)) ∧
    (∀ why stamp lo hi, s.grv.boundsChg.checking = true → s.tableFault .bounds = some why →
      s.grv.boundsChg.inUse = [lo, hi] → s.grv.boundsChg.atStart = false →
      Completes (.tableCheckEnd .bounds stamp) s (fun t =>
        t.reg R.BIN_BOUNDS_LO = lo ∧ t.reg R.BIN_BOUNDS_HI = hi ∧
        t.grv = { s.grv with boundsChg := { s.grv.boundsChg with checking := false } } ∧ Pended 211 s t ∧
        Frame [.grv, .eff, .ctl] [R.BIN_BOUNDS_LO, R.BIN_BOUNDS_HI] s t)) ∧
    (∀ n f, s.fillOf n = some f → (∀ e, s.epoch n = some e → e.st ≠ .closed) → s.dmc.held = [] → s.grv.panics = [] →
      (f.released < 512 → (f.released < 2 ∨ f.groupComplete (f.released - 2) = true ∧ (f.released - 2) / 16 < f.nextLine) →
        Completes (.stripGroupRelease n) s (fun t =>
          (∃ f', t.fillOf n = some f' ∧ f'.released = f.released + 1 ∧ f'.sentGroups = max f.sentGroups (f.released - 1)) ∧
          Frame [.pdl, .ing, .dmc] (F.DMC_STATUS_PANIC.off :: (List.range 8).map (fun g => groveReg g 8)) s t)) ∧
      ((512 ≤ f.released ∨ 2 ≤ f.released ∧ f.groupComplete (f.released - 2) = false) →
        Completes (.stripGroupRelease n) s (fun t => t = s))) ∧
    (∀ engine, (128 ≤ engine ∨ s.grv.strips.any (fun x => x.engine == engine) = true ∨ s.arrayOn = false ∨
      s.frozen = true) → Completes (.stripIssue engine) s (fun t => t = s)) ∧
    (∀ engine f, engine < 128 → s.arrayOn = true → s.frozen = false →
      s.grv.strips.any (fun x => x.engine == engine) = false → s.fillReady (s.S + 1) = true →
      s.fillOf (s.S + 1) = some f → Completes (.stripIssue engine) s (fun t =>
        let off := groveReg (engine / 16) 8
        t.grv.strips = s.grv.strips ++ [{ engine := engine, kind := .fill, fsn := s.S + 1, bin := stripBin f.issued,
                                          row := stripRow f.issued }] ∧
        t.reg off = s.reg off ||| 1#32 <<< (engine % 16) ∧
        (∃ f', t.fillOf (s.S + 1) = some f' ∧ f'.pendingStrips = f.pendingStrips ++ [f.issued] ∧ f.issued < f'.issued) ∧
        Frame [.grv, .pdl, .ing] [off] s t)) ∧
    (∀ engine poison hits misses, s.grv.strips.find? (fun x => x.engine == engine) = none →
      Completes (.stripComplete engine poison hits misses) s (fun t => t = s)) ∧
    (∀ engine hits misses st i, engine < 128 → s.grv.strips.find? (fun x => x.engine == engine) = some st →
      Completes (.stripComplete engine (some i) hits misses) s (fun t =>
        t.reg R.GRV_POISON_RAY = s.stripRay st i ∧ (s.halfFan st.fsn = true → t.reg R.GRV_POISON_RAY &&& 1 = 0) ∧
        (st.fsn, 0x0202) ∈ t.cmt.causes)) ∧
    (∀ engine hits misses st f, engine < 128 → s.grv.strips.find? (fun x => x.engine == engine) = some st →
      st.kind = .fill → s.fillOf st.fsn = some f → (∀ e, s.epoch st.fsn = some e → e.st ≠ .closed) → s.dmc.held = [] →
      Completes (.stripComplete engine none hits misses) s (fun t =>
        (∀ x ∈ t.grv.strips, x.engine ≠ engine) ∧
        (t.reg (groveReg (engine / 16) 8)).getLsbD (engine % 16) = false ∧
        (∃ f' x, t.fillOf st.fsn = some f' ∧ f'.staged = f.staged ++ [x] ∧ x.bin = st.bin ∧ x.row = st.row ∧
          stripIndex st.bin st.row ∉ f'.pendingStrips) ∧
        Frame [.grv, .pdl, .dmc, .freeCount] ((List.range 8).map (fun g => groveReg g 8) ++ [groveReg (engine / 16) 0x10,
          groveReg (engine / 16) 0x14, F.COL_CLAMP_HIGH.off, F.COL_CLAMP_NEG.off, F.DMC_STATUS_PANIC.off, R.DMC_PANIC_CYCLES]) s t)) ∧
    (∀ grove, s.grv.strips.find? (fun x => x.engine / 16 == grove && x.kind == .fill) = none →
      Completes (.grovePanicAssert grove) s (fun t => t = s)) ∧
    (∀ grove st f, grove < 8 → s.grv.strips.find? (fun x => x.engine / 16 == grove && x.kind == .fill) = some st →
      s.fillOf st.fsn = some f → f.panicked = false → Completes (.grovePanicAssert grove) s (fun t =>
        (grove, st.fsn, stripIndex st.bin st.row / 512) ∈ t.grv.panics ∧
        getBits (t.reg (groveReg grove 8)) 16 16 = 1 ∧ t.fld F.DMC_STATUS_PANIC = 1 ∧
        t.dmc.panicGroves = s.dmc.panicGroves ||| 1#8 <<< grove ∧ Pended 228 s t ∧
        Frame [.grv, .pdl, .dmc, .ctl, .freeCount] [groveReg grove 8, F.DMC_STATUS_PANIC.off] s t)) ∧
    (∀ grove value, grove < 8 → Completes (.grvClkWrite grove value) s (fun t =>
      t.reg (groveReg grove 4) = value &&& 3 ∧ Frame [] [groveReg grove 4] s t))

/-- Thicket (R108 to R119): a TAIL that overfills the ring is refused; channels take queue 0 first; a refused descriptor ends
with 0x0A, or 0x0C where an ABORT covers it; a decompression writes its output and its checksum, a compression the compressed
bytes and the checksum of the original; ABORT marks what runs. Readings and choices of the model: log entries 12, 65.
Readings and choices of the model: log entries 12, 65. -/
def Obligations.ThicketRunsJobs : Prop :=
  ∀ (s : State) (q channel : Nat), s.Inv → s.Awake → 1 ≤ q → q ≤ 3 → channel ≤ 4 →
    (∀ value : Word, s.ringMod q / 2 < s.ringSpan q (s.ringHead q) (value.toNat % 2 ^ 13 % s.ringMod q) →
      Completes (.thkQtailWrite q value) s (fun t => Pended 194 s t ∧ Frame [.ctl, .freeCount] [] s t)) ∧
    (∀ value : Word, s.ringSpan q (s.ringHead q) (value.toNat % 2 ^ 13 % s.ringMod q) ≤ s.ringMod q / 2 →
      Completes (.thkQtailWrite q value) s (fun t =>
        t.fld (F.THK_QTAIL_TAIL (q - 1)) = value.toNat % 2 ^ 13 ∧ Frame [] [(F.THK_QTAIL_TAIL (q - 1)).off] s t)) ∧
    (s.ringHead q = s.ringTail q → Completes (.thkAbort q) s (fun t => t = s)) ∧
    (∀ j, s.ringHead q ≠ s.ringTail q → s.ringStart q = s.ringTail q → s.thk.jobs = [j] → j.queue = q → j.ended = false →
      s.thk.abortTo.length = 3 → Completes (.thkAbort q) s (fun t =>
        t.thk.jobs = [{ j with aborted := true }] ∧ t.thk.abortTo.getD (q - 1) none = some (s.ringTail q) ∧
        bitOf (t.reg R.THK_CTRL).toNat (4 + q) = true ∧ Frame [.thk] [R.THK_CTRL] s t)) ∧
    (s.flag F.THK_CTRL_ENABLE = false → Completes (.thkJobStart channel) s (fun t => t = s)) ∧
    (s.flag F.THK_CTRL_ENABLE = true → s.thk.jobs.any (fun j => j.channel == some channel) = false →
      (∀ j rest, channel < 4 → s.thk.q0 = j :: rest → Completes (.thkJobStart channel) s (fun t =>
        t.thk = { s.thk with q0 := rest, jobs := s.thk.jobs ++ [{ j with channel := some channel }] } ∧
        bitOf (t.reg R.THK_STATUS).toNat channel = true ∧ Frame [.thk] [R.THK_STATUS] s t)) ∧
      (s.thk.q0 = [] → s.thk.nextStart.length = 3 →
        (rrOrder s.thk.lastServed).find? (s.frontFits (channel == 4)) = some q → Completes (.thkJobStart channel) s (fun t =>
          t.thk.lastServed = q ∧ t.thk.nextStart.getD (q - 1) 0 = (s.ringStart q + 1) % s.ringMod q ∧
          t.thk.jobs = s.thk.jobs ++ [{ queue := q, index := s.ringStart q, channel := some channel,
                                        desc := s.descOf q (s.ringStart q) }] ∧
          bitOf (t.reg R.THK_STATUS).toNat channel = true ∧ Frame [.thk] [R.THK_STATUS] s t))) ∧
    (s.thk.jobs.any (fun j => j.channel == some channel) = false →
      Completes (.thkJobComplete channel) s (fun t => t = s)) ∧
    (∀ j, s.thk.jobs = [j] → j.channel = some channel → j.queue = q → j.index ≠ s.ringHead q →
      (j.desc.bad = true → j.aborted = true → Completes (.thkJobComplete channel) s (fun t =>
        t.thk.jobs = [{ j with channel := none, ended := true, status := 0x0C, crc := crc32c [], outLen := 0 }] ∧
        bitOf (t.reg R.THK_STATUS).toNat channel = false ∧ Frame [.thk] [R.THK_STATUS] s t)) ∧
      (j.desc.bad = true → j.aborted = false → Completes (.thkJobComplete channel) s (fun t =>
        t.thk.jobs = [{ j with channel := none, ended := true, status := 0x0A, crc := crc32c [], outLen := 0 }] ∧
        bitOf (t.reg R.THK_STATUS).toNat channel = false ∧ Frame [.thk] [R.THK_STATUS] s t)) ∧
      (j.desc.bad = false → j.desc.op = 0 → j.aborted = false → s.dmc.poison = [] → j.badLines = [] →
        let r := decompress j.desc.format j.desc.exact j.desc.limit j.desc.srcLen (s.bytes j.desc.src j.desc.srcLen)
        rangeInDram j.desc.dst r.out.length = true → s.pins' = [] →
        Completes (.thkJobComplete channel) s (fun t =>
          t.thk.jobs = [{ j with channel := none, ended := true, status := r.status, crc := crc32c r.out,
                                 outLen := r.out.length }] ∧
          (∀ i (h : i < r.out.length), Memory.read t.mem (j.desc.dst + i) = r.out[i]) ∧
          MemOutside j.desc.dst r.out.length s t ∧ Frame [.thk, .mem, .dmc] [R.THK_STATUS] s t)) ∧
      (j.desc.bad = false → j.desc.op = 1 → j.aborted = false → s.dmc.poison = [] → j.badLines = [] →
        let src := s.bytes j.desc.src j.desc.srcLen
        let out := compressBytes j.desc.format j.desc.level j.desc.wlog src
        let good := decide (out.length < j.desc.srcLen ∧ out.length ≤ j.desc.limit)
        let n := if good then out.length else min j.desc.limit (j.desc.srcLen - 1)
        rangeInDram j.desc.dst n = true → s.pins' = [] →
        Completes (.thkJobComplete channel) s (fun t =>
          (∃ crc : Word, (good = true → crc = crc32c src) ∧ t.thk.jobs = [{ j with
            channel := none, ended := true, crc := crc, outLen := n
            status := if good then 0 else if j.desc.srcLen ≤ j.desc.limit + 1 then 0x09 else 0x03 }]) ∧
          (∀ i (h : i < (out.take n).length), Memory.read t.mem (j.desc.dst + i) = (out.take n)[i]) ∧
          MemOutside j.desc.dst n s t ∧ Frame [.thk, .mem, .dmc, .freeCount] [R.THK_STATUS] s t)))

/-! ### Metrology and calibration (chapter 15) -/

/-- Camera frames, taps and exposure sets (R427 to R434, R439, R442, R445 to R448), with every tap idle: a frame start opens
the next FRAME_SEQ, lines enter or are counted bad, an end writes one record of 16 KiB. Readings and choices of the model:
log entries 77, 78. Readings and choices of the model: log entries 77, 78. -/
def Obligations.SensorFramesCaptured : Prop :=
  ∀ (s : State) (i : Nat) (stamp : Time), s.Inv → s.Awake → i < 4 → s.met.streams.length = 4 → s.met.taps.length = 4 →
    (s.flag (F.MET_T_CTRL_BUSY i) = false → s.fld (F.MET_T_CTRL_COUNT i) ≠ 0 → Completes (.tapArm i) s (fun t =>
      t.tap i = { s.tap i with armed := true, params := [s.reg (R.MET_T_CTRL i), s.reg (R.MET_T_BASE_LO i),
                                                         s.reg (R.MET_T_BASE_HI i), s.reg (R.MET_T_PITCH i)] } ∧
      t.flag (F.MET_T_CTRL_ARM i) = true ∧ Frame [.met] [R.MET_T_CTRL i] s t)) ∧
    ((s.flag (F.MET_T_CTRL_BUSY i) = true ∨ s.fld (F.MET_T_CTRL_COUNT i) = 0) →
      Completes (.tapArm i) s (fun t => t = s)) ∧
    (s.flag F.MET_CTRL_ENABLE = true → s.fld F.MET_CTRL_MODE = 1 → Completes (.csiFrameStart i false stamp) s (fun t =>
      t.fld F.MET_ERR_COUNT = s.countUp F.MET_ERR_COUNT ∧ Pended 428 s t ∧
      Frame [.ctl, .freeCount] [F.MET_ERR_COUNT.off] s t)) ∧
    (s.TapsIdle →
      (∀ k, (s.stream k).frame = none → s.fld (F.MET_S_DPC_HI_COUNT k) = 0 →
        let opened := fun (t0 : Time) (t : State) =>
          (∃ f, (t.stream k).frame = some f ∧ f.seq = (s.stream k).nextSeq ∧ f.start = t0 ∧ f.lines = 0 ∧
            f.test = false ∧ f.width = s.fld (F.MET_S_SIZE_W k) ∧ f.height = s.fld (F.MET_S_SIZE_H k) ∧
            ∀ n, s.ing.committed = some n → f.startFsn = n) ∧
          (t.stream k).nextSeq = (s.stream k).nextSeq + 1 ∧ Frame [.met, .freeCount] [] s t
        (s.receives 1 k = true → Completes (.csiFrameStart k true stamp) s (opened (s.csiTime stamp))) ∧
        (k = 0 → s.receives 2 0 = true → Completes (.parallelVsyncEdge stamp) s (opened stamp))) ∧
      (∀ k f samples, (s.stream k).frame = some f → f.overflow = false → f.row < f.height → f.lines < f.height →
        samples.length = f.width →
        let entered := fun (t : State) => (t.stream k).frame = some { f with
            row := f.row + 1, lines := f.lines + 1
            px := f.px ++ [(f.row, samples.map (fun p => p % 2 ^ f.bits * 2 ^ (16 - f.bits)))] } ∧
          Frame [.met] [] s t
        (s.receives 1 k = true →
          Completes (.csiLinePacket k (s.fld (F.MET_S_CFG_DT k)) true true false samples) s entered) ∧
        (s.receives 1 k = true →
          Completes (.csiLinePacket k (s.fld (F.MET_S_CFG_DT k)) true false false samples) s (fun t =>
            (t.stream k).frame = some { f with row := f.row + 1, bad := f.bad + 1 } ∧
            t.fld F.MET_ERR_COUNT = s.countUp F.MET_ERR_COUNT ∧ Pended 428 s t ∧
            Frame [.met, .ctl, .freeCount] [F.MET_ERR_COUNT.off] s t)) ∧
        (k = 0 → s.receives 2 0 = true → Completes (.parallelHsyncLine false samples) s entered)) ∧
      (∀ k f, (s.stream k).frame = some f → s.receives 1 k = true → f.short = false → f.long = false →
        f.lines = f.height → s.pins' = [] → s.dmc.poison = [] → Completes (.csiFrameEnd k true stamp) s (fun t =>
          (t.stream k).frame = none ∧ (t.stream k).lastRecord = some (s.csiTime stamp) ∧
          t.reg (R.MET_S_REC_IDX k) = f.seq ∧ Pended 424 s t ∧
          MemOutside (f.record + f.seq.toNat % 2 ^ f.ringLog * 16384) 16384 s t ∧
          Frame [.met, .mem, .dmc, .ctl, .freeCount] [R.MET_S_REC_IDX k] s t)) ∧
      (∀ k, s.testing k = true → Completes (.testFrameStart k stamp) s (fun t =>
        (t.stream k).frame = none ∧ (t.stream k).lastRecord.isSome = true ∧
        (t.stream k).nextSeq = (s.stream k).nextSeq + 1 ∧ t.reg (R.MET_S_REC_IDX k) = (s.stream k).nextSeq))) ∧
    ((s.stream i).queued.length < 4 → Completes (.expSetGo i) s (fun t =>
      (t.stream i).queued = (s.stream i).queued ++
        [(s.bytes (s.addr (F.MET_S_EXP_LO_ADDR i) (F.MET_S_EXP_HI_ADDR i)) 64, s.met.goOrder)] ∧
      t.met.goOrder = s.met.goOrder + 1 ∧ t.fld (F.MET_S_EXP_GO_QUEUED i) = (s.stream i).queued.length + 1 ∧
      Frame [.met] [(F.MET_S_EXP_GO_QUEUED i).off] s t)) ∧
    ((s.stream i).queued.length = 4 → Completes (.expSetGo i) s (fun t =>
      t.met = s.met ∧ t.fld F.MET_ERR_COUNT = s.countUp F.MET_ERR_COUNT ∧ Pended 428 s t)) ∧
    (∀ q rest, s.met.cci = none → s.nextSet = some i → (s.stream i).queued = q :: rest → rest.length < 4 →
      Completes .expSetStart s (fun t =>
        t.met.cci = some (i, q.1) ∧ (t.stream i).queued = rest ∧ t.fld (F.MET_S_EXP_GO_QUEUED i) = rest.length ∧
        t.fld F.MET_CCI_BUSY = 1 ∧ t.out = .cci i (setWrites q.1) :: s.out ∧
        Frame [.met, .out] [(F.MET_S_EXP_GO_QUEUED i).off, F.MET_CCI_BUSY.off] s t)) ∧
    (s.met.cci.isSome = true → Completes .expSetStart s (fun t => t = s)) ∧
    (s.met.cci = none → Completes (.expSetDone true stamp) s (fun t => t = s) ∧
      Completes (.cciTimeout stamp) s (fun t => t = s)) ∧
    (∀ d, s.met.cci = some (i, d) →
      Completes (.expSetDone true stamp) s (fun t =>
        t.met.cci = none ∧ t.fld F.MET_CCI_BUSY = 0 ∧ (t.stream i).ends = (s.stream i).ends ++
          [(stamp, s.fld (F.MET_S_CFG_EXP_LATENCY i), some (BitVec.ofNat 32 (leAt d 0 4)))] ∧ Pended 426 s t ∧
        Frame [.met, .ctl] [F.MET_CCI_BUSY.off] s t) ∧
      Completes (.cciTimeout stamp) s (fun t =>
        t.met.cci = none ∧ t.fld F.MET_CCI_BUSY = 0 ∧ t.out = .cciReset i :: s.out ∧ Pended 428 s t ∧
        Frame [.met, .ctl, .out, .freeCount] [F.MET_CCI_BUSY.off, F.MET_ERR_COUNT.off] s t))

/-- The calibration service (R449 to R455): who may open it, patterns, a solve that is refused or taken, staging, and trims
reloaded only while the screen is DARK. Readings and choices of the model: log entries 19, 42, 79. -/
def Obligations.CalibrationRuns : Prop :=
  ∀ (s : State) (req : PmpCtx), s.Inv → s.Awake → s.Asks req →
    (∀ force a b, s.met.cal.isSome = true → Completes (.calSessionOpen req force a b) s (fun t =>
      Answered req 0x0820 [] s t ∧ t.met = s.met ∧ t.fld F.MET_ERR_COUNT = s.countUp F.MET_ERR_COUNT)) ∧
    (∀ force a b, s.met.cal = none → s.cmt.screen = .show → s.sec.onAir = true →
      Completes (.calSessionOpen req force a b) s (fun t => Answered req 0x0821 [] s t ∧ t.met = s.met)) ∧
    (∀ force a b, s.met.cal = none → s.cmt.screen ≠ .show → s.sensorSeen req.stamp = true → s.pins' = [] →
      s.dmc.poison = [] → Completes (.calSessionOpen req force a b) s (fun t =>
        Answered req 0 [] s t ∧
        t.met.cal = some { client := req.session, force := force, prevTable := s.tableShadow .colour } ∧
        t.grv.colChg.checking = true ∧
        (∀ x, (x < a ∨ a + 0x7000 ≤ x) → (x < b ∨ b + 0x600000 ≤ x) → Memory.read t.mem x = Memory.read s.mem x) ∧
        Frame [.met, .mem, .dmc, .grv, .ctl, .out]
          [R.COL_TABLE_LO, R.COL_TABLE_HI, R.COL_GMAP_LO, R.COL_GMAP_HI, F.COL_STATUS_CHECKING.off] s t)) ∧
    (s.calOf req = none → ∀ c, (∃ x y z w, c = .calPattern req x y z ∨ c = .calSolve req w w w [] ∨
        c = .calStage req [] []) → Completes c s (fun t => Answered req 2 [] s t ∧ Frame [.ctl, .out] [] s t)) ∧
    (∀ c, s.calOf req = some c →
      (∀ descs target record, s.recordCounts c record = false → Completes (.calPattern req descs target record) s (fun t =>
        Answered req 0 [] s t ∧ t.met = { s.met with cal := some { c with pattern := descs } } ∧
        t.reg R.LYR_TARGET_FSN = target ∧ ∀ b, Memory.read t.mem b = Memory.read s.mem b)) ∧
      (∀ dir out total figures, s.solveFails dir out total = true →
        Completes (.calSolve req dir out total figures) s (fun t =>
          Answered req 0x0823 [] s t ∧ t.met = { s.met with cal := none } ∧ t.grv.colChg.checking = true)) ∧
      (∀ dir out total figures, s.solveFails dir out total = false →
        (figuresMeet figures = true → Completes (.calSolve req dir out total figures) s (fun t =>
          Answered req 0 (figureBytes figures) s t ∧
          t.met = { s.met with cal := some { c with solved := true, dirAddr := dir, figures := figures } } ∧
          Frame [.met, .ctl, .out] [] s t)) ∧
        (figuresMeet figures = false → c.force = false → Completes (.calSolve req dir out total figures) s (fun t =>
          Answered req 0x0824 [] s t ∧ t.met = { s.met with cal := none }))) ∧
      (∀ addrs rest, s.lc ≠ .returned → c.solved = false ∨ c.waiting.isSome = true →
        Completes (.calStage req addrs rest) s (fun t => Answered req 2 [] s t ∧ Frame [.ctl, .out] [] s t)) ∧
      (∀ addrs rest, s.lc = .returned → Completes (.calStage req addrs rest) s (fun t =>
        Answered req 3 [] s t ∧ Frame [.ctl, .out] [] s t)) ∧
      (∀ addrs rest, s.lc ≠ .returned → c.solved = true → c.waiting = none →
        s.instant .localAbort s.N - 512000000 ≤ req.stamp → Completes (.calStage req addrs rest) s (fun t =>
          t.met = { s.met with cal := some { c with waiting := some (req, addrs, rest) } } ∧ Frame [.met] [] s t)) ∧
      (∀ addrs rest, s.lc ≠ .returned → c.solved = true → c.waiting = none → s.nvm.stores.length = 2 →
        req.stamp < s.instant .localAbort s.N - 512000000 → Completes (.calStage req addrs rest) s (fun t =>
          let content := s.solvedDirs c ++ s.solvedBounds c ++ rest ++ figureBytes c.figures
          let to_ := if s.activeStore = some 0 then 1 else 0
          let seq := match s.activeStore with | some k => storeSeq (s.nvm.stores.getD k {}) + 1 | none => 1
          t.met = { s.met with cal := none } ∧
          t.nvm.stores.getD to_ {} = { bytes := s.storeHeader seq content ++ content } ∧
          t.nvm.stores.getD (1 - to_) {} = s.nvm.stores.getD (1 - to_) {} ∧
          t.grv.colChg.checking = true ∧ t.grv.dirChg.checking = true ∧ t.grv.boundsChg.checking = true ∧
          t.out.head? = some (.response req.session req.reqId 0 [])))) ∧
    (s.cmt.screen ≠ .dark → Completes (.trimReload req) s (fun t => Answered req 3 [] s t ∧ Frame [.ctl, .out] [] s t)) ∧
    (s.cmt.screen = .dark → Completes (.trimReload req) s (fun t =>
      (s.activeStore = none → Answered req 2 [] s t ∧ Frame [.ctl, .out] [] s t) ∧
      ∀ k, s.activeStore = some k → Answered req 0 [] s t ∧ t.ctl.trimPass = k ∧ t.fld F.CPX_START_STORE = k ∧
        t.meas = modAt s.meas 8 (fun m => Config.sha3 (digestBytes m ++
          digestBytes (Config.sha3 ((s.nvm.stores.getD k {}).bytes.take 4695)))) ∧
        t.pdl.lanes = s.pdl.lanes.map (fun d => { d with service := d.service ++ (List.range 32).map ItemKind.trim }) ∧
        Frame [.meas, .pdl, .ctl, .out] [F.CPX_START_STORE.off] s t))

/-! ### The management port, PMP and its services (chapter 17) -/

/-- The management port and PMP sessions (R504 to R511): link, address, ARP, echo; HELLO, FINISH, DATA, CLOSE, the timers.
Readings and choices of the model: log entries 7, 8, 28, 30, 31, 38, 40, 41. -/
def Obligations.HostSessionsRun : Prop :=
  ∀ s : State, s.Inv → s.Awake →
    (∀ up mbps, (up && mbps == 1000) = s.ctl.mgtLink → Completes (.mgtLinkChange up mbps) s (fun t => t = s)) ∧
    (s.ctl.mgtLink = false → s.flag F.MGT_IPCFG_DHCP = false → Completes (.mgtLinkChange true 1000) s (fun t =>
      t.ctl.mgtLink = true ∧ Pended 56 s t ∧ Frame [.ctl, .freeCount] [] s t)) ∧
    (s.mgtUp = true → s.flag F.MGT_IPCFG_DHCP = true → ∀ ip mask gw, Completes (.dhcpReplyReceive ip mask gw) s (fun t =>
      t.ctl = { s.ctl with lease := some (ip, mask, gw) } ∧ t.fld F.MGT_STATUS_DHCP_BOUND = 1 ∧
      t.ipAddress = some ip ∧ Frame [.ctl] [F.MGT_STATUS_DHCP_BOUND.off] s t)) ∧
    (∀ a, s.mgtUp = true → s.ipAddress = some a →
      ∀ from_, Completes (.arpRequestReceive from_ a) s (fun t =>
        t.out = .mgmt 2 from_ (leBytes 6 s.sec.fuses.mac.toNat) :: s.out ∧ Frame [.out] [] s t) ∧
      ∀ payload, Completes (.icmpEchoRequestReceive from_ a payload) s (fun t =>
        t.out = .mgmt 3 from_ payload :: s.out ∧ Frame [.out] [] s t)) ∧
    (∀ a from_ payload, s.ipAddress ≠ some a → Completes (.arpRequestReceive from_ a) s (fun t => t = s) ∧
      Completes (.icmpEchoRequestReceive from_ a payload) s (fun t => t = s)) ∧
    (∀ via guest header body stamp, s.pmpReaches via = true → s.lc ≠ .raw → s.lc ≠ .retired →
      let refused := fun (code : Nat) (t : State) =>
        t.ctl.sessions = s.ctl.sessions ∧ t.ctl.nextSession = s.ctl.nextSession + 1 ∧
        (∃ l, t.out = l ++ .pmpRecord s.ctl.nextSession 0x11 0 (leBytes 1 code) :: s.out ∧ (via = none → l = [])) ∧
        (via = none → t.ctl = { s.ctl with nextSession := s.ctl.nextSession + 1 } ∧ Frame [.ctl, .out] [] s t)
      (8 ≤ s.ctl.sessions.length → Completes (.pmpHello via guest header body stamp) s (refused 0x40)) ∧
      (s.ctl.sessions.length < 8 → headerGood 1 header body = false ∨ recordSeq header ≠ 0 ∨ body.length ≠ 1604 →
        Completes (.pmpHello via guest header body stamp) s (refused 0x42)) ∧
      (s.ctl.sessions.length < 8 → headerGood 1 header body = true → recordSeq header = 0 → body.length = 1604 →
        Completes (.pmpHello via guest header body stamp) s (fun t =>
          (∃ q, t.ctl.sessions = s.ctl.sessions ++ [q] ∧ q.id = s.ctl.nextSession ∧ q.opened = false ∧ q.guest = guest ∧
            q.via = via ∧ q.helloAt = stamp) ∧
          (∃ l b, t.out = l ++ .pmpRecord s.ctl.nextSession 0x02 0 b :: s.out ∧ (via = none → l = [])) ∧
          (via = none → Frame [.ctl, .out, .freeCount] [] s t)))) ∧
    (∀ q id header body stamp, s.ctl.sessions = [q] → q.id = id → s.pmpReaches q.via = true → s.met.cal = none →
      s.sec.session = none →
      let closed := fun (code : Nat) (t : State) =>
        t.ctl.sessions = [] ∧
        (∃ l, t.out = l ++ .pmpRecord id 0x11 q.txSeq (leBytes 1 code) :: s.out ∧ (q.via = none → l = [])) ∧
        (q.via = none → Pended 57 s t ∧ Frame [.ctl, .out, .sec] [] s t)
      (q.opened = true ∨ headerGood 3 header body = false ∨ recordSeq header ≠ 0 →
        Completes (.pmpFinish id header body stamp) s (closed 0x42)) ∧
      (q.opened = false → headerGood 3 header body = true → recordSeq header = 0 → q.helloAt + fiveSeconds ≤ stamp →
        Completes (.pmpFinish id header body stamp) s (closed 0x41)) ∧
      (q.opened = false → headerGood 3 header body = true → recordSeq header = 0 → stamp < q.helloAt + fiveSeconds →
        Completes (.pmpFinish id header body stamp) s (fun t =>
          (q.openRecord 3 0 body = none → closed 0x42 t) ∧ ∀ plain, q.openRecord 3 0 body = some plain →
            if s.finishOk q plain = true then
              t.ctl.sessions.map (fun x => (x.id, x.opened, x.rxSeq)) = [(id, true, q.rxSeq + 1)] ∧ Pended 57 s t ∧
              Frame [.ctl] [] s t
            else closed 0x41 t)) ∧
      (q.opened = false ∨ headerGood 0x10 header body = false ∨ recordSeq header ≠ q.rxSeq ∨ 16400 < body.length →
        Completes (.pmpDataRecord id header body stamp) s (closed 0x42)) ∧
      (q.opened = true → headerGood 0x10 header body = true → recordSeq header = q.rxSeq → body.length ≤ 16400 →
        q.events = [] → q.reqs.length < 16 →
        Completes (.pmpDataRecord id header body stamp) s (fun t =>
          (q.openRecord 0x10 q.rxSeq body = none → closed 0x42 t) ∧ ∀ plain, q.openRecord 0x10 q.rxSeq body = some plain →
            ∀ m ∈ readMessages plain.length plain, readMessages plain.length plain = [m] → m.2.2.1 = 0 →
              knownService m.1 = true →
              t.ctl.sessions.map (fun x => (x.id, x.opened, x.rxSeq, x.reqs)) =
                [(id, true, q.rxSeq + 1, q.reqs ++ [{ service := m.1, op := m.2.1, reqId := m.2.2.2 }])] ∧
              Frame [.ctl] [] s t)) ∧
      Completes (.pmpClose id stamp) s (fun t => t.ctl.sessions = [] ∧ Pended 57 s t ∧ Frame [.ctl, .sec] [] s t) ∧
      (q.opened = true → q.lastAt + oneMinute ≤ stamp → Completes (.pmpSessionTimeout id stamp) s (closed 0x43)) ∧
      (q.opened = false → q.helloAt + fiveSeconds ≤ stamp → Completes (.pmpSessionTimeout id stamp) s (closed 0x41)) ∧
      (q.opened = true → stamp < q.lastAt + oneMinute → Completes (.pmpSessionTimeout id stamp) s (fun t => t = s)) ∧
      (∀ acked, q.via = none → Completes (.pmpStreamAckTimer id acked stamp) s (fun t => t = s)) ∧
      (∀ acked v p, q.via = some v → q.unacked = [] → s.LeavesBy p 3 5 v.1 (streamPayload v.2 1 q.rxOffset []) →
        Completes (.pmpStreamAckTimer id acked stamp) s (fun t =>
          t.out = s.left p 3 5 v.1 (streamPayload v.2 1 q.rxOffset []) :: s.out ∧
          Frame [.fab, .out] [(F.FAB_P_TX_COUNT p).off] s t)) ∧
      (∀ acked v p at_ off data, q.via = some v → q.unacked = [(at_, off, data)] → off + data.length ≤ acked →
        s.LeavesBy p 3 5 v.1 (streamPayload v.2 1 q.rxOffset []) →
        Completes (.pmpStreamAckTimer id acked stamp) s (fun t =>
          t.ctl.sessions = [{ q with unacked := [] }] ∧
          t.out = s.left p 3 5 v.1 (streamPayload v.2 1 q.rxOffset []) :: s.out)) ∧
      (∀ acked v p at_ off data, q.via = some v → q.unacked = [(at_, off, data)] → acked ≤ off → 0 < data.length →
        at_ + 50 * 1000000 * 256 ≤ stamp → s.LeavesBy p 3 5 v.1 (streamPayload v.2 1 q.rxOffset []) →
        Completes (.pmpStreamAckTimer id acked stamp) s (fun t =>
          t.ctl.sessions = [{ q with unacked := [(stamp, off, data)] }])))

/-- The services of Table 17.14 (R512, R513, R529): what they answer, what they refuse, what goes on to the deciding node,
and what a guest may not use. Readings and choices of the model: log entries 5, 32, 33, 42, 49. -/
def Obligations.ServicesAnswer : Prop :=
  ∀ (s : State) (req : PmpCtx), s.Inv → s.Awake →
    (∀ q, s.session req.session = some q → q.guest = true → q.reqs = [] → q.events = [] →
      ∀ c ∈ [Instr.regRead req 0 1, .resetWarm req, .resetCpxRestart req, .tileReachGet req, .updateLockSet req,
        .membershipAddX req [], .trimReload req], Completes c s (fun t =>
        Answered req 3 [] s t ∧ Frame [.ctl, .out] [] s t)) ∧
    (s.session req.session = none → ∀ c ∈ [Instr.infoGet req, .eventSubscribe req 0, .regRead req 0 1, .resetWarm req,
      .updateLockSet req], Completes c s (fun t => t = s)) ∧
    (s.Asks req →
      Completes (.infoGet req) s (fun t =>
        (∃ rest, Answered req 0 (leBytes 4 (s.reg R.CPX_DEVICE_ID).toNat ++ rest) s t) ∧
        Frame [.ctl, .out, .freeCount] [] s t) ∧
      (∀ mask, Completes (.eventSubscribe req mask) s (fun t =>
        Answered req 0 [] s t ∧ (∃ q, t.session req.session = some q ∧ q.subMask = mask) ∧ Frame [.ctl, .out] [] s t)) ∧
      Completes (.eventUnsubscribe req) s (fun t =>
        Answered req 0 [] s t ∧ (∃ q, t.session req.session = some q ∧ q.subMask = 0 ∧ q.events = []) ∧
        Frame [.ctl, .out] [] s t) ∧
      (∀ off n, n = 0 ∨ 256 < n ∨ off % 4 ≠ 0 → Completes (.regRead req off n) s (fun t =>
        Answered req 2 [] s t ∧ Frame [.ctl, .out] [] s t)) ∧
      (∀ off, off % 4 = 0 → Completes (.regRead req off 1) s (fun t =>
        (∃ d, t.bus.data.take 1 = [d] ∧ Answered req 0 (leBytes 4 d.toNat) s t) ∧
        (off ≠ R.TIM_NOW_NS → (∀ ch, ch < 9 → off ≠ R.TIM_CAP_NS ch) → off ≠ R.TIM_PARENT → runsBetween off = false →
          off ≠ R.APL_STATUS → off ≠ R.APL_TEMP →
          Answered req 0 (leBytes 4 (s.readWord off (Config.freeWord s.freeCount)).toNat) s t ∧
          Frame [.bus, .latches, .ing, .hkp, .ctl, .out, .freeCount] [off] s t))) ∧
      (∀ writes, lcTest s.lc = false → Completes (.regWrite req writes) s (fun t =>
        Answered req 3 [] s t ∧ Frame [.ctl, .out] [] s t)) ∧
      (∀ off v row, lcTest s.lc = true → findReg off = some row → off % 4 = 0 → plainRegister off = true →
        reservedWrite row v = false → s.windowReserved off v = false → Completes (.regWrite req [(off, v)]) s (fun t =>
          Answered req 0 [] s t ∧ t.reg off = s.storedWord off v row.flds ∧
          Frame [.rwsPend, .ctl, .out] [off] s t)) ∧
      (∀ off n, (384827392 < off + n → Completes (.logRead req off n) s (fun t => Answered req 2 [] s t)) ∧
        (off + n ≤ 384827392 → Completes (.logRead req off n) s (fun t =>
          (∃ b, b.length = n ∧ Answered req 0 b s t) ∧ Frame [.ctl, .out, .freeCount] [] s t))) ∧
      (s.hkp.bist = none → (s.flag F.HKP_CTRL_BIST_EN = true → Completes (.resetWarm req) s (fun t =>
          Answered req 0 [] s t ∧ t.hkp.bist.isSome = true ∧ t.hkp.bistWarm = some 0x11 ∧
          Frame [.hkp, .apl, .pins, .ctl, .out] [] s t)) ∧
        (s.flag F.HKP_CTRL_BIST_EN = false → Completes (.resetWarm req) s (fun t =>
          Answered req 0 [] s t ∧ t.fld F.CPX_RESET_CAUSE_CAUSE = 0x11 ∧ t.node = .sapling ∧ t.lc = s.lc))) ∧
      (inLastHour s.ctl.cpxRestarts req.stamp < 2 → Completes (.resetCpxRestart req) s (fun t =>
        Answered req 0 [] s t ∧ t.ctl.restarting = true ∧ t.ctl.sessions = [] ∧ t.met.cal = none ∧
        Frame [.met, .sec, .ctl, .out] [] s t)) ∧
      (s.isDecider = false → (∀ l e v w id (p : PolicyReq) fsn parts, ∀ m ∈ [(Instr.membershipAddX req l, 0x11, nodeListBytes 0 l),
            (.membershipRemoveX req l, 0x11, nodeListBytes 1 l), (.membershipChangeE req e, 0x11, nodeListBytes 2 e),
            (.policySet req p, 0x12, polBytes p), (.bindingSet req v w, 0x13, leBytes 4 v.toNat ++ leBytes 4 w.toNat),
            (.updateActivate req id, 0x31, leBytes 1 0 ++ leBytes 4 id.toNat), (.onAirSet req, 0x31, leBytes 1 1),
            (.onAirClear req, 0x31, leBytes 1 2), (.apertureUpdate req fsn (.screen parts), 0x15,
              parts.flatMap (aplPartBytes fsn))],
          (s.here = none → Completes m.1 s (fun t => Answered req 5 [] s t ∧ Frame [.ctl, .out] [] s t)) ∧
          (∀ port, s.here.isSome = true → m.2.2.length ≤ 2034 →
            let b := streamPayload s.ctl.nextStream 2 0 (leBytes 2 m.2.1 ++ leBytes 4 req.reqId.toNat ++ m.2.2)
            s.LeavesBy port 3 5 s.rootA b → Completes m.1 s (fun t =>
              t.out = s.left port 3 5 s.rootA b :: s.out ∧ t.ctl = { s.ctl with nextStream := s.ctl.nextStream + 1 } ∧
              Frame [.fab, .ctl, .out] [(F.FAB_P_TX_COUNT port).off] s t)))) ∧
      (∀ a nodes, s.Alone a → nodeList nodes = true →
        let e := s.memberSets.1
        let x := s.memberSets.2.1
        ∀ c e' x', (c, e', x') ∈ [(Instr.membershipAddX req nodes, e, x ||| setOf nodes),
            (.membershipRemoveX req nodes, e, x &&& ~~~(setOf nodes)), (.membershipChangeE req nodes, setOf nodes, x)] →
        setOf nodes &&& ~~~e = 0 →
        (s.cmt.next.isSome = true → Completes c s (fun t =>
          Answered req 0x0233 [] s t ∧ Frame [.ctl, .out] [] s t)) ∧
        (s.cmt.next = none → Completes c s (fun t =>
          if s.stageFails (s.policySections s.policyWords e' (x' &&& e')) = true then
            Answered req 0x0943 [] s t ∧ Frame [.ctl, .out] [] s t
          else (∃ g, t.cmt.next = some g ∧ g.num = s.lastGen + 1 ∧ g.e = e' ∧ g.x = x' &&& e') ∧
            t.nvm.configs = s.nvm.configs.set (1 - s.configIndex)
              (s.restaged (s.policySections s.policyWords e' (x' &&& e'))) ∧
            t.out.head? = some (.response req.session req.reqId 0 [])))) ∧
      (∀ a p, s.Alone a → polWellFormed p = false → Completes (.policySet req p) s (fun t =>
        Answered req 2 [] s t ∧ Frame [.ctl, .out] [] s t)) ∧
      (∀ a p, s.Alone a → polWellFormed p = true →
        offsetsOk p.offsets = false ∨ sceneRoom p.rate (p.offsets.getD 0 0) = false →
        Completes (.policySet req p) s (fun t => Answered req 0x0231 [] s t ∧ Frame [.ctl, .out] [] s t)) ∧
      (∀ a p, s.Alone a → polWellFormed p = true → offsetsOk p.offsets = true →
        sceneRoom p.rate (p.offsets.getD 0 0) = true →
        (s.cmt.screen ≠ .dark → Completes (.policySet req p) s (fun t =>
          Answered req 0x0230 [] s t ∧ Frame [.ctl, .out] [] s t)) ∧
        (s.cmt.screen = .dark → s.cmt.next = none → Completes (.policySet req p) s (fun t =>
          let words := policyRegs.zipWith (fun r w => ((polWords p).lookup r).getD w) s.policyWords
          if s.stageFails (s.policySections words s.memberSets.1 s.memberSets.2.1) = true then
            Answered req 0x0943 [] s t ∧ Frame [.ctl, .out] [] s t
          else (∃ g, t.cmt.next = some g ∧ g.rate = p.rate ∧ g.holdLimit = p.holdLimit ∧ g.offsets = p.offsets ∧
            g.limitStart = p.limitStart) ∧ t.flag F.CMT_RATE_ANCHOR_SRC = p.anchorSrc ∧
          t.out.head? = some (.response req.session req.reqId 0 [])))) ∧
      (∀ stream source, s.isDecider = true → encodes R.ING_STREAM stream = true → encodes R.ING_SOURCE source = true →
        Completes (.bindingSet req stream source) s (fun t =>
          Answered req 0 [] s t ∧ t.fld F.ING_STREAM_STREAM_ID = getBits stream 15 0 ∧
          t.fld F.ING_SOURCE_SOURCE_ADDR = getBits source 15 0 ∧ t.rwsPend = s.rwsPend ++
            [{ off := R.ING_STREAM, value := t.reg R.ING_STREAM, stamp := req.stamp },
             { off := R.ING_SOURCE, value := t.reg R.ING_SOURCE, stamp := req.stamp }] ∧
          Frame [.rwsPend, .ctl, .out] [R.ING_STREAM, R.ING_SOURCE] s t)) ∧
      Completes (.tileReachGet req) s (fun t =>
        let v := s.binView
        Answered req 0 (([v.p, reachDegrees (fabs (s.grv.maxSlope.getD 0 0)), reachDegrees (fabs (s.grv.maxSlope.getD 1 0)),
          v.sh, v.sv] ++ v.pose).flatMap (fun w => leBytes 4 w.toNat)) s t ∧ Frame [.ctl, .out] [] s t) ∧
      (∀ rect fsn bits,
        (s.judge rect true ≠ 0 → Completes (.apertureUpdate req fsn (.node rect bits)) s (fun t =>
          Answered req (aplStatus (s.judge rect true)) (leBytes 1 (s.judge rect true)) s t ∧ Pended 410 s t ∧
          Frame [.ctl, .out] [] s t)) ∧
        (s.judge rect true = 0 → bits.length = (rectKH rect + 1) * rowSize rect →
          Completes (.apertureUpdate req fsn (.node rect bits)) s (fun t =>
            Answered req 0 (leBytes 4 s.apl.nextSeq.toNat) s t ∧ t.apl.nextSeq = s.apl.nextSeq + 1 ∧
            (∃ r, t.apl.queue = s.apl.queue ++ [r] ∧ r.seq = s.apl.nextSeq ∧ r.rect = rect ∧ r.fsn = fsn ∧ r.bits = bits) ∧
            Frame [.apl, .ctl, .out] [R.APL_REQ_SEQ, F.APL_STATUS_QUEUED.off] s t))) ∧
      (∀ a rect fsn bits, s.Alone a →
        exec (.apertureUpdate req fsn (.screen [(a, rect, bits)])) s = exec (.apertureUpdate req fsn (.node rect bits)) s ∧
        ∀ b port, b ≠ a → isGuest b = false →
          let m := leBytes 2 0x15 ++ leBytes 4 req.reqId.toNat ++ aplPartBytes fsn (b, rect, bits)
          m.length ≤ 2040 → s.LeavesBy port 3 5 b (streamPayload s.ctl.nextStream 2 0 m) →
          Completes (.apertureUpdate req fsn (.screen [(b, rect, bits)])) s (fun t =>
            t.out = .response req.session req.reqId 0 [] ::
              s.left port 3 5 b (streamPayload s.ctl.nextStream 2 0 m) :: s.out ∧
            Frame [.fab, .ctl, .out] [(F.FAB_P_TX_COUNT port).off] s t)) ∧
      (∀ records staged, records.all s.recordLive = false → Completes (.configChange req records staged) s (fun t =>
        Answered req 2 [] s t ∧ Frame [.ctl, .out] [] s t)) ∧
      (∀ records, records.all s.recordLive = true → Completes (.configChange req records false) s (fun t =>
        Answered req 0x0943 [] s t ∧ Frame [.ctl, .out] [] s t)) ∧
      (∀ r, s.recordLive r = true → plainRegister r.1 = true → s.nvm.configs.length = 2 →
        Completes (.configChange req [r] true) s (fun t =>
          let secs := putSection 1 (sectionBody s.image.sections 1 ++ initRecBytes r) s.image.sections
          if s.stageFails secs = true then Answered req 0x0943 [] s t ∧ Frame [.ctl, .out] [] s t
          else Answered req 0 [] s t ∧ t.nvm.configs = s.nvm.configs.set (1 - s.configIndex) (s.restaged secs))))

/-! ### Security and update (chapter 18) -/

/-- Quotes, the verification of a Sapling and the life cycle (R515 to R519, R522, R523). Readings and choices of the model:
log entries 7, 8, 9, 34, 44. Readings and choices of the model: log entries 7, 8, 9, 34, 44. -/
def Obligations.SecurityServicesRun : Prop :=
  ∀ s : State, s.Inv → s.Awake →
    (∀ req src (nonce : List Byte),
      (nonce.length ≠ 64 → Completes (.quoteRequest req (some src) nonce) s (fun t => t = s)) ∧
      (nonce.length = 64 → lcQuotes s.lc = true → Completes (.quoteRequest req (some src) nonce) s (fun t =>
        t = (sendPieces 7 src.1 src.2 0 true (s.quote nonce)).run s)) ∧
      (∀ p, nonce.length = 64 → lcQuotes s.lc = false →
        s.LeavesBy p 3 7 src.1 (streamPayload src.2 2 0 (leBytes 2 0x0A03)) →
        Completes (.quoteRequest req (some src) nonce) s (fun t =>
          t.out = s.left p 3 7 src.1 (streamPayload src.2 2 0 (leBytes 2 0x0A03)) :: s.out ∧
          Frame [.fab, .out] [(F.FAB_P_TX_COUNT p).off] s t)) ∧
      (s.Asks req → nonce.length = 64 → (lcQuotes s.lc = true → Completes (.quoteRequest req none nonce) s (fun t =>
          Answered req 0 (s.quote nonce) s t ∧ Frame [.ctl, .out] [] s t)) ∧
        (lcQuotes s.lc = false → Completes (.quoteRequest req none nonce) s (fun t =>
          Answered req 0x0A03 [] s t ∧ Frame [.ctl, .out] [] s t)))) ∧
    (∀ port stamp, s.verifies port = false → Completes (.saplingVerify port stamp) s (fun t => t = s)) ∧
    (∀ port stamp b p, s.verifies port = true → s.partnerAddr port = some b →
      s.LeavesBy p 3 7 b (streamPayload s.ctl.nextStream 2 0 (List.replicate 64 0)) →
      Completes (.saplingVerify port stamp) s (fun t => (∃ n : List Byte, n.length = 64 ∧
        t.sec = { s.sec with attest := putKey port (n, stamp) s.sec.attest } ∧
        t.out = s.left p 3 7 b (streamPayload s.ctl.nextStream 2 0 n) :: s.out) ∧
        Frame [.sec, .fab, .ctl, .out, .freeCount] [(F.FAB_P_TX_COUNT p).off] s t)) ∧
    (∀ port body chain stamp b a, s.verifies port = true → s.partnerAddr port = some b → s.Alone a →
      Completes (.quoteReceive port body chain stamp) s (fun t =>
        t.sec.attest.lookup port = none ∧
        if s.judgeQuote port body chain stamp = 0 then
          t.out = s.selfPacket 0 1 0 3 false a (vouchBytes b) :: s.out ∧ Pended 18 s t ∧ Frame [.sec, .fab, .ctl, .out] [] s t
        else t.fld F.SEC_ATTEST_FAIL_COUNT = s.countUp F.SEC_ATTEST_FAIL_COUNT ∧
          t.fld F.SEC_ATTEST_FAIL_CODE = s.judgeQuote port body chain stamp ∧ t.fld F.SEC_ATTEST_NODE_ADDR = b.toNat ∧
          Pended 17 s t ∧ Frame [.sec, .ctl] [F.SEC_ATTEST_FAIL_COUNT.off, F.SEC_ATTEST_NODE_ADDR.off] s t)) ∧
    (∀ req tok, s.Asks req → Completes (.lifecycleTransition req false tok) s (fun t =>
      if s.judgeToken tok req.stamp = 0 then
        (∃ n, lcOfCode tok.target.toNat = some n ∧ t.lc = n ∧ lcMove s.lc n = true) ∧ t.node = .sapling ∧ Answered req 0 [] s t
      else Answered req (s.judgeToken tok req.stamp) [] s t ∧ Pended 16 s t ∧
        t.meas = modAt s.meas 14 (fun m => Config.sha3 (digestBytes m ++
          digestBytes (Config.codeDigest (s.judgeToken tok req.stamp)))) ∧ Frame [.meas, .ctl, .out] [] s t)) ∧
    (∀ req tok, lcJtag s.lc = false → Completes (.lifecycleTransition req true tok) s (fun t => t = s)) ∧
    (∀ req, s.Asks req ∨ s.lc = .raw ∧ s.session req.session = none → Completes (.lifecycleGetNonce req) s (fun t =>
      (∃ n, n.length = 32 ∧ Answered req 0 n s t ∧ t.sec = { s.sec with nonces := (n, req.stamp) :: s.sec.nonces }) ∧
      Frame [.sec, .ctl, .out, .freeCount] [] s t))

/-- Firmware update (R525 to R532, R536): offers and their refusal, blocks, verification, the lock, status, activation, and
the two guard flags. Readings and choices of the model: log entries 8, 35, 36, 42, 43, 49. -/
def Obligations.UpdatesRun : Prop :=
  ∀ s : State, s.Inv → s.Awake →
    (∀ req rect head crcs, s.Asks req → headBlocks head ≠ 0 → s.updCopy.head ≠ head → s.sec.journal.length = 2 →
      Completes (.updateOffer req rect head crcs) s (fun t =>
        if s.judgeOffer head crcs req.stamp = 0 then
          (∃ u, t.sec.session = some u ∧ u.session = some req.session ∧ u.rect = rect ∧ u.head = head ∧ u.crcs = crcs) ∧
          t.bitmap = [] ∧ t.updCopy.head = head ∧ t.sec.upd = .downloading ∧
          t.reg R.SEC_UPD_ID = BitVec.ofNat 32 (headBundleId head) ∧
          t.out.head? = some (.response req.session req.reqId 0 [])
        else Answered req (0x0900 + s.judgeOffer head crcs req.stamp) [] s t ∧
          t.fld F.SEC_UPD_STATE_ERR = 0x0900 + s.judgeOffer head crcs req.stamp ∧ Pended 20 s t ∧
          Frame [.ctl, .out] [R.SEC_UPD_STATE] s t)) ∧
    (∀ src head crcs stamp, Completes (.updateOfferRelayReceive src head crcs stamp) s (fun t =>
      if s.judgeOffer head crcs stamp = 0 then
        t.sec.session = some { session := none, source := src, head := head, crcs := crcs } ∧ t.out = s.out
      else t.fld F.SEC_UPD_STATE_ERR = 0x0900 + s.judgeOffer head crcs stamp ∧ t.sec = s.sec ∧ Pended 20 s t)) ∧
    (∀ u id block chunk (data : List Byte), s.sec.session = some u →
      ((s.sec.upd ≠ .downloading ∨ data.length ≠ 1024 ∨ 64 ≤ chunk ∨ block ∈ s.bitmap) →
        Completes (.updateBlockReceive id block chunk data) s (fun t => t = s)) ∧
      (s.sec.upd = .downloading → s.sec.journal.length = 2 → s.sec.slots.length = 2 → id.toNat = headBundleId u.head → block < headBlocks u.head → block ∉ s.bitmap →
        chunk < 64 → data.length = 1024 →
        let l := ((addChunk u.chunks block chunk data).lookup block).getD []
        let d := ((List.range 64).flatMap (fun i => (l.lookup i).getD [])).take (blockLength u.head block)
        (l.length ≠ 64 → Completes (.updateBlockReceive id block chunk data) s (fun t =>
          t.sec = { s.sec with session := some { u with chunks := addChunk u.chunks block chunk data } } ∧
          Frame [.sec] [] s t)) ∧
        (l.length = 64 → crc32c d ≠ u.crcs.getD block 0 → Completes (.updateBlockReceive id block chunk data) s (fun t =>
          t.fld F.SEC_UPD_BLOCKS_BLOCK_ERR = s.countUp F.SEC_UPD_BLOCKS_BLOCK_ERR ∧ t.bitmap = s.bitmap ∧
          Frame [.sec] [F.SEC_UPD_BLOCKS_BLOCK_ERR.off] s t)) ∧
        (l.length = 64 → crc32c d = u.crcs.getD block 0 → Completes (.updateBlockReceive id block chunk data) s (fun t =>
          t.bitmap = insertNat block s.bitmap ∧ t.updCopy.seq = s.updCopy.seq + 1 ∧ t.updCopy.head = u.head)))) ∧
    (s.sec.upd ≠ .verifying → Completes .bundleVerifyDone s (fun t => t = s)) ∧
    (∀ u, s.sec.upd = .verifying → s.sec.session = some u → s.sec.slots.length = 2 → s.sec.journal.length = 2 →
      s.idleSlot < 2 → Completes .bundleVerifyDone s (fun t =>
        if s.judgeBundle u = 0 then
          t.sec.upd = .staged ∧ t.sec.session = none ∧ (t.slot s.idleSlot).verified = true ∧ Pended 19 s t ∧
          Frame [.sec, .ctl, .freeCount] [] s t
        else t.sec.upd = .downloading ∧ t.bitmap = [] ∧ t.slot s.idleSlot = {} ∧
          t.fld F.SEC_UPD_STATE_ERR = 0x0900 + s.judgeBundle u ∧ t.fld F.SEC_UPD_BLOCKS_VERIFIED = 0 ∧ Pended 19 s t ∧
          Frame [.sec, .ctl, .freeCount] [R.SEC_UPD_STATE, F.SEC_UPD_BLOCKS_VERIFIED.off] s t)) ∧
    (∀ req u, s.Asks req → s.sec.session = some u →
      (u.session = some req.session → Completes (.updateAbandon req) s (fun t =>
        Answered req 0 [] s t ∧ t.sec.session = none ∧ t.sec.upd = .idle ∧ Frame [.sec, .ctl, .out, .freeCount] [] s t)) ∧
      (u.session ≠ some req.session → Completes (.updateAbandon req) s (fun t =>
        Answered req 2 [] s t ∧ Frame [.ctl, .out] [] s t))) ∧
    (∀ u c stamp, s.sec.session = some u → u.closedAt = some c →
      (c + oneMinute ≤ stamp → Completes (.updateLockTimeout stamp) s (fun t =>
        t.sec.session = none ∧ t.sec.upd = .idle ∧ Frame [.sec, .ctl, .freeCount] [] s t)) ∧
      (stamp < c + oneMinute → Completes (.updateLockTimeout stamp) s (fun t => t = s))) ∧
    (s.here = none → Completes .updateStatusSend s (fun t => t = s)) ∧
    (∀ p, s.here.isSome = true → s.sec.session = none →
      s.LeavesBy p 3 6 s.rootA (streamPayload s.ctl.nextStream 2 0 s.statusBytes) →
      Completes .updateStatusSend s (fun t =>
        t.out = s.left p 3 6 s.rootA (streamPayload s.ctl.nextStream 2 0 s.statusBytes) :: s.out ∧
        Frame [.fab, .ctl, .out] [(F.FAB_P_TX_COUNT p).off] s t)) ∧
    (∀ r, s.sec.session = none → Completes (.updateStatusReceive r) s (fun t =>
      t.sec = { s.sec with reports := r :: s.sec.reports.filter (fun x => x.node != r.node) } ∧ Frame [.sec] [] s t)) ∧
    (∀ req id, s.Asks req → s.isDecider = true →
      (s.judgeActivate id req.stamp ≠ 0 → s.judgeActivate id req.stamp < 256 →
        Completes (.updateActivate req id) s (fun t =>
          Answered req (0x0900 + s.judgeActivate id req.stamp) [] s t ∧ Pended 20 s t ∧
          Frame [.ctl, .out] [R.SEC_UPD_STATE] s t)) ∧
      (s.judgeActivate id req.stamp = 0 → s.cmt.decider.actReq = none → Completes (.updateActivate req id) s (fun t =>
        Answered req 0 [] s t ∧ t.cmt.decider.actReq = some (s.S + 64, id) ∧ t.cmt.decider.actCarried = false ∧
        Frame [.cmt, .ctl, .out] [] s t))) ∧
    (∀ req, s.Asks req → s.isDecider = true →
      ∀ c b, (c, b) ∈ [(Instr.onAirSet req, true), (.onAirClear req, false)] → Completes c s (fun t =>
        Answered req 0 [] s t ∧ t.sec = { s.sec with onAirNext := some (b, req.stamp) } ∧
        Frame [.sec, .ctl, .out] [] s t)) ∧
    (∀ req, s.Asks req → ∀ c b, (c, b) ∈ [(Instr.updateLockSet req, true), (.updateLockClear req, false)] →
      Completes c s (fun t => Answered req 0 [] s t ∧ t.sec = { s.sec with updLock := b } ∧
        Frame [.sec, .ctl, .out] [] s t))
end

