-- ==== Sys2Proof/Laws/Bits.lean ====
section
/-! SUPPORT. Bit fields of register words: reading a field back, and fields that do not overlap. -/

namespace Sys2Proof.Machine

theorem maskW_bit (hi lo i : Nat) (h : hi < 32) (hl : lo ≤ hi) :
    (maskW hi lo).getLsbD i = (decide (lo ≤ i) && decide (i ≤ hi)) := by
  have e : (2 ^ (hi + 1) - 1) - (2 ^ lo - 1) = 2 ^ lo * (2 ^ (hi + 1 - lo) - 1) := by
    rw [Nat.mul_sub, ← Nat.pow_add, show lo + (hi + 1 - lo) = hi + 1 by omega, Nat.mul_one]
    have := Nat.two_pow_pos lo
    have := Nat.pow_le_pow_right (n := 2) (by omega) (show lo ≤ hi + 1 by omega)
    omega
  unfold maskW
  rw [e, BitVec.getLsbD_ofNat, Nat.testBit_two_pow_mul, Nat.testBit_two_pow_sub_one]
  by_cases h1 : lo ≤ i <;> by_cases h2 : i ≤ hi <;> simp [h1, h2] <;> omega

theorem getBits_bit (w : Word) (hi lo i : Nat) :
    (getBits w hi lo).testBit i = (decide (i < hi + 1 - lo) && w.getLsbD (lo + i)) := by
  unfold getBits bitsOf
  rw [Nat.testBit_mod_two_pow, Nat.testBit_div_two_pow, BitVec.getLsbD, Nat.add_comm i lo]

theorem putBits_bit (w : Word) (hi lo v i : Nat) (h : hi < 32) (hl : lo ≤ hi) :
    (putBits w hi lo v).getLsbD i =
      if lo ≤ i ∧ i ≤ hi then v.testBit (i - lo) else w.getLsbD i := by
  unfold putBits
  by_cases h1 : i < 32
  · simp only [BitVec.getLsbD_or, BitVec.getLsbD_and, BitVec.getLsbD_not, maskW_bit hi lo i h hl, BitVec.getLsbD_ofNat,
      Nat.mul_comm v, Nat.testBit_two_pow_mul, h1]
    by_cases h2 : lo ≤ i <;> by_cases h3 : i ≤ hi <;> simp [h2, h3]
  · rw [BitVec.getLsbD_of_ge _ _ (by omega), BitVec.getLsbD_of_ge _ _ (by omega), if_neg (by omega)]

/-- A field reads back what was put into it, at its width. -/
theorem getBits_putBits (w : Word) (hi lo v : Nat) (h : hi < 32) (hl : lo ≤ hi) :
    getBits (putBits w hi lo v) hi lo = v % 2 ^ (hi + 1 - lo) := by
  apply Nat.eq_of_testBit_eq
  intro i
  rw [getBits_bit, putBits_bit _ _ _ _ _ h hl, Nat.testBit_mod_two_pow]
  by_cases h1 : i < hi + 1 - lo
  · simp [h1, show lo ≤ lo + i ∧ lo + i ≤ hi by omega]
  · simp [h1]

/-- A field that does not overlap another keeps its value when that one is put. -/
theorem getBits_putBits_other (w : Word) (hi lo v hi' lo' : Nat) (h : hi < 32) (hl : lo ≤ hi)
    (hd : hi < lo' ∨ hi' < lo) : getBits (putBits w hi lo v) hi' lo' = getBits w hi' lo' := by
  apply Nat.eq_of_testBit_eq
  intro i
  rw [getBits_bit, getBits_bit, putBits_bit _ _ _ _ _ h hl]
  by_cases h1 : i < hi' + 1 - lo'
  · simp [h1, show ¬(lo ≤ lo' + i ∧ lo' + i ≤ hi) by omega]
  · simp [h1]

/-- A field under and-not of a mask that does not touch it. -/
theorem getBits_clear_other (w v : Word) (hi lo hi' lo' : Nat) (h : hi < 32) (hl : lo ≤ hi)
    (hd : hi < lo' ∨ hi' < lo) : getBits (w &&& ~~~(v &&& maskW hi lo)) hi' lo' = getBits w hi' lo' := by
  apply Nat.eq_of_testBit_eq
  intro i
  rw [getBits_bit, getBits_bit]
  by_cases h1 : i < hi' + 1 - lo'
  · by_cases h2 : lo' + i < 32
    · have : ¬(lo ≤ lo' + i ∧ lo' + i ≤ hi) := by omega
      simp only [BitVec.getLsbD_and, BitVec.getLsbD_not, maskW_bit hi lo _ h hl]
      by_cases h3 : lo ≤ lo' + i <;> by_cases h4 : lo' + i ≤ hi <;> simp_all
    · simp [BitVec.getLsbD_of_ge _ _ (Nat.le_of_not_lt h2)]
  · simp [h1]

/-- A field under or of a mask that does not touch it. -/
theorem getBits_set_other (w v : Word) (hi lo hi' lo' : Nat) (h : hi < 32) (hl : lo ≤ hi)
    (hd : hi < lo' ∨ hi' < lo) : getBits (w ||| (v &&& maskW hi lo)) hi' lo' = getBits w hi' lo' := by
  apply Nat.eq_of_testBit_eq
  intro i
  rw [getBits_bit, getBits_bit]
  by_cases h1 : i < hi' + 1 - lo'
  · have : ¬(lo ≤ lo' + i ∧ lo' + i ≤ hi) := by omega
    simp only [BitVec.getLsbD_or, BitVec.getLsbD_and, maskW_bit hi lo _ h hl]
    by_cases h2 : lo ≤ lo' + i <;> by_cases h3 : lo' + i ≤ hi <;> simp_all
  · simp [h1]

end Sys2Proof.Machine
end

