-- ==== Sys2Proof/Laws/State.lean ====
section
/-! SUPPORT. One lemma per field of State per act: what the act leaves in that field. No later proof needs to unfold a
record update. -/

namespace Sys2Proof.Machine

section
variable (off : Nat) (v : Word) (s : State)

@[simp] theorem Act.reg_regs : ((Act.reg off v).apply s).regs = Sparse.write resetWord s.regs off v := rfl
@[simp] theorem Act.reg_eff : ((Act.reg off v).apply s).eff = s.eff := rfl
@[simp] theorem Act.reg_rwsPend : ((Act.reg off v).apply s).rwsPend = s.rwsPend := rfl
@[simp] theorem Act.reg_latches : ((Act.reg off v).apply s).latches = s.latches := rfl
@[simp] theorem Act.reg_bus : ((Act.reg off v).apply s).bus = s.bus := rfl
@[simp] theorem Act.reg_mem : ((Act.reg off v).apply s).mem = s.mem := rfl
@[simp] theorem Act.reg_node : ((Act.reg off v).apply s).node = s.node := rfl
@[simp] theorem Act.reg_lc : ((Act.reg off v).apply s).lc = s.lc := rfl
@[simp] theorem Act.reg_secVersion : ((Act.reg off v).apply s).secVersion = s.secVersion := rfl
@[simp] theorem Act.reg_advancesLeft : ((Act.reg off v).apply s).advancesLeft = s.advancesLeft := rfl
@[simp] theorem Act.reg_meas : ((Act.reg off v).apply s).meas = s.meas := rfl
@[simp] theorem Act.reg_ing : ((Act.reg off v).apply s).ing = s.ing := rfl
@[simp] theorem Act.reg_thk : ((Act.reg off v).apply s).thk = s.thk := rfl
@[simp] theorem Act.reg_grv : ((Act.reg off v).apply s).grv = s.grv := rfl
@[simp] theorem Act.reg_lyr : ((Act.reg off v).apply s).lyr = s.lyr := rfl
@[simp] theorem Act.reg_pdl : ((Act.reg off v).apply s).pdl = s.pdl := rfl
@[simp] theorem Act.reg_sds : ((Act.reg off v).apply s).sds = s.sds := rfl
@[simp] theorem Act.reg_apl : ((Act.reg off v).apply s).apl = s.apl := rfl
@[simp] theorem Act.reg_fab : ((Act.reg off v).apply s).fab = s.fab := rfl
@[simp] theorem Act.reg_tim : ((Act.reg off v).apply s).tim = s.tim := rfl
@[simp] theorem Act.reg_cmt : ((Act.reg off v).apply s).cmt = s.cmt := rfl
@[simp] theorem Act.reg_met : ((Act.reg off v).apply s).met = s.met := rfl
@[simp] theorem Act.reg_dmc : ((Act.reg off v).apply s).dmc = s.dmc := rfl
@[simp] theorem Act.reg_sram : ((Act.reg off v).apply s).sram = s.sram := rfl
@[simp] theorem Act.reg_nvm : ((Act.reg off v).apply s).nvm = s.nvm := rfl
@[simp] theorem Act.reg_ctl : ((Act.reg off v).apply s).ctl = s.ctl := rfl
@[simp] theorem Act.reg_sec : ((Act.reg off v).apply s).sec = s.sec := rfl
@[simp] theorem Act.reg_hkp : ((Act.reg off v).apply s).hkp = s.hkp := rfl
@[simp] theorem Act.reg_pins : ((Act.reg off v).apply s).pins = s.pins := rfl
@[simp] theorem Act.reg_out : ((Act.reg off v).apply s).out = s.out := rfl
@[simp] theorem Act.reg_freeCount : ((Act.reg off v).apply s).freeCount = s.freeCount := rfl
@[simp] theorem Act.reg_pending : ((Act.reg off v).apply s).pending = s.pending := rfl

end

section
variable (off : Nat) (v : Word) (s : State)

@[simp] theorem Act.eff_regs : ((Act.eff off v).apply s).regs = s.regs := rfl
@[simp] theorem Act.eff_eff : ((Act.eff off v).apply s).eff = Sparse.write resetWord s.eff off v := rfl
@[simp] theorem Act.eff_rwsPend : ((Act.eff off v).apply s).rwsPend = s.rwsPend := rfl
@[simp] theorem Act.eff_latches : ((Act.eff off v).apply s).latches = s.latches := rfl
@[simp] theorem Act.eff_bus : ((Act.eff off v).apply s).bus = s.bus := rfl
@[simp] theorem Act.eff_mem : ((Act.eff off v).apply s).mem = s.mem := rfl
@[simp] theorem Act.eff_node : ((Act.eff off v).apply s).node = s.node := rfl
@[simp] theorem Act.eff_lc : ((Act.eff off v).apply s).lc = s.lc := rfl
@[simp] theorem Act.eff_secVersion : ((Act.eff off v).apply s).secVersion = s.secVersion := rfl
@[simp] theorem Act.eff_advancesLeft : ((Act.eff off v).apply s).advancesLeft = s.advancesLeft := rfl
@[simp] theorem Act.eff_meas : ((Act.eff off v).apply s).meas = s.meas := rfl
@[simp] theorem Act.eff_ing : ((Act.eff off v).apply s).ing = s.ing := rfl
@[simp] theorem Act.eff_thk : ((Act.eff off v).apply s).thk = s.thk := rfl
@[simp] theorem Act.eff_grv : ((Act.eff off v).apply s).grv = s.grv := rfl
@[simp] theorem Act.eff_lyr : ((Act.eff off v).apply s).lyr = s.lyr := rfl
@[simp] theorem Act.eff_pdl : ((Act.eff off v).apply s).pdl = s.pdl := rfl
@[simp] theorem Act.eff_sds : ((Act.eff off v).apply s).sds = s.sds := rfl
@[simp] theorem Act.eff_apl : ((Act.eff off v).apply s).apl = s.apl := rfl
@[simp] theorem Act.eff_fab : ((Act.eff off v).apply s).fab = s.fab := rfl
@[simp] theorem Act.eff_tim : ((Act.eff off v).apply s).tim = s.tim := rfl
@[simp] theorem Act.eff_cmt : ((Act.eff off v).apply s).cmt = s.cmt := rfl
@[simp] theorem Act.eff_met : ((Act.eff off v).apply s).met = s.met := rfl
@[simp] theorem Act.eff_dmc : ((Act.eff off v).apply s).dmc = s.dmc := rfl
@[simp] theorem Act.eff_sram : ((Act.eff off v).apply s).sram = s.sram := rfl
@[simp] theorem Act.eff_nvm : ((Act.eff off v).apply s).nvm = s.nvm := rfl
@[simp] theorem Act.eff_ctl : ((Act.eff off v).apply s).ctl = s.ctl := rfl
@[simp] theorem Act.eff_sec : ((Act.eff off v).apply s).sec = s.sec := rfl
@[simp] theorem Act.eff_hkp : ((Act.eff off v).apply s).hkp = s.hkp := rfl
@[simp] theorem Act.eff_pins : ((Act.eff off v).apply s).pins = s.pins := rfl
@[simp] theorem Act.eff_out : ((Act.eff off v).apply s).out = s.out := rfl
@[simp] theorem Act.eff_freeCount : ((Act.eff off v).apply s).freeCount = s.freeCount := rfl
@[simp] theorem Act.eff_pending : ((Act.eff off v).apply s).pending = s.pending := rfl

end

section
variable (a : Nat) (bs : List Byte) (s : State)

@[simp] theorem Act.mem_regs : ((Act.mem a bs).apply s).regs = s.regs := rfl
@[simp] theorem Act.mem_eff : ((Act.mem a bs).apply s).eff = s.eff := rfl
@[simp] theorem Act.mem_rwsPend : ((Act.mem a bs).apply s).rwsPend = s.rwsPend := rfl
@[simp] theorem Act.mem_latches : ((Act.mem a bs).apply s).latches = s.latches := rfl
@[simp] theorem Act.mem_bus : ((Act.mem a bs).apply s).bus = s.bus := rfl
@[simp] theorem Act.mem_mem : ((Act.mem a bs).apply s).mem = Memory.writeBytes s.mem a bs := rfl
@[simp] theorem Act.mem_node : ((Act.mem a bs).apply s).node = s.node := rfl
@[simp] theorem Act.mem_lc : ((Act.mem a bs).apply s).lc = s.lc := rfl
@[simp] theorem Act.mem_secVersion : ((Act.mem a bs).apply s).secVersion = s.secVersion := rfl
@[simp] theorem Act.mem_advancesLeft : ((Act.mem a bs).apply s).advancesLeft = s.advancesLeft := rfl
@[simp] theorem Act.mem_meas : ((Act.mem a bs).apply s).meas = s.meas := rfl
@[simp] theorem Act.mem_ing : ((Act.mem a bs).apply s).ing = s.ing := rfl
@[simp] theorem Act.mem_thk : ((Act.mem a bs).apply s).thk = s.thk := rfl
@[simp] theorem Act.mem_grv : ((Act.mem a bs).apply s).grv = s.grv := rfl
@[simp] theorem Act.mem_lyr : ((Act.mem a bs).apply s).lyr = s.lyr := rfl
@[simp] theorem Act.mem_pdl : ((Act.mem a bs).apply s).pdl = s.pdl := rfl
@[simp] theorem Act.mem_sds : ((Act.mem a bs).apply s).sds = s.sds := rfl
@[simp] theorem Act.mem_apl : ((Act.mem a bs).apply s).apl = s.apl := rfl
@[simp] theorem Act.mem_fab : ((Act.mem a bs).apply s).fab = s.fab := rfl
@[simp] theorem Act.mem_tim : ((Act.mem a bs).apply s).tim = s.tim := rfl
@[simp] theorem Act.mem_cmt : ((Act.mem a bs).apply s).cmt = s.cmt := rfl
@[simp] theorem Act.mem_met : ((Act.mem a bs).apply s).met = s.met := rfl
@[simp] theorem Act.mem_dmc : ((Act.mem a bs).apply s).dmc = s.dmc := rfl
@[simp] theorem Act.mem_sram : ((Act.mem a bs).apply s).sram = s.sram := rfl
@[simp] theorem Act.mem_nvm : ((Act.mem a bs).apply s).nvm = s.nvm := rfl
@[simp] theorem Act.mem_ctl : ((Act.mem a bs).apply s).ctl = s.ctl := rfl
@[simp] theorem Act.mem_sec : ((Act.mem a bs).apply s).sec = s.sec := rfl
@[simp] theorem Act.mem_hkp : ((Act.mem a bs).apply s).hkp = s.hkp := rfl
@[simp] theorem Act.mem_pins : ((Act.mem a bs).apply s).pins = s.pins := rfl
@[simp] theorem Act.mem_out : ((Act.mem a bs).apply s).out = s.out := rfl
@[simp] theorem Act.mem_freeCount : ((Act.mem a bs).apply s).freeCount = s.freeCount := rfl
@[simp] theorem Act.mem_pending : ((Act.mem a bs).apply s).pending = s.pending := rfl

end

section
variable (b : BusResult) (s : State)

@[simp] theorem Act.bus_regs : ((Act.bus b).apply s).regs = s.regs := rfl
@[simp] theorem Act.bus_eff : ((Act.bus b).apply s).eff = s.eff := rfl
@[simp] theorem Act.bus_rwsPend : ((Act.bus b).apply s).rwsPend = s.rwsPend := rfl
@[simp] theorem Act.bus_latches : ((Act.bus b).apply s).latches = s.latches := rfl
@[simp] theorem Act.bus_bus : ((Act.bus b).apply s).bus = b := rfl
@[simp] theorem Act.bus_mem : ((Act.bus b).apply s).mem = s.mem := rfl
@[simp] theorem Act.bus_node : ((Act.bus b).apply s).node = s.node := rfl
@[simp] theorem Act.bus_lc : ((Act.bus b).apply s).lc = s.lc := rfl
@[simp] theorem Act.bus_secVersion : ((Act.bus b).apply s).secVersion = s.secVersion := rfl
@[simp] theorem Act.bus_advancesLeft : ((Act.bus b).apply s).advancesLeft = s.advancesLeft := rfl
@[simp] theorem Act.bus_meas : ((Act.bus b).apply s).meas = s.meas := rfl
@[simp] theorem Act.bus_ing : ((Act.bus b).apply s).ing = s.ing := rfl
@[simp] theorem Act.bus_thk : ((Act.bus b).apply s).thk = s.thk := rfl
@[simp] theorem Act.bus_grv : ((Act.bus b).apply s).grv = s.grv := rfl
@[simp] theorem Act.bus_lyr : ((Act.bus b).apply s).lyr = s.lyr := rfl
@[simp] theorem Act.bus_pdl : ((Act.bus b).apply s).pdl = s.pdl := rfl
@[simp] theorem Act.bus_sds : ((Act.bus b).apply s).sds = s.sds := rfl
@[simp] theorem Act.bus_apl : ((Act.bus b).apply s).apl = s.apl := rfl
@[simp] theorem Act.bus_fab : ((Act.bus b).apply s).fab = s.fab := rfl
@[simp] theorem Act.bus_tim : ((Act.bus b).apply s).tim = s.tim := rfl
@[simp] theorem Act.bus_cmt : ((Act.bus b).apply s).cmt = s.cmt := rfl
@[simp] theorem Act.bus_met : ((Act.bus b).apply s).met = s.met := rfl
@[simp] theorem Act.bus_dmc : ((Act.bus b).apply s).dmc = s.dmc := rfl
@[simp] theorem Act.bus_sram : ((Act.bus b).apply s).sram = s.sram := rfl
@[simp] theorem Act.bus_nvm : ((Act.bus b).apply s).nvm = s.nvm := rfl
@[simp] theorem Act.bus_ctl : ((Act.bus b).apply s).ctl = s.ctl := rfl
@[simp] theorem Act.bus_sec : ((Act.bus b).apply s).sec = s.sec := rfl
@[simp] theorem Act.bus_hkp : ((Act.bus b).apply s).hkp = s.hkp := rfl
@[simp] theorem Act.bus_pins : ((Act.bus b).apply s).pins = s.pins := rfl
@[simp] theorem Act.bus_out : ((Act.bus b).apply s).out = s.out := rfl
@[simp] theorem Act.bus_freeCount : ((Act.bus b).apply s).freeCount = s.freeCount := rfl
@[simp] theorem Act.bus_pending : ((Act.bus b).apply s).pending = s.pending := rfl

end

section
variable (f : List RwsWrite → List RwsWrite) (s : State)

@[simp] theorem Act.rws_regs : ((Act.rws f).apply s).regs = s.regs := rfl
@[simp] theorem Act.rws_eff : ((Act.rws f).apply s).eff = s.eff := rfl
@[simp] theorem Act.rws_rwsPend : ((Act.rws f).apply s).rwsPend = f s.rwsPend := rfl
@[simp] theorem Act.rws_latches : ((Act.rws f).apply s).latches = s.latches := rfl
@[simp] theorem Act.rws_bus : ((Act.rws f).apply s).bus = s.bus := rfl
@[simp] theorem Act.rws_mem : ((Act.rws f).apply s).mem = s.mem := rfl
@[simp] theorem Act.rws_node : ((Act.rws f).apply s).node = s.node := rfl
@[simp] theorem Act.rws_lc : ((Act.rws f).apply s).lc = s.lc := rfl
@[simp] theorem Act.rws_secVersion : ((Act.rws f).apply s).secVersion = s.secVersion := rfl
@[simp] theorem Act.rws_advancesLeft : ((Act.rws f).apply s).advancesLeft = s.advancesLeft := rfl
@[simp] theorem Act.rws_meas : ((Act.rws f).apply s).meas = s.meas := rfl
@[simp] theorem Act.rws_ing : ((Act.rws f).apply s).ing = s.ing := rfl
@[simp] theorem Act.rws_thk : ((Act.rws f).apply s).thk = s.thk := rfl
@[simp] theorem Act.rws_grv : ((Act.rws f).apply s).grv = s.grv := rfl
@[simp] theorem Act.rws_lyr : ((Act.rws f).apply s).lyr = s.lyr := rfl
@[simp] theorem Act.rws_pdl : ((Act.rws f).apply s).pdl = s.pdl := rfl
@[simp] theorem Act.rws_sds : ((Act.rws f).apply s).sds = s.sds := rfl
@[simp] theorem Act.rws_apl : ((Act.rws f).apply s).apl = s.apl := rfl
@[simp] theorem Act.rws_fab : ((Act.rws f).apply s).fab = s.fab := rfl
@[simp] theorem Act.rws_tim : ((Act.rws f).apply s).tim = s.tim := rfl
@[simp] theorem Act.rws_cmt : ((Act.rws f).apply s).cmt = s.cmt := rfl
@[simp] theorem Act.rws_met : ((Act.rws f).apply s).met = s.met := rfl
@[simp] theorem Act.rws_dmc : ((Act.rws f).apply s).dmc = s.dmc := rfl
@[simp] theorem Act.rws_sram : ((Act.rws f).apply s).sram = s.sram := rfl
@[simp] theorem Act.rws_nvm : ((Act.rws f).apply s).nvm = s.nvm := rfl
@[simp] theorem Act.rws_ctl : ((Act.rws f).apply s).ctl = s.ctl := rfl
@[simp] theorem Act.rws_sec : ((Act.rws f).apply s).sec = s.sec := rfl
@[simp] theorem Act.rws_hkp : ((Act.rws f).apply s).hkp = s.hkp := rfl
@[simp] theorem Act.rws_pins : ((Act.rws f).apply s).pins = s.pins := rfl
@[simp] theorem Act.rws_out : ((Act.rws f).apply s).out = s.out := rfl
@[simp] theorem Act.rws_freeCount : ((Act.rws f).apply s).freeCount = s.freeCount := rfl
@[simp] theorem Act.rws_pending : ((Act.rws f).apply s).pending = s.pending := rfl

end

section
variable (f : List (Nat × Word) → List (Nat × Word)) (s : State)

@[simp] theorem Act.latch_regs : ((Act.latch f).apply s).regs = s.regs := rfl
@[simp] theorem Act.latch_eff : ((Act.latch f).apply s).eff = s.eff := rfl
@[simp] theorem Act.latch_rwsPend : ((Act.latch f).apply s).rwsPend = s.rwsPend := rfl
@[simp] theorem Act.latch_latches : ((Act.latch f).apply s).latches = f s.latches := rfl
@[simp] theorem Act.latch_bus : ((Act.latch f).apply s).bus = s.bus := rfl
@[simp] theorem Act.latch_mem : ((Act.latch f).apply s).mem = s.mem := rfl
@[simp] theorem Act.latch_node : ((Act.latch f).apply s).node = s.node := rfl
@[simp] theorem Act.latch_lc : ((Act.latch f).apply s).lc = s.lc := rfl
@[simp] theorem Act.latch_secVersion : ((Act.latch f).apply s).secVersion = s.secVersion := rfl
@[simp] theorem Act.latch_advancesLeft : ((Act.latch f).apply s).advancesLeft = s.advancesLeft := rfl
@[simp] theorem Act.latch_meas : ((Act.latch f).apply s).meas = s.meas := rfl
@[simp] theorem Act.latch_ing : ((Act.latch f).apply s).ing = s.ing := rfl
@[simp] theorem Act.latch_thk : ((Act.latch f).apply s).thk = s.thk := rfl
@[simp] theorem Act.latch_grv : ((Act.latch f).apply s).grv = s.grv := rfl
@[simp] theorem Act.latch_lyr : ((Act.latch f).apply s).lyr = s.lyr := rfl
@[simp] theorem Act.latch_pdl : ((Act.latch f).apply s).pdl = s.pdl := rfl
@[simp] theorem Act.latch_sds : ((Act.latch f).apply s).sds = s.sds := rfl
@[simp] theorem Act.latch_apl : ((Act.latch f).apply s).apl = s.apl := rfl
@[simp] theorem Act.latch_fab : ((Act.latch f).apply s).fab = s.fab := rfl
@[simp] theorem Act.latch_tim : ((Act.latch f).apply s).tim = s.tim := rfl
@[simp] theorem Act.latch_cmt : ((Act.latch f).apply s).cmt = s.cmt := rfl
@[simp] theorem Act.latch_met : ((Act.latch f).apply s).met = s.met := rfl
@[simp] theorem Act.latch_dmc : ((Act.latch f).apply s).dmc = s.dmc := rfl
@[simp] theorem Act.latch_sram : ((Act.latch f).apply s).sram = s.sram := rfl
@[simp] theorem Act.latch_nvm : ((Act.latch f).apply s).nvm = s.nvm := rfl
@[simp] theorem Act.latch_ctl : ((Act.latch f).apply s).ctl = s.ctl := rfl
@[simp] theorem Act.latch_sec : ((Act.latch f).apply s).sec = s.sec := rfl
@[simp] theorem Act.latch_hkp : ((Act.latch f).apply s).hkp = s.hkp := rfl
@[simp] theorem Act.latch_pins : ((Act.latch f).apply s).pins = s.pins := rfl
@[simp] theorem Act.latch_out : ((Act.latch f).apply s).out = s.out := rfl
@[simp] theorem Act.latch_freeCount : ((Act.latch f).apply s).freeCount = s.freeCount := rfl
@[simp] theorem Act.latch_pending : ((Act.latch f).apply s).pending = s.pending := rfl

end

section
variable (f : Ingest → Ingest) (s : State)

@[simp] theorem Act.ing_regs : ((Act.ing f).apply s).regs = s.regs := rfl
@[simp] theorem Act.ing_eff : ((Act.ing f).apply s).eff = s.eff := rfl
@[simp] theorem Act.ing_rwsPend : ((Act.ing f).apply s).rwsPend = s.rwsPend := rfl
@[simp] theorem Act.ing_latches : ((Act.ing f).apply s).latches = s.latches := rfl
@[simp] theorem Act.ing_bus : ((Act.ing f).apply s).bus = s.bus := rfl
@[simp] theorem Act.ing_mem : ((Act.ing f).apply s).mem = s.mem := rfl
@[simp] theorem Act.ing_node : ((Act.ing f).apply s).node = s.node := rfl
@[simp] theorem Act.ing_lc : ((Act.ing f).apply s).lc = s.lc := rfl
@[simp] theorem Act.ing_secVersion : ((Act.ing f).apply s).secVersion = s.secVersion := rfl
@[simp] theorem Act.ing_advancesLeft : ((Act.ing f).apply s).advancesLeft = s.advancesLeft := rfl
@[simp] theorem Act.ing_meas : ((Act.ing f).apply s).meas = s.meas := rfl
@[simp] theorem Act.ing_ing : ((Act.ing f).apply s).ing = f s.ing := rfl
@[simp] theorem Act.ing_thk : ((Act.ing f).apply s).thk = s.thk := rfl
@[simp] theorem Act.ing_grv : ((Act.ing f).apply s).grv = s.grv := rfl
@[simp] theorem Act.ing_lyr : ((Act.ing f).apply s).lyr = s.lyr := rfl
@[simp] theorem Act.ing_pdl : ((Act.ing f).apply s).pdl = s.pdl := rfl
@[simp] theorem Act.ing_sds : ((Act.ing f).apply s).sds = s.sds := rfl
@[simp] theorem Act.ing_apl : ((Act.ing f).apply s).apl = s.apl := rfl
@[simp] theorem Act.ing_fab : ((Act.ing f).apply s).fab = s.fab := rfl
@[simp] theorem Act.ing_tim : ((Act.ing f).apply s).tim = s.tim := rfl
@[simp] theorem Act.ing_cmt : ((Act.ing f).apply s).cmt = s.cmt := rfl
@[simp] theorem Act.ing_met : ((Act.ing f).apply s).met = s.met := rfl
@[simp] theorem Act.ing_dmc : ((Act.ing f).apply s).dmc = s.dmc := rfl
@[simp] theorem Act.ing_sram : ((Act.ing f).apply s).sram = s.sram := rfl
@[simp] theorem Act.ing_nvm : ((Act.ing f).apply s).nvm = s.nvm := rfl
@[simp] theorem Act.ing_ctl : ((Act.ing f).apply s).ctl = s.ctl := rfl
@[simp] theorem Act.ing_sec : ((Act.ing f).apply s).sec = s.sec := rfl
@[simp] theorem Act.ing_hkp : ((Act.ing f).apply s).hkp = s.hkp := rfl
@[simp] theorem Act.ing_pins : ((Act.ing f).apply s).pins = s.pins := rfl
@[simp] theorem Act.ing_out : ((Act.ing f).apply s).out = s.out := rfl
@[simp] theorem Act.ing_freeCount : ((Act.ing f).apply s).freeCount = s.freeCount := rfl
@[simp] theorem Act.ing_pending : ((Act.ing f).apply s).pending = s.pending := rfl

end

section
variable (f : Thk → Thk) (s : State)

@[simp] theorem Act.thk_regs : ((Act.thk f).apply s).regs = s.regs := rfl
@[simp] theorem Act.thk_eff : ((Act.thk f).apply s).eff = s.eff := rfl
@[simp] theorem Act.thk_rwsPend : ((Act.thk f).apply s).rwsPend = s.rwsPend := rfl
@[simp] theorem Act.thk_latches : ((Act.thk f).apply s).latches = s.latches := rfl
@[simp] theorem Act.thk_bus : ((Act.thk f).apply s).bus = s.bus := rfl
@[simp] theorem Act.thk_mem : ((Act.thk f).apply s).mem = s.mem := rfl
@[simp] theorem Act.thk_node : ((Act.thk f).apply s).node = s.node := rfl
@[simp] theorem Act.thk_lc : ((Act.thk f).apply s).lc = s.lc := rfl
@[simp] theorem Act.thk_secVersion : ((Act.thk f).apply s).secVersion = s.secVersion := rfl
@[simp] theorem Act.thk_advancesLeft : ((Act.thk f).apply s).advancesLeft = s.advancesLeft := rfl
@[simp] theorem Act.thk_meas : ((Act.thk f).apply s).meas = s.meas := rfl
@[simp] theorem Act.thk_ing : ((Act.thk f).apply s).ing = s.ing := rfl
@[simp] theorem Act.thk_thk : ((Act.thk f).apply s).thk = f s.thk := rfl
@[simp] theorem Act.thk_grv : ((Act.thk f).apply s).grv = s.grv := rfl
@[simp] theorem Act.thk_lyr : ((Act.thk f).apply s).lyr = s.lyr := rfl
@[simp] theorem Act.thk_pdl : ((Act.thk f).apply s).pdl = s.pdl := rfl
@[simp] theorem Act.thk_sds : ((Act.thk f).apply s).sds = s.sds := rfl
@[simp] theorem Act.thk_apl : ((Act.thk f).apply s).apl = s.apl := rfl
@[simp] theorem Act.thk_fab : ((Act.thk f).apply s).fab = s.fab := rfl
@[simp] theorem Act.thk_tim : ((Act.thk f).apply s).tim = s.tim := rfl
@[simp] theorem Act.thk_cmt : ((Act.thk f).apply s).cmt = s.cmt := rfl
@[simp] theorem Act.thk_met : ((Act.thk f).apply s).met = s.met := rfl
@[simp] theorem Act.thk_dmc : ((Act.thk f).apply s).dmc = s.dmc := rfl
@[simp] theorem Act.thk_sram : ((Act.thk f).apply s).sram = s.sram := rfl
@[simp] theorem Act.thk_nvm : ((Act.thk f).apply s).nvm = s.nvm := rfl
@[simp] theorem Act.thk_ctl : ((Act.thk f).apply s).ctl = s.ctl := rfl
@[simp] theorem Act.thk_sec : ((Act.thk f).apply s).sec = s.sec := rfl
@[simp] theorem Act.thk_hkp : ((Act.thk f).apply s).hkp = s.hkp := rfl
@[simp] theorem Act.thk_pins : ((Act.thk f).apply s).pins = s.pins := rfl
@[simp] theorem Act.thk_out : ((Act.thk f).apply s).out = s.out := rfl
@[simp] theorem Act.thk_freeCount : ((Act.thk f).apply s).freeCount = s.freeCount := rfl
@[simp] theorem Act.thk_pending : ((Act.thk f).apply s).pending = s.pending := rfl

end

section
variable (f : Groves → Groves) (s : State)

@[simp] theorem Act.grv_regs : ((Act.grv f).apply s).regs = s.regs := rfl
@[simp] theorem Act.grv_eff : ((Act.grv f).apply s).eff = s.eff := rfl
@[simp] theorem Act.grv_rwsPend : ((Act.grv f).apply s).rwsPend = s.rwsPend := rfl
@[simp] theorem Act.grv_latches : ((Act.grv f).apply s).latches = s.latches := rfl
@[simp] theorem Act.grv_bus : ((Act.grv f).apply s).bus = s.bus := rfl
@[simp] theorem Act.grv_mem : ((Act.grv f).apply s).mem = s.mem := rfl
@[simp] theorem Act.grv_node : ((Act.grv f).apply s).node = s.node := rfl
@[simp] theorem Act.grv_lc : ((Act.grv f).apply s).lc = s.lc := rfl
@[simp] theorem Act.grv_secVersion : ((Act.grv f).apply s).secVersion = s.secVersion := rfl
@[simp] theorem Act.grv_advancesLeft : ((Act.grv f).apply s).advancesLeft = s.advancesLeft := rfl
@[simp] theorem Act.grv_meas : ((Act.grv f).apply s).meas = s.meas := rfl
@[simp] theorem Act.grv_ing : ((Act.grv f).apply s).ing = s.ing := rfl
@[simp] theorem Act.grv_thk : ((Act.grv f).apply s).thk = s.thk := rfl
@[simp] theorem Act.grv_grv : ((Act.grv f).apply s).grv = f s.grv := rfl
@[simp] theorem Act.grv_lyr : ((Act.grv f).apply s).lyr = s.lyr := rfl
@[simp] theorem Act.grv_pdl : ((Act.grv f).apply s).pdl = s.pdl := rfl
@[simp] theorem Act.grv_sds : ((Act.grv f).apply s).sds = s.sds := rfl
@[simp] theorem Act.grv_apl : ((Act.grv f).apply s).apl = s.apl := rfl
@[simp] theorem Act.grv_fab : ((Act.grv f).apply s).fab = s.fab := rfl
@[simp] theorem Act.grv_tim : ((Act.grv f).apply s).tim = s.tim := rfl
@[simp] theorem Act.grv_cmt : ((Act.grv f).apply s).cmt = s.cmt := rfl
@[simp] theorem Act.grv_met : ((Act.grv f).apply s).met = s.met := rfl
@[simp] theorem Act.grv_dmc : ((Act.grv f).apply s).dmc = s.dmc := rfl
@[simp] theorem Act.grv_sram : ((Act.grv f).apply s).sram = s.sram := rfl
@[simp] theorem Act.grv_nvm : ((Act.grv f).apply s).nvm = s.nvm := rfl
@[simp] theorem Act.grv_ctl : ((Act.grv f).apply s).ctl = s.ctl := rfl
@[simp] theorem Act.grv_sec : ((Act.grv f).apply s).sec = s.sec := rfl
@[simp] theorem Act.grv_hkp : ((Act.grv f).apply s).hkp = s.hkp := rfl
@[simp] theorem Act.grv_pins : ((Act.grv f).apply s).pins = s.pins := rfl
@[simp] theorem Act.grv_out : ((Act.grv f).apply s).out = s.out := rfl
@[simp] theorem Act.grv_freeCount : ((Act.grv f).apply s).freeCount = s.freeCount := rfl
@[simp] theorem Act.grv_pending : ((Act.grv f).apply s).pending = s.pending := rfl

end

section
variable (f : Layers → Layers) (s : State)

@[simp] theorem Act.lyr_regs : ((Act.lyr f).apply s).regs = s.regs := rfl
@[simp] theorem Act.lyr_eff : ((Act.lyr f).apply s).eff = s.eff := rfl
@[simp] theorem Act.lyr_rwsPend : ((Act.lyr f).apply s).rwsPend = s.rwsPend := rfl
@[simp] theorem Act.lyr_latches : ((Act.lyr f).apply s).latches = s.latches := rfl
@[simp] theorem Act.lyr_bus : ((Act.lyr f).apply s).bus = s.bus := rfl
@[simp] theorem Act.lyr_mem : ((Act.lyr f).apply s).mem = s.mem := rfl
@[simp] theorem Act.lyr_node : ((Act.lyr f).apply s).node = s.node := rfl
@[simp] theorem Act.lyr_lc : ((Act.lyr f).apply s).lc = s.lc := rfl
@[simp] theorem Act.lyr_secVersion : ((Act.lyr f).apply s).secVersion = s.secVersion := rfl
@[simp] theorem Act.lyr_advancesLeft : ((Act.lyr f).apply s).advancesLeft = s.advancesLeft := rfl
@[simp] theorem Act.lyr_meas : ((Act.lyr f).apply s).meas = s.meas := rfl
@[simp] theorem Act.lyr_ing : ((Act.lyr f).apply s).ing = s.ing := rfl
@[simp] theorem Act.lyr_thk : ((Act.lyr f).apply s).thk = s.thk := rfl
@[simp] theorem Act.lyr_grv : ((Act.lyr f).apply s).grv = s.grv := rfl
@[simp] theorem Act.lyr_lyr : ((Act.lyr f).apply s).lyr = f s.lyr := rfl
@[simp] theorem Act.lyr_pdl : ((Act.lyr f).apply s).pdl = s.pdl := rfl
@[simp] theorem Act.lyr_sds : ((Act.lyr f).apply s).sds = s.sds := rfl
@[simp] theorem Act.lyr_apl : ((Act.lyr f).apply s).apl = s.apl := rfl
@[simp] theorem Act.lyr_fab : ((Act.lyr f).apply s).fab = s.fab := rfl
@[simp] theorem Act.lyr_tim : ((Act.lyr f).apply s).tim = s.tim := rfl
@[simp] theorem Act.lyr_cmt : ((Act.lyr f).apply s).cmt = s.cmt := rfl
@[simp] theorem Act.lyr_met : ((Act.lyr f).apply s).met = s.met := rfl
@[simp] theorem Act.lyr_dmc : ((Act.lyr f).apply s).dmc = s.dmc := rfl
@[simp] theorem Act.lyr_sram : ((Act.lyr f).apply s).sram = s.sram := rfl
@[simp] theorem Act.lyr_nvm : ((Act.lyr f).apply s).nvm = s.nvm := rfl
@[simp] theorem Act.lyr_ctl : ((Act.lyr f).apply s).ctl = s.ctl := rfl
@[simp] theorem Act.lyr_sec : ((Act.lyr f).apply s).sec = s.sec := rfl
@[simp] theorem Act.lyr_hkp : ((Act.lyr f).apply s).hkp = s.hkp := rfl
@[simp] theorem Act.lyr_pins : ((Act.lyr f).apply s).pins = s.pins := rfl
@[simp] theorem Act.lyr_out : ((Act.lyr f).apply s).out = s.out := rfl
@[simp] theorem Act.lyr_freeCount : ((Act.lyr f).apply s).freeCount = s.freeCount := rfl
@[simp] theorem Act.lyr_pending : ((Act.lyr f).apply s).pending = s.pending := rfl

end

section
variable (f : Pdl → Pdl) (s : State)

@[simp] theorem Act.pdl_regs : ((Act.pdl f).apply s).regs = s.regs := rfl
@[simp] theorem Act.pdl_eff : ((Act.pdl f).apply s).eff = s.eff := rfl
@[simp] theorem Act.pdl_rwsPend : ((Act.pdl f).apply s).rwsPend = s.rwsPend := rfl
@[simp] theorem Act.pdl_latches : ((Act.pdl f).apply s).latches = s.latches := rfl
@[simp] theorem Act.pdl_bus : ((Act.pdl f).apply s).bus = s.bus := rfl
@[simp] theorem Act.pdl_mem : ((Act.pdl f).apply s).mem = s.mem := rfl
@[simp] theorem Act.pdl_node : ((Act.pdl f).apply s).node = s.node := rfl
@[simp] theorem Act.pdl_lc : ((Act.pdl f).apply s).lc = s.lc := rfl
@[simp] theorem Act.pdl_secVersion : ((Act.pdl f).apply s).secVersion = s.secVersion := rfl
@[simp] theorem Act.pdl_advancesLeft : ((Act.pdl f).apply s).advancesLeft = s.advancesLeft := rfl
@[simp] theorem Act.pdl_meas : ((Act.pdl f).apply s).meas = s.meas := rfl
@[simp] theorem Act.pdl_ing : ((Act.pdl f).apply s).ing = s.ing := rfl
@[simp] theorem Act.pdl_thk : ((Act.pdl f).apply s).thk = s.thk := rfl
@[simp] theorem Act.pdl_grv : ((Act.pdl f).apply s).grv = s.grv := rfl
@[simp] theorem Act.pdl_lyr : ((Act.pdl f).apply s).lyr = s.lyr := rfl
@[simp] theorem Act.pdl_pdl : ((Act.pdl f).apply s).pdl = f s.pdl := rfl
@[simp] theorem Act.pdl_sds : ((Act.pdl f).apply s).sds = s.sds := rfl
@[simp] theorem Act.pdl_apl : ((Act.pdl f).apply s).apl = s.apl := rfl
@[simp] theorem Act.pdl_fab : ((Act.pdl f).apply s).fab = s.fab := rfl
@[simp] theorem Act.pdl_tim : ((Act.pdl f).apply s).tim = s.tim := rfl
@[simp] theorem Act.pdl_cmt : ((Act.pdl f).apply s).cmt = s.cmt := rfl
@[simp] theorem Act.pdl_met : ((Act.pdl f).apply s).met = s.met := rfl
@[simp] theorem Act.pdl_dmc : ((Act.pdl f).apply s).dmc = s.dmc := rfl
@[simp] theorem Act.pdl_sram : ((Act.pdl f).apply s).sram = s.sram := rfl
@[simp] theorem Act.pdl_nvm : ((Act.pdl f).apply s).nvm = s.nvm := rfl
@[simp] theorem Act.pdl_ctl : ((Act.pdl f).apply s).ctl = s.ctl := rfl
@[simp] theorem Act.pdl_sec : ((Act.pdl f).apply s).sec = s.sec := rfl
@[simp] theorem Act.pdl_hkp : ((Act.pdl f).apply s).hkp = s.hkp := rfl
@[simp] theorem Act.pdl_pins : ((Act.pdl f).apply s).pins = s.pins := rfl
@[simp] theorem Act.pdl_out : ((Act.pdl f).apply s).out = s.out := rfl
@[simp] theorem Act.pdl_freeCount : ((Act.pdl f).apply s).freeCount = s.freeCount := rfl
@[simp] theorem Act.pdl_pending : ((Act.pdl f).apply s).pending = s.pending := rfl

end

section
variable (f : Serial → Serial) (s : State)

@[simp] theorem Act.sds_regs : ((Act.sds f).apply s).regs = s.regs := rfl
@[simp] theorem Act.sds_eff : ((Act.sds f).apply s).eff = s.eff := rfl
@[simp] theorem Act.sds_rwsPend : ((Act.sds f).apply s).rwsPend = s.rwsPend := rfl
@[simp] theorem Act.sds_latches : ((Act.sds f).apply s).latches = s.latches := rfl
@[simp] theorem Act.sds_bus : ((Act.sds f).apply s).bus = s.bus := rfl
@[simp] theorem Act.sds_mem : ((Act.sds f).apply s).mem = s.mem := rfl
@[simp] theorem Act.sds_node : ((Act.sds f).apply s).node = s.node := rfl
@[simp] theorem Act.sds_lc : ((Act.sds f).apply s).lc = s.lc := rfl
@[simp] theorem Act.sds_secVersion : ((Act.sds f).apply s).secVersion = s.secVersion := rfl
@[simp] theorem Act.sds_advancesLeft : ((Act.sds f).apply s).advancesLeft = s.advancesLeft := rfl
@[simp] theorem Act.sds_meas : ((Act.sds f).apply s).meas = s.meas := rfl
@[simp] theorem Act.sds_ing : ((Act.sds f).apply s).ing = s.ing := rfl
@[simp] theorem Act.sds_thk : ((Act.sds f).apply s).thk = s.thk := rfl
@[simp] theorem Act.sds_grv : ((Act.sds f).apply s).grv = s.grv := rfl
@[simp] theorem Act.sds_lyr : ((Act.sds f).apply s).lyr = s.lyr := rfl
@[simp] theorem Act.sds_pdl : ((Act.sds f).apply s).pdl = s.pdl := rfl
@[simp] theorem Act.sds_sds : ((Act.sds f).apply s).sds = f s.sds := rfl
@[simp] theorem Act.sds_apl : ((Act.sds f).apply s).apl = s.apl := rfl
@[simp] theorem Act.sds_fab : ((Act.sds f).apply s).fab = s.fab := rfl
@[simp] theorem Act.sds_tim : ((Act.sds f).apply s).tim = s.tim := rfl
@[simp] theorem Act.sds_cmt : ((Act.sds f).apply s).cmt = s.cmt := rfl
@[simp] theorem Act.sds_met : ((Act.sds f).apply s).met = s.met := rfl
@[simp] theorem Act.sds_dmc : ((Act.sds f).apply s).dmc = s.dmc := rfl
@[simp] theorem Act.sds_sram : ((Act.sds f).apply s).sram = s.sram := rfl
@[simp] theorem Act.sds_nvm : ((Act.sds f).apply s).nvm = s.nvm := rfl
@[simp] theorem Act.sds_ctl : ((Act.sds f).apply s).ctl = s.ctl := rfl
@[simp] theorem Act.sds_sec : ((Act.sds f).apply s).sec = s.sec := rfl
@[simp] theorem Act.sds_hkp : ((Act.sds f).apply s).hkp = s.hkp := rfl
@[simp] theorem Act.sds_pins : ((Act.sds f).apply s).pins = s.pins := rfl
@[simp] theorem Act.sds_out : ((Act.sds f).apply s).out = s.out := rfl
@[simp] theorem Act.sds_freeCount : ((Act.sds f).apply s).freeCount = s.freeCount := rfl
@[simp] theorem Act.sds_pending : ((Act.sds f).apply s).pending = s.pending := rfl

end

section
variable (f : Apl → Apl) (s : State)

@[simp] theorem Act.apl_regs : ((Act.apl f).apply s).regs = s.regs := rfl
@[simp] theorem Act.apl_eff : ((Act.apl f).apply s).eff = s.eff := rfl
@[simp] theorem Act.apl_rwsPend : ((Act.apl f).apply s).rwsPend = s.rwsPend := rfl
@[simp] theorem Act.apl_latches : ((Act.apl f).apply s).latches = s.latches := rfl
@[simp] theorem Act.apl_bus : ((Act.apl f).apply s).bus = s.bus := rfl
@[simp] theorem Act.apl_mem : ((Act.apl f).apply s).mem = s.mem := rfl
@[simp] theorem Act.apl_node : ((Act.apl f).apply s).node = s.node := rfl
@[simp] theorem Act.apl_lc : ((Act.apl f).apply s).lc = s.lc := rfl
@[simp] theorem Act.apl_secVersion : ((Act.apl f).apply s).secVersion = s.secVersion := rfl
@[simp] theorem Act.apl_advancesLeft : ((Act.apl f).apply s).advancesLeft = s.advancesLeft := rfl
@[simp] theorem Act.apl_meas : ((Act.apl f).apply s).meas = s.meas := rfl
@[simp] theorem Act.apl_ing : ((Act.apl f).apply s).ing = s.ing := rfl
@[simp] theorem Act.apl_thk : ((Act.apl f).apply s).thk = s.thk := rfl
@[simp] theorem Act.apl_grv : ((Act.apl f).apply s).grv = s.grv := rfl
@[simp] theorem Act.apl_lyr : ((Act.apl f).apply s).lyr = s.lyr := rfl
@[simp] theorem Act.apl_pdl : ((Act.apl f).apply s).pdl = s.pdl := rfl
@[simp] theorem Act.apl_sds : ((Act.apl f).apply s).sds = s.sds := rfl
@[simp] theorem Act.apl_apl : ((Act.apl f).apply s).apl = f s.apl := rfl
@[simp] theorem Act.apl_fab : ((Act.apl f).apply s).fab = s.fab := rfl
@[simp] theorem Act.apl_tim : ((Act.apl f).apply s).tim = s.tim := rfl
@[simp] theorem Act.apl_cmt : ((Act.apl f).apply s).cmt = s.cmt := rfl
@[simp] theorem Act.apl_met : ((Act.apl f).apply s).met = s.met := rfl
@[simp] theorem Act.apl_dmc : ((Act.apl f).apply s).dmc = s.dmc := rfl
@[simp] theorem Act.apl_sram : ((Act.apl f).apply s).sram = s.sram := rfl
@[simp] theorem Act.apl_nvm : ((Act.apl f).apply s).nvm = s.nvm := rfl
@[simp] theorem Act.apl_ctl : ((Act.apl f).apply s).ctl = s.ctl := rfl
@[simp] theorem Act.apl_sec : ((Act.apl f).apply s).sec = s.sec := rfl
@[simp] theorem Act.apl_hkp : ((Act.apl f).apply s).hkp = s.hkp := rfl
@[simp] theorem Act.apl_pins : ((Act.apl f).apply s).pins = s.pins := rfl
@[simp] theorem Act.apl_out : ((Act.apl f).apply s).out = s.out := rfl
@[simp] theorem Act.apl_freeCount : ((Act.apl f).apply s).freeCount = s.freeCount := rfl
@[simp] theorem Act.apl_pending : ((Act.apl f).apply s).pending = s.pending := rfl

end

section
variable (f : Fabric → Fabric) (s : State)

@[simp] theorem Act.fab_regs : ((Act.fab f).apply s).regs = s.regs := rfl
@[simp] theorem Act.fab_eff : ((Act.fab f).apply s).eff = s.eff := rfl
@[simp] theorem Act.fab_rwsPend : ((Act.fab f).apply s).rwsPend = s.rwsPend := rfl
@[simp] theorem Act.fab_latches : ((Act.fab f).apply s).latches = s.latches := rfl
@[simp] theorem Act.fab_bus : ((Act.fab f).apply s).bus = s.bus := rfl
@[simp] theorem Act.fab_mem : ((Act.fab f).apply s).mem = s.mem := rfl
@[simp] theorem Act.fab_node : ((Act.fab f).apply s).node = s.node := rfl
@[simp] theorem Act.fab_lc : ((Act.fab f).apply s).lc = s.lc := rfl
@[simp] theorem Act.fab_secVersion : ((Act.fab f).apply s).secVersion = s.secVersion := rfl
@[simp] theorem Act.fab_advancesLeft : ((Act.fab f).apply s).advancesLeft = s.advancesLeft := rfl
@[simp] theorem Act.fab_meas : ((Act.fab f).apply s).meas = s.meas := rfl
@[simp] theorem Act.fab_ing : ((Act.fab f).apply s).ing = s.ing := rfl
@[simp] theorem Act.fab_thk : ((Act.fab f).apply s).thk = s.thk := rfl
@[simp] theorem Act.fab_grv : ((Act.fab f).apply s).grv = s.grv := rfl
@[simp] theorem Act.fab_lyr : ((Act.fab f).apply s).lyr = s.lyr := rfl
@[simp] theorem Act.fab_pdl : ((Act.fab f).apply s).pdl = s.pdl := rfl
@[simp] theorem Act.fab_sds : ((Act.fab f).apply s).sds = s.sds := rfl
@[simp] theorem Act.fab_apl : ((Act.fab f).apply s).apl = s.apl := rfl
@[simp] theorem Act.fab_fab : ((Act.fab f).apply s).fab = f s.fab := rfl
@[simp] theorem Act.fab_tim : ((Act.fab f).apply s).tim = s.tim := rfl
@[simp] theorem Act.fab_cmt : ((Act.fab f).apply s).cmt = s.cmt := rfl
@[simp] theorem Act.fab_met : ((Act.fab f).apply s).met = s.met := rfl
@[simp] theorem Act.fab_dmc : ((Act.fab f).apply s).dmc = s.dmc := rfl
@[simp] theorem Act.fab_sram : ((Act.fab f).apply s).sram = s.sram := rfl
@[simp] theorem Act.fab_nvm : ((Act.fab f).apply s).nvm = s.nvm := rfl
@[simp] theorem Act.fab_ctl : ((Act.fab f).apply s).ctl = s.ctl := rfl
@[simp] theorem Act.fab_sec : ((Act.fab f).apply s).sec = s.sec := rfl
@[simp] theorem Act.fab_hkp : ((Act.fab f).apply s).hkp = s.hkp := rfl
@[simp] theorem Act.fab_pins : ((Act.fab f).apply s).pins = s.pins := rfl
@[simp] theorem Act.fab_out : ((Act.fab f).apply s).out = s.out := rfl
@[simp] theorem Act.fab_freeCount : ((Act.fab f).apply s).freeCount = s.freeCount := rfl
@[simp] theorem Act.fab_pending : ((Act.fab f).apply s).pending = s.pending := rfl

end

section
variable (f : Canopy → Canopy) (s : State)

@[simp] theorem Act.tim_regs : ((Act.tim f).apply s).regs = s.regs := rfl
@[simp] theorem Act.tim_eff : ((Act.tim f).apply s).eff = s.eff := rfl
@[simp] theorem Act.tim_rwsPend : ((Act.tim f).apply s).rwsPend = s.rwsPend := rfl
@[simp] theorem Act.tim_latches : ((Act.tim f).apply s).latches = s.latches := rfl
@[simp] theorem Act.tim_bus : ((Act.tim f).apply s).bus = s.bus := rfl
@[simp] theorem Act.tim_mem : ((Act.tim f).apply s).mem = s.mem := rfl
@[simp] theorem Act.tim_node : ((Act.tim f).apply s).node = s.node := rfl
@[simp] theorem Act.tim_lc : ((Act.tim f).apply s).lc = s.lc := rfl
@[simp] theorem Act.tim_secVersion : ((Act.tim f).apply s).secVersion = s.secVersion := rfl
@[simp] theorem Act.tim_advancesLeft : ((Act.tim f).apply s).advancesLeft = s.advancesLeft := rfl
@[simp] theorem Act.tim_meas : ((Act.tim f).apply s).meas = s.meas := rfl
@[simp] theorem Act.tim_ing : ((Act.tim f).apply s).ing = s.ing := rfl
@[simp] theorem Act.tim_thk : ((Act.tim f).apply s).thk = s.thk := rfl
@[simp] theorem Act.tim_grv : ((Act.tim f).apply s).grv = s.grv := rfl
@[simp] theorem Act.tim_lyr : ((Act.tim f).apply s).lyr = s.lyr := rfl
@[simp] theorem Act.tim_pdl : ((Act.tim f).apply s).pdl = s.pdl := rfl
@[simp] theorem Act.tim_sds : ((Act.tim f).apply s).sds = s.sds := rfl
@[simp] theorem Act.tim_apl : ((Act.tim f).apply s).apl = s.apl := rfl
@[simp] theorem Act.tim_fab : ((Act.tim f).apply s).fab = s.fab := rfl
@[simp] theorem Act.tim_tim : ((Act.tim f).apply s).tim = f s.tim := rfl
@[simp] theorem Act.tim_cmt : ((Act.tim f).apply s).cmt = s.cmt := rfl
@[simp] theorem Act.tim_met : ((Act.tim f).apply s).met = s.met := rfl
@[simp] theorem Act.tim_dmc : ((Act.tim f).apply s).dmc = s.dmc := rfl
@[simp] theorem Act.tim_sram : ((Act.tim f).apply s).sram = s.sram := rfl
@[simp] theorem Act.tim_nvm : ((Act.tim f).apply s).nvm = s.nvm := rfl
@[simp] theorem Act.tim_ctl : ((Act.tim f).apply s).ctl = s.ctl := rfl
@[simp] theorem Act.tim_sec : ((Act.tim f).apply s).sec = s.sec := rfl
@[simp] theorem Act.tim_hkp : ((Act.tim f).apply s).hkp = s.hkp := rfl
@[simp] theorem Act.tim_pins : ((Act.tim f).apply s).pins = s.pins := rfl
@[simp] theorem Act.tim_out : ((Act.tim f).apply s).out = s.out := rfl
@[simp] theorem Act.tim_freeCount : ((Act.tim f).apply s).freeCount = s.freeCount := rfl
@[simp] theorem Act.tim_pending : ((Act.tim f).apply s).pending = s.pending := rfl

end

section
variable (f : Commit → Commit) (s : State)

@[simp] theorem Act.cmt_regs : ((Act.cmt f).apply s).regs = s.regs := rfl
@[simp] theorem Act.cmt_eff : ((Act.cmt f).apply s).eff = s.eff := rfl
@[simp] theorem Act.cmt_rwsPend : ((Act.cmt f).apply s).rwsPend = s.rwsPend := rfl
@[simp] theorem Act.cmt_latches : ((Act.cmt f).apply s).latches = s.latches := rfl
@[simp] theorem Act.cmt_bus : ((Act.cmt f).apply s).bus = s.bus := rfl
@[simp] theorem Act.cmt_mem : ((Act.cmt f).apply s).mem = s.mem := rfl
@[simp] theorem Act.cmt_node : ((Act.cmt f).apply s).node = s.node := rfl
@[simp] theorem Act.cmt_lc : ((Act.cmt f).apply s).lc = s.lc := rfl
@[simp] theorem Act.cmt_secVersion : ((Act.cmt f).apply s).secVersion = s.secVersion := rfl
@[simp] theorem Act.cmt_advancesLeft : ((Act.cmt f).apply s).advancesLeft = s.advancesLeft := rfl
@[simp] theorem Act.cmt_meas : ((Act.cmt f).apply s).meas = s.meas := rfl
@[simp] theorem Act.cmt_ing : ((Act.cmt f).apply s).ing = s.ing := rfl
@[simp] theorem Act.cmt_thk : ((Act.cmt f).apply s).thk = s.thk := rfl
@[simp] theorem Act.cmt_grv : ((Act.cmt f).apply s).grv = s.grv := rfl
@[simp] theorem Act.cmt_lyr : ((Act.cmt f).apply s).lyr = s.lyr := rfl
@[simp] theorem Act.cmt_pdl : ((Act.cmt f).apply s).pdl = s.pdl := rfl
@[simp] theorem Act.cmt_sds : ((Act.cmt f).apply s).sds = s.sds := rfl
@[simp] theorem Act.cmt_apl : ((Act.cmt f).apply s).apl = s.apl := rfl
@[simp] theorem Act.cmt_fab : ((Act.cmt f).apply s).fab = s.fab := rfl
@[simp] theorem Act.cmt_tim : ((Act.cmt f).apply s).tim = s.tim := rfl
@[simp] theorem Act.cmt_cmt : ((Act.cmt f).apply s).cmt = f s.cmt := rfl
@[simp] theorem Act.cmt_met : ((Act.cmt f).apply s).met = s.met := rfl
@[simp] theorem Act.cmt_dmc : ((Act.cmt f).apply s).dmc = s.dmc := rfl
@[simp] theorem Act.cmt_sram : ((Act.cmt f).apply s).sram = s.sram := rfl
@[simp] theorem Act.cmt_nvm : ((Act.cmt f).apply s).nvm = s.nvm := rfl
@[simp] theorem Act.cmt_ctl : ((Act.cmt f).apply s).ctl = s.ctl := rfl
@[simp] theorem Act.cmt_sec : ((Act.cmt f).apply s).sec = s.sec := rfl
@[simp] theorem Act.cmt_hkp : ((Act.cmt f).apply s).hkp = s.hkp := rfl
@[simp] theorem Act.cmt_pins : ((Act.cmt f).apply s).pins = s.pins := rfl
@[simp] theorem Act.cmt_out : ((Act.cmt f).apply s).out = s.out := rfl
@[simp] theorem Act.cmt_freeCount : ((Act.cmt f).apply s).freeCount = s.freeCount := rfl
@[simp] theorem Act.cmt_pending : ((Act.cmt f).apply s).pending = s.pending := rfl

end

section
variable (f : Metrology → Metrology) (s : State)

@[simp] theorem Act.met_regs : ((Act.met f).apply s).regs = s.regs := rfl
@[simp] theorem Act.met_eff : ((Act.met f).apply s).eff = s.eff := rfl
@[simp] theorem Act.met_rwsPend : ((Act.met f).apply s).rwsPend = s.rwsPend := rfl
@[simp] theorem Act.met_latches : ((Act.met f).apply s).latches = s.latches := rfl
@[simp] theorem Act.met_bus : ((Act.met f).apply s).bus = s.bus := rfl
@[simp] theorem Act.met_mem : ((Act.met f).apply s).mem = s.mem := rfl
@[simp] theorem Act.met_node : ((Act.met f).apply s).node = s.node := rfl
@[simp] theorem Act.met_lc : ((Act.met f).apply s).lc = s.lc := rfl
@[simp] theorem Act.met_secVersion : ((Act.met f).apply s).secVersion = s.secVersion := rfl
@[simp] theorem Act.met_advancesLeft : ((Act.met f).apply s).advancesLeft = s.advancesLeft := rfl
@[simp] theorem Act.met_meas : ((Act.met f).apply s).meas = s.meas := rfl
@[simp] theorem Act.met_ing : ((Act.met f).apply s).ing = s.ing := rfl
@[simp] theorem Act.met_thk : ((Act.met f).apply s).thk = s.thk := rfl
@[simp] theorem Act.met_grv : ((Act.met f).apply s).grv = s.grv := rfl
@[simp] theorem Act.met_lyr : ((Act.met f).apply s).lyr = s.lyr := rfl
@[simp] theorem Act.met_pdl : ((Act.met f).apply s).pdl = s.pdl := rfl
@[simp] theorem Act.met_sds : ((Act.met f).apply s).sds = s.sds := rfl
@[simp] theorem Act.met_apl : ((Act.met f).apply s).apl = s.apl := rfl
@[simp] theorem Act.met_fab : ((Act.met f).apply s).fab = s.fab := rfl
@[simp] theorem Act.met_tim : ((Act.met f).apply s).tim = s.tim := rfl
@[simp] theorem Act.met_cmt : ((Act.met f).apply s).cmt = s.cmt := rfl
@[simp] theorem Act.met_met : ((Act.met f).apply s).met = f s.met := rfl
@[simp] theorem Act.met_dmc : ((Act.met f).apply s).dmc = s.dmc := rfl
@[simp] theorem Act.met_sram : ((Act.met f).apply s).sram = s.sram := rfl
@[simp] theorem Act.met_nvm : ((Act.met f).apply s).nvm = s.nvm := rfl
@[simp] theorem Act.met_ctl : ((Act.met f).apply s).ctl = s.ctl := rfl
@[simp] theorem Act.met_sec : ((Act.met f).apply s).sec = s.sec := rfl
@[simp] theorem Act.met_hkp : ((Act.met f).apply s).hkp = s.hkp := rfl
@[simp] theorem Act.met_pins : ((Act.met f).apply s).pins = s.pins := rfl
@[simp] theorem Act.met_out : ((Act.met f).apply s).out = s.out := rfl
@[simp] theorem Act.met_freeCount : ((Act.met f).apply s).freeCount = s.freeCount := rfl
@[simp] theorem Act.met_pending : ((Act.met f).apply s).pending = s.pending := rfl

end

section
variable (f : Dram → Dram) (s : State)

@[simp] theorem Act.dmc_regs : ((Act.dmc f).apply s).regs = s.regs := rfl
@[simp] theorem Act.dmc_eff : ((Act.dmc f).apply s).eff = s.eff := rfl
@[simp] theorem Act.dmc_rwsPend : ((Act.dmc f).apply s).rwsPend = s.rwsPend := rfl
@[simp] theorem Act.dmc_latches : ((Act.dmc f).apply s).latches = s.latches := rfl
@[simp] theorem Act.dmc_bus : ((Act.dmc f).apply s).bus = s.bus := rfl
@[simp] theorem Act.dmc_mem : ((Act.dmc f).apply s).mem = s.mem := rfl
@[simp] theorem Act.dmc_node : ((Act.dmc f).apply s).node = s.node := rfl
@[simp] theorem Act.dmc_lc : ((Act.dmc f).apply s).lc = s.lc := rfl
@[simp] theorem Act.dmc_secVersion : ((Act.dmc f).apply s).secVersion = s.secVersion := rfl
@[simp] theorem Act.dmc_advancesLeft : ((Act.dmc f).apply s).advancesLeft = s.advancesLeft := rfl
@[simp] theorem Act.dmc_meas : ((Act.dmc f).apply s).meas = s.meas := rfl
@[simp] theorem Act.dmc_ing : ((Act.dmc f).apply s).ing = s.ing := rfl
@[simp] theorem Act.dmc_thk : ((Act.dmc f).apply s).thk = s.thk := rfl
@[simp] theorem Act.dmc_grv : ((Act.dmc f).apply s).grv = s.grv := rfl
@[simp] theorem Act.dmc_lyr : ((Act.dmc f).apply s).lyr = s.lyr := rfl
@[simp] theorem Act.dmc_pdl : ((Act.dmc f).apply s).pdl = s.pdl := rfl
@[simp] theorem Act.dmc_sds : ((Act.dmc f).apply s).sds = s.sds := rfl
@[simp] theorem Act.dmc_apl : ((Act.dmc f).apply s).apl = s.apl := rfl
@[simp] theorem Act.dmc_fab : ((Act.dmc f).apply s).fab = s.fab := rfl
@[simp] theorem Act.dmc_tim : ((Act.dmc f).apply s).tim = s.tim := rfl
@[simp] theorem Act.dmc_cmt : ((Act.dmc f).apply s).cmt = s.cmt := rfl
@[simp] theorem Act.dmc_met : ((Act.dmc f).apply s).met = s.met := rfl
@[simp] theorem Act.dmc_dmc : ((Act.dmc f).apply s).dmc = f s.dmc := rfl
@[simp] theorem Act.dmc_sram : ((Act.dmc f).apply s).sram = s.sram := rfl
@[simp] theorem Act.dmc_nvm : ((Act.dmc f).apply s).nvm = s.nvm := rfl
@[simp] theorem Act.dmc_ctl : ((Act.dmc f).apply s).ctl = s.ctl := rfl
@[simp] theorem Act.dmc_sec : ((Act.dmc f).apply s).sec = s.sec := rfl
@[simp] theorem Act.dmc_hkp : ((Act.dmc f).apply s).hkp = s.hkp := rfl
@[simp] theorem Act.dmc_pins : ((Act.dmc f).apply s).pins = s.pins := rfl
@[simp] theorem Act.dmc_out : ((Act.dmc f).apply s).out = s.out := rfl
@[simp] theorem Act.dmc_freeCount : ((Act.dmc f).apply s).freeCount = s.freeCount := rfl
@[simp] theorem Act.dmc_pending : ((Act.dmc f).apply s).pending = s.pending := rfl

end

section
variable (f : SramTest → SramTest) (s : State)

@[simp] theorem Act.sram_regs : ((Act.sram f).apply s).regs = s.regs := rfl
@[simp] theorem Act.sram_eff : ((Act.sram f).apply s).eff = s.eff := rfl
@[simp] theorem Act.sram_rwsPend : ((Act.sram f).apply s).rwsPend = s.rwsPend := rfl
@[simp] theorem Act.sram_latches : ((Act.sram f).apply s).latches = s.latches := rfl
@[simp] theorem Act.sram_bus : ((Act.sram f).apply s).bus = s.bus := rfl
@[simp] theorem Act.sram_mem : ((Act.sram f).apply s).mem = s.mem := rfl
@[simp] theorem Act.sram_node : ((Act.sram f).apply s).node = s.node := rfl
@[simp] theorem Act.sram_lc : ((Act.sram f).apply s).lc = s.lc := rfl
@[simp] theorem Act.sram_secVersion : ((Act.sram f).apply s).secVersion = s.secVersion := rfl
@[simp] theorem Act.sram_advancesLeft : ((Act.sram f).apply s).advancesLeft = s.advancesLeft := rfl
@[simp] theorem Act.sram_meas : ((Act.sram f).apply s).meas = s.meas := rfl
@[simp] theorem Act.sram_ing : ((Act.sram f).apply s).ing = s.ing := rfl
@[simp] theorem Act.sram_thk : ((Act.sram f).apply s).thk = s.thk := rfl
@[simp] theorem Act.sram_grv : ((Act.sram f).apply s).grv = s.grv := rfl
@[simp] theorem Act.sram_lyr : ((Act.sram f).apply s).lyr = s.lyr := rfl
@[simp] theorem Act.sram_pdl : ((Act.sram f).apply s).pdl = s.pdl := rfl
@[simp] theorem Act.sram_sds : ((Act.sram f).apply s).sds = s.sds := rfl
@[simp] theorem Act.sram_apl : ((Act.sram f).apply s).apl = s.apl := rfl
@[simp] theorem Act.sram_fab : ((Act.sram f).apply s).fab = s.fab := rfl
@[simp] theorem Act.sram_tim : ((Act.sram f).apply s).tim = s.tim := rfl
@[simp] theorem Act.sram_cmt : ((Act.sram f).apply s).cmt = s.cmt := rfl
@[simp] theorem Act.sram_met : ((Act.sram f).apply s).met = s.met := rfl
@[simp] theorem Act.sram_dmc : ((Act.sram f).apply s).dmc = s.dmc := rfl
@[simp] theorem Act.sram_sram : ((Act.sram f).apply s).sram = f s.sram := rfl
@[simp] theorem Act.sram_nvm : ((Act.sram f).apply s).nvm = s.nvm := rfl
@[simp] theorem Act.sram_ctl : ((Act.sram f).apply s).ctl = s.ctl := rfl
@[simp] theorem Act.sram_sec : ((Act.sram f).apply s).sec = s.sec := rfl
@[simp] theorem Act.sram_hkp : ((Act.sram f).apply s).hkp = s.hkp := rfl
@[simp] theorem Act.sram_pins : ((Act.sram f).apply s).pins = s.pins := rfl
@[simp] theorem Act.sram_out : ((Act.sram f).apply s).out = s.out := rfl
@[simp] theorem Act.sram_freeCount : ((Act.sram f).apply s).freeCount = s.freeCount := rfl
@[simp] theorem Act.sram_pending : ((Act.sram f).apply s).pending = s.pending := rfl

end

section
variable (f : Nvm → Nvm) (s : State)

@[simp] theorem Act.nvm_regs : ((Act.nvm f).apply s).regs = s.regs := rfl
@[simp] theorem Act.nvm_eff : ((Act.nvm f).apply s).eff = s.eff := rfl
@[simp] theorem Act.nvm_rwsPend : ((Act.nvm f).apply s).rwsPend = s.rwsPend := rfl
@[simp] theorem Act.nvm_latches : ((Act.nvm f).apply s).latches = s.latches := rfl
@[simp] theorem Act.nvm_bus : ((Act.nvm f).apply s).bus = s.bus := rfl
@[simp] theorem Act.nvm_mem : ((Act.nvm f).apply s).mem = s.mem := rfl
@[simp] theorem Act.nvm_node : ((Act.nvm f).apply s).node = s.node := rfl
@[simp] theorem Act.nvm_lc : ((Act.nvm f).apply s).lc = s.lc := rfl
@[simp] theorem Act.nvm_secVersion : ((Act.nvm f).apply s).secVersion = s.secVersion := rfl
@[simp] theorem Act.nvm_advancesLeft : ((Act.nvm f).apply s).advancesLeft = s.advancesLeft := rfl
@[simp] theorem Act.nvm_meas : ((Act.nvm f).apply s).meas = s.meas := rfl
@[simp] theorem Act.nvm_ing : ((Act.nvm f).apply s).ing = s.ing := rfl
@[simp] theorem Act.nvm_thk : ((Act.nvm f).apply s).thk = s.thk := rfl
@[simp] theorem Act.nvm_grv : ((Act.nvm f).apply s).grv = s.grv := rfl
@[simp] theorem Act.nvm_lyr : ((Act.nvm f).apply s).lyr = s.lyr := rfl
@[simp] theorem Act.nvm_pdl : ((Act.nvm f).apply s).pdl = s.pdl := rfl
@[simp] theorem Act.nvm_sds : ((Act.nvm f).apply s).sds = s.sds := rfl
@[simp] theorem Act.nvm_apl : ((Act.nvm f).apply s).apl = s.apl := rfl
@[simp] theorem Act.nvm_fab : ((Act.nvm f).apply s).fab = s.fab := rfl
@[simp] theorem Act.nvm_tim : ((Act.nvm f).apply s).tim = s.tim := rfl
@[simp] theorem Act.nvm_cmt : ((Act.nvm f).apply s).cmt = s.cmt := rfl
@[simp] theorem Act.nvm_met : ((Act.nvm f).apply s).met = s.met := rfl
@[simp] theorem Act.nvm_dmc : ((Act.nvm f).apply s).dmc = s.dmc := rfl
@[simp] theorem Act.nvm_sram : ((Act.nvm f).apply s).sram = s.sram := rfl
@[simp] theorem Act.nvm_nvm : ((Act.nvm f).apply s).nvm = f s.nvm := rfl
@[simp] theorem Act.nvm_ctl : ((Act.nvm f).apply s).ctl = s.ctl := rfl
@[simp] theorem Act.nvm_sec : ((Act.nvm f).apply s).sec = s.sec := rfl
@[simp] theorem Act.nvm_hkp : ((Act.nvm f).apply s).hkp = s.hkp := rfl
@[simp] theorem Act.nvm_pins : ((Act.nvm f).apply s).pins = s.pins := rfl
@[simp] theorem Act.nvm_out : ((Act.nvm f).apply s).out = s.out := rfl
@[simp] theorem Act.nvm_freeCount : ((Act.nvm f).apply s).freeCount = s.freeCount := rfl
@[simp] theorem Act.nvm_pending : ((Act.nvm f).apply s).pending = s.pending := rfl

end

section
variable (f : Control → Control) (s : State)

@[simp] theorem Act.ctl_regs : ((Act.ctl f).apply s).regs = s.regs := rfl
@[simp] theorem Act.ctl_eff : ((Act.ctl f).apply s).eff = s.eff := rfl
@[simp] theorem Act.ctl_rwsPend : ((Act.ctl f).apply s).rwsPend = s.rwsPend := rfl
@[simp] theorem Act.ctl_latches : ((Act.ctl f).apply s).latches = s.latches := rfl
@[simp] theorem Act.ctl_bus : ((Act.ctl f).apply s).bus = s.bus := rfl
@[simp] theorem Act.ctl_mem : ((Act.ctl f).apply s).mem = s.mem := rfl
@[simp] theorem Act.ctl_node : ((Act.ctl f).apply s).node = s.node := rfl
@[simp] theorem Act.ctl_lc : ((Act.ctl f).apply s).lc = s.lc := rfl
@[simp] theorem Act.ctl_secVersion : ((Act.ctl f).apply s).secVersion = s.secVersion := rfl
@[simp] theorem Act.ctl_advancesLeft : ((Act.ctl f).apply s).advancesLeft = s.advancesLeft := rfl
@[simp] theorem Act.ctl_meas : ((Act.ctl f).apply s).meas = s.meas := rfl
@[simp] theorem Act.ctl_ing : ((Act.ctl f).apply s).ing = s.ing := rfl
@[simp] theorem Act.ctl_thk : ((Act.ctl f).apply s).thk = s.thk := rfl
@[simp] theorem Act.ctl_grv : ((Act.ctl f).apply s).grv = s.grv := rfl
@[simp] theorem Act.ctl_lyr : ((Act.ctl f).apply s).lyr = s.lyr := rfl
@[simp] theorem Act.ctl_pdl : ((Act.ctl f).apply s).pdl = s.pdl := rfl
@[simp] theorem Act.ctl_sds : ((Act.ctl f).apply s).sds = s.sds := rfl
@[simp] theorem Act.ctl_apl : ((Act.ctl f).apply s).apl = s.apl := rfl
@[simp] theorem Act.ctl_fab : ((Act.ctl f).apply s).fab = s.fab := rfl
@[simp] theorem Act.ctl_tim : ((Act.ctl f).apply s).tim = s.tim := rfl
@[simp] theorem Act.ctl_cmt : ((Act.ctl f).apply s).cmt = s.cmt := rfl
@[simp] theorem Act.ctl_met : ((Act.ctl f).apply s).met = s.met := rfl
@[simp] theorem Act.ctl_dmc : ((Act.ctl f).apply s).dmc = s.dmc := rfl
@[simp] theorem Act.ctl_sram : ((Act.ctl f).apply s).sram = s.sram := rfl
@[simp] theorem Act.ctl_nvm : ((Act.ctl f).apply s).nvm = s.nvm := rfl
@[simp] theorem Act.ctl_ctl : ((Act.ctl f).apply s).ctl = f s.ctl := rfl
@[simp] theorem Act.ctl_sec : ((Act.ctl f).apply s).sec = s.sec := rfl
@[simp] theorem Act.ctl_hkp : ((Act.ctl f).apply s).hkp = s.hkp := rfl
@[simp] theorem Act.ctl_pins : ((Act.ctl f).apply s).pins = s.pins := rfl
@[simp] theorem Act.ctl_out : ((Act.ctl f).apply s).out = s.out := rfl
@[simp] theorem Act.ctl_freeCount : ((Act.ctl f).apply s).freeCount = s.freeCount := rfl
@[simp] theorem Act.ctl_pending : ((Act.ctl f).apply s).pending = s.pending := rfl

end

section
variable (f : Sec → Sec) (s : State)

@[simp] theorem Act.sec_regs : ((Act.sec f).apply s).regs = s.regs := rfl
@[simp] theorem Act.sec_eff : ((Act.sec f).apply s).eff = s.eff := rfl
@[simp] theorem Act.sec_rwsPend : ((Act.sec f).apply s).rwsPend = s.rwsPend := rfl
@[simp] theorem Act.sec_latches : ((Act.sec f).apply s).latches = s.latches := rfl
@[simp] theorem Act.sec_bus : ((Act.sec f).apply s).bus = s.bus := rfl
@[simp] theorem Act.sec_mem : ((Act.sec f).apply s).mem = s.mem := rfl
@[simp] theorem Act.sec_node : ((Act.sec f).apply s).node = s.node := rfl
@[simp] theorem Act.sec_lc : ((Act.sec f).apply s).lc = s.lc := rfl
@[simp] theorem Act.sec_secVersion : ((Act.sec f).apply s).secVersion = s.secVersion := rfl
@[simp] theorem Act.sec_advancesLeft : ((Act.sec f).apply s).advancesLeft = s.advancesLeft := rfl
@[simp] theorem Act.sec_meas : ((Act.sec f).apply s).meas = s.meas := rfl
@[simp] theorem Act.sec_ing : ((Act.sec f).apply s).ing = s.ing := rfl
@[simp] theorem Act.sec_thk : ((Act.sec f).apply s).thk = s.thk := rfl
@[simp] theorem Act.sec_grv : ((Act.sec f).apply s).grv = s.grv := rfl
@[simp] theorem Act.sec_lyr : ((Act.sec f).apply s).lyr = s.lyr := rfl
@[simp] theorem Act.sec_pdl : ((Act.sec f).apply s).pdl = s.pdl := rfl
@[simp] theorem Act.sec_sds : ((Act.sec f).apply s).sds = s.sds := rfl
@[simp] theorem Act.sec_apl : ((Act.sec f).apply s).apl = s.apl := rfl
@[simp] theorem Act.sec_fab : ((Act.sec f).apply s).fab = s.fab := rfl
@[simp] theorem Act.sec_tim : ((Act.sec f).apply s).tim = s.tim := rfl
@[simp] theorem Act.sec_cmt : ((Act.sec f).apply s).cmt = s.cmt := rfl
@[simp] theorem Act.sec_met : ((Act.sec f).apply s).met = s.met := rfl
@[simp] theorem Act.sec_dmc : ((Act.sec f).apply s).dmc = s.dmc := rfl
@[simp] theorem Act.sec_sram : ((Act.sec f).apply s).sram = s.sram := rfl
@[simp] theorem Act.sec_nvm : ((Act.sec f).apply s).nvm = s.nvm := rfl
@[simp] theorem Act.sec_ctl : ((Act.sec f).apply s).ctl = s.ctl := rfl
@[simp] theorem Act.sec_sec : ((Act.sec f).apply s).sec = f s.sec := rfl
@[simp] theorem Act.sec_hkp : ((Act.sec f).apply s).hkp = s.hkp := rfl
@[simp] theorem Act.sec_pins : ((Act.sec f).apply s).pins = s.pins := rfl
@[simp] theorem Act.sec_out : ((Act.sec f).apply s).out = s.out := rfl
@[simp] theorem Act.sec_freeCount : ((Act.sec f).apply s).freeCount = s.freeCount := rfl
@[simp] theorem Act.sec_pending : ((Act.sec f).apply s).pending = s.pending := rfl

end

section
variable (f : Hkp → Hkp) (s : State)

@[simp] theorem Act.hkp_regs : ((Act.hkp f).apply s).regs = s.regs := rfl
@[simp] theorem Act.hkp_eff : ((Act.hkp f).apply s).eff = s.eff := rfl
@[simp] theorem Act.hkp_rwsPend : ((Act.hkp f).apply s).rwsPend = s.rwsPend := rfl
@[simp] theorem Act.hkp_latches : ((Act.hkp f).apply s).latches = s.latches := rfl
@[simp] theorem Act.hkp_bus : ((Act.hkp f).apply s).bus = s.bus := rfl
@[simp] theorem Act.hkp_mem : ((Act.hkp f).apply s).mem = s.mem := rfl
@[simp] theorem Act.hkp_node : ((Act.hkp f).apply s).node = s.node := rfl
@[simp] theorem Act.hkp_lc : ((Act.hkp f).apply s).lc = s.lc := rfl
@[simp] theorem Act.hkp_secVersion : ((Act.hkp f).apply s).secVersion = s.secVersion := rfl
@[simp] theorem Act.hkp_advancesLeft : ((Act.hkp f).apply s).advancesLeft = s.advancesLeft := rfl
@[simp] theorem Act.hkp_meas : ((Act.hkp f).apply s).meas = s.meas := rfl
@[simp] theorem Act.hkp_ing : ((Act.hkp f).apply s).ing = s.ing := rfl
@[simp] theorem Act.hkp_thk : ((Act.hkp f).apply s).thk = s.thk := rfl
@[simp] theorem Act.hkp_grv : ((Act.hkp f).apply s).grv = s.grv := rfl
@[simp] theorem Act.hkp_lyr : ((Act.hkp f).apply s).lyr = s.lyr := rfl
@[simp] theorem Act.hkp_pdl : ((Act.hkp f).apply s).pdl = s.pdl := rfl
@[simp] theorem Act.hkp_sds : ((Act.hkp f).apply s).sds = s.sds := rfl
@[simp] theorem Act.hkp_apl : ((Act.hkp f).apply s).apl = s.apl := rfl
@[simp] theorem Act.hkp_fab : ((Act.hkp f).apply s).fab = s.fab := rfl
@[simp] theorem Act.hkp_tim : ((Act.hkp f).apply s).tim = s.tim := rfl
@[simp] theorem Act.hkp_cmt : ((Act.hkp f).apply s).cmt = s.cmt := rfl
@[simp] theorem Act.hkp_met : ((Act.hkp f).apply s).met = s.met := rfl
@[simp] theorem Act.hkp_dmc : ((Act.hkp f).apply s).dmc = s.dmc := rfl
@[simp] theorem Act.hkp_sram : ((Act.hkp f).apply s).sram = s.sram := rfl
@[simp] theorem Act.hkp_nvm : ((Act.hkp f).apply s).nvm = s.nvm := rfl
@[simp] theorem Act.hkp_ctl : ((Act.hkp f).apply s).ctl = s.ctl := rfl
@[simp] theorem Act.hkp_sec : ((Act.hkp f).apply s).sec = s.sec := rfl
@[simp] theorem Act.hkp_hkp : ((Act.hkp f).apply s).hkp = f s.hkp := rfl
@[simp] theorem Act.hkp_pins : ((Act.hkp f).apply s).pins = s.pins := rfl
@[simp] theorem Act.hkp_out : ((Act.hkp f).apply s).out = s.out := rfl
@[simp] theorem Act.hkp_freeCount : ((Act.hkp f).apply s).freeCount = s.freeCount := rfl
@[simp] theorem Act.hkp_pending : ((Act.hkp f).apply s).pending = s.pending := rfl

end

section
variable (f : Pins → Pins) (s : State)

@[simp] theorem Act.pins_regs : ((Act.pins f).apply s).regs = s.regs := rfl
@[simp] theorem Act.pins_eff : ((Act.pins f).apply s).eff = s.eff := rfl
@[simp] theorem Act.pins_rwsPend : ((Act.pins f).apply s).rwsPend = s.rwsPend := rfl
@[simp] theorem Act.pins_latches : ((Act.pins f).apply s).latches = s.latches := rfl
@[simp] theorem Act.pins_bus : ((Act.pins f).apply s).bus = s.bus := rfl
@[simp] theorem Act.pins_mem : ((Act.pins f).apply s).mem = s.mem := rfl
@[simp] theorem Act.pins_node : ((Act.pins f).apply s).node = s.node := rfl
@[simp] theorem Act.pins_lc : ((Act.pins f).apply s).lc = s.lc := rfl
@[simp] theorem Act.pins_secVersion : ((Act.pins f).apply s).secVersion = s.secVersion := rfl
@[simp] theorem Act.pins_advancesLeft : ((Act.pins f).apply s).advancesLeft = s.advancesLeft := rfl
@[simp] theorem Act.pins_meas : ((Act.pins f).apply s).meas = s.meas := rfl
@[simp] theorem Act.pins_ing : ((Act.pins f).apply s).ing = s.ing := rfl
@[simp] theorem Act.pins_thk : ((Act.pins f).apply s).thk = s.thk := rfl
@[simp] theorem Act.pins_grv : ((Act.pins f).apply s).grv = s.grv := rfl
@[simp] theorem Act.pins_lyr : ((Act.pins f).apply s).lyr = s.lyr := rfl
@[simp] theorem Act.pins_pdl : ((Act.pins f).apply s).pdl = s.pdl := rfl
@[simp] theorem Act.pins_sds : ((Act.pins f).apply s).sds = s.sds := rfl
@[simp] theorem Act.pins_apl : ((Act.pins f).apply s).apl = s.apl := rfl
@[simp] theorem Act.pins_fab : ((Act.pins f).apply s).fab = s.fab := rfl
@[simp] theorem Act.pins_tim : ((Act.pins f).apply s).tim = s.tim := rfl
@[simp] theorem Act.pins_cmt : ((Act.pins f).apply s).cmt = s.cmt := rfl
@[simp] theorem Act.pins_met : ((Act.pins f).apply s).met = s.met := rfl
@[simp] theorem Act.pins_dmc : ((Act.pins f).apply s).dmc = s.dmc := rfl
@[simp] theorem Act.pins_sram : ((Act.pins f).apply s).sram = s.sram := rfl
@[simp] theorem Act.pins_nvm : ((Act.pins f).apply s).nvm = s.nvm := rfl
@[simp] theorem Act.pins_ctl : ((Act.pins f).apply s).ctl = s.ctl := rfl
@[simp] theorem Act.pins_sec : ((Act.pins f).apply s).sec = s.sec := rfl
@[simp] theorem Act.pins_hkp : ((Act.pins f).apply s).hkp = s.hkp := rfl
@[simp] theorem Act.pins_pins : ((Act.pins f).apply s).pins = f s.pins := rfl
@[simp] theorem Act.pins_out : ((Act.pins f).apply s).out = s.out := rfl
@[simp] theorem Act.pins_freeCount : ((Act.pins f).apply s).freeCount = s.freeCount := rfl
@[simp] theorem Act.pins_pending : ((Act.pins f).apply s).pending = s.pending := rfl

end

section
variable (o : Out) (s : State)

@[simp] theorem Act.out_regs : ((Act.out o).apply s).regs = s.regs := rfl
@[simp] theorem Act.out_eff : ((Act.out o).apply s).eff = s.eff := rfl
@[simp] theorem Act.out_rwsPend : ((Act.out o).apply s).rwsPend = s.rwsPend := rfl
@[simp] theorem Act.out_latches : ((Act.out o).apply s).latches = s.latches := rfl
@[simp] theorem Act.out_bus : ((Act.out o).apply s).bus = s.bus := rfl
@[simp] theorem Act.out_mem : ((Act.out o).apply s).mem = s.mem := rfl
@[simp] theorem Act.out_node : ((Act.out o).apply s).node = s.node := rfl
@[simp] theorem Act.out_lc : ((Act.out o).apply s).lc = s.lc := rfl
@[simp] theorem Act.out_secVersion : ((Act.out o).apply s).secVersion = s.secVersion := rfl
@[simp] theorem Act.out_advancesLeft : ((Act.out o).apply s).advancesLeft = s.advancesLeft := rfl
@[simp] theorem Act.out_meas : ((Act.out o).apply s).meas = s.meas := rfl
@[simp] theorem Act.out_ing : ((Act.out o).apply s).ing = s.ing := rfl
@[simp] theorem Act.out_thk : ((Act.out o).apply s).thk = s.thk := rfl
@[simp] theorem Act.out_grv : ((Act.out o).apply s).grv = s.grv := rfl
@[simp] theorem Act.out_lyr : ((Act.out o).apply s).lyr = s.lyr := rfl
@[simp] theorem Act.out_pdl : ((Act.out o).apply s).pdl = s.pdl := rfl
@[simp] theorem Act.out_sds : ((Act.out o).apply s).sds = s.sds := rfl
@[simp] theorem Act.out_apl : ((Act.out o).apply s).apl = s.apl := rfl
@[simp] theorem Act.out_fab : ((Act.out o).apply s).fab = s.fab := rfl
@[simp] theorem Act.out_tim : ((Act.out o).apply s).tim = s.tim := rfl
@[simp] theorem Act.out_cmt : ((Act.out o).apply s).cmt = s.cmt := rfl
@[simp] theorem Act.out_met : ((Act.out o).apply s).met = s.met := rfl
@[simp] theorem Act.out_dmc : ((Act.out o).apply s).dmc = s.dmc := rfl
@[simp] theorem Act.out_sram : ((Act.out o).apply s).sram = s.sram := rfl
@[simp] theorem Act.out_nvm : ((Act.out o).apply s).nvm = s.nvm := rfl
@[simp] theorem Act.out_ctl : ((Act.out o).apply s).ctl = s.ctl := rfl
@[simp] theorem Act.out_sec : ((Act.out o).apply s).sec = s.sec := rfl
@[simp] theorem Act.out_hkp : ((Act.out o).apply s).hkp = s.hkp := rfl
@[simp] theorem Act.out_pins : ((Act.out o).apply s).pins = s.pins := rfl
@[simp] theorem Act.out_out : ((Act.out o).apply s).out = o :: s.out := rfl
@[simp] theorem Act.out_freeCount : ((Act.out o).apply s).freeCount = s.freeCount := rfl
@[simp] theorem Act.out_pending : ((Act.out o).apply s).pending = s.pending := rfl

end

section
variable (n : Nat) (s : State)

@[simp] theorem Act.free_regs : ((Act.free n).apply s).regs = s.regs := rfl
@[simp] theorem Act.free_eff : ((Act.free n).apply s).eff = s.eff := rfl
@[simp] theorem Act.free_rwsPend : ((Act.free n).apply s).rwsPend = s.rwsPend := rfl
@[simp] theorem Act.free_latches : ((Act.free n).apply s).latches = s.latches := rfl
@[simp] theorem Act.free_bus : ((Act.free n).apply s).bus = s.bus := rfl
@[simp] theorem Act.free_mem : ((Act.free n).apply s).mem = s.mem := rfl
@[simp] theorem Act.free_node : ((Act.free n).apply s).node = s.node := rfl
@[simp] theorem Act.free_lc : ((Act.free n).apply s).lc = s.lc := rfl
@[simp] theorem Act.free_secVersion : ((Act.free n).apply s).secVersion = s.secVersion := rfl
@[simp] theorem Act.free_advancesLeft : ((Act.free n).apply s).advancesLeft = s.advancesLeft := rfl
@[simp] theorem Act.free_meas : ((Act.free n).apply s).meas = s.meas := rfl
@[simp] theorem Act.free_ing : ((Act.free n).apply s).ing = s.ing := rfl
@[simp] theorem Act.free_thk : ((Act.free n).apply s).thk = s.thk := rfl
@[simp] theorem Act.free_grv : ((Act.free n).apply s).grv = s.grv := rfl
@[simp] theorem Act.free_lyr : ((Act.free n).apply s).lyr = s.lyr := rfl
@[simp] theorem Act.free_pdl : ((Act.free n).apply s).pdl = s.pdl := rfl
@[simp] theorem Act.free_sds : ((Act.free n).apply s).sds = s.sds := rfl
@[simp] theorem Act.free_apl : ((Act.free n).apply s).apl = s.apl := rfl
@[simp] theorem Act.free_fab : ((Act.free n).apply s).fab = s.fab := rfl
@[simp] theorem Act.free_tim : ((Act.free n).apply s).tim = s.tim := rfl
@[simp] theorem Act.free_cmt : ((Act.free n).apply s).cmt = s.cmt := rfl
@[simp] theorem Act.free_met : ((Act.free n).apply s).met = s.met := rfl
@[simp] theorem Act.free_dmc : ((Act.free n).apply s).dmc = s.dmc := rfl
@[simp] theorem Act.free_sram : ((Act.free n).apply s).sram = s.sram := rfl
@[simp] theorem Act.free_nvm : ((Act.free n).apply s).nvm = s.nvm := rfl
@[simp] theorem Act.free_ctl : ((Act.free n).apply s).ctl = s.ctl := rfl
@[simp] theorem Act.free_sec : ((Act.free n).apply s).sec = s.sec := rfl
@[simp] theorem Act.free_hkp : ((Act.free n).apply s).hkp = s.hkp := rfl
@[simp] theorem Act.free_pins : ((Act.free n).apply s).pins = s.pins := rfl
@[simp] theorem Act.free_out : ((Act.free n).apply s).out = s.out := rfl
@[simp] theorem Act.free_freeCount : ((Act.free n).apply s).freeCount = s.freeCount + n := rfl
@[simp] theorem Act.free_pending : ((Act.free n).apply s).pending = s.pending := rfl

end

section
variable (n : NodeState) (s : State)

@[simp] theorem Act.node_regs : ((Act.node n).apply s).regs = s.regs := by
  simp only [Act.apply]; split <;> rfl
@[simp] theorem Act.node_eff : ((Act.node n).apply s).eff = s.eff := by
  simp only [Act.apply]; split <;> rfl
@[simp] theorem Act.node_rwsPend : ((Act.node n).apply s).rwsPend = s.rwsPend := by
  simp only [Act.apply]; split <;> rfl
@[simp] theorem Act.node_latches : ((Act.node n).apply s).latches = s.latches := by
  simp only [Act.apply]; split <;> rfl
@[simp] theorem Act.node_bus : ((Act.node n).apply s).bus = s.bus := by
  simp only [Act.apply]; split <;> rfl
@[simp] theorem Act.node_mem : ((Act.node n).apply s).mem = s.mem := by
  simp only [Act.apply]; split <;> rfl
@[simp] theorem Act.node_lc : ((Act.node n).apply s).lc = s.lc := by
  simp only [Act.apply]; split <;> rfl
@[simp] theorem Act.node_secVersion : ((Act.node n).apply s).secVersion = s.secVersion := by
  simp only [Act.apply]; split <;> rfl
@[simp] theorem Act.node_advancesLeft : ((Act.node n).apply s).advancesLeft = s.advancesLeft := by
  simp only [Act.apply]; split <;> rfl
@[simp] theorem Act.node_meas : ((Act.node n).apply s).meas = s.meas := by
  simp only [Act.apply]; split <;> rfl
@[simp] theorem Act.node_ing : ((Act.node n).apply s).ing = s.ing := by
  simp only [Act.apply]; split <;> rfl
@[simp] theorem Act.node_thk : ((Act.node n).apply s).thk = s.thk := by
  simp only [Act.apply]; split <;> rfl
@[simp] theorem Act.node_grv : ((Act.node n).apply s).grv = s.grv := by
  simp only [Act.apply]; split <;> rfl
@[simp] theorem Act.node_lyr : ((Act.node n).apply s).lyr = s.lyr := by
  simp only [Act.apply]; split <;> rfl
@[simp] theorem Act.node_pdl : ((Act.node n).apply s).pdl = s.pdl := by
  simp only [Act.apply]; split <;> rfl
@[simp] theorem Act.node_sds : ((Act.node n).apply s).sds = s.sds := by
  simp only [Act.apply]; split <;> rfl
@[simp] theorem Act.node_apl : ((Act.node n).apply s).apl = s.apl := by
  simp only [Act.apply]; split <;> rfl
@[simp] theorem Act.node_fab : ((Act.node n).apply s).fab = s.fab := by
  simp only [Act.apply]; split <;> rfl
@[simp] theorem Act.node_tim : ((Act.node n).apply s).tim = s.tim := by
  simp only [Act.apply]; split <;> rfl
@[simp] theorem Act.node_cmt : ((Act.node n).apply s).cmt = s.cmt := by
  simp only [Act.apply]; split <;> rfl
@[simp] theorem Act.node_met : ((Act.node n).apply s).met = s.met := by
  simp only [Act.apply]; split <;> rfl
@[simp] theorem Act.node_dmc : ((Act.node n).apply s).dmc = s.dmc := by
  simp only [Act.apply]; split <;> rfl
@[simp] theorem Act.node_sram : ((Act.node n).apply s).sram = s.sram := by
  simp only [Act.apply]; split <;> rfl
@[simp] theorem Act.node_nvm : ((Act.node n).apply s).nvm = s.nvm := by
  simp only [Act.apply]; split <;> rfl
@[simp] theorem Act.node_ctl : ((Act.node n).apply s).ctl = s.ctl := by
  simp only [Act.apply]; split <;> rfl
@[simp] theorem Act.node_sec : ((Act.node n).apply s).sec = s.sec := by
  simp only [Act.apply]; split <;> rfl
@[simp] theorem Act.node_hkp : ((Act.node n).apply s).hkp = s.hkp := by
  simp only [Act.apply]; split <;> rfl
@[simp] theorem Act.node_pins : ((Act.node n).apply s).pins = s.pins := by
  simp only [Act.apply]; split <;> rfl
@[simp] theorem Act.node_out : ((Act.node n).apply s).out = s.out := by
  simp only [Act.apply]; split <;> rfl
@[simp] theorem Act.node_freeCount : ((Act.node n).apply s).freeCount = s.freeCount := by
  simp only [Act.apply]; split <;> rfl
@[simp] theorem Act.node_pending : ((Act.node n).apply s).pending = s.pending := by
  simp only [Act.apply]; split <;> rfl

end

section
variable (n : LcState) (s : State)

@[simp] theorem Act.lifecycle_regs : ((Act.lifecycle n).apply s).regs = s.regs := by
  simp only [Act.apply]; split <;> rfl
@[simp] theorem Act.lifecycle_eff : ((Act.lifecycle n).apply s).eff = s.eff := by
  simp only [Act.apply]; split <;> rfl
@[simp] theorem Act.lifecycle_rwsPend : ((Act.lifecycle n).apply s).rwsPend = s.rwsPend := by
  simp only [Act.apply]; split <;> rfl
@[simp] theorem Act.lifecycle_latches : ((Act.lifecycle n).apply s).latches = s.latches := by
  simp only [Act.apply]; split <;> rfl
@[simp] theorem Act.lifecycle_bus : ((Act.lifecycle n).apply s).bus = s.bus := by
  simp only [Act.apply]; split <;> rfl
@[simp] theorem Act.lifecycle_mem : ((Act.lifecycle n).apply s).mem = s.mem := by
  simp only [Act.apply]; split <;> rfl
@[simp] theorem Act.lifecycle_node : ((Act.lifecycle n).apply s).node = s.node := by
  simp only [Act.apply]; split <;> rfl
@[simp] theorem Act.lifecycle_secVersion : ((Act.lifecycle n).apply s).secVersion = s.secVersion := by
  simp only [Act.apply]; split <;> rfl
@[simp] theorem Act.lifecycle_advancesLeft : ((Act.lifecycle n).apply s).advancesLeft = s.advancesLeft := by
  simp only [Act.apply]; split <;> rfl
@[simp] theorem Act.lifecycle_meas : ((Act.lifecycle n).apply s).meas = s.meas := by
  simp only [Act.apply]; split <;> rfl
@[simp] theorem Act.lifecycle_ing : ((Act.lifecycle n).apply s).ing = s.ing := by
  simp only [Act.apply]; split <;> rfl
@[simp] theorem Act.lifecycle_thk : ((Act.lifecycle n).apply s).thk = s.thk := by
  simp only [Act.apply]; split <;> rfl
@[simp] theorem Act.lifecycle_grv : ((Act.lifecycle n).apply s).grv = s.grv := by
  simp only [Act.apply]; split <;> rfl
@[simp] theorem Act.lifecycle_lyr : ((Act.lifecycle n).apply s).lyr = s.lyr := by
  simp only [Act.apply]; split <;> rfl
@[simp] theorem Act.lifecycle_pdl : ((Act.lifecycle n).apply s).pdl = s.pdl := by
  simp only [Act.apply]; split <;> rfl
@[simp] theorem Act.lifecycle_sds : ((Act.lifecycle n).apply s).sds = s.sds := by
  simp only [Act.apply]; split <;> rfl
@[simp] theorem Act.lifecycle_apl : ((Act.lifecycle n).apply s).apl = s.apl := by
  simp only [Act.apply]; split <;> rfl
@[simp] theorem Act.lifecycle_fab : ((Act.lifecycle n).apply s).fab = s.fab := by
  simp only [Act.apply]; split <;> rfl
@[simp] theorem Act.lifecycle_tim : ((Act.lifecycle n).apply s).tim = s.tim := by
  simp only [Act.apply]; split <;> rfl
@[simp] theorem Act.lifecycle_cmt : ((Act.lifecycle n).apply s).cmt = s.cmt := by
  simp only [Act.apply]; split <;> rfl
@[simp] theorem Act.lifecycle_met : ((Act.lifecycle n).apply s).met = s.met := by
  simp only [Act.apply]; split <;> rfl
@[simp] theorem Act.lifecycle_dmc : ((Act.lifecycle n).apply s).dmc = s.dmc := by
  simp only [Act.apply]; split <;> rfl
@[simp] theorem Act.lifecycle_sram : ((Act.lifecycle n).apply s).sram = s.sram := by
  simp only [Act.apply]; split <;> rfl
@[simp] theorem Act.lifecycle_nvm : ((Act.lifecycle n).apply s).nvm = s.nvm := by
  simp only [Act.apply]; split <;> rfl
@[simp] theorem Act.lifecycle_ctl : ((Act.lifecycle n).apply s).ctl = s.ctl := by
  simp only [Act.apply]; split <;> rfl
@[simp] theorem Act.lifecycle_sec : ((Act.lifecycle n).apply s).sec = s.sec := by
  simp only [Act.apply]; split <;> rfl
@[simp] theorem Act.lifecycle_hkp : ((Act.lifecycle n).apply s).hkp = s.hkp := by
  simp only [Act.apply]; split <;> rfl
@[simp] theorem Act.lifecycle_pins : ((Act.lifecycle n).apply s).pins = s.pins := by
  simp only [Act.apply]; split <;> rfl
@[simp] theorem Act.lifecycle_out : ((Act.lifecycle n).apply s).out = s.out := by
  simp only [Act.apply]; split <;> rfl
@[simp] theorem Act.lifecycle_freeCount : ((Act.lifecycle n).apply s).freeCount = s.freeCount := by
  simp only [Act.apply]; split <;> rfl
@[simp] theorem Act.lifecycle_pending : ((Act.lifecycle n).apply s).pending = s.pending := by
  simp only [Act.apply]; split <;> rfl

end

section
variable (v : Word) (s : State)

@[simp] theorem Act.fuseVersion_regs : ((Act.fuseVersion v).apply s).regs = s.regs := by
  simp only [Act.apply]; split <;> rfl
@[simp] theorem Act.fuseVersion_eff : ((Act.fuseVersion v).apply s).eff = s.eff := by
  simp only [Act.apply]; split <;> rfl
@[simp] theorem Act.fuseVersion_rwsPend : ((Act.fuseVersion v).apply s).rwsPend = s.rwsPend := by
  simp only [Act.apply]; split <;> rfl
@[simp] theorem Act.fuseVersion_latches : ((Act.fuseVersion v).apply s).latches = s.latches := by
  simp only [Act.apply]; split <;> rfl
@[simp] theorem Act.fuseVersion_bus : ((Act.fuseVersion v).apply s).bus = s.bus := by
  simp only [Act.apply]; split <;> rfl
@[simp] theorem Act.fuseVersion_mem : ((Act.fuseVersion v).apply s).mem = s.mem := by
  simp only [Act.apply]; split <;> rfl
@[simp] theorem Act.fuseVersion_node : ((Act.fuseVersion v).apply s).node = s.node := by
  simp only [Act.apply]; split <;> rfl
@[simp] theorem Act.fuseVersion_lc : ((Act.fuseVersion v).apply s).lc = s.lc := by
  simp only [Act.apply]; split <;> rfl
@[simp] theorem Act.fuseVersion_meas : ((Act.fuseVersion v).apply s).meas = s.meas := by
  simp only [Act.apply]; split <;> rfl
@[simp] theorem Act.fuseVersion_ing : ((Act.fuseVersion v).apply s).ing = s.ing := by
  simp only [Act.apply]; split <;> rfl
@[simp] theorem Act.fuseVersion_thk : ((Act.fuseVersion v).apply s).thk = s.thk := by
  simp only [Act.apply]; split <;> rfl
@[simp] theorem Act.fuseVersion_grv : ((Act.fuseVersion v).apply s).grv = s.grv := by
  simp only [Act.apply]; split <;> rfl
@[simp] theorem Act.fuseVersion_lyr : ((Act.fuseVersion v).apply s).lyr = s.lyr := by
  simp only [Act.apply]; split <;> rfl
@[simp] theorem Act.fuseVersion_pdl : ((Act.fuseVersion v).apply s).pdl = s.pdl := by
  simp only [Act.apply]; split <;> rfl
@[simp] theorem Act.fuseVersion_sds : ((Act.fuseVersion v).apply s).sds = s.sds := by
  simp only [Act.apply]; split <;> rfl
@[simp] theorem Act.fuseVersion_apl : ((Act.fuseVersion v).apply s).apl = s.apl := by
  simp only [Act.apply]; split <;> rfl
@[simp] theorem Act.fuseVersion_fab : ((Act.fuseVersion v).apply s).fab = s.fab := by
  simp only [Act.apply]; split <;> rfl
@[simp] theorem Act.fuseVersion_tim : ((Act.fuseVersion v).apply s).tim = s.tim := by
  simp only [Act.apply]; split <;> rfl
@[simp] theorem Act.fuseVersion_cmt : ((Act.fuseVersion v).apply s).cmt = s.cmt := by
  simp only [Act.apply]; split <;> rfl
@[simp] theorem Act.fuseVersion_met : ((Act.fuseVersion v).apply s).met = s.met := by
  simp only [Act.apply]; split <;> rfl
@[simp] theorem Act.fuseVersion_dmc : ((Act.fuseVersion v).apply s).dmc = s.dmc := by
  simp only [Act.apply]; split <;> rfl
@[simp] theorem Act.fuseVersion_sram : ((Act.fuseVersion v).apply s).sram = s.sram := by
  simp only [Act.apply]; split <;> rfl
@[simp] theorem Act.fuseVersion_nvm : ((Act.fuseVersion v).apply s).nvm = s.nvm := by
  simp only [Act.apply]; split <;> rfl
@[simp] theorem Act.fuseVersion_ctl : ((Act.fuseVersion v).apply s).ctl = s.ctl := by
  simp only [Act.apply]; split <;> rfl
@[simp] theorem Act.fuseVersion_sec : ((Act.fuseVersion v).apply s).sec = s.sec := by
  simp only [Act.apply]; split <;> rfl
@[simp] theorem Act.fuseVersion_hkp : ((Act.fuseVersion v).apply s).hkp = s.hkp := by
  simp only [Act.apply]; split <;> rfl
@[simp] theorem Act.fuseVersion_pins : ((Act.fuseVersion v).apply s).pins = s.pins := by
  simp only [Act.apply]; split <;> rfl
@[simp] theorem Act.fuseVersion_out : ((Act.fuseVersion v).apply s).out = s.out := by
  simp only [Act.apply]; split <;> rfl
@[simp] theorem Act.fuseVersion_freeCount : ((Act.fuseVersion v).apply s).freeCount = s.freeCount := by
  simp only [Act.apply]; split <;> rfl
@[simp] theorem Act.fuseVersion_pending : ((Act.fuseVersion v).apply s).pending = s.pending := by
  simp only [Act.apply]; split <;> rfl

end

section
variable (v : Word) (s : State)

@[simp] theorem Act.fuseInitial_regs : ((Act.fuseInitial v).apply s).regs = s.regs := by
  simp only [Act.apply]; split <;> rfl
@[simp] theorem Act.fuseInitial_eff : ((Act.fuseInitial v).apply s).eff = s.eff := by
  simp only [Act.apply]; split <;> rfl
@[simp] theorem Act.fuseInitial_rwsPend : ((Act.fuseInitial v).apply s).rwsPend = s.rwsPend := by
  simp only [Act.apply]; split <;> rfl
@[simp] theorem Act.fuseInitial_latches : ((Act.fuseInitial v).apply s).latches = s.latches := by
  simp only [Act.apply]; split <;> rfl
@[simp] theorem Act.fuseInitial_bus : ((Act.fuseInitial v).apply s).bus = s.bus := by
  simp only [Act.apply]; split <;> rfl
@[simp] theorem Act.fuseInitial_mem : ((Act.fuseInitial v).apply s).mem = s.mem := by
  simp only [Act.apply]; split <;> rfl
@[simp] theorem Act.fuseInitial_node : ((Act.fuseInitial v).apply s).node = s.node := by
  simp only [Act.apply]; split <;> rfl
@[simp] theorem Act.fuseInitial_lc : ((Act.fuseInitial v).apply s).lc = s.lc := by
  simp only [Act.apply]; split <;> rfl
@[simp] theorem Act.fuseInitial_advancesLeft : ((Act.fuseInitial v).apply s).advancesLeft = s.advancesLeft := by
  simp only [Act.apply]; split <;> rfl
@[simp] theorem Act.fuseInitial_meas : ((Act.fuseInitial v).apply s).meas = s.meas := by
  simp only [Act.apply]; split <;> rfl
@[simp] theorem Act.fuseInitial_ing : ((Act.fuseInitial v).apply s).ing = s.ing := by
  simp only [Act.apply]; split <;> rfl
@[simp] theorem Act.fuseInitial_thk : ((Act.fuseInitial v).apply s).thk = s.thk := by
  simp only [Act.apply]; split <;> rfl
@[simp] theorem Act.fuseInitial_grv : ((Act.fuseInitial v).apply s).grv = s.grv := by
  simp only [Act.apply]; split <;> rfl
@[simp] theorem Act.fuseInitial_lyr : ((Act.fuseInitial v).apply s).lyr = s.lyr := by
  simp only [Act.apply]; split <;> rfl
@[simp] theorem Act.fuseInitial_pdl : ((Act.fuseInitial v).apply s).pdl = s.pdl := by
  simp only [Act.apply]; split <;> rfl
@[simp] theorem Act.fuseInitial_sds : ((Act.fuseInitial v).apply s).sds = s.sds := by
  simp only [Act.apply]; split <;> rfl
@[simp] theorem Act.fuseInitial_apl : ((Act.fuseInitial v).apply s).apl = s.apl := by
  simp only [Act.apply]; split <;> rfl
@[simp] theorem Act.fuseInitial_fab : ((Act.fuseInitial v).apply s).fab = s.fab := by
  simp only [Act.apply]; split <;> rfl
@[simp] theorem Act.fuseInitial_tim : ((Act.fuseInitial v).apply s).tim = s.tim := by
  simp only [Act.apply]; split <;> rfl
@[simp] theorem Act.fuseInitial_cmt : ((Act.fuseInitial v).apply s).cmt = s.cmt := by
  simp only [Act.apply]; split <;> rfl
@[simp] theorem Act.fuseInitial_met : ((Act.fuseInitial v).apply s).met = s.met := by
  simp only [Act.apply]; split <;> rfl
@[simp] theorem Act.fuseInitial_dmc : ((Act.fuseInitial v).apply s).dmc = s.dmc := by
  simp only [Act.apply]; split <;> rfl
@[simp] theorem Act.fuseInitial_sram : ((Act.fuseInitial v).apply s).sram = s.sram := by
  simp only [Act.apply]; split <;> rfl
@[simp] theorem Act.fuseInitial_nvm : ((Act.fuseInitial v).apply s).nvm = s.nvm := by
  simp only [Act.apply]; split <;> rfl
@[simp] theorem Act.fuseInitial_ctl : ((Act.fuseInitial v).apply s).ctl = s.ctl := by
  simp only [Act.apply]; split <;> rfl
@[simp] theorem Act.fuseInitial_sec : ((Act.fuseInitial v).apply s).sec = s.sec := by
  simp only [Act.apply]; split <;> rfl
@[simp] theorem Act.fuseInitial_hkp : ((Act.fuseInitial v).apply s).hkp = s.hkp := by
  simp only [Act.apply]; split <;> rfl
@[simp] theorem Act.fuseInitial_pins : ((Act.fuseInitial v).apply s).pins = s.pins := by
  simp only [Act.apply]; split <;> rfl
@[simp] theorem Act.fuseInitial_out : ((Act.fuseInitial v).apply s).out = s.out := by
  simp only [Act.apply]; split <;> rfl
@[simp] theorem Act.fuseInitial_freeCount : ((Act.fuseInitial v).apply s).freeCount = s.freeCount := by
  simp only [Act.apply]; split <;> rfl
@[simp] theorem Act.fuseInitial_pending : ((Act.fuseInitial v).apply s).pending = s.pending := by
  simp only [Act.apply]; split <;> rfl

end

section
variable (i : Nat) (x : BitVec 512) (s : State)

@[simp] theorem Act.extend_regs : ((Act.extend i x).apply s).regs = s.regs := by
  simp only [Act.apply]; split <;> rfl
@[simp] theorem Act.extend_eff : ((Act.extend i x).apply s).eff = s.eff := by
  simp only [Act.apply]; split <;> rfl
@[simp] theorem Act.extend_rwsPend : ((Act.extend i x).apply s).rwsPend = s.rwsPend := by
  simp only [Act.apply]; split <;> rfl
@[simp] theorem Act.extend_latches : ((Act.extend i x).apply s).latches = s.latches := by
  simp only [Act.apply]; split <;> rfl
@[simp] theorem Act.extend_bus : ((Act.extend i x).apply s).bus = s.bus := by
  simp only [Act.apply]; split <;> rfl
@[simp] theorem Act.extend_mem : ((Act.extend i x).apply s).mem = s.mem := by
  simp only [Act.apply]; split <;> rfl
@[simp] theorem Act.extend_node : ((Act.extend i x).apply s).node = s.node := by
  simp only [Act.apply]; split <;> rfl
@[simp] theorem Act.extend_lc : ((Act.extend i x).apply s).lc = s.lc := by
  simp only [Act.apply]; split <;> rfl
@[simp] theorem Act.extend_secVersion : ((Act.extend i x).apply s).secVersion = s.secVersion := by
  simp only [Act.apply]; split <;> rfl
@[simp] theorem Act.extend_advancesLeft : ((Act.extend i x).apply s).advancesLeft = s.advancesLeft := by
  simp only [Act.apply]; split <;> rfl
@[simp] theorem Act.extend_ing : ((Act.extend i x).apply s).ing = s.ing := by
  simp only [Act.apply]; split <;> rfl
@[simp] theorem Act.extend_thk : ((Act.extend i x).apply s).thk = s.thk := by
  simp only [Act.apply]; split <;> rfl
@[simp] theorem Act.extend_grv : ((Act.extend i x).apply s).grv = s.grv := by
  simp only [Act.apply]; split <;> rfl
@[simp] theorem Act.extend_lyr : ((Act.extend i x).apply s).lyr = s.lyr := by
  simp only [Act.apply]; split <;> rfl
@[simp] theorem Act.extend_pdl : ((Act.extend i x).apply s).pdl = s.pdl := by
  simp only [Act.apply]; split <;> rfl
@[simp] theorem Act.extend_sds : ((Act.extend i x).apply s).sds = s.sds := by
  simp only [Act.apply]; split <;> rfl
@[simp] theorem Act.extend_apl : ((Act.extend i x).apply s).apl = s.apl := by
  simp only [Act.apply]; split <;> rfl
@[simp] theorem Act.extend_fab : ((Act.extend i x).apply s).fab = s.fab := by
  simp only [Act.apply]; split <;> rfl
@[simp] theorem Act.extend_tim : ((Act.extend i x).apply s).tim = s.tim := by
  simp only [Act.apply]; split <;> rfl
@[simp] theorem Act.extend_cmt : ((Act.extend i x).apply s).cmt = s.cmt := by
  simp only [Act.apply]; split <;> rfl
@[simp] theorem Act.extend_met : ((Act.extend i x).apply s).met = s.met := by
  simp only [Act.apply]; split <;> rfl
@[simp] theorem Act.extend_dmc : ((Act.extend i x).apply s).dmc = s.dmc := by
  simp only [Act.apply]; split <;> rfl
@[simp] theorem Act.extend_sram : ((Act.extend i x).apply s).sram = s.sram := by
  simp only [Act.apply]; split <;> rfl
@[simp] theorem Act.extend_nvm : ((Act.extend i x).apply s).nvm = s.nvm := by
  simp only [Act.apply]; split <;> rfl
@[simp] theorem Act.extend_ctl : ((Act.extend i x).apply s).ctl = s.ctl := by
  simp only [Act.apply]; split <;> rfl
@[simp] theorem Act.extend_sec : ((Act.extend i x).apply s).sec = s.sec := by
  simp only [Act.apply]; split <;> rfl
@[simp] theorem Act.extend_hkp : ((Act.extend i x).apply s).hkp = s.hkp := by
  simp only [Act.apply]; split <;> rfl
@[simp] theorem Act.extend_pins : ((Act.extend i x).apply s).pins = s.pins := by
  simp only [Act.apply]; split <;> rfl
@[simp] theorem Act.extend_out : ((Act.extend i x).apply s).out = s.out := by
  simp only [Act.apply]; split <;> rfl
@[simp] theorem Act.extend_freeCount : ((Act.extend i x).apply s).freeCount = s.freeCount := by
  simp only [Act.apply]; split <;> rfl
@[simp] theorem Act.extend_pending : ((Act.extend i x).apply s).pending = s.pending := by
  simp only [Act.apply]; split <;> rfl

end

end Sys2Proof.Machine
end

