-- ==== Sys2Proof/Laws/Prog.lean ====
section
/-! SUPPORT. Running a program: one equation per program former, and what a program leaves alone, read off its acts. -/

namespace Sys2Proof.Machine

@[simp] theorem Prog.run_nil (s : State) : Prog.nil.run s = s := rfl
@[simp] theorem Prog.run_act (a : Act) (s : State) : (Prog.act a).run s = a.apply s := rfl
@[simp] theorem Prog.run_seq (p q : Prog) (s : State) : (Prog.seq p q).run s = q.run (p.run s) := rfl
@[simp] theorem Prog.run_dyn (f : State → Prog) (s : State) : (Prog.dyn f).run s = (f s).run s := rfl
@[simp] theorem Prog.run_block_nil (s : State) : (Prog.block []).run s = s := rfl
@[simp] theorem Prog.run_block_cons (p : Prog) (ps : List Prog) (s : State) :
    (Prog.block (p :: ps)).run s = (Prog.block ps).run (p.run s) := rfl
@[simp] theorem Prog.run_guard (c : State → Bool) (p : Prog) (s : State) :
    (Prog.guard c p).run s = if c s then p.run s else s := by
  unfold Prog.guard; simp only [Prog.run_dyn]; split <;> rfl
@[simp] theorem Prog.run_when (c : Bool) (p : Prog) (s : State) :
    (Prog.when c p).run s = if c then p.run s else s := by
  unfold Prog.when; split <;> rfl
@[simp] theorem Prog.run_each_nil {α : Type} (f : α → Prog) (s : State) : (Prog.each [] f).run s = s := rfl
@[simp] theorem Prog.run_each_cons {α : Type} (x : α) (l : List α) (f : α → Prog) (s : State) :
    (Prog.each (x :: l) f).run s = (Prog.each l f).run ((f x).run s) := rfl
@[simp] theorem Prog.run_setReg (off : Nat) (v : Word) (s : State) :
    (Prog.setReg off v).run s = (Act.reg off v).apply s := rfl
@[simp] theorem Prog.run_send (o : Out) (s : State) : (Prog.send o).run s = (Act.out o).apply s := rfl
theorem Prog.run_setFld (f : Fld) (v : Nat) (s : State) :
    (Prog.setFld f v).run s = (Act.reg f.off (putBits (s.reg f.off) f.hi f.lo v)).apply s := rfl
theorem Prog.go_awake (p : Prog) (s : State) (h : s.Awake) : p.go s = p.run s := by
  unfold State.Awake at h; simp [Prog.go, h]
theorem Prog.go_asleep (p : Prog) (s : State) (h : s.ctl.inReset = true) : p.go s = s := by simp [Prog.go, h]

/-! ### What acts a program is made of -/

/-- Every act of the program, whatever states it meets, satisfies `A`. -/
def Prog.Only (A : Act → Prop) : Prog → Prop
  | .nil => True
  | .act a => A a
  | .seq p q => p.Only A ∧ q.Only A
  | .dyn f => ∀ s, (f s).Only A

section
variable {A : Act → Prop}

@[simp] theorem Prog.only_nil : Prog.nil.Only A := trivial
@[simp] theorem Prog.only_act (a : Act) : (Prog.act a).Only A ↔ A a := Iff.rfl
@[simp] theorem Prog.only_seq (p q : Prog) : (Prog.seq p q).Only A ↔ p.Only A ∧ q.Only A := Iff.rfl
@[simp] theorem Prog.only_dyn (f : State → Prog) : (Prog.dyn f).Only A ↔ ∀ s, (f s).Only A := Iff.rfl
@[simp] theorem Prog.only_block_nil : (Prog.block []).Only A := trivial
@[simp] theorem Prog.only_block_cons (p : Prog) (ps : List Prog) :
    (Prog.block (p :: ps)).Only A ↔ p.Only A ∧ (Prog.block ps).Only A := Iff.rfl
theorem Prog.only_ite {c : Prop} [Decidable c] {p q : Prog} (hp : p.Only A) (hq : q.Only A) :
    (if c then p else q).Only A := by split <;> assumption
theorem Prog.only_guard (c : State → Bool) {p : Prog} (h : p.Only A) : (Prog.guard c p).Only A :=
  fun s => Prog.only_ite (c := c s = true) h trivial
theorem Prog.only_when (c : Bool) {p : Prog} (h : p.Only A) : (Prog.when c p).Only A := by
  unfold Prog.when; split
  · exact h
  · trivial
theorem Prog.only_each {α : Type} (l : List α) (f : α → Prog) (h : ∀ x, (f x).Only A) : (Prog.each l f).Only A := by
  induction l with
  | nil => trivial
  | cons x l ih => exact ⟨h x, ih⟩
theorem Prog.only_mono {B : Act → Prop} (hAB : ∀ a, A a → B a) (p : Prog) (h : p.Only A) : p.Only B := by
  induction p with
  | nil => trivial
  | act a => exact hAB a h
  | seq p q hp hq => exact ⟨hp h.1, hq h.2⟩
  | dyn f ih => exact fun s => ih s (h s)

/-- What every act of a program keeps, its run keeps. -/
theorem Prog.run_keeps (Q : State → Prop) (hA : ∀ a s, A a → Q s → Q (a.apply s)) (p : Prog) (h : p.Only A) (s : State)
    (hs : Q s) : Q (p.run s) := by
  induction p generalizing s with
  | nil => exact hs
  | act a => exact hA a s h hs
  | seq p q hp hq => exact hq h.2 _ (hp h.1 s hs)
  | dyn f ih => exact ih s (h s) s hs

/-- Programs of any acts. -/
theorem Prog.only_true (p : Prog) : p.Only (fun _ => True) := by
  induction p with
  | nil => trivial
  | act a => trivial
  | seq p q hp hq => exact ⟨hp, hq⟩
  | dyn f ih => exact fun s => ih s

end

/-- The act writes nothing but the named parts, and of the registers only those at the named offsets. -/
def Act.Within (parts : List Part) (offs : List Nat) : Act → Prop
  | .reg off _ => off ∈ offs
  | .eff _ _ => .eff ∈ parts
  | .mem _ _ => .mem ∈ parts
  | .node _ => .node ∈ parts
  | .lifecycle _ => .lc ∈ parts
  | .fuseVersion _ => .secVersion ∈ parts ∧ .advancesLeft ∈ parts
  | .fuseInitial _ => .secVersion ∈ parts
  | .extend _ _ => .meas ∈ parts
  | .reset _ => False
  | .bus _ => .bus ∈ parts
  | .rws _ => .rwsPend ∈ parts
  | .latch _ => .latches ∈ parts
  | .ing _ => .ing ∈ parts
  | .thk _ => .thk ∈ parts
  | .grv _ => .grv ∈ parts
  | .lyr _ => .lyr ∈ parts
  | .pdl _ => .pdl ∈ parts
  | .sds _ => .sds ∈ parts
  | .apl _ => .apl ∈ parts
  | .fab _ => .fab ∈ parts
  | .tim _ => .tim ∈ parts
  | .cmt _ => .cmt ∈ parts
  | .met _ => .met ∈ parts
  | .dmc _ => .dmc ∈ parts
  | .sram _ => .sram ∈ parts
  | .nvm _ => .nvm ∈ parts
  | .ctl _ => .ctl ∈ parts
  | .sec _ => .sec ∈ parts
  | .hkp _ => .hkp ∈ parts
  | .pins _ => .pins ∈ parts
  | .out _ => .out ∈ parts
  | .free _ => .freeCount ∈ parts

end Sys2Proof.Machine
end

