-- ==== Sys2Proof/Laws/Exec.lean ====
section
/-! SUPPORT. What any command can do: run a program of acts. -/

namespace Sys2Proof.Machine

theorem Prog.go_is_run (p : Prog) (s : State) : ∃ q : Prog, p.go s = q.run s := by
  unfold Prog.go; split
  · exact ⟨.nil, rfl⟩
  · exact ⟨p, rfl⟩

theorem Prog.at_is_run (p : Prog) (off : Nat) (s : State) : ∃ q : Prog, p.at_ off s = q.run s := by
  unfold Prog.at_; split
  · exact ⟨p, rfl⟩
  · exact p.go_is_run s

/-- Every command answers the state that some program of acts leaves. -/
theorem exec_is_run (c : Instr) (s : State) : ∃ p : Prog, exec c s = .next (p.run s) := by
  have go (p : Prog) : ∃ q : Prog, Host.Outcome.next (p.go s) = (.next (q.run s) : Host.Outcome State Fault Refusal) := by
    obtain ⟨q, h⟩ := p.go_is_run s
    exact ⟨q, by rw [h]⟩
  have at_ (p : Prog) (off : Nat) :
      ∃ q : Prog, Host.Outcome.next (p.at_ off s) = (.next (q.run s) : Host.Outcome State Fault Refusal) := by
    obtain ⟨q, h⟩ := p.at_is_run off s
    exact ⟨q, by rw [h]⟩
  cases c <;> first | exact ⟨_, rfl⟩ | exact at_ _ _ | exact go _

end Sys2Proof.Machine
end

