-- ==== Sys2Proof/Laws/Sparse.lean ====
section
/-! SUPPORT. The sparse store: reading after writing, and the canonical form, which every write and every reset keeps. -/

namespace Sys2Proof.Machine

section
variable {n : Nat} (d : Nat → BitVec n)

theorem Sparse.read_write_same (l : List (Nat × BitVec n)) (lo k : Nat) (v : BitVec n)
    (h : Sparse.wfFrom d lo l = true) : Sparse.read d (Sparse.write d l k v) k = v := by
  induction l generalizing lo with
  | nil => simp only [Sparse.write]; split <;> simp_all [Sparse.read]
  | cons p t ih =>
    obtain ⟨a, w⟩ := p
    simp only [Sparse.wfFrom, Bool.and_eq_true, decide_eq_true_eq] at h
    have below : ∀ (u : List (Nat × BitVec n)) (b : Nat), k < b → Sparse.wfFrom d b u = true → Sparse.read d u k = d k := by
      intro u b hb hu
      cases u with
      | nil => rfl
      | cons q u =>
        obtain ⟨c, x⟩ := q
        simp only [Sparse.wfFrom, Bool.and_eq_true, decide_eq_true_eq] at hu
        simp [Sparse.read, show k < c by omega]
    by_cases h1 : k < a
    · by_cases h2 : v = d k <;> simp [Sparse.write, Sparse.read, h1, h2]
    · by_cases h3 : k = a
      · subst h3
        by_cases h2 : v = d k
        · simpa [Sparse.write, h2] using below t (k + 1) (by omega) h.2
        · simp [Sparse.write, Sparse.read, h2]
      · simpa [Sparse.write, Sparse.read, h1, h3] using ih (a + 1) h.2

theorem Sparse.read_write_other (l : List (Nat × BitVec n)) (lo k j : Nat) (v : BitVec n)
    (h : Sparse.wfFrom d lo l = true) (hj : j ≠ k) :
    Sparse.read d (Sparse.write d l k v) j = Sparse.read d l j := by
  induction l generalizing lo with
  | nil =>
    simp only [Sparse.write]
    split
    · rfl
    · by_cases h1 : j < k <;> simp [Sparse.read, hj, h1]
  | cons p t ih =>
    obtain ⟨a, w⟩ := p
    simp only [Sparse.wfFrom, Bool.and_eq_true, decide_eq_true_eq] at h
    have below : ∀ (u : List (Nat × BitVec n)) (b : Nat), j < b → Sparse.wfFrom d b u = true → Sparse.read d u j = d j := by
      intro u b hb hu
      cases u with
      | nil => rfl
      | cons q u =>
        obtain ⟨c, x⟩ := q
        simp only [Sparse.wfFrom, Bool.and_eq_true, decide_eq_true_eq] at hu
        simp [Sparse.read, show j < c by omega]
    by_cases h1 : k < a
    · by_cases h2 : v = d k
      · simp [Sparse.write, h1, h2]
      · by_cases h4 : j < k
        · simp [Sparse.write, Sparse.read, h1, h2, h4, show j < a by omega]
        · simp [Sparse.write, Sparse.read, h1, h2, h4, hj]
    · by_cases h3 : k = a
      · subst h3
        by_cases h2 : v = d k
        · by_cases h4 : j < k
          · simpa [Sparse.write, Sparse.read, h2, h4] using below t (k + 1) (by omega) h.2
          · simp [Sparse.write, Sparse.read, h2, h4, hj]
        · simp [Sparse.write, Sparse.read, h2, hj]
      · simp [Sparse.write, Sparse.read, h1, h3, ih (a + 1) h.2]

theorem Sparse.wfFrom_mono (l : List (Nat × BitVec n)) (lo lo' : Nat) (hl : lo' ≤ lo) (h : Sparse.wfFrom d lo l = true) :
    Sparse.wfFrom d lo' l = true := by
  cases l with
  | nil => rfl
  | cons p t =>
    simp only [Sparse.wfFrom, Bool.and_eq_true, decide_eq_true_eq] at *
    exact ⟨⟨by omega, h.1.2⟩, h.2⟩

theorem Sparse.wfFrom_write (l : List (Nat × BitVec n)) (lo k : Nat) (v : BitVec n) (hk : lo ≤ k)
    (h : Sparse.wfFrom d lo l = true) : Sparse.wfFrom d lo (Sparse.write d l k v) = true := by
  induction l generalizing lo with
  | nil =>
    simp only [Sparse.write]; split
    · rfl
    · rename_i h2; simp [Sparse.wfFrom, hk, h2]
  | cons p t ih =>
    obtain ⟨a, w⟩ := p
    simp only [Sparse.wfFrom, Bool.and_eq_true, decide_eq_true_eq] at h
    obtain ⟨⟨ha, hw⟩, ht⟩ := h
    simp only [Sparse.write]
    split
    · split
      · simp only [Sparse.wfFrom, Bool.and_eq_true, decide_eq_true_eq]; exact ⟨⟨ha, hw⟩, ht⟩
      · rename_i h1 h2
        simp only [Sparse.wfFrom, Bool.and_eq_true, decide_eq_true_eq]
        exact ⟨⟨hk, by simpa using h2⟩, ⟨by omega, hw⟩, ht⟩
    · split
      · split
        · exact Sparse.wfFrom_mono d t (a + 1) lo (by omega) ht
        · rename_i h1 h3 h2
          subst h3
          simp only [Sparse.wfFrom, Bool.and_eq_true, decide_eq_true_eq]
          exact ⟨⟨hk, by simpa using h2⟩, ht⟩
      · rename_i h1 h3
        simp only [Sparse.wfFrom, Bool.and_eq_true, decide_eq_true_eq]
        exact ⟨⟨ha, hw⟩, ih (a + 1) (by omega) ht⟩

/-- A write keeps the canonical form. -/
theorem Sparse.wf_write (l : List (Nat × BitVec n)) (k : Nat) (v : BitVec n) (h : Sparse.wf d l = true) :
    Sparse.wf d (Sparse.write d l k v) = true := Sparse.wfFrom_write d l 0 k v (Nat.zero_le _) h

end

/-! ### Memory -/

theorem Memory.wf_write (m : List Host.Cell) (a : Nat) (b : Byte) (h : Memory.wf m = true) :
    Memory.wf (Memory.write m a b) = true := Sparse.wf_write _ m a b h

theorem Memory.wf_writeBytes (bs : List Byte) (m : List Host.Cell) (a : Nat) (h : Memory.wf m = true) :
    Memory.wf (Memory.writeBytes m a bs) = true := by
  induction bs generalizing m a with
  | nil => exact h
  | cons b bs ih => exact ih _ _ (Memory.wf_write m a b h)

theorem Memory.read_write_same (m : List Host.Cell) (a : Nat) (b : Byte) (h : Memory.wf m = true) :
    Memory.read (Memory.write m a b) a = b := Sparse.read_write_same _ m 0 a b h

theorem Memory.read_write_other (m : List Host.Cell) (a c : Nat) (b : Byte) (h : Memory.wf m = true) (hc : c ≠ a) :
    Memory.read (Memory.write m a b) c = Memory.read m c := Sparse.read_write_other _ m 0 a c b h hc

/-- Outside the bytes written, memory reads as before. -/
theorem Memory.read_writeBytes_outside (bs : List Byte) (m : List Host.Cell) (a c : Nat) (h : Memory.wf m = true)
    (hc : c < a ∨ a + bs.length ≤ c) : Memory.read (Memory.writeBytes m a bs) c = Memory.read m c := by
  induction bs generalizing m a with
  | nil => rfl
  | cons b bs ih =>
    simp only [List.length_cons] at hc
    simp only [Memory.writeBytes]
    rw [ih _ _ (Memory.wf_write m a b h) (by omega), Memory.read_write_other m a c b h (by omega)]

/-- Inside, it reads the bytes written. -/
theorem Memory.read_writeBytes_inside (bs : List Byte) (m : List Host.Cell) (a i : Nat) (h : Memory.wf m = true)
    (hi : i < bs.length) : Memory.read (Memory.writeBytes m a bs) (a + i) = bs[i] := by
  induction bs generalizing m a i with
  | nil => simp at hi
  | cons b bs ih =>
    simp only [Memory.writeBytes]
    cases i with
    | zero =>
      rw [Memory.read_writeBytes_outside bs _ _ _ (Memory.wf_write m a b h) (by omega)]
      exact Memory.read_write_same m a b h
    | succ i =>
      rw [show a + (i + 1) = a + 1 + i by omega]
      exact ih _ _ i (Memory.wf_write m a b h) (by simpa using hi)

/-! ### Registers -/

theorem warmRegs_wfFrom (l : List (Nat × Word)) (lo : Nat) (h : Sparse.wfFrom resetWord lo l = true) :
    Sparse.wfFrom resetWord lo (warmRegs l) = true := by
  induction l generalizing lo with
  | nil => rfl
  | cons p t ih =>
    obtain ⟨a, w⟩ := p
    simp only [Sparse.wfFrom, Bool.and_eq_true, decide_eq_true_eq] at h
    have ht := ih (a + 1) h.2
    simp only [warmRegs, List.filterMap_cons] at ht ⊢
    split
    · exact Sparse.wfFrom_mono _ _ (a + 1) lo (by omega) ht
    · rename_i heq
      split at heq
      · cases heq
      · rename_i hne
        cases heq
        simp only [Sparse.wfFrom, Bool.and_eq_true, decide_eq_true_eq]
        exact ⟨⟨h.1.1, by simpa using hne⟩, ht⟩

/-- A register reads back what a canonical store was given. -/
theorem State.reg_apply_same (s : State) (off : Nat) (v : Word) (h : Sparse.wf resetWord s.regs = true) :
    ((Act.reg off v).apply s).reg off = v := Sparse.read_write_same _ s.regs 0 off v h

/-- Every other register reads as before. -/
theorem State.reg_apply_other (s : State) (off o : Nat) (v : Word) (h : Sparse.wf resetWord s.regs = true) (ho : o ≠ off) :
    ((Act.reg off v).apply s).reg o = s.reg o := Sparse.read_write_other _ s.regs 0 off o v h ho

end Sys2Proof.Machine
end

