-- ==== Sys2Proof/Laws/Frames.lean ====
section
/-! SUPPORT. The frame of a program, read off its acts. -/

namespace Sys2Proof.Machine

theorem Frame.refl (parts : List Part) (offs : List Nat) (s : State) : Frame parts offs s s := by
  refine ⟨fun p _ _ => ?_, fun _ _ => rfl⟩
  cases p <;> simp [Part.Same]

theorem Part.Same.trans {s t u : State} (p : Part) (h : p.Same s t) (g : p.Same t u) : p.Same s u := by
  cases p <;> simp only [Part.Same] at h g ⊢ <;> first | exact g.trans h | exact fun a => (g a).trans (h a)

theorem Frame.trans {parts : List Part} {offs : List Nat} {s t u : State} (h : Frame parts offs s t)
    (g : Frame parts offs t u) : Frame parts offs s u :=
  ⟨fun p hp hr => Part.Same.trans p (h.1 p hp hr) (g.1 p hp hr), fun o ho => (g.2 o ho).trans (h.2 o ho)⟩

/-- An act within the named parts and offsets stays within their frame, and keeps the register store canonical. -/
theorem Act.frame (parts : List Part) (offs : List Nat) (a : Act) (h : a.Within parts offs) (s : State)
    (hs : Sparse.wf resetWord s.regs = true) :
    Sparse.wf resetWord (a.apply s).regs = true ∧ Frame parts offs s (a.apply s) := by
  cases a with
  | reg off v =>
    refine ⟨Sparse.wf_write _ _ _ _ hs, fun p _ hr => ?_, fun o ho => ?_⟩
    · cases p <;> first | exact absurd rfl hr | simp [Part.Same, State.effReg]
    · exact State.reg_apply_other s off o v hs (fun e => ho (e ▸ h))
  | reset w => exact absurd h (by simp [Act.Within])
  | node n => 
    refine ⟨by simpa using hs, fun p hp _ => ?_, fun _ _ => by simp [State.reg]⟩
    cases p <;> first | (exact absurd h hp) | simp [Part.Same, State.reg, State.effReg]
  | fuseVersion v => 
    refine ⟨by simpa using hs, fun p hp _ => ?_, fun _ _ => by simp [State.reg]⟩
    cases p <;> first | (exact absurd h.1 hp) | (exact absurd h.2 hp) | simp [Part.Same, State.reg, State.effReg]
  | _ =>
    refine ⟨by simpa using hs, fun p hp _ => ?_, fun _ _ => by simp [State.reg]⟩
    cases p <;> first | (exact absurd h hp) | simp [Part.Same, State.reg, State.effReg]

/-- The frame of a program whose acts are within the named parts and offsets. -/
theorem Prog.frame (parts : List Part) (offs : List Nat) (p : Prog) (h : p.Only (Act.Within parts offs)) (s : State)
    (hs : Sparse.wf resetWord s.regs = true) :
    Sparse.wf resetWord (p.run s).regs = true ∧ Frame parts offs s (p.run s) :=
  Prog.run_keeps (fun t => Sparse.wf resetWord t.regs = true ∧ Frame parts offs s t)
    (fun a t ha ht => ⟨(Act.frame parts offs a ha t ht.1).1, ht.2.trans (Act.frame parts offs a ha t ht.1).2⟩)
    p h s ⟨hs, Frame.refl parts offs s⟩

/-- The frame of a program that writes no register, in any state. -/
theorem Prog.frame_noRegs (parts : List Part) (p : Prog) (h : p.Only (Act.Within parts [])) (s : State) :
    Frame parts [] s (p.run s) := by
  refine Prog.run_keeps (fun t => Frame parts [] s t) (fun a t ha ht => ht.trans ?_) p h s (Frame.refl parts [] s)
  refine ⟨fun q hq hr => ?_, fun o _ => ?_⟩
  · cases a with
    | reg off v => exact absurd ha (by simp [Act.Within])
    | reset w => exact absurd ha (by simp [Act.Within])
    | fuseVersion v =>
      cases q <;> first
        | exact absurd rfl hr
        | exact absurd ha.1 hq
        | exact absurd ha.2 hq
        | simp [Part.Same, State.effReg]
    | _ => cases q <;> first | exact absurd rfl hr | exact absurd ha hq | simp [Part.Same, State.effReg]
  · cases a with
    | reg off v => exact absurd ha (by simp [Act.Within])
    | reset w => exact absurd ha (by simp [Act.Within])
    | _ => simp [State.reg]

end Sys2Proof.Machine
end

