-- ==== Sys2Proof/Laws/Ops.lean ====
section
/-! SUPPORT. The shared operations of Machine/Ops.lean: for each, the acts it is made of and what its run leaves. -/

namespace Sys2Proof.Machine

section
variable {parts : List Part} {offs : List Nat}

theorem Prog.setReg_only (off : Nat) (v : Word) (h : off ∈ offs) : (Prog.setReg off v).Only (Act.Within parts offs) := h

theorem Prog.setFld_only (f : Fld) (v : Nat) (h : f.off ∈ offs) : (Prog.setFld f v).Only (Act.Within parts offs) :=
  fun _ => h

theorem Prog.setFlag_only (f : Fld) (b : Bool) (h : f.off ∈ offs) : (Prog.setFlag f b).Only (Act.Within parts offs) :=
  Prog.setFld_only f _ h

theorem Prog.count_only (f : Fld) (n : Nat) (h : f.off ∈ offs) : (Prog.count f n).Only (Act.Within parts offs) :=
  fun _ => Prog.setFld_only f _ h

theorem Prog.countWrap_only (f : Fld) (n : Nat) (h : f.off ∈ offs) : (Prog.countWrap f n).Only (Act.Within parts offs) :=
  fun _ => Prog.setFld_only f _ h

theorem Prog.send_only (o : Out) (h : Part.out ∈ parts) : (Prog.send o).Only (Act.Within parts offs) := h

theorem Prog.raiseAt_only (e : Nat) (t : Time) (h : Part.ctl ∈ parts) :
    (Prog.raiseAt e t).Only (Act.Within parts offs) := fun _ => h

theorem Prog.withFree_only (f : Word → Prog) (h : Part.freeCount ∈ parts)
    (hf : ∀ w, (f w).Only (Act.Within parts offs)) : (Prog.withFree f).Only (Act.Within parts offs) :=
  fun _ => ⟨h, hf _⟩

theorem Prog.withFreeStamp_only (f : Time → Prog) (h : Part.freeCount ∈ parts)
    (hf : ∀ t, (f t).Only (Act.Within parts offs)) : (Prog.withFreeStamp f).Only (Act.Within parts offs) :=
  fun _ => ⟨h, hf _⟩

theorem Prog.withRandom_only (n : Nat) (f : List Byte → Prog) (h : Part.freeCount ∈ parts)
    (hf : ∀ l, (f l).Only (Act.Within parts offs)) : (Prog.withRandom n f).Only (Act.Within parts offs) :=
  fun _ => ⟨h, hf _⟩

theorem Prog.raise_only (e : Nat) (h : Part.ctl ∈ parts) (h' : Part.freeCount ∈ parts) :
    (Prog.raise e).Only (Act.Within parts offs) :=
  Prog.withFreeStamp_only _ h' (fun t => Prog.raiseAt_only e t h)

end

/-- What an event leaves beside the sessions' queues and the count of free values. -/
theorem Prog.run_raiseAt_pend (e : Nat) (t : Time) (s : State) :
    ((Prog.raiseAt e t).run s).ctl.pend = pendSet (getBits (s.reg (R.CPX_EV_ROUTE e)) 11 0) e s.ctl.pend := rfl

theorem Prog.run_raise_pend (e : Nat) (s : State) :
    ((Prog.raise e).run s).ctl.pend = pendSet (getBits (s.reg (R.CPX_EV_ROUTE e)) 11 0) e s.ctl.pend := rfl

/-- A hardware load reads back, at the field's width. -/
theorem Prog.run_setFld_same (f : Fld) (v : Nat) (s : State) (hw : Sparse.wf resetWord s.regs = true) (h : f.hi < 32)
    (hl : f.lo ≤ f.hi) : ((Prog.setFld f v).run s).fld f = v % 2 ^ (f.hi + 1 - f.lo) := by
  rw [Prog.run_setFld]
  unfold State.fld
  rw [State.reg_apply_same s _ _ hw, getBits_putBits _ _ _ _ h hl]

/-- A hardware load leaves every field alone that is in another register or does not overlap. -/
theorem Prog.run_setFld_other (f g : Fld) (v : Nat) (s : State) (hw : Sparse.wf resetWord s.regs = true) (h : f.hi < 32)
    (hl : f.lo ≤ f.hi) (hd : g.off ≠ f.off ∨ f.hi < g.lo ∨ g.hi < f.lo) :
    ((Prog.setFld f v).run s).fld g = s.fld g := by
  rw [Prog.run_setFld]
  unfold State.fld
  by_cases ho : g.off = f.off
  · rw [ho, State.reg_apply_same s _ _ hw, getBits_putBits_other _ _ _ _ _ _ h hl (by tauto)]
  · rw [State.reg_apply_other s _ _ _ hw ho]

/-- A register store stays canonical under any program without a reset; see `Prog.frame` for the frame. -/
theorem Prog.run_wf (p : Prog) (s : State) (hw : Sparse.wf resetWord s.regs = true) :
    Sparse.wf resetWord (p.run s).regs = true := by
  refine Prog.run_keeps (fun t => Sparse.wf resetWord t.regs = true) (fun a t _ ht => ?_) p (Prog.only_true p) s hw
  cases a with
  | reg off v => exact Sparse.wf_write _ _ _ _ ht
  | reset w =>
    cases w
    · rfl
    · exact warmRegs_wfFrom _ _ ht
  | _ => simpa using ht

/-- A counter field saturates at its width. -/
theorem Prog.run_count_same (f : Fld) (n : Nat) (s : State) (hw : Sparse.wf resetWord s.regs = true) (h : f.hi < 32)
    (hl : f.lo ≤ f.hi) : ((Prog.count f n).run s).fld f = min (2 ^ (f.hi + 1 - f.lo) - 1) (s.fld f + n) := by
  unfold Prog.count
  rw [Prog.run_dyn, Prog.run_setFld_same f _ s hw h hl, satAdd]
  exact Nat.mod_eq_of_lt (by have := Nat.two_pow_pos (f.hi + 1 - f.lo); omega)

theorem Prog.run_count_other (f g : Fld) (n : Nat) (s : State) (hw : Sparse.wf resetWord s.regs = true) (h : f.hi < 32)
    (hl : f.lo ≤ f.hi) (hd : g.off ≠ f.off ∨ f.hi < g.lo ∨ g.hi < f.lo) :
    ((Prog.count f n).run s).fld g = s.fld g := Prog.run_setFld_other f g _ s hw h hl hd

end Sys2Proof.Machine
end

