-- ==== Sys2Proof/Tests/Slice0.lean ====
section
/-! SUPPORT. The model's own tests: well-formedness, worked examples of the spec, and for every statement with hypotheses
witnesses that meet them, clause by clause. -/

namespace Sys2Proof.Tests
open Sys2Proof Sys2Proof.Machine
set_option Elab.async false

/-- A register store in which only the given fields differ from their reset values. -/
def flds (l : List (Fld × Nat)) : List (Nat × Word) :=
  l.foldl (fun r p => Sparse.write resetWord r p.1.off (putBits (Sparse.read resetWord r p.1.off) p.1.hi p.1.lo p.2)) []

/-- A register store in which only the given words differ from their reset values. -/
def rgs (l : List (Nat × Word)) : List (Nat × Word) := l.foldl (fun r p => Sparse.write resetWord r p.1 p.2) []

theorem range_le {a n l : Nat} (hn : n ≤ l) (h : a + l < 0x1000000000) : rangeInDram a n = true := by
  simp [rangeInDram, inDram]
  omega

theorem out_le {x m l : Nat} : (if decide (x < m ∧ x ≤ l) = true then x else min l (m - 1)) ≤ l := by
  split
  next h => exact (of_decide_eq_true h).2
  next => exact Nat.min_le_left l (m - 1)

theorem getD_of_all {α : Type} {l : List α} {d : α} {P : α → Prop} (h : ∀ x ∈ l, P x) (hd : P d) (i : Nat) : P (l.getD i d) := by
  by_cases hi : i < l.length
  · simpa [List.getD_eq_getElem?_getD, hi] using h _ (List.getElem_mem hi)
  · simpa [List.getD_eq_getElem?_getD, Nat.le_of_not_lt hi] using hd

theorem tapsIdle_of {s : State} (h : ∀ t ∈ s.met.taps, t.armed = false ∧ t.running = false) : s.TapsIdle :=
  fun i => getD_of_all (P := fun t : MetTap => t.armed = false ∧ t.running = false) h ⟨rfl, rfl⟩ i

theorem noGuest_of {s : State} (h : ∀ q ∈ s.fab.ports, q.st ≠ .guestUp) (p : Nat) : (s.port p).st ≠ .guestUp :=
  getD_of_all (P := fun q : Port => q.st ≠ .guestUp) h (by decide) p

theorem noCandidate_of {s : State} {d : Bool} {t : Time} (h : ∀ c ∈ (s.dom d).cands, c = none) (q : Nat) :
    s.isCandidate d q t = false := by
  have hc : (s.dom d).cands.getD q none = none := getD_of_all (P := fun c : Option Candidate => c = none) h rfl q
  unfold State.isCandidate
  rw [hc, Bool.and_false]

theorem unknownType_of {i : Instr}
    (h : (match i with | .gladeUnknownTypePacket _ ty _ => decide (ty.toNat = 0 ∨ 7 < ty.toNat) | _ => true) = true)
    (env : GladeEnv) (ty : Byte) (body : List Byte) (hi : i = .gladeUnknownTypePacket env ty body) :
    ty.toNat = 0 ∨ 7 < ty.toNat := by
  subst hi
  simpa using h

theorem foldZero : ∀ l : List (F32 × F32), (∀ p ∈ l, p = (0, 0)) →
    l.foldl (fun m p => [fmin (m.getD 0 0) p.1, fmax (m.getD 1 0) p.1, fmin (m.getD 2 0) p.2,
      fmax (m.getD 3 0) p.2]) ([0, 0, 0, 0] : List F32) = [0, 0, 0, 0]
  | [], _ => rfl
  | x :: t, h => by
    obtain rfl := h x (by simp)
    exact foldZero t (fun p hp => h p (by simp [hp]))

/-- An all-zero direction table is a good one. -/
theorem zeroTable_ok {s : State} {t : Nat} (hm : s.mem = []) (hp : s.dmc.poison = []) : s.solveFails t 0 0 = false := by
  have hb : ∀ a, s.byteRead a = 0 := fun a => by simp [State.byteRead, hp, hm, Memory.read, Sparse.read, Memory.unlisted]
  have he : ∀ i, s.dirEntry t i = [0, 0, 0, 0, 0, 0] := fun i => by
    simp only [State.dirEntry, State.word32, State.bytes, hb]
    decide +kernel
  have h1 : (List.range 1048576).any (s.badDir t) = false := by
    simp only [List.any_eq_false, State.badDir, he]
    intro _ _
    decide +kernel
  have h2 : (List.range 8192).any (fun b => boundsBad (s.derivedBounds t b)) = false := by
    simp only [List.any_eq_false]
    intro b _
    have x0 : b / 8 % 32 * 32 % 32 = 0 := by omega
    have x1 : (b / 8 % 32 * 32 + 31) % 32 = 31 := by omega
    have y0 : b / 256 * 32 % 32 = 0 := by omega
    have y1 : (b / 256 * 32 + 31) % 32 = 31 := by omega
    suffices h : s.derivedBounds t b = [0, 0, 0, 0] by rw [h]; decide +kernel
    unfold State.derivedBounds
    dsimp only
    generalize hl : List.flatMap (β := F32 × F32) _ _ = l
    have hz : ∀ p ∈ l, p = (0, 0) := fun p hp => by
      subst hl
      unfold RayView.slopes at hp
      simp only [he, x0, x1, y0, y1, List.flatMap_cons, List.flatMap_nil, List.map_const', List.mem_append,
        List.mem_replicate, List.not_mem_nil, or_false] at hp
      rcases hp with ⟨-, rfl⟩ | ⟨-, rfl⟩ | ⟨-, rfl⟩ | ⟨-, rfl⟩ <;> decide +kernel
    match l with
    | [] => rfl
    | a :: r =>
      obtain rfl := hz a (by simp)
      exact foldZero r (fun p hp => hz p (by simp [hp]))
  simp [State.solveFails, h1, h2]


/-! ### Well-formedness and the table's words -/

def illFormedA : List Instr := [
   .coldReset 0x10, .warmReset 0x03 0, .startStepEnd 0 none 0 (0, 0) 1, .startStepEnd 12 none 0 (0, 0) 1, .registerWrite 0 3 0 0,
   .registerWrite 0x10000000 4 0 0, .lockSet 0x1D, .pairLowRead 0 3 0, .pairLowRead 0x10000000 4 0, .counterReadClear 0 0 0,
   .counterReadClear 0x10000000 4 0, .registerAccessTimeout 0x10000000 true, .voteReceive false 4 0 {} 0,
   .cardSet {} [1, 2, 3], .texDefine {} [1], .texUpdate {} [1, 2], .texRelease {} [1], .amend {} [1, 2, 3],
   .gladeUnknownTypePacket {} 9 [1]]

def illFormedB : List Instr := [
   .thkQtailWrite 0 0, .thkQtailWrite 4 0, .thkAbort 0, .thkAbort 4, .thkJobStart 5, .thkJobComplete 5, .stripIssue 128,
   .stripComplete 128 none 0 0, .grovePanicAssert 8, .grvClkWrite 8 0, .confReceive 192 0 0 0 0 true 0, .rectConfTimeout 192 0,
   .echoSend 192 0, .echoReplyReceive 192 0 0 0 0, .driverStatusReceive 192 {} 0 true 0, .driverSilentTimeout 192,
   .latencyCalTimeout 192, .laneEnable 224 0, .laneDisable 224 0, .laneRetrainRequest 224 0, .laneTestWrite 224 0 0 0 0,
   .offsetCalDone 224 0 0, .trainingSetReceive 224 {} false 0 0, .speedSwitch 224 0, .calRunDone 224 {} 0,
   .calRunTimeout 224 0, .noPartnerTimeout 224 0, .laneLockLost 224 0, .feLoopRequest 224 true 0, .feLoopEnd 224 0 0,
   .feLoopRetry 224 0, .flattenDone 8]

def illFormedC : List Instr := [
   .dmcWriteRequest 0 (2 ^ 38) [1] .plain 0, .dmcReadRequest 0 (2 ^ 38) 1 .plain [] 0, .migrationDone 4 [], .scrubRead 64 [] 0,
   .scrubRead (2 ^ 36) [] 0, .refreshDue 4 0 true, .refreshDue 0 3 true, .starveIssue 4 0 0, .starveIssue 0 16 0,
   .mr4Read 4 0, .dqsTrack 4 0 0 0, .dqsTrack 0 3 0 0, .dqsTrack 0 0 10 0, .zqCalibration 4, .rankRetrainingDone 4 0 true true 0,
   .rankRetrainingDone 0 3 true true 0, .coordOfferReceive 6 0 0 0, .packetForward 7 {} 0 0, .ackReceive 6 0 0,
   .nakReceive 6 0 0 0, .ackTimeout 6 0, .creditReceive 6 0 0 0, .creditAdvertise 6, .linkDownReport 6 0,
   .badPacketReceive 6 {} .crc, .guestAssignReceive 3 0 0 0, .announceReceive 4 {} 0, .exchReqReceive 4 false 0 0 0,
   .exchRespReceive 4 false 0 0 0 0, .captureEdge 9 true 0, .captureRead 9, .genSegReceive 13 0 [] false]

def illFormedD : List Instr := [
   .csiFrameStart 4 true 0, .csiLinePacket 4 0 true true false [], .csiFrameEnd 4 true 0, .testFrameStart 4 0, .tapArm 4,
   .expSetGo 4, .calPattern {} [] 0 [], .calPattern {} (List.replicate 8 []) 0 [], .acWatchdogExpire 8 0,
   .hkWatchdogExpire 7 0, .hkWatchdogExpire 12 0, .eventClaim 12, .saplingVerify 4 0, .quoteReceive 4 [] [] 0,
   .updateBlockReceive 0 0 64 [], .updateBlockReceive 0 4096 0 [], .updateBlockReceive 0 0 0 [1], .bistDone 9 0 true 0]

/-- One ill-formed command for each check of `Instr.wf`. -/
def illFormed : List (List Instr) := [illFormedA, illFormedB, illFormedC, illFormedD]

theorem test_wf_refuses : illFormed.all (fun l => l.all (fun c => !c.wf)) = true := by decide +kernel

theorem test_wf_refuses_crcs : (Instr.updateOfferRelayReceive 0 [] (List.replicate 4097 0) 0).wf = false := by
  show decide ((List.replicate 4097 (0 : Word)).length ≤ 4096) = false
  rw [List.length_replicate]
  decide

theorem test_wf_accepts :
    [Instr.coldReset 0x03, .warmReset 0x14 0, .startStepEnd 11 none 0 (0, 0) 1, .registerWrite 0x0FFFFFFC 8 0 0, .laneEnable 223 0,
     .echoSend 191 0, .stripIssue 127, .creditAdvertise 5, .guestAssignReceive 4 0 0 0, .captureRead 8, .cardSet {} [1, 2, 3, 4],
     .refreshDue 3 2 true].all Instr.wf = true := by decide +kernel

theorem test_words_spell_nothing : decodeTableWord 32 0x10241039 = none := rfl

/-! ### Worked examples of the spec -/

/-- Chapter 00: CPX_DEVICE_ID reads 0x1024_1039. -/
theorem test_device_id : State.reset.readWord R.CPX_DEVICE_ID 0 = 0x10241039 := by decide +kernel

/-- Chapter 02: the check value of CRC-32C over the digits 1 to 9. -/
theorem test_crc32c : crc32c [0x31, 0x32, 0x33, 0x34, 0x35, 0x36, 0x37, 0x38, 0x39] = 0xE3069283 := by decide +kernel

/-- Chapter 20: the registers of a failure of DL100. -/
theorem test_lane_100_registers :
    R.SDS_LCTRL 100 / 0x40 * 0x40 = 0x01802900 ∧ R.CPX_EV_ROUTE 377 = 0x15E4 ∧ R.CPX_EV_PEND 0 11 = 0x202C ∧
    R.CPX_EV_EN 0 11 = 0x302C ∧ R.CPX_EV_CLAIM 0 = 0x3800 := by decide +kernel

/-- R31: FSNs compare as signed 32-bit differences. -/
theorem test_later_fsn :
    laterFsn 0 0xFFFFFFFF = true ∧ laterFsn 5 5 = false ∧ laterFsn 0x7FFFFFFF 0 = true ∧ laterFsn 0 1 = false := by
  decide +kernel

/-- R12, R13: a write where no register is, a write of a reserved encoding, and a write that is taken. -/
theorem test_register_writes :
    (match exec (.registerWrite 0x3FF000 4 5 0) {} with | .next t => decide (t = {}) | _ => false) = true ∧
    (match exec (.registerWrite R.CMT_HOLD_LIMIT 4 0xFFFFFFFF 0) {} with | .next t => decide (t = {}) | _ => false) = true := by
  decide +kernel

/-- Chapter 07: the stages 1 to 5 of the worked example, and the dither offsets of frame 5002. -/
theorem test_colour_stages :
    (rnd (-1966 * 176128 + 68813 * 137216 + -983 * 123904) 16 0 0).w = 136935 ∧ (rnd (136935 * 32112) 15 0 0).w = 134194 ∧
    (rnd (134194 * 33329) 15 0 0).w = 136491 ∧ (rnd (136491 * 33024) 15 0 0).w = 137557 ∧
    (rnd (137557 * 31232) 15 0 0).w = 131109 ∧ ditherSeed 5002 = (10, 122, 3) ∧
    (131109 * 1073480 + 180 * 2 ^ 20) / 2 ^ 28 = 0x20D := by decide +kernel

/-- Chapter 08: the diagonal copy overlaps and is allowed; with destination pitch 60 or a pitch of 16 it is refused. -/
theorem test_blitter_overlap :
    (let r (p x : Nat) : BltRect := { base := 0, pitch := p, x := x, y := x, w := 3, h := 3, fmt := 0 }
     State.bltCheck {} .copy (r 64 2) (r 64 3) = 0 ∧ State.bltCheck {} .copy (r 64 2) (r 60 3) = 5 ∧
     State.bltCheck {} .copy (r 16 2) (r 16 3) = 5) := by decide +kernel

/-- Chapter 13: the first exchange on the N port of node (12, 7). -/
theorem test_exchange :
    exchD 768000000000 768000006640 768000083440 768000089984 = 6592 ∧
    exchTheta 768000000000 768000006640 768000083440 768000089984 80 = 32 := by decide +kernel

/-- Chapter 14: rows of Table 1.8: a trigger, a release with and without a commit, the hold limit, a count at its end. -/
theorem test_screen_table :
    screenTable .show 0 true true false false 2 = (.slate, 0) ∧ screenTable .slate 3 true false true false 2 = (.show, 0) ∧
    screenTable .slate 3 false false true false 2 = (.dark, 4) ∧ screenTable .hold 1 false false false false 2 = (.hold, 2) ∧
    screenTable .hold 2 false false false false 2 = (.dark, 3) ∧
    screenTable .dark 1023 false false false true 2 = (.dark, 1023) := by decide +kernel

/-- Chapter 12: a node in the grid's corner has no partner to its west and north, and a key for each of its links. -/
theorem test_offers :
    offerFor 0x1414 1 = 0x1494 ∧ offerFor 0x1414 0 = 0x1413 ∧ offerFor 0 0 = 0xFFFF ∧ offerFor 0 3 = 0xFFFF := by
  decide +kernel

/-- Table 18.2: the life cycle skips no state and never goes back. -/
theorem test_life_cycle :
    lcMove .raw .test = true ∧ lcMove .raw .field = false ∧ lcMove .field .provisioned = false ∧
    lcMove .retired .field = false ∧ lcMove .provisioned .retired = false := by decide +kernel

/-- R16, R486: a cold reset of a node in FAULT leaves a SAPLING, the cause and the fuses. -/
theorem test_cold_reset :
    (match exec (.coldReset 2) { node := .fault, lc := .field } with
     | .next t => decide (t.node = .sapling ∧ t.lc = .field ∧ t.fld F.CPX_RESET_CAUSE_CAUSE = 2)
     | _ => false) = true := by decide +kernel

/-- R250: a write of memory; reading it gives its bytes. -/
theorem test_memory_write :
    (match exec (.dmcWriteRequest 0x12 126 [7, 8, 9] .plain 0) {} with
     | .next t => decide (Memory.readBytes t.mem 125 5 = [0, 7, 8, 9, 0])
     | _ => false) = true := by decide +kernel

/-- An empty queue idles; the front command runs on the rest. -/
theorem test_step :
    (match step {} with | .next t => decide (t = {}) | _ => false) = true ∧
    (match step { pending := [.reclaimDone, .powerOn] } with
     | .next t => decide (t = { pending := [.powerOn] }) | _ => false) = true := by
  decide +kernel

/-! ### Witnesses: for each statement with hypotheses, states and operands that meet them, clause by clause -/

namespace Whole

theorem StepRunsFrontCommand_witness :
    (∃ (c : Instr) (rest : List Instr) (s : State), s.pending = c :: rest) ∧ ∃ s : State, s.pending = [] :=
  ⟨⟨.powerOn, [.reclaimDone], { pending := [.powerOn, .reclaimDone] }, rfl⟩, {}, rfl⟩

theorem StepKeepsInvariant_witness :
    ∃ s t : State, s.Inv ∧ s.meas.length = 16 ∧ step s = .next t ∧ s ≠ t :=
  ⟨{ pending := [.freqChangeRequest true] }, _, by unfold State.Inv; decide +kernel, by decide +kernel, rfl,
   by decide +kernel⟩

theorem IslandsHeldInReset_witness :
    ∃ (c : Instr) (s : State), s.ctl.inReset = true ∧ aonCommand c = false :=
  ⟨.freqChangeRequest true, { ctl := { inReset := true } }, by decide +kernel⟩

end Whole

namespace Registers

def offsAll : List Nat := [0x0, 0x4, 0x10, 0x100000, 0x200000, 0x300000, 0x300004, 0x400000, 0x500000, 0x500004,
    0x500100, 0x600000, 0x600104, 0x600108, 0x700000, 0x700010, 0x700014, 0x700018, 0x70001c, 0x800000, 0x800004,
    0x800010, 0x900000, 0x900100, 0xA00000, 0xA00004, 0xB00010, 0xC00000, 0x1300000, 0x1300004, 0x1300010,
    0x1400000, 0x1400100, 0x1500000, 0x1600000, 0x1600104, 0x1700004, 0x1800000, 0x1801020, 0x1900000, 0x1900010,
    0x1A00000, 0x1A00100, 0x1A00104, 0x1A00300, 0x1A00304, 0x1B00000, 0x1B00004, 0x1B00008, 0x1C00000, 0x1C00004,
    R.ING_STREAM, R.ING_SOURCE, R.CMT_HOLD_LIMIT, R.HKP_TEMP_MAX, R.ING_EPOCH_C, R.ING_FOREIGN_COUNT,
    R.DMC_UE_ADDR_LO, R.LYR_PIN_FAULT_LO, R.MEM_COLLIDE_LO, R.CPX_BUS_ERR, R.CPX_BUS_ERR_COUNT, R.CMT_T_SCENE,
    R.COL_LIMIT_START, R.CPX_EV_ROUTE 5, R.CPX_EV_CLAIM 3, R.TIM_CAP_NS 2, R.TIM_NOW_NS, R.SEC_UID 1,
    R.SEC_EXT_DATA 3, R.SEC_ATTEST_FAIL, R.GRV_PITCH, R.LYR_DESC0 3, R.LYR_DESC0 3 + 52, R.APL_REQ_RECT,
    R.PDL_CTRL, R.PDL_CTRL+4, R.PDL_CTRL+8, R.PDL_CTRL + 12]

namespace StrayAccessesDoNothing

def states : List State := [{}, {ctl := {inReset := true}}]

/-- Witnesses of the hypotheses of StrayAccessesDoNothing. -/
theorem witness :
    (∃ (off : Nat) (size : Nat),
      (findReg off = none ∨ off % 4 ≠ 0 ∨ size ≠ 4)) ∧
    (∃ (s : State) (off : Nat) (size : Nat) (stamp : Time) (c : Instr),
      (findReg off = none ∨ off % 4 ≠ 0 ∨ size ≠ 4) ∧ s.Reachable off ∧ c ∈ [Instr.pairLowRead off size stamp,
      Instr.counterReadClear off size stamp]) :=
  ⟨⟨0x0, 0x0, by decide +kernel⟩,
   ⟨(states.getD 0 {}), 0x0, 0x0, 5,
       Instr.pairLowRead (0x0) (0x0) (5), by unfold State.Reachable State.Awake; decide +kernel⟩⟩

end StrayAccessesDoNothing

namespace ReservedEncodingDiscarded

def states : List State := [{}]

/-- Witnesses of the hypotheses of ReservedEncodingDiscarded. -/
theorem witness :
    (∃ (off : Nat) (v : Word) (row : RegRow),
      findReg off = some row ∧ reservedWrite row v = true) :=
  ⟨((offsAll).getD 1 0), 0xFFFFFFFF, (findReg (((offsAll).getD 1 0))).get (by decide +kernel), by decide +kernel⟩

end ReservedEncodingDiscarded

namespace WritesFollowAccessCodes

def states : List State := [{}, {lc := .test}, {ctl := {inReset := true}}, {regs := rgs [(0x0, 0x10000), (R.FAB_CTRL, 2), (R.TIM_CTRL, 0x100), (R.CMT_CTRL, 0x100), (R.SDS_CTRL, 0x100), (R.PDL_CTRL, 3), (0x1400000, 0x100), (0xA00000,2), (R.ING_ERR_INFO, 0xFFFFFFFF), (R.CPX_FAULT_RESTART, 0x10000)]}]

/-- Witnesses of the hypotheses of WritesFollowAccessCodes. -/
theorem witness :
    (∃ (s : State) (off : Nat) (v : Word) (row : RegRow) (f : FldRow),
      s.Inv ∧ s.Reachable off ∧ findReg off = some row ∧ off % 4 = 0 ∧ plainRegister off = true ∧
      reservedWrite row v = false ∧ s.windowReserved off v = false ∧ f ∈ row.flds) :=
  ⟨(states.getD 0 {}), ((offsAll).getD 0 0), 0xFFFFFFFF, (findReg (((offsAll).getD 0 0))).get (by decide +kernel),
      (((findReg (((offsAll).getD 0 0))).get (by decide +kernel)).flds)[0]'(by decide +kernel), by unfold State.Inv State.Reachable State.Awake; decide +kernel⟩

end WritesFollowAccessCodes

namespace StartAccessesAreCommands

def states : List State := [{}, {lc := .test}, {ctl := {inReset := true}}, {ctl := {cpxRestarts := [1,2]}}, {regs := flds [(F.HKP_CTRL_BIST_EN, 0)]}]

/-- Witnesses of the hypotheses of StartAccessesAreCommands. -/
theorem witness :
    (∃ (v : Word),
      getBits v 31 16 = 0x5A5A ∧ getBits v 1 0 = 1) ∧
    (∃ (v : Word),
      getBits v 31 16 = 0x5A5A ∧ getBits v 1 0 = 2) ∧
    (∃ (v : Word),
      480 ≤ getBits v 9 0 ∧ getBits v 9 0 < 640) ∧
    (∃ (v : Word),
      bitOf v.toNat 8 = true) ∧
    (∃ (v : Word),
      bitOf v.toNat 0 = true) ∧
    (∃ (ch : Nat),
      ch < 9) ∧
    (∃ (core : Nat),
      core < 12) :=
  ⟨⟨0x5A5A0001, by decide +kernel⟩,
   ⟨0x5A5A0002, by decide +kernel⟩,
   ⟨480, by decide +kernel⟩,
   ⟨0x101, by decide +kernel⟩,
   ⟨0x5A5A0001, by decide +kernel⟩,
   ⟨0, by decide +kernel⟩,
   ⟨0, by decide +kernel⟩⟩

end StartAccessesAreCommands

namespace ReadsAnswerAndAct

def states : List State := [{}, {regs := rgs [(R.DMC_UE_ADDR_LO, 5), (R.HKP_TEMP_MAX, 77), (R.CPX_BUS_ERR_COUNT,3), (R.ING_FOREIGN_COUNT,3), (R.LYR_PIN_FAULT_LO, 7), (R.LYR_PIN_FAULT_HI, 3)]}]

/-- Witnesses of the hypotheses of ReadsAnswerAndAct. -/
theorem witness :
    (∃ (s : State) (off : Nat) (stamp : Time) (row : RegRow) (c : Instr),
      s.Inv ∧ findReg off = some row ∧ off % 4 = 0 ∧ s.Reachable off ∧ c ∈ [Instr.pairLowRead off 4 stamp,
      Instr.counterReadClear off 4 stamp] ∧ runsBetween off = false ∧ off ∉ [R.TIM_NOW_NS, R.TIM_PARENT,
      R.APL_STATUS, R.APL_TEMP] ∧ (∀ ch, ch < 9 → off ≠ R.TIM_CAP_NS ch) ∧ (∀ k, k < 12 → off ≠ R.CPX_EV_CLAIM k)) ∧
    (∃ (s : State) (off : Nat) (stamp : Time) (row : RegRow) (c : Instr),
      s.Inv ∧ findReg off = some row ∧ off % 4 = 0 ∧ s.Reachable off ∧ c ∈ [Instr.pairLowRead off 4 stamp,
      Instr.counterReadClear off 4 stamp] ∧ runsBetween off = true) ∧
    (∃ (s : State) (off : Nat) (stamp : Time) (row : RegRow) (c : Instr),
      s.Inv ∧ findReg off = some row ∧ off % 4 = 0 ∧ s.Reachable off ∧ c ∈ [Instr.pairLowRead off 4 stamp,
      Instr.counterReadClear off 4 stamp] ∧ off = R.TIM_PARENT) ∧
    (∃ (s : State) (off : Nat) (stamp : Time) (row : RegRow) (c : Instr),
      s.Inv ∧ findReg off = some row ∧ off % 4 = 0 ∧ s.Reachable off ∧ c ∈ [Instr.pairLowRead off 4 stamp,
      Instr.counterReadClear off 4 stamp] ∧ (off = R.APL_STATUS ∨ off = R.APL_TEMP)) ∧
    (∃ (s : State) (off : Nat) (row : RegRow),
      s.Inv ∧ findReg off = some row ∧ off % 4 = 0 ∧ s.Reachable off ∧ s.Awake) :=
  ⟨⟨(states.getD 0 {}), 0, 5, (findReg (0)).get (by decide +kernel),
      Instr.pairLowRead (0) 4 (5), by unfold State.Inv State.Reachable State.Awake; decide +kernel⟩,
   ⟨(states.getD 0 {}), R.DMC_PANIC_CYCLES, 5, (findReg (R.DMC_PANIC_CYCLES)).get (by decide +kernel),
       Instr.pairLowRead (R.DMC_PANIC_CYCLES) 4 (5), by unfold State.Inv State.Reachable State.Awake; decide +kernel⟩,
   ⟨(states.getD 0 {}), R.TIM_PARENT, 5, (findReg (R.TIM_PARENT)).get (by decide +kernel),
       Instr.pairLowRead (R.TIM_PARENT) 4 (5), by unfold State.Inv State.Reachable State.Awake; decide +kernel⟩,
   ⟨(states.getD 0 {}), R.APL_STATUS, 5, (findReg (R.APL_STATUS)).get (by decide +kernel),
       Instr.pairLowRead (R.APL_STATUS) 4 (5), by unfold State.Inv State.Reachable State.Awake; decide +kernel⟩,
   ⟨(states.getD 0 {}), 0,
       (findReg (0)).get (by decide +kernel), by unfold State.Inv State.Reachable State.Awake; decide +kernel⟩⟩

end ReadsAnswerAndAct

namespace RegisterEventsReported

def states : List State := [{}, {regs := rgs [(R.CPX_BUS_ERR_COUNT,0xFFFF), (R.CPX_BUS_ERR, 5)], ctl := {pend := (1#7680 <<< 5) ||| (1#7680 <<< 643)}},
{regs := rgs [(R.CPX_EV_EN 0 0,0xFFFFFFFF), (R.CPX_EV_EN 1 0, 0xFFFFFFF0),(R.CPX_EV_EN 11 19, 0xFFFFFFFF)], ctl := {pend := (1#7680 <<< 5) ||| (1#7680 <<< 643)||| (1#7680 <<< 644)||| (1#7680 <<< 7679)}}]

/-- Witnesses of the hypotheses of RegisterEventsReported. -/
theorem witness :
    (∃ (s : State) (off : Nat),
      s.Inv ∧ s.Awake ∧ off < 2 ^ 28) ∧
    (∃ (s : State) (block : Nat) (r : Nat) (b : Nat),
      s.Inv ∧ s.Awake ∧ block ≠ 0x14 ∧ lockBit block = some (r, b)) ∧
    (∃ (s : State) (core : Nat) (e : Nat),
      s.Inv ∧ s.Awake ∧ core < 12 ∧ s.claimable core = some e) ∧
    (∃ (s : State) (core : Nat),
      s.Inv ∧ s.Awake ∧ core < 12 ∧ s.claimable core = none) ∧
    (∃ (s : State) (e : Nat),
      s.Inv ∧ s.Awake ∧ 480 ≤ e ∧ e < 640) ∧
    (∃ (s : State),
      s.Inv ∧ s.Awake ∧ s.meas.length = 16) :=
  ⟨⟨(states.getD 0 {}), 0, by unfold State.Inv State.Awake; decide +kernel⟩,
   ⟨(states.getD 0 {}), 2, ((lockBit 2).get (by decide +kernel)).1,
       ((lockBit 2).get (by decide +kernel)).2, by unfold State.Inv State.Awake; decide +kernel⟩,
   ⟨(states.getD 2 {}), 0, 5, by unfold State.Inv State.Awake; decide +kernel⟩,
   ⟨(states.getD 0 {}), 0, by unfold State.Inv State.Awake; decide +kernel⟩,
   ⟨(states.getD 0 {}), 480, by unfold State.Inv State.Awake; decide +kernel⟩,
   ⟨(states.getD 0 {}), by unfold State.Inv State.Awake; decide +kernel⟩⟩

end RegisterEventsReported

end Registers

namespace Resets

def tp : BootPtr := { active := 1, trial := true, attempts := 2, fallback := 0 }
def cp : BootPtr := { active := 1, activeId := 77 }
def oneMin : Int := 256*1000000000*60

namespace ColdResets

def states : List State := [{}, {hkp := {tripped := true}}]

/-- Witnesses of the hypotheses of ColdResets. -/
theorem witness :
    (∃ (cause : Byte),
      1 ≤ cause.toNat ∧ cause.toNat ≤ 3) ∧
    (∃ (n : Nat),
      n < 1000) ∧
    (∃ (s : State) (n : Nat),
      1000 ≤ n ∧ s.hkp.tripped = false) ∧
    (∃ (s : State) (n : Nat),
      1000 ≤ n ∧ s.hkp.tripped = true) ∧
    (∃ (s : State),
      s.hkp.tripped = true) ∧
    (∃ (s : State),
      s.hkp.tripped = false) :=
  ⟨⟨1, by decide +kernel⟩,
   ⟨999, by decide +kernel⟩,
   ⟨(states.getD 0 {}), 1000, by decide +kernel⟩,
   ⟨(states.getD 1 {}), 1000, by decide +kernel⟩,
   ⟨(states.getD 1 {}), by decide +kernel⟩,
   ⟨(states.getD 0 {}), by decide +kernel⟩⟩

end ColdResets

namespace WarmResets

def states : List State := [{}, {node := .fault, regs := flds [(F.CPX_FAULT_RESTART_SEC, 5), (F.HKP_CTRL_BIST_EN, 0), (F.SEC_ATTEST_FAIL_CODE,3)]}, 
  {ctl := {cpxRestarts := [1,2]}, regs := flds [(F.HKP_CTRL_BIST_EN, 0)]}, {hkp := {bist := some 3, bistWarm := some 0x10}}]

/-- Witnesses of the hypotheses of WarmResets. -/
theorem witness :
    (∃ (s : State) (cause : Byte),
      s.Inv ∧ s.Awake ∧ 0x10 ≤ cause.toNat ∧ cause.toNat ≤ 0x14) ∧
    (∃ (s : State) (core : Nat),
      s.Inv ∧ s.Awake ∧ 8 ≤ core ∧ core < 12) ∧
    (∃ (s : State) (stamp : Time),
      s.Inv ∧ s.Awake ∧ s.node = .fault ∧ s.fld F.CPX_FAULT_RESTART_SEC ≠ 0 ∧ inLastHour s.ctl.warmResets stamp < 3) ∧
    (∃ (s : State),
      s.Inv ∧ s.Awake ∧ s.hkp.bist = none ∧ s.flag F.HKP_CTRL_BIST_EN = false) ∧
    (∃ (s : State) (temp : BitVec 16) (c : BitVec 8),
      s.Inv ∧ s.Awake ∧ s.hkp.bist = some temp ∧ s.hkp.bistWarm = some c ∧ s.hkp.pwrOff = false) ∧
    (∃ (s : State) (stamp : Time),
      s.Inv ∧ s.Awake ∧ 2 ≤ inLastHour s.ctl.cpxRestarts stamp) ∧
    (∃ (s : State) (stamp : Time) (core : Nat),
      s.Inv ∧ s.Awake ∧ core < 8 ∧ 2 ≤ inLastHour s.ctl.cpxRestarts stamp) :=
  ⟨⟨(states.getD 0 {}), 0x10, by unfold State.Inv State.Awake; decide +kernel⟩,
   ⟨(states.getD 0 {}), 8, by unfold State.Inv State.Awake; decide +kernel⟩,
   ⟨(states.getD 1 {}), 5, by unfold State.Inv State.Awake; decide +kernel⟩,
   ⟨(states.getD 1 {}), by unfold State.Inv State.Awake; decide +kernel⟩,
   ⟨(states.getD 3 {}), 3, 0x10, by unfold State.Inv State.Awake; decide +kernel⟩,
   ⟨(states.getD 2 {}), 5, by unfold State.Inv State.Awake; decide +kernel⟩,
   ⟨(states.getD 2 {}), 5, 0, by unfold State.Inv State.Awake; decide +kernel⟩⟩

end WarmResets

namespace RestartsWithinTheHour

def states : List State := [{}, {node := .fault, regs := flds [(F.CPX_FAULT_RESTART_SEC, 5)], ctl := {warmResets := [1,2,3]}}, 
  {ctl := {restarting := true}, sec := {upd := .armed, trialFrom := some 3}}, {cmt := {armed := some (3,4)}}]

/-- Witnesses of the hypotheses of RestartsWithinTheHour. -/
theorem witness :
    (∃ (s : State) (stamp : Time),
      (s.node ≠ .fault ∨ s.fld F.CPX_FAULT_RESTART_SEC = 0 ∨ 3 ≤ inLastHour s.ctl.warmResets stamp)) ∧
    (∃ (s : State) (stamp : Time),
      s.Awake ∧ inLastHour s.ctl.cpxRestarts stamp < 2 ∧ s.ctl.sessions = []) ∧
    (∃ (s : State) (stamp : Time) (core : Nat),
      s.Awake ∧ inLastHour s.ctl.cpxRestarts stamp < 2 ∧ s.ctl.sessions = [] ∧ core < 8) ∧
    (∃ (s : State),
      s.Awake ∧ s.ctl.restarting = true) ∧
    (∃ (s : State) (stamp : Time) (a : Fsn × BitVec 32),
      s.Awake ∧ s.cmt.armed = some a ∧ inLastHour s.ctl.cpxRestarts stamp < 2 ∧ s.ctl.sessions = []) :=
  ⟨⟨(states.getD 0 {}), 5, by decide +kernel⟩,
   ⟨(states.getD 0 {}), 5, by unfold State.Awake; decide +kernel⟩,
   ⟨(states.getD 0 {}), 5, 0, by unfold State.Awake; decide +kernel⟩,
   ⟨(states.getD 2 {}), by unfold State.Awake; decide +kernel⟩,
   ⟨(states.getD 3 {}), 5,
       (((states.getD 3 {})).cmt.armed).get (by decide +kernel), by unfold State.Awake; decide +kernel⟩⟩

end RestartsWithinTheHour

namespace TrialFallsBack

def states : List State := [{sec := {upd := .trial, ptrs := [tp.bytes, []]}}, {sec := {upd := .trial, ptrs := [[], ({tp with trial := false} : BootPtr).bytes]}, regs := rgs [(0x100030, 1)]},
  {sec := {upd := .trial, ptrs := [[], ({tp with trial := false} : BootPtr).bytes], slots := [{verified := true}, {}]}},
  {nvm := {ptrFail := true}, sec := {upd := .trial, ptrs := [[], ({tp with trial := false} : BootPtr).bytes], slots := [{verified := true}, {}]}}]

/-- Witnesses of the hypotheses of TrialFallsBack. -/
theorem witness :
    (∃ (s : State) (p : BootPtr),
      s.Awake ∧ s.sec.upd = .trial ∧ s.ptr = some p) :=
  ⟨(states.getD 0 {}), tp, by unfold State.Awake; decide +kernel⟩

end TrialFallsBack

namespace StartSteps

def states : List State := [{ctl := {started := [1,4,6]}}, {lc := .field, ctl := {started := [5,9], ended := [1,2,3]}},
  {lc := .field, ctl := {started := [2,8,10,11], ended := [1,2,3]}},
       {node := .member, lc := .field, regs := flds [(F.APL_STATUS_RESTORED, 1)], ctl := {started := [2,8,10,11], ended := [1,2,3]}},
  {lc := .field, ctl := {started := [11], ended := [1,2,3,4,5,6,7,8,9,10], stepMs := [(1,3)]}}, {lc := .field, ctl := {started := [5], ended := [1,2,3,4]}}, {lc := .field, ctl := {started := [10], ended := [1,2,3,4,7,8]}}]

/-- Witnesses of the hypotheses of StartSteps. -/
theorem witness :
    (∃ (s : State) (step : Nat),
      s.Inv ∧ s.Awake ∧ step ∈ [1, 2, 5, 8, 9, 10, 11] ∧ s.stepMayEnd step = true ∧
      (4 ∉ s.ctl.ended ∨ 6 ∉ s.ctl.ended ∨ 7 ∈ s.ctl.started ∨ 7 ∈ s.ctl.ended)) ∧
    (∃ (s : State) (step : Nat) (f : StepFail),
      s.Inv ∧ s.Awake ∧ step ∈ s.ctl.started ∧ s.NoTrial ∧ (s.node = .sapling ∨ s.node = .member) ∧ step ∈ [4, 5,
      6, 8, 9, 10, 11] ∧ f.code ≠ 0x0B03) ∧
    (∃ (s : State) (step : Nat) (f : StepFail),
      s.Inv ∧ s.Awake ∧ step ∈ s.ctl.started ∧ s.NoTrial ∧ (s.node = .sapling ∨ s.node = .member) ∧ step ≤ 11 ∧
      f.code = 0x0B03 ∧ s.flag F.HKP_FAULT_VALID = false) :=
  ⟨⟨(states.getD 1 {}), 9, by unfold State.Inv State.Awake; decide +kernel⟩,
   ⟨(states.getD 0 {}),
       4, {code := 0x0B21, detail := 7}, by unfold State.Inv State.NoTrial State.Awake; decide +kernel⟩,
   ⟨(states.getD 0 {}),
       4, {code := 0x0B03, item := 5, detail := 0x12345}, by unfold State.Inv State.NoTrial State.Awake; decide +kernel⟩⟩

end StartSteps

namespace HousekeepingRounds

def rd (r : BitVec 16) : List (BitVec 16) := [r, 720,800,800,850,850,1200,1100,1800,3300,600]
def states : List State := [{}, {hkp := {channel := 15, round := [1]}}, {hkp := {channel := 11, round := rd 400}}, {hkp := {channel := 11, round := rd 1700}, regs := rgs [(0x20000C, 5), (0x200010, 0xFFFFFFFF)]},
 {hkp := {channel := 11, round := rd 1759, diode := some 1700, implausible := true, hotRun := 2, over3 := 0, over6 := 0xFFFF, invalidRound := true, maxFresh := false}},
  {hkp := {channel := 11, round := rd 1759, diode := some 1700, implausible := true, hotRun := 2, over3 := 0, over6 := 0xFFFF, invalidRound := true, maxFresh := false}, ctl := {inReset := true}},
  {hkp := {channel := 11, round := (rd 1759).set 3 848}, pdl := {lanes := List.replicate 3 {}}, sds := {lanes := List.replicate 224 {st := .active}}},
 {hkp := {channel := 14, round := rd 3}}]

/-- Witnesses of the hypotheses of HousekeepingRounds. -/
theorem witness :
    (∃ (s : State),
      s.Inv ∧ s.hkp.channel < 15 ∧ s.hkp.channel ≠ 11) ∧
    (∃ (s : State),
      s.Inv ∧ s.hkp.channel = 15 ∧ s.hkp.invalidRound = false) ∧
    (∃ (s : State) (v : BitVec 16) (r : BitVec 16),
      s.Inv ∧ s.hkp.channel = 11 ∧ s.hkp.round.getD 0 0 = r ∧ s.hkp.round.length = 11 ∧ r.toInt < 1760 ∧
      roundInvalid (s.hkp.round ++ [v]) = false ∧ s.implausible r = false ∧ (∀ c,
      1 ≤ c → c ≤ 9 → beyond 6 c (s.hkp.round.getD c 0) = false)) :=
  ⟨⟨(states.getD 0 {}), by unfold State.Inv; decide +kernel⟩,
   ⟨(states.getD 1 {}), by unfold State.Inv; decide +kernel⟩,
   ⟨(states.getD 2 {}), 6, 400, by unfold State.Inv; decide +kernel⟩⟩

end HousekeepingRounds

namespace ShutDowns

def states : List State := [{}, {regs := flds [(F.HKP_CTRL_BIST_EN, 0)]}, {hkp := {bist := some 3, pwrOff := true}, sec := {ptrs := [cp.bytes, []]}}, 
 {hkp := {bist := some 3, pwrOff := true, bistWarm := some 4}, sec := {ptrs := [[], cp.bytes]}, sds := {lanes := List.replicate 4 {st := .active}}, pins := {aplOut := [3]}}]

/-- Witnesses of the hypotheses of ShutDowns. -/
theorem witness :
    (∃ (n : Nat),
      n < 1000) ∧
    (∃ (s : State) (n : Nat),
      1000 ≤ n ∧ s.hkp.bist = none ∧ (s.flag F.HKP_CTRL_BIST_EN = false ∨ s.hkp.tripped = true)) ∧
    (∃ (s : State) (n : Nat),
      1000 ≤ n ∧ s.hkp.bist = none ∧ s.flag F.HKP_CTRL_BIST_EN = true ∧ s.hkp.tripped = false) ∧
    (∃ (s : State) (temp : BitVec 16) (p : BootPtr),
      s.Awake ∧ s.hkp.bist = some temp ∧ s.ptr = some p ∧ s.hkp.recs.length = 2 ∧ s.hkp.pwrOff = true) :=
  ⟨⟨0, by decide +kernel⟩,
   ⟨(states.getD 1 {}), 1000, by decide +kernel⟩,
   ⟨(states.getD 0 {}), 1000, by decide +kernel⟩,
   ⟨(states.getD 2 {}), 3, cp, by unfold State.Awake; decide +kernel⟩⟩

end ShutDowns

end Resets

namespace Lanes

def ll (l : List (Nat × Lane)) : List Lane := (List.range 224).map (fun i => (l.lookup i).getD {})
def sd (l : List (Nat × Lane)) : Serial := { lanes := ll l }
def someTs (s2 s3 s4 s5 s6 : Byte) : TrainingSet := { s2 := s2, s3 := s3, s4 := s4, s5 := s5, s6 := s6, check := s2 ^^^ s3 ^^^ s4 ^^^ s5 ^^^ s6 ^^^ 0x5A }
def eye : EyeResult := { ew := 60, eh := 200, ctle := 0xFFFFFFFF, dfe := 0xFFFFFFFF, ofs := 0xFFFFFFFF, rxInv := true }
def eye0 : EyeResult := { ew := 0, eh := 0, ctle := 0, dfe := 1, ofs := 0, rxInv := false }

namespace LanesEnableAndCalibrate

def states : List State := [{}, {lc := .test, sds := sd [(0, {st := .offsetCal, runStart := some 3}), (191, {st := .step}), (192, {st := .trainLow, seen := true}), (223, {st := .failed})]},
  {lc := .returned, sds := { sd [(0, {st := .active}), (191, {st := .failed}), (192, {st := .active}), (193, {st := .active}), (223, {st := .offsetCal, runStart := some 0})] with due := [191, 0], bgRun := some 0}},
  {lc := .test, sds := sd [(0, {st := .test}), (223, {st := .test})], regs := flds [(F.SDS_LCTRL_LOOP 0, 2), (F.SDS_LCTRL_TEST_SPEED 223, 2)]}, {regs := flds [(F.FAB_ROLE_PORT_EN, 1)]}]

/-- Witnesses of the hypotheses of LanesEnableAndCalibrate. -/
theorem witness :
    (∃ (s : State) (i : Nat),
      s.Inv ∧ s.Awake ∧ i < 224 ∧ s.sds.lanes.length = 224 ∧ i < 192 ∧ (s.lane i).st = .off ∧
      s.testFields i = false) ∧
    (∃ (s : State) (i : Nat) (p : Nat),
      s.Inv ∧ s.Awake ∧ i < 224 ∧ s.sds.lanes.length = 224 ∧ laneFabricPort i = some p ∧
      bitOf (s.fld F.FAB_ROLE_PORT_EN) p = false) ∧
    (∃ (s : State) (i : Nat) (p : Nat),
      s.Inv ∧ s.Awake ∧ i < 224 ∧ s.sds.lanes.length = 224 ∧ laneFabricPort i = some p ∧
      bitOf (s.fld F.FAB_ROLE_PORT_EN) p = true ∧ (∀ k ∈ portLanes p, s.testFields k = false)) ∧
    (∃ (s : State) (i : Nat),
      s.Inv ∧ s.Awake ∧ i < 224 ∧ s.sds.lanes.length = 224 ∧ (s.lane i).st ≠ .failed ∧
      ((s.lane i).st ≠ .active ∨ i < 192)) ∧
    (∃ (s : State) (i : Nat) (p : Nat),
      s.Inv ∧ s.Awake ∧ i < 224 ∧ s.sds.lanes.length = 224 ∧ laneFabricPort i = some p ∧ (s.lane i).st = .active) ∧
    (∃ (s : State) (i : Nat),
      s.Inv ∧ s.Awake ∧ i < 224 ∧ s.sds.lanes.length = 224 ∧ (s.lane i).st = .failed) ∧
    (∃ (s : State) (i : Nat) (loop : BitVec 2) (pattern : BitVec 2) (speed : BitVec 2),
      s.Inv ∧ s.Awake ∧ i < 224 ∧ s.sds.lanes.length = 224 ∧ (s.lc = .test ∨ s.lc = .returned) ∧ pattern ≠ 3 ∧
      (loop ≠ 0 ∨ speed ≠ 0) ∧ ((s.lane i).st ∈ [LaneState.offsetCal, .trainLow, .step] ∨ (s.lane i).st = .active ∧
      i < 192)) ∧
    (∃ (s : State) (i : Nat) (loop : BitVec 2) (pattern : BitVec 2) (speed : BitVec 2),
      s.Inv ∧ s.Awake ∧ i < 224 ∧ s.sds.lanes.length = 224 ∧ (s.lc = .test ∨ s.lc = .returned) ∧ pattern ≠ 3 ∧
      loop = 0 ∧ speed = 0 ∧ (s.lane i).st = .test) ∧
    (∃ (s : State) (i : Nat) (pattern : BitVec 2),
      s.Inv ∧ s.Awake ∧ i < 224 ∧ s.sds.lanes.length = 224 ∧ ((s.lc ≠ .test ∧ s.lc ≠ .returned) ∨ pattern = 3)) ∧
    (∃ (s : State) (i : Nat) (stamp : Time) (t0 : Time),
      s.Inv ∧ s.Awake ∧ i < 224 ∧ s.sds.lanes.length = 224 ∧ (s.lane i).st = .offsetCal ∧
      (s.lane i).runStart = some t0 ∧ stamp < t0 + runBound) :=
  ⟨⟨(states.getD 0 {}), 0, by unfold State.Inv State.Awake; decide +kernel⟩,
   ⟨(states.getD 0 {}), 192,
       (laneFabricPort (192)).get (by decide +kernel), by unfold State.Inv State.Awake; decide +kernel⟩,
   ⟨(states.getD 4 {}), 192,
       (laneFabricPort (192)).get (by decide +kernel), by unfold State.Inv State.Awake; decide +kernel⟩,
   ⟨(states.getD 0 {}), 0, by unfold State.Inv State.Awake; decide +kernel⟩,
   ⟨(states.getD 2 {}), 192,
       (laneFabricPort (192)).get (by decide +kernel), by unfold State.Inv State.Awake; decide +kernel⟩,
   ⟨(states.getD 1 {}), 223, by unfold State.Inv State.Awake; decide +kernel⟩,
   ⟨(states.getD 1 {}), 0, 0, 0, 1, by unfold State.Inv State.Awake; decide +kernel⟩,
   ⟨(states.getD 3 {}), 0, 0, 0, 0, by unfold State.Inv State.Awake; decide +kernel⟩,
   ⟨(states.getD 0 {}), 0, 0, by unfold State.Inv State.Awake; decide +kernel⟩,
   ⟨(states.getD 1 {}), 0, 5, 3, by unfold State.Inv State.Awake; decide +kernel⟩⟩

end LanesEnableAndCalibrate

namespace LanesTrain

def states : List State := [{}, {sds := sd [(0, {st := .trainLow, runStart := some 3}), (191, {st := .trainLow, goes := true, speed := 2, rxDone := true}), (192, {st := .trainLow, seen := true, goes := true, rxDone := true}), (223, {st := .trainLow, runStart := some 3, partner := some [0,0,0,0,0]})], regs := flds [(F.HKP_TEMP_T, 500)]},
  {sds := sd [(0, {st := .trainLow, rxDone := true, partner := some [0x20,0xF,9,9,9]}), (191, {st := .trainLow, rxDone := false, runStart := some 4, tsRun := 5000}), (192, {st := .step, seen := true, goes := true, rxDone := true, rxSpeed := 3, speed := 3}), (223, {st := .step, speed := 3, rxSpeed := 3, runStart := some 3, partner := some [0x20, 0xF, 0x3F, 0xFF, 0x67]})], regs := flds [(F.SDS_LCODE_ERR_CODE 0, 0xFFFF),(F.SDS_LCODE_ERR_CODE 191, 0xFFFFFFFF)]},
  {sds := sd [(0, {st := .test, goes := true, runStart := some 3}), (191, {st := .step, speed := 3, rxDone := false, runStart := some 4, partner := some [0x20,0xF,0x3F,0xFF,0]}), (192, {st := .active}), (223, {st := .step, speed := 3, rxNext := some 3, tsRun := 4095, rxDone := true, goes := true, partner := some [0x20, 0xF, 0x3F, 0xFF, 0x67]})], regs := flds [(F.SDS_LCTRL_TEST_SPEED 0, 2)]}]

/-- Witnesses of the hypotheses of LanesTrain. -/
theorem witness :
    (∃ (s : State) (i : Nat) (ts : TrainingSet),
      s.Inv ∧ s.Awake ∧ i < 224 ∧ s.sds.lanes.length = 224 ∧ s.trains i = true ∧ s.NoTrial ∧ ts.check = tsCheck ts) ∧
    (∃ (s : State) (i : Nat),
      s.Inv ∧ s.Awake ∧ i < 224 ∧ s.sds.lanes.length = 224 ∧ s.trains i = true ∧ (s.lane i).goes = true) ∧
    (∃ (s : State) (i : Nat) (stamp : Time) (t0 : Time),
      s.Inv ∧ s.Awake ∧ i < 224 ∧ s.sds.lanes.length = 224 ∧ s.trains i = true ∧ s.NoTrial ∧
      (s.lane i).runStart = some t0 ∧ (s.lane i).adapted = false ∧ stamp < t0 + runBound) ∧
    (∃ (s : State) (i : Nat),
      s.Inv ∧ s.Awake ∧ i < 224 ∧ s.sds.lanes.length = 224 ∧ (s.lane i).st ≠ .off) ∧
    (∃ (s : State) (i : Nat) (ts : TrainingSet),
      s.Inv ∧ s.Awake ∧ i < 224 ∧ s.sds.lanes.length = 224 ∧ ts.check ≠ tsCheck ts ∧ s.trains i = false) ∧
    (∃ (s : State) (i : Nat) (ts : TrainingSet),
      s.Inv ∧ s.Awake ∧ i < 224 ∧ s.sds.lanes.length = 224 ∧ ts.check ≠ tsCheck ts ∧ s.trains i = true ∧
      (s.lane i).rxNext = none ∧ (s.lane i).rxDone = true) ∧
    (∃ (s : State) (i : Nat) (ts : TrainingSet) (t0 : Time),
      s.Inv ∧ s.Awake ∧ i < 224 ∧ s.sds.lanes.length = 224 ∧ ts.check = tsCheck ts ∧ i < 192 ∧
      (s.lane i).st = .trainLow ∧ (s.lane i).rxDone = false ∧ (s.lane i).rxNext = none ∧
      (s.lane i).runStart = some t0 ∧ (s.lane i).adapted = false ∧ (s.lane i).farRun = none ∧
      bitOf ts.s3.toNat 3 = true ∧ bitOf ts.s2.toNat 6 = false) ∧
    (∃ (s : State) (i : Nat) (ts : TrainingSet),
      s.Inv ∧ s.Awake ∧ i < 224 ∧ s.sds.lanes.length = 224 ∧ ts.check = tsCheck ts ∧ i < 192 ∧
      (s.lane i).st = .trainLow ∧ (s.lane i).rxDone = true ∧ (s.lane i).rxNext = none ∧ (s.lane i).goes = false ∧
      (s.lane i).speed = 0 ∧ (s.lane i).farRun = none ∧ bitOf ts.s3.toNat 3 = true ∧ bitOf ts.s3.toNat 1 = true ∧
      bitOf ts.s2.toNat 6 = false ∧ bitOf ts.s2.toNat 5 = true) ∧
    (∃ (s : State) (i : Nat) (stamp : Time) (t0 : Time),
      s.Inv ∧ s.Awake ∧ i < 224 ∧ s.sds.lanes.length = 224 ∧ (s.lane i).st = .trainLow ∧
      (s.lane i).runStart = some t0 ∧ stamp < t0 + runBound ∧ (s.lane i).adapted = false ∧
      (s.lane i).rxDone = false ∧ (s.lane i).partnerDone = false) :=
  ⟨⟨(states.getD 1 {}), 0,
      someTs 0x20 0x0F 0x7F 0xFF 0x63, by unfold State.Inv State.NoTrial State.Awake; decide +kernel⟩,
   ⟨(states.getD 1 {}), 191, by unfold State.Inv State.Awake; decide +kernel⟩,
   ⟨(states.getD 1 {}), 0, 5, 3, by unfold State.Inv State.NoTrial State.Awake; decide +kernel⟩,
   ⟨(states.getD 1 {}), 0, by unfold State.Inv State.Awake; decide +kernel⟩,
   ⟨(states.getD 0 {}), 0, {someTs 0 8 1 2 3 with check := 0}, by unfold State.Inv State.Awake; decide +kernel⟩,
   ⟨(states.getD 1 {}), 191, {someTs 0 8 1 2 3 with check := 0}, by unfold State.Inv State.Awake; decide +kernel⟩,
   ⟨(states.getD 1 {}), 0, someTs 0x20 0x0F 0x7F 0xFF 0x63, 3, by unfold State.Inv State.Awake; decide +kernel⟩,
   ⟨(states.getD 2 {}), 0, someTs 0x20 0x0F 0x7F 0xFF 0x63, by unfold State.Inv State.Awake; decide +kernel⟩,
   ⟨(states.getD 1 {}), 0, 5, 3, by unfold State.Inv State.Awake; decide +kernel⟩⟩

end LanesTrain

namespace LanesFail

def states : List State := [{sds := {sd [(0, {st := .trainLow, runStart := some 3}), (191, {st := .active}), (192, {st := .step, runStart := some 4}), (223, {st := .trainLow, runStart := some 3})] with bgRun := some 0, due := [191], firstTs := [some 1, none, none, none, none, some 2]}},
  {node := .member, cmt := {screen := .show}, sds := {sd [(0, {st := .offsetCal}), (191, {st := .step, rxDone := false, farRun := some 4}), (192, {st := .step, seen := true, runStart := some 4}), (193, {st := .active}), (223, {st := .step, seen := true})] with firstTs := [some 1, none, none, none, none, some 2]}, regs := flds [(F.SDS_SUMMARY_FAIL_LANE, 7)]}]

/-- Witnesses of the hypotheses of LanesFail. -/
theorem witness :
    (∃ (s : State) (i : Nat),
      s.Inv ∧ s.Awake ∧ i < 224 ∧ s.sds.lanes.length = 224 ∧ s.NoTrial ∧ (s.node = .sapling ∨ s.node = .member) ∧
      (s.lane i).st ≠ .off ∧ (s.lane i).st ≠ .failed ∧
      ((s.lane i).runStart.isSome = true ∨ (s.lane i).farRun.isSome = true ∨ s.sds.bgRun = some i)) ∧
    (∃ (s : State) (i : Nat),
      s.Inv ∧ s.Awake ∧ i < 224 ∧ s.sds.lanes.length = 224 ∧ s.NoTrial ∧ (s.node = .sapling ∨ s.node = .member) ∧
      (s.lane i).st ≠ .off ∧ (s.lane i).st ≠ .failed ∧ i < 192 ∧ ((s.lane i).st ∈ [LaneState.offsetCal, .trainLow,
      .step]) ∧ (s.lane i).seen = false) ∧
    (∃ (s : State) (i : Nat) (p : Nat),
      s.Inv ∧ s.Awake ∧ i < 224 ∧ s.sds.lanes.length = 224 ∧ s.NoTrial ∧ (s.node = .sapling ∨ s.node = .member) ∧
      (s.lane i).st ≠ .off ∧ (s.lane i).st ≠ .failed ∧ laneFabricPort i = some p ∧
      (s.sds.firstTs.getD p none).isSome = true ∧ ((s.lane i).st ∈ [LaneState.offsetCal, .trainLow, .step]) ∧
      (s.lane i).seen = false) ∧
    (∃ (s : State) (i : Nat) (p : Nat),
      s.Inv ∧ s.Awake ∧ i < 224 ∧ s.sds.lanes.length = 224 ∧ s.NoTrial ∧ (s.node = .sapling ∨ s.node = .member) ∧
      (s.lane i).st ≠ .off ∧ (s.lane i).st ≠ .failed ∧ laneFabricPort i = some p ∧
      (s.sds.firstTs.getD p none).isSome = true ∧ ((s.lane i).st ∈ [LaneState.offsetCal, .trainLow, .step]) ∧
      (s.lane i).seen = true ∧ (s.lane i).runStart.isSome = true) ∧
    (∃ (s : State) (i : Nat) (p : Nat),
      s.Inv ∧ s.Awake ∧ i < 224 ∧ s.sds.lanes.length = 224 ∧ s.NoTrial ∧ (s.node = .sapling ∨ s.node = .member) ∧
      (s.lane i).st ≠ .off ∧ (s.lane i).st ≠ .failed ∧ laneFabricPort i = some p ∧
      (s.sds.firstTs.getD p none).isSome = true ∧ ((s.lane i).st ∈ [LaneState.offsetCal, .trainLow, .step]) ∧
      (s.lane i).seen = true ∧ (s.lane i).runStart = none) ∧
    (∃ (s : State) (i : Nat),
      s.Inv ∧ s.Awake ∧ i < 224 ∧ s.sds.lanes.length = 224 ∧ s.NoTrial ∧ (s.node = .sapling ∨ s.node = .member) ∧
      (s.lane i).st ≠ .off ∧ (s.lane i).st ≠ .failed ∧ i < 192 ∧ (s.lane i).st = .active) :=
  ⟨⟨(states.getD 0 {}), 0, by unfold State.Inv State.NoTrial State.Awake; decide +kernel⟩,
   ⟨(states.getD 0 {}), 0, by unfold State.Inv State.NoTrial State.Awake; decide +kernel⟩,
   ⟨(states.getD 0 {}), 192,
       (laneFabricPort (192)).get (by decide +kernel), by unfold State.Inv State.NoTrial State.Awake; decide +kernel⟩,
   ⟨(states.getD 1 {}), 192,
       (laneFabricPort (192)).get (by decide +kernel), by unfold State.Inv State.NoTrial State.Awake; decide +kernel⟩,
   ⟨(states.getD 1 {}), 223,
       (laneFabricPort (223)).get (by decide +kernel), by unfold State.Inv State.NoTrial State.Awake; decide +kernel⟩,
   ⟨(states.getD 0 {}), 191, by unfold State.Inv State.NoTrial State.Awake; decide +kernel⟩⟩

end LanesFail

namespace PortsRetrain

def states : List State := [{sds := sd [(0, {st := .active}), (191, {st := .active}), (192, {st := .active}), (193,{st := .active}), (194, {st := .failed}), (216, {st := .step}), (223, {st := .active, runStart := some 3})]},
  {fab := {ports := [{st := .up},{st := .up},{},{},{}, {}]}, sds := {sd [(0, {st := .active}), (192, {st := .active}),  (194, {st := .test}), (216, {st := .trainLow}), (223, {st := .active, runStart := some 3})] with retrains := [[1,2,3],[],[],[],[],[4,9]], due := [192,223, 3], bgRun := some 223}}]

/-- Witnesses of the hypotheses of PortsRetrain. -/
theorem witness :
    (∃ (s : State) (i : Nat) (p : Nat) (stamp : Time) (ts : TrainingSet) (skew : Nat) (c : Instr),
      s.Inv ∧ s.Awake ∧ s.sds.lanes.length = 224 ∧ laneFabricPort i = some p ∧ (s.lane i).st = .active ∧
      ts.check = tsCheck ts ∧ c ∈ [Instr.laneRetrainRequest i stamp, .laneLockLost i stamp,
      .trainingSetReceive i ts false skew stamp] ∧
      ((s.sds.retrains.getD p []).filter (fun u => decide (stamp - 60000000000 * 256 ≤ u) && decide (u < stamp))).length < 3) ∧
    (∃ (s : State) (i : Nat) (p : Nat) (stamp : Time) (ts : TrainingSet) (skew : Nat) (c : Instr),
      s.Inv ∧ s.Awake ∧ s.sds.lanes.length = 224 ∧ laneFabricPort i = some p ∧ (s.lane i).st = .active ∧
      ts.check = tsCheck ts ∧ c ∈ [Instr.laneRetrainRequest i stamp, .laneLockLost i stamp,
      .trainingSetReceive i ts false skew stamp] ∧
      (3 ≤ ((s.sds.retrains.getD p []).filter (fun u => decide (stamp - 60000000000 * 256 ≤ u) && decide (u < stamp))).length) ∧ s.NoTrial) ∧
    (∃ (s : State) (i : Nat),
      s.Inv ∧ s.Awake ∧ s.sds.lanes.length = 224 ∧ (laneFabricPort i = none ∨ (s.lane i).st ≠ .active)) :=
  ⟨⟨(states.getD 0 {}), 192, 0, 5, someTs 0x20 0x0F 0x7F 0xFF 0x63, 0,
      Instr.laneRetrainRequest (192) (5), by unfold State.Inv State.Awake; decide +kernel⟩,
   ⟨(states.getD 1 {}), 192, 0, 5, someTs 0x20 0x0F 0x7F 0xFF 0x63, 0,
       Instr.laneRetrainRequest (192) (5), by unfold State.Inv State.NoTrial State.Awake; decide +kernel⟩,
   ⟨(states.getD 0 {}), 0, by unfold State.Inv State.Awake; decide +kernel⟩⟩

end PortsRetrain

namespace LanesRecalibrateAndLoop

def states : List State := [{sds := {sd [(0, {st := .trainLow}), (191, {st := .active}), (192, {st := .step}), (223, {st := .test})] with due := [191]}, regs := flds [(F.SDS_CTRL_BGCAL_EN, 1)]},
 {sds := {sd [(0, {st := .step, loopOut := some 1, ready := true, speed := 3}), (191, {st := .active, loopOut := some 2}), (192, {st := .step, loopRetry := true})] with due := [0], bgRun := none}, regs := flds [(F.SDS_CTRL_BGCAL_EN, 1)]},
 {sds := {sd [(0, {st := .active, loopRetry := true}), (191, {st := .active, loopIn := true})] with due := [191, 192], bgRun := none, bgTemp := 8, band := 2}, regs := flds [(F.SDS_CTRL_BGCAL_EN, 1), (F.HKP_TEMP_T, 0x8005)]},
 {sds := {sd [(0, {st := .active})] with due := [191], bgRun := some 0, bgTemp := 8, bgStart := 1}},
 {sds := {sd [(0, {st := .active})] with due := [191], bgRun := some 223, bgTemp := 8, bgStart := 1, bgBand := 3}}]

/-- Witnesses of the hypotheses of LanesRecalibrateAndLoop. -/
theorem witness :
    (∃ (s : State) (i : Nat) (rest : List Nat),
      s.Inv ∧ s.Awake ∧ i < 224 ∧ s.sds.lanes.length = 224 ∧ s.flag F.SDS_CTRL_BGCAL_EN = true ∧
      s.sds.bgRun = none ∧ s.sds.due = i :: rest ∧ (s.lane i).st = .active) ∧
    (∃ (s : State) (i : Nat) (stamp : Time) (q : EyeResult),
      s.Inv ∧ s.Awake ∧ i < 224 ∧ s.sds.lanes.length = 224 ∧ s.sds.bgRun = some i ∧
      stamp < s.sds.bgStart + runBound ∧ s.meetsMargin s.sds.bgBand q.ew.toNat q.eh.toNat = true) ∧
    (∃ (s : State) (i : Nat),
      s.Inv ∧ s.Awake ∧ i < 224 ∧ s.sds.lanes.length = 224 ∧ (s.lane i).st ∈ [LaneState.trainLow, .step, .test]) ∧
    (∃ (s : State) (i : Nat),
      s.Inv ∧ s.Awake ∧ i < 224 ∧ s.sds.lanes.length = 224 ∧ (s.lane i).st ∈ [LaneState.trainLow, .step, .test] ∧
      (s.lane i).loopOut = none) ∧
    (∃ (s : State) (i : Nat),
      s.Inv ∧ s.Awake ∧ i < 224 ∧ s.sds.lanes.length = 224 ∧ i < 192 ∧ (s.lane i).loopOut.isSome = true) ∧
    (∃ (s : State) (i : Nat),
      s.Inv ∧ s.Awake ∧ i < 224 ∧ s.sds.lanes.length = 224 ∧ (s.lane i).loopOut = none) ∧
    (∃ (s : State) (i : Nat),
      s.Inv ∧ s.Awake ∧ i < 224 ∧ s.sds.lanes.length = 224 ∧ (s.lane i).loopRetry = true) :=
  ⟨⟨(states.getD 0 {}), 191, [], by unfold State.Inv State.Awake; decide +kernel⟩,
   ⟨(states.getD 3 {}), 0, 5, eye, by unfold State.Inv State.Awake; decide +kernel⟩,
   ⟨(states.getD 0 {}), 0, by unfold State.Inv State.Awake; decide +kernel⟩,
   ⟨(states.getD 0 {}), 0, by unfold State.Inv State.Awake; decide +kernel⟩,
   ⟨(states.getD 1 {}), 0, by unfold State.Inv State.Awake; decide +kernel⟩,
   ⟨(states.getD 0 {}), 0, by unfold State.Inv State.Awake; decide +kernel⟩,
   ⟨(states.getD 1 {}), 192, by unfold State.Inv State.Awake; decide +kernel⟩⟩

end LanesRecalibrateAndLoop

end Lanes

namespace PanelLink

def ll (l : List (Nat × Lane)) : List Lane := (List.range 224).map (fun i => (l.lookup i).getD {})
def sd (l : List (Nat × Lane)) : Serial := { lanes := ll l }
def dl (l : List (Nat × DriveLane)) : List DriveLane := (List.range 192).map (fun i => (l.lookup i).getD {})
def cfgs : List (BitVec 16 × ItemKind) := [(7, .cfgRead 1), (8, .cfgWrite 3 5)]

namespace LinesAndFillsRun

def states : List State := [{}, {pdl := {kind := .service, lanes := dl [(3, {sending := cfgs, flight := [(1, .cfgRead 2)], service := [.cfgRead 9, .trim 3], queue := [.rect 4 1 5 6]})]}, regs := flds [(F.PDL_CTRL_LINK_EN, 1)]},
  {pdl := {kind := .service, lanes := dl [(3, {sending := cfgs, flight := [(1, .cfgRead 2)], service := [.cfgRead 9, .trim 3], queue := [.rect 4 1 5 6]})]}},
  {pdl := {kind := .rectangle, lanes := dl [(3, {flight := (List.range 17).map (fun k => (BitVec.ofNat 16 k, .rect 4 1 k 6))})]}},
  {pdl := {running := some (3, false, 0), fills := [{fsn := 3, lastEnd := some 4, nextLine := 32, unconf := [(1,1)]}, {fsn := 3, slate := true, lastEnd := some 4, nextLine := 32}], frames := [{fsn := 3}]}},
  {pdl := {fills := [{fsn := 3, lastEnd := some 4, nextLine := 32, unconf := [(1,1)]}, {fsn := 3, slate := true, lastEnd := some 4, nextLine := 32}, {fsn := 3, lastEnd := some 4, nextLine := 32, unconf := []}], frames := [{fsn := 3}]}},
  {pdl := {running := some (3, false, 4), kind := .pendFill, lanes := dl [(3, {sending := [(4, .line 3 false 1 31)]})], fills := [{fsn := 3, issued := 512*500}]}, regs := flds [(F.BIN_LATE_COUNT, 4000000), (F.PDL_UNDERRUN_COUNT, 0xFFFFFFFF)]}]

/-- Witnesses of the hypotheses of LinesAndFillsRun. -/
theorem witness :
    (∃ (s : State),
      s.Inv ∧ s.Awake ∧ s.pdl.lanes.length = 192 ∧ s.lineMayEnd = false) ∧
    (∃ (s : State),
      s.Inv ∧ s.Awake ∧ s.pdl.lanes.length = 192 ∧ s.lineMayEnd = true) ∧
    (∃ (s : State) (fsn : Fsn) (f : Fill) (slate : Bool),
      s.Inv ∧ s.Awake ∧ (s.pdl.fills.find? (fun x => x.fsn == fsn && x.slate == slate) = some f) ∧
      f.lastEnd.isSome = true ∧ f.unsent = false ∧ f.frameDone = false ∧ (slate = true ∨ f.unconf ≠ [])) ∧
    (∃ (s : State) (fsn : Fsn) (f : Fill) (line : Nat) (c : Nat),
      s.Inv ∧ s.Awake ∧ s.pdl.running = some (fsn, false, line) ∧ s.fillOf fsn = some f ∧ f.lateGroups = [] ∧
      f.underran = false ∧ (List.range 16).find? (fun c => !f.groupComplete (16 * line + c)) = some c) :=
  ⟨⟨(states.getD 3 {}), by unfold State.Inv State.Awake; decide +kernel⟩,
   ⟨(states.getD 0 {}), by unfold State.Inv State.Awake; decide +kernel⟩,
   ⟨(states.getD 4 {}), 3, {fsn := 3, lastEnd := some 4, nextLine := 32, unconf := [(1,1)]},
       false, by unfold State.Inv State.Awake; decide +kernel⟩,
   ⟨(states.getD 4 {}), 3, {fsn := 3, lastEnd := some 4, nextLine := 32, unconf := [(1,1)]}, 0,
       0, by unfold State.Inv State.Awake; decide +kernel⟩⟩

end LinesAndFillsRun

namespace ItemsConfirmOrFail

def states : List State := [{}, {sds := sd [(0,{st := .active}),(96,{st := .active}),(191,{st := .active})], pdl := {fills := [{fsn := 3, slate := true, unconf := [(0,4),(95,4),(96,4),(191,4)]}, {fsn := 3, slate := true, resend := [9]}], lanes := dl [(0, {flight := [(1, .line 3 true 1 4)], consec := 2}), (95, {flight := [(2, .line 3 true 1 4)], consec := 3}),
   (96, {flight := [(1, .line 3 true 1 4),(2, .line 3 true 1 5)], consec := 1}), (191, {flight := [(2, .cfgRead 3), (1, .line 3 true 1 4)], sending := [(2, .cfgRead 3)]})]}, grv := {handed := [{id := 3}]}}]

/-- Witnesses of the hypotheses of ItemsConfirmOrFail. -/
theorem witness :
    (∃ (s : State) (lane : Nat),
      s.Inv ∧ s.Awake ∧ lane < 192 ∧ s.pdl.lanes.length = 192 ∧ s.carries lane = true) ∧
    (∃ (s : State) (lane : Nat),
      s.Inv ∧ s.Awake ∧ lane < 192 ∧ s.pdl.lanes.length = 192 ∧ s.carries lane = false) ∧
    (∃ (s : State) (lane : Nat) (seq : BitVec 16) (fsn : Fsn) (slot : Nat) (line : Nat),
      s.Inv ∧ s.Awake ∧ lane < 192 ∧ s.pdl.lanes.length = 192 ∧ (s.drive lane).sending.lookup seq = none ∧
      (s.drive lane).flight.lookup seq = some (.line fsn true slot line) ∧ s.carries lane = true) ∧
    (∃ (s : State) (lane : Nat) (seq : BitVec 16) (fsn : Fsn) (slot : Nat) (line : Nat) (value : BitVec 24) (stamp : Time) (c : Instr),
      s.Inv ∧ s.Awake ∧ lane < 192 ∧ s.pdl.lanes.length = 192 ∧ (s.drive lane).sending.lookup seq = none ∧
      (s.drive lane).flight.lookup seq = some (.line fsn true slot line) ∧ (s.drive lane).consec ≠ 2 ∧
      c ∈ [Instr.rectConfTimeout lane seq, .confReceive lane seq 1 value 0 true stamp] ∧
      (c = .rectConfTimeout lane seq ∨ s.carries lane = true)) :=
  ⟨⟨(states.getD 1 {}), 0, by unfold State.Inv State.Awake; decide +kernel⟩,
   ⟨(states.getD 0 {}), 0, by unfold State.Inv State.Awake; decide +kernel⟩,
   ⟨(states.getD 1 {}), 0, 1, 3, 1, 4, by unfold State.Inv State.Awake; decide +kernel⟩,
   ⟨(states.getD 1 {}), 96, 1, 3, 1, 4, 5, 5,
       Instr.rectConfTimeout (96) (1), by unfold State.Inv State.Awake; decide +kernel⟩⟩

end ItemsConfirmOrFail

namespace DriversAnswer

def states : List State := [{}, {sds := sd [(0,{st := .active}), (95,{st := .active, drvErr := 3}), (191,{st := .active})], pdl := {lanes := dl [(0, {echoAt := some 2, echoId := 3, calStart := some 1, calCount := 254}), (96, {echoAt := some 2, calStart := some 3}), (191, {calStart := some 3, zoneTemps := [(3,4)], codeErrs := 7})]}},
   {cmt := {screen := .show}, node := .member, sds := sd [(4,{st := .active}), (95,{st := .active, drvErr := 0xFFFF}), (191,{st := .active})], pdl := {tickCheck := [4], lanes := dl [(0, {echoAt := some 2, echoId := 3, calStart := some 1, calCount := 0xFFF}), (96, {echoAt := some 2, calStart := some 3}), (4, {calStart := some 3, zoneTemps := [(3,4)], codeErrs := 7})]}}]

/-- Witnesses of the hypotheses of DriversAnswer. -/
theorem witness :
    (∃ (s : State) (lane : Nat),
      s.Inv ∧ s.Awake ∧ lane < 192 ∧ s.pdl.lanes.length = 192 ∧ (s.lane lane).st = .active) ∧
    (∃ (s : State) (lane : Nat) (stamp : Time) (t0 : Time) (c0 : Time),
      s.Inv ∧ s.Awake ∧ lane < 192 ∧ s.pdl.lanes.length = 192 ∧ s.carries lane = true ∧
      (s.drive lane).echoAt = some t0 ∧ (s.drive lane).bringL = none ∧ (s.drive lane).calStart = some c0 ∧
      stamp < c0 + 10000000 * 256 ∧ (s.drive lane).samples = [] ∧ (s.drive lane).calSpan = none ∧
      (s.drive lane).calCount ≠ 255) ∧
    (∃ (s : State) (lane : Nat) (e1 : Byte),
      s.Inv ∧ s.Awake ∧ lane < 192 ∧ s.pdl.lanes.length = 192 ∧ e1 ≠ (s.drive lane).echoId) ∧
    (∃ (s : State) (lane : Nat),
      s.Inv ∧ s.Awake ∧ lane < 192 ∧ s.pdl.lanes.length = 192 ∧ s.NoTrial ∧
      (s.node = .sapling ∨ s.node = .member) ∧ s.flag F.HKP_FAULT_VALID = false ∧
      (s.drive lane).calStart.isSome = true ∧ (s.drive lane).bringL = none) ∧
    (∃ (s : State) (lane : Nat),
      s.Inv ∧ s.Awake ∧ lane < 192 ∧ s.pdl.lanes.length = 192 ∧ s.NoTrial ∧
      (s.node = .sapling ∨ s.node = .member) ∧ s.flag F.HKP_FAULT_VALID = false ∧ (s.lane lane).st = .active) ∧
    (∃ (s : State) (lane : Nat) (st : DriverStatus),
      s.Inv ∧ s.Awake ∧ lane < 192 ∧ s.pdl.lanes.length = 192 ∧ s.carries lane = true ∧ s.pdl.tick = none ∧
      lane ≠ 1 ∧ lane ≠ 97 ∧ st.codeErr.toNat ≤ (s.lane lane).drvErr) ∧
    (∃ (s : State) (lane : Nat) (st : DriverStatus),
      s.Inv ∧ s.Awake ∧ lane < 192 ∧ s.pdl.lanes.length = 192 ∧ s.carries lane = true ∧ s.pdl.tick = none ∧
      lane ≠ 1 ∧ lane ≠ 97 ∧ (s.lane lane).drvErr < st.codeErr.toNat ∧ (s.lane lane).drvEvAt = none ∧
      (s.lane lane).drvRises = [] ∧ st.codeErr.toNat < (s.lane lane).drvErr + 16) :=
  ⟨⟨(states.getD 1 {}), 0, by unfold State.Inv State.Awake; decide +kernel⟩,
   ⟨(states.getD 1 {}), 0, 5, 2, 1, by unfold State.Inv State.Awake; decide +kernel⟩,
   ⟨(states.getD 0 {}), 0, 3, by unfold State.Inv State.Awake; decide +kernel⟩,
   ⟨(states.getD 1 {}), 0, by unfold State.Inv State.NoTrial State.Awake; decide +kernel⟩,
   ⟨(states.getD 1 {}), 0, by unfold State.Inv State.NoTrial State.Awake; decide +kernel⟩,
   ⟨(states.getD 1 {}), 0, {flags := 0xFF, codeErr := 0}, by unfold State.Inv State.Awake; decide +kernel⟩,
   ⟨(states.getD 1 {}),
       0, {flags := 0x7, codeErr := 15, zoneT := 5}, by unfold State.Inv State.Awake; decide +kernel⟩⟩

end DriversAnswer

end PanelLink

namespace Aperture

def rq (n : Nat) : AplReq := { seq := BitVec.ofNat 32 n, rect := 0x00400080#32 ||| BitVec.ofNat 32 (n % 100), fsn := 3, bits := [1,2] }
def rqI (n : Nat) : AplReq := { rq n with immediate := true }
def dl (l : List (Nat × DriveLane)) : List DriveLane := (List.range 192).map (fun i => (l.lookup i).getD {})
def en : List (Fld × Nat) := [(F.APL_CTRL_ENABLE, 1), (F.APL_STATUS_RESTORED, 1)]

namespace ApertureRequests

def states : List State := [{}, {apl := {pendingReq := some (rq 3)}, regs := flds [(F.APL_REQ_BUF_LO_ADDR_LO, 77)]}, {apl := {pendingReq := some (rq 3)}, regs := flds en}, {mem := [(128, 7)], apl := {pendingReq := some (rqI 3), queue := [rq 1]}, regs := flds en},
  {apl := {pendingReq := some {rq 3 with rect := 0xFFFFFFFF}, queue := [rq 1]}, regs := flds en},
       {apl := {pendingReq := some (rq 3), queue := (List.range 8).map rq}, regs := flds en},
  {apl := {queue := [rq 4, rqI 5]}, regs := flds en}, {apl := {queue := [rqI 5, rq 4]}, regs := flds en, ctl := {inReset := true}}, {cmt := {s := 3}, apl := {queue := [rq 4, rqI 5]}, regs := flds en}]

/-- Witnesses of the hypotheses of ApertureRequests. -/
theorem witness :
    (∃ (s : State),
      s.Inv ∧ s.apl.pendingReq = none) ∧
    (∃ (s : State),
      s.Inv ∧ s.apl.pendingReq ≠ none) ∧
    (∃ (s : State) (r : AplReq),
      s.Inv ∧ s.apl.pendingReq = some r ∧
      (s.judge r.rect (rangeInDram r.buf ((rectKH r.rect + 1) * rowSize r.rect) && !s.badRange r.buf ((rectKH r.rect + 1) * rowSize r.rect))) = 0) ∧
    (∃ (s : State) (r : AplReq),
      s.Inv ∧ s.apl.pendingReq = some r ∧
      (s.judge r.rect (rangeInDram r.buf ((rectKH r.rect + 1) * rowSize r.rect) && !s.badRange r.buf ((rectKH r.rect + 1) * rowSize r.rect))) ≠ 0 ∧ (s.judge r.rect (rangeInDram r.buf ((rectKH r.rect + 1) * rowSize r.rect) && !s.badRange r.buf ((rectKH r.rect + 1) * rowSize r.rect))) ≠ 3) ∧
    (∃ (s : State) (r : AplReq),
      s.Inv ∧ s.linesOpen = true ∧ s.apl.writing = none ∧ s.apl.restore = none ∧
      s.apl.queue.find? s.canStart = some r) ∧
    (∃ (s : State),
      s.Inv ∧ s.apl.queue.find? s.canStart = none) :=
  ⟨⟨(states.getD 0 {}), by unfold State.Inv; decide +kernel⟩,
   ⟨(states.getD 1 {}), by unfold State.Inv; decide +kernel⟩,
   ⟨(states.getD 2 {}),
       (((states.getD 2 {})).apl.pendingReq).get (by decide +kernel), by unfold State.Inv; decide +kernel⟩,
   ⟨(states.getD 1 {}),
       (((states.getD 1 {})).apl.pendingReq).get (by decide +kernel), by unfold State.Inv; decide +kernel⟩,
   ⟨(states.getD 8 {}), rq 4, by unfold State.Inv; decide +kernel⟩,
   ⟨(states.getD 0 {}), by unfold State.Inv; decide +kernel⟩⟩

end ApertureRequests

namespace ApertureJournalAndLines

def jn : List (List (List Byte)) := [List.replicate 128 (journalBytes 2 9 0 0 [1]), erasedHalf]
def tmp : List DriveLane := dl [(1, {aplTemp := some (3, 400)}), (97, {aplTemp := some (4, 0xFFF0)})]
def states : List State := [{apl := {writing := some (rq 4), queue := [rq 4, rqI 5]}}, {apl := {writing := some (rq 4), queue := [rq 4, rqI 5], slot := 128, journal := jn}, regs := flds en, pdl := {lanes := tmp}},
  {apl := {writing := some (rq 4), queue := [rq 4, rqI 5], slot := 128, journal := jn, bandSent := some 4}, regs := flds en, pdl := {lanes := tmp}},
  {apl := {lineIdle := false, line := some 4, flight := [rq 1, rq 4], lastSeq := some 4}, regs := flds en, pdl := {lanes := tmp}},
  {apl := {lineIdle := false, line := some 4, flight := [rq 1, {rq 4 with next := 1}], lastSeq := some 4, bandSent := some 2}, regs := flds en, pdl := {lanes := tmp}},
  {apl := {lineIdle := false, line := some 4, flight := [{rq 4 with next := 1}, rq 1], lastSeq := some 4, bandSent := some 4}, regs := flds en, pdl := {lanes := tmp}},
  {apl := {lineIdle := false, restore := some 3}, regs := flds en, pdl := {lanes := tmp}}, {apl := {lineIdle := false, restore := some 254}, regs := flds en, pdl := {lanes := tmp}},
  {apl := {restore := some 254, settling := true, mask := 0xFFF#32768 <<< 300, band := 9}, regs := flds en, pdl := {lanes := tmp}}, {apl := {restore := some 0, settling := true, mask := 0xFFF#32768 <<< 300, band := 3}, regs := flds en, pdl := {lanes := tmp}}]

/-- Witnesses of the hypotheses of ApertureJournalAndLines. -/
theorem witness :
    (∃ (s : State) (r : AplReq),
      s.Inv ∧ s.apl.writing = some r) ∧
    (∃ (s : State) (r : AplReq),
      s.Inv ∧ s.apl.writing = some r ∧ s.apl.writeTries = 0) ∧
    (∃ (s : State) (r : AplReq),
      s.Inv ∧ s.apl.lineIdle = false ∧ s.apl.line = some r.seq ∧
      (s.apl.flight.find? (fun x => x.seq == r.seq) = some r)) ∧
    (∃ (s : State) (n : Nat),
      s.Inv ∧ s.apl.lineIdle = false ∧ s.apl.line = none ∧ s.apl.restore = some n ∧ n + 1 < 256) ∧
    (∃ (s : State) (n : Nat),
      s.Inv ∧ s.apl.settling = true ∧ s.apl.restore = some n ∧ s.linesOpen = true) :=
  ⟨⟨(states.getD 0 {}), rq 4, by unfold State.Inv; decide +kernel⟩,
   ⟨(states.getD 0 {}), rq 4, by unfold State.Inv; decide +kernel⟩,
   ⟨(states.getD 3 {}), rq 4, by unfold State.Inv; decide +kernel⟩,
   ⟨(states.getD 6 {}), 3, by unfold State.Inv; decide +kernel⟩,
   ⟨(states.getD 8 {}), 254, by unfold State.Inv; decide +kernel⟩⟩

end ApertureJournalAndLines

namespace ApertureEnablesAndFails

def states : List State := [{}, {apl := {initialMask := some 7}, pdl := {lanes := dl [(1, {aplTemp := some (3, 400)})]}}, {apl := {initialMask := some 7, lineIdle := false}, regs := flds en}, {apl := {initialMask := some 7, restore := some 0}, regs := flds en, node := .member, cmt := {screen := .show}}, 
 {apl := {lineIdle := false}, pins := {aplOut := [2]}}]

/-- Witnesses of the hypotheses of ApertureEnablesAndFails. -/
theorem witness :
    (∃ (s : State),
      s.Inv) ∧
    (∃ (s : State) (m : BitVec 32768),
      s.Inv ∧ s.flag F.APL_CTRL_ENABLE = false ∧ s.flag F.APL_STATUS_RESTORED = false ∧ s.apl.restore = none ∧
      s.apl.restoreHalf = none ∧ s.apl.initialMask = some m) ∧
    (∃ (s : State) (n : Nat),
      s.Inv ∧ n < 1000) ∧
    (∃ (s : State) (n : Nat),
      s.Inv ∧ s.hkp.bist = none ∧ 1000 ≤ n) ∧
    (∃ (s : State) (n : Nat),
      s.Inv ∧ n < 10000) ∧
    (∃ (s : State) (n : Nat),
      s.Inv ∧ s.NoTrial ∧ (s.node = .sapling ∨ s.node = .member) ∧ s.flag F.HKP_FAULT_VALID = false ∧ 10000 ≤ n) ∧
    (∃ (s : State),
      s.Inv ∧ s.NoTrial ∧ (s.node = .sapling ∨ s.node = .member) ∧ s.flag F.HKP_FAULT_VALID = false ∧
      s.apl.restore = some 0 ∧ s.apl.lineIdle = true ∧ s.apl.settling = false) :=
  ⟨⟨(states.getD 0 {}), by unfold State.Inv; decide +kernel⟩,
   ⟨(states.getD 1 {}), 7, by unfold State.Inv; decide +kernel⟩,
   ⟨(states.getD 0 {}), 0, by unfold State.Inv; decide +kernel⟩,
   ⟨(states.getD 0 {}), 9999, by unfold State.Inv; decide +kernel⟩,
   ⟨(states.getD 0 {}), 9999, by unfold State.Inv; decide +kernel⟩,
   ⟨(states.getD 0 {}), 10000, by unfold State.Inv State.NoTrial; decide +kernel⟩,
   ⟨(states.getD 3 {}), by unfold State.Inv State.NoTrial; decide +kernel⟩⟩

end ApertureEnablesAndFails

end Aperture

namespace Layers

def dsc (addr : Nat) (st : Nat) : List Word := ([1 + 2*st + 0xFF0000, 2 + 2*65536, 64, addr, 0,0,0,0,0,
    0,0,0x3C23D70A,0,0,0,0].map (BitVec.ofNat 32))
def off16 : List Word := List.replicate 16 0
def dset (l : List (List Word)) : List (List Word) := l ++ List.replicate (8 - l.length) off16
def dregs (l : List (List Word)) : List (Nat × Word) := rgs (l.zipIdx.flatMap (fun p => p.1.zipIdx.map (fun q => (R.LYR_DESC0 p.2 + 4 * q.2, q.1))))
def dl (l : List (Nat × DriveLane)) : List DriveLane := (List.range 192).map (fun i => (l.lookup i).getD {})
def cache1 : Nat × Nat := (1,1)

namespace LayersCommitCacheRetire

def states : List State := [{}, {regs := dregs [dsc 0x1000 1, dsc 0x2000 0]}, {regs := dregs [dsc 0x1000 1, off16, dsc 0x2000 1], lyr := {cache := ({group := [dsc 0x3000 1]} : CacheSlot) :: List.replicate 7 {}}},
   {regs := dregs [dsc 0x1000 1, off16, (dsc 0x2000 1).set 2 7]}, {regs := dregs [(dsc 0x1000 1).set 15 1, off16, (dsc 0x2000 1).set 2 7]},
   {pdl := {frames := [{fsn := 2, layersLatched := true}, {fsn := 1}]}, lyr := {applied := [dsc 0 0]}},
   {node := .fault}, 
   {lyr := {cache := [{group := [dsc 0x3000 1]}, {}, {group := [dsc 0x3000 1], ready := true}, {}, {group := [dsc 0x5000 1, dsc 0x4000 1]}]}, mem := [(0x3000, 5), (0x4000000, 8)]},
   {cmt := {s := 2}, pdl := {frames := [{fsn := 2, layersLatched := true}, {fsn := 1, layers := [dsc 0 1]}, {fsn := 3}]}, lyr := {cache := [{group := [dsc 0 1]}]}},
   {lyr := {slateWait := true}, pdl := {fills := [{slate := true, frameDone := true, nextLine := 32}, {fsn := 4}]}}]

/-- Witnesses of the hypotheses of LayersCommitCacheRetire. -/
theorem witness :
    (∃ (s : State),
      s.Inv ∧ s.Awake ∧ setFault ((List.range 8).map s.liveDesc) = none) ∧
    (∃ (s : State) (f : Nat × Nat),
      s.Inv ∧ s.Awake ∧ setFault ((List.range 8).map s.liveDesc) = some f ∧ f.1 < 8 ∧ f.2 < 16) ∧
    (∃ (s : State) (fsn : Fsn),
      s.Inv ∧ s.Awake ∧ (s.latched fsn).layersLatched = false ∧ s.node ≠ .fault ∧ s.lyr.held = none) ∧
    (∃ (s : State) (fsn : Fsn),
      s.Inv ∧ s.Awake ∧ (s.latched fsn).layersLatched = true ∨ s.node = .fault) ∧
    (∃ (s : State) (slot : Nat),
      s.Inv ∧ s.Awake ∧ slot < s.lyr.cache.length ∧ (s.lyr.cache.getD slot {}).group.isEmpty = false ∧
      (s.lyr.cache.getD slot {}).ready = false) ∧
    (∃ (s : State) (fsn : Fsn),
      s.Inv ∧ s.Awake ∧ (s.pdl.frames.any (fun l => l.fsn == fsn && !l.retired) = true) ∧
      laterFsn fsn s.S = false ∧ s.rectOut fsn = false ∧ s.binOpen fsn = false) ∧
    (∃ (s : State),
      s.Inv ∧ s.Awake ∧ s.lyr.slateWait = true ∧
      (s.pdl.fills.any (fun f => f.slate && f.frameDone && f.unconf.isEmpty && !f.unsent) = true)) ∧
    (∃ (s : State),
      s.Inv ∧ s.Awake ∧ (s.lyr.slateWait = false ∨ (∀ f ∈ s.pdl.fills, f.slate = false))) :=
  ⟨⟨(states.getD 0 {}), by unfold State.Inv State.Awake; decide +kernel⟩,
   ⟨(states.getD 3 {}),
       (setFault ((List.range 8).map ((states.getD 3 {})).liveDesc)).get (by decide +kernel), by unfold State.Inv State.Awake; decide +kernel⟩,
   ⟨(states.getD 0 {}), 0, by unfold State.Inv State.Awake; decide +kernel⟩,
   ⟨(states.getD 5 {}), 2, by unfold State.Inv State.Awake; decide +kernel⟩,
   ⟨(states.getD 2 {}), 0, by unfold State.Inv State.Awake; decide +kernel⟩,
   ⟨(states.getD 8 {}), 1, by unfold State.Inv State.Awake; decide +kernel⟩,
   ⟨(states.getD 9 {}), by unfold State.Inv State.Awake; decide +kernel⟩,
   ⟨(states.getD 0 {}), by unfold State.Inv State.Awake; decide +kernel⟩⟩

end LayersCommitCacheRetire

namespace BlitterRuns

def bs (sp dp sx sy dx dy w h : Nat) : List (Fld × Nat) := [(F.BLT_SRC_LO_ADDR_LO, 16), (F.BLT_DST_LO_ADDR_LO, 16),
    (F.BLT_SRC_PITCH_PITCH, sp), (F.BLT_DST_PITCH_PITCH, dp), (F.BLT_SRC_XY_X, sx), (F.BLT_SRC_XY_Y, sy),
    (F.BLT_DST_XY_X, dx), (F.BLT_DST_XY_Y, dy), (F.BLT_SIZE_W, w), (F.BLT_SIZE_H, h)]
def states : List State := [{}, {regs := flds (bs 16 16 0 0 1 1 3 3), mem := [(256,7), (257, 9)]}, {regs := flds (bs 16 16 0 5 1 1 2 2), mem := [(256,7), (257, 9)], lyr := {held := some {descs := [dsc 0 1]}}}, {regs := flds (bs 16 12 0 0 1 1 3 3)}, {lyr := {blt := some {code := 3}}}, {lyr := {blt := some {code := 0, todo := [(4,[1,2]), (120, [0,1,2])]}}},
  {lyr := {blt := some {code := 7, todo := [(4,[1,2]), (120, [0,1,2])]}, held := some {descs := [dsc 0 1]}}, dmc := {poison := [0]}}]

/-- Witnesses of the hypotheses of BlitterRuns. -/
theorem witness :
    (∃ (s : State) (sf : BitVec 2) (df : BitVec 2) (g : Byte) (op : BltOpKind) (c : Instr),
      s.Inv ∧ s.Awake ∧ (op, c) ∈ [(BltOpKind.copy, Instr.bltCopy sf df g), (.fill, .bltFill sf df g), (.blend,
      .bltBlend sf df g)] ∧ s.lyr.blt ≠ none) ∧
    (∃ (s : State) (sf : BitVec 2) (df : BitVec 2) (g : Byte) (op : BltOpKind) (c : Instr),
      s.Inv ∧ s.Awake ∧ (op, c) ∈ [(BltOpKind.copy, Instr.bltCopy sf df g), (.fill, .bltFill sf df g), (.blend,
      .bltBlend sf df g)] ∧ s.lyr.blt = none ∧ s.bltCheck op (s.bltSrc sf.toNat) (s.bltDst df.toNat) ≠ 0) ∧
    (∃ (s : State) (sf : BitVec 2) (df : BitVec 2) (g : Byte) (op : BltOpKind) (c : Instr),
      s.Inv ∧ s.Awake ∧ (op, c) ∈ [(BltOpKind.copy, Instr.bltCopy sf df g), (.fill, .bltFill sf df g), (.blend,
      .bltBlend sf df g)] ∧ s.lyr.blt = none ∧ s.bltCheck op (s.bltSrc sf.toNat) (s.bltDst df.toNat) = 0 ∧
      s.bltPoison op (s.bltSrc sf.toNat) (s.bltDst df.toNat) = none) ∧
    (∃ (s : State) (b : BltOp),
      s.Inv ∧ s.Awake ∧ s.lyr.blt = some b) :=
  ⟨⟨(states.getD 4 {}), 0, 0, 0, BltOpKind.copy,
      Instr.bltCopy (0) (0) (0), by unfold State.Inv State.Awake; decide +kernel⟩,
   ⟨(states.getD 0 {}), 0, 0, 0, BltOpKind.copy,
       Instr.bltCopy (0) (0) (0), by unfold State.Inv State.Awake; decide +kernel⟩,
   ⟨(states.getD 1 {}), 0, 0, 0, BltOpKind.copy,
       Instr.bltCopy (0) (0) (0), by unfold State.Inv State.Awake; decide +kernel⟩,
   ⟨(states.getD 4 {}),
       (((states.getD 4 {})).lyr.blt).get (by decide +kernel), by unfold State.Inv State.Awake; decide +kernel⟩⟩

end BlitterRuns

end Layers

namespace MemoryBlock

def hc (l : List (List Word)) : HeldCommit := {descs := l}
def dsc (addr : Nat) (st : Nat) : List Word := ([1 + 2*st + 0xFF0000, 2 + 2*65536, 64, addr, 0,0,0,0,0,
    0,0,0x3C23D70A,0,0,0,0].map (BitVec.ofNat 32))
def blk (n : Nat) (d : Bool) : L2Block := {block := n, data := (List.range 64).map (fun k => BitVec.ofNat 8 (k + n)), dirty := d}

namespace MemoryWrites

def states : List State := [{}, {mem := [(4,5), (127,3), (128,9)], dmc := {poison := [1]}}, {lyr := {held := some (hc [dsc 0x100 0])}}, {dmc := {changing := true}, regs := flds [(F.DMC_FAULT_CODE, 2)]}, {ctl := {l2 := [blk 0 true, blk 1 false, blk 2 false, blk 3 true]}}, {dmc := {held := [{src := 0x12}]}}]

/-- Witnesses of the hypotheses of MemoryWrites. -/
theorem witness :
    (∃ (s : State) (src : Byte) (data : List Byte) (op : L2Op),
      s.Inv ∧ s.Awake ∧ data ≠ [] ∧ (op ≠ .clean ∨ isCore src.toNat = false)) ∧
    (∃ (s : State) (src : Byte) (a : Nat) (data : List Byte),
      s.Inv ∧ s.Awake ∧ data ≠ [] ∧ s.DmcOpen ∧ isCore src.toNat = false ∧ inDram a = true ∧
      inDram (a + data.length - 1) = true ∧ s.pinned a data.length = false ∧ (∀ l ∈ linesOf a data.length,
      s.lineBad l = false)) ∧
    (∃ (s : State) (src : Byte) (a : Nat) (data : List Byte),
      s.Inv ∧ s.Awake ∧ data ≠ [] ∧ s.DmcOpen ∧ isCore src.toNat = false ∧ inDram a = true ∧
      inDram (a + data.length - 1) = true ∧ s.pinned a data.length = true) ∧
    (∃ (s : State) (src : Byte) (a : Nat) (data : List Byte) (op : L2Op),
      s.Inv ∧ s.Awake ∧ data ≠ [] ∧ s.DmcOpen ∧ isCore src.toNat = true ∧ inDram a = true ∧
      (blocksOf a data.length).all s.l2Holds = true ∧ op = .plain) ∧
    (∃ (s : State) (a : Nat) (data : List Byte),
      s.Inv ∧ s.Awake ∧ data ≠ [] ∧ s.DmcOpen ∧ inMemory a = false) ∧
    (∃ (s : State) (src : Byte) (a : Nat) (data : List Byte) (op : L2Op) (stamp : Time),
      s.Inv ∧ s.Awake ∧ data ≠ [] ∧
      (s.reqBlocked (({ src := src, addr := a, data := some data, op := op, stamp := stamp } : DmcReq)) = true ∨ (∃ x ∈ s.dmc.held, x.src = src))) :=
  ⟨⟨(states.getD 0 {}), 0, [1], .plain, by unfold State.Inv State.Awake; decide +kernel⟩,
   ⟨(states.getD 0 {}), 0x12, 0, [1], by unfold State.Inv State.DmcOpen State.Awake; decide +kernel⟩,
   ⟨(states.getD 2 {}), 0x12, 127,
       List.replicate 130 7, by unfold State.Inv State.DmcOpen State.Awake; decide +kernel⟩,
   ⟨(states.getD 4 {}), 0, 0, [1], .plain, by unfold State.Inv State.DmcOpen State.Awake; decide +kernel⟩,
   ⟨(states.getD 0 {}), 0x1000000000, [1], by unfold State.Inv State.DmcOpen State.Awake; decide +kernel⟩,
   ⟨(states.getD 3 {}), 0, 0, [1], .plain, 5, by unfold State.Inv State.Awake; decide +kernel⟩⟩

end MemoryWrites

namespace MemoryReads

def states : List State := [{}, {ctl := {l2 := [blk 0 true, blk 1 false, blk 2 false, blk 3 true]}}, {dmc := {retrain := [(0,0)], held := [{src := 0x12}]}}, {mem := [(4,5), (127,3), (128,9)], dmc := {poison := [1]}, regs := flds [(F.DMC_CTRL_SCRUB_EN, 1)]}, {node := .member, cmt := {screen := .show}, mem := [(4,5), (127,3), (128,9)], dmc := {poison := [0,1], mig := [some {fromPos := 0}, none, none, none]}, regs := flds [(F.DMC_CTRL_SCRUB_EN, 1)]}, {dmc := {poison := [0,5,6], mig := [some {fromPos := 1}, none, none, none]}}]

/-- Witnesses of the hypotheses of MemoryReads. -/
theorem witness :
    (∃ (s : State) (src : Byte) (a : Nat) (n : Nat),
      s.Inv ∧ s.Awake ∧ rangeInDram a n = true ∧ n ≠ 0 ∧ s.DmcOpen ∧ isCore src.toNat = false ∧ s.dmc.poison = []) ∧
    (∃ (s : State) (src : Byte) (a : Nat) (n : Nat) (op : L2Op),
      s.Inv ∧ s.Awake ∧ rangeInDram a n = true ∧ n ≠ 0 ∧ s.DmcOpen ∧ isCore src.toNat = true ∧
      (blocksOf a n).all s.l2Holds = true ∧ op ≠ .invalidate) ∧
    (∃ (s : State) (src : Byte) (a : Nat) (n : Nat) (line : Nat),
      s.Inv ∧ s.Awake ∧ rangeInDram a n = true ∧ n ≠ 0 ∧ s.DmcOpen ∧ linesOf a n = [line] ∧ s.lineBad line = true ∧
      s.NoTrial ∧ (isCore src.toNat = false ∨ (blocksOf a n).all s.l2Holds = false)) ∧
    (∃ (s : State) (src : Byte) (a : Nat) (n : Nat) (op : L2Op) (stamp : Time),
      s.Inv ∧ s.Awake ∧ rangeInDram a n = true ∧ n ≠ 0 ∧
      (s.reqBlocked (({ src := src, addr := a, len := n, op := op, errs := [], stamp := stamp } : DmcReq)) = true ∨ (∃ x ∈ s.dmc.held, x.src = src))) ∧
    (∃ (s : State) (a : Nat) (n : Nat),
      s.Inv ∧ s.Awake ∧ rangeInDram a n = true ∧ n ≠ 0 ∧ s.lineBad (a / 128) = false) :=
  ⟨⟨(states.getD 0 {}), 0x12, 0, 4, by unfold State.Inv State.DmcOpen State.Awake; decide +kernel⟩,
   ⟨(states.getD 1 {}), 3, 0, 4, .plain, by unfold State.Inv State.DmcOpen State.Awake; decide +kernel⟩,
   ⟨(states.getD 3 {}), 0x12, 128, 4, 1, by unfold State.Inv State.NoTrial State.DmcOpen State.Awake; decide +kernel⟩,
   ⟨(states.getD 2 {}), 0x12, 0, 4, .plain, 5, by unfold State.Inv State.Awake; decide +kernel⟩,
   ⟨(states.getD 0 {}), 0, 4, by unfold State.Inv State.Awake; decide +kernel⟩⟩

end MemoryReads

namespace MemoryUpkeep

def rq1 : DmcReq := {src := 3, addr := 0x80, len := 4, stamp := -5}
def rq2 : DmcReq := {src := 0x10, addr := 0x80, data := some [1,2], stamp := -5}
def states : List State := [{}, {dmc := {held := [rq1, rq2], panicGroves := 1}}, {dmc := {owed := List.replicate 12 4, mig := [some {fromPos := 0}, none, some {fromPos := 1}, none], retrain := [(2,1),(0,0)], dqs := List.replicate 120 16, mr4Hot := 15}, regs := flds [(F.DMC_RANKMAP_LR0_POS 2, 1), (F.DMC_RANKMAP_SPARE_POS 2, 2), (F.DMC_RANKMAP_RETIRED 2, 4), (F.DMC_STATUS_MIG, 15), (F.DMC_MIG_ACTIVE 2, 1)]},
  {dmc := {owed := List.replicate 12 3, mig := [some {fromPos := 0}, none, some {fromPos := 1}, some {fromPos := 2}], retrain := [(2,1),(2,1)], panicGroves := 3, dqs := List.replicate 120 (-17), starve := [(5,3)]}}]

/-- Witnesses of the hypotheses of MemoryUpkeep. -/
theorem witness :
    (∃ (s : State) (c : Nat) (pos : Nat) (m : MigCopy),
      s.Inv ∧ s.Awake ∧ c < 4 ∧ pos < 3 ∧ s.dmc.panicGroves = 0 ∧ s.dmc.mig.getD c none = some m) ∧
    (∃ (s : State) (c : Nat) (pos : Nat),
      s.Inv ∧ s.Awake ∧ c < 4 ∧ pos < 3 ∧ s.dmc.held = [] ∧ s.dmc.retrain.contains (c, pos) = true) ∧
    (∃ (s : State) (c : Nat) (pos : Nat),
      s.Inv ∧ s.Awake ∧ c < 4 ∧ pos < 3 ∧ bitOf (s.fld (F.DMC_RANKMAP_RETIRED c)) pos = false) ∧
    (∃ (s : State) (c : Nat) (pos : Nat),
      s.Inv ∧ s.Awake ∧ c < 4 ∧ pos < 3 ∧ bitOf (s.fld (F.DMC_RANKMAP_RETIRED c)) pos = false ∧
      s.dmc.owed.getD (c * 3 + pos) 0 < 4) ∧
    (∃ (s : State) (c : Nat) (pos : Nat),
      s.Inv ∧ s.Awake ∧ c < 4 ∧ pos < 3 ∧ bitOf (s.fld (F.DMC_RANKMAP_RETIRED c)) pos = false ∧
      4 ≤ s.dmc.owed.getD (c * 3 + pos) 0) ∧
    (∃ (s : State) (c : Nat) (pos : Nat) (stamp : Time) (port : Nat) (p : Nat × DmcReq),
      s.Inv ∧ s.Awake ∧ c < 4 ∧ pos < 3 ∧ s.dmc.panicGroves ≠ 0 ∧ 1 ≤ port ∧ port ≤ 3 ∧
      s.starving c port = some p ∧ s.dmc.starve.lookup (c * 4 + port) = none ∧
      p.2.stamp + (s.fld F.DMC_STARVE_NS * 256 : Nat) ≤ stamp) ∧
    (∃ (s : State) (c : Nat) (pos : Nat) (port : Nat),
      s.Inv ∧ s.Awake ∧ c < 4 ∧ pos < 3 ∧ s.dmc.panicGroves ≠ 0 ∧ 1 ≤ port ∧ port ≤ 3 ∧ s.starving c port = none) ∧
    (∃ (s : State) (c : Nat) (pos : Nat),
      s.Inv ∧ s.Awake ∧ c < 4 ∧ pos < 3) ∧
    (∃ (s : State) (c : Nat) (pos : Nat) (dev : Nat),
      s.Inv ∧ s.Awake ∧ c < 4 ∧ pos < 3 ∧ dev < 10) :=
  ⟨⟨(states.getD 2 {}), 0, 0, {fromPos := 0}, by unfold State.Inv State.Awake; decide +kernel⟩,
   ⟨(states.getD 2 {}), 0, 0, by unfold State.Inv State.Awake; decide +kernel⟩,
   ⟨(states.getD 0 {}), 0, 0, by unfold State.Inv State.Awake; decide +kernel⟩,
   ⟨(states.getD 0 {}), 0, 0, by unfold State.Inv State.Awake; decide +kernel⟩,
   ⟨(states.getD 2 {}), 0, 0, by unfold State.Inv State.Awake; decide +kernel⟩,
   ⟨(states.getD 1 {}), 2, 0, 100000000000, 1,
       (((states.getD 1 {})).starving (2) (1)).get (by decide +kernel), by unfold State.Inv State.Awake; decide +kernel⟩,
   ⟨(states.getD 1 {}), 0, 0, 1, by unfold State.Inv State.Awake; decide +kernel⟩,
   ⟨(states.getD 0 {}), 0, 0, by unfold State.Inv State.Awake; decide +kernel⟩,
   ⟨(states.getD 0 {}), 0, 0, 0, by unfold State.Inv State.Awake; decide +kernel⟩⟩

end MemoryUpkeep

namespace FrequencyAndSram

def states : List State := [{}, {mem := [(0x2000000000,5)], sram := {readA := some (0x2000000000 / 8), readB := some (0x2000000000 / 8)}, regs := flds [(F.DMC_STATUS_CHANGING, 1), (F.MEM_CTRL_TEST_EN, 1)]}, {dmc := {change := some true}, mem := [(0x2000000000,5)], regs := flds [(F.MEM_CTRL_TEST_EN, 1)], sram := {word := 15728639}}, 
 {dmc := {change := some false, changing := true, dqs := [1]}, pdl := {fills := [{}]}, regs := flds [(F.DMC_STATUS_FREQ, 1), (F.DMC_FREQ_SET, 1), (F.DMC_STATUS_CHANGING, 1), (F.MEM_CTRL_TEST_EN, 1)], sram := {word := sramWords - 1}}]

/-- Witnesses of the hypotheses of FrequencyAndSram. -/
theorem witness :
    (∃ (s : State) (target : Bool),
      s.Inv ∧ s.Awake ∧ s.flag F.DMC_STATUS_CHANGING = false ∧ s.flag F.DMC_STATUS_FREQ ≠ target) ∧
    (∃ (s : State),
      s.Inv ∧ s.Awake ∧ s.flag F.DMC_STATUS_CHANGING = true) ∧
    (∃ (s : State) (stamp : Time),
      s.Inv ∧ s.Awake ∧ s.dmc.change.isSome = true ∧ s.dmc.changing = false ∧ s.linesUnsent = false ∧
      stamp + 1000000 * 256 ≤ s.nextV) ∧
    (∃ (s : State),
      s.Inv ∧ s.Awake ∧ s.dmc.changing = true ∧ s.dmc.held = []) ∧
    (∃ (s : State) (x : SramAccess) (y : SramAccess) (follows : Bool),
      s.Inv ∧ s.Awake ∧ s.sram.again = [] ∧ (inGroveSram x.addr || inStagingSram x.addr) = true ∧
      (inGroveSram y.addr || inStagingSram y.addr) = true ∧ x.write = true ∧
      (follows = false ∨ s.sram.readA ≠ some (x.addr / 8))) ∧
    (∃ (s : State) (x : SramAccess) (y : SramAccess) (follows : Bool),
      s.Inv ∧ s.Awake ∧ s.sram.again = [] ∧ (inGroveSram x.addr || inStagingSram x.addr) = true ∧
      (inGroveSram y.addr || inStagingSram y.addr) = true ∧ x.write = true ∧ follows = true ∧
      s.sram.readA = some (x.addr / 8)) ∧
    (∃ (s : State) (x : SramAccess) (y : SramAccess),
      s.Inv ∧ s.Awake ∧ s.sram.again = [] ∧ (inGroveSram x.addr || inStagingSram x.addr) = true ∧
      (inGroveSram y.addr || inStagingSram y.addr) = true ∧ x.write = false ∧ x.flips = 0) ∧
    (∃ (s : State) (x : SramAccess) (y : SramAccess) (follows : Bool),
      s.Inv ∧ s.Awake ∧ s.sram.again = [] ∧ (inGroveSram x.addr || inStagingSram x.addr) = true ∧
      (inGroveSram y.addr || inStagingSram y.addr) = true ∧ x.write = true ∧ y.write = true ∧ follows = false ∧
      x.addr / 8 = y.addr / 8 ∧ x.data.take 8 ≠ y.data.take 8) ∧
    (∃ (s : State) (x : SramAccess) (y : SramAccess),
      s.Inv ∧ s.Awake ∧ s.sram.again = [] ∧ (inGroveSram x.addr || inStagingSram x.addr) = true ∧
      (inGroveSram y.addr || inStagingSram y.addr) = true ∧ s.flag F.MEM_CTRL_TEST_EN = true ∧
      s.sram.word + 1 ≠ sramWords) ∧
    (∃ (s : State) (x : SramAccess) (y : SramAccess),
      s.Inv ∧ s.Awake ∧ s.sram.again = [] ∧ (inGroveSram x.addr || inStagingSram x.addr) = true ∧
      (inGroveSram y.addr || inStagingSram y.addr) = true ∧ s.flag F.MEM_CTRL_TEST_EN = true ∧
      s.sram.word + 1 = sramWords) :=
  ⟨⟨(states.getD 0 {}), true, by unfold State.Inv State.Awake; decide +kernel⟩,
   ⟨(states.getD 1 {}), by unfold State.Inv State.Awake; decide +kernel⟩,
   ⟨(states.getD 2 {}), 5, by unfold State.Inv State.Awake; decide +kernel⟩,
   ⟨(states.getD 3 {}), by unfold State.Inv State.Awake; decide +kernel⟩,
   ⟨(states.getD 0 {}), {addr := 0x2000000000, write := true, data := [1,2,3,4,5,6,7,8,9]}, {addr := 0x2000000000, write := true, data := [1,2,3,4,5,6,7,8,9]}, true, by unfold State.Inv State.Awake; decide +kernel⟩,
   ⟨(states.getD 1 {}), {addr := 0x2000000000, write := true, data := [1,2,3,4,5,6,7,8,9]}, {addr := 0x2000000000, write := true, data := [1,2,3,4,5,6,7,8,9]}, true, by unfold State.Inv State.Awake; decide +kernel⟩,
   ⟨(states.getD 0 {}), {addr := 0x2000000000, write := false, data := []}, {addr := 0x2000000000, write := true, data := [1,2,3,4,5,6,7,8,9]}, by unfold State.Inv State.Awake; decide +kernel⟩,
   ⟨(states.getD 0 {}), {addr := 0x2000000000, write := true, data := [1,2,3,4,5,6,7,8,9]}, {addr := 0x2000000007, write := true, data := [1,2,3,4,5,6,7,7]}, false, by unfold State.Inv State.Awake; decide +kernel⟩,
   ⟨(states.getD 0 {}), {addr := 0x2000000000, write := true, data := [1,2,3,4,5,6,7,8,9]}, {addr := 0x2000000000, write := true, data := [1,2,3,4,5,6,7,8,9]}, by unfold State.Inv State.Awake; decide +kernel⟩,
   ⟨(states.getD 2 {}), {addr := 0x2000000000, write := true, data := [1,2,3,4,5,6,7,8,9]}, {addr := 0x2000000000, write := true, data := [1,2,3,4,5,6,7,8,9]}, by unfold State.Inv State.Awake; decide +kernel⟩⟩

end FrequencyAndSram

end MemoryBlock

namespace FabricLinks

def pk : XtfPacket := { cls := 1, mode := 0, src := 0x0300, dst := 0x0203, proto := 3, length := 12, payload := [4,0,0,0,1,0,0,0,1,2,3,4] }
def up (q : Port) : Port := { q with st := .up, creditLimit := [9,9,9,9] }
def prts (l : List (Nat × Port)) : List Port := (List.range 6).map (fun i => (l.lookup i).getD {})
def qd (n : Byte) : Queued := {pkt := {pk with lseq := n}}
def xl : Serial := {lanes := List.replicate 224 {st := .active}}
def roots : List Domain := [{st := .root}, {st := .root}]

namespace FabricDiscovers

def states : List State := [{}, {regs := flds [(F.FAB_CTRL_ENABLE, 1)]}, {regs := flds [(F.FAB_ROLE_PORT_EN, 0x15)], fab := {ports := prts [(1, {st := .up})]}},
  {fab := {coord := some 0x0203, ports := prts [(1, up {txSeq := 255})]}}, {fab := {coord := some 0x0203, ports := prts [(0, up {}), (2, {st := .training})]}}, {fab := {coord := some 0x0000, ports := prts [(3, up {})]}},
  {fab := {ports := prts [(1, up {txSeq := 255})]}, regs := flds [(F.FAB_EXPECT_ADDR, 0x0203)]}, {node := .member, fab := {coord := some 0x0203, ports := prts [(1, up {txSeq := 255})]}, regs := flds [(F.FAB_P_TX_COUNT 1, 0xFFFFFFFF), (F.HKP_FAULT_VALID, 0)]} ]

/-- Witnesses of the hypotheses of FabricDiscovers. -/
theorem witness :
    (∃ (s : State),
      s.Inv ∧ s.Awake ∧ s.fab.ports.length = 6 ∧ s.flag F.FAB_CTRL_ENABLE = true) ∧
    (∃ (s : State),
      s.Inv ∧ s.Awake ∧ s.fab.ports.length = 6 ∧ s.flag F.FAB_CTRL_ENABLE = false ∧
      s.flag F.FAB_ROLE_ANCHOR = false) ∧
    (∃ (s : State),
      s.Inv ∧ s.Awake ∧ s.fab.ports.length = 6 ∧ s.here = none) ∧
    (∃ (s : State) (a : BitVec 16) (p : Nat),
      s.Inv ∧ s.Awake ∧ s.fab.ports.length = 6 ∧ s.here = some a ∧ p < 4 ∧ (s.port p).st = .up ∧ (∀ q,
      q < 4 → q ≠ p → (s.port q).st ≠ .up) ∧ (s.port p).queue = [] ∧ (s.port p).unacked.length < 64 ∧
      1 ≤ creditsFree (s.port p) 1) ∧
    (∃ (s : State) (port : Nat) (offered : BitVec 16) (sender : Byte),
      s.Inv ∧ s.Awake ∧ s.fab.ports.length = 6 ∧ port < 4 ∧ (s.port port).st = .up ∧
      sender.toNat = oppositePort port ∧ bitOf offered.toNat 15 = false ∧ s.here = none ∧
      s.fld F.FAB_EXPECT_ADDR = offered.toNat) ∧
    (∃ (s : State) (port : Nat) (offered : BitVec 16) (sender : Byte),
      s.Inv ∧ s.Awake ∧ s.fab.ports.length = 6 ∧ port < 4 ∧ (s.port port).st = .up ∧
      sender.toNat = oppositePort port ∧ bitOf offered.toNat 15 = false ∧ s.here = some offered) ∧
    (∃ (s : State) (port : Nat) (offered : BitVec 16) (sender : Byte) (a : BitVec 16),
      s.Inv ∧ s.Awake ∧ s.fab.ports.length = 6 ∧ port < 4 ∧ (s.port port).st = .up ∧
      sender.toNat = oppositePort port ∧ bitOf offered.toNat 15 = false ∧ s.here = some a ∧ a ≠ offered ∧
      s.NoTrial ∧ (s.node = .sapling ∨ s.node = .member) ∧ s.flag F.HKP_FAULT_VALID = false) ∧
    (∃ (s : State) (rsv : BitVec 24),
      s.Inv ∧ s.Awake ∧ s.fab.ports.length = 6 ∧ rsv ≠ 0) ∧
    (∃ (s : State),
      s.Inv ∧ s.Awake ∧ s.fab.ports.length = 6 ∧ s.NoTrial ∧ (s.node = .sapling ∨ s.node = .member) ∧
      s.flag F.HKP_FAULT_VALID = false) :=
  ⟨⟨(states.getD 1 {}), by unfold State.Inv State.Awake; decide +kernel⟩,
   ⟨(states.getD 0 {}), by unfold State.Inv State.Awake; decide +kernel⟩,
   ⟨(states.getD 0 {}), by unfold State.Inv State.Awake; decide +kernel⟩,
   ⟨(states.getD 3 {}), 0x0203, 1, by unfold State.Inv State.Awake; decide +kernel⟩,
   ⟨(states.getD 2 {}), 1, 0, 3, by unfold State.Inv State.Awake; decide +kernel⟩,
   ⟨(states.getD 3 {}), 1, 0x0203, 3, by unfold State.Inv State.Awake; decide +kernel⟩,
   ⟨(states.getD 3 {}), 1, 0, 3,
       (((states.getD 3 {})).here).get (by decide +kernel), by unfold State.Inv State.NoTrial State.Awake; decide +kernel⟩,
   ⟨(states.getD 0 {}), 5, by unfold State.Inv State.Awake; decide +kernel⟩,
   ⟨(states.getD 0 {}), by unfold State.Inv State.NoTrial State.Awake; decide +kernel⟩⟩

end FabricDiscovers

namespace PacketsAccepted

def states : List State := [{}, {fab := {firstTold := true, ports := prts [(1, up {rxSeq := 255, gapNak := true}), (2, up {txSeq := 9}), (4, {up {} with st := .guestUp})], coord := some 0x0203}}, {fab := {firstTold := true, ports := prts [(1, up {gapNak := false}), (3, up {gapNak := true, held := [0,31,0,0]}), (4, {up {gapNak := true} with st := .guestUp})], coord := some 0x0203}}, {fab := {ports := prts [(1, up {gapNak := false})]}}, {fab := {srcSeq := [], coord := some 0x0203, ports := prts [(0, up {rxSeq := 255, held := [0,32,0,0], gapNak := true})]}}]

/-- Witnesses of the hypotheses of PacketsAccepted. -/
theorem witness :
    (∃ (s : State) (port : Nat) (k : XtfPacket) (a : BitVec 16),
      s.Inv ∧ s.Awake ∧ s.fab.ports.length = 6 ∧ port < 6 ∧ portCarries (s.port port) = true ∧ k.cls = 1 ∧
      port < 4 ∧ s.here = some a ∧ isGuest a = false ∧ headerOk k = true ∧ messageOk k = true ∧
      k.hops.toNat < 127 ∧ k.mode = 0 ∧ k.dst = BitVec.ofNat 32 a.toNat ∧ k.detoured = false ∧
      k.lseq = (s.port port).rxSeq ∧ (s.port port).held.getD 1 0 + creditsOf k ≤ 32) ∧
    (∃ (s : State) (port : Nat) (k : XtfPacket),
      s.Inv ∧ s.Awake ∧ s.fab.ports.length = 6 ∧ port < 6 ∧ portCarries (s.port port) = true ∧ k.cls = 1 ∧
      s.fab.firstTold = false ∧ (s.port port).gapNak = true) ∧
    (∃ (s : State) (port : Nat) (k : XtfPacket),
      s.Inv ∧ s.Awake ∧ s.fab.ports.length = 6 ∧ port < 6 ∧ portCarries (s.port port) = true ∧ k.cls = 1 ∧
      s.fab.firstTold = true ∧ (s.port port).gapNak = true) ∧
    (∃ (s : State) (port : Nat) (k : XtfPacket),
      s.Inv ∧ s.Awake ∧ s.fab.ports.length = 6 ∧ port < 6 ∧ portCarries (s.port port) = true ∧ k.cls = 1 ∧
      s.fab.firstTold = true ∧ (s.port port).gapNak = true ∧ k.lseq ≠ (s.port port).rxSeq) ∧
    (∃ (s : State) (port : Nat) (k : XtfPacket) (crc : Word),
      s.Inv ∧ s.Awake ∧ s.fab.ports.length = 6 ∧ port < 6 ∧ portCarries (s.port port) = true ∧ k.cls = 1 ∧
      s.fab.firstTold = true ∧ (s.port port).gapNak = true ∧ k.lseq ≠ (s.port port).rxSeq ∧ crc ≠ packetCrc k) ∧
    (∃ (s : State) (port : Nat) (k : XtfPacket) (p : Nat),
      s.Inv ∧ s.Awake ∧ s.fab.ports.length = 6 ∧ port < 6 ∧ portCarries (s.port port) = true ∧ k.cls = 1 ∧
      s.fab.firstTold = true ∧ (s.port port).gapNak = true ∧ p < 6 ∧ k.lseq = (s.port port).rxSeq ∧
      packetError s port k = none ∧ routeHops s (passedOn port k) = [.send p (passedOn port k)] ∧
      portCarries (s.port p) = true ∧ (s.port p).queue = [] ∧ (s.port p).unacked.length < 64 ∧
      creditsOf k ≤ creditsFree (s.port p) 1) ∧
    (∃ (s : State) (port : Nat) (k : XtfPacket),
      s.Inv ∧ s.Awake ∧ s.fab.ports.length = 6 ∧ port < 6 ∧ portCarries (s.port port) = true ∧ k.cls = 1 ∧
      s.fab.firstTold = true ∧ (s.port port).gapNak = false) ∧
    (∃ (s : State) (port : Nat) (k : XtfPacket),
      s.Inv ∧ s.Awake ∧ s.fab.ports.length = 6 ∧ port < 6 ∧ portCarries (s.port port) = true ∧ k.cls = 1 ∧
      s.fab.firstTold = true ∧ k.lseq = (s.port port).rxSeq ∧
      (routeHops s (passedOn port k)).all (fun h => match h with | .send _ _ => false | _ => true) = true) :=
  ⟨⟨(states.getD 1 {}), 1, {pk with lseq := 255}, 0x0203, by unfold State.Inv State.Awake; decide +kernel⟩,
   ⟨(states.getD 4 {}), 0, pk, by unfold State.Inv State.Awake; decide +kernel⟩,
   ⟨(states.getD 1 {}), 1, pk, by unfold State.Inv State.Awake; decide +kernel⟩,
   ⟨(states.getD 1 {}), 1, pk, by unfold State.Inv State.Awake; decide +kernel⟩,
   ⟨(states.getD 1 {}), 1, pk, 0, by unfold State.Inv State.Awake; decide +kernel⟩,
   ⟨(states.getD 1 {}), 1, {pk with lseq := 255, dst := 0x0204}, 2, by unfold State.Inv State.Awake; decide +kernel⟩,
   ⟨(states.getD 1 {}), 2, pk, by unfold State.Inv State.Awake; decide +kernel⟩,
   ⟨(states.getD 1 {}), 1, {pk with lseq := 255}, by unfold State.Inv State.Awake; decide +kernel⟩⟩

end PacketsAccepted

namespace LinksReplayAndCredit

def states : List State := [{}, {fab := {ports := prts [(1, up {unacked := [qd 3], resends := 6}), (4, {up {} with st := .guestUp})], coord := some 0x0203}}, {fab := {ports := prts [(1, up {unacked := [qd 3], resends := 7}), (4, {up {unacked := [qd 1, qd 2, qd 3], resends := 3} with st := .guestUp})]}},
  {fab := {ports := prts [(1, {up {unacked := [qd 3]} with queue := [{pkt := pk}]}), (0, up {})]}, regs := flds [(F.FAB_P_TX_COUNT 1, 0xFFFFFFFF)]}]

/-- Witnesses of the hypotheses of LinksReplayAndCredit. -/
theorem witness :
    (∃ (s : State) (port : Nat),
      s.Inv ∧ s.Awake ∧ s.fab.ports.length = 6 ∧ port < 6 ∧ portCarries (s.port port) = true ∧
      (s.port port).queue = []) ∧
    (∃ (s : State) (port : Nat) (lseq : Byte) (check : Byte),
      s.Inv ∧ s.Awake ∧ s.fab.ports.length = 6 ∧ port < 6 ∧ portCarries (s.port port) = true ∧
      (s.port port).queue = [] ∧ check ≠ 0x10 ^^^ lseq ^^^ 0xC3) ∧
    (∃ (s : State) (port : Nat) (lseq : Byte) (check : Byte),
      s.Inv ∧ s.Awake ∧ s.fab.ports.length = 6 ∧ port < 6 ∧ portCarries (s.port port) = true ∧
      (s.port port).queue = [] ∧ check ≠ 0x20 ^^^ lseq ^^^ 0xC3) ∧
    (∃ (s : State) (port : Nat),
      s.Inv ∧ s.Awake ∧ s.fab.ports.length = 6 ∧ port < 6 ∧ portCarries (s.port port) = true ∧
      (s.port port).queue = [] ∧ (s.port port).resends < 7 ∧ (s.port port).unacked ≠ []) ∧
    (∃ (s : State) (port : Nat) (k : Queued),
      s.Inv ∧ s.Awake ∧ s.fab.ports.length = 6 ∧ port < 6 ∧ portCarries (s.port port) = true ∧
      (s.port port).queue = [] ∧ (s.port port).resends = 7 ∧ (s.port port).unacked = [k] ∧ k.pkt.cls ≠ 2 ∧
      k.pkt.cls ≠ 3 ∧ (s.sds.retrains.getD port []) = []) ∧
    (∃ (s : State) (port : Nat),
      s.Inv ∧ s.Awake ∧ s.fab.ports.length = 6 ∧ port < 6 ∧ portCarries (s.port port) = true ∧
      (s.port port).queue = [] ∧ (s.port port).unacked = []) ∧
    (∃ (s : State) (port : Nat) (c1 : Byte),
      s.Inv ∧ s.Awake ∧ s.fab.ports.length = 6 ∧ port < 6 ∧ portCarries (s.port port) = true ∧
      (s.port port).queue = [] ∧ c1.toNat < 4 ∧ (s.port port).creditLimit.length = 4) ∧
    (∃ (s : State) (port : Nat) (c1 : Byte) (value : Byte) (check : Byte),
      s.Inv ∧ s.Awake ∧ s.fab.ports.length = 6 ∧ port < 6 ∧ portCarries (s.port port) = true ∧
      (s.port port).queue = [] ∧ (4 ≤ c1.toNat ∨ check ≠ c1 ^^^ value ^^^ 0xC3)) :=
  ⟨⟨(states.getD 1 {}), 1, by unfold State.Inv State.Awake; decide +kernel⟩,
   ⟨(states.getD 1 {}), 1, 0, 0, by unfold State.Inv State.Awake; decide +kernel⟩,
   ⟨(states.getD 1 {}), 1, 0, 0, by unfold State.Inv State.Awake; decide +kernel⟩,
   ⟨(states.getD 1 {}), 1, by unfold State.Inv State.Awake; decide +kernel⟩,
   ⟨(states.getD 2 {}), 1, qd 3, by unfold State.Inv State.Awake; decide +kernel⟩,
   ⟨(states.getD 1 {}), 4, by unfold State.Inv State.Awake; decide +kernel⟩,
   ⟨(states.getD 1 {}), 1, 0, by unfold State.Inv State.Awake; decide +kernel⟩,
   ⟨(states.getD 1 {}), 1, 0, 0, 0, by unfold State.Inv State.Awake; decide +kernel⟩⟩

end LinksReplayAndCredit

namespace LinksFailAndGuestsCome

def states : List State := [{}, {sds := xl, tim := {doms := roots}, fab := {coord := some 0x0203, ports := prts [(1, {st := .down, downSince := some 5}), (2, up {}), (4, {st := .down, downSince := some 5})]}, regs := flds [(F.FAB_ROLE_PORT_EN, 0x1F)]},
 {tim := {doms := roots}, fab := {coord := some 0x0203, links := [{down := true, stamp := 0}, {stamp := 0}, {down := true, stamp := 9}], guests := [{}, {guest := 0x8001, host := 0x203, port := 5, stamp := 90}], ports := prts [(1, {st := .down, downSince := some 5}), (2, up {}), (4, {st := .guestUp}), (5, {st := .guestUp})]}, regs := flds [(F.FAB_ROLE_PORT_EN, 0x1F), (F.FAB_GUEST_ID_X1_ID, 1), (F.FAB_GUEST_ID_X2_ID, 2)]},
 {tim := {doms := roots}, fab := {coord := some 0x0203, ports := prts [(5, {st := .guestUp})]}, regs := flds [(F.FAB_ROLE_PORT_EN, 0x2F), (F.FAB_GUEST_ID_X1_ID, 2), (F.FAB_GUEST_ID_X2_ID, 1)]}, 
 {sds := xl, tim := {doms := roots}, fab := {coord := some 0x0203, ports := prts [(5, {st := .down, downSince := some 5})]}, regs := flds [(F.FAB_ROLE_PORT_EN, 0x2F), (F.FAB_GUEST_ID_X1_ID, 2), (F.FAB_GUEST_ID_X2_ID, 1)]}]

/-- Witnesses of the hypotheses of LinksFailAndGuestsCome. -/
theorem witness :
    (∃ (s : State) (a : BitVec 16) (stamp : Time) (p : Nat) (t0 : Time),
      s.Inv ∧ s.Awake ∧ s.fab.ports.length = 6 ∧ s.here = some a ∧ (∀ d, (s.dom d).st = .root ∧
      s.children d = []) ∧ p < 4 ∧ bitOf (s.fld F.FAB_ROLE_PORT_EN) p = true ∧
      ((s.port p).st = .down ∨ (s.port p).st = .training) ∧ (s.port p).downSince = some t0 ∧
      stamp < t0 + (s.fld F.FAB_TIMING_DOWN_REPORT : Int) * 256000) ∧
    (∃ (s : State) (a : BitVec 16) (stamp : Time) (p : Nat) (t0 : Time),
      s.Inv ∧ s.Awake ∧ s.fab.ports.length = 6 ∧ s.here = some a ∧ (∀ d, (s.dom d).st = .root ∧
      s.children d = []) ∧ p < 4 ∧ bitOf (s.fld F.FAB_ROLE_PORT_EN) p = true ∧
      ((s.port p).st = .down ∨ (s.port p).st = .training) ∧ (s.port p).downSince = some t0 ∧
      t0 + (s.fld F.FAB_TIMING_DOWN_REPORT : Int) * 256000 ≤ stamp ∧ s.fab.links = []) ∧
    (∃ (s : State) (a : BitVec 16) (m : LinkMsg),
      s.Inv ∧ s.Awake ∧ s.fab.ports.length = 6 ∧ s.here = some a ∧ (∀ d, (s.dom d).st = .root ∧
      s.children d = []) ∧ m.rsv = 0 ∧ m.down.toNat ≤ 1 ∧ m.port.toNat ≤ 3 ∧ s.fab.links = []) ∧
    (∃ (s : State) (a : BitVec 16) (m : LinkMsg),
      s.Inv ∧ s.Awake ∧ s.fab.ports.length = 6 ∧ s.here = some a ∧ (∀ d, (s.dom d).st = .root ∧
      s.children d = []) ∧ (m.rsv ≠ 0 ∨ 1 < m.down.toNat ∨ 3 < m.port.toNat)) ∧
    (∃ (s : State) (a : BitVec 16),
      s.Inv ∧ s.Awake ∧ s.fab.ports.length = 6 ∧ s.here = some a ∧ (∀ d, (s.dom d).st = .root ∧ s.children d = [])) ∧
    (∃ (s : State) (a : BitVec 16) (p : Nat),
      s.Inv ∧ s.Awake ∧ s.fab.ports.length = 6 ∧ s.here = some a ∧ (∀ d, (s.dom d).st = .root ∧
      s.children d = []) ∧ (p = 4 ∨ p = 5) ∧ (s.port p).queue = [] ∧ (s.port p).unacked = [] ∧
      bitOf (s.fld F.FAB_ROLE_PORT_EN) p = true ∧ (s.port p).st = .down ∧ s.fab.guests = [] ∧
      (portLanes p).all (fun i => (s.lane i).st == .active) = true) ∧
    (∃ (s : State) (a : BitVec 16) (stamp : Time) (p : Nat) (t0 : Time),
      s.Inv ∧ s.Awake ∧ s.fab.ports.length = 6 ∧ s.here = some a ∧ (∀ d, (s.dom d).st = .root ∧
      s.children d = []) ∧ (p = 4 ∨ p = 5) ∧ (s.port p).queue = [] ∧ (s.port p).unacked = [] ∧
      (s.port p).st = .down ∧ (s.port p).downSince = some t0 ∧
      t0 + (s.fld F.FAB_TIMING_DOWN_REPORT : Int) * 256000 ≤ stamp) ∧
    (∃ (s : State) (a : BitVec 16) (m : GuestMsg),
      s.Inv ∧ s.Awake ∧ s.fab.ports.length = 6 ∧ s.here = some a ∧ (∀ d, (s.dom d).st = .root ∧
      s.children d = []) ∧ m.rsv = 0 ∧ (m.port = 4 ∨ m.port = 5) ∧ (∀ p, (s.port p).st ≠ .guestUp) ∧ m.gone = 0 ∧
      s.fab.guests = []) ∧
    (∃ (s : State) (a : BitVec 16) (m : GuestMsg) (p : Nat),
      s.Inv ∧ s.Awake ∧ s.fab.ports.length = 6 ∧ s.here = some a ∧ (∀ d, (s.dom d).st = .root ∧
      s.children d = []) ∧ m.rsv = 0 ∧ (m.port = 4 ∨ m.port = 5) ∧ m.gone = 0 ∧ (p = 4 ∨ p = 5) ∧
      (s.port p).st = .guestUp ∧ m.guest = s.guestAddr p ∧ m.host.toNat < a.toNat ∧ (s.port p).queue = [] ∧
      (s.port p).unacked = [] ∧ s.guestAddr 4 ≠ s.guestAddr 5) :=
  ⟨⟨(states.getD 1 {}), 0x0203, 5, 1, 5, by unfold State.Inv State.Awake; decide +kernel⟩,
   ⟨(states.getD 1 {}), 0x0203, 3500000000 * 256, 1, 5, by unfold State.Inv State.Awake; decide +kernel⟩,
   ⟨(states.getD 1 {}),
       0x0203, {addr := 4, port := 2, down := 1, reporter := 3}, by unfold State.Inv State.Awake; decide +kernel⟩,
   ⟨(states.getD 1 {}), 0x0203, {rsv := 1}, by unfold State.Inv State.Awake; decide +kernel⟩,
   ⟨(states.getD 1 {}), 0x0203, by unfold State.Inv State.Awake; decide +kernel⟩,
   ⟨(states.getD 1 {}), 0x0203, 4, by unfold State.Inv State.Awake; decide +kernel⟩,
   ⟨(states.getD 1 {}), 0x0203, 3500000000 * 256, 4, 5, by unfold State.Inv State.Awake; decide +kernel⟩,
   ⟨(states.getD 1 {}),
       0x0203, {guest := 0x8001, host := 0x0100, port := 4}, by unfold State.Inv; decide +kernel, by unfold State.Awake; decide +kernel, by decide +kernel, by decide +kernel, by decide +kernel, by decide +kernel, by decide +kernel, noGuest_of (by decide +kernel), by decide +kernel, by decide +kernel⟩,
   ⟨(states.getD 2 {}), 0x0203, {guest := 0x8001, host := 0x0100, port := 4},
       4, by unfold State.Inv State.Awake; decide +kernel⟩⟩

end LinksFailAndGuestsCome

end FabricLinks

namespace CanopyTime

def up (q : Port) : Port := { q with st := .up, creditLimit := [9,9,9,9] }
def prts (l : List (Nat × Port)) : List Port := (List.range 6).map (fun i => (l.lookup i).getD {})
def cd : Candidate := {stamp := 4, root := 0, depth := 3, timed := true}
def en (l : List (Fld × Nat)) : List (Nat × Word) := flds ((F.TIM_CTRL_ENABLE, 1) :: (F.TIM_ASYM_VALID 1, 1) :: l)

namespace TreesFormAndBreak

def states : List State := [{}, {tim := {beta := 5}}, {fab := {coord := some 0}}, {tim := {now := 77, doms := [{st := .holdover, since := 3, base := 3, offset := 99999, track := 50000000, corr := 3000000}, {st := .root, track := 77777777, corr := -444, offset := 70000000}], beta := -999999999}}, {tim := {doms := [{st := .root, cands := []}, {st := .root, cands := []}]}, regs := en [], fab := {coord := some 0x0203, ports := prts [(1, up {}), (2, {})]}},
  {regs := en [], fab := {coord := some 0x0203, ports := prts [(1, up {}), (2, {})]}}, {regs := en [], tim := {doms := [{st := .locked, parent := some 1}, {st := .acquire, parent := some 2}]}}, 
  {tim := {doms := [{st := .holdover, parent := some 1, offset := 7}, {st := .locked, offset := -9}]}}, {tim := {follow := true, doms := [{st := .holdover, parent := some 1}, {st := .acquire}]}},
  {node := .member, tim := {follow := true, doms := [{st := .holdover, parent := some 1}, {st := .free}]}},{node := .member, tim := {follow := true, doms := [{st := .free, parent := some 1}, {st := .holdover}]}}, {tim := {follow := true, doms := [{st := .holdover, parent := some 1}, {st := .acquire}]}}]

/-- Witnesses of the hypotheses of TreesFormAndBreak. -/
theorem witness :
    (∃ (s : State) (d : Bool),
      s.Inv ∧ s.Awake ∧ s.tim.doms.length = 2 ∧ s.fab.ports.length = 6 ∧ s.flag F.TIM_CTRL_ENABLE = false ∧
      s.here = some (s.rootOf d)) ∧
    (∃ (s : State),
      s.Inv ∧ s.Awake ∧ s.tim.doms.length = 2 ∧ s.fab.ports.length = 6 ∧ s.flag F.TIM_CTRL_ENABLE = false ∧
      s.here = none) ∧
    (∃ (s : State),
      s.Inv ∧ s.Awake ∧ s.tim.doms.length = 2 ∧ s.fab.ports.length = 6 ∧ s.flag F.TIM_CTRL_ENABLE = false) ∧
    (∃ (s : State) (d : Bool) (p : Nat),
      s.Inv ∧ s.Awake ∧ s.tim.doms.length = 2 ∧ s.fab.ports.length = 6 ∧ s.flag F.TIM_CTRL_ENABLE = true ∧
      (s.dom d).st = .root ∧ (s.dom d).parent = none ∧ (s.dom d).cands = [] ∧ p < 4 ∧ s.timePort p = true ∧ (∀ q,
      q < 4 → q ≠ p → s.timePort q = false) ∧ (s.port p).queue = [] ∧ 1 ≤ creditsFree (s.port p) 0) ∧
    (∃ (s : State) (d : Bool) (p : Nat) (m : AnnounceMsg),
      s.Inv ∧ s.Awake ∧ s.tim.doms.length = 2 ∧ s.fab.ports.length = 6 ∧ s.flag F.TIM_CTRL_ENABLE = true ∧ p < 4 ∧
      m.rsv = 0 ∧ m.domain = d ∧ (s.dom d).st = .free ∧ (s.dom d).parent = none ∧ (s.dom d).cands = [none, none,
      none, none] ∧ s.timePort p = true ∧ m.timed = true ∧ m.parent = false ∧ m.depth ≤ 63 ∧ m.root = s.rootOf d) ∧
    (∃ (s : State) (p : Nat) (m : AnnounceMsg),
      s.Inv ∧ s.Awake ∧ s.tim.doms.length = 2 ∧ s.fab.ports.length = 6 ∧ s.flag F.TIM_CTRL_ENABLE = true ∧ p < 4 ∧
      (m.rsv ≠ 0 ∨ 64 < m.depth)) ∧
    (∃ (s : State) (d : Bool) (stamp : Time) (p : Nat),
      s.Inv ∧ s.Awake ∧ s.tim.doms.length = 2 ∧ s.fab.ports.length = 6 ∧ (s.dom d).parent = some p ∧ (∀ q,
      s.isCandidate d q stamp = false) ∧ (s.dom d).st = .locked) ∧
    (∃ (s : State) (d : Bool) (stamp : Time) (p : Nat),
      s.Inv ∧ s.Awake ∧ s.tim.doms.length = 2 ∧ s.fab.ports.length = 6 ∧ (s.dom d).parent = some p ∧ (∀ q,
      s.isCandidate d q stamp = false) ∧ (s.dom d).st = .acquire ∧ s.tim.follow = (!d) ∧ (s.dom (!d)).st ≠ .free) ∧
    (∃ (s : State) (d : Bool),
      s.Inv ∧ s.Awake ∧ s.tim.doms.length = 2 ∧ s.fab.ports.length = 6 ∧ (s.dom d).parent = none) ∧
    (∃ (s : State) (d : Bool) (stamp : Time),
      s.Inv ∧ s.Awake ∧ s.tim.doms.length = 2 ∧ s.fab.ports.length = 6 ∧ (s.dom d).expired stamp = false) ∧
    (∃ (s : State) (d : Bool) (stamp : Time),
      s.Inv ∧ s.Awake ∧ s.tim.doms.length = 2 ∧ s.fab.ports.length = 6 ∧ (s.dom d).st = .holdover ∧
      (s.dom d).since + 100000000 * 256 ≤ stamp ∧ s.tim.follow = (!d) ∧ (s.dom (!d)).st ≠ .free) ∧
    (∃ (s : State) (d : Bool) (stamp : Time),
      s.Inv ∧ s.Awake ∧ s.tim.doms.length = 2 ∧ s.fab.ports.length = 6 ∧ (s.dom d).st = .holdover ∧
      (s.dom d).since + 100000000 * 256 ≤ stamp ∧ s.tim.follow = d ∧ (s.dom (!d)).lock = true ∧
      (s.dom (!d)).expired stamp = false) ∧
    (∃ (s : State) (d : Bool) (stamp : Time),
      s.Inv ∧ s.Awake ∧ s.tim.doms.length = 2 ∧ s.fab.ports.length = 6 ∧ (s.dom d).st = .holdover ∧
      (s.dom d).since + 100000000 * 256 ≤ stamp ∧ (s.dom (!d)).st = .free ∧ s.node = .member ∧ s.NoTrial ∧
      s.flag F.HKP_FAULT_VALID = false) :=
  ⟨⟨(states.getD 2 {}), false, by unfold State.Inv State.Awake; decide +kernel⟩,
   ⟨(states.getD 0 {}), by unfold State.Inv State.Awake; decide +kernel⟩,
   ⟨(states.getD 0 {}), by unfold State.Inv State.Awake; decide +kernel⟩,
   ⟨(states.getD 4 {}), false, 1, by unfold State.Inv State.Awake; decide +kernel⟩,
   ⟨(states.getD 5 {}), false, 1, {timed := true, depth := 63}, by unfold State.Inv State.Awake; decide +kernel⟩,
   ⟨(states.getD 4 {}), 0, {depth := 65}, by unfold State.Inv State.Awake; decide +kernel⟩,
   ⟨(states.getD 6 {}), false, 5,
       ((((states.getD 6 {})).dom (false)).parent).get (by decide +kernel), by unfold State.Inv; decide +kernel, by unfold State.Awake; decide +kernel, by decide +kernel, by decide +kernel, by decide +kernel, noCandidate_of (by decide +kernel), by decide +kernel⟩,
   ⟨(states.getD 6 {}), true, 5,
       ((((states.getD 6 {})).dom (true)).parent).get (by decide +kernel), by unfold State.Inv; decide +kernel, by unfold State.Awake; decide +kernel, by decide +kernel, by decide +kernel, by decide +kernel, noCandidate_of (by decide +kernel), by decide +kernel, by decide +kernel, by decide +kernel⟩,
   ⟨(states.getD 0 {}), false, by unfold State.Inv State.Awake; decide +kernel⟩,
   ⟨(states.getD 0 {}), false, 5, by unfold State.Inv State.Awake; decide +kernel⟩,
   ⟨(states.getD 8 {}), false, 100000000 * 256, by unfold State.Inv State.Awake; decide +kernel⟩,
   ⟨(states.getD 7 {}), false, 100000000 * 256, by unfold State.Inv State.Awake; decide +kernel⟩,
   ⟨(states.getD 9 {}), false, 100000000 * 256, by unfold State.Inv State.NoTrial State.Awake; decide +kernel⟩⟩

end TreesFormAndBreak

namespace ExchangesLockDomains

def states : List State := [{}, {regs := en []}, {regs := en [(F.TIM_ASYM_MEAS 1, 0xFFF)], tim := {doms := [{st := .acquire, parent := some 1, xid := 65535, t1 := some (-7)}, {st := .acquire, parent := some 1, t1 := some 4, xid := 1, offset := 5}]}, fab := {coord := some 0x0203, ports := prts [(1, up {}), (2, {})]}},
  {regs := en [(F.TIM_ASYM_MEAS 1, 0x7FF)], tim := {doms := [{st := .acquire, stepped := true, parent := some 1, xid := 65535, t1 := some (-7), ds := List.replicate 15 128}, {st := .acquire, parent := some 1, t1 := some 4, xid := 1, offset := 5, ds := List.replicate 16 1}]}, fab := {coord := some 0x0203, ports := prts [(1, up {}), (2, {})]}}]

/-- Witnesses of the hypotheses of ExchangesLockDomains. -/
theorem witness :
    (∃ (s : State) (d : Bool) (p : Nat),
      s.Inv ∧ s.Awake ∧ s.tim.doms.length = 2 ∧ s.fab.ports.length = 6 ∧ p < 4 ∧ s.flag F.TIM_CTRL_ENABLE = true ∧
      (s.dom d).parent = none) ∧
    (∃ (s : State) (d : Bool) (p : Nat),
      s.Inv ∧ s.Awake ∧ s.tim.doms.length = 2 ∧ s.fab.ports.length = 6 ∧ p < 4 ∧ s.flag F.TIM_CTRL_ENABLE = true ∧
      portCarries (s.port p) = true ∧ (s.port p).queue = [] ∧ 1 ≤ creditsFree (s.port p) 0 ∧
      (s.dom d).parent = some p) ∧
    (∃ (s : State) (p : Nat),
      s.Inv ∧ s.Awake ∧ s.tim.doms.length = 2 ∧ s.fab.ports.length = 6 ∧ p < 4 ∧ s.flag F.TIM_CTRL_ENABLE = true ∧
      portCarries (s.port p) = true ∧ (s.port p).queue = [] ∧ 1 ≤ creditsFree (s.port p) 0) ∧
    (∃ (s : State) (d : Bool) (p : Nat) (xid : BitVec 16),
      s.Inv ∧ s.Awake ∧ s.tim.doms.length = 2 ∧ s.fab.ports.length = 6 ∧ p < 4 ∧ s.flag F.TIM_CTRL_ENABLE = true ∧
      (s.dom d).t1 = none ∨ xid ≠ (s.dom d).xid ∨ (s.dom d).parent ≠ some p) ∧
    (∃ (s : State) (d : Bool) (p : Nat) (t1 : Time) (loc : Time),
      s.Inv ∧ s.Awake ∧ s.tim.doms.length = 2 ∧ s.fab.ports.length = 6 ∧ p < 4 ∧ s.flag F.TIM_CTRL_ENABLE = true ∧
      (s.dom d).t1 = some t1 ∧ (s.dom d).parent = some p ∧ timeDiff (loc + (s.dom d).ofs loc) t1 ≤ 20000 * 256 ∧
      (s.dom d).st = .acquire ∧ (s.dom d).stepped = false ∧ (s.dom d).ds = [] ∧ (s.dom d).thetas = []) ∧
    (∃ (s : State) (d : Bool) (p : Nat) (t1 : Time) (t2 : Time) (t3 : Time) (loc : Time),
      s.Inv ∧ s.Awake ∧ s.tim.doms.length = 2 ∧ s.fab.ports.length = 6 ∧ p < 4 ∧ s.flag F.TIM_CTRL_ENABLE = true ∧
      (s.dom d).t1 = some t1 ∧ (s.dom d).parent = some p ∧ timeDiff (loc + (s.dom d).ofs loc) t1 ≤ 20000 * 256 ∧
      (s.dom d).st = .acquire ∧ 15 ≤ (s.dom d).ds.length ∧
      spanInt ((exchD t1 t2 t3 (loc + (s.dom d).ofs loc) :: (s.dom d).ds).take 16) ≤ 128) :=
  ⟨⟨(states.getD 1 {}), false, 0, by unfold State.Inv State.Awake; decide +kernel⟩,
   ⟨(states.getD 2 {}), false, 1, by unfold State.Inv State.Awake; decide +kernel⟩,
   ⟨(states.getD 2 {}), 1, by unfold State.Inv State.Awake; decide +kernel⟩,
   ⟨(states.getD 1 {}), false, 0, 0, by unfold State.Inv State.Awake; decide +kernel⟩,
   ⟨(states.getD 2 {}), false, 1, ((((states.getD 2 {})).dom (false)).t1).get (by decide +kernel),
       5, by unfold State.Inv State.Awake; decide +kernel⟩,
   ⟨(states.getD 3 {}), false, 1, ((((states.getD 3 {})).dom (false)).t1).get (by decide +kernel), 5, 5,
       5, by unfold State.Inv State.Awake; decide +kernel⟩⟩

end ExchangesLockDomains

namespace HouseTimeAndCaptures

def ch (l : List CapChannel) : List CapChannel := (List.range 9).map (fun i => l.getD i {})
def pt (l : List (Fld × Nat)) : List (Nat × Word) := flds (l ++ [(F.TIM_CTRL_PTP_EN, 1), (F.TIM_PTP_PHY_RX, 9),
    (F.TIM_PTP_PHY_TX, 2), (F.TIM_PTP_CFG_DOMAIN, 3), (F.TIM_CAP_CTRL_ENABLE 1, 1), (F.TIM_CAP_CTRL_ALWAYS 1, 1),
    (F.TIM_CAP_CTRL_EDGE 1, 3), (F.TIM_CAP_CTRL_ENABLE 2, 1), (F.TIM_CAP_CTRL_ALWAYS 2, 1), (F.TIM_CAP_CTRL_EDGE 2,
    3), (F.MGT_CTRL_ENABLE, 1)])
def states : List State := (List.map (fun (s : State) => {s with ctl := {s.ctl with mgtLink := true}}) [{}, {regs := pt [], tim := {houseGood := 15, meanDelay := 5, syncT2 := some 5000000}}, {regs := pt [], tim := {house := true, houseGood := 15, meanDelay := 5, syncT2 := some 5000000}}, 
  {regs := pt [], tim := {master := some [3], syncT1 := some 4, house := true, houseGood := 15, meanDelay := 5, syncT2 := some 5000000, caps := ch [{queue := [{ns := 4}, {frac := 1}]}, {queue := List.replicate 16 {ns := 7, rising := true, domain := true, frac := 0xff}}, {last := some 5}]}}])

/-- Witnesses of the hypotheses of HouseTimeAndCaptures. -/
theorem witness :
    (∃ (s : State),
      s.Inv ∧ s.Awake ∧ s.flag F.TIM_CTRL_PTP_EN = true ∧ s.mgtRuns = true) ∧
    (∃ (s : State) (origin : Int) (t2 : Int),
      s.Inv ∧ s.Awake ∧ s.flag F.TIM_CTRL_PTP_EN = true ∧ s.mgtRuns = true ∧ s.tim.house = false ∧
      s.tim.houseGood = 15 ∧ (t2 - (s.fld F.TIM_PTP_PHY_RX : Int) - origin - s.tim.meanDelay).natAbs ≤ 1000 * 256) ∧
    (∃ (s : State) (origin : Int) (t2 : Int),
      s.Inv ∧ s.Awake ∧ s.flag F.TIM_CTRL_PTP_EN = true ∧ s.mgtRuns = true ∧ s.tim.syncT1 = none ∧
      s.tim.syncT2 = some t2 ∧ s.tim.house = true ∧ 10000 * 256 < (t2 - origin - s.tim.meanDelay).natAbs) ∧
    (∃ (s : State) (seq : BitVec 16),
      s.Inv ∧ s.Awake ∧ s.flag F.TIM_CTRL_PTP_EN = true ∧ s.mgtRuns = true ∧ seq ≠ s.tim.syncSeq) ∧
    (∃ (s : State) (t1 : Int) (t2 : Int),
      s.Inv ∧ s.Awake ∧ s.flag F.TIM_CTRL_PTP_EN = true ∧ s.mgtRuns = true ∧ s.tim.syncT1 = some t1 ∧
      s.tim.syncT2 = some t2) ∧
    (∃ (s : State) (dn : Byte),
      s.Inv ∧ s.Awake ∧ s.flag F.TIM_CTRL_PTP_EN = true ∧ s.mgtRuns = true ∧ dn.toNat ≠ s.fld F.TIM_PTP_CFG_DOMAIN) ∧
    (∃ (s : State) (dn : Byte) (ds : List Nat),
      s.Inv ∧ s.Awake ∧ s.flag F.TIM_CTRL_PTP_EN = true ∧ s.mgtRuns = true ∧
      dn.toNat = s.fld F.TIM_PTP_CFG_DOMAIN ∧ (∀ m, s.tim.master = some m → betterMaster ds m = true)) ∧
    (∃ (s : State),
      s.Inv ∧ s.Awake ∧ s.tim.house = true) ∧
    (∃ (s : State) (c : Nat),
      s.Inv ∧ s.Awake ∧ c < 9 ∧ s.flag (F.TIM_CAP_CTRL_ENABLE c) = false) ∧
    (∃ (s : State) (c : Nat) (stamp : Time),
      s.Inv ∧ s.Awake ∧ c < 9 ∧ s.tim.caps.length = 9 ∧ s.flag (F.TIM_CAP_CTRL_ENABLE c) = true ∧
      s.flag (F.TIM_CAP_CTRL_ALWAYS c) = true ∧ s.fld (F.TIM_CAP_CTRL_EDGE c) = 3 ∧ (∀ u,
      (s.cap c).last = some u → 4 * 256 ≤ stamp - u) ∧ (s.cap c).queue = []) ∧
    (∃ (s : State) (c : Nat) (stamp : Time),
      s.Inv ∧ s.Awake ∧ c < 9 ∧ s.tim.caps.length = 9 ∧ s.flag (F.TIM_CAP_CTRL_ENABLE c) = true ∧
      s.flag (F.TIM_CAP_CTRL_ALWAYS c) = true ∧ s.fld (F.TIM_CAP_CTRL_EDGE c) = 3 ∧ (∀ u,
      (s.cap c).last = some u → 4 * 256 ≤ stamp - u) ∧ (s.cap c).queue.length = 16) ∧
    (∃ (s : State) (c : Nat),
      s.Inv ∧ s.Awake ∧ c < 9 ∧ (s.cap c).queue = []) ∧
    (∃ (s : State) (c : Nat) (r : CapRecord) (rest : List CapRecord),
      s.Inv ∧ s.Awake ∧ c < 9 ∧ s.tim.caps.length = 9 ∧ (s.cap c).queue = r :: rest ∧ rest.length < 16) ∧
    (∃ (s : State),
      s.Inv ∧ s.Awake) :=
  ⟨⟨(states.getD 1 {}), by unfold State.Inv State.Awake; decide +kernel⟩,
   ⟨(states.getD 1 {}), 5000000, 5000000, by unfold State.Inv State.Awake; decide +kernel⟩,
   ⟨(states.getD 2 {}), 5, 5000000, by unfold State.Inv State.Awake; decide +kernel⟩,
   ⟨(states.getD 1 {}), 1, by unfold State.Inv State.Awake; decide +kernel⟩,
   ⟨(states.getD 3 {}), (((states.getD 3 {})).tim.syncT1).get (by decide +kernel),
       (((states.getD 3 {})).tim.syncT2).get (by decide +kernel), by unfold State.Inv State.Awake; decide +kernel⟩,
   ⟨(states.getD 1 {}), 0, by unfold State.Inv State.Awake; decide +kernel⟩,
   ⟨(states.getD 1 {}), 3, [3], by unfold State.Inv State.Awake; decide +kernel⟩,
   ⟨(states.getD 2 {}), by unfold State.Inv State.Awake; decide +kernel⟩,
   ⟨(states.getD 0 {}), 1, by unfold State.Inv State.Awake; decide +kernel⟩,
   ⟨(states.getD 1 {}), 1, 5000000, by unfold State.Inv State.Awake; decide +kernel⟩,
   ⟨(states.getD 3 {}), 1, 5000000, by unfold State.Inv State.Awake; decide +kernel⟩,
   ⟨(states.getD 0 {}), 1, by unfold State.Inv State.Awake; decide +kernel⟩,
   ⟨(states.getD 3 {}), 1, ((((states.getD 3 {})).cap (1)).queue.head?).get (by decide +kernel),
       ((some (((states.getD 3 {})).cap (1)).queue.tail)).get (by decide +kernel), by unfold State.Inv State.Awake; decide +kernel⟩,
   ⟨(states.getD 0 {}), by unfold State.Inv State.Awake; decide +kernel⟩⟩

end HouseTimeAndCaptures

end CanopyTime

namespace FrameCommit

def up (q : Port) : Port := { q with st := .up, creditLimit := [9,9,9,9] }
def prts (l : List (Nat × Port)) : List Port := (List.range 6).map (fun i => (l.lookup i).getD {})
def cd : Candidate := {stamp := 4, root := 0, depth := 3, timed := true}
def en (l : List (Fld × Nat)) : List (Nat × Word) := flds ((F.CMT_CTRL_ENABLE, 1) :: (F.CMT_HOLD_LIMIT_LIMIT, 2) :: l)
def cf : Fabric := {coord := some 0x0203, ports := prts [(1, up {txSeq := 3})]}
def rt (l : List (Fld × Nat)) : List (Nat × Word) := en ((F.TIM_ROOT_ROOT_A, 0x0203) :: (F.TIM_ROOT_ROOT_B,
    0x0203) :: l)
def rtx (l : List (Fld × Nat)) : List (Nat × Word) := en ((F.TIM_ROOT_ROOT_A, 0x0203) :: (F.TIM_ROOT_ROOT_B,
    0x0204) :: l)
def doms : List Domain := [{st := .root}, {st := .root}]
def fullE (n : Fsn) : Epoch := {fsn := n, st := .synthesised, opened := true}

namespace VotesAreCastAndGathered

def states : List State := [{}, {node := .member, regs := en [], ctl := {pend := 7}}, {node := .member, regs := en [], ing := {epochs := [{fsn := 1}]}}, {tim := {doms := [{parent := some 1}, {parent := some 1}]}, fab := cf, regs := en []}, 
   {fab := cf, regs := rt [], cmt := {s := 1}}, {fab := cf, regs := rt [], cmt := {s := 0, sent := [(true, 1), (false, 2)]}}]

/-- Witnesses of the hypotheses of VotesAreCastAndGathered. -/
theorem witness :
    (∃ (s : State),
      s.Inv ∧ s.Awake ∧ s.node ≠ .member) ∧
    (∃ (s : State),
      s.Inv ∧ s.Awake ∧ s.node = .member ∧ s.flag F.CMT_CTRL_ENABLE = true ∧ s.voteFor s.N = none ∧
      s.epoch s.N = none ∧ (∀ d, (s.dom d).parent = none)) ∧
    (∃ (s : State) (d : Bool),
      s.Inv ∧ s.Awake ∧ (s.flag F.CMT_CTRL_ENABLE = false ∨ s.voteSent d s.N = true)) ∧
    (∃ (s : State) (d : Bool) (p : Nat) (a : BitVec 16),
      s.Inv ∧ s.Awake ∧ s.flag F.CMT_CTRL_ENABLE = true ∧ s.voteSent d s.N = false ∧ (s.dom d).parent = some p ∧
      p < 4 ∧ s.fab.ports.length = 6 ∧ s.here = some a ∧ s.linkUsable (addrX a) (addrY a) p = true ∧
      (s.port p).queue = [] ∧ (s.port p).unacked.length < 64 ∧ 1 ≤ creditsFree (s.port p) 1) ∧
    (∃ (s : State) (d : Bool) (n : Fsn) (stamp : Time),
      s.Inv ∧ s.Awake ∧ s.flag F.CMT_CTRL_ENABLE = true ∧ s.voteLate d n stamp = true) ∧
    (∃ (s : State) (d : Bool) (n : Fsn) (stamp : Time),
      s.Inv ∧ s.Awake ∧ s.flag F.CMT_CTRL_ENABLE = true ∧ s.voteLate d n stamp = false ∧ (s.dom d).parent = none) ∧
    (∃ (s : State) (src : BitVec 16) (n : Fsn) (stamp : Time),
      s.Inv ∧ s.Awake ∧ s.isDecider = true ∧ s.flag F.CMT_CTRL_ENABLE = true ∧ src = s.rootB ∧
      laterFsn n s.S = true ∧ s.cmt.decider.made = none ∧ s.cmt.decider.fwd.lookup n = none ∧ s.decideAt n ≤ stamp) ∧
    (∃ (s : State) (src : BitVec 16) (n : Fsn) (stamp : Time),
      s.Inv ∧ s.Awake ∧ s.isDecider = true ∧ s.flag F.CMT_CTRL_ENABLE = true ∧ src = s.rootB ∧
      laterFsn n s.S = true ∧ s.cmt.decider.made = none ∧ s.cmt.decider.fwd.lookup n = none ∧ stamp < s.decideAt n) :=
  ⟨⟨(states.getD 0 {}), by unfold State.Inv State.Awake; decide +kernel⟩,
   ⟨(states.getD 1 {}), by unfold State.Inv State.Awake; decide +kernel⟩,
   ⟨(states.getD 0 {}), false, by unfold State.Inv State.Awake; decide +kernel⟩,
   ⟨(states.getD 3 {}), false, 1, 0x203, by unfold State.Inv State.Awake; decide +kernel⟩,
   ⟨(states.getD 1 {}), false, 0, 5, by unfold State.Inv State.Awake; decide +kernel⟩,
   ⟨(states.getD 1 {}), false, 1, 5, by unfold State.Inv State.Awake; decide +kernel⟩,
   ⟨(states.getD 4 {}), 0x203, 2, 1000000000000, by unfold State.Inv State.Awake; decide +kernel⟩,
   ⟨(states.getD 4 {}), 0x203, 2, 5, by unfold State.Inv State.Awake; decide +kernel⟩⟩

end VotesAreCastAndGathered

namespace ScreenCommandsTaken

def states : List State := [{}, {fab := cf, regs := rt [], tim := {doms := doms}, cmt := {reqId := 7}},
     {fab := cf, regs := rt [], tim := {doms := doms}, cmt := {reqId := 7, decider := {trigger := true, darkStanding := true, seenReqs := [(1,0), (0x203,0)], lateCmds := [3]}}}, {fab := cf, regs := rtx [], cmt := {decider := {darkStanding := true}}}]

/-- Witnesses of the hypotheses of ScreenCommandsTaken. -/
theorem witness :
    (∃ (s : State) (a : BitVec 16) (stamp : Time) (c : Instr) (cmd : Nat),
      s.Inv ∧ s.Awake ∧ s.Alone a ∧ s.cmt.decider.seenReqs.contains (a, s.cmt.reqId) = false ∧
      s.cmt.decider.made = none ∧ (c, cmd) ∈ [(Instr.slateTrigger stamp, 1), (.slateRelease stamp, 2),
      (.darkOn stamp, 3), (.darkOff stamp, 4)]) ∧
    (∃ (s : State) (src : BitVec 16) (id : BitVec 32),
      s.Inv ∧ s.Awake ∧ (s.isDecider = false ∨ s.cmt.decider.seenReqs.contains (src, id) = true)) ∧
    (∃ (s : State) (src : BitVec 16) (id : BitVec 32),
      s.Inv ∧ s.Awake ∧ s.isDecider = true ∧ s.cmt.decider.seenReqs.contains (src, id) = false ∧
      s.cmt.decider.made = none) :=
  ⟨⟨(states.getD 1 {}), 0x203, 5, .slateTrigger 5, 1, by unfold State.Inv State.Alone State.Awake; decide +kernel⟩,
   ⟨(states.getD 0 {}), 0x203, 0, by unfold State.Inv State.Awake; decide +kernel⟩,
   ⟨(states.getD 1 {}), 0x203, 0, by unfold State.Inv State.Awake; decide +kernel⟩⟩

end ScreenCommandsTaken

namespace DecisionsBind

def g7 : Gen := {num := 7, mCount := 1, mSum := 0x203, e := 1 <<< 0x203, m := 1 <<< 0x203, rootA := 0x203, rootB := 0x203, holdLimit := 2, firstFsn := 0}
def dc : Decision := {fsn := 1, commit := true, screen := .show, gen := 7, ready := 1, committedFsn := 1}
def dec (dd : Decider) (screen : Screen) (hold : Nat) (v : Bool) : State := {node := .member, fab := cf, regs := rt [(F.BIN_CTRL_ENABLE,1)], tim := {doms := doms}, cmt := {screen := screen, holdCount := hold, gen := g7, gens := [g7], vote := some {fsn := 1, ready := v, reason := 0x201}, decider := dd}, ing := {epochs := [fullE 1]}}
def states : List State := [{}, dec {} .show 0 true, dec {} .hold 1 true, dec {} .show 0 false,
    dec {} .show 2 false, dec {trigger := true} .show 1 true, dec {darkStanding := true} .slate 1 false,
  dec {made := some dc, genSentAt := some 3} .show 0 true, {dec {made := some dc, genSentAt := some 3} .show 0 true with regs := rtx [(F.BIN_CTRL_ENABLE,1)]}, 
  let d := dec {} .show 0 true; {d with cmt := {d.cmt with decision := some dc}},
      let d := dec {} .show 0 true; {d with cmt := {d.cmt with decision := some {dc with commit := false}}},
  {ing := {epochs := [{fsn := 1, st := .closed, opened := true, texs := [{id := 4}]}]}, pdl := {fills := [{fsn := 1}]}},  {ing := {epochs := [{fsn := 1, st := .created, opened := true, texs := [{id := 4}]}]}, pdl := {fills := [{fsn := 1}]}}]

/-- Witnesses of the hypotheses of DecisionsBind. -/
theorem witness :
    (∃ (s : State),
      s.Inv ∧ s.Awake ∧ (s.canDecide = false ∨ s.cmt.decider.made.isSome = true)) ∧
    (∃ (s : State),
      s.Inv ∧ s.Awake ∧ s.canDecide = true ∧ s.cmt.decider.made = none) ∧
    (∃ (s : State),
      s.Inv ∧ s.Awake ∧ s.canDecide = false) ∧
    (∃ (s : State) (d : Decision) (a : BitVec 16),
      s.Inv ∧ s.Awake ∧ d.fsn = s.N ∧ d.commit = true ∧ d.gen = s.cmt.gen.num ∧ s.node = .member ∧
      s.synthesised s.N = true ∧ s.cmt.decision = none ∧ s.boundSource = none ∧ s.Alone a ∧ s.canDecide = true ∧
      s.cmt.decider.made = some d ∧ s.cmt.next = none ∧ (∃ t0, s.cmt.decider.genSentAt = some t0 ∧
      s.instant .commit s.N < t0 + 256000000000)) ∧
    (∃ (s : State) (d : Decision) (a : BitVec 16) (stamp : Time),
      s.Inv ∧ s.Awake ∧ d.fsn = s.N ∧ d.commit = true ∧ d.gen = s.cmt.gen.num ∧ s.node = .member ∧
      s.synthesised s.N = true ∧ s.cmt.decision = none ∧ s.boundSource = none ∧ s.here = some a ∧ a ≠ s.rootB ∧
      stamp < s.instant .localAbort s.N ∧ s.cmt.gen.num ≠ 0) ∧
    (∃ (s : State) (d : Decision) (stamp : Time),
      s.Inv ∧ s.Awake ∧ s.here.isSome = true ∧ s.cmt.gen.num ≠ 0 ∧
      (d.fsn ≠ s.N ∨ s.instant .localAbort d.fsn ≤ stamp ∨ s.cmt.decision = some d)) ∧
    (∃ (s : State) (d : Decision) (stamp : Time) (old : Decision),
      s.Inv ∧ s.Awake ∧ s.here.isSome = true ∧ s.cmt.gen.num ≠ 0 ∧ s.cmt.decision = some old ∧ old ≠ d ∧
      d.fsn = s.N ∧ stamp < s.instant .localAbort s.N ∧ s.node = .member ∧ s.NoTrial ∧
      s.flag F.HKP_FAULT_VALID = false) ∧
    (∃ (s : State),
      s.Inv ∧ s.Awake ∧ s.cmt.decision.isSome = true) ∧
    (∃ (s : State) (e : Epoch),
      s.Inv ∧ s.Awake ∧ s.cmt.decision = none ∧ s.cmt.abandoned = false ∧ s.node ≠ .fault ∧ s.boundSource = none ∧
      s.thk.jobs = [] ∧ s.ing.epochs = [e] ∧ e.fsn = s.N ∧ e.st ≠ .none ∧ e.st ≠ .decided) :=
  ⟨⟨(states.getD 0 {}), by unfold State.Inv State.Awake; decide +kernel⟩,
   ⟨(states.getD 1 {}), by unfold State.Inv State.Awake; decide +kernel⟩,
   ⟨(states.getD 0 {}), by unfold State.Inv State.Awake; decide +kernel⟩,
   ⟨(states.getD 7 {}), dc, 0x203, by unfold State.Inv State.Alone State.Awake; decide +kernel⟩,
   ⟨(states.getD 8 {}), dc, 0x203, 5, by unfold State.Inv State.Awake; decide +kernel⟩,
   ⟨(states.getD 1 {}), dc, 1000000000000, by unfold State.Inv State.Awake; decide +kernel⟩,
   ⟨(states.getD 9 {}), {dc with commit := false}, 5,
       (((states.getD 9 {})).cmt.decision).get (by decide +kernel), by unfold State.Inv State.NoTrial State.Awake; decide +kernel⟩,
   ⟨(states.getD 9 {}), by unfold State.Inv State.Awake; decide +kernel⟩,
   ⟨(states.getD 1 {}),
       (((states.getD 1 {})).ing.epochs.head?).get (by decide +kernel), by unfold State.Inv State.Awake; decide +kernel⟩⟩

end DecisionsBind

namespace SwapInstantsTurnFrames

def dc : Decision := {fsn := 1, commit := true, screen := .show, gen := 0, ready := 1, committedFsn := 1}
def st (screen : Screen) (hold : Nat) (d : Option Decision) : State := {regs := rt [(F.BIN_CTRL_ENABLE,1)], fab := cf, cmt := {screen := screen, holdCount := hold, decision := d}, ing := {epochs := [{fsn := 1, st := .decided}, {fsn := 2, st := .created}]}}
def states : List State := [{}, st .show 0 none, st .hold 2 none, st .slate 3 none, st .dark 1023 none,
    st .dark 3 (some dc),
    st .slate 2 (some {dc with commit := false, screen := .hold, holdCount := 3, reason := 0x201}), {st .show 0 (some dc) with node := .member},
 {tim := {doms := doms}}, {node := .member, tim := {doms := doms}, cmt := {screen := .show}, regs := rt [(F.BIN_CTRL_ENABLE,1)]}, {node := .fault}, {node := .fault, ing := {epochs := [{fsn := 2, st := .created}]}},  {ing := {epochs := [{fsn := 2, st := .created}]}}]

/-- Witnesses of the hypotheses of SwapInstantsTurnFrames. -/
theorem witness :
    (∃ (s : State),
      s.Inv ∧ s.Awake ∧ s.cmt.decision = none ∧ s.ing.preEpoch = []) ∧
    (∃ (s : State) (d : Decision),
      s.Inv ∧ s.Awake ∧ s.cmt.decision = some d ∧ s.ing.preEpoch = [] ∧ s.NoTrial ∧ d.gen = s.cmt.gen.num ∧
      d.actValid = false) ∧
    (∃ (s : State),
      s.Inv ∧ s.Awake ∧ s.timeLock = false) ∧
    (∃ (s : State),
      s.Inv ∧ s.Awake ∧ s.timeLock = true ∧ s.node = .sapling ∧ s.swapGen = none) ∧
    (∃ (s : State),
      s.Inv ∧ s.Awake ∧ s.timeLock = true ∧ s.node = .member ∧ s.cmt.decision = none ∧ s.commitsHere = false ∧
      (s.cmt.screen = .show ∨ s.cmt.screen = .hold) ∧ s.cmt.holdCount + 1 ≤ s.genNow.holdLimit) ∧
    (∃ (s : State),
      s.Inv ∧ s.Awake ∧ (s.node = .fault ∨ s.epoch (s.S + 2) = none ∨ ∃ e, s.epoch (s.S + 2) = some e ∧
      e.specStarted = true)) ∧
    (∃ (s : State) (e : Epoch),
      s.Inv ∧ s.Awake ∧ s.node = .sapling ∧ s.epoch (s.S + 2) = some e ∧ e.st = .created ∧ e.specStarted = false ∧
      s.effFlag F.ING_SPEC_CTRL_SPEC_ENABLE = false) :=
  ⟨⟨(states.getD 0 {}), by unfold State.Inv State.Awake; decide +kernel⟩,
   ⟨(states.getD 5 {}),
       (((states.getD 5 {})).cmt.decision).get (by decide +kernel), by unfold State.Inv State.NoTrial State.Awake; decide +kernel⟩,
   ⟨(states.getD 0 {}), by unfold State.Inv State.Awake; decide +kernel⟩,
   ⟨(states.getD 8 {}), by unfold State.Inv State.Awake; decide +kernel⟩,
   ⟨(states.getD 9 {}), by unfold State.Inv State.Awake; decide +kernel⟩,
   ⟨(states.getD 0 {}), by unfold State.Inv State.Awake; decide +kernel⟩,
   ⟨(states.getD 1 {}),
       (((states.getD 1 {})).epoch (((states.getD 1 {})).S + 2)).get (by decide +kernel), by unfold State.Inv State.Awake; decide +kernel⟩⟩

end SwapInstantsTurnFrames

namespace MembersJoin

def g7 : Gen := {num := 7, mCount := 1, mSum := 0x203, e := (1 <<< 0x203) ||| 1, m := 1 <<< 0x203, rootA := 0x203, rootB := 0x203, holdLimit := 2, firstFsn := 0}
def base : State := {fab := cf, regs := rt [], tim := {doms := doms}, cmt := {gen := g7, gens := [g7], decider := {vouches := [(0, 4), (0x203, 4)]}}}
def segs : List (List Byte) := [List.replicate 96 0, List.replicate 1024 1, [1]]
def states : List State := [{}, {base with node := .member}, {base with ctl := {ended := List.range 12}}, base,
    let b := base; {b with cmt := {b.cmt with gen := {g7 with e := 0}}},
    let b := base; {b with cmt := {b.cmt with gen := {g7 with e := 1 <<< 0x203}}}]

/-- Witnesses of the hypotheses of MembersJoin. -/
theorem witness :
    (∃ (s : State) (k : Nat) (data : List Byte),
      s.Inv ∧ s.Awake ∧ (12 < k ∨ data.length ≠ (if k = 0 then 96 else 1024))) ∧
    (∃ (s : State) (k : Nat) (num : Word) (data : List Byte),
      s.Inv ∧ s.Awake ∧ k ≤ 12 ∧ data.length = (if k = 0 then 96 else 1024) ∧ s.genHeld num = none ∧
      s.cmt.genParts = []) ∧
    (∃ (s : State),
      s.Inv ∧ s.Awake ∧ s.node ≠ .sapling) ∧
    (∃ (s : State) (a : BitVec 16),
      s.Inv ∧ s.Awake ∧ s.Alone a ∧ s.node = .sapling ∧ (∀ k, 1 ≤ k → k ≤ 10 → s.ctl.ended.contains k = true)) ∧
    (∃ (s : State),
      s.Inv ∧ s.Awake ∧ s.isDecider = false) ∧
    (∃ (s : State) (a : BitVec 16),
      s.Inv ∧ s.Awake ∧ s.Alone a ∧ s.cmt.decider.away = [] ∧
      (inSet s.memberSets.1 a = false ∨ inSet s.memberSets.2.1 a = true)) ∧
    (∃ (s : State) (a : BitVec 16) (digest : BitVec 256),
      s.Inv ∧ s.Awake ∧ s.Alone a ∧ s.cmt.decider.away = [] ∧ inSet s.memberSets.1 a = true ∧
      inSet s.memberSets.2.1 a = false ∧ s.cmt.gen.num ≠ 0 ∧ digest ≠ s.cmt.gen.policyDigest) ∧
    (∃ (s : State) (a : BitVec 16) (digest : BitVec 256) (stamp : Time),
      s.Inv ∧ s.Awake ∧ s.Alone a ∧ s.cmt.decider.away = [] ∧ inSet s.memberSets.1 a = true ∧
      inSet s.memberSets.2.1 a = false ∧ s.cmt.gen.num ≠ 0 ∧ digest = s.cmt.gen.policyDigest ∧
      s.vouched a stamp = true ∧ s.cmt.next = none) ∧
    (∃ (s : State),
      s.Inv ∧ s.Awake ∧ s.isDecider = true) ∧
    (∃ (s : State),
      s.Inv ∧ s.Awake ∧ s.node = .sapling) ∧
    (∃ (s : State) (reason : BitVec 16),
      s.Inv ∧ s.Awake ∧ s.isDecider = true ∧ reason ≠ 0x0223) :=
  ⟨⟨(states.getD 0 {}), 0, ((segs).getD 1 []), by unfold State.Inv State.Awake; decide +kernel⟩,
   ⟨(states.getD 0 {}), 0, 0, ((segs).getD 0 []), by unfold State.Inv State.Awake; decide +kernel⟩,
   ⟨(states.getD 1 {}), by unfold State.Inv State.Awake; decide +kernel⟩,
   ⟨(states.getD 2 {}), 0x203, by unfold State.Inv State.Alone State.Awake; decide +kernel⟩,
   ⟨(states.getD 0 {}), by unfold State.Inv State.Awake; decide +kernel⟩,
   ⟨(states.getD 4 {}), 0x203, by unfold State.Inv State.Alone State.Awake; decide +kernel⟩,
   ⟨(states.getD 1 {}), 0x203, 1, by unfold State.Inv State.Alone State.Awake; decide +kernel⟩,
   ⟨(states.getD 1 {}), 0x203, 0, 5, by unfold State.Inv State.Alone State.Awake; decide +kernel⟩,
   ⟨(states.getD 1 {}), by unfold State.Inv State.Awake; decide +kernel⟩,
   ⟨(states.getD 0 {}), by unfold State.Inv State.Awake; decide +kernel⟩,
   ⟨(states.getD 1 {}), 0x203, by unfold State.Inv State.Awake; decide +kernel⟩⟩

end MembersJoin

end FrameCommit

namespace SceneStream

def sc : List (Nat × Word) := flds [(F.ING_STREAM_ACCEPT,1),(F.ING_SOURCE_SOURCE_ADDR,5),(F.ING_STREAM_STREAM_ID,6)]
def ev (src : BitVec 16) (fsn : Fsn) (n : Nat) (stream : BitVec 16) (stamp : Time) : GladeEnv := {src := src, stamp := stamp, xtfLen := BitVec.ofNat 16 (n + 16), hdr := {bodyLength := BitVec.ofNat 16 n, fsn := fsn, streamId := stream, pktSeq := 77}}
def crd (id tex : Nat) (flags : Nat) : List Byte := leBytes 2 id ++ leBytes 2 flags ++ leBytes 2 tex ++ leBytes 2 0 ++ leBytes 4 0 ++ leBytes 4 0 ++ leBytes 4 0xBF800000 ++ leBytes 4 0x3F800000 ++ leBytes 8 0 ++ leBytes 4 0 ++ leBytes 4 0x3F800000 ++ leBytes 4 0 ++ leBytes 6 0 ++ leBytes 3 0xFFFF ++ leBytes 3 0xFFFF ++ leBytes 2 0xFFFF ++ leBytes 38 0
def cset (c : List Byte) : List Byte := [1,0,0,0] ++ c
def tx (id : Nat) : TexVer := {id := id, fmt := 1, mips := 2, width := 16, height := 8, pages := [id, 100 + id]}
def cv (id : Nat) (live : Bool) : CardVer := {card := readCard (crd id 4 (if live then 5 else 1)), last := 1}

namespace PacketsJudged

def states : List State := [{}, {ing := {firstForeign := false}}, {eff := sc, ing := {epochs := [{fsn := 1, opened := true, closeSeen := true, livePending := true, amends := 3}, {fsn := 2, opened := true, closed := true, closeSeen := true, livePending := true, sealOk := true}, {fsn := 3}]}}, {eff := sc, node := .fault},
   {eff := sc, ing := {reclaim := 4, deferred := [{pkt := .cardSet (ev 5 1 100 6 4) (cset (crd 3 4 1))}], epochs := [{fsn := 1, opened := true, texs := [tx 4]}]}}, {eff := sc, ing := {deferred := [{pkt := .frameOpen (ev 5 1 8 6 4) 0 true 0}], epochs := [{fsn := 1}]}}]

/-- Witnesses of the hypotheses of PacketsJudged. -/
theorem witness :
    (∃ (s : State) (i : Instr) (g : Glade),
      s.Inv ∧ s.Awake ∧ gladeOf i = some g ∧ (∀ env ty body,
      i = .gladeUnknownTypePacket env ty body → ty.toNat = 0 ∨ 7 < ty.toNat) ∧ s.boundSource ≠ some g.env.src ∧
      s.ing.firstForeign = false) ∧
    (∃ (s : State) (i : Instr) (g : Glade),
      s.Inv ∧ s.Awake ∧ gladeOf i = some g ∧ (∀ env ty body,
      i = .gladeUnknownTypePacket env ty body → ty.toNat = 0 ∨ 7 < ty.toNat) ∧ s.boundSource = some g.env.src ∧
      16 ≤ g.env.xtfLen.toNat ∧ g.env.hdr.streamId.toNat = s.effFld F.ING_STREAM_STREAM_ID ∧ s.node = .fault) ∧
    (∃ (s : State) (i : Instr) (g : Glade),
      s.Inv ∧ s.Awake ∧ gladeOf i = some g ∧ (∀ env ty body,
      i = .gladeUnknownTypePacket env ty body → ty.toNat = 0 ∨ 7 < ty.toNat) ∧ s.boundSource = some g.env.src ∧
      16 ≤ g.env.xtfLen.toNat ∧ g.env.hdr.streamId.toNat = s.effFld F.ING_STREAM_STREAM_ID ∧ s.node ≠ .fault ∧
      g.headerOk = true ∧ laterFsn g.fsn s.S = false) ∧
    (∃ (s : State) (i : Instr) (g : Glade),
      s.Inv ∧ s.Awake ∧ gladeOf i = some g ∧ (∀ env ty body,
      i = .gladeUnknownTypePacket env ty body → ty.toNat = 0 ∨ 7 < ty.toNat) ∧ s.boundSource = some g.env.src ∧
      16 ≤ g.env.xtfLen.toNat ∧ g.env.hdr.streamId.toNat = s.effFld F.ING_STREAM_STREAM_ID ∧ s.node ≠ .fault ∧
      g.headerOk = false ∧ (g.fsn = s.S + 1 ∨ g.fsn = s.S + 2 ∨ g.fsn = s.S + 3) ∧ (∀ e,
      s.epoch g.fsn = some e → e.err.count = 0)) ∧
    (∃ (s : State) (i : Instr) (g : Glade),
      s.Inv ∧ s.Awake ∧ gladeOf i = some g ∧ (∀ env ty body,
      i = .gladeUnknownTypePacket env ty body → ty.toNat = 0 ∨ 7 < ty.toNat) ∧ s.boundSource = some g.env.src ∧
      16 ≤ g.env.xtfLen.toNat ∧ g.env.hdr.streamId.toNat = s.effFld F.ING_STREAM_STREAM_ID ∧ s.node ≠ .fault ∧
      g.headerOk = false ∧ g.fsn ≠ s.S + 1 ∧ g.fsn ≠ s.S + 2 ∧ g.fsn ≠ s.S + 3) ∧
    (∃ (s : State) (i : Instr) (g : Glade),
      s.Inv ∧ s.Awake ∧ gladeOf i = some g ∧ (∀ env ty body,
      i = .gladeUnknownTypePacket env ty body → ty.toNat = 0 ∨ 7 < ty.toNat) ∧ s.boundSource = some g.env.src ∧
      16 ≤ g.env.xtfLen.toNat ∧ g.env.hdr.streamId.toNat = s.effFld F.ING_STREAM_STREAM_ID ∧ s.node ≠ .fault ∧
      g.headerOk = true ∧ g.fsn = s.S + 3 ∧ s.erroredNow g.fsn = false ∧
      g.env.stamp < s.instant (if g.type = 6 then .amend else .scene) g.fsn ∧
      s.queuedBytes + g.body.length + 16 ≤ 64 * 2 ^ 20) ∧
    (∃ (s : State) (i : Instr) (g : Glade) (n : Fsn),
      s.Inv ∧ s.Awake ∧ gladeOf i = some g ∧ (∀ env ty body,
      i = .gladeUnknownTypePacket env ty body → ty.toNat = 0 ∨ 7 < ty.toNat) ∧ s.node ≠ .fault ∧
      (n = s.S + 1 ∨ n = s.S + 2) ∧ s.epoch n = none) ∧
    (∃ (s : State) (i : Instr) (g : Glade) (n : Fsn) (e : Epoch),
      s.Inv ∧ s.Awake ∧ gladeOf i = some g ∧ (∀ env ty body,
      i = .gladeUnknownTypePacket env ty body → ty.toNat = 0 ∨ 7 < ty.toNat) ∧ s.node ≠ .fault ∧
      (n = s.S + 1 ∨ n = s.S + 2) ∧ s.epoch n = some e ∧ e.opened = true ∧ e.closed = true) ∧
    (∃ (s : State) (i : Instr) (g : Glade) (n : Fsn) (e : Epoch),
      s.Inv ∧ s.Awake ∧ gladeOf i = some g ∧ (∀ env ty body,
      i = .gladeUnknownTypePacket env ty body → ty.toNat = 0 ∨ 7 < ty.toNat) ∧ s.node ≠ .fault ∧
      (n = s.S + 1 ∨ n = s.S + 2) ∧ s.epoch n = some e ∧ e.opened = true ∧ e.closed = false ∧ e.err.count = 0) ∧
    (∃ (s : State) (i : Instr) (g : Glade) (n : Fsn) (e : Epoch),
      s.Inv ∧ s.Awake ∧ gladeOf i = some g ∧ (∀ env ty body,
      i = .gladeUnknownTypePacket env ty body → ty.toNat = 0 ∨ 7 < ty.toNat) ∧ s.node ≠ .fault ∧
      (n = s.S + 1 ∨ n = s.S + 2) ∧ s.epoch n = some e ∧ e.closeSeen = true ∧ e.livePending = true ∧
      e.sealOk = true) ∧
    (∃ (s : State) (i : Instr) (g : Glade) (n : Fsn) (e : Epoch),
      s.Inv ∧ s.Awake ∧ gladeOf i = some g ∧ (∀ env ty body,
      i = .gladeUnknownTypePacket env ty body → ty.toNat = 0 ∨ 7 < ty.toNat) ∧ s.node ≠ .fault ∧
      (n = s.S + 1 ∨ n = s.S + 2) ∧ s.epoch n = some e ∧ e.closeSeen = true ∧ e.livePending = true ∧
      e.sealOk = false ∧ e.err.count = 0) ∧
    (∃ (s : State) (i : Instr) (g : Glade),
      s.Inv ∧ s.Awake ∧ gladeOf i = some g ∧ (∀ env ty body,
      i = .gladeUnknownTypePacket env ty body → ty.toNat = 0 ∨ 7 < ty.toNat) ∧ s.ing.reclaim = 0) ∧
    (∃ (s : State) (i : Instr) (g : Glade),
      s.Inv ∧ s.Awake ∧ gladeOf i = some g ∧ (∀ env ty body,
      i = .gladeUnknownTypePacket env ty body → ty.toNat = 0 ∨ 7 < ty.toNat) ∧ s.ing.reclaim ≠ 0) ∧
    (∃ (s : State) (i : Instr) (g : Glade),
      s.Inv ∧ s.Awake ∧ gladeOf i = some g ∧ (∀ env ty body,
      i = .gladeUnknownTypePacket env ty body → ty.toNat = 0 ∨ 7 < ty.toNat) ∧ s.ing.deferred = []) ∧
    (∃ (s : State) (i : Instr) (g : Glade) (h : HeldPacket),
      s.Inv ∧ s.Awake ∧ gladeOf i = some g ∧ (∀ env ty body,
      i = .gladeUnknownTypePacket env ty body → ty.toNat = 0 ∨ 7 < ty.toNat) ∧ s.ing.deferred = [h] ∧ h.pkt = i ∧
      h.after = [] ∧ s.mustWait g 0 = false ∧ ({ s with ing := { s.ing with deferred := [] } }).Placed g ∧
      ({ s with ing := { s.ing with deferred := [] } }).errored g.fsn = false ∧
      ({ s with ing := { s.ing with deferred := [] } }).erroredNow g.fsn = false ∧
      ({ s with ing := { s.ing with deferred := [] } }).mustWait g 0 = false) :=
  ⟨⟨(states.getD 1 {}), .frameOpen (ev 5 1 8 6 4) 0 true 0,
      (gladeOf (.frameOpen (ev 5 1 8 6 4) 0 true 0)).get (by decide +kernel), by unfold State.Inv; decide +kernel, by unfold State.Awake; decide +kernel, by decide +kernel, unknownType_of (by decide +kernel), by decide +kernel, by decide +kernel⟩,
   ⟨(states.getD 3 {}), .frameOpen (ev 5 1 8 6 4) 0 true 0,
       (gladeOf (.frameOpen (ev 5 1 8 6 4) 0 true 0)).get (by decide +kernel), by unfold State.Inv; decide +kernel, by unfold State.Awake; decide +kernel, by decide +kernel, unknownType_of (by decide +kernel), by decide +kernel, by decide +kernel, by decide +kernel, by decide +kernel⟩,
   ⟨(states.getD 2 {}), .frameClose (ev 5 0 12 6 4) 0 0 0 false 0,
       (gladeOf (.frameClose (ev 5 0 12 6 4) 0 0 0 false 0)).get (by decide +kernel), by unfold State.Inv; decide +kernel, by unfold State.Awake; decide +kernel, by decide +kernel, unknownType_of (by decide +kernel), by decide +kernel, by decide +kernel, by decide +kernel, by decide +kernel, by decide +kernel, by decide +kernel⟩,
   ⟨(states.getD 2 {}), .gladeUnknownTypePacket (ev 5 2 8 6 4) 8 [],
       (gladeOf (.gladeUnknownTypePacket (ev 5 2 8 6 4) 8 [])).get (by decide +kernel), by unfold State.Inv; decide +kernel, by unfold State.Awake; decide +kernel, by decide +kernel, unknownType_of (by decide +kernel), by decide +kernel, by decide +kernel, by decide +kernel, by decide +kernel, by decide +kernel, by decide +kernel, by decide +kernel⟩,
   ⟨(states.getD 2 {}), .cardSet (ev 5 9 99 6 4) [],
       (gladeOf (.cardSet (ev 5 9 99 6 4) [])).get (by decide +kernel), by unfold State.Inv; decide +kernel, by unfold State.Awake; decide +kernel, by decide +kernel, unknownType_of (by decide +kernel), by decide +kernel, by decide +kernel, by decide +kernel, by decide +kernel, by decide +kernel, by decide +kernel, by decide +kernel, by decide +kernel⟩,
   ⟨(states.getD 2 {}), .amend (ev 5 3 8 6 4) [0,1,0,0,3,0,0,0],
       (gladeOf (.amend (ev 5 3 8 6 4) [0,1,0,0,3,0,0,0])).get (by decide +kernel), by unfold State.Inv; decide +kernel, by unfold State.Awake; decide +kernel, by decide +kernel, unknownType_of (by decide +kernel), by decide +kernel, by decide +kernel, by decide +kernel, by decide +kernel, by decide +kernel, by decide +kernel, by decide +kernel, by decide +kernel, by decide +kernel⟩,
   ⟨(states.getD 0 {}), .frameOpen (ev 5 1 8 6 4) 0 true 0,
       (gladeOf (.frameOpen (ev 5 1 8 6 4) 0 true 0)).get (by decide +kernel),
       1, by unfold State.Inv; decide +kernel, by unfold State.Awake; decide +kernel, by decide +kernel, unknownType_of (by decide +kernel), by decide +kernel, by decide +kernel, by decide +kernel⟩,
   ⟨(states.getD 2 {}), .frameOpen (ev 5 1 8 6 4) 0 true 0,
       (gladeOf (.frameOpen (ev 5 1 8 6 4) 0 true 0)).get (by decide +kernel), 2,
       (((states.getD 2 {})).epoch (2)).get (by decide +kernel), by unfold State.Inv; decide +kernel, by unfold State.Awake; decide +kernel, by decide +kernel, unknownType_of (by decide +kernel), by decide +kernel, by decide +kernel, by decide +kernel, by decide +kernel, by decide +kernel⟩,
   ⟨(states.getD 2 {}), .frameOpen (ev 5 1 8 6 4) 0 true 0,
       (gladeOf (.frameOpen (ev 5 1 8 6 4) 0 true 0)).get (by decide +kernel), 1,
       (((states.getD 2 {})).epoch (1)).get (by decide +kernel), by unfold State.Inv; decide +kernel, by unfold State.Awake; decide +kernel, by decide +kernel, unknownType_of (by decide +kernel), by decide +kernel, by decide +kernel, by decide +kernel, by decide +kernel, by decide +kernel, by decide +kernel⟩,
   ⟨(states.getD 2 {}), .frameOpen (ev 5 1 8 6 4) 0 true 0,
       (gladeOf (.frameOpen (ev 5 1 8 6 4) 0 true 0)).get (by decide +kernel), 2,
       (((states.getD 2 {})).epoch (2)).get (by decide +kernel), by unfold State.Inv; decide +kernel, by unfold State.Awake; decide +kernel, by decide +kernel, unknownType_of (by decide +kernel), by decide +kernel, by decide +kernel, by decide +kernel, by decide +kernel, by decide +kernel, by decide +kernel⟩,
   ⟨(states.getD 2 {}), .frameOpen (ev 5 1 8 6 4) 0 true 0,
       (gladeOf (.frameOpen (ev 5 1 8 6 4) 0 true 0)).get (by decide +kernel), 1,
       (((states.getD 2 {})).epoch (1)).get (by decide +kernel), by unfold State.Inv; decide +kernel, by unfold State.Awake; decide +kernel, by decide +kernel, unknownType_of (by decide +kernel), by decide +kernel, by decide +kernel, by decide +kernel, by decide +kernel, by decide +kernel, by decide +kernel, by decide +kernel⟩,
   ⟨(states.getD 0 {}), .frameOpen (ev 5 1 8 6 4) 0 true 0,
       (gladeOf (.frameOpen (ev 5 1 8 6 4) 0 true 0)).get (by decide +kernel), by unfold State.Inv; decide +kernel, by unfold State.Awake; decide +kernel, by decide +kernel, unknownType_of (by decide +kernel), by decide +kernel⟩,
   ⟨(states.getD 4 {}), .frameOpen (ev 5 1 8 6 4) 0 true 0,
       (gladeOf (.frameOpen (ev 5 1 8 6 4) 0 true 0)).get (by decide +kernel), by unfold State.Inv; decide +kernel, by unfold State.Awake; decide +kernel, by decide +kernel, unknownType_of (by decide +kernel), by decide +kernel⟩,
   ⟨(states.getD 0 {}), .frameOpen (ev 5 1 8 6 4) 0 true 0,
       (gladeOf (.frameOpen (ev 5 1 8 6 4) 0 true 0)).get (by decide +kernel), by unfold State.Inv; decide +kernel, by unfold State.Awake; decide +kernel, by decide +kernel, unknownType_of (by decide +kernel), by decide +kernel⟩,
   ⟨(states.getD 4 {}), .cardSet (ev 5 1 100 6 4) (cset (crd 3 4 1)),
       (gladeOf (.cardSet (ev 5 1 100 6 4) (cset (crd 3 4 1)))).get (by decide +kernel),
       (((states.getD 4 {})).ing.deferred.head?).get (by decide +kernel), by unfold State.Inv; decide +kernel, by unfold State.Awake; decide +kernel, by decide +kernel, unknownType_of (by decide +kernel), by decide +kernel, by decide +kernel, by decide +kernel, by decide +kernel, by unfold State.Placed; decide +kernel, by decide +kernel, by decide +kernel, by decide +kernel⟩⟩

end PacketsJudged

namespace ScenePacketsApplied

def upd (enc segi segc n : Nat) (d : List Byte) : List Byte := leBytes 2 4 ++ [0,
    BitVec.ofNat 8 enc] ++ leBytes 2 0 ++ leBytes 2 0 ++ leBytes 2 2 ++ leBytes 2 1 ++ leBytes 2 9 ++ leBytes 2 segi ++ leBytes 2 segc ++ leBytes 2 n ++ leBytes 4 0 ++ d
def amd (k : Nat) : List Byte := leBytes 2 k ++ leBytes 2 0 ++ leBytes 4 0 ++ leBytes 4 0 ++ leBytes 4 0xBF000000 ++ leBytes 4 0x3F800000 ++ leBytes 8 0 ++ leBytes 4 0 ++ leBytes 4 0x3F800000 ++ leBytes 4 0 ++ leBytes 6 0 ++ leBytes 3 0xFFFF ++ leBytes 3 0xFFFF ++ leBytes 2 0xFF ++ leBytes 10 0
def bodies : List (List Byte) := [cset (crd 3 4 1), cset (crd 3 9 1),
    cset (leBytes 2 3 ++ leBytes 2 0x40 ++ leBytes 92 0), cset (crd 8 4 5),
    leBytes 2 9 ++ [1,2] ++ leBytes 2 16 ++ leBytes 2 16 ++ leBytes 4 0, upd 0 1 3 4 [1,2,3,4],
    upd 1 0 1 3 [1,2,3,0], upd 0 0 1 8 [1,2,3,4,5,6,7,8], leBytes 2 1 ++ leBytes 2 0 ++ leBytes 2 4 ++ leBytes 2 0,
   [1,0,0,0,0,0,0,0] ++ amd 3, [1,0,0,0,0,0,0,0] ++ amd 8]
def lens : List Nat := (bodies.map List.length ++ [8, 12]).eraseDups
def eps : List Epoch := [{fsn := 1, st := .created}, {fsn := 2, st := .created}, {fsn := 1, st := .active, opened := true, specStarted := true, texs := [tx 4], cards := [cv 3 false, cv 8 true], pktCount := 2, queue := [4,9], inval := 7}, {fsn := 2, st := .active, opened := true, texs := [tx 4], cards := [cv 8 true]},
  {fsn := 2, st := .closed, opened := true, closeSeen := true, livePending := true, closed := true, amends := 2, specStarted := true, specBase := some 0, predState := .derived, texs := [tx 4], cards := [cv 8 true]}]
def states : List State := (eps.map (fun e => ({eff := sc, ing := {epochs := [e]}} : State)))
def envs : List GladeEnv := [(1 : Fsn), 2].flatMap (fun f => lens.map (fun n => ev 5 f n 6 (-10000000)))

/-- Witnesses of the hypotheses of ScenePacketsApplied. -/
theorem witness :
    (∃ (s : State) (env : GladeEnv) (e : Epoch) (base : Fsn),
      s.Inv ∧ s.Awake ∧ s.node = .sapling ∧ s.Lone e ∧ env.hdr.fsn = e.fsn ∧
      s.Placed { env := env, type := 1, body := openBody base true false 0 } ∧ e.st = .created ∧ e.opened = false ∧
      e.specStarted = false) ∧
    (∃ (s : State) (env : GladeEnv) (e : Epoch) (base : Fsn),
      s.Inv ∧ s.Awake ∧ s.node = .sapling ∧ s.Lone e ∧ env.hdr.fsn = e.fsn ∧
      s.Placed { env := env, type := 1, body := openBody base true true 0 } ∧ e.opened = true ∧ e.st ≠ .decided ∧
      e.st ≠ .abandoned) ∧
    (∃ (s : State) (env : GladeEnv) (e : Epoch) (live : Bool),
      s.Inv ∧ s.Awake ∧ s.node = .sapling ∧ s.Lone e ∧ env.hdr.fsn = e.fsn ∧
      s.Placed { env := env, type := 7, body := (closeBody (BitVec.ofNat 32 e.pktCount) e.digest (BitVec.ofNat 16 e.cards.length) live 0) } ∧ e.opened = true ∧ e.closed = false ∧ e.pktCount < 2 ^ 32 ∧ e.cards.length ≤ 65535 ∧ e.missingTex = none ∧ live = true) ∧
    (∃ (s : State) (env : GladeEnv) (e : Epoch) (live : Bool),
      s.Inv ∧ s.Awake ∧ s.node = .sapling ∧ s.Lone e ∧ env.hdr.fsn = e.fsn ∧
      s.Placed { env := env, type := 7, body := (closeBody (BitVec.ofNat 32 e.pktCount) e.digest (BitVec.ofNat 16 e.cards.length) live 0) } ∧ e.opened = true ∧ e.closed = false ∧ e.pktCount < 2 ^ 32 ∧ e.cards.length ≤ 65535 ∧ e.missingTex = none ∧ live = false ∧ e.setClosed = false ∧ e.predState = .none ∧ e.st = .active ∧ e.queue ≠ []) ∧
    (∃ (s : State) (env : GladeEnv) (e : Epoch) (body : List Byte),
      s.Inv ∧ s.Awake ∧ s.node = .sapling ∧ s.Lone e ∧ env.hdr.fsn = e.fsn ∧
      s.Placed { env := env, type := 2, body := body } ∧ e.opened = true ∧ e.closeSeen = false ∧
      byteAt body 0 = 1 ∧ (readCard ((body.drop 4).take 96)).isRemove = false ∧
      cardValid (readCard ((body.drop 4).take 96)) ((body.drop 4).take 96) = true ∧
      e.flagError (readCard ((body.drop 4).take 96)) = none ∧ e.cards.length < 4096 ∧
      overfullBin (e.changeCard s.binView true (readCard ((body.drop 4).take 96)).id (some (({ card := (readCard ((body.drop 4).take 96)), last := e.fsn, foot := footprint s.binView (readCard ((body.drop 4).take 96)) } : CardVer)))).cards = none) ∧
    (∃ (s : State) (env : GladeEnv) (e : Epoch) (body : List Byte),
      s.Inv ∧ s.Awake ∧ s.node = .sapling ∧ s.Lone e ∧ env.hdr.fsn = e.fsn ∧
      s.Placed { env := env, type := 2, body := body } ∧ e.opened = true ∧ e.closeSeen = false ∧
      byteAt body 0 = 1 ∧ (readCard ((body.drop 4).take 96)).isRemove = true ∧
      removeValid (readCard ((body.drop 4).take 96)) ((body.drop 4).take 96) = true ∧
      (cardOf e.cards (readCard ((body.drop 4).take 96)).id).isSome = true ∧
      overfullBin (e.changeCard s.binView true (readCard ((body.drop 4).take 96)).id none).cards = none) ∧
    (∃ (s : State) (env : GladeEnv) (e : Epoch) (body : List Byte),
      s.Inv ∧ s.Awake ∧ s.node = .sapling ∧ s.Lone e ∧ env.hdr.fsn = e.fsn ∧
      s.Placed { env := env, type := 3, body := body } ∧ e.opened = true ∧ e.closeSeen = false ∧
      (readDefine body).defineOk = true ∧ texOf e.texs (readDefine body).id = none ∧
      s.hasPages (readDefine body).pageCount = true) ∧
    (∃ (s : State) (env : GladeEnv) (e : Epoch) (body : List Byte) (x : TexVer),
      s.Inv ∧ s.Awake ∧ s.node = .sapling ∧ s.Lone e ∧ env.hdr.fsn = e.fsn ∧
      s.Placed { env := env, type := 4, body := body } ∧ e.opened = true ∧ e.closeSeen = false ∧ e.joins = [] ∧
      texOf e.texs (readUpdHead body).tex = some x ∧ (readUpdHead body).mip < x.mips ∧
      (readUpdHead body).x0 + (readUpdHead body).w ≤ (x.levelSize (readUpdHead body).mip).1 ∧
      (readUpdHead body).y0 + (readUpdHead body).h ≤ (x.levelSize (readUpdHead body).mip).2 ∧
      (readUpdHead body).segCount ≠ 1) ∧
    (∃ (s : State) (env : GladeEnv) (e : Epoch) (body : List Byte) (x : TexVer),
      s.Inv ∧ s.Awake ∧ s.node = .sapling ∧ s.Lone e ∧ env.hdr.fsn = e.fsn ∧
      s.Placed { env := env, type := 4, body := body } ∧ e.opened = true ∧ e.closeSeen = false ∧ e.joins = [] ∧
      texOf e.texs (readUpdHead body).tex = some x ∧ (readUpdHead body).mip < x.mips ∧
      (readUpdHead body).x0 + (readUpdHead body).w ≤ (x.levelSize (readUpdHead body).mip).1 ∧
      (readUpdHead body).y0 + (readUpdHead body).h ≤ (x.levelSize (readUpdHead body).mip).2 ∧
      (readUpdHead body).segCount = 1 ∧ leAt body 14 2 = 0 ∧ (readUpdHead body).enc ≠ 0 ∧
      s.hasPages (x.touched (readUpdHead body)).length = true) ∧
    (∃ (s : State) (env : GladeEnv) (e : Epoch) (body : List Byte),
      s.Inv ∧ s.Awake ∧ s.node = .sapling ∧ s.Lone e ∧ env.hdr.fsn = e.fsn ∧
      s.Placed { env := env, type := 5, body := body } ∧ e.opened = true ∧ e.closeSeen = false ∧
      leAt body 0 2 = 1 ∧ (texOf e.texs (leAt body 4 2)).isSome = true) ∧
    (∃ (s : State) (env : GladeEnv) (e : Epoch) (body : List Byte) (v : CardVer),
      s.Inv ∧ s.Awake ∧ s.node = .sapling ∧ s.Lone e ∧ env.hdr.fsn = e.fsn ∧
      s.Placed { env := env, type := 6, body := body } ∧ e.opened = true ∧ e.closeSeen = true ∧
      e.livePending = true ∧ e.sealSeen = false ∧ byteAt body 0 = 1 ∧ byteAt body 1 = 0 ∧
      cardOf e.cards (leAt ((body.drop 8).take 64) 0 2) = some v ∧ v.card.isLive = true ∧
      leAt ((body.drop 8).take 64) 2 2 = 0 ∧ allZero (slice ((body.drop 8).take 64) 54 10) = true ∧
      (amendCard v.card ((body.drop 8).take 64)).geometryOk = true ∧
      overfullBin (e.changeCard s.binView true (leAt ((body.drop 8).take 64) 0 2) (some (({ card := (amendCard v.card ((body.drop 8).take 64)), last := e.fsn, foot := footprint s.binView (amendCard v.card ((body.drop 8).take 64)) } : CardVer)))).cards = none) :=
  ⟨⟨(states.getD 0 {}), (envs.getD 4 {}), (((states.getD 0 {})).ing.epochs.head?).get (by decide +kernel),
      0, by unfold State.Inv State.Placed State.Lone State.Awake; decide +kernel⟩,
   ⟨(states.getD 2 {}), (envs.getD 4 {}), (((states.getD 2 {})).ing.epochs.head?).get (by decide +kernel),
       0, by unfold State.Inv State.Placed State.Lone State.Awake; decide +kernel⟩,
   ⟨(states.getD 2 {}), (envs.getD 1 {}), (((states.getD 2 {})).ing.epochs.head?).get (by decide +kernel),
       true, by unfold State.Inv State.Placed State.Lone State.Awake; decide +kernel⟩,
   ⟨(states.getD 2 {}), (envs.getD 1 {}), (((states.getD 2 {})).ing.epochs.head?).get (by decide +kernel),
       false, by unfold State.Inv State.Placed State.Lone State.Awake; decide +kernel⟩,
   ⟨(states.getD 2 {}), (envs.getD 0 {}), (((states.getD 2 {})).ing.epochs.head?).get (by decide +kernel),
       ((bodies).getD 0 []), by unfold State.Inv State.Placed State.Lone State.Awake; decide +kernel⟩,
   ⟨(states.getD 2 {}), (envs.getD 0 {}), (((states.getD 2 {})).ing.epochs.head?).get (by decide +kernel),
       ((bodies).getD 2 []), by unfold State.Inv State.Placed State.Lone State.Awake; decide +kernel⟩,
   ⟨(states.getD 2 {}), (envs.getD 1 {}), (((states.getD 2 {})).ing.epochs.head?).get (by decide +kernel),
       ((bodies).getD 4 []), by unfold State.Inv State.Placed State.Lone State.Awake; decide +kernel⟩,
   ⟨(states.getD 2 {}), (envs.getD 2 {}), (((states.getD 2 {})).ing.epochs.head?).get (by decide +kernel),
       ((bodies).getD 5 []),
       (texOf ((((states.getD 2 {})).ing.epochs.head?).get (by decide +kernel)).texs (readUpdHead (((bodies).getD 5 []))).tex).get (by decide +kernel), by unfold State.Inv State.Placed State.Lone State.Awake; decide +kernel⟩,
   ⟨(states.getD 2 {}), (envs.getD 2 {}), (((states.getD 2 {})).ing.epochs.head?).get (by decide +kernel),
       ((bodies).getD 6 []),
       (texOf ((((states.getD 2 {})).ing.epochs.head?).get (by decide +kernel)).texs (readUpdHead (((bodies).getD 6 []))).tex).get (by decide +kernel), by unfold State.Inv State.Placed State.Lone State.Awake; decide +kernel⟩,
   ⟨(states.getD 2 {}), (envs.getD 4 {}), (((states.getD 2 {})).ing.epochs.head?).get (by decide +kernel),
       ((bodies).getD 8 []), by unfold State.Inv State.Placed State.Lone State.Awake; decide +kernel⟩,
   ⟨(states.getD 4 {}), (envs.getD 11 {}), (((states.getD 4 {})).ing.epochs.head?).get (by decide +kernel),
       ((bodies).getD 10 []),
       (cardOf ((((states.getD 4 {})).ing.epochs.head?).get (by decide +kernel)).cards (leAt (((((bodies).getD 10 [])).drop 8).take 64) 0 2)).get (by decide +kernel), by unfold State.Inv State.Placed State.Lone State.Awake; decide +kernel⟩⟩

end ScenePacketsApplied

end SceneStream

namespace Synthesis

def gon : List (Nat × Word) := rgs ((List.range 8).map (fun g => (groveReg g 0, 1#32)))
def geff : List (Nat × Word) := rgs [(R.GRV_PITCH, 0x3A83126F)]
def fi : Fill := {fsn := 1, released := 2}
def on (s : State) : State := {s with regs := gon, eff := geff}

namespace TablesAndStripsRun

def states : List State := [{},
    on {}, {grv := {boundsChg := {checking := true, inUse := [5,6], lastWrite := 9}, colChg := {checking := true}}, regs := flds [(F.COL_STATUS_CHECKING, 1)]}, {mem := [(2,0xC0),(3,0x7F)], grv := {boundsChg := {checking := true, inUse := [0x5000,6]}}}, 
  {grv := {boundsChg := {checking := true, inUse := [5,6]}}, regs := rgs [(R.BIN_BOUNDS_HI, 0x3F)]},
  on {pdl := {fills := [fi]}, ing := {epochs := [{fsn := 1, st := .created}]}},
       on {pdl := {fills := [fi, {fsn := 2, released := 512}, {fsn := 0, released := 1}]}, ing := {epochs := [{fsn := 1, st := .created}]}, grv := {panics := [(2, 1, 0), (1, 7, 0)], strips := [{engine := 19, fsn := 1, bin := 0, row := 0}, {engine := 3, fsn := 1, bin := 1, row := 0}]}}, {pdl := {fills := [{fi with fsn := 19, released := 1}, {fi with released := 7, issued := 3584, nextLine := 1, pendingStrips := [1], panicked := true}]}}]

/-- Witnesses of the hypotheses of TablesAndStripsRun. -/
theorem witness :
    (∃ (s : State),
      s.Inv ∧ s.Awake) ∧
    (∃ (s : State) (k : TableId),
      s.Inv ∧ s.Awake ∧ (s.tableChg k).checking = false) ∧
    (∃ (s : State) (k : TableId),
      s.Inv ∧ s.Awake ∧ (s.tableChg k).checking = true ∧ s.tableFault k = none) ∧
    (∃ (s : State) (why : TableFault) (lo : BitVec 32) (hi : BitVec 32),
      s.Inv ∧ s.Awake ∧ s.grv.boundsChg.checking = true ∧ s.tableFault .bounds = some why ∧
      s.grv.boundsChg.inUse = [lo, hi] ∧ s.grv.boundsChg.atStart = false) ∧
    (∃ (s : State) (n : Fsn) (f : Fill),
      s.Inv ∧ s.Awake ∧ s.fillOf n = some f ∧ (∀ e, s.epoch n = some e → e.st ≠ .closed) ∧ s.dmc.held = [] ∧
      s.grv.panics = [] ∧ f.released < 512 ∧ (f.released < 2 ∨ f.groupComplete (f.released - 2) = true ∧
      (f.released - 2) / 16 < f.nextLine)) ∧
    (∃ (s : State) (n : Fsn) (f : Fill),
      s.Inv ∧ s.Awake ∧ s.fillOf n = some f ∧ (∀ e, s.epoch n = some e → e.st ≠ .closed) ∧ s.dmc.held = [] ∧
      s.grv.panics = [] ∧ (512 ≤ f.released ∨ 2 ≤ f.released ∧ f.groupComplete (f.released - 2) = false)) ∧
    (∃ (s : State) (engine : Nat),
      s.Inv ∧ s.Awake ∧
      (128 ≤ engine ∨ s.grv.strips.any (fun x => x.engine == engine) = true ∨ s.arrayOn = false ∨ s.frozen = true)) ∧
    (∃ (s : State) (engine : Nat) (f : Fill),
      s.Inv ∧ s.Awake ∧ engine < 128 ∧ s.arrayOn = true ∧ s.frozen = false ∧
      (s.grv.strips.any (fun x => x.engine == engine) = false) ∧ s.fillReady (s.S + 1) = true ∧
      s.fillOf (s.S + 1) = some f) ∧
    (∃ (s : State) (engine : Nat),
      s.Inv ∧ s.Awake ∧ (s.grv.strips.find? (fun x => x.engine == engine) = none)) ∧
    (∃ (s : State) (engine : Nat) (st : Strip),
      s.Inv ∧ s.Awake ∧ engine < 128 ∧ (s.grv.strips.find? (fun x => x.engine == engine) = some st)) ∧
    (∃ (s : State) (engine : Nat) (st : Strip) (f : Fill),
      s.Inv ∧ s.Awake ∧ engine < 128 ∧ (s.grv.strips.find? (fun x => x.engine == engine) = some st) ∧
      st.kind = .fill ∧ s.fillOf st.fsn = some f ∧ (∀ e, s.epoch st.fsn = some e → e.st ≠ .closed) ∧
      s.dmc.held = []) ∧
    (∃ (s : State) (grove : Nat),
      s.Inv ∧ s.Awake ∧ (s.grv.strips.find? (fun x => x.engine / 16 == grove && x.kind == .fill) = none)) ∧
    (∃ (s : State) (grove : Nat) (st : Strip) (f : Fill),
      s.Inv ∧ s.Awake ∧ grove < 8 ∧
      (s.grv.strips.find? (fun x => x.engine / 16 == grove && x.kind == .fill) = some st) ∧
      s.fillOf st.fsn = some f ∧ f.panicked = false) ∧
    (∃ (s : State) (grove : Nat),
      s.Inv ∧ s.Awake ∧ grove < 8) :=
  ⟨⟨(states.getD 0 {}), by unfold State.Inv State.Awake; decide +kernel⟩,
   ⟨(states.getD 0 {}), .bounds, by unfold State.Inv State.Awake; decide +kernel⟩,
   ⟨(states.getD 2 {}), .colour, by unfold State.Inv State.Awake; decide +kernel⟩,
   ⟨(states.getD 3 {}), (((states.getD 3 {})).tableFault .bounds).get (by decide +kernel), 0x5000,
       6, by unfold State.Inv State.Awake; decide +kernel⟩,
   ⟨(states.getD 7 {}), 1,
       (((states.getD 7 {})).fillOf (1)).get (by decide +kernel), by unfold State.Inv State.Awake; decide +kernel⟩,
   ⟨(states.getD 5 {}), 1,
       (((states.getD 5 {})).fillOf (1)).get (by decide +kernel), by unfold State.Inv State.Awake; decide +kernel⟩,
   ⟨(states.getD 0 {}), 0, by unfold State.Inv State.Awake; decide +kernel⟩,
   ⟨(states.getD 5 {}), 0,
       (((states.getD 5 {})).fillOf (((states.getD 5 {})).S + 1)).get (by decide +kernel), by unfold State.Inv State.Awake; decide +kernel⟩,
   ⟨(states.getD 0 {}), 0, by unfold State.Inv State.Awake; decide +kernel⟩,
   ⟨(states.getD 6 {}), 19,
       (((states.getD 6 {})).grv.strips.find? (fun x => x.engine == (19))).get (by decide +kernel), by unfold State.Inv State.Awake; decide +kernel⟩,
   ⟨(states.getD 6 {}), 19,
       (((states.getD 6 {})).grv.strips.find? (fun x => x.engine == (19))).get (by decide +kernel),
       (((states.getD 6 {})).fillOf ((((states.getD 6 {})).grv.strips.find? (fun x => x.engine == (19))).get (by decide +kernel)).fsn).get (by decide +kernel), by unfold State.Inv State.Awake; decide +kernel⟩,
   ⟨(states.getD 0 {}), 0, by unfold State.Inv State.Awake; decide +kernel⟩,
   ⟨(states.getD 6 {}), 1, {engine := 19, fsn := 1, bin := 0, row := 0},
       fi, by unfold State.Inv State.Awake; decide +kernel⟩,
   ⟨(states.getD 0 {}), 0, by unfold State.Inv State.Awake; decide +kernel⟩⟩

end TablesAndStripsRun

namespace ThicketRunsJobs

def tq (l : List (Fld × Nat)) : List (Nat × Word) := flds ([(F.THK_CTRL_ENABLE, 1), (F.THK_QCFG_QENABLE 0, 1),
    (F.THK_QCFG_QENABLE 1, 1), (F.THK_QCFG_QENABLE 2, 1), (F.THK_QCFG_SIZE_LOG 0, 4), (F.THK_QCFG_SIZE_LOG 1, 4),
    (F.THK_QCFG_SIZE_LOG 2, 12), (F.THK_QTAIL_TAIL 0, 2), (F.THK_QHEAD_HEAD 1, 31), (F.THK_QTAIL_TAIL 1, 1)] ++ l)
def mm : List Host.Cell := (Memory.writeBytes [] 0x1000 [1,5,0,0xFA,0xFF,0x68,0x65,0x6C,0x6C,0x6F])
def dd : ThkDesc := {op := 0, format := 1, src := 0x1000, srcLen := 10, dst := 0x1008, limit := 16}
def jb (q c : Nat) (d : ThkDesc) : ThkJob := {queue := q, index := 7, channel := some c, desc := d}
def states : List State := [{}, {regs := tq []}, {regs := tq [], thk := {q0 := [{index := 4}, {index := 5}]}}, {regs := tq [], thk := {lastServed := 1, nextStart := [1,31,0]}}, {regs := tq [], mem := [(0x40, 1), (0x7C0, 1), (0x7C3,9)], thk := {lastServed := 2, nextStart := [1,31,0]}}, {mem := mm, thk := {jobs := [jb 1 2 dd]}}, {mem := mm, thk := {jobs := [jb 3 0 {dd with exact := true}]}}, {mem := mm, thk := {jobs := [jb 2 4 {dd with bad := true}]}}, {mem := mm, thk := {jobs := [{jb 2 4 {dd with bad := true} with aborted := true}]}}, {mem := mm, thk := {jobs := [jb 1 4 {dd with op := 1, level := 1, src := 0x2000, srcLen := 300, limit := 280}]}}, {mem := mm, thk := {jobs := [jb 2 4 {dd with op := 1, format := 0, wlog := 15, level := 4, src := 0x2000, srcLen := 3000, limit := 2800}]}}, {regs := tq [], mem := mm, thk := {nextStart := [2,1,0], jobs := [jb 1 2 dd]}}, {regs := tq [], mem := mm, thk := {nextStart := [2,1,0], jobs := [jb 2 2 dd]}}]

/-- Witnesses of the hypotheses of ThicketRunsJobs. -/
theorem witness :
    (∃ (s : State) (q : Nat) (channel : Nat) (value : Word),
      s.Inv ∧ s.Awake ∧ 1 ≤ q ∧ q ≤ 3 ∧ channel ≤ 4 ∧
      s.ringMod q / 2 < s.ringSpan q (s.ringHead q) (value.toNat % 2 ^ 13 % s.ringMod q)) ∧
    (∃ (s : State) (q : Nat) (channel : Nat) (value : Word),
      s.Inv ∧ s.Awake ∧ 1 ≤ q ∧ q ≤ 3 ∧ channel ≤ 4 ∧
      s.ringSpan q (s.ringHead q) (value.toNat % 2 ^ 13 % s.ringMod q) ≤ s.ringMod q / 2) ∧
    (∃ (s : State) (q : Nat) (channel : Nat),
      s.Inv ∧ s.Awake ∧ 1 ≤ q ∧ q ≤ 3 ∧ channel ≤ 4 ∧ s.ringHead q = s.ringTail q) ∧
    (∃ (s : State) (q : Nat) (channel : Nat) (j : ThkJob),
      s.Inv ∧ s.Awake ∧ 1 ≤ q ∧ q ≤ 3 ∧ channel ≤ 4 ∧ s.ringHead q ≠ s.ringTail q ∧ s.ringStart q = s.ringTail q ∧
      s.thk.jobs = [j] ∧ j.queue = q ∧ j.ended = false ∧ s.thk.abortTo.length = 3) ∧
    (∃ (s : State) (q : Nat) (channel : Nat),
      s.Inv ∧ s.Awake ∧ 1 ≤ q ∧ q ≤ 3 ∧ channel ≤ 4 ∧ s.flag F.THK_CTRL_ENABLE = false) ∧
    (∃ (s : State) (q : Nat) (channel : Nat) (j : ThkJob) (rest : List ThkJob),
      s.Inv ∧ s.Awake ∧ 1 ≤ q ∧ q ≤ 3 ∧ channel ≤ 4 ∧ s.flag F.THK_CTRL_ENABLE = true ∧
      (s.thk.jobs.any (fun j => j.channel == some channel) = false) ∧ channel < 4 ∧ s.thk.q0 = j :: rest) ∧
    (∃ (s : State) (q : Nat) (channel : Nat),
      s.Inv ∧ s.Awake ∧ 1 ≤ q ∧ q ≤ 3 ∧ channel ≤ 4 ∧ s.flag F.THK_CTRL_ENABLE = true ∧
      (s.thk.jobs.any (fun j => j.channel == some channel) = false) ∧ s.thk.q0 = [] ∧ s.thk.nextStart.length = 3 ∧
      (rrOrder s.thk.lastServed).find? (s.frontFits (channel == 4)) = some q) ∧
    (∃ (s : State) (q : Nat) (channel : Nat),
      s.Inv ∧ s.Awake ∧ 1 ≤ q ∧ q ≤ 3 ∧ channel ≤ 4 ∧ (s.thk.jobs.any (fun j => j.channel == some channel) = false)) ∧
    (∃ (s : State) (q : Nat) (channel : Nat) (j : ThkJob),
      s.Inv ∧ s.Awake ∧ 1 ≤ q ∧ q ≤ 3 ∧ channel ≤ 4 ∧ s.thk.jobs = [j] ∧ j.channel = some channel ∧ j.queue = q ∧
      j.index ≠ s.ringHead q ∧ j.desc.bad = true ∧ j.aborted = true) ∧
    (∃ (s : State) (q : Nat) (channel : Nat) (j : ThkJob),
      s.Inv ∧ s.Awake ∧ 1 ≤ q ∧ q ≤ 3 ∧ channel ≤ 4 ∧ s.thk.jobs = [j] ∧ j.channel = some channel ∧ j.queue = q ∧
      j.index ≠ s.ringHead q ∧ j.desc.bad = true ∧ j.aborted = false) ∧
    (∃ (s : State) (q : Nat) (channel : Nat) (j : ThkJob),
      s.Inv ∧ s.Awake ∧ 1 ≤ q ∧ q ≤ 3 ∧ channel ≤ 4 ∧ s.thk.jobs = [j] ∧ j.channel = some channel ∧ j.queue = q ∧
      j.index ≠ s.ringHead q ∧ j.desc.bad = false ∧ j.desc.op = 0 ∧ j.aborted = false ∧ s.dmc.poison = [] ∧
      j.badLines = [] ∧
      rangeInDram j.desc.dst (decompress j.desc.format j.desc.exact j.desc.limit j.desc.srcLen (s.bytes j.desc.src j.desc.srcLen)).out.length = true ∧ s.pins' = []) ∧
    (∃ (s : State) (q : Nat) (channel : Nat) (j : ThkJob),
      s.Inv ∧ s.Awake ∧ 1 ≤ q ∧ q ≤ 3 ∧ channel ≤ 4 ∧ s.thk.jobs = [j] ∧ j.channel = some channel ∧ j.queue = q ∧
      j.index ≠ s.ringHead q ∧ j.desc.bad = false ∧ j.desc.op = 1 ∧ j.aborted = false ∧ s.dmc.poison = [] ∧
      j.badLines = [] ∧
      rangeInDram j.desc.dst (if (decide ((compressBytes j.desc.format j.desc.level j.desc.wlog (s.bytes j.desc.src j.desc.srcLen)).length < j.desc.srcLen ∧ (compressBytes j.desc.format j.desc.level j.desc.wlog (s.bytes j.desc.src j.desc.srcLen)).length ≤ j.desc.limit)) then (compressBytes j.desc.format j.desc.level j.desc.wlog (s.bytes j.desc.src j.desc.srcLen)).length else min j.desc.limit (j.desc.srcLen - 1)) = true ∧ s.pins' = []) :=
  ⟨⟨(states.getD 0 {}), 1, 0, 17, by unfold State.Inv State.Awake; decide +kernel⟩,
   ⟨(states.getD 0 {}), 1, 0, 0, by unfold State.Inv State.Awake; decide +kernel⟩,
   ⟨(states.getD 0 {}), 1, 0, by unfold State.Inv State.Awake; decide +kernel⟩,
   ⟨(states.getD 11 {}), 1, 0,
       (((states.getD 11 {})).thk.jobs.head?).get (by decide +kernel), by unfold State.Inv State.Awake; decide +kernel⟩,
   ⟨(states.getD 0 {}), 1, 0, by unfold State.Inv State.Awake; decide +kernel⟩,
   ⟨(states.getD 2 {}), 1, 0, (((states.getD 2 {})).thk.q0.head?).get (by decide +kernel),
       (some ((states.getD 2 {})).thk.q0.tail).get (by decide +kernel), by unfold State.Inv State.Awake; decide +kernel⟩,
   ⟨(states.getD 1 {}), 1, 0, by unfold State.Inv State.Awake; decide +kernel⟩,
   ⟨(states.getD 0 {}), 1, 0, by unfold State.Inv State.Awake; decide +kernel⟩,
   ⟨(states.getD 8 {}), 2, 4,
       (((states.getD 8 {})).thk.jobs.head?).get (by decide +kernel), by unfold State.Inv State.Awake; decide +kernel⟩,
   ⟨(states.getD 7 {}), 2, 4,
       (((states.getD 7 {})).thk.jobs.head?).get (by decide +kernel), by unfold State.Inv State.Awake; decide +kernel⟩,
   ⟨(states.getD 5 {}), 1, 2,
       (((states.getD 5 {})).thk.jobs.head?).get (by decide +kernel), by unfold State.Inv State.Awake; decide +kernel⟩,
   ⟨(states.getD 9 {}), 1, 4,
       (((states.getD 9 {})).thk.jobs.head?).get (by decide +kernel), by unfold State.Inv; decide +kernel, by unfold State.Awake; decide +kernel, by decide +kernel, by decide +kernel, by decide +kernel, by decide +kernel, by decide +kernel, by decide +kernel, by decide +kernel, by decide +kernel, by decide +kernel, by decide +kernel, by decide +kernel, by decide +kernel, range_le out_le (by decide +kernel), by decide +kernel⟩⟩

end ThicketRunsJobs

end Synthesis

namespace Services

def mtt (l : List (Fld × Nat)) : List (Nat × Word) := flds ([(F.MET_CTRL_ENABLE, 1), (F.MET_CTRL_MODE, 1),
    (F.MET_S_CFG_EN 0, 1), (F.MET_S_CFG_EN 2, 1), (F.MET_S_CFG_DT 0, 0x2C), (F.MET_S_CFG_DT 2, 0x2E),
    (F.MET_S_SIZE_W 0, 2), (F.MET_S_SIZE_H 0, 2), (F.MET_S_SIZE_W 2, 2), (F.MET_S_SIZE_H 2, 2), (F.MET_CSI_LAT_NS,
    3), (F.MET_T_CTRL_COUNT 1, 2), (F.MET_PAR_BITS, 10)] ++ l)
def rq : PmpCtx := {session := 4, reqId := 9, stamp := 100}
def ses : PmpSession := {id := 4, opened := true}
def ask : State := {ctl := {sessions := [ses], mgtLink := true}}
def prts (l : List (Nat × Port)) : List Port := (List.range 6).map (fun i => (l.lookup i).getD {})
def doms : List Domain := [{st := .root}, {st := .root}]
def cf : Fabric := {coord := some 0x0203, ports := prts []}
def rt : List (Nat × Word) := flds [(F.TIM_ROOT_ROOT_A, 0x0203), (F.TIM_ROOT_ROOT_B, 0x0203)]
def dk (s : State) : State := {s with fab := cf, tim := {doms := doms}, regs := rt}
def rq0 : PmpCtx := {session := 4, reqId := 9, stamp := -6000000000000}

namespace SensorFramesCaptured

def fr : MetFrame := {seq := 5, start := 7, width := 2, height := 2, bits := 12, record := 0x8000, ringLog := 2}
def stm (l : List (Nat × MetStream)) : List MetStream := (List.range 4).map (fun i => (l.lookup i).getD {})
def states : List State := [{}, {regs := mtt [], ing := {committed := some 3}}, {regs := mtt [(F.MET_CTRL_MODE, 2), (F.MET_S_CFG_EN 0, 1)]}, {regs := mtt [(F.MET_CTRL_MODE, 2)], met := {streams := stm [(0, {frame := some fr})]}}, {regs := mtt [], met := {goOrder := 9, streams := stm [(0, {frame := some {fr with lines := 2}, queued := [([1,2],4)]}), (2, {frame := some {fr with row := 1, lines := 1, px := [(0,[1,2])]}, nextSeq := 6, queued := [([1],3), ([],5)]}), (3, {queued := List.replicate 4 ([], 2)})]}},
  {regs := mtt [(F.MET_S_CFG_TEST 0, 1), (F.MET_CCI_BUSY, 1)], met := {cci := some (1, [1,2,3,4,5]), streams := stm [(0, {frame := some fr, nextSeq := 4})]}}]

/-- Witnesses of the hypotheses of SensorFramesCaptured. -/
theorem witness :
    (∃ (s : State) (i : Nat),
      s.Inv ∧ s.Awake ∧ i < 4 ∧ s.met.streams.length = 4 ∧ s.met.taps.length = 4 ∧
      s.flag (F.MET_T_CTRL_BUSY i) = false ∧ s.fld (F.MET_T_CTRL_COUNT i) ≠ 0) ∧
    (∃ (s : State) (i : Nat),
      s.Inv ∧ s.Awake ∧ i < 4 ∧ s.met.streams.length = 4 ∧ s.met.taps.length = 4 ∧
      (s.flag (F.MET_T_CTRL_BUSY i) = true ∨ s.fld (F.MET_T_CTRL_COUNT i) = 0)) ∧
    (∃ (s : State) (i : Nat),
      s.Inv ∧ s.Awake ∧ i < 4 ∧ s.met.streams.length = 4 ∧ s.met.taps.length = 4 ∧
      s.flag F.MET_CTRL_ENABLE = true ∧ s.fld F.MET_CTRL_MODE = 1) ∧
    (∃ (s : State) (i : Nat) (k : Nat),
      s.Inv ∧ s.Awake ∧ i < 4 ∧ s.met.streams.length = 4 ∧ s.met.taps.length = 4 ∧ s.TapsIdle ∧
      (s.stream k).frame = none ∧ s.fld (F.MET_S_DPC_HI_COUNT k) = 0 ∧ s.receives 1 k = true) ∧
    (∃ (s : State) (i : Nat) (k : Nat),
      s.Inv ∧ s.Awake ∧ i < 4 ∧ s.met.streams.length = 4 ∧ s.met.taps.length = 4 ∧ s.TapsIdle ∧
      (s.stream k).frame = none ∧ s.fld (F.MET_S_DPC_HI_COUNT k) = 0 ∧ k = 0 ∧ s.receives 2 0 = true) ∧
    (∃ (s : State) (i : Nat) (k : Nat) (f : MetFrame) (samples : List Nat),
      s.Inv ∧ s.Awake ∧ i < 4 ∧ s.met.streams.length = 4 ∧ s.met.taps.length = 4 ∧ s.TapsIdle ∧
      (s.stream k).frame = some f ∧ f.overflow = false ∧ f.row < f.height ∧ f.lines < f.height ∧
      samples.length = f.width ∧ s.receives 1 k = true) ∧
    (∃ (s : State) (i : Nat) (k : Nat) (f : MetFrame) (samples : List Nat),
      s.Inv ∧ s.Awake ∧ i < 4 ∧ s.met.streams.length = 4 ∧ s.met.taps.length = 4 ∧ s.TapsIdle ∧
      (s.stream k).frame = some f ∧ f.overflow = false ∧ f.row < f.height ∧ f.lines < f.height ∧
      samples.length = f.width ∧ k = 0 ∧ s.receives 2 0 = true) ∧
    (∃ (s : State) (i : Nat) (k : Nat) (f : MetFrame),
      s.Inv ∧ s.Awake ∧ i < 4 ∧ s.met.streams.length = 4 ∧ s.met.taps.length = 4 ∧ s.TapsIdle ∧
      (s.stream k).frame = some f ∧ s.receives 1 k = true ∧ f.short = false ∧ f.long = false ∧ f.lines = f.height ∧
      s.pins' = [] ∧ s.dmc.poison = []) ∧
    (∃ (s : State) (i : Nat) (k : Nat),
      s.Inv ∧ s.Awake ∧ i < 4 ∧ s.met.streams.length = 4 ∧ s.met.taps.length = 4 ∧ s.TapsIdle ∧ s.testing k = true) ∧
    (∃ (s : State) (i : Nat),
      s.Inv ∧ s.Awake ∧ i < 4 ∧ s.met.streams.length = 4 ∧ s.met.taps.length = 4 ∧ (s.stream i).queued.length < 4) ∧
    (∃ (s : State) (i : Nat),
      s.Inv ∧ s.Awake ∧ i < 4 ∧ s.met.streams.length = 4 ∧ s.met.taps.length = 4 ∧ (s.stream i).queued.length = 4) ∧
    (∃ (s : State) (i : Nat) (q : List Byte × Nat) (rest : List (List Byte × Nat)),
      s.Inv ∧ s.Awake ∧ i < 4 ∧ s.met.streams.length = 4 ∧ s.met.taps.length = 4 ∧ s.met.cci = none ∧
      s.nextSet = some i ∧ (s.stream i).queued = q :: rest ∧ rest.length < 4) ∧
    (∃ (s : State) (i : Nat),
      s.Inv ∧ s.Awake ∧ i < 4 ∧ s.met.streams.length = 4 ∧ s.met.taps.length = 4 ∧ s.met.cci.isSome = true) ∧
    (∃ (s : State) (i : Nat),
      s.Inv ∧ s.Awake ∧ i < 4 ∧ s.met.streams.length = 4 ∧ s.met.taps.length = 4 ∧ s.met.cci = none) ∧
    (∃ (s : State) (i : Nat) (d : List Byte),
      s.Inv ∧ s.Awake ∧ i < 4 ∧ s.met.streams.length = 4 ∧ s.met.taps.length = 4 ∧ s.met.cci = some (i, d)) :=
  ⟨⟨(states.getD 1 {}), 1, by unfold State.Inv State.Awake; decide +kernel⟩,
   ⟨(states.getD 0 {}), 0, by unfold State.Inv State.Awake; decide +kernel⟩,
   ⟨(states.getD 1 {}), 0, by unfold State.Inv State.Awake; decide +kernel⟩,
   ⟨(states.getD 1 {}), 0,
       0, by unfold State.Inv; decide +kernel, by unfold State.Awake; decide +kernel, by decide +kernel, by decide +kernel, by decide +kernel, tapsIdle_of (by decide +kernel), by decide +kernel, by decide +kernel, by decide +kernel⟩,
   ⟨(states.getD 2 {}), 0,
       0, by unfold State.Inv; decide +kernel, by unfold State.Awake; decide +kernel, by decide +kernel, by decide +kernel, by decide +kernel, tapsIdle_of (by decide +kernel), by decide +kernel, by decide +kernel, by decide +kernel, by decide +kernel⟩,
   ⟨(states.getD 4 {}), 0, 2, ((((states.getD 4 {})).stream (2)).frame).get (by decide +kernel),
       [5,4095], by unfold State.Inv; decide +kernel, by unfold State.Awake; decide +kernel, by decide +kernel, by decide +kernel, by decide +kernel, tapsIdle_of (by decide +kernel), by decide +kernel, by decide +kernel, by decide +kernel, by decide +kernel, by decide +kernel, by decide +kernel⟩,
   ⟨(states.getD 3 {}), 0, 0, ((((states.getD 3 {})).stream (0)).frame).get (by decide +kernel),
       [5,4095], by unfold State.Inv; decide +kernel, by unfold State.Awake; decide +kernel, by decide +kernel, by decide +kernel, by decide +kernel, tapsIdle_of (by decide +kernel), by decide +kernel, by decide +kernel, by decide +kernel, by decide +kernel, by decide +kernel, by decide +kernel, by decide +kernel⟩,
   ⟨(states.getD 4 {}), 0, 0,
       ((((states.getD 4 {})).stream (0)).frame).get (by decide +kernel), by unfold State.Inv; decide +kernel, by unfold State.Awake; decide +kernel, by decide +kernel, by decide +kernel, by decide +kernel, tapsIdle_of (by decide +kernel), by decide +kernel, by decide +kernel, by decide +kernel, by decide +kernel, by decide +kernel, by decide +kernel, by decide +kernel⟩,
   ⟨(states.getD 5 {}), 0,
       0, by unfold State.Inv; decide +kernel, by unfold State.Awake; decide +kernel, by decide +kernel, by decide +kernel, by decide +kernel, tapsIdle_of (by decide +kernel), by decide +kernel⟩,
   ⟨(states.getD 0 {}), 0, by unfold State.Inv State.Awake; decide +kernel⟩,
   ⟨(states.getD 4 {}), 3, by unfold State.Inv State.Awake; decide +kernel⟩,
   ⟨(states.getD 4 {}), 3, ((((states.getD 4 {})).stream (3)).queued.head?).get (by decide +kernel),
       (some (((states.getD 4 {})).stream (3)).queued.tail).get (by decide +kernel), by unfold State.Inv State.Awake; decide +kernel⟩,
   ⟨(states.getD 5 {}), 0, by unfold State.Inv State.Awake; decide +kernel⟩,
   ⟨(states.getD 0 {}), 0, by unfold State.Inv State.Awake; decide +kernel⟩,
   ⟨(states.getD 5 {}), 1,
       ((((states.getD 5 {})).met.cci.bind (fun c => if c.1 = (1) then some c.2 else none))).get (by decide +kernel), by unfold State.Inv State.Awake; decide +kernel⟩⟩

end SensorFramesCaptured

namespace CalibrationRuns

def stb (n : Nat) : List Byte := leBytes 4 n ++ digestBytes (Config.sha3 [1,2,3]) ++ Config.dskSign [] ++ [1,2,3]
def states : List State := [{}, {ask with cmt := {screen := .show}, sec := {onAir := true}}, {ask with met := {cal := some {client := 9}}}, {ask with mem := [(2,0xC0),(3,0x7F)], met := {cal := some {client := 4}}}, {ask with mem := [(2,0xC0),(3,0x7F)], met := {cal := some {client := 4, solved := true, pattern := [[7]]}}}, {ask with cmt := {screen := .dark}}, {ask with nvm := {stores := [{bytes := stb 2}, {bytes := stb 0xFFFFFFFF}]}, cmt := {screen := .dark}}, {ask with lc := .returned, met := {cal := some {client := 4, solved := true}}}, {ask with regs := flds [(F.CMT_T_LOCAL_OFFSET, 100)], met := {cal := some {client := 4, solved := true, waiting := some (rq, [], [])}}}, {ask with cmt := {gen := {num := 1, anchor := -999999999999}}, met := {cal := some {client := 4, solved := true}}}, {ask with regs := flds [(F.MET_S_CFG_EN 0, 1)], met := {streams := [{lastRecord := some 5}]}}, {ask with met := {cal := some {client := 4}}}, {ask with nvm := {stores := [{bytes := stb 1}, {}]}, met := {cal := some {client := 4, solved := true}}}]

/-- Witnesses of the hypotheses of CalibrationRuns. -/
theorem witness :
    (∃ (s : State) (req : PmpCtx),
      s.Inv ∧ s.Awake ∧ s.Asks req ∧ s.met.cal.isSome = true) ∧
    (∃ (s : State) (req : PmpCtx),
      s.Inv ∧ s.Awake ∧ s.Asks req ∧ s.met.cal = none ∧ s.cmt.screen = .show ∧ s.sec.onAir = true) ∧
    (∃ (s : State) (req : PmpCtx),
      s.Inv ∧ s.Awake ∧ s.Asks req ∧ s.met.cal = none ∧ s.cmt.screen ≠ .show ∧ s.sensorSeen req.stamp = true ∧
      s.pins' = [] ∧ s.dmc.poison = []) ∧
    (∃ (s : State) (req : PmpCtx) (c : Instr),
      s.Inv ∧ s.Awake ∧ s.Asks req ∧ s.calOf req = none ∧ (∃ x y z w,
      c = .calPattern req x y z ∨ c = .calSolve req w w w [] ∨ c = .calStage req [] [])) ∧
    (∃ (s : State) (req : PmpCtx) (c : CalSession) (record : List Word),
      s.Inv ∧ s.Awake ∧ s.Asks req ∧ s.calOf req = some c ∧ s.recordCounts c record = false) ∧
    (∃ (s : State) (req : PmpCtx) (c : CalSession) (dir : Nat) (out : Nat) (total : Nat),
      s.Inv ∧ s.Awake ∧ s.Asks req ∧ s.calOf req = some c ∧ s.solveFails dir out total = true) ∧
    (∃ (s : State) (req : PmpCtx) (c : CalSession) (dir : Nat) (out : Nat) (total : Nat) (figures : List Nat),
      s.Inv ∧ s.Awake ∧ s.Asks req ∧ s.calOf req = some c ∧ s.solveFails dir out total = false ∧
      figuresMeet figures = true) ∧
    (∃ (s : State) (req : PmpCtx) (c : CalSession) (dir : Nat) (out : Nat) (total : Nat) (figures : List Nat),
      s.Inv ∧ s.Awake ∧ s.Asks req ∧ s.calOf req = some c ∧ s.solveFails dir out total = false ∧
      figuresMeet figures = false ∧ c.force = false) ∧
    (∃ (s : State) (req : PmpCtx) (c : CalSession),
      s.Inv ∧ s.Awake ∧ s.Asks req ∧ s.calOf req = some c ∧ s.lc ≠ .returned ∧
      (c.solved = false ∨ c.waiting.isSome = true)) ∧
    (∃ (s : State) (req : PmpCtx) (c : CalSession),
      s.Inv ∧ s.Awake ∧ s.Asks req ∧ s.calOf req = some c ∧ s.lc = .returned) ∧
    (∃ (s : State) (req : PmpCtx) (c : CalSession),
      s.Inv ∧ s.Awake ∧ s.Asks req ∧ s.calOf req = some c ∧ s.lc ≠ .returned ∧ c.solved = true ∧ c.waiting = none ∧
      s.instant .localAbort s.N - 512000000 ≤ req.stamp) ∧
    (∃ (s : State) (req : PmpCtx) (c : CalSession),
      s.Inv ∧ s.Awake ∧ s.Asks req ∧ s.calOf req = some c ∧ s.lc ≠ .returned ∧ c.solved = true ∧ c.waiting = none ∧
      s.nvm.stores.length = 2 ∧ req.stamp < s.instant .localAbort s.N - 512000000) ∧
    (∃ (s : State) (req : PmpCtx),
      s.Inv ∧ s.Awake ∧ s.Asks req ∧ s.cmt.screen ≠ .dark) ∧
    (∃ (s : State) (req : PmpCtx),
      s.Inv ∧ s.Awake ∧ s.Asks req ∧ s.cmt.screen = .dark) :=
  ⟨⟨(states.getD 2 {}),
      rq, by unfold State.Inv; decide +kernel, by unfold State.Awake; decide +kernel, ⟨ses, by decide +kernel⟩, by decide +kernel⟩,
   ⟨(states.getD 1 {}),
       rq, by unfold State.Inv; decide +kernel, by unfold State.Awake; decide +kernel, ⟨ses, by decide +kernel⟩, by decide +kernel, by decide +kernel, by decide +kernel⟩,
   ⟨(states.getD 10 {}),
       rq, by unfold State.Inv; decide +kernel, by unfold State.Awake; decide +kernel, ⟨ses, by decide +kernel⟩, by decide +kernel, by decide +kernel, by decide +kernel, by decide +kernel, by decide +kernel⟩,
   ⟨(states.getD 2 {}), rq,
       .calPattern rq [] 0 [], by unfold State.Inv; decide +kernel, by unfold State.Awake; decide +kernel, ⟨ses, by decide +kernel⟩, by decide +kernel, ⟨[], 0, [], 0, .inl rfl⟩⟩,
   ⟨(states.getD 3 {}), rq, {client := 4},
       [], by unfold State.Inv; decide +kernel, by unfold State.Awake; decide +kernel, ⟨ses, by decide +kernel⟩, by decide +kernel, by decide +kernel⟩,
   ⟨(states.getD 11 {}), rq, {client := 4}, 0, 1,
       0, by unfold State.Inv; decide +kernel, by unfold State.Awake; decide +kernel, ⟨ses, by decide +kernel⟩, by decide +kernel, by simp [State.solveFails]⟩,
   ⟨(states.getD 11 {}), rq, {client := 4}, 0, 0, 0, [100, 500,
       200], by unfold State.Inv; decide +kernel, by unfold State.Awake; decide +kernel, ⟨ses, by decide +kernel⟩, by decide +kernel, zeroTable_ok (by decide +kernel) (by decide +kernel), by decide +kernel⟩,
   ⟨(states.getD 11 {}), rq, {client := 4}, 0, 0, 0,
       [101], by unfold State.Inv; decide +kernel, by unfold State.Awake; decide +kernel, ⟨ses, by decide +kernel⟩, by decide +kernel, zeroTable_ok (by decide +kernel) (by decide +kernel), by decide +kernel, by decide +kernel⟩,
   ⟨(states.getD 3 {}),
       rq, {client := 4}, by unfold State.Inv; decide +kernel, by unfold State.Awake; decide +kernel, ⟨ses, by decide +kernel⟩, by decide +kernel, by decide +kernel, by decide +kernel⟩,
   ⟨(states.getD 7 {}),
       rq, {client := 4, solved := true}, by unfold State.Inv; decide +kernel, by unfold State.Awake; decide +kernel, ⟨ses, by decide +kernel⟩, by decide +kernel, by decide +kernel⟩,
   ⟨(states.getD 9 {}),
       rq, {client := 4, solved := true}, by unfold State.Inv; decide +kernel, by unfold State.Awake; decide +kernel, ⟨ses, by decide +kernel⟩, by decide +kernel, by decide +kernel, by decide +kernel, by decide +kernel, by decide +kernel⟩,
   ⟨(states.getD 12 {}),
       rq0, {client := 4, solved := true}, by unfold State.Inv; decide +kernel, by unfold State.Awake; decide +kernel, ⟨ses, by decide +kernel⟩, by decide +kernel, by decide +kernel, by decide +kernel, by decide +kernel, by decide +kernel, by decide +kernel⟩,
   ⟨(states.getD 1 {}),
       rq, by unfold State.Inv; decide +kernel, by unfold State.Awake; decide +kernel, ⟨ses, by decide +kernel⟩, by decide +kernel⟩,
   ⟨(states.getD 5 {}),
       rq, by unfold State.Inv; decide +kernel, by unfold State.Awake; decide +kernel, ⟨ses, by decide +kernel⟩, by decide +kernel⟩⟩

end CalibrationRuns

namespace HostSessionsRun

def mg (l : List (Fld × Nat)) : List (Nat × Word) := flds ([(F.MGT_CTRL_ENABLE, 1)] ++ l)
def hdr (k n q : Nat) : List Byte := pmpHeader k n q
def fbd : List Byte := leBytes 4629 0
def dbd : List Byte := leBytes 2 4 ++ [0,0] ++ leBytes 4 7 ++ leBytes 8 0
def upA (l : List (Nat × Port)) : Fabric := {coord := some 0x0203, ports := prts l}
def pu : Port := {st := .up, creditLimit := [8,32,64,128]}
def vs (u : List (Time × Nat × List Byte)) : State := {regs := mg [], lc := .field, fab := upA [(1, pu)], ctl := {mgtLink := true, sessions := [{ses with via := some (0x0283, 3), rxOffset := 20, lastAt := 4, unacked := u}]}}
def states : List State := [{}, {regs := mg [(F.MGT_IPCFG_DHCP, 0)]}, {regs := mg [(F.MGT_IPCFG_DHCP, 1)], ctl := {mgtLink := true}, lc := .field}, {regs := mg [(F.MGT_IPCFG_DHCP, 1)], ctl := {mgtLink := true, lease := some (7,8,9), sessions := List.replicate 8 {}}, lc := .field},
  {regs := mg [], lc := .field, ctl := {mgtLink := true, sessions := [ses]}}, vs [], vs [(3, 8, [1,2])], vs [(3,
      1005, [1,2])], {regs := mg [], lc := .field, ctl := {mgtLink := true, sessions := [{ses with opened := false, helloAt := 3}]}}, {regs := mg [], lc := .field, ctl := {mgtLink := true, sessions := [{ses with opened := false, helloAt := -5000000000000}]}, sec := {}}]

/-- Witnesses of the hypotheses of HostSessionsRun. -/
theorem witness :
    (∃ (s : State) (up : Bool) (mbps : Nat),
      s.Inv ∧ s.Awake ∧ (up && mbps == 1000) = s.ctl.mgtLink) ∧
    (∃ (s : State),
      s.Inv ∧ s.Awake ∧ s.ctl.mgtLink = false ∧ s.flag F.MGT_IPCFG_DHCP = false) ∧
    (∃ (s : State),
      s.Inv ∧ s.Awake ∧ s.mgtUp = true ∧ s.flag F.MGT_IPCFG_DHCP = true) ∧
    (∃ (s : State) (a : Word),
      s.Inv ∧ s.Awake ∧ s.mgtUp = true ∧ s.ipAddress = some a) ∧
    (∃ (s : State) (a : BitVec 32),
      s.Inv ∧ s.Awake ∧ s.ipAddress ≠ some a) ∧
    (∃ (s : State) (via : Option (BitVec 16 × BitVec 16)),
      s.Inv ∧ s.Awake ∧ s.pmpReaches via = true ∧ s.lc ≠ .raw ∧ s.lc ≠ .retired ∧ 8 ≤ s.ctl.sessions.length) ∧
    (∃ (s : State) (via : Option (BitVec 16 × BitVec 16)) (header : List Byte) (body : List Byte),
      s.Inv ∧ s.Awake ∧ s.pmpReaches via = true ∧ s.lc ≠ .raw ∧ s.lc ≠ .retired ∧ s.ctl.sessions.length < 8 ∧
      (headerGood 1 header body = false ∨ recordSeq header ≠ 0 ∨ body.length ≠ 1604)) ∧
    (∃ (s : State) (via : Option (BitVec 16 × BitVec 16)) (header : List Byte) (body : List Byte),
      s.Inv ∧ s.Awake ∧ s.pmpReaches via = true ∧ s.lc ≠ .raw ∧ s.lc ≠ .retired ∧ s.ctl.sessions.length < 8 ∧
      headerGood 1 header body = true ∧ recordSeq header = 0 ∧ body.length = 1604) ∧
    (∃ (s : State) (q : PmpSession) (id : Nat) (header : List Byte) (body : List Byte),
      s.Inv ∧ s.Awake ∧ s.ctl.sessions = [q] ∧ q.id = id ∧ s.pmpReaches q.via = true ∧ s.met.cal = none ∧
      s.sec.session = none ∧ (q.opened = true ∨ headerGood 3 header body = false ∨ recordSeq header ≠ 0)) ∧
    (∃ (s : State) (q : PmpSession) (id : Nat) (header : List Byte) (body : List Byte) (stamp : Time),
      s.Inv ∧ s.Awake ∧ s.ctl.sessions = [q] ∧ q.id = id ∧ s.pmpReaches q.via = true ∧ s.met.cal = none ∧
      s.sec.session = none ∧ q.opened = false ∧ headerGood 3 header body = true ∧ recordSeq header = 0 ∧
      q.helloAt + fiveSeconds ≤ stamp) ∧
    (∃ (s : State) (q : PmpSession) (id : Nat) (header : List Byte) (body : List Byte) (stamp : Time),
      s.Inv ∧ s.Awake ∧ s.ctl.sessions = [q] ∧ q.id = id ∧ s.pmpReaches q.via = true ∧ s.met.cal = none ∧
      s.sec.session = none ∧ q.opened = false ∧ headerGood 3 header body = true ∧ recordSeq header = 0 ∧
      stamp < q.helloAt + fiveSeconds) ∧
    (∃ (s : State) (q : PmpSession) (id : Nat) (header : List Byte) (body : List Byte),
      s.Inv ∧ s.Awake ∧ s.ctl.sessions = [q] ∧ q.id = id ∧ s.pmpReaches q.via = true ∧ s.met.cal = none ∧
      s.sec.session = none ∧
      (q.opened = false ∨ headerGood 0x10 header body = false ∨ recordSeq header ≠ q.rxSeq ∨ 16400 < body.length)) ∧
    (∃ (s : State) (q : PmpSession) (id : Nat) (header : List Byte) (body : List Byte),
      s.Inv ∧ s.Awake ∧ s.ctl.sessions = [q] ∧ q.id = id ∧ s.pmpReaches q.via = true ∧ s.met.cal = none ∧
      s.sec.session = none ∧ q.opened = true ∧ headerGood 0x10 header body = true ∧ recordSeq header = q.rxSeq ∧
      body.length ≤ 16400 ∧ q.events = [] ∧ q.reqs.length < 16) ∧
    (∃ (s : State) (q : PmpSession) (id : Nat),
      s.Inv ∧ s.Awake ∧ s.ctl.sessions = [q] ∧ q.id = id ∧ s.pmpReaches q.via = true ∧ s.met.cal = none ∧
      s.sec.session = none) ∧
    (∃ (s : State) (q : PmpSession) (id : Nat) (stamp : Time),
      s.Inv ∧ s.Awake ∧ s.ctl.sessions = [q] ∧ q.id = id ∧ s.pmpReaches q.via = true ∧ s.met.cal = none ∧
      s.sec.session = none ∧ q.opened = true ∧ q.lastAt + oneMinute ≤ stamp) ∧
    (∃ (s : State) (q : PmpSession) (id : Nat) (stamp : Time),
      s.Inv ∧ s.Awake ∧ s.ctl.sessions = [q] ∧ q.id = id ∧ s.pmpReaches q.via = true ∧ s.met.cal = none ∧
      s.sec.session = none ∧ q.opened = false ∧ q.helloAt + fiveSeconds ≤ stamp) ∧
    (∃ (s : State) (q : PmpSession) (id : Nat) (stamp : Time),
      s.Inv ∧ s.Awake ∧ s.ctl.sessions = [q] ∧ q.id = id ∧ s.pmpReaches q.via = true ∧ s.met.cal = none ∧
      s.sec.session = none ∧ q.opened = true ∧ stamp < q.lastAt + oneMinute) ∧
    (∃ (s : State) (q : PmpSession) (id : Nat),
      s.Inv ∧ s.Awake ∧ s.ctl.sessions = [q] ∧ q.id = id ∧ s.pmpReaches q.via = true ∧ s.met.cal = none ∧
      s.sec.session = none ∧ q.via = none) ∧
    (∃ (s : State) (q : PmpSession) (id : Nat) (v : BitVec 16 × BitVec 16) (p : Nat),
      s.Inv ∧ s.Awake ∧ s.ctl.sessions = [q] ∧ q.id = id ∧ s.pmpReaches q.via = true ∧ s.met.cal = none ∧
      s.sec.session = none ∧ q.via = some v ∧ q.unacked = [] ∧
      s.LeavesBy p 3 5 v.1 (streamPayload v.2 1 q.rxOffset [])) ∧
    (∃ (s : State) (q : PmpSession) (id : Nat) (acked : Nat) (v : BitVec 16 × BitVec 16) (p : Nat) (at_ : Time) (off : Nat) (data : List Byte),
      s.Inv ∧ s.Awake ∧ s.ctl.sessions = [q] ∧ q.id = id ∧ s.pmpReaches q.via = true ∧ s.met.cal = none ∧
      s.sec.session = none ∧ q.via = some v ∧ q.unacked = [(at_, off, data)] ∧ off + data.length ≤ acked ∧
      s.LeavesBy p 3 5 v.1 (streamPayload v.2 1 q.rxOffset [])) ∧
    (∃ (s : State) (q : PmpSession) (id : Nat) (stamp : Time) (acked : Nat) (v : BitVec 16 × BitVec 16) (p : Nat) (at_ : Time) (off : Nat) (data : List Byte),
      s.Inv ∧ s.Awake ∧ s.ctl.sessions = [q] ∧ q.id = id ∧ s.pmpReaches q.via = true ∧ s.met.cal = none ∧
      s.sec.session = none ∧ q.via = some v ∧ q.unacked = [(at_, off, data)] ∧ acked ≤ off ∧ 0 < data.length ∧
      at_ + 50 * 1000000 * 256 ≤ stamp ∧ s.LeavesBy p 3 5 v.1 (streamPayload v.2 1 q.rxOffset [])) :=
  ⟨⟨(states.getD 0 {}), false, 0, by unfold State.Inv State.Awake; decide +kernel⟩,
   ⟨(states.getD 1 {}), by unfold State.Inv State.Awake; decide +kernel⟩,
   ⟨(states.getD 2 {}), by unfold State.Inv State.Awake; decide +kernel⟩,
   ⟨(states.getD 3 {}), 7, by unfold State.Inv State.Awake; decide +kernel⟩,
   ⟨(states.getD 3 {}), 8, by unfold State.Inv State.Awake; decide +kernel⟩,
   ⟨(states.getD 3 {}), none, by unfold State.Inv State.Awake; decide +kernel⟩,
   ⟨(states.getD 2 {}), none, [], [], by unfold State.Inv State.Awake; decide +kernel⟩,
   ⟨(states.getD 2 {}), none, hdr 1 1604 0, List.replicate 1604 1, by unfold State.Inv State.Awake; decide +kernel⟩,
   ⟨(states.getD 4 {}), ses, 4, [], [], by unfold State.Inv State.Awake; decide +kernel⟩,
   ⟨(states.getD 9 {}), {ses with opened := false, helloAt := -5000000000000}, 4, hdr 3 4629 0, fbd,
       5, by unfold State.Inv State.Awake; decide +kernel⟩,
   ⟨(states.getD 8 {}), {ses with opened := false, helloAt := 3}, 4, hdr 3 4629 0, fbd,
       5, by unfold State.Inv State.Awake; decide +kernel⟩,
   ⟨(states.getD 4 {}), ses, 4, [], [], by unfold State.Inv State.Awake; decide +kernel⟩,
   ⟨(states.getD 4 {}), ses, 4, hdr 0x10 16 ses.rxSeq, dbd, by unfold State.Inv State.Awake; decide +kernel⟩,
   ⟨(states.getD 4 {}), ses, 4, by unfold State.Inv State.Awake; decide +kernel⟩,
   ⟨(states.getD 4 {}), ses, 4, 60 * 1000000000 * 256, by unfold State.Inv State.Awake; decide +kernel⟩,
   ⟨(states.getD 9 {}), {ses with opened := false, helloAt := -5000000000000}, 4,
       5, by unfold State.Inv State.Awake; decide +kernel⟩,
   ⟨(states.getD 4 {}), ses, 4, 5, by unfold State.Inv State.Awake; decide +kernel⟩,
   ⟨(states.getD 4 {}), ses, 4, by unfold State.Inv State.Awake; decide +kernel⟩,
   ⟨(states.getD 5 {}), {ses with via := some (0x0283, 3), rxOffset := 20, lastAt := 4, unacked := []}, 4, (0x0283,
       3), 1, by unfold State.Inv State.LeavesBy State.Awake; decide +kernel⟩,
   ⟨(states.getD 6 {}), {ses with via := some (0x0283, 3), rxOffset := 20, lastAt := 4, unacked := [(3, 8, [1, 2])]}, 4, 10, (0x0283, 3), 1, 3, 8, [1, 2], by unfold State.Inv State.LeavesBy State.Awake; decide +kernel⟩,
   ⟨(states.getD 7 {}), {ses with via := some (0x0283, 3), rxOffset := 20, lastAt := 4, unacked := [(3, 1005, [1, 2])]}, 4, 60 * 1000000000 * 256, 1000, (0x0283, 3), 1, 3, 1005, [1, 2], by unfold State.Inv State.LeavesBy State.Awake; decide +kernel⟩⟩

end HostSessionsRun

namespace ServicesAnswer

def pol : PolicyReq := {}
def pu : Port := {st := .up, creditLimit := [8,32,64,128]}
def bp : List Byte := BootPtr.bytes {}
def states : List State := [{}, {dk ask with sec := {ptrs := [bp, []]}, cmt := {screen := .dark, next := none, gen := {num := 1, e := 1 <<< 0x203}}}, {ask with sec := {ptrs := [bp, []]}},{ask with ctl := {ask.ctl with sessions := [{ses with guest := true}]}}, {ask with lc := .test}, {ask with regs := flds [(F.HKP_CTRL_BIST_EN, 1)], lc := .test}, {ask with regs := flds [(F.HKP_CTRL_BIST_EN, 0)], lc := .test}, {ask with fab := {coord := some 4}}, {ask with fab := {coord := some 0x0203, ports := prts [(1, pu)]}, regs := flds [(F.TIM_ROOT_ROOT_A, 0x0283), (F.TIM_ROOT_ROOT_B, 0x0283)]}, {dk ask with cmt := {screen := .dark, next := none, gen := {num := 1, e := 1 <<< 0x203}}}, {dk ask with cmt := {screen := .show, next := some {}, gen := {num := 1, e := 1 <<< 0x203}}}, {ask with regs := flds [(F.APL_CTRL_ENABLE, 1), (F.APL_STATUS_RESTORED, 1)]}]

/-- Witnesses of the hypotheses of ServicesAnswer. -/
theorem witness :
    (∃ (s : State) (req : PmpCtx) (q : PmpSession) (c : Instr),
      s.Inv ∧ s.Awake ∧ s.session req.session = some q ∧ q.guest = true ∧ q.reqs = [] ∧ q.events = [] ∧
      c ∈ [Instr.regRead req 0 1, .resetWarm req, .resetCpxRestart req, .tileReachGet req, .updateLockSet req,
      .membershipAddX req [], .trimReload req]) ∧
    (∃ (s : State) (req : PmpCtx) (c : Instr),
      s.Inv ∧ s.Awake ∧ s.session req.session = none ∧ c ∈ [Instr.infoGet req, .eventSubscribe req 0,
      .regRead req 0 1, .resetWarm req, .updateLockSet req]) ∧
    (∃ (s : State) (req : PmpCtx),
      s.Inv ∧ s.Awake ∧ s.Asks req) ∧
    (∃ (s : State) (req : PmpCtx) (off : Nat) (n : Nat),
      s.Inv ∧ s.Awake ∧ s.Asks req ∧ (n = 0 ∨ 256 < n ∨ off % 4 ≠ 0)) ∧
    (∃ (s : State) (req : PmpCtx) (off : Nat),
      s.Inv ∧ s.Awake ∧ s.Asks req ∧ off % 4 = 0) ∧
    (∃ (s : State) (req : PmpCtx),
      s.Inv ∧ s.Awake ∧ s.Asks req ∧ lcTest s.lc = false) ∧
    (∃ (s : State) (req : PmpCtx) (off : Nat) (v : Word) (row : RegRow),
      s.Inv ∧ s.Awake ∧ s.Asks req ∧ lcTest s.lc = true ∧ findReg off = some row ∧ off % 4 = 0 ∧
      plainRegister off = true ∧ reservedWrite row v = false ∧ s.windowReserved off v = false) ∧
    (∃ (s : State) (req : PmpCtx) (off : Nat) (n : Nat),
      s.Inv ∧ s.Awake ∧ s.Asks req ∧ 384827392 < off + n) ∧
    (∃ (s : State) (req : PmpCtx) (off : Nat) (n : Nat),
      s.Inv ∧ s.Awake ∧ s.Asks req ∧ off + n ≤ 384827392) ∧
    (∃ (s : State) (req : PmpCtx),
      s.Inv ∧ s.Awake ∧ s.Asks req ∧ s.hkp.bist = none ∧ s.flag F.HKP_CTRL_BIST_EN = true) ∧
    (∃ (s : State) (req : PmpCtx),
      s.Inv ∧ s.Awake ∧ s.Asks req ∧ s.hkp.bist = none ∧ s.flag F.HKP_CTRL_BIST_EN = false) ∧
    (∃ (s : State) (req : PmpCtx),
      s.Inv ∧ s.Awake ∧ s.Asks req ∧ inLastHour s.ctl.cpxRestarts req.stamp < 2) ∧
    (∃ (s : State) (req : PmpCtx) (l : List Nat) (e : List Nat) (v : Word) (w : Word) (id : Word) (p : PolicyReq) (fsn : Fsn) (parts : List (BitVec 16 × Word × List Byte)) (m : Instr × Nat × List Byte),
      s.Inv ∧ s.Awake ∧ s.Asks req ∧ s.isDecider = false ∧ m ∈ [(Instr.membershipAddX req l, 0x11,
      nodeListBytes 0 l), (.membershipRemoveX req l, 0x11, nodeListBytes 1 l), (.membershipChangeE req e, 0x11,
      nodeListBytes 2 e), (.policySet req p, 0x12, polBytes p), (.bindingSet req v w, 0x13,
      leBytes 4 v.toNat ++ leBytes 4 w.toNat), (.updateActivate req id, 0x31, leBytes 1 0 ++ leBytes 4 id.toNat),
      (.onAirSet req, 0x31, leBytes 1 1), (.onAirClear req, 0x31, leBytes 1 2),
      (.apertureUpdate req fsn (.screen parts), 0x15, parts.flatMap (aplPartBytes fsn))] ∧ s.here = none) ∧
    (∃ (s : State) (req : PmpCtx) (l : List Nat) (e : List Nat) (v : Word) (w : Word) (id : Word) (p : PolicyReq) (fsn : Fsn) (parts : List (BitVec 16 × Word × List Byte)) (m : Instr × Nat × List Byte) (port : Nat),
      s.Inv ∧ s.Awake ∧ s.Asks req ∧ s.isDecider = false ∧ m ∈ [(Instr.membershipAddX req l, 0x11,
      nodeListBytes 0 l), (.membershipRemoveX req l, 0x11, nodeListBytes 1 l), (.membershipChangeE req e, 0x11,
      nodeListBytes 2 e), (.policySet req p, 0x12, polBytes p), (.bindingSet req v w, 0x13,
      leBytes 4 v.toNat ++ leBytes 4 w.toNat), (.updateActivate req id, 0x31, leBytes 1 0 ++ leBytes 4 id.toNat),
      (.onAirSet req, 0x31, leBytes 1 1), (.onAirClear req, 0x31, leBytes 1 2),
      (.apertureUpdate req fsn (.screen parts), 0x15, parts.flatMap (aplPartBytes fsn))] ∧ s.here.isSome = true ∧
      m.2.2.length ≤ 2034 ∧
      s.LeavesBy port 3 5 s.rootA (streamPayload s.ctl.nextStream 2 0 (leBytes 2 m.2.1 ++ leBytes 4 req.reqId.toNat ++ m.2.2))) ∧
    (∃ (s : State) (req : PmpCtx) (a : BitVec 16) (nodes : List Nat) (c : Instr) (e' : BitVec 32768) (x' : BitVec 32768),
      s.Inv ∧ s.Awake ∧ s.Asks req ∧ s.Alone a ∧ nodeList nodes = true ∧ (c, e',
      x') ∈ [(Instr.membershipAddX req nodes, (s.memberSets.1), (s.memberSets.2.1) ||| setOf nodes),
      (.membershipRemoveX req nodes, (s.memberSets.1), (s.memberSets.2.1) &&& ~~~(setOf nodes)),
      (.membershipChangeE req nodes, setOf nodes, (s.memberSets.2.1))] ∧ setOf nodes &&& ~~~(s.memberSets.1) = 0 ∧
      s.cmt.next.isSome = true) ∧
    (∃ (s : State) (req : PmpCtx) (a : BitVec 16) (nodes : List Nat) (c : Instr) (e' : BitVec 32768) (x' : BitVec 32768),
      s.Inv ∧ s.Awake ∧ s.Asks req ∧ s.Alone a ∧ nodeList nodes = true ∧ (c, e',
      x') ∈ [(Instr.membershipAddX req nodes, (s.memberSets.1), (s.memberSets.2.1) ||| setOf nodes),
      (.membershipRemoveX req nodes, (s.memberSets.1), (s.memberSets.2.1) &&& ~~~(setOf nodes)),
      (.membershipChangeE req nodes, setOf nodes, (s.memberSets.2.1))] ∧ setOf nodes &&& ~~~(s.memberSets.1) = 0 ∧
      s.cmt.next = none) ∧
    (∃ (s : State) (req : PmpCtx) (a : BitVec 16) (p : PolicyReq),
      s.Inv ∧ s.Awake ∧ s.Asks req ∧ s.Alone a ∧ polWellFormed p = false) ∧
    (∃ (s : State) (req : PmpCtx) (a : BitVec 16) (p : PolicyReq),
      s.Inv ∧ s.Awake ∧ s.Asks req ∧ s.Alone a ∧ polWellFormed p = true ∧
      (offsetsOk p.offsets = false ∨ sceneRoom p.rate (p.offsets.getD 0 0) = false)) ∧
    (∃ (s : State) (req : PmpCtx) (a : BitVec 16) (p : PolicyReq),
      s.Inv ∧ s.Awake ∧ s.Asks req ∧ s.Alone a ∧ polWellFormed p = true ∧ offsetsOk p.offsets = true ∧
      sceneRoom p.rate (p.offsets.getD 0 0) = true ∧ s.cmt.screen ≠ .dark) ∧
    (∃ (s : State) (req : PmpCtx) (a : BitVec 16) (p : PolicyReq),
      s.Inv ∧ s.Awake ∧ s.Asks req ∧ s.Alone a ∧ polWellFormed p = true ∧ offsetsOk p.offsets = true ∧
      sceneRoom p.rate (p.offsets.getD 0 0) = true ∧ s.cmt.screen = .dark ∧ s.cmt.next = none) ∧
    (∃ (s : State) (req : PmpCtx) (stream : Word) (source : Word),
      s.Inv ∧ s.Awake ∧ s.Asks req ∧ s.isDecider = true ∧ encodes R.ING_STREAM stream = true ∧
      encodes R.ING_SOURCE source = true) ∧
    (∃ (s : State) (req : PmpCtx) (rect : Word),
      s.Inv ∧ s.Awake ∧ s.Asks req ∧ s.judge rect true ≠ 0) ∧
    (∃ (s : State) (req : PmpCtx) (rect : Word) (bits : List Byte),
      s.Inv ∧ s.Awake ∧ s.Asks req ∧ s.judge rect true = 0 ∧ bits.length = (rectKH rect + 1) * rowSize rect) ∧
    (∃ (s : State) (req : PmpCtx) (a : BitVec 16) (rect : Word) (fsn : Fsn) (bits : List Byte) (b : BitVec 16) (port : Nat),
      s.Inv ∧ s.Awake ∧ s.Asks req ∧ s.Alone a ∧ b ≠ a ∧ isGuest b = false ∧
      (leBytes 2 0x15 ++ leBytes 4 req.reqId.toNat ++ aplPartBytes fsn (b, rect, bits)).length ≤ 2040 ∧
      s.LeavesBy port 3 5 b (streamPayload s.ctl.nextStream 2 0
        (leBytes 2 0x15 ++ leBytes 4 req.reqId.toNat ++ aplPartBytes fsn (b, rect, bits)))) ∧
    (∃ (s : State) (req : PmpCtx) (records : List (Nat × Word × Word)),
      s.Inv ∧ s.Awake ∧ s.Asks req ∧ records.all s.recordLive = false) ∧
    (∃ (s : State) (req : PmpCtx) (records : List (Nat × Word × Word)),
      s.Inv ∧ s.Awake ∧ s.Asks req ∧ records.all s.recordLive = true) ∧
    (∃ (s : State) (req : PmpCtx) (r : InitRec),
      s.Inv ∧ s.Awake ∧ s.Asks req ∧ s.recordLive r = true ∧ plainRegister r.1 = true ∧ s.nvm.configs.length = 2) :=
  ⟨⟨(states.getD 3 {}), rq, (((states.getD 3 {})).session (rq).session).get (by decide +kernel),
      Instr.regRead (rq) 0 1, by unfold State.Inv State.Awake; decide +kernel⟩,
   ⟨(states.getD 0 {}), rq, Instr.infoGet (rq), by unfold State.Inv State.Awake; decide +kernel⟩,
   ⟨(states.getD 1 {}),
       rq, by unfold State.Inv; decide +kernel, by unfold State.Awake; decide +kernel, ⟨ses, by decide +kernel⟩⟩,
   ⟨(states.getD 1 {}), rq, 0,
       0, by unfold State.Inv; decide +kernel, by unfold State.Awake; decide +kernel, ⟨ses, by decide +kernel⟩, by decide +kernel⟩,
   ⟨(states.getD 1 {}), rq,
       0, by unfold State.Inv; decide +kernel, by unfold State.Awake; decide +kernel, ⟨ses, by decide +kernel⟩, by decide +kernel⟩,
   ⟨(states.getD 1 {}),
       rq, by unfold State.Inv; decide +kernel, by unfold State.Awake; decide +kernel, ⟨ses, by decide +kernel⟩, by decide +kernel⟩,
   ⟨(states.getD 4 {}), rq, 0, 0,
       (findReg (0)).get (by decide +kernel), by unfold State.Inv; decide +kernel, by unfold State.Awake; decide +kernel, ⟨ses, by decide +kernel⟩, by decide +kernel, by decide +kernel, by decide +kernel, by decide +kernel, by decide +kernel, by decide +kernel⟩,
   ⟨(states.getD 1 {}), rq, 0,
       384827393, by unfold State.Inv; decide +kernel, by unfold State.Awake; decide +kernel, ⟨ses, by decide +kernel⟩, by decide +kernel⟩,
   ⟨(states.getD 1 {}), rq, 0,
       0, by unfold State.Inv; decide +kernel, by unfold State.Awake; decide +kernel, ⟨ses, by decide +kernel⟩, by decide +kernel⟩,
   ⟨(states.getD 1 {}),
       rq, by unfold State.Inv; decide +kernel, by unfold State.Awake; decide +kernel, ⟨ses, by decide +kernel⟩, by decide +kernel, by decide +kernel⟩,
   ⟨(states.getD 6 {}),
       rq, by unfold State.Inv; decide +kernel, by unfold State.Awake; decide +kernel, ⟨ses, by decide +kernel⟩, by decide +kernel, by decide +kernel⟩,
   ⟨(states.getD 1 {}),
       rq, by unfold State.Inv; decide +kernel, by unfold State.Awake; decide +kernel, ⟨ses, by decide +kernel⟩, by decide +kernel⟩,
   ⟨(states.getD 2 {}), rq, [], [], 0, 0, 0, pol, 0, [], (Instr.membershipAddX (rq) ([]), (0x11 : Nat),
       nodeListBytes 0 ([])), by unfold State.Inv; decide +kernel, by unfold State.Awake; decide +kernel, ⟨ses, by decide +kernel⟩, by decide +kernel, by decide +kernel, by decide +kernel⟩,
   ⟨(states.getD 8 {}), rq, [], [], 0, 0, 0, pol, 0, [], (Instr.membershipAddX (rq) ([]), (0x11 : Nat),
       nodeListBytes 0 ([])),
       1, by unfold State.Inv; decide +kernel, by unfold State.Awake; decide +kernel, ⟨ses, by decide +kernel⟩, by decide +kernel, by decide +kernel, by decide +kernel, by decide +kernel, by unfold State.LeavesBy; decide +kernel⟩,
   ⟨(states.getD 10 {}), rq, 0x203, [], Instr.membershipAddX (rq) ([]), (((states.getD 10 {})).memberSets.1),
       (((states.getD 10 {})).memberSets.2.1) ||| setOf ([]), by unfold State.Inv; decide +kernel, by unfold State.Awake; decide +kernel, ⟨ses, by decide +kernel⟩, by unfold State.Alone; decide +kernel, by decide +kernel, by decide +kernel, by decide +kernel, by decide +kernel⟩,
   ⟨(states.getD 1 {}), rq, 0x203, [], Instr.membershipAddX (rq) ([]), (((states.getD 1 {})).memberSets.1),
       (((states.getD 1 {})).memberSets.2.1) ||| setOf ([]), by unfold State.Inv; decide +kernel, by unfold State.Awake; decide +kernel, ⟨ses, by decide +kernel⟩, by unfold State.Alone; decide +kernel, by decide +kernel, by decide +kernel, by decide +kernel, by decide +kernel⟩,
   ⟨(states.getD 1 {}), rq,
       0x203, {pol with offsets := []}, by unfold State.Inv; decide +kernel, by unfold State.Awake; decide +kernel, ⟨ses, by decide +kernel⟩, by unfold State.Alone; decide +kernel, by decide +kernel⟩,
   ⟨(states.getD 1 {}), rq,
       0x203, {pol with offsets := [-20000, -4000, -1500, -800, -801]}, by unfold State.Inv; decide +kernel, by unfold State.Awake; decide +kernel, ⟨ses, by decide +kernel⟩, by unfold State.Alone; decide +kernel, by decide +kernel, by decide +kernel⟩,
   ⟨(states.getD 10 {}), rq, 0x203,
       pol, by unfold State.Inv; decide +kernel, by unfold State.Awake; decide +kernel, ⟨ses, by decide +kernel⟩, by unfold State.Alone; decide +kernel, by decide +kernel, by decide +kernel, by decide +kernel, by decide +kernel⟩,
   ⟨(states.getD 1 {}), rq, 0x203,
       pol, by unfold State.Inv; decide +kernel, by unfold State.Awake; decide +kernel, ⟨ses, by decide +kernel⟩, by unfold State.Alone; decide +kernel, by decide +kernel, by decide +kernel, by decide +kernel, by decide +kernel, by decide +kernel⟩,
   ⟨(states.getD 1 {}), rq, 0,
       0, by unfold State.Inv; decide +kernel, by unfold State.Awake; decide +kernel, ⟨ses, by decide +kernel⟩, by decide +kernel, by decide +kernel, by decide +kernel⟩,
   ⟨(states.getD 1 {}), rq,
       0, by unfold State.Inv; decide +kernel, by unfold State.Awake; decide +kernel, ⟨ses, by decide +kernel⟩, by decide +kernel⟩,
   ⟨(states.getD 11 {}), rq, 0x00400080,
       [1,2], by unfold State.Inv; decide +kernel, by unfold State.Awake; decide +kernel, ⟨ses, by decide +kernel⟩, by decide +kernel, by decide +kernel⟩,
   ⟨{dk ask with fab := {cf with ports := prts [(1, pu)]}}, rq, 0x203, 0x00400080, 5, [1,2], 0x283,
       1, by unfold State.Inv; decide +kernel, by unfold State.Awake; decide +kernel, ⟨ses, by decide +kernel⟩, by unfold State.Alone; decide +kernel, by decide +kernel, by decide +kernel, by decide +kernel, by unfold State.LeavesBy; decide +kernel⟩,
   ⟨(states.getD 1 {}), rq, [(0xFFFFF0, 1,
       1)], by unfold State.Inv; decide +kernel, by unfold State.Awake; decide +kernel, ⟨ses, by decide +kernel⟩, by decide +kernel⟩,
   ⟨(states.getD 1 {}), rq,
       [], by unfold State.Inv; decide +kernel, by unfold State.Awake; decide +kernel, ⟨ses, by decide +kernel⟩, by decide +kernel⟩,
   ⟨(states.getD 1 {}), rq, (R.TIM_ASYM 1, 0xFFF,
       5), by unfold State.Inv; decide +kernel, by unfold State.Awake; decide +kernel, ⟨ses, by decide +kernel⟩, by decide +kernel, by decide +kernel, by decide +kernel⟩⟩

end ServicesAnswer

namespace SecurityServicesRun

def pu : Port := {st := .up, creditLimit := [8,32,64,128]}
def qb : List Byte := leBytes 4 0x544F5551 ++ [1,3] ++ leBytes 2 0x283 ++ leBytes 8 0 ++ List.replicate 64 1 ++ leBytes 5723 0
def states : List State := [{}, {ask with sec := {nonces := [(List.replicate 32 5, 50)]}}, {ask with regs := rt, tim := {doms := doms}, fab := {coord := some 0x0203, ports := prts [(1, pu)]}, ctl := {ask.ctl with ended := [9]}, sec := {slots := [{verified := true}, {}], attest := [(1, (List.replicate 64 1, 4))]}},ask, {ask with lc := .field}, {ask with fab := {coord := some 0x0203, ports := prts [(1, {st := .up})]}, ctl := {ask.ctl with ended := [9]}, sec := {attest := [(1, ([], 4))]}}]

/-- Witnesses of the hypotheses of SecurityServicesRun. -/
theorem witness :
    (∃ (s : State) (nonce : List Byte),
      s.Inv ∧ s.Awake ∧ nonce.length ≠ 64) ∧
    (∃ (s : State) (nonce : List Byte),
      s.Inv ∧ s.Awake ∧ nonce.length = 64 ∧ lcQuotes s.lc = true) ∧
    (∃ (s : State) (src : BitVec 16 × BitVec 16) (nonce : List Byte) (p : Nat),
      s.Inv ∧ s.Awake ∧ nonce.length = 64 ∧ lcQuotes s.lc = false ∧
      s.LeavesBy p 3 7 src.1 (streamPayload src.2 2 0 (leBytes 2 0x0A03))) ∧
    (∃ (s : State) (req : PmpCtx) (nonce : List Byte),
      s.Inv ∧ s.Awake ∧ s.Asks req ∧ nonce.length = 64 ∧ lcQuotes s.lc = true) ∧
    (∃ (s : State) (req : PmpCtx) (nonce : List Byte),
      s.Inv ∧ s.Awake ∧ s.Asks req ∧ nonce.length = 64 ∧ lcQuotes s.lc = false) ∧
    (∃ (s : State) (port : Nat),
      s.Inv ∧ s.Awake ∧ s.verifies port = false) ∧
    (∃ (s : State) (port : Nat) (b : BitVec 16) (p : Nat),
      s.Inv ∧ s.Awake ∧ s.verifies port = true ∧ s.partnerAddr port = some b ∧
      s.LeavesBy p 3 7 b (streamPayload s.ctl.nextStream 2 0 (List.replicate 64 0))) ∧
    (∃ (s : State) (port : Nat) (b : BitVec 16) (a : BitVec 16),
      s.Inv ∧ s.Awake ∧ s.verifies port = true ∧ s.partnerAddr port = some b ∧ s.Alone a) ∧
    (∃ (s : State) (req : PmpCtx),
      s.Inv ∧ s.Awake ∧ s.Asks req) ∧
    (∃ (s : State),
      s.Inv ∧ s.Awake ∧ lcJtag s.lc = false) ∧
    (∃ (s : State) (req : PmpCtx),
      s.Inv ∧ s.Awake ∧ (s.Asks req ∨ s.lc = .raw ∧ s.session req.session = none)) :=
  ⟨⟨(states.getD 0 {}), [], by unfold State.Inv State.Awake; decide +kernel⟩,
   ⟨(states.getD 4 {}), List.replicate 64 1, by unfold State.Inv State.Awake; decide +kernel⟩,
   ⟨(states.getD 2 {}), (0x283, 3), List.replicate 64 1,
       1, by unfold State.Inv State.LeavesBy State.Awake; decide +kernel⟩,
   ⟨(states.getD 4 {}), rq,
       List.replicate 64 1, by unfold State.Inv; decide +kernel, by unfold State.Awake; decide +kernel, ⟨ses, by decide +kernel⟩, by decide +kernel, by decide +kernel⟩,
   ⟨(states.getD 3 {}), rq,
       List.replicate 64 1, by unfold State.Inv; decide +kernel, by unfold State.Awake; decide +kernel, ⟨ses, by decide +kernel⟩, by decide +kernel, by decide +kernel⟩,
   ⟨(states.getD 0 {}), 0, by unfold State.Inv State.Awake; decide +kernel⟩,
   ⟨(states.getD 2 {}), 1, (((states.getD 2 {})).partnerAddr (1)).get (by decide +kernel),
       1, by unfold State.Inv State.LeavesBy State.Awake; decide +kernel⟩,
   ⟨(states.getD 2 {}), 1, (((states.getD 2 {})).partnerAddr (1)).get (by decide +kernel),
       0x203, by unfold State.Inv State.Alone State.Awake; decide +kernel⟩,
   ⟨(states.getD 1 {}),
       rq, by unfold State.Inv; decide +kernel, by unfold State.Awake; decide +kernel, ⟨ses, by decide +kernel⟩⟩,
   ⟨(states.getD 4 {}), by unfold State.Inv State.Awake; decide +kernel⟩,
   ⟨(states.getD 0 {}),
       rq, by unfold State.Inv; decide +kernel, by unfold State.Awake; decide +kernel, .inr (by decide +kernel)⟩⟩

end SecurityServicesRun

namespace UpdatesRun

def hd : List Byte := leBytes 4 0x4C444E42 ++ [1,5] ++ leBytes 2 0 ++ leBytes 4 0 ++ leBytes 4 7 ++ leBytes 8 4 ++ leBytes 40 0
def us : UpdSession := {session := some 4, head := hd, crcs := [crc32c [0, 0, 0, 0]], closedAt := some 3, chunks := [(0, (List.range 63).map (fun i => (i, if i = 0 then [0, 0, 0, 0] else [])))]}
def ho : List Byte := leBytes 4 0x4C444E42 ++ [1,5] ++ leBytes 2 0 ++ leBytes 4 0 ++ leBytes 4 7 ++ leBytes 8 6000 ++ leBytes 40 0 ++ ([1,2,3,4,5].flatMap (fun k => leBytes 1 k ++ leBytes 3 0 ++ leBytes 4 5091 ++ leBytes 4 9 ++ leBytes 68 0)) ++ leBytes 4627 0
def pu : Port := {st := .up, creditLimit := [8,32,64,128]}
def states : List State := [{}, ask,
    dk ask, {ask with fab := {coord := some 0x0203, ports := prts [(1, pu)]}, regs := flds [(F.TIM_ROOT_ROOT_A, 0x0283), (F.TIM_ROOT_ROOT_B, 0x0283)]}, {dk ask with cmt := {gen := {num := 1, m := 1 <<< 0x203}}}, {ask with sec := {session := some us, upd := .downloading, journal := [{}, {seq := 1, head := hd}]}}, {ask with sec := {session := some {us with session := none}, upd := .verifying}},
  {ask with sec := {session := some {us with crcs := [], chunks := []}, upd := .downloading, journal := [{}, {seq := 1, head := hd}]}}, {ask with sec := {session := some {us with crcs := []}, upd := .downloading, journal := [{seq := 3, head := hd, blocks := [1]}, {seq := 2}]}}, {ask with pins := {tilePg := true}}, {ask with sec := {slots := [{}, Slot.program {} 0 ho], session := some {us with head := ho}, upd := .verifying}}]

/-- Witnesses of the hypotheses of UpdatesRun. -/
theorem witness :
    (∃ (s : State) (req : PmpCtx) (head : List Byte),
      s.Inv ∧ s.Awake ∧ s.Asks req ∧ headBlocks head ≠ 0 ∧ s.updCopy.head ≠ head ∧ s.sec.journal.length = 2) ∧
    (∃ (s : State),
      s.Inv ∧ s.Awake) ∧
    (∃ (s : State) (u : UpdSession) (block : Nat) (chunk : Nat) (data : List Byte),
      s.Inv ∧ s.Awake ∧ s.sec.session = some u ∧
      (s.sec.upd ≠ .downloading ∨ data.length ≠ 1024 ∨ 64 ≤ chunk ∨ block ∈ s.bitmap)) ∧
    (∃ (s : State) (u : UpdSession) (id : Word) (block : Nat) (chunk : Nat) (data : List Byte),
      s.Inv ∧ s.Awake ∧ s.sec.session = some u ∧ s.sec.upd = .downloading ∧ s.sec.journal.length = 2 ∧
      s.sec.slots.length = 2 ∧ id.toNat = headBundleId u.head ∧ block < headBlocks u.head ∧ block ∉ s.bitmap ∧
      chunk < 64 ∧ data.length = 1024 ∧ (((addChunk u.chunks block chunk data).lookup block).getD []).length ≠ 64) ∧
    (∃ (s : State) (u : UpdSession) (id : Word) (block : Nat) (chunk : Nat) (data : List Byte),
      s.Inv ∧ s.Awake ∧ s.sec.session = some u ∧ s.sec.upd = .downloading ∧ s.sec.journal.length = 2 ∧
      s.sec.slots.length = 2 ∧ id.toNat = headBundleId u.head ∧ block < headBlocks u.head ∧ block ∉ s.bitmap ∧
      chunk < 64 ∧ data.length = 1024 ∧ (((addChunk u.chunks block chunk data).lookup block).getD []).length = 64 ∧
      (crc32c (((List.range 64).flatMap (fun i => ((((addChunk u.chunks block chunk data).lookup block).getD []).lookup i).getD [])).take (blockLength u.head block)) ≠ u.crcs.getD block 0)) ∧
    (∃ (s : State) (u : UpdSession) (id : Word) (block : Nat) (chunk : Nat) (data : List Byte),
      s.Inv ∧ s.Awake ∧ s.sec.session = some u ∧ s.sec.upd = .downloading ∧ s.sec.journal.length = 2 ∧
      s.sec.slots.length = 2 ∧ id.toNat = headBundleId u.head ∧ block < headBlocks u.head ∧ block ∉ s.bitmap ∧
      chunk < 64 ∧ data.length = 1024 ∧ (((addChunk u.chunks block chunk data).lookup block).getD []).length = 64 ∧
      (crc32c (((List.range 64).flatMap (fun i => ((((addChunk u.chunks block chunk data).lookup block).getD []).lookup i).getD [])).take (blockLength u.head block)) = u.crcs.getD block 0)) ∧
    (∃ (s : State),
      s.Inv ∧ s.Awake ∧ s.sec.upd ≠ .verifying) ∧
    (∃ (s : State) (u : UpdSession),
      s.Inv ∧ s.Awake ∧ s.sec.upd = .verifying ∧ s.sec.session = some u ∧ s.sec.slots.length = 2 ∧
      s.sec.journal.length = 2 ∧ s.idleSlot < 2) ∧
    (∃ (s : State) (req : PmpCtx) (u : UpdSession),
      s.Inv ∧ s.Awake ∧ s.Asks req ∧ s.sec.session = some u ∧ u.session = some req.session) ∧
    (∃ (s : State) (req : PmpCtx) (u : UpdSession),
      s.Inv ∧ s.Awake ∧ s.Asks req ∧ s.sec.session = some u ∧ u.session ≠ some req.session) ∧
    (∃ (s : State) (u : UpdSession) (c : Int) (stamp : Int),
      s.Inv ∧ s.Awake ∧ s.sec.session = some u ∧ u.closedAt = some c ∧ c + oneMinute ≤ stamp) ∧
    (∃ (s : State) (u : UpdSession) (c : Int) (stamp : Int),
      s.Inv ∧ s.Awake ∧ s.sec.session = some u ∧ u.closedAt = some c ∧ stamp < c + oneMinute) ∧
    (∃ (s : State),
      s.Inv ∧ s.Awake ∧ s.here = none) ∧
    (∃ (s : State) (p : Nat),
      s.Inv ∧ s.Awake ∧ s.here.isSome = true ∧ s.sec.session = none ∧
      s.LeavesBy p 3 6 s.rootA (streamPayload s.ctl.nextStream 2 0 s.statusBytes)) ∧
    (∃ (s : State),
      s.Inv ∧ s.Awake ∧ s.sec.session = none) ∧
    (∃ (s : State) (req : PmpCtx) (id : Word),
      s.Inv ∧ s.Awake ∧ s.Asks req ∧ s.isDecider = true ∧ s.judgeActivate id req.stamp ≠ 0 ∧
      s.judgeActivate id req.stamp < 256) ∧
    (∃ (s : State) (req : PmpCtx) (id : Word),
      s.Inv ∧ s.Awake ∧ s.Asks req ∧ s.isDecider = true ∧ s.judgeActivate id req.stamp = 0 ∧
      s.cmt.decider.actReq = none) ∧
    (∃ (s : State) (req : PmpCtx) (c : Instr) (b : Bool),
      s.Inv ∧ s.Awake ∧ s.Asks req ∧ s.isDecider = true ∧ (c, b) ∈ [(Instr.onAirSet req, true), (.onAirClear req,
      false)]) ∧
    (∃ (s : State) (req : PmpCtx) (c : Instr) (b : Bool),
      s.Inv ∧ s.Awake ∧ s.Asks req ∧ (c, b) ∈ [(Instr.updateLockSet req, true), (.updateLockClear req, false)]) :=
  ⟨⟨(states.getD 1 {}), rq,
      ho, by unfold State.Inv; decide +kernel, by unfold State.Awake; decide +kernel, ⟨ses, by decide +kernel⟩, by decide +kernel, by decide +kernel, by decide +kernel⟩,
   ⟨(states.getD 0 {}), by unfold State.Inv State.Awake; decide +kernel⟩,
   ⟨(states.getD 5 {}), (((states.getD 5 {})).sec.session).get (by decide +kernel), 0, 0,
       [], by unfold State.Inv State.Awake; decide +kernel⟩,
   ⟨(states.getD 5 {}), (((states.getD 5 {})).sec.session).get (by decide +kernel), 7, 0, 0,
       List.replicate 1024 0, by unfold State.Inv; decide +kernel, by unfold State.Awake; decide +kernel, by decide +kernel, by decide +kernel, by decide +kernel, by decide +kernel, by decide +kernel, by decide +kernel, by decide +kernel, by decide +kernel, List.length_replicate, by decide +kernel⟩,
   ⟨(states.getD 8 {}), (((states.getD 8 {})).sec.session).get (by decide +kernel), 7, 0, 63,
       List.replicate 1024 0, by unfold State.Inv; decide +kernel, by unfold State.Awake; decide +kernel, by decide +kernel, by decide +kernel, by decide +kernel, by decide +kernel, by decide +kernel, by decide +kernel, by decide +kernel, by decide +kernel, List.length_replicate, by decide +kernel, by decide +kernel⟩,
   ⟨(states.getD 5 {}), (((states.getD 5 {})).sec.session).get (by decide +kernel), 7, 0, 63,
       List.replicate 1024 0, by unfold State.Inv; decide +kernel, by unfold State.Awake; decide +kernel, by decide +kernel, by decide +kernel, by decide +kernel, by decide +kernel, by decide +kernel, by decide +kernel, by decide +kernel, by decide +kernel, List.length_replicate, by decide +kernel, by decide +kernel⟩,
   ⟨(states.getD 0 {}), by unfold State.Inv State.Awake; decide +kernel⟩,
   ⟨(states.getD 6 {}),
       (((states.getD 6 {})).sec.session).get (by decide +kernel), by unfold State.Inv State.Awake; decide +kernel⟩,
   ⟨(states.getD 5 {}), rq,
       (((states.getD 5 {})).sec.session).get (by decide +kernel), by unfold State.Inv; decide +kernel, by unfold State.Awake; decide +kernel, ⟨ses, by decide +kernel⟩, by decide +kernel, by decide +kernel⟩,
   ⟨(states.getD 6 {}), rq,
       (((states.getD 6 {})).sec.session).get (by decide +kernel), by unfold State.Inv; decide +kernel, by unfold State.Awake; decide +kernel, ⟨ses, by decide +kernel⟩, by decide +kernel, by decide +kernel⟩,
   ⟨(states.getD 5 {}), (((states.getD 5 {})).sec.session).get (by decide +kernel),
       (((((states.getD 5 {})).sec.session).get (by decide +kernel)).closedAt).get (by decide +kernel),
       60 * 1000000000 * 256 + 3, by unfold State.Inv State.Awake; decide +kernel⟩,
   ⟨(states.getD 5 {}), (((states.getD 5 {})).sec.session).get (by decide +kernel),
       (((((states.getD 5 {})).sec.session).get (by decide +kernel)).closedAt).get (by decide +kernel),
       5, by unfold State.Inv State.Awake; decide +kernel⟩,
   ⟨(states.getD 0 {}), by unfold State.Inv State.Awake; decide +kernel⟩,
   ⟨(states.getD 3 {}), 1, by unfold State.Inv State.LeavesBy State.Awake; decide +kernel⟩,
   ⟨(states.getD 0 {}), by unfold State.Inv State.Awake; decide +kernel⟩,
   ⟨(states.getD 4 {}), rq,
       7, by unfold State.Inv; decide +kernel, by unfold State.Awake; decide +kernel, ⟨ses, by decide +kernel⟩, by decide +kernel, by decide +kernel, by decide +kernel⟩,
   ⟨(states.getD 2 {}), rq,
       7, by unfold State.Inv; decide +kernel, by unfold State.Awake; decide +kernel, ⟨ses, by decide +kernel⟩, by decide +kernel, by decide +kernel, by decide +kernel⟩,
   ⟨(states.getD 2 {}), rq, Instr.onAirSet (rq),
       true, by unfold State.Inv; decide +kernel, by unfold State.Awake; decide +kernel, ⟨ses, by decide +kernel⟩, by decide +kernel, by decide +kernel⟩,
   ⟨(states.getD 1 {}), rq, Instr.updateLockSet (rq),
       true, by unfold State.Inv; decide +kernel, by unfold State.Awake; decide +kernel, ⟨ses, by decide +kernel⟩, by decide +kernel⟩⟩

end UpdatesRun

end Services

end Sys2Proof.Tests
end

section
/-! PROOF. Stray accesses and writes of reserved encodings (R10, R12, R13): what the programs of a register access do
where the access meets no register, and where the value written is reserved. -/

namespace Sys2Proof.Machine

/-! ### The island of an access -/

theorem exec_registerWrite (off size : Nat) (v : Word) (stamp : Time) (s : State) :
    exec (.registerWrite off size v stamp) s = .next ((writeProg off size v stamp).at_ off s) := rfl

theorem exec_pairLowRead (off size : Nat) (stamp : Time) (s : State) :
    exec (.pairLowRead off size stamp) s = .next ((busRead off size stamp).at_ off s) := rfl

theorem exec_counterReadClear (off size : Nat) (stamp : Time) (s : State) :
    exec (.counterReadClear off size stamp) s = .next ((busRead off size stamp).at_ off s) := rfl

/-- A program that does nothing does nothing on either island, held in reset or not. -/
theorem Prog.at_eq_self (p : Prog) (off : Nat) (s : State) (h : p.run s = s) : p.at_ off s = s := by
  unfold Prog.at_ Prog.go
  split
  · exact h
  · split
    · rfl
    · exact h

/-- An access that its island takes runs. -/
theorem Prog.at_reachable (p : Prog) (off : Nat) (s : State) (h : s.Reachable off) : p.at_ off s = p.run s := by
  unfold Prog.at_
  split
  case isTrue _ => rfl
  case isFalse haon => exact p.go_awake s (h.resolve_left haon)

/-! ### Writes -/

/-- R10, R12: a write to no register, or that is no aligned word, is discarded. -/
theorem run_writeProg_stray (off size : Nat) (v : Word) (stamp : Time) (s : State)
    (h : findReg off = none ∨ off % 4 ≠ 0 ∨ size ≠ 4) : (writeProg off size v stamp).run s = s := by
  unfold writeProg
  split
  case isTrue _ => rfl
  case isFalse haligned =>
    have hnone : findReg off = none := h.resolve_right (by simp at haligned; omega)
    simp [hnone]

/-- R13: a write of a reserved encoding is discarded, whatever its size. -/
theorem run_writeProg_reserved (off size : Nat) (v : Word) (stamp : Time) (s : State) (row : RegRow)
    (hrow : findReg off = some row) (hres : reservedWrite row v = true) : (writeProg off size v stamp).run s = s := by
  unfold writeProg
  split
  case isTrue _ => rfl
  case isFalse _ => simp [hrow, hres]

/-! ### The registers whose read does more stand in the register map -/

theorem ne_of_findReg_none {off k : Nat} (h : findReg off = none) (hk : (findReg k).isSome = true) : off ≠ k := by
  rintro rfl
  simp [h] at hk

theorem isSome_findReg_TIM_CAP_NS : ∀ ch < 9, (findReg (R.TIM_CAP_NS ch)).isSome = true := by decide +kernel

theorem isSome_findReg_FAB_P_CREDIT_STALL : ∀ p < 6, (findReg (R.FAB_P_CREDIT_STALL p)).isSome = true := by
  decide +kernel

theorem isSome_findReg_SDS_LPRBS_ERR : ∀ i < 224, (findReg (R.SDS_LPRBS_ERR i)).isSome = true := by decide +kernel

/-- No offset without a register passes the test by which a read takes a capture's oldest record (R402). -/
theorem not_captureOffset_of_findReg_none {off : Nat} (h : findReg off = none) :
    ¬ (off / 0x100000 = 6 ∧ 0x10C ≤ off % 0x100000 ∧ (off % 0x100000 - 0x10C) % 0x20 = 0 ∧ off % 0x100000 < 0x220) := by
  intro hcap
  have heq : off = R.TIM_CAP_NS ((off % 0x100000 - 0x10C) / 0x20) := by unfold R.TIM_CAP_NS; omega
  exact ne_of_findReg_none h (isSome_findReg_TIM_CAP_NS _ (by omega)) heq

/-- An offset that differs from each offset of a family is found at no index of it. -/
theorem find?_range_eq_none_of_ne {off n : Nat} {f : Nat → Nat} (h : ∀ i < n, off ≠ f i) :
    (List.range n).find? (fun i => off == f i) = none := by
  simpa using h

/-! ### Reads -/

/-- No counter runs at an offset without a register. -/
theorem run_runningCount_stray (off : Nat) (s : State) (h : findReg off = none) : (runningCount off).run s = s := by
  have hpanic : off ≠ R.DMC_PANIC_CYCLES := ne_of_findReg_none h (by decide +kernel)
  have hdrop : off ≠ R.MGT_RX_DROP := ne_of_findReg_none h (by decide +kernel)
  have hstall := find?_range_eq_none_of_ne (fun p hp => ne_of_findReg_none h (isSome_findReg_FAB_P_CREDIT_STALL p hp))
  have hprbs := find?_range_eq_none_of_ne (fun i hi => ne_of_findReg_none h (isSome_findReg_SDS_LPRBS_ERR i hi))
  simp [runningCount, hpanic, hdrop, hstall, hprbs]

/-- A read where no register is has no effect of its own (R12). -/
theorem run_readEffect_stray (off : Nat) (s : State) (h : findReg off = none) : (readEffect off).run s = s := by
  simp [readEffect, h]

/-- A read where no register is returns 0 (R12). -/
theorem readWord_stray (s : State) (off : Nat) (w : Word) (h : findReg off = none) : s.readWord off w = 0 := by
  simp [State.readWord, h]

/-- R12: reading an aligned word where no register is takes one free value and answers 0. -/
theorem run_readProg_stray (off : Nat) (stamp : Time) (s : State) (h : findReg off = none) :
    (readProg off stamp).run s = (Act.bus { data := [0] }).apply ((Act.free 1).apply s) := by
  have hcap := not_captureOffset_of_findReg_none h
  have hnow : off ≠ R.TIM_NOW_NS := ne_of_findReg_none h (by decide +kernel)
  have hparent : off ≠ R.TIM_PARENT := ne_of_findReg_none h (by decide +kernel)
  have hstatus : off ≠ R.APL_STATUS := ne_of_findReg_none h (by decide +kernel)
  have htemp : off ≠ R.APL_TEMP := ne_of_findReg_none h (by decide +kernel)
  unfold readProg
  rw [if_neg (by simpa [and_assoc] using hcap), if_neg (by simpa using hnow)]
  simp [hparent, hstatus, htemp, Prog.withFree, run_runningCount_stray _ _ h, run_readEffect_stray _ _ h,
    readWord_stray _ _ _ h]

/-- R10, R12: a read of no register, or that is no aligned word, answers 0 and takes at most a free value. -/
theorem run_busRead_stray (off size : Nat) (stamp : Time) (s : State)
    (h : findReg off = none ∨ off % 4 ≠ 0 ∨ size ≠ 4) :
    ∃ n, (busRead off size stamp).run s = (Act.bus { data := [0] }).apply ((Act.free n).apply s) := by
  unfold busRead
  split
  case isTrue haligned =>
    have hnone : findReg off = none := h.resolve_right (by simp at haligned; omega)
    exact ⟨1, run_readProg_stray off stamp s hnone⟩
  case isFalse _ => exact ⟨0, rfl⟩

/-- Taking free values and answering a read change nothing else. -/
theorem frame_bus_free (b : BusResult) (n : Nat) (s : State) :
    Frame [.bus, .freeCount] [] s ((Act.bus b).apply ((Act.free n).apply s)) :=
  Prog.frame_noRegs _ (.seq (.act (.free n)) (.act (.bus b))) (by simp [Act.Within]) s

/-- A stray read that its island takes answers 0 and changes nothing but the answer and the count of free values. -/
theorem at_busRead_stray (off size : Nat) (stamp : Time) (s : State)
    (h : findReg off = none ∨ off % 4 ≠ 0 ∨ size ≠ 4) (hreach : s.Reachable off) :
    ((busRead off size stamp).at_ off s).bus = { data := [0] } ∧
      Frame [.bus, .freeCount] [] s ((busRead off size stamp).at_ off s) := by
  obtain ⟨n, hrun⟩ := run_busRead_stray off size stamp s h
  rw [Prog.at_reachable _ _ _ hreach, hrun]
  exact ⟨rfl, frame_bus_free _ n s⟩

/-! ### The statements -/

/-- Settles O9: a stray write runs no act, and the program of a stray read comes down to the answer 0. -/
theorem strayAccessesDoNothing : Obligations.StrayAccessesDoNothing := by
  intro s off size v stamp
  refine ⟨fun h => ?_, fun h hreach c hc => ?_⟩
  · exact ⟨_, exec_registerWrite .., Prog.at_eq_self _ _ _ (run_writeProg_stray off size v stamp s h)⟩
  · have hread := at_busRead_stray off size stamp s h hreach
    simp only [List.mem_cons, List.not_mem_nil, or_false] at hc
    obtain rfl | rfl := hc
    · exact ⟨_, exec_pairLowRead .., hread⟩
    · exact ⟨_, exec_counterReadClear .., hread⟩

/-- Settles O10: the guard of a write holds back all its acts when a field's encoding is reserved. -/
theorem reservedEncodingDiscarded : Obligations.ReservedEncodingDiscarded := by
  intro s off v stamp row hrow hres
  exact ⟨_, exec_registerWrite .., Prog.at_eq_self _ _ _ (run_writeProg_reserved off 4 v stamp s row hrow hres)⟩

end Sys2Proof.Machine
end

section
/-! PROOF. What the register window reports beside plain accesses (R14, R490, R491, R492, R519, R566): access time-outs,
locks, claims of events, software events and extensions of measurement registers. -/

namespace Sys2Proof.Machine

/-! ### Which programs the commands run on islands out of reset -/

theorem exec_lockSet_awake (block : Nat) (s : State) (h : s.Awake) :
    exec (.lockSet block) s = .next ((lockProg block).run s) :=
  congrArg Host.Outcome.next ((lockProg block).at_reachable _ s (.inr h))

theorem exec_eventClaim_awake (core : Nat) (s : State) (h : s.Awake) (hcore : core < 12) :
    exec (.eventClaim core) s = .next ((readProg (R.CPX_EV_CLAIM core) 0).run s) := by
  change Host.Outcome.next ((Prog.when (decide (core < 12)) (readProg (R.CPX_EV_CLAIM core) 0)).go s) = _
  rw [Prog.go_awake _ _ h, Prog.run_when, if_pos (by simpa using hcore)]

theorem exec_swEventRaise_awake (e : Nat) (stamp : Time) (s : State) (h : s.Awake) (hlo : 480 ≤ e) (hhi : e < 640) :
    exec (.swEventRaise e stamp) s = .next ((Prog.raiseAt e stamp).run s) := by
  change Host.Outcome.next ((Prog.when (decide (480 ≤ e) && decide (e < 640)) (.raiseAt e stamp)).go s) = _
  rw [Prog.go_awake _ _ h, Prog.run_when, if_pos (by simp [hlo, hhi])]

theorem exec_measurementExtend (r : BitVec 2) (s : State) :
    exec (.measurementExtend r) s = .next ((extendProg r.toNat).run s) := rfl

/-- What a time-out records before it raises event 0: the answer of a read, the first offset, the count (R490). -/
def timeoutRecord (off : Nat) (write : Bool) : Prog :=
  .dyn (fun s => .block [
    .when (!write) (.act (.bus { data := [0] })),
    .when (s.fld F.CPX_BUS_ERR_COUNT_COUNT == 0) (.setFld F.CPX_BUS_ERR_OFFSET off),
    .count F.CPX_BUS_ERR_COUNT_COUNT 1])

theorem exec_registerAccessTimeout_awake (off : Nat) (write : Bool) (s : State) (h : s.Awake) :
    exec (.registerAccessTimeout off write) s = .next ((Prog.raise 0).run ((timeoutRecord off write).run s)) :=
  congrArg Host.Outcome.next (Prog.go_awake (.dyn _) s h)

/-! ### Events -/

theorem Prog.run_raise_fld (e : Nat) (f : Fld) (s : State) : ((Prog.raise e).run s).fld f = s.fld f := rfl

theorem Prog.run_raise_bus (e : Nat) (s : State) : ((Prog.raise e).run s).bus = s.bus := rfl

/-- An event raised after acts that touch neither the pending bits nor its route is pended as from the start (R491). -/
theorem pended_run_raise {parts : List Part} {offs : List Nat} {s t : State} (e : Nat) (h : Frame parts offs s t)
    (hctl : Part.ctl ∉ parts) (hroute : R.CPX_EV_ROUTE e ∉ offs) : Pended e s ((Prog.raise e).run t) := by
  obtain ⟨hsame, hregs⟩ := h
  have hpend : t.ctl = s.ctl := hsame .ctl hctl (by decide)
  unfold Pended
  rw [Prog.run_raise_pend, hregs _ hroute, hpend]

/-! ### Access time-outs -/

theorem timeoutRecord_only {parts : List Part} (off : Nat) (write : Bool) (hbus : Part.bus ∈ parts) :
    (timeoutRecord off write).Only (Act.Within parts [R.CPX_BUS_ERR, R.CPX_BUS_ERR_COUNT]) := fun _ =>
  ⟨Prog.only_when _ hbus, Prog.only_when _ (Prog.setFld_only _ _ (by decide)), Prog.count_only _ _ (by decide),
    trivial⟩

/-- A time-out of a read answers 0; one of a write leaves the last answer. -/
theorem run_timeoutRecord_bus (off : Nat) (write : Bool) (s : State) :
    ((timeoutRecord off write).run s).bus = if write then s.bus else { data := [0] } := by
  have hcount (t : State) : ((Prog.count F.CPX_BUS_ERR_COUNT_COUNT 1).run t).bus = t.bus := rfl
  have hoffset (c : Bool) (t : State) : ((Prog.when c (.setFld F.CPX_BUS_ERR_OFFSET off)).run t).bus = t.bus := by
    cases c <;> rfl
  simp only [timeoutRecord, Prog.run_dyn, Prog.run_block_cons, Prog.run_block_nil]
  rw [hcount, hoffset]
  cases write <;> rfl

theorem run_when_bus_fld (c : Bool) (b : BusResult) (f : Fld) (s : State) :
    ((Prog.when c (.act (.bus b))).run s).fld f = s.fld f := by
  cases c <;> rfl

/-- Accesses that time out are counted up to the field's greatest value (R490). -/
theorem run_timeoutRecord_count (off : Nat) (write : Bool) (s : State) (hw : Sparse.wf resetWord s.regs = true) :
    ((timeoutRecord off write).run s).fld F.CPX_BUS_ERR_COUNT_COUNT = s.countUp F.CPX_BUS_ERR_COUNT_COUNT := by
  have hoffset (c : Bool) (t : State) (ht : Sparse.wf resetWord t.regs = true) :
      ((Prog.when c (.setFld F.CPX_BUS_ERR_OFFSET off)).run t).fld F.CPX_BUS_ERR_COUNT_COUNT =
        t.fld F.CPX_BUS_ERR_COUNT_COUNT := by
    cases c
    case false => rfl
    case true => exact Prog.run_setFld_other _ _ _ t ht (by decide) (by decide) (by decide)
  simp only [timeoutRecord, Prog.run_dyn, Prog.run_block_cons, Prog.run_block_nil]
  rw [Prog.run_count_same _ _ _ (Prog.run_wf _ _ (Prog.run_wf _ _ hw)) (by decide) (by decide),
    hoffset _ _ (Prog.run_wf _ _ hw), run_when_bus_fld, State.countUp]

/-- The offset of the first access since the count stood at 0 is kept (R490). -/
theorem run_timeoutRecord_offset (off : Nat) (write : Bool) (s : State) (hw : Sparse.wf resetWord s.regs = true)
    (hoff : off < 2 ^ 28) : ((timeoutRecord off write).run s).fld F.CPX_BUS_ERR_OFFSET =
      if s.fld F.CPX_BUS_ERR_COUNT_COUNT = 0 then off else s.fld F.CPX_BUS_ERR_OFFSET := by
  simp only [timeoutRecord, Prog.run_dyn, Prog.run_block_cons, Prog.run_block_nil]
  rw [Prog.run_count_other _ _ _ _ (Prog.run_wf _ _ (Prog.run_wf _ _ hw)) (by decide) (by decide) (by decide),
    Prog.run_when]
  simp only [beq_iff_eq]
  split
  case isTrue _ =>
    rw [Prog.run_setFld_same _ _ _ (Prog.run_wf _ _ hw) (by decide) (by decide)]
    exact Nat.mod_eq_of_lt hoff
  case isFalse _ => exact run_when_bus_fld ..

/-! ### Locks -/

/-- Every LOCK bit lies in its word. -/
theorem lockBit_lt {block r b : Nat} (h : lockBit block = some (r, b)) : b < 32 := by
  unfold lockBit at h
  split at h <;> cases h <;> decide

theorem run_lockProg (block r b : Nat) (s : State) (hlyr : block ≠ 0x14) (h : lockBit block = some (r, b)) :
    (lockProg block).run s = (Act.reg r (putBits (s.reg r) b b 1)).apply s := by
  simp [lockProg, hlyr, h]

/-! ### Claims -/

/-- Only events 0 to 639 are claimed. -/
theorem State.claimable_lt {s : State} {core e : Nat} (h : s.claimable core = some e) : e < 640 := by
  simpa using List.mem_of_find?_eq_some h

/-- The row of CPX_EV_CLAIM in the register map (Table 17.15). -/
def claimRow : RegRow :=
  { off := 0x3800, dims := [(12, 0x4)], flds := [⟨9, 0, .rc, 0, .any, .none⟩, ⟨31, 31, .rc, 1, .any, .none⟩] }

theorem findReg_CPX_EV_CLAIM : ∀ core < 12, findReg (R.CPX_EV_CLAIM core) = some claimRow := by decide +kernel

theorem openMask_claimRow : openMask claimRow = maskW 30 10 := by decide +kernel

theorem accMask_wo_claimRow : accMask .wo claimRow.flds = 0 := by decide +kernel

/-- No counter of block CPX runs between commands. -/
theorem run_runningCount_CPX (off : Nat) (s : State) (h : off < 0x100000) : (runningCount off).run s = s := by
  have hpanic : off ≠ R.DMC_PANIC_CYCLES := by unfold R.DMC_PANIC_CYCLES; omega
  have hdrop : off ≠ R.MGT_RX_DROP := by unfold R.MGT_RX_DROP; omega
  have hstall := find?_range_eq_none_of_ne (off := off) (n := 6) (f := R.FAB_P_CREDIT_STALL)
    (fun p _ => by unfold R.FAB_P_CREDIT_STALL; omega)
  simp [runningCount, hpanic, hdrop, hstall, show off / 0x100000 ≠ 0x18 by omega]

theorem CPX_EV_CLAIM_lt {core : Nat} (hcore : core < 12) : R.CPX_EV_CLAIM core < 0x3830 := by
  unfold R.CPX_EV_CLAIM
  omega

/-- The core of a claim register, as its offset gives it. -/
theorem CPX_EV_CLAIM_core (core : Nat) : (R.CPX_EV_CLAIM core - 0x3800) / 4 = core := by
  unfold R.CPX_EV_CLAIM
  omega

theorem CPX_EV_CLAIM_ge (core : Nat) : 0x3800 ≤ R.CPX_EV_CLAIM core := by
  unfold R.CPX_EV_CLAIM
  omega

/-- What the read of a claim register does beside its answer is the claim (R492). -/
theorem run_readEffect_claim (core : Nat) (s : State) (hcore : core < 12) :
    (readEffect (R.CPX_EV_CLAIM core)).run s = (claimProg core).run s := by
  have hlt := CPX_EV_CLAIM_lt hcore
  have hpair : pairHigh (R.CPX_EV_CLAIM core) = none := by
    unfold pairHigh R.DMC_UE_ADDR_LO R.MEM_COLLIDE_LO R.LYR_PIN_FAULT_LO
    rw [if_neg (by omega), if_neg (by omega), if_neg (by omega)]
  have hepoch : R.CPX_EV_CLAIM core ≠ R.ING_EPOCH_C := by unfold R.ING_EPOCH_C; omega
  have hdiscard : R.CPX_EV_CLAIM core ≠ R.FAB_DISCARD := by unfold R.FAB_DISCARD; omega
  have hforeign : R.CPX_EV_CLAIM core ≠ R.ING_FOREIGN_COUNT := by unfold R.ING_FOREIGN_COUNT; omega
  have hmax : R.CPX_EV_CLAIM core ≠ R.HKP_TEMP_MAX := by unfold R.HKP_TEMP_MAX; omega
  have hblock : R.CPX_EV_CLAIM core / 0x100000 = 0 := by omega
  simp [readEffect, findReg_CPX_EV_CLAIM core hcore, hpair, hepoch, hdiscard, hforeign, hmax, hblock,
    CPX_EV_CLAIM_ge, CPX_EV_CLAIM_core]

theorem latchedWord_claim (core : Nat) (s : State) (hcore : core < 12) :
    s.latchedWord (R.CPX_EV_CLAIM core) = none := by
  have hlt := CPX_EV_CLAIM_lt hcore
  have hhigh : R.CPX_EV_CLAIM core ∉ [R.DMC_UE_ADDR_HI, R.MEM_COLLIDE_HI, R.LYR_PIN_FAULT_HI] := by
    simp [R.DMC_UE_ADDR_HI, R.MEM_COLLIDE_HI, R.LYR_PIN_FAULT_HI]
    omega
  have hP : R.CPX_EV_CLAIM core ≠ R.ING_EPOCH_P := by unfold R.ING_EPOCH_P; omega
  have hS : R.CPX_EV_CLAIM core ≠ R.ING_EPOCH_S := by unfold R.ING_EPOCH_S; omega
  have hstate : R.CPX_EV_CLAIM core ≠ R.ING_EPOCH_STATE := by unfold R.ING_EPOCH_STATE; omega
  unfold State.latchedWord
  rw [if_neg (by simpa using hhigh)]
  cases s.ing.epLatch <;> simp [hP, hS, hstate]

/-- The two fields that a claim register shows for what is claimable (R492). -/
def claimWord (w : Word) (e : Option Nat) : Word := putBits (putBits w 9 0 (e.getD 0)) 31 31 (boolNat e.isNone)

theorem view_claim (core : Nat) (s : State) (hcore : core < 12) :
    s.view (R.CPX_EV_CLAIM core) = claimWord (s.reg (R.CPX_EV_CLAIM core)) (s.claimable core) := by
  have hlt := CPX_EV_CLAIM_lt hcore
  have hge := CPX_EV_CLAIM_ge core
  have hblock : R.CPX_EV_CLAIM core / 0x100000 = 0 := by omega
  have hoffset : R.CPX_EV_CLAIM core % 0x100000 = R.CPX_EV_CLAIM core := Nat.mod_eq_of_lt (by omega)
  simp only [State.view, hblock, hoffset, Nat.zero_le, if_true, State.viewControl]
  rw [if_neg (by simp; omega), if_pos (by simp; omega), CPX_EV_CLAIM_core]
  cases s.claimable core <;> rfl

/-- Free values stand in the reserved bits of a claim register only. -/
theorem getBits_readWord_claim (core : Nat) (s : State) (w : Word) (hcore : core < 12) (hi lo : Nat)
    (hfield : 30 < lo ∨ hi < 10) : getBits (s.readWord (R.CPX_EV_CLAIM core) w) hi lo =
      getBits (claimWord (s.reg (R.CPX_EV_CLAIM core)) (s.claimable core)) hi lo := by
  simp only [State.readWord, findReg_CPX_EV_CLAIM core hcore, latchedWord_claim core s hcore, Option.getD_none,
    view_claim core s hcore, openMask_claimRow, accMask_wo_claimRow]
  rw [getBits_set_other _ _ _ _ _ _ (by omega) (by omega) hfield]
  have hclear := getBits_clear_other (claimWord (s.reg (R.CPX_EV_CLAIM core)) (s.claimable core)) (BitVec.allOnes 32)
    30 10 hi lo (by omega) (by omega) hfield
  rw [BitVec.allOnes_and] at hclear
  rwa [show ~~~(0 : Word) = BitVec.allOnes 32 from rfl, BitVec.and_allOnes]

theorem getBits_claimWord_event (w : Word) (e : Option Nat) : getBits (claimWord w e) 9 0 = e.getD 0 % 2 ^ 10 := by
  rw [claimWord, getBits_putBits_other _ _ _ _ _ _ (by omega) (by omega) (by omega),
    getBits_putBits _ _ _ _ (by omega) (by omega)]

theorem getBits_claimWord_none (w : Word) (e : Option Nat) : getBits (claimWord w e) 31 31 = boolNat e.isNone := by
  rw [claimWord, getBits_putBits _ _ _ _ (by omega) (by omega)]
  cases e <;> rfl

/-- Reading a claim register answers one word with the fields of what was claimable, then claims it (R492). -/
theorem run_readProg_claim (core : Nat) (stamp : Time) (s : State) (hcore : core < 12) :
    ∃ w, (readProg (R.CPX_EV_CLAIM core) stamp).run s =
        (claimProg core).run ((Act.bus { data := [w] }).apply ((Act.free 1).apply s)) ∧
      getBits w 9 0 = (s.claimable core).getD 0 % 2 ^ 10 ∧ getBits w 31 31 = boolNat (s.claimable core).isNone := by
  have hlt := CPX_EV_CLAIM_lt hcore
  have hnow : R.CPX_EV_CLAIM core ≠ R.TIM_NOW_NS := by unfold R.TIM_NOW_NS; omega
  have hparent : R.CPX_EV_CLAIM core ≠ R.TIM_PARENT := by unfold R.TIM_PARENT; omega
  have hstatus : R.CPX_EV_CLAIM core ≠ R.APL_STATUS := by unfold R.APL_STATUS; omega
  have htemp : R.CPX_EV_CLAIM core ≠ R.APL_TEMP := by unfold R.APL_TEMP; omega
  refine ⟨((Act.free 1).apply s).readWord (R.CPX_EV_CLAIM core) (Config.freeWord s.freeCount), ?_, ?_, ?_⟩
  · simp [readProg, show R.CPX_EV_CLAIM core / 0x100000 = 0 by omega, hnow, hparent, hstatus, htemp, Prog.withFree,
      run_runningCount_CPX _ s (show R.CPX_EV_CLAIM core < 0x100000 by omega), run_readEffect_claim _ _ hcore]
  · rw [getBits_readWord_claim _ _ _ hcore _ _ (by omega), getBits_claimWord_event]
    rfl
  · rw [getBits_readWord_claim _ _ _ hcore _ _ (by omega), getBits_claimWord_none]
    rfl

/-- Masking out one bit clears it and leaves the others. -/
theorem getLsbD_clearBit {n : Nat} (p : BitVec n) (k i : Nat) :
    (p &&& ~~~(1#n <<< k)).getLsbD i = (p.getLsbD i && decide (i ≠ k)) := by
  rw [← BitVec.twoPow_eq, BitVec.getLsbD_and, BitVec.getLsbD_not, BitVec.getLsbD_twoPow]
  by_cases hi : i < n
  · by_cases hik : i = k
    · simp [hik]
    · simp [hi, hik, eq_comm (a := k)]
  · simp [BitVec.getLsbD_of_ge p i (Nat.le_of_not_lt hi)]

theorem run_claimProg_none (core : Nat) (s : State) (h : s.claimable core = none) : (claimProg core).run s = s := by
  simp [claimProg, h]

theorem run_claimProg_some (core e : Nat) (s : State) (h : s.claimable core = some e) :
    (claimProg core).run s =
      (Act.ctl (fun c => { c with pend := c.pend &&& ~~~(1#7680 <<< (640 * core + e)) })).apply s := by
  simp [claimProg, h]

/-- A claim of event `e` clears its pending bit at the core and leaves the others. -/
theorem getLsbD_pend_run_claimProg (core e i : Nat) (s : State) (h : s.claimable core = some e) :
    ((claimProg core).run s).ctl.pend.getLsbD i = (s.ctl.pend.getLsbD i && decide (i ≠ 640 * core + e)) := by
  rw [run_claimProg_some core e s h]
  exact getLsbD_clearBit ..

theorem frame_claimProg {parts : List Part} (core : Nat) (s : State) (hctl : Part.ctl ∈ parts) :
    Frame parts [] s ((claimProg core).run s) := by
  cases h : s.claimable core with
  | none =>
    rw [run_claimProg_none core s h]
    exact Frame.refl _ _ s
  | some e =>
    rw [run_claimProg_some core e s h]
    exact Prog.frame_noRegs _ (.act (.ctl _)) hctl s

theorem run_claimProg_bus (core : Nat) (s : State) : ((claimProg core).run s).bus = s.bus := by
  obtain ⟨hsame, -⟩ := frame_claimProg (parts := [.ctl]) core s (by decide)
  exact hsame .bus (by decide) (by decide)

/-! ### Measurement extensions -/

/-- Changing one element of a list is the library's `List.modify`. -/
theorem modAt_eq_modify {α : Type} (l : List α) (i : Nat) (f : α → α) : modAt l i f = l.modify i f := by
  induction l generalizing i with
  | nil => cases i <;> rfl
  | cons a l ih => cases i <;> simp [modAt, ih]

theorem getD_modAt_same {α : Type} (l : List α) (i : Nat) (f : α → α) (d : α) (h : i < l.length) :
    (modAt l i f).getD i d = f (l.getD i d) := by
  simp [modAt_eq_modify, h]

theorem getD_modAt_other {α : Type} (l : List α) (i j : Nat) (f : α → α) (d : α) (h : j ≠ i) :
    (modAt l i f).getD j d = l.getD j d := by
  simp [modAt_eq_modify, List.getD_eq_getElem?_getD, h.symm]

/-- The data words as one number, low word first (R519, Table 18.15). -/
def State.extendData (s : State) : BitVec 512 :=
  BitVec.ofNat 512 ((List.range 16).foldl (fun a w => a + (s.reg (R.SEC_EXT_DATA w)).toNat * 2 ^ (32 * w)) 0)

/-- The four values of REG name M10 to M13, so that the extension is never held back. -/
theorem run_extendProg_meas (r : BitVec 2) (s : State) :
    ((extendProg r.toNat).run s).meas = modAt s.meas (10 + r.toNat)
      (fun m => Config.sha3 (digestBytes m ++ digestBytes s.extendData)) := by
  have hr : r.toNat < 4 := r.isLt
  simp only [extendProg, Prog.run_dyn, Prog.run_act, Nat.mod_eq_of_lt hr]
  simp [Act.apply, show 10 + r.toNat < 15 by omega, State.extendData]

/-! ### The statement -/

/-- R490: what a time-out leaves, the event of the recorded state last. -/
theorem completes_registerAccessTimeout (s : State) (off : Nat) (write : Bool) (hinv : s.Inv) (hawake : s.Awake)
    (hoff : off < 2 ^ 28) : Completes (.registerAccessTimeout off write) s (fun t =>
      (write = false → t.bus = { data := [0] }) ∧ (write = true → t.bus = s.bus) ∧
      t.fld F.CPX_BUS_ERR_COUNT_COUNT = s.countUp F.CPX_BUS_ERR_COUNT_COUNT ∧
      t.fld F.CPX_BUS_ERR_OFFSET =
        (if s.fld F.CPX_BUS_ERR_COUNT_COUNT = 0 then off else s.fld F.CPX_BUS_ERR_OFFSET) ∧
      Pended 0 s t ∧ Frame [.bus, .ctl, .freeCount] [R.CPX_BUS_ERR, R.CPX_BUS_ERR_COUNT] s t) := by
  obtain ⟨hwf, -⟩ := hinv
  have hrecord : Frame [.bus] _ s ((timeoutRecord off write).run s) :=
    (Prog.frame _ _ _ (timeoutRecord_only off write (by decide)) s hwf).2
  have hframe := (Prog.frame [.bus, .ctl, .freeCount] _ (.seq (timeoutRecord off write) (.raise 0))
    ⟨timeoutRecord_only off write (by decide), Prog.raise_only 0 (by decide) (by decide)⟩ s hwf).2
  refine ⟨_, exec_registerAccessTimeout_awake off write s hawake, ?_, ?_, ?_, ?_, ?_, hframe⟩
  · rintro rfl
    exact (Prog.run_raise_bus 0 _).trans (run_timeoutRecord_bus off false s)
  · rintro rfl
    exact (Prog.run_raise_bus 0 _).trans (run_timeoutRecord_bus off true s)
  · exact (Prog.run_raise_fld 0 _ _).trans (run_timeoutRecord_count off write s hwf)
  · exact (Prog.run_raise_fld 0 _ _).trans (run_timeoutRecord_offset off write s hwf hoff)
  · exact pended_run_raise 0 hrecord (by decide) (by decide)

/-- R14: a lock command writes one register, in which the LOCK bit stands. -/
theorem completes_lockSet (s : State) (block r b : Nat) (hinv : s.Inv) (hawake : s.Awake) (hlyr : block ≠ 0x14)
    (hbit : lockBit block = some (r, b)) :
    Completes (.lockSet block) s (fun t => getBits (t.reg r) b b = 1 ∧ Frame [] [r] s t) := by
  obtain ⟨hwf, -⟩ := hinv
  have hrun := run_lockProg block r b s hlyr hbit
  refine ⟨_, exec_lockSet_awake block s hawake, ?_, ?_⟩
  · rw [hrun, State.reg_apply_same s _ _ hwf, getBits_putBits _ _ _ _ (lockBit_lt hbit) le_rfl]
    simp
  · rw [hrun]
    exact (Act.frame [] [r] _ (by simp [Act.Within]) s hwf).2

/-- R492: a claim of event `e` answers it and clears its pending bit at the core. -/
theorem completes_eventClaim_some (s : State) (core e : Nat) (hawake : s.Awake) (hcore : core < 12)
    (he : s.claimable core = some e) : Completes (.eventClaim core) s (fun t =>
      (∃ w, t.bus = { data := [w] } ∧ getBits w 9 0 = e ∧ getBits w 31 31 = 0) ∧
      t.ctl.pend.getLsbD (640 * core + e) = false ∧
      (∀ i, i ≠ 640 * core + e → t.ctl.pend.getLsbD i = s.ctl.pend.getLsbD i) ∧
      Frame [.bus, .ctl, .freeCount] [] s t) := by
  obtain ⟨w, hrun, hevent, hnone⟩ := run_readProg_claim core 0 s hcore
  have hpend (i : Nat) :=
    getLsbD_pend_run_claimProg core e i ((Act.bus { data := [w] }).apply ((Act.free 1).apply s)) he
  have hlt : e < 640 := State.claimable_lt he
  refine ⟨_, exec_eventClaim_awake core s hawake hcore, ?_⟩
  rw [hrun]
  refine ⟨⟨w, run_claimProg_bus .., ?_, ?_⟩, ?_, fun i hi => ?_, ?_⟩
  · rw [hevent, he]
    exact Nat.mod_eq_of_lt (show e < 2 ^ 10 by omega)
  · rw [hnone, he]
    rfl
  · simp [hpend]
  · simp [hpend, hi]
  · exact (Prog.frame_noRegs _ (.seq (.act (.free 1)) (.act (.bus _))) (by simp [Act.Within]) s).trans
      (frame_claimProg core _ (by decide))

/-- R492: a claim where nothing is claimable answers NONE and clears nothing. -/
theorem completes_eventClaim_none (s : State) (core : Nat) (hawake : s.Awake) (hcore : core < 12)
    (hnothing : s.claimable core = none) : Completes (.eventClaim core) s (fun t =>
      (∃ w, t.bus = { data := [w] } ∧ getBits w 31 31 = 1) ∧ Frame [.bus, .freeCount] [] s t) := by
  obtain ⟨w, hrun, -, hnone⟩ := run_readProg_claim core 0 s hcore
  have hclaim := run_claimProg_none core ((Act.bus { data := [w] }).apply ((Act.free 1).apply s)) hnothing
  refine ⟨_, exec_eventClaim_awake core s hawake hcore, ?_⟩
  rw [hrun, hclaim]
  refine ⟨⟨w, rfl, ?_⟩, frame_bus_free _ 1 s⟩
  rw [hnone, hnothing]
  rfl

/-- R566: a software event is pended by its route. -/
theorem completes_swEventRaise (s : State) (e : Nat) (stamp : Time) (hawake : s.Awake) (hlo : 480 ≤ e)
    (hhi : e < 640) : Completes (.swEventRaise e stamp) s (fun t =>
      t.ctl.pend = pendSet (getBits (s.reg (R.CPX_EV_ROUTE e)) 11 0) e s.ctl.pend ∧ Frame [.ctl] [] s t) :=
  ⟨_, exec_swEventRaise_awake e stamp s hawake hlo hhi, Prog.run_raiseAt_pend e stamp s,
    Prog.frame_noRegs _ _ (Prog.raiseAt_only e stamp (by decide)) s⟩

/-- R519: of the measurement registers an extension moves the one that REG names. -/
theorem completes_measurementExtend (s : State) (r : BitVec 2) (hlen : s.meas.length = 16) :
    Completes (.measurementExtend r) s (fun t =>
      t.meas.getD (10 + r.toNat) 0 =
        Config.sha3 (digestBytes (s.meas.getD (10 + r.toNat) 0) ++ digestBytes s.extendData) ∧
      (∀ i, i ≠ 10 + r.toNat → t.meas.getD i 0 = s.meas.getD i 0) ∧ Frame [.meas] [] s t) := by
  have hr : r.toNat < 4 := r.isLt
  refine ⟨_, exec_measurementExtend r s, ?_, fun i hi => ?_, ?_⟩
  · rw [run_extendProg_meas, getD_modAt_same _ _ _ _ (by omega)]
  · rw [run_extendProg_meas, getD_modAt_other _ _ _ _ _ hi]
  · exact Prog.frame_noRegs _ _ (fun _ => by simp [Act.Within]) s

/-- Settles O14, command by command. -/
theorem registerEventsReported : Obligations.RegisterEventsReported := by
  refine ⟨completes_registerAccessTimeout, fun s hinv hawake => ⟨?_, ?_, ?_, ?_, ?_⟩⟩
  · exact fun block r b hlyr hbit => completes_lockSet s block r b hinv hawake hlyr hbit
  · exact fun core e hcore he => completes_eventClaim_some s core e hawake hcore he
  · exact fun core hcore hnothing => completes_eventClaim_none s core hawake hcore hnothing
  · exact fun e stamp hlo hhi => completes_swEventRaise s e stamp hawake hlo hhi
  · exact fun r hlen => completes_measurementExtend s r hlen

end Sys2Proof.Machine
end

section
/-! PROOF. The machine as a whole: what a step runs, what reset leaves, and what every act keeps, so that every step keeps
it (R9, R16, R46, R47, R516, R519, R552, R562). -/

namespace Sys2Proof.Machine

/-! ### From acts to steps -/

/-- What every act keeps, every command keeps. -/
theorem exec_keeps {Q : State → Prop} (hA : ∀ (a : Act) s, Q s → Q (a.apply s)) {c : Instr} {s t : State}
    (h : exec c s = .next t) (hs : Q s) : Q t := by
  obtain ⟨p, hp⟩ := exec_is_run c s
  cases hp.symm.trans h
  exact Prog.run_keeps Q (A := fun _ => True) (fun a s _ => hA a s) p (Prog.only_true p) s hs

/-- What every act keeps and taking a command from the queue keeps, every step keeps. -/
theorem step_keeps {Q : State → Prop} (hA : ∀ (a : Act) s, Q s → Q (a.apply s))
    (hpop : ∀ s rest, Q s → Q { s with pending := rest }) {s t : State} (h : step s = .next t) (hs : Q s) : Q t := by
  unfold step at h
  split at h
  case h_1 _ => cases h; exact hs
  case h_2 c rest _ => exact exec_keeps hA h (hpop s rest hs)

/-- Settles O1: the equations of the step. -/
theorem stepRunsFrontCommand : Obligations.StepRunsFrontCommand := by
  refine ⟨fun c rest s h => ?_, fun s h => ?_⟩ <;> simp [step, h]

/-! ### Reset -/

/-- Settles O2: the stores are empty and the measurement registers are sixteen zeros. -/
theorem resetInvariant : Obligations.ResetInvariant := ⟨rfl, rfl, rfl, rfl, rfl⟩

theorem State.lane_reset_st (i : Nat) (hi : i < 224) : (State.reset.lane i).st = .off := by
  have hmem : (State.reset.lane i) ∈ State.reset.sds.lanes := by
    rw [State.lane, List.getD_eq_getElem _ _ hi]
    exact List.getElem_mem _
  exact (List.eq_of_mem_replicate hmem).symm ▸ rfl

theorem State.dom_reset_st (d : Bool) : (State.reset.dom d).st = .free := by
  cases d <;> rfl

theorem State.meas_reset (i : Nat) : State.reset.meas.getD i 0 = 0 := by
  change (List.replicate 16 (0 : BitVec 512)).getD i 0 = 0
  rw [List.getD_eq_getElem?_getD, List.getElem?_replicate]
  split <;> rfl

/-- The row of CPX_DEVICE_ID in the register map (Table 0.4). -/
def deviceIdRow : RegRow :=
  { off := 0, flds := [⟨31, 16, .ro, 0x1024, .any, .none⟩, ⟨15, 12, .ro, 1, .any, .none⟩,
      ⟨11, 8, .ro, 0, .any, .none⟩, ⟨7, 0, .ro, 0x39, .any, .none⟩] }

/-- The device ID has no open bits, so that no free value shows (Table 0.4). -/
theorem readWord_reset_device_id (w : Word) : State.reset.readWord R.CPX_DEVICE_ID w = 0x10241039 := by
  have hrow : findReg R.CPX_DEVICE_ID = some deviceIdRow := by decide +kernel
  have hopen : openMask deviceIdRow = 0 := by decide +kernel
  have hview : (State.reset.latchedWord R.CPX_DEVICE_ID).getD (State.reset.view R.CPX_DEVICE_ID) = 0x10241039 := by
    decide +kernel
  have hwo : accMask .wo deviceIdRow.flds = 0 := by decide +kernel
  simp [State.readWord, hrow, hopen, hview, hwo]

/-- Settles O4: every field of the reset state is its default. -/
theorem resetLeaves : Obligations.ResetLeaves :=
  ⟨rfl, rfl, rfl, State.lane_reset_st, State.dom_reset_st, State.meas_reset, rfl, rfl, fun _ => ⟨rfl, rfl⟩,
    readWord_reset_device_id⟩

/-! ### The invariant -/

theorem Act.keeps_meas_length (a : Act) (s : State) (h : s.meas.length = 16) : (a.apply s).meas.length = 16 := by
  cases a with
  | extend i x =>
    simp only [Act.apply]
    split
    · simpa [modAt_eq_modify] using h
    · exact h
  | reset w => rfl
  | _ => simpa using h

theorem Act.keeps_Inv (a : Act) (s : State) (h : s.Inv) : (a.apply s).Inv := by
  obtain ⟨hregs, heff, hmem, hlen, h15⟩ := h
  have hlen' := a.keeps_meas_length s hlen
  cases a with
  | reg off v => exact ⟨Sparse.wf_write _ _ _ _ hregs, heff, hmem, hlen, h15⟩
  | eff off v => exact ⟨hregs, Sparse.wf_write _ _ _ _ heff, hmem, hlen, h15⟩
  | mem a bs => exact ⟨hregs, heff, Memory.wf_writeBytes bs _ a hmem, hlen, h15⟩
  | extend i x =>
    refine ⟨by simpa using hregs, by simpa using heff, by simpa using hmem, hlen', ?_⟩
    simp only [Act.apply]
    split
    case isTrue hi => exact (getD_modAt_other _ i 15 _ _ (by omega)).trans h15
    case isFalse _ => exact h15
  | reset w =>
    refine ⟨?_, rfl, rfl, rfl, rfl⟩
    cases w
    · rfl
    · exact warmRegs_wfFrom _ _ hregs
  | _ => simpa [State.Inv] using ⟨hregs, heff, hmem, hlen, h15⟩

/-- Settles O3: every act keeps the invariant, and the queue is no part of it. -/
theorem stepKeepsInvariant : Obligations.StepKeepsInvariant :=
  fun _ _ hs h => step_keeps Act.keeps_Inv (fun _ _ hs => hs) h hs

/-! ### One-way states -/

/-- The one-way states of `t` are reached from those of `s`. -/
def OneWay (s t : State) : Prop :=
  LcReach s.lc t.lc ∧ s.secVersion.toNat ≤ t.secVersion.toNat ∧ t.advancesLeft ≤ s.advancesLeft ∧
    NodeReach s.node t.node

theorem OneWay.refl (s : State) : OneWay s s := ⟨.refl, le_rfl, le_rfl, .refl⟩

theorem OneWay.trans {s t u : State} (h : OneWay s t) (g : OneWay t u) : OneWay s u := by
  obtain ⟨hlc, hver, hadv, hnode⟩ := h
  obtain ⟨glc, gver, gadv, gnode⟩ := g
  exact ⟨hlc.trans glc, hver.trans gver, gadv.trans hadv, hnode.trans gnode⟩

theorem Act.oneWay (a : Act) (s : State) : OneWay s (a.apply s) := by
  cases a with
  | node n =>
    simp only [Act.apply]
    split
    case isTrue h => exact ⟨.refl, le_rfl, le_rfl, .single (.inl h)⟩
    case isFalse _ => exact .refl s
  | lifecycle n =>
    simp only [Act.apply]
    split
    case isTrue h => exact ⟨.single h, le_rfl, le_rfl, .refl⟩
    case isFalse _ => exact .refl s
  | fuseVersion v =>
    simp only [Act.apply]
    split
    case isTrue h => exact ⟨.refl, h.1.le, Nat.sub_le _ _, .refl⟩
    case isFalse _ => exact .refl s
  | fuseInitial v =>
    simp only [Act.apply]
    split
    case isTrue h => exact ⟨.refl, h.le, le_rfl, .refl⟩
    case isFalse _ => exact .refl s
  | reset w => exact ⟨.refl, le_rfl, le_rfl, .single (.inr rfl)⟩
  | _ => simpa [OneWay] using OneWay.refl s

/-- Settles O5: every act moves the one-way states forward only. -/
theorem oneWayStates : Obligations.OneWayStates :=
  fun s _ h => step_keeps (Q := OneWay s) (fun a t hst => hst.trans (a.oneWay t)) (fun _ _ hst => hst) h (.refl s)

/-! ### The queue, free values, what was sent -/

/-- The queue of `t` is that of `s`, and free values and sent messages were only added. -/
def Extends (s t : State) : Prop :=
  t.pending = s.pending ∧ s.freeCount ≤ t.freeCount ∧ ∃ l, t.out = l ++ s.out

theorem Extends.refl (s : State) : Extends s s := ⟨rfl, le_rfl, [], rfl⟩

theorem Extends.trans {s t u : State} (h : Extends s t) (g : Extends t u) : Extends s u := by
  obtain ⟨hpend, hfree, l, hout⟩ := h
  obtain ⟨gpend, gfree, m, gout⟩ := g
  exact ⟨gpend.trans hpend, hfree.trans gfree, m ++ l, by rw [gout, hout, List.append_assoc]⟩

theorem Act.extends (a : Act) (s : State) : Extends s (a.apply s) := by
  cases a with
  | out o => exact ⟨rfl, le_rfl, [o], rfl⟩
  | free n => exact ⟨rfl, Nat.le_add_right _ _, [], rfl⟩
  | reset w => exact .refl s
  | _ => simp [Extends]

/-- Settles O6: every command runs a program of acts, and each act extends. -/
theorem commandsKeepTheQueue : Obligations.CommandsKeepTheQueue := by
  intro c s
  obtain ⟨p, hp⟩ := exec_is_run c s
  exact ⟨_, hp, exec_keeps (Q := Extends s) (fun a t hst => hst.trans (a.extends t)) hp (.refl s)⟩

/-! ### Islands held in reset -/

/-- An access of an island that is held in reset does nothing. -/
theorem Prog.at_asleep (p : Prog) (off : Nat) (s : State) (h : s.ctl.inReset = true) (haon : aonBlock off = false) :
    p.at_ off s = s := by
  unfold Prog.at_
  rw [if_neg (by simp [haon])]
  exact p.go_asleep s h

/-- Settles O7: such a command runs through `Prog.go` or, as an access, through `Prog.at_` off island AON. -/
theorem islandsHeldInReset : Obligations.IslandsHeldInReset := by
  intro c s hreset haon
  cases c with
  | powerOn | sysResetAssert _ | coldReset _ | thermalTrip | thermalTripRelease => simp [aonCommand] at haon
  | housekeepingSample _ _ | measurementExtend _ => simp [aonCommand] at haon
  | aplEnableWrite _ _ | aplRequestGo _ | aplRequestJudged | aplRequestStart | journalWriteDone _ _ =>
    simp [aonCommand] at haon
  | aplLineEnd _ | aplRefSettled _ | aplDriverFault _ | aplRestoreTempTimeout | tilePowerFail _ =>
    simp [aonCommand] at haon
  | powerOffRequest _ => simp [aonCommand] at haon
  | registerWrite off _ _ _ | pairLowRead off _ _ | counterReadClear off _ _ =>
    exact congrArg Host.Outcome.next (Prog.at_asleep _ off s hreset haon)
  | lockSet block => exact congrArg Host.Outcome.next (Prog.at_asleep _ (block * 0x100000) s hreset haon)
  | _ => exact congrArg Host.Outcome.next (Prog.go_asleep _ s hreset)

/-! ### Measurement registers -/

/-- There are sixteen registers in `t`, each reached from that of `s`, and M15 stayed or is zero. -/
def MeasExtends (s t : State) : Prop :=
  t.meas.length = 16 ∧ (∀ i, MeasReach (s.meas.getD i 0) (t.meas.getD i 0)) ∧
    (t.meas.getD 15 0 = s.meas.getD 15 0 ∨ t.meas.getD 15 0 = 0)

theorem MeasExtends.trans {s t u : State} (h : MeasExtends s t) (g : MeasExtends t u) : MeasExtends s u := by
  obtain ⟨-, hreach, h15⟩ := h
  obtain ⟨glen, greach, g15⟩ := g
  exact ⟨glen, fun i => (hreach i).trans (greach i), g15.elim (fun e => e ▸ h15) .inr⟩

theorem MeasReach.refl {m : BitVec 512} : MeasReach m m := Relation.ReflTransGen.refl

theorem Act.measExtends (a : Act) (s : State) (h : s.meas.length = 16) : MeasExtends s (a.apply s) := by
  refine ⟨a.keeps_meas_length s h, ?_⟩
  cases a with
  | extend i x =>
    simp only [Act.apply]
    split
    case isFalse _ => exact ⟨fun _ => .refl, .inl rfl⟩
    case isTrue hi =>
      refine ⟨fun j => ?_, .inl (getD_modAt_other _ i 15 _ _ (by omega))⟩
      by_cases hj : j = i
      · subst hj
        exact .single (.inr ⟨x, getD_modAt_same _ _ _ _ (by omega)⟩)
      · rw [getD_modAt_other _ _ _ _ _ hj]
        exact .refl
  | reset w => exact ⟨fun i => .single (.inl (State.meas_reset i)), .inr (State.meas_reset 15)⟩
  | _ => exact ⟨fun i => by simpa using MeasReach.refl, .inl (by simp)⟩

/-- Settles O8: every act extends a measurement register, or resets all. -/
theorem measurementsOnlyExtend : Obligations.MeasurementsOnlyExtend := by
  intro s t hlen h i
  obtain ⟨-, hreach, h15⟩ := step_keeps (Q := MeasExtends s) (fun a t hst => hst.trans (a.measExtends t hst.1))
    (fun _ _ hst => hst) h ⟨hlen, fun _ => .refl, .inl rfl⟩
  exact ⟨hreach i, fun _ => h15⟩

end Sys2Proof.Machine
end

section
/-! PROOF. Running a program from a given state: the acts that its run performs, the frame that they give, and what a
register, a field and an element of a list read after them. -/

namespace Sys2Proof.Machine

/-- The register store is canonical (R9), so that it reads back what is written. -/
def State.Canon (s : State) : Prop := Sparse.wf resetWord s.regs = true

theorem State.Inv.canon {s : State} (h : s.Inv) : s.Canon := h.1

/-! ### The acts of a run -/

/-- Every act that the run from a state performs satisfies `A`. Where a branch is not taken, its acts do not count: this is
what `Prog.Only` says of all states at once, along one run. -/
def Prog.Does (A : Act → Prop) : Prog → State → Prop
  | .nil, _ => True
  | .act a, _ => A a
  | .seq p q, s => p.Does A s ∧ q.Does A (p.run s)
  | .dyn f, s => (f s).Does A s

section
variable {A : Act → Prop} {parts : List Part} {offs : List Nat} (s : State)

theorem Prog.Only.does {p : Prog} (h : p.Only A) (s : State) : p.Does A s := by
  induction p generalizing s with
  | nil => trivial
  | act a => exact h
  | seq p q hp hq => exact ⟨hp h.1 s, hq h.2 _⟩
  | dyn f ih => exact ih s (h s) s

@[simp] theorem Prog.does_nil : Prog.nil.Does A s := trivial
@[simp] theorem Prog.does_act (a : Act) : (Prog.act a).Does A s ↔ A a := Iff.rfl
@[simp] theorem Prog.does_seq (p q : Prog) : (Prog.seq p q).Does A s ↔ p.Does A s ∧ q.Does A (p.run s) := Iff.rfl
@[simp] theorem Prog.does_dyn (f : State → Prog) : (Prog.dyn f).Does A s ↔ (f s).Does A s := Iff.rfl
@[simp] theorem Prog.does_block_nil : (Prog.block []).Does A s := trivial
@[simp] theorem Prog.does_block_cons (p : Prog) (ps : List Prog) :
    (Prog.block (p :: ps)).Does A s ↔ p.Does A s ∧ (Prog.block ps).Does A (p.run s) := Iff.rfl
@[simp] theorem Prog.does_guard (c : State → Bool) (p : Prog) :
    (Prog.guard c p).Does A s ↔ (c s = true → p.Does A s) := by
  unfold Prog.guard
  rw [Prog.does_dyn]
  split <;> simp_all
@[simp] theorem Prog.does_when (c : Bool) (p : Prog) : (Prog.when c p).Does A s ↔ (c = true → p.Does A s) := by
  unfold Prog.when
  split <;> simp_all
theorem Prog.does_each {α : Type} (l : List α) (f : α → Prog) (h : ∀ x ∈ l, ∀ t, (f x).Does A t) :
    (Prog.each l f).Does A s := by
  induction l generalizing s with
  | nil => trivial
  | cons x l ih => exact ⟨h x List.mem_cons_self s, ih _ fun y hy => h y (List.mem_cons_of_mem x hy)⟩

@[simp] theorem Prog.does_setReg (off : Nat) (v : Word) :
    (Prog.setReg off v).Does (Act.Within parts offs) s ↔ off ∈ offs := Iff.rfl
@[simp] theorem Prog.does_setFld (f : Fld) (v : Nat) :
    (Prog.setFld f v).Does (Act.Within parts offs) s ↔ f.off ∈ offs := Iff.rfl
@[simp] theorem Prog.does_setFlag (f : Fld) (b : Bool) :
    (Prog.setFlag f b).Does (Act.Within parts offs) s ↔ f.off ∈ offs := Iff.rfl
@[simp] theorem Prog.does_count (f : Fld) (n : Nat) :
    (Prog.count f n).Does (Act.Within parts offs) s ↔ f.off ∈ offs := Iff.rfl
@[simp] theorem Prog.does_countWrap (f : Fld) (n : Nat) :
    (Prog.countWrap f n).Does (Act.Within parts offs) s ↔ f.off ∈ offs := Iff.rfl
@[simp] theorem Prog.does_send (o : Out) : (Prog.send o).Does (Act.Within parts offs) s ↔ Part.out ∈ parts := Iff.rfl
@[simp] theorem Prog.does_raiseAt (e : Nat) (t : Time) :
    (Prog.raiseAt e t).Does (Act.Within parts offs) s ↔ Part.ctl ∈ parts := Iff.rfl
@[simp] theorem Prog.does_raise (e : Nat) :
    (Prog.raise e).Does (Act.Within parts offs) s ↔ Part.freeCount ∈ parts ∧ Part.ctl ∈ parts := Iff.rfl
@[simp] theorem Prog.does_withFree (f : Word → Prog) :
    (Prog.withFree f).Does (Act.Within parts offs) s ↔
      Part.freeCount ∈ parts ∧ (f (Config.freeWord s.freeCount)).Does (Act.Within parts offs) ((Act.free 1).apply s) :=
  Iff.rfl
@[simp] theorem Prog.does_withFreeStamp (f : Time → Prog) :
    (Prog.withFreeStamp f).Does (Act.Within parts offs) s ↔
      Part.freeCount ∈ parts ∧ (f (Config.freeStamp s.freeCount)).Does (Act.Within parts offs) ((Act.free 1).apply s) :=
  Iff.rfl

/-- What the acts of a run keep, the run keeps. -/
theorem Prog.Does.keeps {Q : State → Prop} (hA : ∀ a t, A a → Q t → Q (a.apply t)) {p : Prog} {s : State}
    (h : p.Does A s) (hs : Q s) : Q (p.run s) := by
  induction p generalizing s with
  | nil => exact hs
  | act a => exact hA a s h hs
  | seq p q hp hq => exact hq h.2 (hp h.1 hs)
  | dyn f ih => exact ih s h hs

/-- The frame of one run, in a state with a canonical register store. -/
theorem Prog.Does.frame {p : Prog} {s : State} (h : p.Does (Act.Within parts offs) s)
    (hs : s.Canon) : Frame parts offs s (p.run s) :=
  (h.keeps (Q := fun t => Sparse.wf resetWord t.regs = true ∧ Frame parts offs s t)
    (fun a t ha ht => ⟨(Act.frame parts offs a ha t ht.1).1, ht.2.trans (Act.frame parts offs a ha t ht.1).2⟩)
    ⟨hs, Frame.refl parts offs s⟩).2

/-- An act that writes no register, in any state. -/
theorem Act.frame_noRegs {a : Act} (h : a.Within parts []) (s : State) : Frame parts [] s (a.apply s) :=
  Prog.frame_noRegs parts (.act a) h s

/-- The frame of one run that writes no register, in any state. -/
theorem Prog.Does.frame_noRegs {p : Prog} {s : State} (h : p.Does (Act.Within parts []) s) :
    Frame parts [] s (p.run s) :=
  h.keeps (fun _ t ha ht => ht.trans (Act.frame_noRegs ha t)) (Frame.refl parts [] s)

end

/-- A frame is also a frame of more parts and more registers. -/
theorem Frame.mono {parts parts' : List Part} {offs offs' : List Nat} {s t : State} (h : Frame parts offs s t)
    (hp : ∀ p ∈ parts, p ∈ parts') (ho : ∀ o ∈ offs, o ∈ offs') : Frame parts' offs' s t :=
  ⟨fun p hn hr => h.1 p (fun hm => hn (hp p hm)) hr, fun o hn => h.2 o (fun hm => hn (ho o hm))⟩

/-! ### Canonical register stores -/

theorem Prog.run_inv (p : Prog) (s : State) (h : s.Inv) : (p.run s).Inv :=
  Prog.run_keeps State.Inv (A := fun _ => True) (fun a s _ => a.keeps_Inv s) p (Prog.only_true p) s h

/-- Reading a canonical store after a write of one key. -/
theorem Sparse.read_write {n : Nat} (d : Nat → BitVec n) (l : List (Nat × BitVec n)) (k j : Nat) (v : BitVec n)
    (h : Sparse.wf d l = true) : Sparse.read d (Sparse.write d l k v) j = if j = k then v else Sparse.read d l j := by
  split
  case isTrue e => rw [e]; exact Sparse.read_write_same d l 0 k v h
  case isFalse e => exact Sparse.read_write_other d l 0 k j v h e

/-- The act writes neither of the register stores. -/
def Act.KeepsRegs (a : Act) : Prop := ∀ s, (a.apply s).regs = s.regs ∧ (a.apply s).eff = s.eff

@[simp] theorem Act.keepsRegs_mem (a : Nat) (bs : List Byte) : (Act.mem a bs).KeepsRegs := fun _ => by simp
@[simp] theorem Act.keepsRegs_node (n : NodeState) : (Act.node n).KeepsRegs := fun _ => by simp
@[simp] theorem Act.keepsRegs_lifecycle (n : LcState) : (Act.lifecycle n).KeepsRegs := fun _ => by simp
@[simp] theorem Act.keepsRegs_fuseVersion (v : Word) : (Act.fuseVersion v).KeepsRegs := fun _ => by simp
@[simp] theorem Act.keepsRegs_fuseInitial (v : Word) : (Act.fuseInitial v).KeepsRegs := fun _ => by simp
@[simp] theorem Act.keepsRegs_extend (i : Nat) (x : BitVec 512) : (Act.extend i x).KeepsRegs := fun _ => by simp
@[simp] theorem Act.keepsRegs_bus (b : BusResult) : (Act.bus b).KeepsRegs := fun _ => by simp
@[simp] theorem Act.keepsRegs_rws (f : List RwsWrite → List RwsWrite) : (Act.rws f).KeepsRegs := fun _ => by simp
@[simp] theorem Act.keepsRegs_latch (f : List (Nat × Word) → List (Nat × Word)) : (Act.latch f).KeepsRegs := fun _ => by simp
@[simp] theorem Act.keepsRegs_ing (f : Ingest → Ingest) : (Act.ing f).KeepsRegs := fun _ => by simp
@[simp] theorem Act.keepsRegs_thk (f : Thk → Thk) : (Act.thk f).KeepsRegs := fun _ => by simp
@[simp] theorem Act.keepsRegs_grv (f : Groves → Groves) : (Act.grv f).KeepsRegs := fun _ => by simp
@[simp] theorem Act.keepsRegs_lyr (f : Layers → Layers) : (Act.lyr f).KeepsRegs := fun _ => by simp
@[simp] theorem Act.keepsRegs_pdl (f : Pdl → Pdl) : (Act.pdl f).KeepsRegs := fun _ => by simp
@[simp] theorem Act.keepsRegs_sds (f : Serial → Serial) : (Act.sds f).KeepsRegs := fun _ => by simp
@[simp] theorem Act.keepsRegs_apl (f : Apl → Apl) : (Act.apl f).KeepsRegs := fun _ => by simp
@[simp] theorem Act.keepsRegs_fab (f : Fabric → Fabric) : (Act.fab f).KeepsRegs := fun _ => by simp
@[simp] theorem Act.keepsRegs_tim (f : Canopy → Canopy) : (Act.tim f).KeepsRegs := fun _ => by simp
@[simp] theorem Act.keepsRegs_cmt (f : Commit → Commit) : (Act.cmt f).KeepsRegs := fun _ => by simp
@[simp] theorem Act.keepsRegs_met (f : Metrology → Metrology) : (Act.met f).KeepsRegs := fun _ => by simp
@[simp] theorem Act.keepsRegs_dmc (f : Dram → Dram) : (Act.dmc f).KeepsRegs := fun _ => by simp
@[simp] theorem Act.keepsRegs_sram (f : SramTest → SramTest) : (Act.sram f).KeepsRegs := fun _ => by simp
@[simp] theorem Act.keepsRegs_nvm (f : Nvm → Nvm) : (Act.nvm f).KeepsRegs := fun _ => by simp
@[simp] theorem Act.keepsRegs_ctl (f : Control → Control) : (Act.ctl f).KeepsRegs := fun _ => by simp
@[simp] theorem Act.keepsRegs_sec (f : Sec → Sec) : (Act.sec f).KeepsRegs := fun _ => by simp
@[simp] theorem Act.keepsRegs_hkp (f : Hkp → Hkp) : (Act.hkp f).KeepsRegs := fun _ => by simp
@[simp] theorem Act.keepsRegs_pins (f : Pins → Pins) : (Act.pins f).KeepsRegs := fun _ => by simp
@[simp] theorem Act.keepsRegs_out (o : Out) : (Act.out o).KeepsRegs := fun _ => by simp
@[simp] theorem Act.keepsRegs_free (n : Nat) : (Act.free n).KeepsRegs := fun _ => by simp

section
variable {a : Act} (h : a.KeepsRegs) (s : State) (off : Nat) (f : Fld)
include h

@[simp] theorem State.reg_apply : (a.apply s).reg off = s.reg off := by
  unfold State.reg
  rw [(h s).1]

@[simp] theorem State.fld_apply : (a.apply s).fld f = s.fld f := by
  unfold State.fld
  rw [State.reg_apply h]

@[simp] theorem State.flag_apply : (a.apply s).flag f = s.flag f := by
  unfold State.flag
  rw [State.fld_apply h]

@[simp] theorem State.effReg_apply : (a.apply s).effReg off = s.effReg off := by
  unfold State.effReg
  rw [(h s).2]

@[simp] theorem State.effFld_apply : (a.apply s).effFld f = s.effFld f := by
  unfold State.effFld
  rw [State.effReg_apply h]

@[simp] theorem State.effFlag_apply : (a.apply s).effFlag f = s.effFlag f := by
  unfold State.effFlag
  rw [State.effFld_apply h]

end

@[simp] theorem State.effReg_reg_apply (s : State) (off : Nat) (v : Word) (o : Nat) :
    ((Act.reg off v).apply s).effReg o = s.effReg o := rfl

@[simp] theorem State.effFld_reg_apply (s : State) (off : Nat) (v : Word) (f : Fld) :
    ((Act.reg off v).apply s).effFld f = s.effFld f := rfl

@[simp] theorem State.effFlag_reg_apply (s : State) (off : Nat) (v : Word) (f : Fld) :
    ((Act.reg off v).apply s).effFlag f = s.effFlag f := rfl

@[simp] theorem State.fld_eff_apply (s : State) (off : Nat) (v : Word) (f : Fld) :
    ((Act.eff off v).apply s).fld f = s.fld f := rfl

@[simp] theorem State.reg_eff_apply (s : State) (off : Nat) (v : Word) (o : Nat) :
    ((Act.eff off v).apply s).reg o = s.reg o := rfl

/-- Only a name for `p`. The lemmas that say when a store or a program is good are stated as
`goal ↔ reason ∨ Anyway goal _`, so that `simp` goes through any number of them in one pass; the second argument, whose type
speaks of `p`, keeps `simp` from rewriting `p` under the name. -/
def Anyway (p : Prop) (_ : p → Bool) : Prop := p

theorem iff_or_anyway {p q : Prop} (h : q → p) : p ↔ q ∨ Anyway p (fun _ => true) := ⟨.inr, fun h' => h'.elim h id⟩

@[simp] theorem Act.canon_apply_iff (a : Act) (s : State) :
    (a.apply s).Canon ↔ s.Canon ∨ Anyway (a.apply s).Canon (fun _ => true) := iff_or_anyway (Prog.run_wf (.act a) s)

@[simp] theorem Prog.canon_run_iff (p : Prog) (s : State) :
    (p.run s).Canon ↔ s.Canon ∨ Anyway (p.run s).Canon (fun _ => true) := iff_or_anyway (p.run_wf s)

theorem State.Canon.run {s : State} (h : s.Canon) (p : Prog) : (p.run s).Canon := p.run_wf s h

theorem State.Canon.apply {s : State} (h : s.Canon) (a : Act) : (a.apply s).Canon := Prog.run_wf (.act a) s h

/-- A register store shows in the word of its own register. -/
@[simp] theorem State.reg_store_same (s : State) (off o : Nat) (v : Word) (h : s.Canon)
    (ho : o = off) : ((Act.reg off v).apply s).reg o = v := by
  rw [ho, State.reg_apply_same s off v h]

@[simp] theorem State.reg_store_other (s : State) (off o : Nat) (v : Word) (h : s.Canon)
    (ho : o ≠ off) : ((Act.reg off v).apply s).reg o = s.reg o := State.reg_apply_other s off o v h ho

/-- A register store shows in the fields of its own register. -/
@[simp] theorem State.fld_store_same (s : State) (off : Nat) (v : Word) (f : Fld)
    (h : s.Canon) (ho : f.off = off) :
    ((Act.reg off v).apply s).fld f = getBits v f.hi f.lo := by
  unfold State.fld
  rw [State.reg_store_same s off f.off v h ho]

@[simp] theorem State.fld_store_other (s : State) (off : Nat) (v : Word) (f : Fld)
    (h : s.Canon) (ho : f.off ≠ off) : ((Act.reg off v).apply s).fld f = s.fld f := by
  unfold State.fld
  rw [State.reg_store_other s off f.off v h ho]

@[simp] theorem State.flag_store_other (s : State) (off : Nat) (v : Word) (f : Fld)
    (h : s.Canon) (ho : f.off ≠ off) : ((Act.reg off v).apply s).flag f = s.flag f := by
  unfold State.flag
  rw [State.fld_store_other s off v f h ho]

/-- A field is less than its width allows. -/
theorem getBits_lt (w : Word) (hi lo : Nat) : getBits w hi lo < 2 ^ (hi + 1 - lo) := Nat.mod_lt _ (Nat.two_pow_pos _)

theorem State.fld_lt (s : State) (f : Fld) : s.fld f < 2 ^ (f.hi + 1 - f.lo) := getBits_lt _ _ _

/-- The register at an offset outside a run's frame reads as before. -/
theorem Frame.fld {parts : List Part} {offs : List Nat} {s t : State} (h : Frame parts offs s t) (f : Fld)
    (hf : f.off ∉ offs) : t.fld f = s.fld f := by
  unfold State.fld
  rw [h.2 _ hf]

theorem Frame.flag {parts : List Part} {offs : List Nat} {s t : State} (h : Frame parts offs s t) (f : Fld)
    (hf : f.off ∉ offs) : t.flag f = s.flag f := by
  unfold State.flag
  rw [h.fld f hf]

/-! ### Commands -/

/-- A command of an island out of reset completes with the run of its program. -/
theorem Completes.of_go {c : Instr} {p : Prog} {s : State} {P : State → Prop} (hexec : exec c s = .next (p.go s))
    (hawake : s.Awake) (h : P (p.run s)) : Completes c s P :=
  ⟨_, hexec, by rwa [Prog.go_awake p s hawake]⟩

/-- A command whose program changes nothing, on either side of the reset. -/
theorem Completes.of_go_self {c : Instr} {p : Prog} {s : State} (hexec : exec c s = .next (p.go s))
    (h : p.run s = s) : Completes c s (fun t => t = s) := by
  refine ⟨_, hexec, ?_⟩
  unfold Prog.go
  split
  · rfl
  · exact h

/-! ### Events -/

/-- What event `e` at an instant leaves in the control state: the pending bits of the routed cores, and records for the
subscribed sessions (R491, R493). -/
def State.raised (s : State) (e : Nat) (t : Time) (c : Control) : Control :=
  { c with
    pend := pendSet (getBits (s.reg (R.CPX_EV_ROUTE e)) 11 0) e c.pend
    sessions := if bitOf (s.reg (R.CPX_EV_ROUTE e)).toNat 12 then
        c.sessions.map (fun q => if q.opened && q.subMask.getLsbD e then
          queueRecord { event := e, fsn := s.S, stamp := t } q else q)
      else c.sessions }

section
variable (s : State) (e : Nat) (t : Time) (c : Control)

@[simp] theorem Prog.run_raiseAt : (Prog.raiseAt e t).run s = (Act.ctl (s.raised e t)).apply s := rfl
@[simp] theorem Prog.run_raise :
    (Prog.raise e).run s = (Act.ctl (s.raised e (Config.freeStamp s.freeCount))).apply ((Act.free 1).apply s) := rfl

@[simp] theorem State.raised_pend :
    (s.raised e t c).pend = pendSet (getBits (s.reg (R.CPX_EV_ROUTE e)) 11 0) e c.pend := rfl
@[simp] theorem State.raised_nextStream : (s.raised e t c).nextStream = c.nextStream := rfl
@[simp] theorem State.raised_l2 : (s.raised e t c).l2 = c.l2 := rfl
@[simp] theorem State.raised_inReset : (s.raised e t c).inReset = c.inReset := rfl
@[simp] theorem State.raised_stepMs : (s.raised e t c).stepMs = c.stepMs := rfl
@[simp] theorem State.raised_started : (s.raised e t c).started = c.started := rfl
@[simp] theorem State.raised_ended : (s.raised e t c).ended = c.ended := rfl
@[simp] theorem State.raised_startDone : (s.raised e t c).startDone = c.startDone := rfl
@[simp] theorem State.raised_warmResets : (s.raised e t c).warmResets = c.warmResets := rfl
@[simp] theorem State.raised_cpxRestarts : (s.raised e t c).cpxRestarts = c.cpxRestarts := rfl
@[simp] theorem State.raised_restarting : (s.raised e t c).restarting = c.restarting := rfl
@[simp] theorem State.raised_nextSession : (s.raised e t c).nextSession = c.nextSession := rfl
@[simp] theorem State.raised_trimTried : (s.raised e t c).trimTried = c.trimTried := rfl
@[simp] theorem State.raised_trimPass : (s.raised e t c).trimPass = c.trimPass := rfl
@[simp] theorem State.raised_mgtLink : (s.raised e t c).mgtLink = c.mgtLink := rfl
@[simp] theorem State.raised_lease : (s.raised e t c).lease = c.lease := rfl
@[simp] theorem State.raised_sessions_nil (h : c.sessions = []) : (s.raised e t c).sessions = [] := by
  simp [State.raised, h]

end

/-! ### What a program leaves of one observation -/

/-- The program leaves an observation of the state as it was, from any state with a canonical register store. -/
def Prog.Keeps {α : Type} (g : State → α) (p : Prog) : Prop :=
  ∀ s, s.Canon → g (p.run s) = g s

section
variable {α β : Type} {g : State → α} {p q : Prog}

theorem Prog.Keeps.run {s : State} (h : p.Keeps g) (hs : s.Canon) : g (p.run s) = g s :=
  h s hs

@[simp] theorem Prog.keeps_nil : Prog.nil.Keeps g := fun _ _ => rfl
theorem Prog.keeps_seq (hp : p.Keeps g) (hq : q.Keeps g) : (p.seq q).Keeps g :=
  fun s hs => (hq _ (hs.run p)).trans (hp s hs)
theorem Prog.keeps_ite {c : Prop} [Decidable c] (hp : c → p.Keeps g) (hq : ¬ c → q.Keeps g) :
    (if c then p else q).Keeps g := by
  split
  · exact hp ‹_›
  · exact hq ‹_›
theorem Prog.keeps_each {l : List β} {f : β → Prog} (h : ∀ x ∈ l, (f x).Keeps g) : (Prog.each l f).Keeps g := by
  induction l with
  | nil => exact Prog.keeps_nil
  | cons x l ih => exact Prog.keeps_seq (h x List.mem_cons_self) (ih fun y hy => h y (List.mem_cons_of_mem x hy))

@[simp] theorem Prog.keeps_seq_iff : (p.seq q).Keeps g ↔ (p.Keeps g ∧ q.Keeps g) ∨ Anyway ((p.seq q).Keeps g) (fun _ => true) :=
  iff_or_anyway fun h => Prog.keeps_seq h.1 h.2
@[simp] theorem Prog.keeps_dyn_iff {f : State → Prog} :
    (Prog.dyn f).Keeps g ↔ (∀ s, (f s).Keeps g) ∨ Anyway ((Prog.dyn f).Keeps g) (fun _ => true) :=
  iff_or_anyway fun h s hs => h s s hs
@[simp] theorem Prog.keeps_block_nil : (Prog.block []).Keeps g := fun _ _ => rfl
@[simp] theorem Prog.keeps_block_cons_iff {ps : List Prog} :
    (Prog.block (p :: ps)).Keeps g ↔ (p.Keeps g ∧ (Prog.block ps).Keeps g) ∨ Anyway ((Prog.block (p :: ps)).Keeps g) (fun _ => true) :=
  iff_or_anyway fun h => Prog.keeps_seq h.1 h.2
@[simp] theorem Prog.keeps_ite_iff {c : Prop} [Decidable c] : (if c then p else q).Keeps g ↔
    ((c → p.Keeps g) ∧ (¬ c → q.Keeps g)) ∨ Anyway ((if c then p else q).Keeps g) (fun _ => true) :=
  iff_or_anyway fun h => Prog.keeps_ite h.1 h.2
@[simp] theorem Prog.keeps_when_iff {c : Bool} :
    (Prog.when c p).Keeps g ↔ (c = true → p.Keeps g) ∨ Anyway ((Prog.when c p).Keeps g) (fun _ => true) :=
  iff_or_anyway fun h => Prog.keeps_ite h fun _ => Prog.keeps_nil
@[simp] theorem Prog.keeps_guard_iff {c : State → Bool} :
    (Prog.guard c p).Keeps g ↔ p.Keeps g ∨ Anyway ((Prog.guard c p).Keeps g) (fun _ => true) :=
  iff_or_anyway fun h s hs => Prog.keeps_ite (fun _ => h) (fun _ => Prog.keeps_nil) s hs
@[simp] theorem Prog.keeps_each_iff {l : List β} {f : β → Prog} :
    (Prog.each l f).Keeps g ↔ (∀ x ∈ l, (f x).Keeps g) ∨ Anyway ((Prog.each l f).Keeps g) (fun _ => true) :=
  iff_or_anyway Prog.keeps_each

/-- A run within a frame keeps the fields of the registers outside it. -/
theorem Prog.keeps_fld_of_only {parts : List Part} {offs : List Nat} (h : p.Only (Act.Within parts offs)) (f : Fld)
    (hf : f.off ∉ offs) : p.Keeps (fun s => s.fld f) := fun s hs => (Prog.frame parts offs p h s hs).2.fld f hf

end

theorem Prog.keeps_fld_setFld {f g : Fld} (v : Nat)
    (h : (f.hi < 32 ∧ f.lo ≤ f.hi) ∧ (g.off ≠ f.off ∨ f.hi < g.lo ∨ g.hi < f.lo)) :
    (Prog.setFld f v).Keeps (fun s => s.fld g) :=
  fun s hs => Prog.run_setFld_other f g v s hs h.1.1 h.1.2 h.2
@[simp] theorem Prog.keeps_fld_setFld_iff {f g : Fld} (v : Nat) : (Prog.setFld f v).Keeps (fun s => s.fld g) ↔
    ((f.hi < 32 ∧ f.lo ≤ f.hi) ∧ (g.off ≠ f.off ∨ f.hi < g.lo ∨ g.hi < f.lo)) ∨
      Anyway ((Prog.setFld f v).Keeps (fun s => s.fld g)) (fun _ => true) := iff_or_anyway (Prog.keeps_fld_setFld v)
@[simp] theorem Prog.keeps_fld_setFlag_iff {f g : Fld} (b : Bool) : (Prog.setFlag f b).Keeps (fun s => s.fld g) ↔
    ((f.hi < 32 ∧ f.lo ≤ f.hi) ∧ (g.off ≠ f.off ∨ f.hi < g.lo ∨ g.hi < f.lo)) ∨
      Anyway ((Prog.setFlag f b).Keeps (fun s => s.fld g)) (fun _ => true) := iff_or_anyway (Prog.keeps_fld_setFld _)
@[simp] theorem Prog.keeps_fld_count_iff {f g : Fld} (n : Nat) : (Prog.count f n).Keeps (fun s => s.fld g) ↔
    ((f.hi < 32 ∧ f.lo ≤ f.hi) ∧ (g.off ≠ f.off ∨ f.hi < g.lo ∨ g.hi < f.lo)) ∨
      Anyway ((Prog.count f n).Keeps (fun s => s.fld g)) (fun _ => true) :=
  iff_or_anyway fun h s hs => Prog.keeps_fld_setFld _ h s hs
@[simp] theorem Prog.keeps_fld_setReg_iff {off : Nat} {g : Fld} (v : Word) :
    (Prog.setReg off v).Keeps (fun s => s.fld g) ↔
      g.off ≠ off ∨ Anyway ((Prog.setReg off v).Keeps (fun s => s.fld g)) (fun _ => true) :=
  iff_or_anyway fun h s hs => State.fld_store_other s off v g hs h
@[simp] theorem Prog.keeps_fld_act {a : Act} (h : a.KeepsRegs) (g : Fld) : (Prog.act a).Keeps (fun s => s.fld g) :=
  fun s _ => State.fld_apply h s g
@[simp] theorem Prog.keeps_fld_raiseAt (e : Nat) (t : Time) (g : Fld) : (Prog.raiseAt e t).Keeps (fun s => s.fld g) :=
  fun _ _ => rfl
@[simp] theorem Prog.keeps_fld_raise (e : Nat) (g : Fld) : (Prog.raise e).Keeps (fun s => s.fld g) :=
  fun _ _ => rfl

end Sys2Proof.Machine
end

section
/-! PROOF. Housekeeping and power (R546 to R558): the sampling round, the thermal shutdown, power-off and the end of the
shutdown BIST. -/

namespace Sys2Proof.Machine

/-! ### Thermal shutdown and power-off -/

theorem completes_thermalTrip (s : State) : Completes .thermalTrip s (fun t =>
    t.hkp.tripped = true ∧ t.pins.thermTripN = false ∧ t.pins.aplOut = [] ∧ t.ctl.inReset = true ∧
    t.apl.lineIdle = true ∧ (∀ l ∈ t.sds.lanes, l.st = .off) ∧ Frame [.hkp, .apl, .pins, .sds, .ctl] [] s t) := by
  have hstop : (bistStop false).Only (Act.Within [.hkp, .apl, .pins, .sds, .ctl] []) := by
    refine fun s => Prog.only_when _ ⟨by simp [Act.Within], ?_⟩
    split
    · simp [powerOffAck, Act.Within]
    · split <;> trivial
  refine ⟨_, rfl, ?_, ?_, ?_, ?_, ?_, ?_, ?_⟩
  case refine_6 => simp
  case refine_7 => exact Prog.Does.frame_noRegs (by simp [hstop.does, Act.Within])
  all_goals simp

theorem completes_powerOffRequest (s : State) (n : Nat) :
    (n < 1000 → Completes (.powerOffRequest n) s (fun t => t = s)) ∧
    (1000 ≤ n → s.hkp.bist = none →
      (s.flag F.HKP_CTRL_BIST_EN = false ∨ s.hkp.tripped = true → Completes (.powerOffRequest n) s (fun t =>
        t.hkp.pwrOff = true ∧ t.pins.pwrOffAck = true ∧ t.ctl.inReset = true ∧ Frame [.hkp, .pins, .ctl] [] s t)) ∧
      (s.flag F.HKP_CTRL_BIST_EN = true → s.hkp.tripped = false → Completes (.powerOffRequest n) s (fun t =>
        t.hkp.pwrOff = true ∧ t.hkp.bist = some (BitVec.ofNat 16 (s.fld (F.HKP_CH_VALUE 0))) ∧ t.apl.stopped = true ∧
        t.pins.pwrOffAck = s.pins.pwrOffAck ∧ Frame [.hkp, .apl, .pins] [] s t))) := by
  refine ⟨fun hn => ⟨_, rfl, by simp [hn]⟩, fun hn hbist => ⟨fun hoff => ?_, fun hen htrip => ?_⟩⟩
  · have hack : ¬ (s.flag F.HKP_CTRL_BIST_EN = true ∧ s.hkp.tripped = false) := by
      rcases hoff with h | h <;> simp [h]
    refine ⟨_, rfl, ?_, ?_, ?_, Prog.Does.frame_noRegs ?_⟩
    all_goals simp [hn, hbist, hack, powerOffAck, Act.Within]
  · refine ⟨_, rfl, ?_, ?_, ?_, ?_, Prog.Does.frame_noRegs ?_⟩
    case refine_5 => simp [hn, hbist, hen, htrip, bistStart, Act.Within]
    all_goals cases hidle : s.apl.lineIdle <;> simp [hn, hbist, hen, htrip, hidle, bistStart]

/-- The record of the BIST that ended goes into one of the two copies (R534, R556). -/
theorem exists_bistRec_mem_run_writeRec (r : BistRec) (s : State) (h : s.hkp.recs.length = 2) :
    ∃ q : BistRec, q.bytes ∈ ((writeRec r).run s).hkp.recs ∧ q.result = r.result ∧ q.item = r.item ∧
      q.detail = r.detail ∧ q.bundleId = r.bundleId ∧ q.temp = r.temp := by
  let q : BistRec := { r with seq := match s.bistRec with | some q => q.seq + 1 | none => 1 }
  have htarget : (match currentRec s.hkp.recs with | some 0 => 1 | _ => 0) < s.hkp.recs.length := by
    rw [h]
    split <;> omega
  exact ⟨q, List.mem_set htarget q.bytes, rfl, rfl, rfl, rfl, rfl⟩

theorem completes_bistDone (s : State) (item : Nat) (detail temp : BitVec 16) (p : BootPtr) (stamp : Time)
    (hawake : s.Awake) (hbist : s.hkp.bist = some temp) (hptr : s.ptr = some p) (hrecs : s.hkp.recs.length = 2)
    (hoff : s.hkp.pwrOff = true) : Completes (.bistDone item detail true stamp) s (fun t =>
      t.hkp.bist = none ∧ t.pins.pwrOffAck = true ∧ t.ctl.inReset = true ∧ Pended 35 s t ∧
      (∃ r : BistRec, r.bytes ∈ t.hkp.recs ∧ r.result = (if item = 0 then 1 else 2) ∧ r.item = item ∧
        r.detail = detail ∧ r.bundleId = p.activeId ∧ r.temp = temp) ∧
      Frame [.hkp, .pins, .ctl] [] s t) := by
  refine Completes.of_go rfl hawake ⟨?_, ?_, ?_, ?_, ?_, Prog.Does.frame_noRegs ?_⟩
  case refine_5 =>
    have hrec := exists_bistRec_mem_run_writeRec { result := if item = 0 then 1 else 2, item := item, detail := detail
                                                   bundleId := p.activeId, temp := temp } s hrecs
    simpa [hbist, hptr, hoff, afterBist, powerOffAck, writeRec] using hrec
  all_goals simp [hbist, hptr, hoff, afterBist, powerOffAck, writeRec, Pended, Act.Within]

/-- Settles O21, command by command. -/
theorem shutDowns : Obligations.ShutDowns := by
  refine fun s => ⟨completes_thermalTrip s, fun n => (completes_powerOffRequest s n).1, 
    fun n => (completes_powerOffRequest s n).2, ?_⟩
  exact fun item detail temp p stamp => completes_bistDone s item detail temp p stamp

/-! ### The sampling round -/

theorem HKP_CH_ne_SUPPLY (c : Nat) : R.HKP_CH c ≠ R.HKP_SUPPLY := by
  unfold R.HKP_CH R.HKP_SUPPLY
  omega

theorem HKP_CH_inj {a b : Nat} : R.HKP_CH a = R.HKP_CH b ↔ a = b := by
  unfold R.HKP_CH
  omega

theorem HKP_CH_notMem {c : Nat} {l : List Nat} (h : c ∉ l) : R.HKP_CH c ∉ R.HKP_SUPPLY :: l.map R.HKP_CH := by
  simp [HKP_CH_ne_SUPPLY, HKP_CH_inj, h]

/-- A supply reading within 6 percent is stored, with at most a warning (R549). -/
theorem run_takeSupply (c : Nat) (v : BitVec 16) (stamp : Time) (s : State) (hwf : s.Canon)
    (hnear : beyond 6 c v = false) :
    ((takeSupply c v stamp).run s).fld (F.HKP_CH_VALUE c) = v.toNat ∧
      ((takeSupply c v stamp).run s).hkp.diode = s.hkp.diode ∧
      ((takeSupply c v stamp).run s).hkp.channel = s.hkp.channel ∧
      Frame [.hkp, .ctl] [R.HKP_SUPPLY, R.HKP_CH c] s ((takeSupply c v stamp).run s) := by
  refine ⟨?_, ?_, ?_, Prog.Does.frame ?_ hwf⟩
  case refine_4 => simp [takeSupply, hnear, Act.Within, F.HKP_CH_VALUE, F.HKP_SUPPLY_WARN]
  all_goals
    have hlt := v.isLt
    cases hwarn : beyond 3 c v && !s.hkp.over3.getLsbD c <;>
      simp [takeSupply, hnear, hwarn, hwf, Prog.run_setFld, F.HKP_CH_VALUE, F.HKP_SUPPLY_WARN, HKP_CH_ne_SUPPLY c,
        (HKP_CH_ne_SUPPLY c).symm, getBits_putBits]
  all_goals exact hlt

/-- Supply readings within 6 percent are all stored, one after the other (R549). -/
theorem run_each_takeSupply (l : List Nat) (v : Nat → BitVec 16) (stamp : Time) (s : State)
    (hwf : s.Canon) (hl : l.Nodup) (hnear : ∀ c ∈ l, beyond 6 c (v c) = false) :
    let t := (Prog.each l (fun c => takeSupply c (v c) stamp)).run s
    (∀ c ∈ l, t.fld (F.HKP_CH_VALUE c) = (v c).toNat) ∧ t.hkp.diode = s.hkp.diode ∧ t.hkp.channel = s.hkp.channel ∧
      Frame [.hkp, .ctl] (R.HKP_SUPPLY :: l.map R.HKP_CH) s t := by
  induction l generalizing s with
  | nil => exact ⟨by simp, rfl, rfl, Frame.refl _ _ s⟩
  | cons c l ih =>
    obtain ⟨hc, hl⟩ := List.nodup_cons.1 hl
    obtain ⟨hval, hdiode, hchan, hframe⟩ := run_takeSupply c (v c) stamp s hwf (hnear c List.mem_cons_self)
    obtain ⟨ihval, ihdiode, ihchan, ihframe⟩ := ih ((takeSupply c (v c) stamp).run s) (hwf.run _) hl
      (fun x hx => hnear x (List.mem_cons_of_mem c hx))
    rw [Prog.run_each_cons]
    refine ⟨fun x hx => ?_, ihdiode.trans hdiode, ihchan.trans hchan, ?_⟩
    · rcases List.mem_cons.1 hx with rfl | hx
      · exact (ihframe.fld (F.HKP_CH_VALUE x) (HKP_CH_notMem hc)).trans hval
      · exact ihval x hx
    · exact (hframe.mono (fun _ h => h) (by simp)).trans (ihframe.mono (fun _ h => h) (by simp +contextual))

/-- A plausible diode reading below 110 degrees is loaded, with its band (R547, R550). -/
theorem run_acceptDiode (r : BitVec 16) (stamp : Time) (s : State) (hwf : s.Canon)
    (hcool : r.toInt < 1760) :
    let t := (acceptDiode r stamp).run s
    t.hkp.diode = some r ∧ t.hkp.channel = s.hkp.channel ∧ t.fld F.HKP_TEMP_T = r.toNat ∧
      t.fld F.HKP_TEMP_VALID = 1 ∧ t.fld F.HKP_TEMP_BAND = dieBand (s.fld F.HKP_TEMP_BAND) r.toInt % 4 ∧
      t.fld (F.HKP_CH_VALUE 0) = r.toNat := by
  have hlt : r.toNat < 2 ^ 16 := r.isLt
  have hmod : s.fld F.HKP_TEMP_BAND % 4 = s.fld F.HKP_TEMP_BAND := Nat.mod_eq_of_lt (s.fld_lt F.HKP_TEMP_BAND)
  have hcold : ¬ (1760 ≤ r.toInt) := by omega
  have hrecal (t : State) (f : Fld) : ((recalCheck r.toInt).run t).fld f = t.fld f := by simp [recalCheck]
  have hrecalHkp (t : State) : ((recalCheck r.toInt).run t).hkp = t.hkp := by simp [recalCheck]
  simp only [acceptDiode, Prog.run_dyn, Prog.run_block_cons, Prog.run_block_nil, Prog.run_when, if_neg hcold]
  generalize (s.hkp.maxFresh || decide ((BitVec.ofNat 16 (s.fld F.HKP_TEMP_MAX_T)).toInt < r.toInt)) = top
  by_cases hsame : dieBand (s.fld F.HKP_TEMP_BAND) r.toInt = s.fld F.HKP_TEMP_BAND
  case pos =>
    cases top <;>
      simp +decide [hrecal, hrecalHkp, hwf, Prog.run_setFld, hsame, hmod, getBits_putBits, getBits_putBits_other]
    all_goals exact ⟨Nat.mod_eq_of_lt hlt, rfl, Nat.mod_eq_of_lt hlt⟩
  case neg =>
    cases top <;>
      simp +decide [hrecal, hrecalHkp, hwf, Prog.run_setFld, hsame, getBits_putBits, getBits_putBits_other]
    all_goals exact ⟨Nat.mod_eq_of_lt hlt, rfl, Nat.mod_eq_of_lt hlt⟩

/-- A plausible round is judged: the diode is loaded, and every channel's value (R547 to R550). -/
theorem run_judgeRound (l : List (BitVec 16)) (r : BitVec 16) (stamp : Time) (s : State) (hwf : s.Canon)
    (hr : l.getD 0 0 = r) (hcool : r.toInt < 1760) (hvalid : roundInvalid l = false) (hplausible : s.implausible r = false)
    (hnear : ∀ c, 1 ≤ c → c ≤ 9 → beyond 6 c (l.getD c 0) = false) :
    let t := (judgeRound l stamp).run s
    t.hkp.channel = s.hkp.channel ∧ t.hkp.diode = some r ∧ t.fld F.HKP_TEMP_T = r.toNat ∧
      t.fld F.HKP_TEMP_VALID = 1 ∧ t.fld F.HKP_TEMP_BAND = dieBand (s.fld F.HKP_TEMP_BAND) r.toInt % 4 ∧
      ∀ c, c ≤ 11 → t.fld (F.HKP_CH_VALUE c) = (l.getD c 0).toNat := by
  let u := (Act.hkp (fun h => { h with invalidRound := false })).apply s
  have hu : u.Canon := hwf.apply _
  let a := (acceptDiode r stamp).run u
  have ha : a.Canon := hu.run _
  let b := (Prog.each ((List.range 10).drop 1) (fun c => takeSupply c (l.getD c 0) stamp)).run a
  have hb : b.Canon := ha.run _
  have hrun : (judgeRound l stamp).run s = (Prog.setFld (F.HKP_CH_VALUE 11) (l.getD 11 0).toNat).run
      ((Prog.setFld (F.HKP_CH_VALUE 10) (l.getD 10 0).toNat).run b) := by
    have hplausible' : u.implausible r = false := hplausible
    simp only [judgeRound, takeDiode, hr, Prog.run_dyn, hvalid, Prog.run_block_cons, Prog.run_block_nil,
      Prog.run_act, Bool.false_eq_true, if_false]
    rw [hplausible']
    rfl
  obtain ⟨hdiode, hchan, htemp, htempValid, hband, hch0⟩ := run_acceptDiode r stamp u hu hcool
  obtain ⟨hsupply, hdiode', hchan', hframe⟩ := run_each_takeSupply ((List.range 10).drop 1) (fun c => l.getD c 0) stamp a
    ha (by decide) (fun c hc => hnear c (by fin_cases hc <;> decide) (by fin_cases hc <;> decide))
  have hsame (x c : Nat) (t : State) (ht : t.Canon) (hx : x < 2 ^ 16) :
      ((Prog.setFld (F.HKP_CH_VALUE c) x).run t).fld (F.HKP_CH_VALUE c) = x :=
    (Prog.run_setFld_same _ _ t ht (show 15 < 32 by decide) (Nat.zero_le _)).trans (Nat.mod_eq_of_lt hx)
  have hskip (x c : Nat) (f : Fld) (t : State) (ht : t.Canon) (hf : f.off ≠ R.HKP_CH c) :
      ((Prog.setFld (F.HKP_CH_VALUE c) x).run t).fld f = t.fld f :=
    Prog.run_setFld_other _ _ _ t ht (show 15 < 32 by decide) (Nat.zero_le _) (.inl hf)
  have hother (f : Fld) (h11 : f.off ≠ R.HKP_CH 11) (h10 : f.off ≠ R.HKP_CH 10)
      (hf : f.off ∉ R.HKP_SUPPLY :: ((List.range 10).drop 1).map R.HKP_CH) :
      ((judgeRound l stamp).run s).fld f = a.fld f := by
    rw [hrun, hskip _ _ _ _ (hb.run _) h11, hskip _ _ _ _ hb h10, hframe.fld f hf]
  have hhkp : ((judgeRound l stamp).run s).hkp = b.hkp := by rw [hrun]; rfl
  refine ⟨by rw [hhkp]; exact hchan'.trans hchan, by rw [hhkp]; exact hdiode'.trans hdiode,
    (hother _ (by decide) (by decide) (by decide)).trans htemp,
    (hother _ (by decide) (by decide) (by decide)).trans htempValid,
    (hother _ (by decide) (by decide) (by decide)).trans hband, fun c hc => ?_⟩
  have hne {c d : Nat} (h : c ≠ d) : (F.HKP_CH_VALUE c).off ≠ R.HKP_CH d := fun e => h (HKP_CH_inj.1 e)
  rcases (by omega : c = 11 ∨ c = 10 ∨ c = 0 ∨ 1 ≤ c ∧ c ≤ 9) with rfl | rfl | rfl | ⟨hlo, hhi⟩
  · rw [hrun]
    exact hsame _ _ _ (hb.run _) (l.getD 11 0).isLt
  · rw [hrun, hskip _ _ _ _ (hb.run _) (hne (by decide))]
    exact hsame _ _ _ hb (l.getD 10 0).isLt
  · rw [hother _ (hne (by decide)) (hne (by decide)) (HKP_CH_notMem (by decide)), hch0, hr]
  · rw [hrun, hskip _ _ _ _ (hb.run _) (hne (by omega)), hskip _ _ _ _ hb (hne (by omega))]
    refine hsupply c ?_
    interval_cases c <;> decide

theorem completes_housekeepingSample_other (s : State) (v : BitVec 16) (stamp : Time) (hlt : s.hkp.channel < 15)
    (hne : s.hkp.channel ≠ 11) : Completes (.housekeepingSample v stamp) s (fun t =>
      t = { s with hkp := { s.hkp with channel := s.hkp.channel + 1, round := s.hkp.round ++ [v] } }) :=
  ⟨_, rfl, by simp [hlt, hne]; rfl⟩

theorem completes_housekeepingSample_last (s : State) (v : BitVec 16) (stamp : Time) (hwf : s.Canon)
    (hlast : s.hkp.channel = 15) (hvalid : s.hkp.invalidRound = false) :
    Completes (.housekeepingSample v stamp) s (fun t =>
      t.hkp.channel = 0 ∧ t.hkp.round = [] ∧
      t.fld F.HKP_ROUND_COUNT = (s.fld F.HKP_ROUND_COUNT + 1) % 2 ^ (F.HKP_ROUND_COUNT.hi + 1 - F.HKP_ROUND_COUNT.lo) ∧
      Frame [.hkp] [R.HKP_ROUND] s t) := by
  refine ⟨_, rfl, ?_, ?_, ?_, Prog.Does.frame ?_ hwf⟩
  case refine_4 => simp +decide [hlast, hvalid, Act.Within]
  all_goals simp +decide [hlast, hvalid, hwf, Prog.countWrap, Prog.run_setFld, getBits_putBits]

theorem completes_housekeepingSample_judged (s : State) (v r : BitVec 16) (stamp : Time) (hwf : s.Canon)
    (hchan : s.hkp.channel = 11) (hr : s.hkp.round.getD 0 0 = r) (hlen : s.hkp.round.length = 11) (hcool : r.toInt < 1760)
    (hvalid : roundInvalid (s.hkp.round ++ [v]) = false) (hplausible : s.implausible r = false)
    (hnear : ∀ c, 1 ≤ c → c ≤ 9 → beyond 6 c (s.hkp.round.getD c 0) = false) :
    Completes (.housekeepingSample v stamp) s (fun t =>
      t.hkp.channel = 12 ∧ t.hkp.diode = some r ∧ t.fld F.HKP_TEMP_T = r.toNat ∧ t.fld F.HKP_TEMP_VALID = 1 ∧
      t.fld F.HKP_TEMP_BAND = dieBand (s.fld F.HKP_TEMP_BAND) r.toInt % 4 ∧
      (∀ c, c ≤ 11 → t.fld (F.HKP_CH_VALUE c) = ((s.hkp.round ++ [v]).getD c 0).toNat)) := by
  let u := (Act.hkp (fun h => { h with channel := s.hkp.channel + 1, round := s.hkp.round ++ [v] })).apply s
  have hget (c : Nat) (hc : c ≤ 10) : (s.hkp.round ++ [v]).getD c 0 = s.hkp.round.getD c 0 := by
    rw [List.getD_append _ _ _ _ (by omega)]
  have hjudge := run_judgeRound (s.hkp.round ++ [v]) r stamp u (hwf.apply _) ((hget 0 (by omega)).trans hr) hcool hvalid
    hplausible (fun c h1 h9 => by rw [hget c (by omega)]; exact hnear c h1 h9)
  refine ⟨_, rfl, ?_⟩
  have hchan' : u.hkp.channel = 12 := by simp [u, hchan]
  obtain ⟨h1, hrest⟩ := hjudge
  have hrun : (Prog.block [Prog.act (.hkp (fun h => { h with channel := s.hkp.channel + 1, round := s.hkp.round ++ [v] })),
      Prog.when (s.hkp.channel == 11) (judgeRound (s.hkp.round ++ [v]) stamp)]).run s =
      (judgeRound (s.hkp.round ++ [v]) stamp).run u := by
    simp [hchan, u]
  simp only [Prog.run_dyn, hchan, show (11 < 15) = True by simp, if_true] at hrun ⊢
  rw [hrun]
  exact ⟨h1.trans hchan', hrest⟩

/-- Settles O20, by the channel that the sample belongs to. -/
theorem housekeepingRounds : Obligations.HousekeepingRounds := by
  intro s v stamp hinv
  exact ⟨completes_housekeepingSample_other s v stamp, completes_housekeepingSample_last s v stamp hinv.canon,
    fun r => completes_housekeepingSample_judged s v r stamp hinv.canon⟩

end Sys2Proof.Machine
end

section
/-! PROOF. Register accesses (Table 0.5, R12 to R14, R207, R564): what an accepted write stores, which accesses are commands,
and what a read answers and does. -/

namespace Sys2Proof.Machine

/-! ### Accesses that are commands -/

/-- A write that no rule discards runs its effect. -/
theorem exec_registerWrite_accepted {off : Nat} {row : RegRow} {v : Word} {stamp : Time} {s : State} {p : Prog}
    (hrow : findReg off = some row) (halign : off % 4 = 0) (hres : reservedWrite row v = false)
    (hwin : s.windowReserved off v = false) (hrun : (writeEffect off row v stamp).run s = p.run s) :
    exec (.registerWrite off 4 v stamp) s = .next (p.at_ off s) := by
  have heq : (writeProg off 4 v stamp).run s = p.run s := by
    simp [writeProg, halign, hrow, hres, hwin, hrun]
  rw [exec_registerWrite]
  unfold Prog.at_ Prog.go
  rw [heq]

theorem findReg_CPX_RESET : findReg R.CPX_RESET =
    some { off := 4, flds := [⟨1, 0, .wo, 0, .oneOf [1, 2], .none⟩, ⟨31, 16, .wo, 0, .any, .none⟩] } := by decide +kernel

theorem findReg_CPX_EV_RAISE : findReg R.CPX_EV_RAISE =
    some { off := 32, flds := [⟨9, 0, .wo, 0, .range 480 639, .none⟩] } := by decide +kernel

/-- A register all of whose encodings count. -/
theorem reservedWrite_of_any {row : RegRow} (h : ∀ f ∈ row.flds, f.valid = .any) (v : Word) : reservedWrite row v = false := by
  simp only [reservedWrite, List.any_eq_false]
  intro f hf
  simp [h f hf, Valid.holds]

/-- A register of block SEC to COL, LYR or APL that takes every value and has no window runs the program of its command. -/
theorem exec_registerWrite_any {off : Nat} {v : Word} {stamp : Time} {s : State} {p : Prog}
    (hrow : ∃ row, findReg off = some row ∧ (∀ f ∈ row.flds, f.valid = .any) ∧
      (writeEffect off row v stamp).run s = p.run s) (halign : off % 4 = 0) (hblock : off / 0x100000 ≠ 6) :
    exec (.registerWrite off 4 v stamp) s = .next (p.at_ off s) := by
  obtain ⟨row, hrow, hany, hrun⟩ := hrow
  exact exec_registerWrite_accepted hrow halign (reservedWrite_of_any hany v) (by simp [State.windowReserved, hblock]) hrun

theorem exec_write_CPX_RESET (s : State) (v : Word) (stamp : Time) (hkey : getBits v 31 16 = 0x5A5A)
    (haction : getBits v 1 0 = 1 ∨ getBits v 1 0 = 2) : exec (.registerWrite R.CPX_RESET 4 v stamp) s =
      .next ((if getBits v 1 0 = 1 then warmRequest 0x10 stamp else cpxRestartProg stamp).go s) := by
  refine exec_registerWrite_accepted findReg_CPX_RESET rfl ?_ rfl ?_
  · rcases haction with h | h <;> simp [reservedWrite, Valid.holds, h]
  · simp [writeEffect, controlWrite, cpxResetWrite, hkey, R.CPX_RESET]

theorem exec_write_CPX_EV_RAISE (s : State) (v : Word) (stamp : Time) (hlo : 480 ≤ getBits v 9 0)
    (hhi : getBits v 9 0 < 640) : exec (.registerWrite R.CPX_EV_RAISE 4 v stamp) s =
      exec (.swEventRaise (getBits v 9 0) stamp) s := by
  refine exec_registerWrite_accepted findReg_CPX_EV_RAISE rfl ?_ rfl ?_
  · simp [reservedWrite, Valid.holds, hlo, Nat.le_of_lt_succ hhi]
  · simp [writeEffect, controlWrite, R.CPX_EV_RAISE, R.CPX_RESET, hlo, hhi]

theorem exec_write_SEC_EXT_GO (s : State) (v : Word) (stamp : Time) (hgo : bitOf v.toNat 8 = true) :
    exec (.registerWrite R.SEC_EXT_GO 4 v stamp) s = exec (.measurementExtend (BitVec.ofNat 2 (getBits v 1 0))) s := by
  refine exec_registerWrite_any (p := extendProg (BitVec.ofNat 2 (getBits v 1 0)).toNat)
    ⟨{ off := 12, flds := [⟨1, 0, .wo, 0, .any, .none⟩, ⟨8, 8, .wo, 0, .any, .none⟩] }, by decide +kernel, by simp, ?_⟩ rfl
    (by decide)
  have hmod : getBits v 1 0 % 4 = getBits v 1 0 := Nat.mod_eq_of_lt (getBits_lt v 1 0)
  simp [writeEffect, controlWrite, R.SEC_EXT_GO, R.CPX_RESET, R.CPX_EV_RAISE, hgo, extendProg, hmod]

theorem exec_write_LYR_COMMIT (s : State) (v : Word) (stamp : Time) (hgo : bitOf v.toNat 0 = true) :
    exec (.registerWrite R.LYR_COMMIT 4 v stamp) s = exec (.layerCommitGo stamp) s := by
  refine exec_registerWrite_any (p := layerCommitProg stamp)
    ⟨{ off := 8, flds := [⟨0, 0, .wo, 0, .any, .none⟩] }, by decide +kernel, by simp, ?_⟩ rfl (by decide)
  have hpipe (row : RegRow) : writeEffect R.LYR_COMMIT row v stamp = .when (bitOf v.toNat 0) (layerCommitProg stamp) := rfl
  simp [hpipe, hgo]

theorem exec_write_APL_REQ_GO (s : State) (v : Word) (stamp : Time) (hgo : bitOf v.toNat 0 = true) :
    exec (.registerWrite R.APL_REQ_GO 4 v stamp) s = exec (.aplRequestGo (bitOf v.toNat 1)) s := by
  let p : Prog := .dyn (fun s => submitRequest (s.reg R.APL_REQ_RECT) (s.reg R.APL_REQ_FSN) (bitOf v.toNat 1)
    (s.addr F.APL_REQ_BUF_LO_ADDR_LO F.APL_REQ_BUF_HI_ADDR_HI))
  have hlink (row : RegRow) : writeEffect R.APL_REQ_GO row v stamp = .when (bitOf v.toNat 0) p := rfl
  exact exec_registerWrite_any (p := p)
    ⟨{ off := 32, flds := [⟨0, 0, .wo, 0, .any, .none⟩, ⟨1, 1, .wo, 0, .any, .none⟩] }, by decide +kernel, by simp,
      by simp [hlink, hgo]⟩ rfl (by decide)

theorem exec_write_BIN_BOUNDS_LO (s : State) (v : Word) (stamp : Time) :
    exec (.registerWrite R.BIN_BOUNDS_LO 4 v stamp) s = exec (.binBoundsWrite false v stamp) s :=
  exec_registerWrite_any (p := tableWrite .bounds (boolNat false) v stamp)
    ⟨{ off := 8, flds := [⟨31, 12, .rws, 0, .any, .none⟩] }, by decide +kernel, by simp, rfl⟩ rfl (by decide)

theorem exec_read_TIM_CAP_NS (s : State) (stamp : Time) (ch : Nat) (hch : ch < 9) :
    exec (.pairLowRead (R.TIM_CAP_NS ch) 4 stamp) s = exec (.captureRead ch) s := by
  have haligned : R.TIM_CAP_NS ch % 4 = 0 := by unfold R.TIM_CAP_NS; omega
  have haon : aonBlock (R.TIM_CAP_NS ch) = false := by
    simp [aonBlock, R.TIM_CAP_NS]
    omega
  have hread : readProg (R.TIM_CAP_NS ch) stamp = captureReadProg ch := by
    have hoff : R.TIM_CAP_NS ch / 0x100000 = 6 ∧ 0x10C ≤ R.TIM_CAP_NS ch % 0x100000 ∧
        (R.TIM_CAP_NS ch % 0x100000 - 0x10C) % 0x20 = 0 ∧ R.TIM_CAP_NS ch % 0x100000 < 0x220 ∧
        (R.TIM_CAP_NS ch % 0x100000 - 0x10C) / 0x20 = ch := by unfold R.TIM_CAP_NS; omega
    obtain ⟨hblock, hge, hstride, hlt, hindex⟩ := hoff
    simp [readProg, hblock, hge, hstride, hlt, hindex]
  rw [exec_pairLowRead]
  simp only [Prog.at_, haon, busRead, haligned, hread]
  rfl

theorem exec_read_CPX_EV_CLAIM (s : State) (stamp : Time) (core : Nat) (hcore : core < 12) :
    exec (.pairLowRead (R.CPX_EV_CLAIM core) 4 stamp) s = exec (.eventClaim core) s := by
  have hlt := CPX_EV_CLAIM_lt hcore
  have haligned : R.CPX_EV_CLAIM core % 4 = 0 := by unfold R.CPX_EV_CLAIM; omega
  have hblock : R.CPX_EV_CLAIM core / 0x100000 = 0 := by omega
  have hnow : R.CPX_EV_CLAIM core ≠ R.TIM_NOW_NS := by unfold R.TIM_NOW_NS; omega
  have hparent : R.CPX_EV_CLAIM core ≠ R.TIM_PARENT := by unfold R.TIM_PARENT; omega
  have hstatus : R.CPX_EV_CLAIM core ≠ R.APL_STATUS := by unfold R.APL_STATUS; omega
  have htemp : R.CPX_EV_CLAIM core ≠ R.APL_TEMP := by unfold R.APL_TEMP; omega
  have hread : readProg (R.CPX_EV_CLAIM core) stamp = readProg (R.CPX_EV_CLAIM core) 0 := by
    simp [readProg, hblock, hnow, hparent, hstatus, htemp, Prog.when]
  have hclaim : exec (.eventClaim core) s = .next ((readProg (R.CPX_EV_CLAIM core) 0).go s) := by
    change Host.Outcome.next ((Prog.when (decide (core < 12)) (readProg (R.CPX_EV_CLAIM core) 0)).go s) = _
    simp [hcore, Prog.when]
  rw [exec_pairLowRead, hclaim]
  simp [Prog.at_, aonBlock, hblock, busRead, haligned, hread]

/-- Settles O12, access by access. -/
theorem startAccessesAreCommands : Obligations.StartAccessesAreCommands := by
  refine fun s v stamp => ⟨fun hkey h => ?_, fun hkey h => ?_, exec_write_CPX_EV_RAISE s v stamp,
    exec_write_SEC_EXT_GO s v stamp, exec_write_LYR_COMMIT s v stamp, exec_write_APL_REQ_GO s v stamp,
    exec_write_BIN_BOUNDS_LO s v stamp, exec_read_TIM_CAP_NS s stamp, exec_read_CPX_EV_CLAIM s stamp⟩
  · rw [exec_write_CPX_RESET s v stamp hkey (.inl h), if_pos h]
    rfl
  · rw [exec_write_CPX_RESET s v stamp hkey (.inr h), if_neg (by omega)]
    rfl

/-! ### Fields of the register map -/

/-- Two fields share no bit. -/
abbrev FldRow.Apart (f g : FldRow) : Prop := f.hi < g.lo ∨ g.hi < f.lo

/-- The fields of a row lie in the word and apart from each other, and reserved fields have no lock. -/
abbrev RegRow.Ok (r : RegRow) : Prop :=
  (∀ f ∈ r.flds, f.hi < 32 ∧ f.lo ≤ f.hi ∧ (f.acc = .rsvd → f.lock = .none)) ∧ r.flds.Pairwise FldRow.Apart

theorem blockRows_ok : ∀ b < 29, ∀ r ∈ blockRows b, r.Ok := by decide +kernel

theorem mem_of_findRow {l : List RegRow} {o : Nat} {r : RegRow} (h : findRow l o = some r) : r ∈ l := by
  induction l with
  | nil => exact absurd h (by simp [findRow])
  | cons x l ih =>
    rw [findRow] at h
    split at h
    · exact (Option.some.inj h) ▸ List.mem_cons_self
    · exact List.mem_cons_of_mem x (ih h)

/-- Every register of the window has its fields apart (R563). -/
theorem findReg_ok {off : Nat} {row : RegRow} (h : findReg off = some row) : row.Ok := by
  have hmem : row ∈ blockRows (off / 0x100000) := mem_of_findRow h
  by_cases hb : off / 0x100000 < 29
  · exact blockRows_ok _ hb row hmem
  · exact absurd hmem (by
      have hnil (b : Nat) (hb : 29 ≤ b) : blockRows b = [] := by
        obtain ⟨k, rfl⟩ := Nat.exists_eq_add_of_le' hb
        rfl
      rw [hnil _ (by omega)]
      exact List.not_mem_nil)

/-! ### Words bit by bit -/

/-- Words that agree on the bits of a field agree on the field. -/
theorem getBits_congr {w w' : Word} {hi lo : Nat} (h : ∀ i, lo ≤ i → i ≤ hi → w.getLsbD i = w'.getLsbD i) :
    getBits w hi lo = getBits w' hi lo := by
  apply Nat.eq_of_testBit_eq
  intro i
  rw [getBits_bit, getBits_bit]
  by_cases hi' : i < hi + 1 - lo
  · rw [h (lo + i) (by omega) (by omega)]
  · simp [hi']

theorem putBits_getBits_bit (w v : Word) (hi lo i : Nat) (h : hi < 32) (hl : lo ≤ hi) :
    (putBits w hi lo (getBits v hi lo)).getLsbD i = if lo ≤ i ∧ i ≤ hi then v.getLsbD i else w.getLsbD i := by
  rw [putBits_bit _ _ _ _ _ h hl]
  split
  case isTrue hc =>
    rw [getBits_bit, Nat.add_sub_cancel' hc.1]
    simp [show i - lo < hi + 1 - lo by omega]
  case isFalse => rfl

/-- The bit that a write of `v` gives an unlocked field of an access code, from the bit it had (Table 0.5). -/
def Acc.bit (a : Acc) (old new : Bool) : Bool :=
  match a with
  | .rw | .rws | .rwl | .wo => new
  | .w1c => old && !new
  | .w1s => old || new
  | _ => old

/-- The bits of a stored word, from the last field to the first: a field covers the words of those behind it. -/
theorem storedWord_cons_bit (s : State) (off : Nat) (v : Word) (f : FldRow) (l : List FldRow) (i : Nat)
    (h : f.hi < 32) (hl : f.lo ≤ f.hi) : (s.storedWord off v (f :: l)).getLsbD i =
      if f.lo ≤ i ∧ i ≤ f.hi ∧ s.locked off f.lock = false then
        f.acc.bit ((s.storedWord off v l).getLsbD i) (v.getLsbD i)
      else (s.storedWord off v l).getLsbD i := by
  by_cases hlock : s.locked off f.lock = true
  · simp [State.storedWord, hlock]
  · have hmask := maskW_bit f.hi f.lo i h hl
    have h32 : i ≤ f.hi → i < 32 := fun _ => by omega
    by_cases hc : f.lo ≤ i ∧ i ≤ f.hi
    · cases hacc : f.acc <;>
        simp [State.storedWord, hlock, hacc, putBits_getBits_bit _ _ _ _ _ h hl, hmask, hc, Acc.bit, h32 hc.2,
          -BitVec.getLsbD_eq_getElem]
    · have hc' : (decide (f.lo ≤ i) && decide (i ≤ f.hi)) = false := by simpa using hc
      have hc'' : ¬ (f.lo ≤ i ∧ i ≤ f.hi ∧ s.locked off f.lock = false) := fun hn => hc ⟨hn.1, hn.2.1⟩
      rw [if_neg hc'']
      by_cases hi32 : i < 32
      · cases hacc : f.acc <;>
          simp [State.storedWord, hlock, hacc, putBits_getBits_bit _ _ _ _ _ h hl, hmask, hc, hc', hi32,
            -BitVec.getLsbD_eq_getElem]
      · rw [BitVec.getLsbD_of_ge _ _ (by omega), BitVec.getLsbD_of_ge _ _ (by omega)]

/-- A bit of no field is stored as it was. -/
theorem storedWord_bit_outside (s : State) (off : Nat) (v : Word) (l : List FldRow) (i : Nat)
    (hok : ∀ f ∈ l, f.hi < 32 ∧ f.lo ≤ f.hi) (hout : ∀ f ∈ l, ¬ (f.lo ≤ i ∧ i ≤ f.hi)) :
    (s.storedWord off v l).getLsbD i = (s.reg off).getLsbD i := by
  induction l with
  | nil => rfl
  | cons f l ih =>
    obtain ⟨⟨h, hl⟩, hok⟩ := List.forall_mem_cons.1 hok
    obtain ⟨hf, hout⟩ := List.forall_mem_cons.1 hout
    rw [storedWord_cons_bit s off v f l i h hl, if_neg (fun hc => hf ⟨hc.1, hc.2.1⟩), ih hok hout]

/-- A bit of a field is stored by the field's access code and lock (Table 0.5). -/
theorem storedWord_bit (s : State) (off : Nat) (v : Word) (l : List FldRow) (f : FldRow) (i : Nat) (hf : f ∈ l)
    (hok : ∀ f ∈ l, f.hi < 32 ∧ f.lo ≤ f.hi) (hapart : l.Pairwise FldRow.Apart) (hlo : f.lo ≤ i) (hhi : i ≤ f.hi) :
    (s.storedWord off v l).getLsbD i = if s.locked off f.lock = true then (s.reg off).getLsbD i
      else f.acc.bit ((s.reg off).getLsbD i) (v.getLsbD i) := by
  induction l with
  | nil => exact absurd hf List.not_mem_nil
  | cons g l ih =>
    obtain ⟨⟨h, hl⟩, hok'⟩ := List.forall_mem_cons.1 hok
    obtain ⟨hg, hapart⟩ := List.pairwise_cons.1 hapart
    rw [storedWord_cons_bit s off v g l i h hl]
    rcases List.mem_cons.1 hf with rfl | hf
    · have hout : ∀ x ∈ l, ¬ (x.lo ≤ i ∧ i ≤ x.hi) := fun x hx => by
        have := hg x hx
        unfold FldRow.Apart at this
        omega
      rw [storedWord_bit_outside s off v l i hok' hout]
      cases hlock : s.locked off f.lock <;> simp [hlo, hhi]
    · have hgf : ¬ (g.lo ≤ i ∧ i ≤ g.hi) := by
        have := hg f hf
        unfold FldRow.Apart at this
        omega
      rw [if_neg (fun hc => hgf ⟨hc.1, hc.2.1⟩)]
      exact ih hf hok' hapart


/-- The bits that the fields of a list leave open: those of no field that is not reserved. -/
theorem foldl_openMask_bit (l : List FldRow) (m : Word) (i : Nat) (hok : ∀ f ∈ l, f.hi < 32 ∧ f.lo ≤ f.hi) :
    (l.foldl (fun m f => if f.acc = .rsvd then m else m ||| maskW f.hi f.lo) m).getLsbD i =
      (m.getLsbD i || l.any (fun f => decide (f.acc ≠ .rsvd) && (decide (f.lo ≤ i) && decide (i ≤ f.hi)))) := by
  induction l generalizing m with
  | nil => simp
  | cons f l ih =>
    obtain ⟨⟨h, hl⟩, hok⟩ := List.forall_mem_cons.1 hok
    rw [List.foldl_cons, ih _ hok, List.any_cons]
    by_cases hacc : f.acc = .rsvd
    · simp [hacc]
    · rw [if_neg hacc, BitVec.getLsbD_or, maskW_bit f.hi f.lo i h hl, decide_eq_true hacc, Bool.true_and, Bool.or_assoc]

/-- A bit of a field is open exactly where the field is reserved. -/
theorem openMask_bit {row : RegRow} (hok : row.Ok) {f : FldRow} (hf : f ∈ row.flds) {i : Nat} (hlo : f.lo ≤ i)
    (hhi : i ≤ f.hi) : (openMask row).getLsbD i = decide (f.acc = .rsvd) := by
  obtain ⟨hin, hapart⟩ := hok
  have h32 : i < 32 := by have := (hin f hf).1; omega
  unfold openMask
  rw [BitVec.getLsbD_not, foldl_openMask_bit _ _ _ fun g hg => ⟨(hin g hg).1, (hin g hg).2.1⟩]
  by_cases hacc : f.acc = .rsvd
  · have hnone : row.flds.any (fun g => decide (g.acc ≠ .rsvd) && (decide (g.lo ≤ i) && decide (i ≤ g.hi))) = false := by
      rw [List.any_eq_false]
      intro g hg hc
      simp only [Bool.and_eq_true, decide_eq_true_eq] at hc
      obtain ⟨hgacc, hglo, hghi⟩ := hc
      have hne : f ≠ g := fun e => hgacc (e ▸ hacc)
      have hsymm : Std.Symm FldRow.Apart := ⟨fun _ _ h => h.symm⟩
      have := hapart.forall hf hg hne
      unfold FldRow.Apart at this
      omega
    rw [hnone]
    simp [hacc, h32]
  · have hany : row.flds.any (fun g => decide (g.acc ≠ .rsvd) && (decide (g.lo ≤ i) && decide (i ≤ g.hi))) = true :=
      List.any_eq_true.2 ⟨f, hf, by simp [hacc, hlo, hhi]⟩
    rw [hany]
    simp [hacc]

/-- The word that an accepted write of a register leaves, with the reserved bits that are checked at use (R237, R337). -/
def State.writtenWord (s : State) (off : Nat) (row : RegRow) (v : Word) : Word :=
  if keepsReserved off then (s.storedWord off v row.flds &&& ~~~(openMask row)) ||| (v &&& openMask row)
  else s.storedWord off v row.flds

theorem storeProg_eq (off : Nat) (row : RegRow) (v : Word) (stamp : Time) (s : State) : (storeProg off row v stamp).run s =
    ((Prog.setReg off (s.writtenWord off row v)).seq (.when (waitsForCommit off row)
      (.act (.rws (fun l => l ++ [{ off := off, value := s.writtenWord off row v, stamp := stamp }]))))).run s := rfl

/-- Each field of a written word, by its access code and lock (Table 0.5). -/
theorem getBits_writtenWord {s : State} {off : Nat} {row : RegRow} {v : Word} {f : FldRow} (hok : row.Ok)
    (hf : f ∈ row.flds) (w : Word)
    (h : ∀ i, f.lo ≤ i → i ≤ f.hi → w.getLsbD i = if f.acc = .rsvd ∧ keepsReserved off = true then v.getLsbD i
      else if s.locked off f.lock = true then (s.reg off).getLsbD i
      else f.acc.bit ((s.reg off).getLsbD i) (v.getLsbD i)) :
    getBits (s.writtenWord off row v) f.hi f.lo = getBits w f.hi f.lo := by
  refine getBits_congr fun i hlo hhi => ?_
  have h32 : i < 32 := by have := (hok.1 f hf).1; omega
  rw [h i hlo hhi]
  have hstored := storedWord_bit s off v row.flds f i hf (fun g hg => ⟨(hok.1 g hg).1, (hok.1 g hg).2.1⟩) hok.2 hlo hhi
  have hopen := openMask_bit hok hf hlo hhi
  unfold State.writtenWord
  by_cases hkeep : keepsReserved off = true
  · rw [if_pos hkeep]
    by_cases hacc : f.acc = .rsvd
    · simp [hopen, hacc, hkeep, h32, -BitVec.getLsbD_eq_getElem]
    · simp [hopen, hacc, h32, hstored, -BitVec.getLsbD_eq_getElem]
  · rw [if_neg hkeep, hstored]
    simp [hkeep]

/-- The write of a register that only stores stores the written word, and queues it where it waits (R237). -/
theorem run_writeEffect_plain {off : Nat} {row : RegRow} {v : Word} {stamp : Time} {s : State}
    (h : plainRegister off = true) : (writeEffect off row v stamp).run s = (storeProg off row v stamp).run s := by
  simp only [plainRegister, Bool.and_eq_true, Bool.not_eq_true', Bool.and_eq_false_iff, Bool.or_eq_false_iff,
    decide_eq_false_iff_not, List.contains_eq_mem, List.mem_cons, List.not_mem_nil, or_false, not_or] at h
  obtain ⟨⟨⟨⟨⟨hcommands, hpend⟩, hthk⟩, hgrv⟩, hsds⟩, hmet⟩ := h
  unfold writeEffect
  extract_lets block
  simp only [Bool.or_eq_true, Bool.and_eq_true, decide_eq_true_eq, block]
  split
  case isTrue hblock =>
    have hpend' : ¬ (8192 ≤ off ∧ off < 9728) := by clear hcommands; omega
    have hgrv' : off / 1048576 ≠ 11 := by clear hcommands; omega
    simp [controlWrite, hcommands, hpend', hgrv']
  split
  case isTrue hgroves => exact absurd hgrv (by clear hcommands; omega)
  split
  case isTrue _ =>
    have hdir : off ≠ R.GRV_DIR_LO ∧ off ≠ R.GRV_DIR_HI := by
      clear hcommands
      unfold R.GRV_DIR_LO R.GRV_DIR_HI
      omega
    have htail : ¬ ((off / 1048576 = 9 ∧ 256 ≤ off % 1048576) ∧ off % 1048576 % 256 = 12) := by clear hcommands; omega
    have hctrl : ¬ ((off / 1048576 = 9 ∧ 256 ≤ off % 1048576) ∧ off % 1048576 % 256 = 8) := by clear hcommands; omega
    simp [pipeWrite, hcommands, hdir, htail, hctrl, -Nat.mod_mod_of_dvd]
  case isFalse _ =>
    have hlctrl : ¬ (off / 1048576 = 24 ∧ 4096 ≤ off % 1048576) := by clear hcommands; omega
    have hmet' : ¬ (off / 1048576 = 26 ∧ 256 ≤ off % 1048576 ∧ off % 1048576 < 512) := by clear hcommands; omega
    have htap : ¬ (off / 1048576 = 26 ∧ 768 ≤ off % 1048576 ∧ off % 1048576 < 896) := by clear hcommands; omega
    simp [linkWrite, hcommands, hlctrl, hmet', htap, and_assoc]

/-- Settles O11: each field of the written word by its access code and lock, and the frame of storing it. -/
theorem writesFollowAccessCodes : Obligations.WritesFollowAccessCodes := by
  intro s off v stamp row f hinv hreach hrow halign hplain hres hwin hf
  have hok := findReg_ok hrow
  refine ⟨_, exec_registerWrite_accepted hrow halign hres hwin (run_writeEffect_plain hplain), ?_⟩
  rw [Prog.at_reachable _ _ _ hreach, storeProg_eq]
  have hreg : ((Prog.run ((Prog.setReg off (s.writtenWord off row v)).seq (.when (waitsForCommit off row)
      (.act (.rws (fun l => l ++ [{ off := off, value := s.writtenWord off row v, stamp := stamp }]))))) s).reg off) =
      s.writtenWord off row v := by
    cases waitsForCommit off row <;> simp [hinv.canon]
  simp only [hreg]
  refine ⟨fun hlock => ?_, fun hlock hacc => ?_, fun hlock hacc => ?_, fun hlock hacc => ?_, fun hacc => ?_,
    fun hacc => ?_, ?_, Prog.Does.frame ?_ hinv.canon⟩
  case refine_7 => cases waitsForCommit off row <;> simp
  case refine_8 => simp [Act.Within]
  all_goals refine getBits_writtenWord hok hf _ fun i hlo hhi => ?_
  case refine_1 =>
    have hne : f.acc ≠ .rsvd := fun h => by simp [(hok.1 f hf).2.2 h, State.locked] at hlock
    simp [hlock, hne]
  case refine_2 =>
    simp only [List.mem_cons, List.not_mem_nil, or_false] at hacc
    rcases hacc with h | h | h | h <;> simp [h, hlock, Acc.bit]
  case refine_3 =>
    have h32 : i < 32 := by have := (hok.1 f hf).1; omega
    simp [hacc, hlock, Acc.bit, h32]
  case refine_4 => simp [hacc, hlock, Acc.bit]
  case refine_5 =>
    simp only [List.mem_cons, List.not_mem_nil, or_false] at hacc
    rcases hacc with h | h | h | h <;> simp [h, Acc.bit]
  case refine_6 => by_cases hkeep : keepsReserved off = true <;> simp [hacc, hkeep, Acc.bit]

end Sys2Proof.Machine
end

section
/-! PROOF. What a read of a register answers and does (Table 0.5, R12, R14, R207, R333, R388, R564). -/

namespace Sys2Proof.Machine

/-! ### What a register shows follows the rest of the state -/

section
variable {s t : State} (h : Frame [.bus, .freeCount] [] s t) (block o : Nat)
include h

theorem fld_congr (f : Fld) : t.fld f = s.fld f := h.fld f List.not_mem_nil

theorem claimable_congr (core : Nat) : t.claimable core = s.claimable core := by
  have hctl : t.ctl = s.ctl := h.1 .ctl (by decide) (by decide)
  unfold State.claimable
  simp only [hctl, h.2 _ List.not_mem_nil]

theorem guardThermal_congr : t.guardThermal = s.guardThermal := by
  rw [State.guardThermal, fld_congr h, State.guardThermal]

theorem viewControl_congr : t.viewControl block o = s.viewControl block o := by
  have hctl : t.ctl = s.ctl := h.1 .ctl (by decide) (by decide)
  have hlc : t.lc = s.lc := h.1 .lc (by decide) (by decide)
  have hsecVersion : t.secVersion = s.secVersion := h.1 .secVersion (by decide) (by decide)
  have hadvances : t.advancesLeft = s.advancesLeft := h.1 .advancesLeft (by decide) (by decide)
  have hsec : t.sec = s.sec := h.1 .sec (by decide) (by decide)
  have hpins : t.pins = s.pins := h.1 .pins (by decide) (by decide)
  have hmeas : t.meas = s.meas := h.1 .meas (by decide) (by decide)
  have hhkp : t.hkp = s.hkp := h.1 .hkp (by decide) (by decide)
  unfold State.viewControl
  rw [hctl, hlc, hsecVersion, hadvances, hsec, hpins, hmeas, hhkp, claimable_congr h, guardThermal_congr h]

theorem children_congr (d : Bool) : t.children d = s.children d := by
  have htim : t.tim = s.tim := h.1 .tim (by decide) (by decide)
  unfold State.children State.dom
  simp only [State.flag, fld_congr h, htim]

theorem viewScreen_congr : t.viewScreen block o = s.viewScreen block o := by
  have hfab : t.fab = s.fab := h.1 .fab (by decide) (by decide)
  have htim : t.tim = s.tim := h.1 .tim (by decide) (by decide)
  have hcmt : t.cmt = s.cmt := h.1 .cmt (by decide) (by decide)
  have hnode : t.node = s.node := h.1 .node (by decide) (by decide)
  have hing : t.ing = s.ing := h.1 .ing (by decide) (by decide)
  have hports : t.portStateWord = s.portStateWord := by
    unfold State.portStateWord State.port
    rw [hfab]
  have hdom (d : Bool) : t.dom d = s.dom d := by rw [State.dom, htim, State.dom]
  have hdecider : t.isDecider = s.isDecider := by
    rw [State.isDecider, State.rootA, hfab, fld_congr h, State.isDecider, State.rootA]
  have hN : t.N = s.N := by rw [State.N, State.S, hcmt, State.N, State.S]
  have hcode (n : Fsn) : t.epochCode n = s.epochCode n := by
    unfold State.epochCode State.epoch
    rw [hing]
  unfold State.viewScreen
  rw [hports, hdom false, hdom true, children_congr h false, children_congr h true, hdecider, hN, hcode s.N,
    hcode (s.N + 1), hfab, htim, hcmt, hnode, hing]

theorem halfFan_congr (n : Fsn) : t.halfFan n = s.halfFan n := by
  have hcmt : t.cmt = s.cmt := h.1 .cmt (by decide) (by decide)
  have heff (off : Nat) : t.effReg off = s.effReg off := h.1 .eff (by decide) (by decide) off
  unfold State.halfFan State.genOf State.genNow State.regGen
  simp only [hcmt, fld_congr h, State.effFld, heff, h.2 _ List.not_mem_nil]

theorem viewPipes_congr : t.viewPipes block o = s.viewPipes block o := by
  have hthk : t.thk = s.thk := h.1 .thk (by decide) (by decide)
  have hgrv : t.grv = s.grv := h.1 .grv (by decide) (by decide)
  have hpdl : t.pdl = s.pdl := h.1 .pdl (by decide) (by decide)
  have hsds : t.sds = s.sds := h.1 .sds (by decide) (by decide)
  have hapl : t.apl = s.apl := h.1 .apl (by decide) (by decide)
  have hdmc : t.dmc = s.dmc := h.1 .dmc (by decide) (by decide)
  have hcmt : t.cmt = s.cmt := h.1 .cmt (by decide) (by decide)
  have hN : t.N = s.N := by rw [State.N, State.S, hcmt, State.N, State.S]
  have hflight (k : Nat) : t.rectsInFlight k = s.rectsInFlight k := by
    unfold State.rectsInFlight State.drive
    rw [hpdl]
  have hqueued (k : Nat) : t.rectsQueued k = s.rectsQueued k := by
    unfold State.rectsQueued State.drive
    rw [hpdl]
  have hactive : t.lanesActive = s.lanesActive := by rw [State.lanesActive, hsds, State.lanesActive]
  have hlane (i : Nat) : t.lane i = s.lane i := by rw [State.lane, hsds, State.lane]
  unfold State.viewPipes
  rw [hthk, hgrv, hapl, hdmc, hflight, hqueued, hactive, hlane, hsds, hN, halfFan_congr h, fld_congr h F.PDL_HTIMING_HSYNC,
    fld_congr h F.PDL_HTIMING_HBACK, fld_congr h F.PDL_HTIMING_HFRONT, fld_congr h F.HKP_TEMP_BAND]

/-- What a register shows follows nothing that a read's answer or a free value changes. -/
theorem view_congr (off : Nat) : t.view off = s.view off := by
  unfold State.view
  dsimp only
  rw [h.2 off List.not_mem_nil, viewControl_congr h, viewScreen_congr h, viewPipes_congr h]

theorem readWord_congr (off : Nat) (w : Word) : t.readWord off w = s.readWord off w := by
  have hlatches : t.latches = s.latches := h.1 .latches (by decide) (by decide)
  have hing : t.ing = s.ing := h.1 .ing (by decide) (by decide)
  unfold State.readWord State.latchedWord
  rw [hlatches, hing, view_congr h off]

end

/-! ### What a read does beside answering -/

theorem findRow_holds {l : List RegRow} {o : Nat} {r : RegRow} (h : findRow l o = some r) :
    r.off ≤ o ∧ dimsHold r.dims (o - r.off) = true := by
  induction l with
  | nil => exact absurd h (by simp [findRow])
  | cons x l ih =>
    rw [findRow] at h
    split at h
    case isTrue hx => exact (Option.some.inj h) ▸ (by simpa using hx)
    case isFalse => exact ih h

/-- The registers of block CPX from 0x3800 on are the claim registers (Table 17.15). -/
theorem regsCPX_bound : ∀ r ∈ regsCPX, r.off = 0x3800 ∧ r.dims = [(12, 4)] ∨
    r.off + (match r.dims with | [] => 1 | (c, n) :: _ => c * n) ≤ 0x3800 ∧ ∀ p ∈ r.dims, 0 < p.2 := by decide +kernel

theorem not_claimOffset {off : Nat} {row : RegRow} (hrow : findReg off = some row)
    (hne : ∀ k, k < 12 → off ≠ R.CPX_EV_CLAIM k) : ¬ (off / 0x100000 = 0 ∧ 0x3800 ≤ off) := by
  rintro ⟨hblock, hge⟩
  have hmod : off % 0x100000 = off := by omega
  unfold findReg at hrow
  rw [hblock, hmod] at hrow
  have hmem : row ∈ regsCPX := mem_of_findRow hrow
  obtain ⟨hoff, hdims⟩ := findRow_holds hrow
  rcases regsCPX_bound row hmem with ⟨h0, hd⟩ | ⟨hb, hpos⟩
  · simp only [hd, dimsHold, h0] at hdims
    split at hdims
    case isTrue hlt =>
      refine hne ((off - 0x3800) / 4) hlt ?_
      unfold R.CPX_EV_CLAIM
      simp at hdims
      omega
    case isFalse => exact absurd hdims (by simp)
  · cases hd : row.dims with
    | nil =>
      simp [hd, dimsHold] at hdims hb
      omega
    | cons p l =>
      obtain ⟨c, n⟩ := p
      simp only [hd, dimsHold] at hdims hb
      split at hdims
      case isTrue hlt =>
        have hn : 0 < n := hpos (c, n) (hd ▸ List.mem_cons_self)
        have := (Nat.div_lt_iff_lt_mul hn).1 hlt
        omega
      case isFalse => exact absurd hdims (by simp)

/-- The latches of a pair's low register: its high register's word (R564). -/
theorem pairHigh_latches {off h : Nat} (hp : pairHigh off = some h) :
    [R.DMC_UE_ADDR_HI, R.MEM_COLLIDE_HI, R.LYR_PIN_FAULT_HI].contains h = true := by
  unfold pairHigh at hp
  split at hp
  · cases hp; decide
  · split at hp
    · cases hp; decide
    · split at hp
      · cases hp; decide
      · cases hp

section
variable {off : Nat} {row : RegRow} {s : State} (hrow : findReg off = some row)
  (hclaim : (off / 0x100000 == 0 && decide (0x3800 ≤ off)) = false)
include hrow hclaim

theorem run_readEffect_bus : ((readEffect off).run s).bus = s.bus := by
  cases hp : pairHigh off <;> simp [readEffect, hrow, hp, hclaim, apply_ite State.bus, -Nat.div_eq_zero_iff]

theorem run_readEffect_reg (hwf : s.Canon) :
    ((readEffect off).run s).reg off = s.reg off &&& ~~~(accMask .rc row.flds) := by
  have hfull : s.reg off &&& 4294967295#32 = s.reg off := BitVec.and_allOnes
  by_cases hrc : accMask .rc row.flds = 0#32 <;> cases hp : pairHigh off <;>
    simp [readEffect, hrow, hp, hclaim, hwf, hrc, hfull, apply_ite (State.reg · off), apply_ite State.Canon, -Nat.div_eq_zero_iff]

theorem run_readEffect_latchedWord (h : Nat) (hp : pairHigh off = some h) :
    ((readEffect off).run s).latchedWord h = some (s.view h) := by
  have hin := pairHigh_latches hp
  have hlookup : ((readEffect off).run s).latches.lookup h = some (s.view h) := by
    simp [readEffect, hrow, hp, hclaim, putKey, apply_ite State.latches, -Nat.div_eq_zero_iff]
  unfold State.latchedWord
  rw [if_pos hin, hlookup]

theorem run_readEffect_latches (hp : pairHigh off = none) : ((readEffect off).run s).latches = s.latches := by
  simp [readEffect, hrow, hp, hclaim, apply_ite State.latches, -Nat.div_eq_zero_iff]

theorem run_readEffect_frame (hwf : s.Canon) : Frame [.latches, .ing, .fab, .hkp] [off] s ((readEffect off).run s) := by
  refine Prog.Does.frame ?_ hwf
  cases hp : pairHigh off <;> simp [readEffect, hrow, hp, hclaim, Act.Within, -Nat.div_eq_zero_iff]

end

/-! ### Reads -/

/-- What a read brings up to its instant before it answers (R333, R388, log entry 25). -/
def readBefore (off : Nat) (t : Time) : Prog :=
  .block [.when (off == R.TIM_PARENT) (.atFabric t), .when (off == R.APL_STATUS || off == R.APL_TEMP) (aplTempProg t),
    runningCount off]

/-- The state in which a read has answered: one free value taken, the answer on the bus. -/
def State.answered (u : State) (off : Nat) : State :=
  (Act.bus { data := [u.readWord off (Config.freeWord u.freeCount)] }).apply ((Act.free 1).apply u)

theorem answered_frame (u : State) (off : Nat) : Frame [.bus, .freeCount] [] u (u.answered off) := frame_bus_free _ 1 u

theorem answered_canon {u : State} (hu : u.Canon) (off : Nat) : (u.answered off).Canon := (hu.apply _).apply _

/-- A read that takes no capture and no time: what it brings up, its answer, and what else it does. -/
theorem run_readProg {off : Nat} (t : Time) (s : State) (hcap : ∀ ch, ch < 9 → off ≠ R.TIM_CAP_NS ch)
    (hnow : off ≠ R.TIM_NOW_NS) :
    (readProg off t).run s = (readEffect off).run (((readBefore off t).run s).answered off) := by
  have hcap' : ¬ (off / 0x100000 = 6 ∧ 0x10C ≤ off % 0x100000 ∧ (off % 0x100000 - 0x10C) % 0x20 = 0 ∧
      off % 0x100000 < 0x220) := by
    intro h
    refine hcap ((off % 0x100000 - 0x10C) / 0x20) (by omega) ?_
    unfold R.TIM_CAP_NS
    omega
  unfold readProg
  rw [if_neg (by simpa [and_assoc] using hcap'), if_neg (by simpa using hnow)]
  have hword (u : State) (w : Word) : ((Act.free 1).apply u).readWord off w = u.readWord off w :=
    readWord_congr (Act.frame_noRegs (by simp [Act.Within]) u) off w
  simp [readBefore, State.answered, Prog.withFree, hword]

theorem runsBetween_false {off : Nat} (h : runsBetween off = false) : off ≠ R.DMC_PANIC_CYCLES ∧ off ≠ R.MGT_RX_DROP ∧
    (∀ p, p < 6 → off ≠ R.FAB_P_CREDIT_STALL p) ∧ ∀ i, i < 224 → off ≠ R.SDS_LPRBS_ERR i := by
  simpa [runsBetween, and_assoc] using h

/-- No counter runs at a register that is none of the running ones. -/
theorem run_runningCount_still (off : Nat) (s : State) (h : runsBetween off = false) : (runningCount off).run s = s := by
  obtain ⟨hpanic, hdrop, hstall, hprbs⟩ := runsBetween_false h
  simp [runningCount, hpanic, hdrop, find?_range_eq_none_of_ne hstall, find?_range_eq_none_of_ne hprbs]

/-- A plain read answers, and does what its register says; it brings nothing up before. -/
theorem completes_read_plain {s : State} {off : Nat} {stamp : Time} {row : RegRow} (hwf : s.Canon)
    (hrow : findReg off = some row) (hruns : runsBetween off = false)
    (hoff : off ∉ [R.TIM_NOW_NS, R.TIM_PARENT, R.APL_STATUS, R.APL_TEMP])
    (hcap : ∀ ch, ch < 9 → off ≠ R.TIM_CAP_NS ch) (hclaim : ∀ k, k < 12 → off ≠ R.CPX_EV_CLAIM k) :
    let t := (readProg off stamp).run s
    t.bus = { data := [s.readWord off (Config.freeWord s.freeCount)] } ∧
      t.reg off = s.reg off &&& ~~~(accMask .rc row.flds) ∧
      (∀ h, pairHigh off = some h → t.latchedWord h = some (s.view h)) ∧
      (pairHigh off = none → t.latches = s.latches) ∧
      Frame [.bus, .latches, .ing, .fab, .hkp, .freeCount] [off] s t := by
  simp only [List.mem_cons, List.not_mem_nil, or_false, not_or] at hoff
  obtain ⟨hnow, hparent, hstatus, htemp⟩ := hoff
  have hclaim' : (off / 0x100000 == 0 && decide (0x3800 ≤ off)) = false := by
    simpa [-Nat.div_eq_zero_iff] using not_claimOffset hrow hclaim
  have hbefore : (readBefore off stamp).run s = s := by
    simp [readBefore, hparent, hstatus, htemp, run_runningCount_still off s hruns]
  have hframe := answered_frame s off
  have hcanon := answered_canon hwf off
  rw [run_readProg stamp s hcap hnow, hbefore]
  refine ⟨run_readEffect_bus hrow hclaim', ?_, fun h hp => ?_, fun hp => run_readEffect_latches hrow hclaim' hp, ?_⟩
  · rw [run_readEffect_reg hrow hclaim' hcanon, hframe.2 off List.not_mem_nil]
  · rw [run_readEffect_latchedWord hrow hclaim' h hp, view_congr hframe]
  · exact (hframe.mono (by simp +contextual) (by simp)).trans
      ((run_readEffect_frame hrow hclaim' hcanon).mono (by simp +contextual) (by simp))

/-- Reading a register without side effects of its own, but for its RC fields, changes at most that register. -/
theorem run_readEffect_quiet {off : Nat} {row : RegRow} {s : State} (hrow : findReg off = some row)
    (hclaim : (off / 0x100000 == 0 && decide (0x3800 ≤ off)) = false) (hp : pairHigh off = none)
    (hoff : off ∉ [R.ING_EPOCH_C, R.FAB_DISCARD, R.ING_FOREIGN_COUNT, R.HKP_TEMP_MAX]) : (readEffect off).run s =
      (Prog.when (accMask .rc row.flds != 0) (.setReg off (s.reg off &&& ~~~(accMask .rc row.flds)))).run s := by
  simp only [List.mem_cons, List.not_mem_nil, or_false, not_or] at hoff
  simp [readEffect, hrow, hp, hclaim, hoff, -Nat.div_eq_zero_iff]

/-! ### Counters that run between commands -/

/-- The registers that count between commands, each a counter of its whole word that a read clears. -/
def runningRegs : List Nat := [R.DMC_PANIC_CYCLES, R.MGT_RX_DROP] ++ (List.range 6).map R.FAB_P_CREDIT_STALL ++
  (List.range 224).map R.SDS_LPRBS_ERR

theorem mem_runningRegs {off : Nat} (h : runsBetween off = true) : off ∈ runningRegs := by
  simp only [runsBetween, Bool.or_eq_true, beq_iff_eq, List.any_eq_true] at h
  simp only [runningRegs, List.mem_append, List.mem_map, List.mem_cons, List.not_mem_nil, or_false]
  rcases h with ((h | h) | ⟨p, hp, h⟩) | ⟨i, hi, h⟩
  · exact .inl (.inl (.inl h))
  · exact .inl (.inl (.inr h))
  · exact .inl (.inr ⟨p, hp, h.symm⟩)
  · exact .inr ⟨i, hi, h.symm⟩

theorem runningRegs_table : ∀ off ∈ runningRegs,
    (findReg off).map (·.flds) = some [⟨31, 0, .rc, 0, .any, .none⟩] ∧ pairHigh off = none ∧
      (off / 0x100000 == 0 && decide (0x3800 ≤ off)) = false ∧
      off ∉ [R.ING_EPOCH_C, R.FAB_DISCARD, R.ING_FOREIGN_COUNT, R.HKP_TEMP_MAX] ∧
      off ∉ [R.TIM_NOW_NS, R.TIM_PARENT, R.APL_STATUS, R.APL_TEMP, R.ING_EPOCH_P, R.ING_EPOCH_S, R.ING_EPOCH_STATE,
        R.DMC_UE_ADDR_HI, R.MEM_COLLIDE_HI, R.LYR_PIN_FAULT_HI] ∧
      ∀ ch, ch < 9 → off ≠ R.TIM_CAP_NS ch := by decide +kernel

/-- A running counter shows its word. -/
theorem view_running {off : Nat} (h : off ∈ runningRegs) (s : State) : s.view off = s.reg off := by
  simp only [runningRegs, List.mem_append, List.mem_map, List.mem_cons, List.not_mem_nil, or_false, List.mem_range] at h
  rcases h with ((rfl | rfl) | ⟨p, hp, rfl⟩) | ⟨i, hi, rfl⟩
  · rfl
  · rfl
  · have hblock : R.FAB_P_CREDIT_STALL p / 0x100000 = 5 := by unfold R.FAB_P_CREDIT_STALL; omega
    have ho : R.FAB_P_CREDIT_STALL p % 0x100000 ≠ 0x18 ∧ R.FAB_P_CREDIT_STALL p % 0x100000 ≠ 0x1C ∧
      R.FAB_P_CREDIT_STALL p % 0x100000 ≠ 0x20 := by unfold R.FAB_P_CREDIT_STALL; omega
    simp [State.view, State.viewScreen, hblock, ho, putFields]
  · have hblock : R.SDS_LPRBS_ERR i / 0x100000 = 0x18 := by unfold R.SDS_LPRBS_ERR; omega
    have ho : R.SDS_LPRBS_ERR i % 0x100000 ≠ 0x20 ∧ R.SDS_LPRBS_ERR i % 0x100000 ≠ 0x24 ∧
      R.SDS_LPRBS_ERR i % 0x100000 % 0x40 ≠ 4 := by unfold R.SDS_LPRBS_ERR; omega
    simp [State.view, State.viewPipes, hblock, ho, putFields, -Nat.mod_mod_of_dvd]

/-- What has been counted by a read is a number added to the counter's register, or nothing. -/
theorem run_runningCount (off : Nat) (s : State) : (runningCount off).run s = s ∨
    ∃ f : Fld, f.off = off ∧ f.hi = 31 ∧ f.lo = 0 ∧
      (runningCount off).run s = (Prog.withFree (fun w => .count f w.toNat)).run s := by
  have hwhen (c : Bool) (f : Fld) (hoff : f.off = off) (hhi : f.hi = 31) (hlo : f.lo = 0) :
      (Prog.when c (.withFree (fun w => .count f w.toNat))).run s = s ∨ ∃ g : Fld, g.off = off ∧ g.hi = 31 ∧ g.lo = 0 ∧
        (Prog.when c (.withFree (fun w => .count f w.toNat))).run s = (Prog.withFree (fun w => .count g w.toNat)).run s := by
    cases c
    · exact .inl rfl
    · exact .inr ⟨f, hoff, hhi, hlo, rfl⟩
  unfold runningCount
  simp only [Prog.run_dyn]
  split
  case isTrue h => exact hwhen _ F.DMC_PANIC_CYCLES_COUNT (eq_of_beq h).symm rfl rfl
  split
  case isTrue h => exact hwhen _ F.MGT_RX_DROP_COUNT (eq_of_beq h).symm rfl rfl
  split
  case h_1 p h =>
    have hoff : (off == R.FAB_P_CREDIT_STALL p) = true :=
      List.find?_some (p := fun p => off == R.FAB_P_CREDIT_STALL p) h
    exact hwhen _ (F.FAB_P_CREDIT_STALL_CYCLES p) (eq_of_beq hoff).symm rfl rfl
  case h_2 =>
    rw [Prog.run_when]
    split
    case isFalse => exact .inl rfl
    split
    case h_1 i h =>
      have hoff : (off == R.SDS_LPRBS_ERR i) = true :=
        List.find?_some (p := fun i => off == R.SDS_LPRBS_ERR i) h
      exact hwhen _ (F.SDS_LPRBS_ERR_COUNT i) (eq_of_beq hoff).symm rfl rfl
    case h_2 => exact .inl rfl

/-- A counter goes on, and nothing else but the free values, up to the read of it. -/
theorem runningCount_grows (off : Nat) {s : State} (hwf : s.Canon) :
    (s.reg off).toNat ≤ (((runningCount off).run s).reg off).toNat ∧
      Frame [.freeCount] [off] s ((runningCount off).run s) := by
  rcases run_runningCount off s with h | ⟨f, hoff, hhi, hlo, h⟩
  · rw [h]
    exact ⟨Nat.le_refl _, Frame.refl _ _ s⟩
  · have hword (w : Word) : getBits w 31 0 = w.toNat := by simpa [getBits, bitsOf] using w.isLt
    have hfld (t : State) : t.fld f = (t.reg off).toNat := by rw [State.fld, hhi, hlo, hword, hoff]
    rw [h]
    refine ⟨?_, Prog.Does.frame (by simp [hoff]) hwf⟩
    have hcount := Prog.run_count_same f (Config.freeWord s.freeCount).toNat ((Act.free 1).apply s) (hwf.apply _)
      (by omega) (by omega)
    have hlt := (s.reg off).isLt
    rw [hfld, State.fld_apply (by simp), hfld, hhi, hlo] at hcount
    change (((Prog.count f _).run ((Act.free 1).apply s)).reg off).toNat ≥ _
    rw [hcount]
    omega

/-- A running counter is one field of its whole word, of which no bit is open or latched. -/
theorem readWord_running {off : Nat} (h : off ∈ runningRegs) (s : State) (w : Word) : s.readWord off w = s.reg off := by
  obtain ⟨hflds, -, -, -, hoff, -⟩ := runningRegs_table off h
  simp only [List.mem_cons, List.not_mem_nil, or_false, not_or] at hoff
  obtain ⟨row, hrow, hflds⟩ := Option.map_eq_some_iff.1 hflds
  have hopen : openMask row = 0 := by
    unfold openMask
    rw [hflds]
    decide
  have hlatch : s.latchedWord off = none := by
    unfold State.latchedWord
    cases s.ing.epLatch <;> simp [hoff]
  have hmask : accMask .wo row.flds = 0 := by rw [hflds]; decide
  simp only [State.readWord, hrow, hlatch, view_running h, hopen, hmask]
  have hfull : s.reg off &&& 4294967295#32 = s.reg off := BitVec.and_allOnes
  simp [hfull]

/-- Reading a counter that runs answers no less than it stood at, and clears it. -/
theorem completes_read_running {s : State} {off : Nat} {stamp : Time} {row : RegRow} (hwf : s.Canon)
    (hrow : findReg off = some row) (hruns : runsBetween off = true) :
    let t := (readProg off stamp).run s
    (∃ x : Word, t.bus = { data := [x] } ∧ (s.reg off).toNat ≤ x.toNat) ∧ t.reg off = 0 ∧
      Frame [.bus, .freeCount] [off] s t := by
  have hmem := mem_runningRegs hruns
  obtain ⟨hflds, hp, hclaim, hquiet, hoff, hcap⟩ := runningRegs_table off hmem
  simp only [hrow, Option.map_some, Option.some.injEq] at hflds
  have hmask : accMask .rc row.flds = BitVec.allOnes 32 := by rw [hflds]; decide
  simp only [List.mem_cons, List.not_mem_nil, or_false, not_or] at hoff
  obtain ⟨hgrows, hbefore⟩ := runningCount_grows off hwf
  have hrun : (readBefore off stamp).run s = (runningCount off).run s := by simp [readBefore, hoff]
  rw [run_readProg stamp s hcap hoff.1, hrun, run_readEffect_quiet hrow hclaim hp hquiet, hmask]
  refine ⟨⟨_, by simp [State.answered, readWord_running hmem], hgrows⟩, ?_, ?_⟩
  · simp [State.answered, hwf]
  · refine (hbefore.mono (by simp) (by simp)).trans (((answered_frame _ off).mono (by simp) (by simp)).trans ?_)
    exact Prog.Does.frame (by simp) (answered_canon (hwf.run _) off)

/-! ### Reads that follow the instant of the read -/

/-- A read of a register without RC fields and without effects of its own answers, and that is all. -/
theorem run_readProg_answered {off : Nat} {row : RegRow} (stamp : Time) (s : State) (hrow : findReg off = some row)
    (hmask : accMask .rc row.flds = 0) (hclaim : (off / 0x100000 == 0 && decide (0x3800 ≤ off)) = false)
    (hp : pairHigh off = none) (hoff : off ∉ [R.ING_EPOCH_C, R.FAB_DISCARD, R.ING_FOREIGN_COUNT, R.HKP_TEMP_MAX])
    (hcap : ∀ ch, ch < 9 → off ≠ R.TIM_CAP_NS ch) (hnow : off ≠ R.TIM_NOW_NS) :
    (readProg off stamp).run s = ((readBefore off stamp).run s).answered off := by
  rw [run_readProg stamp s hcap hnow, run_readEffect_quiet hrow hclaim hp hoff, hmask]
  rfl

theorem answered_bus (u : State) (off : Nat) :
    (u.answered off).bus = { data := [(u.answered off).readWord off (Config.freeWord u.freeCount)] } := by
  rw [readWord_congr (answered_frame u off)]
  rfl

theorem completes_read_TIM_PARENT (s : State) (stamp : Time) :
    let t := (readProg R.TIM_PARENT stamp).run s
    t.tim = { s.tim with now := max s.tim.now (s.localOf stamp) } ∧
      t.bus = { data := [t.readWord R.TIM_PARENT (Config.freeWord s.freeCount)] } ∧
      Frame [.bus, .tim, .freeCount] [] s t := by
  have hbefore : (readBefore R.TIM_PARENT stamp).run s = (Prog.atFabric stamp).run s := by
    simp +decide [readBefore, run_runningCount_still]
  obtain ⟨row, hrow, hmask⟩ : ∃ row, findReg R.TIM_PARENT = some row ∧ accMask .rc row.flds = 0 :=
    ⟨_, rfl, by decide +kernel⟩
  have hrun := run_readProg_answered stamp s hrow hmask (by decide) (by decide) (by decide) (by decide) (by decide)
  rw [hbefore] at hrun
  rw [hrun]
  refine ⟨rfl, answered_bus _ _, ?_⟩
  have hlocal : Frame [.bus, .tim, .freeCount] [] s ((Prog.atFabric stamp).run s) :=
    Prog.Does.frame_noRegs (by simp [Prog.atFabric, Prog.atLocal, Act.Within])
  exact hlocal.trans ((answered_frame _ _).mono (by simp) (by simp))

theorem run_aplTempProg (stamp : Time) (s : State) (hwf : s.Canon) :
    let u := (aplTempProg stamp).run s
    u.flag F.APL_STATUS_TEMP_VALID = (s.aplTemp stamp).isSome ∧
      (∀ r, s.aplTemp stamp = some r → u.fld F.APL_TEMP_T = r.1.toNat) ∧ u.freeCount = s.freeCount ∧
      Frame [] [R.APL_STATUS, R.APL_TEMP] s u := by
  refine ⟨?_, fun r hr => ?_, ?_, Prog.Does.frame ?_ hwf⟩
  · cases h : s.aplTemp stamp <;>
      simp +decide [aplTempProg, h, State.flag, hwf, Prog.run_setFld, getBits_putBits]
  · simp +decide [aplTempProg, hr, hwf, Prog.run_setFld, getBits_putBits, getBits_putBits_other]
    exact Nat.mod_eq_of_lt r.1.isLt
  · cases h : s.aplTemp stamp <;> simp [aplTempProg, h, Prog.run_setFld]
  · cases h : s.aplTemp stamp <;> simp +decide [aplTempProg, h]

theorem completes_read_apl (s : State) (stamp : Time) (off : Nat) (hwf : s.Canon)
    (hoff : off = R.APL_STATUS ∨ off = R.APL_TEMP) :
    let t := (readProg off stamp).run s
    t.flag F.APL_STATUS_TEMP_VALID = (s.aplTemp stamp).isSome ∧
      (∀ r, s.aplTemp stamp = some r → t.fld F.APL_TEMP_T = r.1.toNat) ∧
      t.bus = { data := [t.readWord off (Config.freeWord s.freeCount)] } ∧
      Frame [.bus, .freeCount] [R.APL_STATUS, R.APL_TEMP] s t := by
  have hbefore : (readBefore off stamp).run s = (aplTempProg stamp).run s := by
    rcases hoff with rfl | rfl <;> simp +decide [readBefore, run_runningCount_still]
  have hrun : (readProg off stamp).run s = ((readBefore off stamp).run s).answered off := by
    obtain ⟨row, hrow, hmask⟩ : ∃ row, findReg off = some row ∧ accMask .rc row.flds = 0 := by
      rcases hoff with rfl | rfl <;> exact ⟨_, rfl, by decide +kernel⟩
    refine run_readProg_answered stamp s hrow hmask ?_ ?_ ?_ ?_ ?_ <;> rcases hoff with rfl | rfl <;> decide
  rw [hbefore] at hrun
  obtain ⟨hvalid, htemp, hfree, hframe⟩ := run_aplTempProg stamp s hwf
  have hanswered := answered_frame ((aplTempProg stamp).run s) off
  rw [hrun]
  refine ⟨(hanswered.flag _ List.not_mem_nil).trans hvalid, fun r hr => (hanswered.fld _ List.not_mem_nil).trans (htemp r hr),
    ?_, (hframe.mono (by simp) (by simp)).trans (hanswered.mono (by simp) (by simp))⟩
  rw [← hfree]
  exact answered_bus _ _

theorem completes_epochCRead (s : State) : 
    let t := (readProg R.ING_EPOCH_C 0).run s
    t.bus = { data := [s.readWord R.ING_EPOCH_C (Config.freeWord s.freeCount)] } ∧
      t.ing.epLatch = some [s.view R.ING_EPOCH_P, s.view R.ING_EPOCH_S, s.view R.ING_EPOCH_STATE] ∧
      Frame [.bus, .ing, .freeCount] [] s t := by
  have hbefore : (readBefore R.ING_EPOCH_C 0).run s = s := by
    simp +decide [readBefore, run_runningCount_still]
  obtain ⟨row, hrow, hmask⟩ : ∃ row, findReg R.ING_EPOCH_C = some row ∧ accMask .rc row.flds = 0 :=
    ⟨_, rfl, by decide +kernel⟩
  have hframe := answered_frame s R.ING_EPOCH_C
  have heffect (u : State) : (readEffect R.ING_EPOCH_C).run u = (Act.ing (fun g => { g with
      epLatch := some [u.view R.ING_EPOCH_P, u.view R.ING_EPOCH_S, u.view R.ING_EPOCH_STATE] })).apply u := by
    simp +decide [readEffect, hrow, hmask, show pairHigh R.ING_EPOCH_C = none by decide]
  rw [run_readProg 0 s (by decide) (by decide), hbefore, heffect, view_congr hframe, view_congr hframe, view_congr hframe]
  exact ⟨rfl, rfl, (hframe.mono (by simp) (by simp)).trans (Act.frame_noRegs (by simp [Act.Within]) _)⟩

/-! ### The statement -/

/-- Both reading commands run the read's program. -/
theorem completes_read {s : State} {off : Nat} {stamp : Time} {P : State → Prop} {c : Instr}
    (hc : c ∈ [Instr.pairLowRead off 4 stamp, Instr.counterReadClear off 4 stamp]) (halign : off % 4 = 0)
    (hreach : s.Reachable off) (h : P ((readProg off stamp).run s)) : Completes c s P := by
  have hbus : (busRead off 4 stamp).at_ off s = (readProg off stamp).run s := by
    rw [Prog.at_reachable _ _ _ hreach]
    simp [busRead, halign]
  simp only [List.mem_cons, List.not_mem_nil, or_false] at hc
  rcases hc with rfl | rfl
  · exact ⟨_, exec_pairLowRead .., hbus ▸ h⟩
  · exact ⟨_, exec_counterReadClear .., hbus ▸ h⟩

/-- Settles O13, by the kind of register that is read. -/
theorem readsAnswerAndAct : Obligations.ReadsAnswerAndAct := by
  intro s off stamp row hinv hrow halign hreach
  refine ⟨fun c hc => ⟨fun hruns hoff hcap hclaim => ?_, fun hruns => ?_, fun hoff => ?_, fun hoff => ?_⟩, fun hawake => ?_⟩
  · exact completes_read hc halign hreach (completes_read_plain hinv.canon hrow hruns hoff hcap hclaim)
  · exact completes_read hc halign hreach (completes_read_running hinv.canon hrow hruns)
  · subst hoff
    exact completes_read hc halign hreach (completes_read_TIM_PARENT s stamp)
  · exact completes_read hc halign hreach (completes_read_apl s stamp off hinv.canon hoff)
  · exact Completes.of_go rfl hawake (completes_epochCRead s)

end Sys2Proof.Machine
end

section
/-! PROOF. Resets and restarts (R16, R486 to R488, R520, R535, R538, R541, R573, R574): what a cold and a warm reset leave,
what the ROM does after them, CPX restarts, the hand-over to a bundle and the end of a trial. -/

namespace Sys2Proof.Machine

/-! ### What the ROM does -/

/-- The acts of the ROM after M0 is measured: two registers, M1 and M2, the security state but for the slots, the fused
version, and events. -/
def Act.Rom : Act → Prop
  | .reg off _ => off = R.SEC_BOOT ∨ off = R.SEC_UPD_STATE
  | .extend i _ => i = 1 ∨ i = 2
  | .sec f => ∀ x, (f x).slots = x.slots
  | .ctl f => ∀ c, (f c).inReset = c.inReset ∧ (f c).warmResets = c.warmResets
  | .free _ => True
  | .fuseVersion _ => True
  | _ => False

/-- What the ROM leaves as it was. -/
structure RomKept (s t : State) : Prop where
  canon : s.Canon → t.Canon
  reg : s.Canon → ∀ off, off ≠ R.SEC_BOOT → off ≠ R.SEC_UPD_STATE → t.reg off = s.reg off
  absent : ∀ off, off ≠ R.SEC_BOOT → off ≠ R.SEC_UPD_STATE → off ∉ s.regs.map Prod.fst → off ∉ t.regs.map Prod.fst
  eff : t.eff = s.eff
  mem : t.mem = s.mem
  node : t.node = s.node
  lc : t.lc = s.lc
  cmt : t.cmt = s.cmt
  nvm : t.nvm = s.nvm
  slots : t.sec.slots = s.sec.slots
  inReset : t.ctl.inReset = s.ctl.inReset
  warmResets : t.ctl.warmResets = s.ctl.warmResets
  meas : t.meas.getD 0 0 = s.meas.getD 0 0

theorem RomKept.refl (s : State) : RomKept s s := ⟨id, fun _ _ _ _ => rfl, fun _ _ _ h => h, rfl, rfl, rfl, rfl, rfl, rfl, rfl, rfl, rfl, rfl⟩

theorem RomKept.trans {s t u : State} (h : RomKept s t) (h' : RomKept t u) : RomKept s u :=
  ⟨fun hs => h'.canon (h.canon hs), fun hs off h1 h2 => (h'.reg (h.canon hs) off h1 h2).trans (h.reg hs off h1 h2),
    fun off h1 h2 hs => h'.absent off h1 h2 (h.absent off h1 h2 hs), h'.eff.trans h.eff, h'.mem.trans h.mem,
    h'.node.trans h.node, h'.lc.trans h.lc, h'.cmt.trans h.cmt, h'.nvm.trans h.nvm, h'.slots.trans h.slots,
    h'.inReset.trans h.inReset, h'.warmResets.trans h.warmResets, h'.meas.trans h.meas⟩

/-- A write of one key adds no other key to a store. -/
theorem Sparse.mem_write_keys {n : Nat} {d : Nat → BitVec n} {l : List (Nat × BitVec n)} {k j : Nat} {v : BitVec n}
    (h : j ∈ (Sparse.write d l k v).map Prod.fst) : j = k ∨ j ∈ l.map Prod.fst := by
  induction l with
  | nil =>
    unfold Sparse.write at h
    split at h <;> simp_all
  | cons p t ih =>
    obtain ⟨a, w⟩ := p
    unfold Sparse.write at h
    split at h
    · split at h <;> simp_all
    · split at h
      · split at h <;> simp_all
      · rcases List.mem_cons.1 h with rfl | h
        · exact .inr List.mem_cons_self
        · exact (ih h).imp id (List.mem_cons_of_mem a)

/-- A key that a store does not list reads its default. -/
theorem Sparse.read_absent {n : Nat} (d : Nat → BitVec n) (l : List (Nat × BitVec n)) (k : Nat)
    (h : k ∉ l.map Prod.fst) : Sparse.read d l k = d k := by
  induction l with
  | nil => rfl
  | cons p t ih =>
    obtain ⟨a, w⟩ := p
    simp only [List.map_cons, List.mem_cons, not_or] at h
    rw [Sparse.read, if_neg h.1, ih h.2, ite_self]

theorem Act.Rom.kept {a : Act} (h : a.Rom) (s : State) : RomKept s (a.apply s) := by
  cases a with
  | reg off v =>
    have hne {o : Nat} (h1 : o ≠ R.SEC_BOOT) (h2 : o ≠ R.SEC_UPD_STATE) : o ≠ off := by
      rintro rfl
      exact h.elim h1 h2
    exact ⟨fun hs => hs.apply _, fun hs o h1 h2 => State.reg_store_other s off o v hs (hne h1 h2),
      fun o h1 h2 hs hm => (Sparse.mem_write_keys hm).elim (hne h1 h2) hs, rfl, rfl, rfl, rfl, rfl, rfl, rfl, rfl, rfl, rfl⟩
  | extend i x =>
    have hne : i ≠ 0 := by rintro rfl; exact absurd h (by simp [Act.Rom])
    have hlt : i < 15 := by rcases h with h | h <;> omega
    simp only [Act.apply, if_pos hlt]
    exact ⟨id, fun _ _ _ _ => rfl, fun _ _ _ h => h, rfl, rfl, rfl, rfl, rfl, rfl, rfl, rfl, rfl, getD_modAt_other _ _ _ _ _ hne.symm⟩
  | sec f => exact ⟨id, fun _ _ _ _ => rfl, fun _ _ _ h => h, rfl, rfl, rfl, rfl, rfl, rfl, h _, rfl, rfl, rfl⟩
  | ctl f => exact ⟨id, fun _ _ _ _ => rfl, fun _ _ _ h => h, rfl, rfl, rfl, rfl, rfl, rfl, rfl, (h _).1, (h _).2, rfl⟩
  | free n => exact ⟨id, fun _ _ _ _ => rfl, fun _ _ _ h => h, rfl, rfl, rfl, rfl, rfl, rfl, rfl, rfl, rfl, rfl⟩
  | fuseVersion v =>
    simp only [Act.apply]
    split
    · exact ⟨id, fun _ _ _ _ => rfl, fun _ _ _ h => h, rfl, rfl, rfl, rfl, rfl, rfl, rfl, rfl, rfl, rfl⟩
    · exact RomKept.refl s
  | _ => exact absurd h (by simp [Act.Rom])

/-- A program of such acts keeps what they keep. -/
theorem Prog.Only.romKept {p : Prog} (h : p.Only Act.Rom) (s : State) : RomKept s (p.run s) :=
  Prog.run_keeps (RomKept s) (fun _ _ ha ht => ht.trans (ha.kept _)) p h s (RomKept.refl s)

theorem setFld_rom {f : Fld} (v : Nat) (h : f.off = R.SEC_BOOT ∨ f.off = R.SEC_UPD_STATE) :
    (Prog.setFld f v).Only Act.Rom := fun _ => h

theorem raise_rom (e : Nat) : (Prog.raise e).Only Act.Rom :=
  fun _ => ⟨trivial, fun _ _ => ⟨rfl, rfl⟩⟩

theorem setUpd_rom (u : UpdState) : (setUpd u).Only Act.Rom :=
  fun _ => Prog.only_ite trivial ⟨fun _ => rfl, raise_rom 19⟩

theorem loadSecBoot_rom (p : BootPtr) : (loadSecBoot p).Only Act.Rom :=
  ⟨setFld_rom _ (.inl rfl), setFld_rom _ (.inl rfl), setFld_rom _ (.inl rfl), trivial⟩

theorem writePtr_rom (p : BootPtr) : (writePtr p).Only Act.Rom :=
  fun _ => Prog.only_ite (setFld_rom _ (.inr rfl)) ⟨fun _ => rfl, loadSecBoot_rom p, trivial⟩

theorem bootSlot_rom (p : BootPtr) : (bootSlot p).Only Act.Rom :=
  fun _ => ⟨.inr rfl, Prog.only_ite ⟨fun _ => ⟨trivial, fun _ => rfl⟩, setUpd_rom .trial, trivial⟩ trivial, trivial⟩

theorem romHalt_rom : romHalt.Only Act.Rom := setFld_rom _ (.inl rfl)

theorem bootChecked_rom (p : BootPtr) : (bootChecked p).Only Act.Rom :=
  fun _ => Prog.only_ite (bootSlot_rom p) (Prog.only_ite
    ⟨writePtr_rom _, setFld_rom _ (.inr rfl), raise_rom 22, bootSlot_rom _, trivial⟩ romHalt_rom)

/-- The ROM's work for a record in force (R535). -/
def bootPtr (p : BootPtr) : Prog :=
  .seq (measure 1 p.bytes)
    (if p.trial && p.attempts == 0 then
      let q := { p with active := p.fallback, activeId := p.fallbackId, trial := false }
      .block [writePtr q, .raise 22, bootChecked q]
    else if p.trial then
      let q := { p with attempts := p.attempts - 1 }
      .block [writePtr q, bootChecked q]
    else .block [loadSecBoot p, bootChecked p])

theorem bootPtr_rom (p : BootPtr) : (bootPtr p).Only Act.Rom :=
  ⟨.inl rfl, Prog.only_ite ⟨writePtr_rom _, raise_rom 22, bootChecked_rom _, trivial⟩
    (Prog.only_ite ⟨writePtr_rom _, bootChecked_rom _, trivial⟩ ⟨loadSecBoot_rom p, bootChecked_rom p, trivial⟩)⟩

/-- The ROM's work after M0 (R535, Table 18.1). -/
def romAfterM0 (lc : LcState) (ptr : Option BootPtr) : Prog :=
  match lc with
  | .raw => .nil
  | .retired => romHalt
  | _ => match ptr with
    | none => romHalt
    | some p => bootPtr p

theorem romAfterM0_rom (lc : LcState) (ptr : Option BootPtr) : (romAfterM0 lc ptr).Only Act.Rom := by
  unfold romAfterM0
  split
  · trivial
  · exact romHalt_rom
  · split
    · exact romHalt_rom
    · exact bootPtr_rom _

/-- What M0 takes (Table 18.4). -/
def State.m0Item (s : State) : List Byte :=
  leBytes 1 (lcCode s.lc) ++ leBytes 4 s.secVersion.toNat ++ (s.sec.fuses.ownerDigest.getD [])

theorem run_romBoot (s : State) :
    romBoot.run s = (romAfterM0 s.lc s.ptr).run ((Act.extend 0 (Config.sha3 s.m0Item)).apply s) := rfl

/-- What the ROM leaves, with M0 extended by the fuse values (R520). -/
theorem romBoot_kept (s : State) : RomKept ((Act.extend 0 (Config.sha3 s.m0Item)).apply s) (romBoot.run s) :=
  (romAfterM0_rom s.lc s.ptr).romKept _

/-! ### Cold resets -/

theorem State.canon_reset_cold (s : State) : ((Act.reset false).apply s).Canon := rfl

/-- The state in which the ROM starts after a cold reset. -/
def State.coldStart (s : State) (cause : Nat) : State :=
  (Prog.setFld F.CPX_RESET_CAUSE_CAUSE cause).run ((Act.reset false).apply s)

theorem run_coldResetProg (cause : Nat) (s : State) : (coldResetProg cause).run s = romBoot.run (s.coldStart cause) := rfl

theorem coldStart_canon (s : State) (cause : Nat) : (s.coldStart cause).Canon := (State.canon_reset_cold s).run _

theorem coldStart_reg (s : State) (cause off : Nat) (h : off ≠ R.CPX_RESET_CAUSE) :
    (s.coldStart cause).reg off = resetWord off :=
  State.reg_store_other _ R.CPX_RESET_CAUSE off _ (State.canon_reset_cold s) h

theorem coldStart_cause (s : State) (cause : Nat) (h : cause < 256) :
    (s.coldStart cause).fld F.CPX_RESET_CAUSE_CAUSE = cause :=
  (Prog.run_setFld_same _ _ _ (State.canon_reset_cold s) (by decide) (by decide)).trans (Nat.mod_eq_of_lt h)

/-- What a cold reset leaves (R16, R486, R520). -/
theorem run_coldResetProg_leaves (s : State) (cause : Nat) (h : cause < 256) :
    let t := (coldResetProg cause).run s
    t.fld F.CPX_RESET_CAUSE_CAUSE = cause ∧ (∀ off, off ∉ romRegs → t.reg off = resetWord off) ∧
      t.eff = [] ∧ t.node = .sapling ∧ t.cmt.screen = .dark ∧ t.mem = [] ∧ t.lc = s.lc ∧ t.nvm = s.nvm ∧
      t.sec.slots = s.sec.slots ∧ t.Awake ∧
      t.meas.getD 0 0 = Config.sha3 (digestBytes 0 ++ digestBytes (Config.sha3 s.m0Item)) := by
  have hkept := romBoot_kept (s.coldStart cause)
  refine ⟨?_, fun off hoff => ?_, hkept.eff, hkept.node, by rw [run_coldResetProg, hkept.cmt]; rfl, hkept.mem, hkept.lc,
    hkept.nvm, hkept.slots, hkept.inReset, hkept.meas⟩
  · rw [run_coldResetProg, State.fld, hkept.reg (coldStart_canon s cause) _ (by decide) (by decide)]
    exact coldStart_cause s cause h
  · simp only [romRegs, List.mem_cons, List.not_mem_nil, or_false, not_or] at hoff
    rw [run_coldResetProg, hkept.reg (coldStart_canon s cause) off hoff.2.1 hoff.2.2]
    exact coldStart_reg s cause off hoff.1

theorem exec_coldReset (cause : Byte) (s : State) (hlo : 1 ≤ cause.toNat) (hhi : cause.toNat ≤ 3) :
    exec (.coldReset cause) s = .next ((coldResetProg cause.toNat).run s) := by
  change Host.Outcome.next ((Prog.when (decide (1 ≤ cause.toNat) && decide (cause.toNat ≤ 3)) _).run s) = _
  simp [hlo, hhi]

theorem completes_powerOn (s : State) : Completes .powerOn s (fun t =>
    t.fld F.CPX_RESET_CAUSE_CAUSE = 1 ∧ (∀ off, off ≠ R.CPX_RESET_CAUSE → t.reg off = resetWord off) ∧
    t.node = .sapling ∧ t.ctl.inReset = true ∧ t.pins.tilePg = true ∧ t.lc = s.lc ∧ t.secVersion = s.secVersion ∧
    t.nvm = s.nvm) :=
  ⟨_, rfl, coldStart_cause s 1 (by decide), coldStart_reg s 1, rfl, rfl, rfl, rfl, rfl, rfl⟩

theorem exec_sysResetAssert (n : Nat) (s : State) (h : 1000 ≤ n) :
    exec (.sysResetAssert n) s = .next ((keepTrip s.hkp.tripped).run ((coldResetProg 2).run s)) := by
  change Host.Outcome.next ((Prog.when (decide (1000 ≤ n)) _).run s) = _
  simp [h]

/-- Settles O15, by what a cold reset leaves. -/
theorem coldResets : Obligations.ColdResets := by
  intro s
  refine ⟨fun cause hlo hhi => ⟨_, exec_coldReset cause s hlo hhi, run_coldResetProg_leaves s _ cause.isLt⟩,
    completes_powerOn s, fun n hn => ?_, fun n hn htrip => ?_, fun n hn htrip => ?_, fun htrip => ?_, fun htrip => ?_⟩
  · exact ⟨_, rfl, by simp [hn]⟩
  · exact ⟨_, exec_sysResetAssert n s hn, by rw [htrip]; exact exec_coldReset 2 s (by decide) (by decide)⟩
  · obtain ⟨hcause, -⟩ := run_coldResetProg_leaves s 2 (by decide)
    refine ⟨_, exec_sysResetAssert n s hn, ?_⟩
    rw [htrip]
    generalize (coldResetProg 2).run s = u at hcause
    simpa [keepTrip] using hcause
  · refine ⟨_, rfl, ?_⟩
    simp only [Prog.run_guard, htrip, if_true]
    exact exec_coldReset 3 s (by decide) (by decide)
  · exact ⟨_, rfl, by simp [htrip]⟩

/-! ### Warm resets -/

theorem Sparse.read_below {n : Nat} (d : Nat → BitVec n) (l : List (Nat × BitVec n)) (lo k : Nat)
    (h : Sparse.wfFrom d lo l = true) (hk : k < lo) : Sparse.read d l k = d k := by
  cases l with
  | nil => rfl
  | cons p t =>
    obtain ⟨a, v⟩ := p
    simp only [Sparse.wfFrom, Bool.and_eq_true, decide_eq_true_eq] at h
    rw [Sparse.read, if_pos (by omega)]

/-- A register at its reset value stays there over a warm reset. -/
theorem warmWord_resetWord (off : Nat) : warmWord off (resetWord off) = resetWord off := by
  unfold warmWord
  split
  · rw [BitVec.and_comm, BitVec.and_comm _ (~~~_), ← BitVec.and_or_distrib_right]
    have hfull : 4294967295#32 &&& resetWord off = resetWord off := BitVec.allOnes_and
    simp [hfull]
  · rfl

/-- Each register of the store after a warm reset (R16). -/
theorem read_warmRegs (l : List (Nat × Word)) (lo k : Nat) (h : Sparse.wfFrom resetWord lo l = true) :
    Sparse.read resetWord (warmRegs l) k = warmWord k (Sparse.read resetWord l k) := by
  induction l generalizing lo with
  | nil => exact (warmWord_resetWord k).symm
  | cons p t ih =>
    obtain ⟨a, v⟩ := p
    simp only [Sparse.wfFrom, Bool.and_eq_true, decide_eq_true_eq] at h
    have ih := ih (a + 1) h.2
    have hbelow (hk : k ≤ a) : Sparse.read resetWord (warmRegs t) k = resetWord k :=
      Sparse.read_below _ _ (a + 1) k (warmRegs_wfFrom t (a + 1) h.2) (by omega)
    have hcons : warmRegs ((a, v) :: t) =
        if warmWord a v = resetWord a then warmRegs t else (a, warmWord a v) :: warmRegs t := by
      rw [warmRegs, List.filterMap_cons]
      split <;> split at * <;> simp_all [warmRegs]
    rw [hcons, Sparse.read]
    by_cases hlt : k < a
    · rw [if_pos hlt, warmWord_resetWord]
      split
      · exact hbelow (by omega)
      · rw [Sparse.read, if_pos hlt]
    · rw [if_neg hlt]
      by_cases heq : k = a
      · subst heq
        rw [if_pos rfl]
        split
        case isTrue hreset => rw [hreset, hbelow (Nat.le_refl _)]
        case isFalse => rw [Sparse.read, if_neg (Nat.lt_irrefl _), if_pos rfl]
      · rw [if_neg heq, ← ih]
        split
        · rfl
        · rw [Sparse.read, if_neg hlt, if_neg heq]

/-- What a warm reset leaves (R16, Table 17.2). -/
def WarmLeft (cause : Nat) (s t : State) : Prop :=
  t.fld F.CPX_RESET_CAUSE_CAUSE = cause ∧ (∀ off, off ∉ romRegs → t.reg off = warmWord off (s.reg off)) ∧
    t.node = .sapling ∧ t.cmt.screen = .dark ∧ t.lc = s.lc ∧ t.nvm = s.nvm ∧
    t.ctl.warmResets.length = s.ctl.warmResets.length + 1

/-- A warm reset shows nothing of acts before it that write no register and leave what it keeps. -/
theorem WarmLeft.of_before {cause : Nat} {s s' t : State} (h : WarmLeft cause s' t) (hreg : ∀ off, s'.reg off = s.reg off)
    (hlc : s'.lc = s.lc) (hnvm : s'.nvm = s.nvm) (hwarm : s'.ctl.warmResets = s.ctl.warmResets) : WarmLeft cause s t := by
  obtain ⟨hcause, hregs, hnode, hscreen, hlc', hnvm', hcount⟩ := h
  exact ⟨hcause, fun off hoff => by rw [hregs off hoff, hreg], hnode, hscreen, hlc'.trans hlc, hnvm'.trans hnvm,
    by rw [hcount, hwarm]⟩

/-- The state in which the ROM starts after a warm reset. -/
def State.warmStart (s : State) (cause : Nat) (t : Time) : State :=
  (Prog.setFld F.CPX_RESET_CAUSE_CAUSE cause).run
    ((Act.ctl (fun c => { c with warmResets := c.warmResets ++ [t] })).apply ((Act.reset true).apply s))

theorem run_warmResetAt (cause : Nat) (t : Time) (s : State) :
    (warmResetAt cause t).run s = romBoot.run (s.warmStart cause t) := rfl

theorem State.Canon.reset_warm {s : State} (h : s.Canon) : ((Act.reset true).apply s).Canon := h.apply _

theorem warmStart_canon {s : State} (h : s.Canon) (cause : Nat) (t : Time) : (s.warmStart cause t).Canon :=
  (h.reset_warm.apply _).run _

theorem warmStart_reg {s : State} (h : s.Canon) (cause : Nat) (t : Time) (off : Nat) (hoff : off ≠ R.CPX_RESET_CAUSE) :
    (s.warmStart cause t).reg off = warmWord off (s.reg off) :=
  (State.reg_store_other _ R.CPX_RESET_CAUSE off _ (h.reset_warm.apply _) hoff).trans (read_warmRegs s.regs 0 off h)

theorem warmStart_cause {s : State} (h : s.Canon) (cause : Nat) (t : Time) (hc : cause < 256) :
    (s.warmStart cause t).fld F.CPX_RESET_CAUSE_CAUSE = cause :=
  (Prog.run_setFld_same _ _ _ (h.reset_warm.apply _) (by decide) (by decide)).trans (Nat.mod_eq_of_lt hc)

theorem warmLeft_warmResetAt {s : State} (hs : s.Canon) (cause : Nat) (stamp : Time) (h : cause < 256) :
    WarmLeft cause s ((warmResetAt cause stamp).run s) := by
  have hkept := romBoot_kept (s.warmStart cause stamp)
  rw [run_warmResetAt]
  refine ⟨?_, fun off hoff => ?_, hkept.node, by rw [hkept.cmt]; rfl, hkept.lc, hkept.nvm, ?_⟩
  · rw [State.fld, hkept.reg (warmStart_canon hs cause stamp) _ (by decide) (by decide)]
    exact warmStart_cause hs cause stamp h
  · simp only [romRegs, List.mem_cons, List.not_mem_nil, or_false, not_or] at hoff
    rw [hkept.reg (warmStart_canon hs cause stamp) off hoff.2.1 hoff.2.2]
    exact warmStart_reg hs cause stamp off hoff.1
  · rw [hkept.warmResets]
    exact List.length_append

theorem completes_warmReset {s : State} (hs : s.Canon) (hawake : s.Awake) (cause : Byte) (stamp : Time)
    (hlo : 0x10 ≤ cause.toNat) (hhi : cause.toNat ≤ 0x14) :
    Completes (.warmReset cause stamp) s (WarmLeft cause.toNat s) := by
  refine Completes.of_go rfl hawake ?_
  simp only [Prog.run_when, hlo, hhi, decide_true, Bool.and_self, if_true]
  exact warmLeft_warmResetAt hs _ stamp cause.isLt

theorem completes_hkWatchdogExpire {s : State} (hs : s.Canon) (hawake : s.Awake) (core : Nat) (stamp : Time) (hlo : 8 ≤ core)
    (hhi : core < 12) : Completes (.hkWatchdogExpire core stamp) s (WarmLeft 0x12 s) := by
  refine Completes.of_go rfl hawake ?_
  simp only [Prog.run_when, hlo, hhi, decide_true, Bool.and_self, if_true, Prog.run_seq]
  exact (warmLeft_warmResetAt (hs.run _) 0x12 stamp (by decide)).of_before (fun _ => rfl) rfl rfl rfl

theorem completes_faultRestartTimer {s : State} (hs : s.Canon) (hawake : s.Awake) (stamp : Time) (hnode : s.node = .fault)
    (hsec : s.fld F.CPX_FAULT_RESTART_SEC ≠ 0) (hhour : inLastHour s.ctl.warmResets stamp < 3) :
    Completes (.faultRestartTimer stamp) s (WarmLeft 0x13 s) := by
  refine Completes.of_go rfl hawake ?_
  simp only [Prog.run_guard, hnode, hhour, bne_iff_ne, ne_eq, hsec, not_false_eq_true, beq_self_eq_true, decide_true,
    Bool.and_self, if_true, Bool.and_true, Bool.true_and]
  exact warmLeft_warmResetAt hs 0x13 stamp (by decide)

theorem completes_warmResetRequest {s : State} (hs : s.Canon) (hawake : s.Awake) (stamp : Time) (hbist : s.hkp.bist = none)
    (hen : s.flag F.HKP_CTRL_BIST_EN = false) : Completes (.warmResetRequest stamp) s (WarmLeft 0x10 s) := by
  have hrun : (warmRequest 0x10 stamp).run s = (warmResetAt 0x10 stamp).run s := by
    simp only [warmRequest, Prog.run_dyn, hbist, hen, Option.isSome_none, Bool.false_eq_true, if_false]
  refine Completes.of_go rfl hawake ?_
  rw [hrun]
  exact warmLeft_warmResetAt hs 0x10 stamp (by decide)

/-- The third CPX restart within the hour is a warm reset (R487). -/
theorem run_cpxRestartProg_warm {s : State} (stamp : Time) (h : 2 ≤ inLastHour s.ctl.cpxRestarts stamp) :
    (cpxRestartProg stamp).run s = (warmResetAt 0x14 stamp).run s := by
  simp only [cpxRestartProg, Prog.run_dyn, if_pos h]

theorem completes_bistDone_warm {s : State} (hs : s.Canon) (hawake : s.Awake) (stamp : Time) (temp : BitVec 16) (c : Byte)
    (item : Nat) (detail : BitVec 16) (ok : Bool) (hbist : s.hkp.bist = some temp) (hwarm : s.hkp.bistWarm = some c)
    (hoff : s.hkp.pwrOff = false) : Completes (.bistDone item detail ok stamp) s (WarmLeft c.toNat s) := by
  have hafter (u : State) (hu : u.Canon) (huwarm : u.hkp.bistWarm = some c) (huoff : u.hkp.pwrOff = false) :
      WarmLeft c.toNat u ((afterBist stamp).run u) := by
    simp only [afterBist, Prog.run_dyn, huwarm, huoff, Bool.false_eq_true, if_false, Prog.run_seq, Prog.run_act]
    exact (warmLeft_warmResetAt (hu.apply _) _ stamp c.isLt).of_before (fun _ => rfl) rfl rfl rfl
  refine Completes.of_go rfl hawake ?_
  simp only [Prog.run_dyn, hbist, Prog.run_seq]
  cases hptr : s.ptr with
  | none => exact hafter s hs hwarm hoff
  | some p =>
    cases ok with
    | false => exact hafter s hs hwarm hoff
    | true =>
      refine WarmLeft.of_before (hafter _ ?_ ?_ ?_) (fun _ => ?_) ?_ ?_ ?_
      · exact hs.run _
      · exact hwarm
      · exact hoff
      all_goals rfl

/-- Settles O16, cause by cause. -/
theorem warmResets : Obligations.WarmResets := by
  intro s stamp hinv hawake
  have hs := hinv.canon
  refine ⟨fun cause => completes_warmReset hs hawake cause stamp,
    fun core => completes_hkWatchdogExpire hs hawake core stamp, completes_faultRestartTimer hs hawake stamp,
    completes_warmResetRequest hs hawake stamp,
    fun temp c item detail ok => completes_bistDone_warm hs hawake stamp temp c item detail ok, fun h => ?_,
    fun core hcore h => ?_⟩
  · refine Completes.of_go rfl hawake ?_
    rw [run_cpxRestartProg_warm stamp h]
    exact warmLeft_warmResetAt hs 0x14 stamp (by decide)
  · refine Completes.of_go rfl hawake ?_
    simp only [Prog.run_when, hcore, decide_true, if_true, Prog.run_seq]
    rw [run_cpxRestartProg_warm (s := (Prog.raiseAt 1 stamp).run s) stamp h]
    exact (warmLeft_warmResetAt (hs.run _) 0x14 stamp (by decide)).of_before (fun _ => rfl) rfl rfl rfl

/-! ### CPX restarts and the hand-over (R487, R488, R520, R538) -/

theorem completes_faultRestartTimer_none (s : State) (stamp : Time)
    (h : s.node ≠ .fault ∨ s.fld F.CPX_FAULT_RESTART_SEC = 0 ∨ 3 ≤ inLastHour s.ctl.warmResets stamp) :
    Completes (.faultRestartTimer stamp) s (fun t => t = s) := by
  refine Completes.of_go_self rfl ?_
  rw [Prog.run_guard, if_neg]
  simp only [Bool.and_eq_true, beq_iff_eq, bne_iff_ne, decide_eq_true_eq, not_and]
  rcases h with h | h | h
  · exact fun hn => absurd hn.1 h
  · exact fun hn => absurd h hn.2
  · exact fun _ => Nat.not_lt.2 h

/-- A CPX restart that is no warm reset, with no session open (R487). -/
theorem run_cpxRestartProg {s : State} {stamp : Time} (h : inLastHour s.ctl.cpxRestarts stamp < 2) (hq : s.ctl.sessions = []) :
    (cpxRestartProg stamp).run s = (Act.met (fun m => { m with cal := none })).apply
      ((Act.ctl (fun c => { c with cpxRestarts := c.cpxRestarts ++ [stamp], restarting := true, l2 := [] })).apply s) := by
  simp only [cpxRestartProg, Prog.run_dyn, if_neg (Nat.not_le.2 h), Prog.run_block_cons, Prog.run_block_nil, Prog.run_act, hq,
    Prog.run_each_nil]

theorem cpxRestart_frame (s : State) (stamp : Time) : Frame [.ctl, .met] [] s
    ((Act.met (fun m => { m with cal := none })).apply
      ((Act.ctl (fun c => { c with cpxRestarts := c.cpxRestarts ++ [stamp], restarting := true, l2 := [] })).apply s)) :=
  (Act.frame_noRegs (by simp [Act.Within]) s).trans (Act.frame_noRegs (by simp [Act.Within]) _)

theorem completes_cpxRestartRequest {s : State} (hawake : s.Awake) {stamp : Time}
    (h : inLastHour s.ctl.cpxRestarts stamp < 2) (hq : s.ctl.sessions = []) :
    Completes (.cpxRestartRequest stamp) s (fun t =>
      t.ctl.restarting = true ∧ t.ctl.cpxRestarts = s.ctl.cpxRestarts ++ [stamp] ∧ t.met.cal = none ∧
      Frame [.ctl, .met] [] s t) := by
  refine Completes.of_go rfl hawake ?_
  rw [run_cpxRestartProg h hq]
  exact ⟨rfl, rfl, rfl, cpxRestart_frame s stamp⟩

theorem completes_acWatchdogExpire {s : State} (hawake : s.Awake) {stamp : Time}
    (h : inLastHour s.ctl.cpxRestarts stamp < 2) (hq : s.ctl.sessions = []) (core : Nat) (hcore : core < 8) :
    Completes (.acWatchdogExpire core stamp) s (fun t =>
      Pended 1 s t ∧ t.ctl.restarting = true ∧ t.ctl.cpxRestarts = s.ctl.cpxRestarts ++ [stamp] ∧ t.met.cal = none ∧
      Frame [.ctl, .met] [] s t) := by
  have hq' : ((Prog.raiseAt 1 stamp).run s).ctl.sessions = [] := State.raised_sessions_nil s 1 stamp s.ctl hq
  have hraise : Frame [.ctl, .met] [] s ((Prog.raiseAt 1 stamp).run s) := Prog.Does.frame_noRegs (by simp)
  refine Completes.of_go rfl hawake ?_
  simp only [Prog.run_when, hcore, decide_true, if_true, Prog.run_seq]
  rw [run_cpxRestartProg (s := (Prog.raiseAt 1 stamp).run s) h hq']
  exact ⟨rfl, rfl, rfl, rfl, hraise.trans (cpxRestart_frame _ stamp)⟩

theorem completes_cpxRestartDone {s : State} (hawake : s.Awake) (h : s.ctl.restarting = true) :
    Completes .cpxRestartDone s (fun t =>
      t.ctl.restarting = false ∧
      t.sec.upd = (if s.sec.trialFrom.isSome && s.sec.upd == .armed then .trial else s.sec.upd) ∧
      Frame [.ctl, .sec, .freeCount] [] s t) := by
  refine Completes.of_go rfl hawake ⟨?_, ?_, Prog.Does.frame_noRegs ?_⟩
  case refine_3 =>
    simp only [Prog.does_guard, Prog.does_block_cons, setUpd, Prog.does_dyn]
    refine fun _ => ⟨by simp [Act.Within], fun _ => ?_, trivial⟩
    split <;> simp [Act.Within]
  all_goals
    by_cases htrial : s.sec.trialFrom.isSome = true ∧ s.sec.upd = .armed
    · simp [h, htrial, setUpd]
    · simp [h, htrial]

theorem measureComponents_frame (head : List Byte) : (measureComponents head).Only (Act.Within [.meas] []) :=
  Prog.only_each _ _ fun _ => by simp [Act.Within]

/-- What the hand-over to an activated bundle leaves (R520, R538). -/
def HandedOver (a : Fsn) (stamp : Time) (s t : State) : Prop :=
  t.cmt.armed = none ∧ t.sec.trialFrom = some a ∧ t.sec.trialSince = stamp ∧ t.sec.commits = 0 ∧
    t.ctl.restarting = true ∧ Frame [.cmt, .sec, .ctl, .met, .meas] [] s t

theorem completes_activationHandover {s : State} (hawake : s.Awake) {stamp : Time} {a : Fsn × Word}
    (harmed : s.cmt.armed = some a) (h : inLastHour s.ctl.cpxRestarts stamp < 2) (hq : s.ctl.sessions = []) :
    Completes (.activationHandover stamp) s (HandedOver a.1 stamp s) := by
  let head := (s.slot s.sec.armedSlot).head
  let measured : Prog := .block [measure 9 ((head.drop 64).take (80 * byteAt head 5)), measureComponents head,
    measure 7 s.image.bytes]
  let u := measured.run s
  have hmeas : Frame [.meas] [] s u := Prog.frame_noRegs _ measured
    ⟨by simp [measure, Act.Within], measureComponents_frame head, by simp [measure, Act.Within], trivial⟩ s
  have hctl : u.ctl = s.ctl := hmeas.1 .ctl (by decide) (by decide)
  let v := (Act.sec (fun x => { x with trialFrom := some a.1, trialSince := stamp, commits := 0 })).apply
    ((Act.cmt (fun c => { c with armed := none })).apply u)
  have hvctl : v.ctl = s.ctl := hctl
  have htaken : Frame [.cmt, .sec, .ctl, .met, .meas] [] u v :=
    (Act.frame_noRegs (by simp [Act.Within]) u).trans (Act.frame_noRegs (by simp [Act.Within]) _)
  have hrun := run_cpxRestartProg (s := v) (stamp := stamp) (by rwa [hvctl]) (by rwa [hvctl])
  have hover : HandedOver a.1 stamp s ((cpxRestartProg stamp).run v) := by
    rw [hrun]
    exact ⟨rfl, rfl, rfl, rfl, rfl, (hmeas.mono (by simp) (by simp)).trans (htaken.trans
      ((cpxRestart_frame v stamp).mono (by simp) (by simp)))⟩
  refine Completes.of_go rfl hawake ?_
  simp only [Prog.run_dyn, harmed]
  exact hover

/-- Settles O17, command by command. -/
theorem restartsWithinTheHour : Obligations.RestartsWithinTheHour :=
  ⟨completes_faultRestartTimer_none, fun _ _ hawake =>
    ⟨fun h hq => ⟨completes_cpxRestartRequest hawake h hq, completes_acWatchdogExpire hawake h hq⟩,
      completes_cpxRestartDone hawake, fun _ => completes_activationHandover hawake⟩⟩

/-! ### Boot-pointer records (R533 to R535, Table 18.10) -/

/-- The one-byte fields of a record hold bytes. -/
def BootPtr.InRange (p : BootPtr) : Prop := p.active < 256 ∧ p.attempts < 256 ∧ p.fallback < 256 ∧ p.config < 256

theorem byteAt_lt (l : List Byte) (i : Nat) : byteAt l i < 256 := (l.getD i 0).isLt

theorem leNat_leBytes (n v : Nat) : leNat (leBytes n v) = v % 256 ^ n := by
  induction n generalizing v with
  | zero => simp [leBytes, leNat, Nat.mod_one]
  | succ n ih =>
    have hpow : 256 ^ (n + 1) = 256 * 256 ^ n := Nat.pow_succ'
    rw [leBytes, leNat, ih, BitVec.toNat_ofNat, hpow, Nat.mod_mul]

@[simp] theorem length_leBytes (n v : Nat) : (leBytes n v).length = n := by
  induction n generalizing v with
  | zero => rfl
  | succ n ih => simp [leBytes, ih]

/-- The number at the front of bytes. -/
theorem leAt_front (n v : Nat) (c : List Byte) : leAt (leBytes n v ++ c) 0 n = v % 256 ^ n := by
  rw [leAt, List.drop_zero, List.take_left' (length_leBytes n v), leNat_leBytes]

theorem leAt_front_word (v : BitVec 32) (c : List Byte) : leAt (leBytes 4 v.toNat ++ c) 0 4 = v.toNat :=
  (leAt_front 4 _ c).trans (Nat.mod_eq_of_lt v.isLt)

/-- A number behind the front of bytes. -/
theorem leAt_behind (m v i n : Nat) (c : List Byte) (h : m ≤ i) : leAt (leBytes m v ++ c) i n = leAt c (i - m) n := by
  rw [leAt, leAt, List.drop_append, List.drop_of_length_le (by simp [h]), length_leBytes, List.nil_append]

theorem byteAt_front (v : Nat) (c : List Byte) : byteAt (leBytes 1 v ++ c) 0 = v % 256 := rfl

theorem byteAt_behind (m v i : Nat) (c : List Byte) (h : m ≤ i) : byteAt (leBytes m v ++ c) i = byteAt c (i - m) := by
  rw [byteAt, byteAt, List.getD_append_right _ _ _ _ (by simp [h]), length_leBytes]

theorem readPtr_inRange {b : List Byte} {p : BootPtr} (h : readPtr b = some p) : p.InRange := by
  unfold readPtr at h
  split at h
  · cases h
    exact ⟨byteAt_lt _ _, byteAt_lt _ _, byteAt_lt _ _, byteAt_lt _ _⟩
  · cases h

/-- What is written as a record reads back as that record (R535, Table 18.10). -/
theorem readPtr_bytes (p : BootPtr) (h : p.InRange) : readPtr p.bytes = some p := by
  obtain ⟨hactive, hattempts, hfallback, hconfig⟩ := h
  have hlen : p.body.length = 60 := by simp [BootPtr.body]
  have hbytes : p.bytes = p.body ++ (leBytes 4 (crc32c p.body).toNat ++ []) := by simp [BootPtr.bytes, withCrc]
  have hcrc : leAt p.bytes 60 4 = (crc32c (p.bytes.take 60)).toNat := by
    rw [hbytes, List.take_left' hlen, leAt, List.drop_left' hlen]
    exact leAt_front_word _ _
  have hat {i n x : Nat} (h : ∀ c, leAt (p.body ++ c) i n = x) : leAt p.bytes i n = x := hbytes ▸ h _
  have hbyte {i x : Nat} (h : ∀ c, byteAt (p.body ++ c) i = x) : byteAt p.bytes i = x := hbytes ▸ h _
  have hmagic : leAt p.bytes 0 4 = 0x54504F42 := hat fun c => by simp [BootPtr.body, leAt_front]
  have hseq : leAt p.bytes 4 4 = p.seq.toNat := hat fun c => by simp [BootPtr.body, leAt_behind, leAt_front_word]
  have hactiveId : leAt p.bytes 16 4 = p.activeId.toNat :=
    hat fun c => by simp [BootPtr.body, leAt_behind, leAt_front_word]
  have hfallbackId : leAt p.bytes 20 4 = p.fallbackId.toNat :=
    hat fun c => by simp [BootPtr.body, leAt_behind, leAt_front_word]
  have hb8 : byteAt p.bytes 8 = p.active :=
    hbyte fun c => by simp [BootPtr.body, byteAt_behind, byteAt_front, Nat.mod_eq_of_lt hactive]
  have hb9 : byteAt p.bytes 9 = boolNat p.trial % 256 := hbyte fun c => by simp [BootPtr.body, byteAt_behind, byteAt_front]
  have hb10 : byteAt p.bytes 10 = p.attempts :=
    hbyte fun c => by simp [BootPtr.body, byteAt_behind, byteAt_front, Nat.mod_eq_of_lt hattempts]
  have hb11 : byteAt p.bytes 11 = p.fallback :=
    hbyte fun c => by simp [BootPtr.body, byteAt_behind, byteAt_front, Nat.mod_eq_of_lt hfallback]
  have hb12 : byteAt p.bytes 12 = p.config :=
    hbyte fun c => by simp [BootPtr.body, byteAt_behind, byteAt_front, Nat.mod_eq_of_lt hconfig]
  have hvalid : recordValid 0x54504F42 p.bytes = true := by
    have hsize : p.bytes.length = 64 := by simp [hbytes, hlen]
    simp only [recordValid, hcrc, hsize, hmagic, beq_self_eq_true, Bool.and_self]
  have htrial : (boolNat p.trial % 256 == 1) = p.trial := by cases p.trial <;> rfl
  rw [readPtr, if_pos hvalid, hseq, hactiveId, hfallbackId, hb8, hb9, hb10, hb11, hb12, htrial]
  simp

/-- A copy with the next SEQ is the later one (R31, R535). -/
theorem laterFsn_succ (x : BitVec 32) : laterFsn (x + 1#32) x = true := by
  have h : x + 1#32 - x = 1 := by bv_omega
  rw [laterFsn, h]
  decide

theorem laterFsn_pred (x : BitVec 32) : laterFsn x (x + 1#32) = false := by
  have h : x - (x + 1#32) = -1 := by bv_omega
  rw [laterFsn, h]
  decide

/-- The record in force of two copies. -/
def ptrOf (l : List (List Byte)) : Option BootPtr := (currentPtr l).bind (fun i => readPtr (l.getD i []))

/-- The copy beside the one in force, with the next SEQ, is the one in force. -/
theorem ptrOf_set_next {l : List (List Byte)} {p q : BootPtr} (hlen : l.length = 2) (hp : ptrOf l = some p)
    (hread : readPtr q.bytes = some q) (hseq : q.seq = p.seq + 1#32) :
    ptrOf (l.set (match currentPtr l with | some 0 => 1 | _ => 0) q.bytes) = some q := by
  obtain ⟨a, b, rfl⟩ := List.length_eq_two.1 hlen
  unfold ptrOf currentPtr at *
  simp only [List.getD_cons_zero, List.getD_cons_succ] at hp ⊢
  cases ha : readPtr a with
  | none =>
    cases hb : readPtr b with
    | none => simp [ha, hb, laterCopy] at hp
    | some y =>
      have hy : y = p := by simpa [ha, hb, laterCopy] using hp
      simp [hb, hy, laterCopy, hread, hseq, laterFsn_pred]
  | some x =>
    cases hb : readPtr b with
    | none =>
      have hx : x = p := by simpa [ha, hb, laterCopy] using hp
      simp [ha, hx, laterCopy, hread, hseq, laterFsn_succ]
    | some y =>
      by_cases hlater : laterFsn y.seq x.seq = true
      · have hy : y = p := by simpa [ha, hb, laterCopy, hlater] using hp
        subst hy
        simp [hb, laterCopy, hread, hseq, laterFsn_pred, hlater]
      · have hx : x = p := by simpa [ha, hb, laterCopy, hlater] using hp
        subst hx
        simp [ha, laterCopy, hread, hseq, laterFsn_succ, hlater]

/-- A record written beside the one in force is the one in force from then on (R534, R535). -/
theorem ptr_run_writePtr {q p : BootPtr} {s : State} (hfail : s.nvm.ptrFail = false) (hlen : s.sec.ptrs.length = 2)
    (hptr : s.ptr = some p) (hq : q.InRange) : ((writePtr q).run s).ptr = some { q with seq := p.seq + 1 } ∧
      ((writePtr q).run s).sec.ptrs.length = 2 := by
  have hsec : ((writePtr q).run s).sec.ptrs = s.sec.ptrs.set (match currentPtr s.sec.ptrs with | some 0 => 1 | _ => 0)
      ({ q with seq := p.seq + 1 } : BootPtr).bytes := by
    simp only [writePtr, Prog.run_dyn, hfail, hptr]
    rfl
  refine ⟨?_, by rw [hsec, List.length_set, hlen]⟩
  change ptrOf _ = _
  rw [hsec]
  exact ptrOf_set_next hlen hptr (readPtr_bytes _ hq) rfl

theorem slotPasses_congr {s t : State} (hslots : t.sec.slots = s.sec.slots) (hversion : t.secVersion = s.secVersion)
    (i : Nat) : t.slotPasses i = s.slotPasses i := by
  unfold State.slotPasses State.slot
  rw [hslots, hversion]

theorem ptr_congr {s t : State} (h : t.sec.ptrs = s.sec.ptrs) : t.ptr = s.ptr := congrArg ptrOf h

theorem ptrs_run_setUpd (u : UpdState) (s : State) : ((setUpd u).run s).sec.ptrs = s.sec.ptrs := by
  by_cases h : s.sec.upd = u <;> simp [setUpd, h]

theorem ptrs_run_bootSlot (p : BootPtr) (s : State) : ((bootSlot p).run s).sec.ptrs = s.sec.ptrs := by
  cases htrial : p.trial <;> simp [bootSlot, htrial, ptrs_run_setUpd, Prog.withFreeStamp]

theorem ptrs_run_romHalt (s : State) : (romHalt.run s).sec.ptrs = s.sec.ptrs := rfl

/-- After the choice of a slot for a confirmed record, a confirmed record is in force: the same one where its slot passes. -/
theorem ptr_run_bootChecked {q : BootPtr} {s : State} (hfail : s.nvm.ptrFail = false) (hlen : s.sec.ptrs.length = 2)
    (hptr : s.ptr = some q) (htrial : q.trial = false) :
    ∃ r, ((bootChecked q).run s).ptr = some r ∧ r.trial = false ∧ (s.slotPasses q.active = true → r = q) := by
  have hrange : q.InRange := by
    obtain ⟨i, -, hi⟩ := Option.bind_eq_some_iff.1 hptr
    exact readPtr_inRange hi
  simp only [bootChecked, Prog.run_dyn]
  split
  case isTrue h => exact ⟨q, (ptr_congr (ptrs_run_bootSlot q s)).trans hptr, htrial, fun _ => rfl⟩
  case isFalse h =>
    split
    case isTrue h' =>
      let q' : BootPtr := { q with
        active := 1 - q.active, trial := false, attempts := 0
        activeId := BitVec.ofNat 32 (headBundleId (s.slot (1 - q.active)).head) }
      have hq' : q'.InRange := ⟨show 1 - q.active < 256 by omega, Nat.zero_lt_succ _, hrange.2.2.1, hrange.2.2.2⟩
      obtain ⟨hnew, -⟩ := ptr_run_writePtr hfail hlen hptr hq'
      exact ⟨_, (ptr_congr (ptrs_run_bootSlot q' _)).trans hnew, rfl, fun hpass => absurd hpass h⟩
    case isFalse => exact ⟨q, (ptr_congr (ptrs_run_romHalt s)).trans hptr, htrial, fun hpass => absurd hpass h⟩

/-- The ROM's work leaves a confirmed record in force, the same one where its slot passes (R535). -/
theorem ptr_run_romBoot {q : BootPtr} {s : State} (hfail : s.nvm.ptrFail = false) (hlen : s.sec.ptrs.length = 2)
    (hptr : s.ptr = some q) (htrial : q.trial = false) :
    ∃ r, (romBoot.run s).ptr = some r ∧ r.trial = false ∧ (s.slotPasses q.active = true → r = q) := by
  rw [run_romBoot, hptr]
  let u := (Act.extend 0 (Config.sha3 s.m0Item)).apply s
  unfold romAfterM0
  split
  · exact ⟨q, hptr, htrial, fun _ => rfl⟩
  · exact ⟨q, hptr, htrial, fun _ => rfl⟩
  · have hrun : (bootPtr q).run u = (bootChecked q).run ((loadSecBoot q).run ((measure 1 q.bytes).run u)) := by
      simp only [bootPtr, htrial, Bool.false_and, Bool.false_eq_true, if_false, Prog.run_seq, Prog.run_block_cons,
        Prog.run_block_nil]
    have hload (v : State) : ((loadSecBoot q).run v).sec = v.sec ∧ ((loadSecBoot q).run v).nvm = v.nvm ∧
        ((loadSecBoot q).run v).secVersion = v.secVersion := ⟨rfl, rfl, rfl⟩
    obtain ⟨hsec, hnvm, hversion⟩ := hload ((measure 1 q.bytes).run u)
    have hsec' : ((loadSecBoot q).run ((measure 1 q.bytes).run u)).sec = s.sec := hsec
    have hversion' : ((loadSecBoot q).run ((measure 1 q.bytes).run u)).secVersion = s.secVersion := hversion
    obtain ⟨r, hr, hrt, hpass⟩ := ptr_run_bootChecked (q := q) (s := (loadSecBoot q).run ((measure 1 q.bytes).run u))
      (by rw [hnvm]; exact hfail) (by rw [hsec']; exact hlen) ((ptr_congr (by rw [hsec'])).trans hptr) htrial
    exact ⟨r, hrun ▸ hr, hrt, fun h => hpass ((slotPasses_congr (by rw [hsec']) hversion' _).trans h)⟩

/-! ### The end of a trial (R541) -/

/-- The state in which the ROM starts at the end of a trial, for a record in force. -/
def State.trialEnd (s : State) (p : BootPtr) : State :=
  let u := (writePtr { p with active := p.fallback, activeId := p.fallbackId, trial := false }).run s
  ((Act.free 1).apply ((Act.free 1).apply u)).warmStart ((Config.freeWord u.freeCount).toNat % 256)
    (Config.freeStamp ((Act.free 1).apply u).freeCount)

theorem run_fallBack {s : State} {p : BootPtr} (hptr : s.ptr = some p) :
    fallBack.run s = (Prog.raise 22).run (romBoot.run (s.trialEnd p)) := by
  simp only [fallBack, Prog.run_dyn, hptr]
  rfl

/-- The row of the event routes (Table 17.15). -/
def routeRow : RegRow :=
  { off := 0x1000, dims := [(640, 0x4)], flds := [⟨11, 0, .rw, 1, .any, .none⟩, ⟨12, 12, .rw, 0, .any, .none⟩] }

theorem findReg_route : findReg (R.CPX_EV_ROUTE 22) = some routeRow := by decide +kernel

/-- A warm reset leaves the route of EV_SEC_UPD_FALLBACK at its reset value, whatever form the register store has. -/
theorem route_absent_warmStart (s : State) (cause : Nat) (t : Time) :
    R.CPX_EV_ROUTE 22 ∉ (s.warmStart cause t).regs.map Prod.fst := by
  have hwarm (v : Word) : warmWord (R.CPX_EV_ROUTE 22) v = resetWord (R.CPX_EV_ROUTE 22) := by
    have hmask : stickyMask routeRow.flds = 0 := by decide
    have hfull : resetWord (R.CPX_EV_ROUTE 22) &&& 4294967295#32 = resetWord (R.CPX_EV_ROUTE 22) := BitVec.and_allOnes
    simp [warmWord, findReg_route, hmask, hfull]
  intro hmem
  rcases Sparse.mem_write_keys hmem with h | h
  · exact absurd h (by decide)
  · obtain ⟨p, hin, hkey⟩ := List.mem_map.1 h
    obtain ⟨q, -, hq⟩ := List.mem_filterMap.1 hin
    split at hq
    case isTrue => cases hq
    case isFalse hne =>
      cases hq
      exact hne (hkey ▸ hwarm q.2)

theorem pendSet_core0 (e : Nat) (pend : BitVec 7680) (he : e < 640) : (pendSet 1 e pend).getLsbD e = true := by
  have hrun : pendSet 1 e pend = pend ||| (1#7680 <<< e) := by
    simp [pendSet, List.range_succ, bitOf]
  simp [hrun, show e < 7680 by omega]

theorem secVersion_run_writePtr (q : BootPtr) (s : State) : ((writePtr q).run s).secVersion = s.secVersion := by
  have hload (t : State) : ((loadSecBoot q).run t).secVersion = t.secVersion := rfl
  cases hfail : s.nvm.ptrFail
  · simp only [writePtr, Prog.run_dyn, hfail, Bool.false_eq_true, if_false, Prog.run_block_cons, Prog.run_block_nil, hload]
    rfl
  · simp only [writePtr, Prog.run_dyn, hfail, if_true]
    rfl

/-- What the end of a trial has left when the ROM starts. -/
theorem trialEnd_leaves (s : State) (p : BootPtr) :
    (s.trialEnd p).node = .sapling ∧ (s.trialEnd p).lc = s.lc ∧ (s.trialEnd p).nvm = s.nvm ∧
      (s.trialEnd p).sec.slots = s.sec.slots ∧ (s.trialEnd p).secVersion = s.secVersion ∧
      (s.trialEnd p).ctl.warmResets.length = s.ctl.warmResets.length + 1 ∧
      (s.trialEnd p).sec.ptrs =
        ((writePtr { p with active := p.fallback, activeId := p.fallbackId, trial := false }).run s).sec.ptrs := by
  have hkept := (writePtr_rom { p with active := p.fallback, activeId := p.fallbackId, trial := false }).romKept s
  refine ⟨rfl, hkept.lc, hkept.nvm, hkept.slots, secVersion_run_writePtr _ s, ?_, rfl⟩
  exact List.length_append.trans (congrArg (fun l => l.length + 1) hkept.warmResets)

/-- Settles O18, by the record that the fallback writes and the ROM's reading of it. -/
theorem trialFallsBack : Obligations.TrialFallsBack := by
  intro s p hawake htrial hptr
  obtain ⟨hnode, hlc, hnvm, hslots, hversion, hwarm, hptrs⟩ := trialEnd_leaves s p
  have habsent : R.CPX_EV_ROUTE 22 ∉ (s.trialEnd p).regs.map Prod.fst := route_absent_warmStart _ _ _
  have hrun := run_fallBack hptr
  generalize s.trialEnd p = u at *
  have hkept := romBoot_kept u
  have hboot (q : BootPtr) := ptr_run_romBoot (s := u) (q := q)
  generalize romBoot.run u = v at *
  have hroute : v.reg (R.CPX_EV_ROUTE 22) = 1 :=
    (Sparse.read_absent _ _ _ (hkept.absent _ (by decide) (by decide) habsent)).trans (by decide +kernel)
  refine Completes.of_go rfl hawake ?_
  simp only [Prog.run_guard, htrial, beq_self_eq_true, Bool.true_or, if_true]
  rw [hrun]
  refine ⟨hkept.node.trans hnode, ?_, ?_, fun hfail hlen => ?_, hkept.lc.trans hlc, hkept.slots.trans hslots⟩
  · rw [← hwarm]
    exact congrArg List.length hkept.warmResets
  · change (pendSet (getBits (v.reg (R.CPX_EV_ROUTE 22)) 11 0) 22 v.ctl.pend).getLsbD 22 = true
    rw [hroute]
    exact pendSet_core0 22 _ (by decide)
  · obtain ⟨-, hattempts, hfallback, hconfig⟩ : p.InRange := by
      obtain ⟨i, -, hi⟩ := Option.bind_eq_some_iff.1 hptr
      exact readPtr_inRange hi
    obtain ⟨hnew, hnewlen⟩ := ptr_run_writePtr (q := { p with active := p.fallback, activeId := p.fallbackId, trial := false })
      hfail hlen hptr ⟨hfallback, hattempts, hfallback, hconfig⟩
    obtain ⟨r, hr, hrt, hpass⟩ := hboot _ (by rw [hnvm]; exact hfail) (by rw [hptrs]; exact hnewlen)
      ((ptr_congr hptrs).trans hnew) rfl
    refine ⟨r, hr, hrt, fun h => ?_⟩
    rw [hpass ((slotPasses_congr hslots hversion _).trans h)]
    exact ⟨rfl, rfl⟩

end Sys2Proof.Machine
end

section
/-! PROOF. What shared programs keep: acts that touch only named parts, registers of a set, and of the control state only
events; the sending of packets, votes, and the entry into FAULT (R46, R373, R409, R415, R559, R560). -/

namespace Sys2Proof.Machine

/-! ### Acts within parts and a set of registers -/

/-- An open session that subscribes to nothing is the same in both lists (R493). -/
def QuietKept (l l' : List PmpSession) : Prop := ∀ id q, l.find? (fun q => q.id == id && q.opened) = some q → q.subMask = 0 →
  l'.find? (fun q => q.id == id && q.opened) = some q

/-- Sessions changed one by one, each still itself, hold the same one under an id. -/
theorem find_session_map (l : List PmpSession) (id : Nat) {f : PmpSession → PmpSession}
    (hid : ∀ q, (f q).id = q.id) (hop : ∀ q, (f q).opened = q.opened) :
    (l.map f).find? (fun q => q.id == id && q.opened) = (l.find? (fun q => q.id == id && q.opened)).map f := by
  rw [List.find?_map]
  refine congrArg (Option.map f) (congrArg (fun p => l.find? p) (funext fun q => ?_))
  simp [hid, hop]

/-- The sessions after an event (R493). -/
theorem quietKept_raised (s : State) (e : Nat) (t : Time) : QuietKept s.ctl.sessions ((Prog.raiseAt e t).run s).ctl.sessions := by
  intro id q h hsub
  have hkept (r : EventRec) (x : PmpSession) : (queueRecord r x).id = x.id ∧ (queueRecord r x).opened = x.opened := by
    unfold queueRecord
    split
    · exact ⟨rfl, rfl⟩
    · split
      · exact ⟨rfl, rfl⟩
      · split <;> exact ⟨rfl, rfl⟩
  rw [Prog.raiseAt, Prog.run_dyn]
  dsimp only [Prog.run_act, Act.apply]
  split
  · rw [find_session_map _ _ (fun x => by split <;> simp [hkept]) (fun x => by split <;> simp [hkept]), h]
    simp [hsub]
  · exact h

/-- An act on the control state raises an event at most. -/
def EventsOnly (f : Control → Control) : Prop :=
  ∀ c, ∃ pd ss, f c = { c with pend := pd, sessions := ss } ∧ QuietKept c.sessions ss

/-- The act touches only the named parts, registers of the set `P`, and of the control state events (R491, R493). -/
def Act.In (parts : List Part) (P : Nat → Prop) : Act → Prop
  | .reg off _ => P off
  | .ctl f => Part.ctl ∈ parts ∨ EventsOnly f
  | a => a.Within parts []

/-- What such acts leave. -/
structure Spared (parts : List Part) (P : Nat → Prop) (s t : State) : Prop where
  same : ∀ p, p ∉ parts → p ≠ .regs → p ≠ .ctl → p.Same s t
  reg : ∀ off, ¬ P off → t.reg off = s.reg off
  events : Part.ctl ∉ parts → ∃ pd ss, t.ctl = { s.ctl with pend := pd, sessions := ss }

section
variable {parts : List Part} {P : Nat → Prop} {s t u : State}

theorem Spared.refl (parts : List Part) (P : Nat → Prop) (s : State) : Spared parts P s s :=
  ⟨fun p _ hr _ => (Frame.refl [] [] s).1 p List.not_mem_nil hr, fun _ _ => rfl, fun _ => ⟨_, _, rfl⟩⟩

theorem Spared.trans (h : Spared parts P s t) (h' : Spared parts P t u) : Spared parts P s u := by
  refine ⟨fun p hp hr hc => Part.Same.trans p (h.same p hp hr hc) (h'.same p hp hr hc),
    fun off ho => (h'.reg off ho).trans (h.reg off ho), fun hc => ?_⟩
  obtain ⟨pd, ss, ht⟩ := h.events hc
  obtain ⟨pd', ss', hu⟩ := h'.events hc
  exact ⟨pd', ss', by rw [hu, ht]⟩

theorem Spared.of_frame {offs : List Nat} (h : Frame parts offs s t) (hP : ∀ off ∈ offs, P off) : Spared parts P s t :=
  ⟨fun p hp hr _ => h.1 p hp hr, fun off ho => h.2 off fun hm => ho (hP off hm), fun hc => ⟨_, _, h.1 .ctl hc (by decide)⟩⟩

theorem Spared.mono {parts' : List Part} {P' : Nat → Prop} (h : Spared parts P s t) (hp : ∀ p ∈ parts, p ∈ parts')
    (hP : ∀ off, P off → P' off) : Spared parts' P' s t :=
  ⟨fun p hn => h.same p fun hm => hn (hp p hm), fun off hn => h.reg off fun hm => hn (hP off hm),
    fun hn => h.events fun hm => hn (hp .ctl hm)⟩

theorem Spared.fld (h : Spared parts P s t) (f : Fld) (hf : ¬ P f.off) : t.fld f = s.fld f := by
  rw [State.fld, h.reg _ hf, State.fld]

theorem Act.In.spared {a : Act} (h : a.In parts P) (hs : s.Canon) : Spared parts P s (a.apply s) := by
  cases a with
  | reg off v =>
    refine .of_frame (offs := [off]) (Act.frame parts [off] (.reg off v) (by simp [Act.Within]) s hs).2 fun o ho => ?_
    rwa [List.mem_singleton.1 ho]
  | ctl f =>
    have hframe : Frame (.ctl :: parts) [] s ((Act.ctl f).apply s) := Act.frame_noRegs (by simp [Act.Within]) s
    exact ⟨fun p hp hr hc => hframe.1 p (by simp [hp, hc]) hr, fun _ _ => rfl, fun hc => by
      obtain ⟨pd, ss, hctl, -⟩ := (h.resolve_left hc) s.ctl
      exact ⟨pd, ss, hctl⟩⟩
  | _ => exact .of_frame (Act.frame_noRegs (parts := parts) (by exact h) s) (by simp)

theorem Prog.Only.spared {p : Prog} (h : p.Only (Act.In parts P)) (hs : s.Canon) : Spared parts P s (p.run s) :=
  (Prog.run_keeps (fun t => t.Canon ∧ Spared parts P s t)
    (fun _ _ ha ht => ⟨ht.1.apply _, ht.2.trans (ha.spared ht.1)⟩) p h s ⟨hs, Spared.refl parts P s⟩).2

/-! ### Programs of such acts -/

variable (parts P)

@[simp] theorem Prog.only_ite_iff {A : Act → Prop} {c : Prop} [Decidable c] {p q : Prog} :
    (if c then p else q).Only A ↔ (c → p.Only A) ∧ (¬ c → q.Only A) := by
  split <;> simp_all

@[simp] theorem Prog.only_when_iff {A : Act → Prop} {c : Bool} {p : Prog} :
    (Prog.when c p).Only A ↔ (c = true → p.Only A) := by
  cases c <;> simp [Prog.when]

@[simp] theorem Prog.only_guard_iff {A : Act → Prop} {c : State → Bool} {p : Prog} :
    (Prog.guard c p).Only A ↔ p.Only A ∨ Anyway ((Prog.guard c p).Only A) (fun _ => true) :=
  iff_or_anyway (Prog.only_guard c)

@[simp] theorem Prog.only_each_iff {A : Act → Prop} {α : Type} {l : List α} {f : α → Prog} :
    (Prog.each l f).Only A ↔ ∀ x ∈ l, (f x).Only A := by
  induction l with
  | nil => simp [Prog.each, Prog.only_nil]
  | cons x l ih => 
    rw [show (Prog.each (x :: l) f).Only A ↔ (f x).Only A ∧ (Prog.each l f).Only A from Iff.rfl, ih]
    simp

@[simp] theorem Prog.setReg_in (off : Nat) (v : Word) : (Prog.setReg off v).Only (Act.In parts P) ↔ P off := Iff.rfl
@[simp] theorem Prog.setFld_in (f : Fld) (v : Nat) : (Prog.setFld f v).Only (Act.In parts P) ↔ P f.off :=
  ⟨fun h => h .reset, fun h _ => h⟩
@[simp] theorem Prog.setFlag_in (f : Fld) (b : Bool) : (Prog.setFlag f b).Only (Act.In parts P) ↔ P f.off :=
  Prog.setFld_in parts P f _
@[simp] theorem Prog.count_in (f : Fld) (n : Nat) : (Prog.count f n).Only (Act.In parts P) ↔ P f.off :=
  ⟨fun h => h .reset .reset, fun h _ _ => h⟩
@[simp] theorem Prog.countWrap_in (f : Fld) (n : Nat) : (Prog.countWrap f n).Only (Act.In parts P) ↔ P f.off :=
  ⟨fun h => h .reset .reset, fun h _ _ => h⟩
@[simp] theorem Prog.send_in (o : Out) : (Prog.send o).Only (Act.In parts P) ↔ Part.out ∈ parts := Iff.rfl
@[simp] theorem Prog.raiseAt_in (e : Nat) (t : Time) : (Prog.raiseAt e t).Only (Act.In parts P) :=
  fun s => .inr fun c => ⟨_, _, rfl, quietKept_raised { s with ctl := c } e t⟩
@[simp] theorem Prog.raise_in (e : Nat) : (Prog.raise e).Only (Act.In parts P) ↔ Part.freeCount ∈ parts :=
  ⟨fun h => (h .reset).1, fun h _ => ⟨h, Prog.raiseAt_in parts P e _⟩⟩
@[simp] theorem Prog.withFree_in (f : Word → Prog) : (Prog.withFree f).Only (Act.In parts P) ↔
    (Part.freeCount ∈ parts ∧ ∀ w, (f w).Only (Act.In parts P)) ∨ Anyway ((Prog.withFree f).Only (Act.In parts P)) (fun _ => true) :=
  iff_or_anyway fun h _ => ⟨h.1, h.2 _⟩
@[simp] theorem Prog.withFreeStamp_in (f : Time → Prog) : (Prog.withFreeStamp f).Only (Act.In parts P) ↔
    (Part.freeCount ∈ parts ∧ ∀ w, (f w).Only (Act.In parts P)) ∨
      Anyway ((Prog.withFreeStamp f).Only (Act.In parts P)) (fun _ => true) :=
  iff_or_anyway fun h _ => ⟨h.1, h.2 _⟩

end

/-! ### Sending packets -/

/-- The registers from block FAB on, among which the counters of fabric ports lie; of block SDS only those at the place of a
port's transmit counter in its row. -/
abbrev fromFab (off : Nat) : Prop := 0x500000 ≤ off ∧ (off < 0x600000 ∨ off % 0x20 = 0xC)

theorem fromFab_port (p : Nat) : fromFab (F.FAB_P_TX_COUNT p).off := by
  show fromFab (0x50010C + 0x20 * p)
  omega

/-- The parts that sending a packet touches. -/
abbrev sendParts : List Part := [.fab, .out, .freeCount]

section
variable {parts : List Part} (hfab : Part.fab ∈ parts) (hout : Part.out ∈ parts) (hfree : Part.freeCount ∈ parts)
include hfab

theorem returnCredits_in (port cls n : Nat) : (returnCredits port cls n).Only (Act.In parts fromFab) := by
  simp [returnCredits, modPort, Act.In, Act.Within, hfab]

theorem copySent_in (hold credits : Nat) : (copySent hold credits).Only (Act.In parts fromFab) := by
  intro s
  dsimp only
  split
  · trivial
  · simp [returnCredits_in hfab, Act.In, Act.Within, hfab]

theorem enqueue_in (p : Nat) (c : Queued) : (enqueue p c).Only (Act.In parts fromFab) := by
  simp [enqueue, modPort, Act.In, Act.Within, hfab]

include hout

theorem drainPort_in (n p : Nat) : (drainPort n p).Only (Act.In parts fromFab) := by
  induction n with
  | zero => trivial
  | succ n ih =>
    intro s
    dsimp only
    split
    · trivial
    · simp only [modPort, sendPacket, copySent_in hfab, ih, Act.In, Act.Within, hfab, hout, Prog.only_block_cons,
        Prog.only_block_nil, Prog.only_act, Prog.only_seq, Prog.count_in, Prog.send_in, and_true, true_and]
      exact fromFab_port p

theorem pumpPort_in (p : Nat) : (pumpPort p).Only (Act.In parts fromFab) := by
  simp [pumpPort, drainPort_in hfab hout]

include hfree

theorem firstDiscard_in (code : Nat) (src : BitVec 16) : (firstDiscard code src).Only (Act.In parts fromFab) := by
  simp [firstDiscard, Act.In, Act.Within, hfab, hfree, fromFab, F.FAB_FIRST_DISCARD_CODE, F.FAB_FIRST_DISCARD_SRC,
    R.FAB_FIRST_DISCARD]

theorem discardPacket_in (code : Nat) (src : BitVec 16) : (discardPacket code src).Only (Act.In parts fromFab) := by
  refine ⟨firstDiscard_in hfab hout hfree code src, ?_⟩
  split <;> simp +decide [fromFab]

theorem deliverPacket_in (pkt : XtfPacket) : (deliverPacket pkt).Only (Act.In parts fromFab) := by
  have hdiscard := discardPacket_in hfab hout hfree
  have hfirst := firstDiscard_in hfab hout hfree
  intro s
  simp only [Prog.only_ite_iff]
  refine ⟨fun _ => hdiscard _ _, fun _ => ⟨fun _ => ?_, fun _ => by simp [hout]⟩⟩
  split
  · simp +decide [hfirst, Act.In, Act.Within, hfab, hout, hfree, fromFab]
  · simp [Act.In, Act.Within, hfab, hout]

theorem dispatchHops_in (input cls credits : Nat) (bad : Bool) (hops : List Hop) :
    (dispatchHops input cls credits bad hops).Only (Act.In parts fromFab) := by
  refine fun s => ⟨by simp [Act.In, Act.Within, hfab], ?_, ?_, ?_, trivial⟩
  · refine Prog.only_each _ _ fun h => ?_
    split
    · exact Prog.only_when _ (deliverPacket_in hfab hout hfree _)
    · exact enqueue_in hfab _ _
    · exact Prog.only_when _ (discardPacket_in hfab hout hfree _ _)
  · exact Prog.only_when _ (returnCredits_in hfab _ _ _)
  · refine Prog.only_each _ _ fun h => ?_
    split
    · exact pumpPort_in hfab hout _
    · trivial

theorem originate_in (cls mode proto : Nat) (domain : Bool) (dst : Word) (payload : List Byte) :
    (originate cls mode proto domain dst payload).Only (Act.In parts fromFab) :=
  fun _ => ⟨by simp [bumpSrcSeq, Act.In, Act.Within, hfab], fun _ => dispatchHops_in hfab hout hfree _ _ _ _ _⟩

theorem sendUnicast_in (cls proto : Nat) (dst : BitVec 16) (payload : List Byte) :
    (sendUnicast cls proto dst payload).Only (Act.In parts fromFab) := originate_in hfab hout hfree _ _ _ _ _ _

theorem sendTree_in (down domain : Bool) (proto : Nat) (payload : List Byte) :
    (sendTree down domain proto payload).Only (Act.In parts fromFab) := originate_in hfab hout hfree _ _ _ _ _ _

theorem sendLink_in (cls proto p : Nat) (payload : List Byte) :
    (sendLink cls proto p payload).Only (Act.In parts fromFab) := by
  intro s
  simp [bumpSrcSeq, dispatchHops_in hfab hout hfree, Act.In, Act.Within, hfab]

theorem trySendVote_in (hcmt : Part.cmt ∈ parts) (d : Bool) : (trySendVote d).Only (Act.In parts fromFab) := by
  intro s
  simp [sendVote, sendTree_in hfab hout hfree, Act.In, Act.Within, hcmt]

end

/-! ### The entry into FAULT -/

/-- The registers in which the entry into FAULT keeps its cause (R559). -/
def faultRegs : List Nat := [R.HKP_FAULT, R.HKP_FAULT_DETAIL, R.HKP_FAULT_FSN]

/-- What the entry into FAULT may touch beside the node state. -/
def faultParts : List Part := [.node, .apl, .meas, .cmt, .fab, .out, .freeCount]

/-- What a node records of a cause (R559). -/
def recordFault (block family code detail : Nat) (fsn : Fsn) (later : Bool) : Prog :=
  if later then .count F.HKP_FAULT_LATER 1
  else .block [.setFld F.HKP_FAULT_CODE code, .setFld F.HKP_FAULT_BLOCK block, .setFld F.HKP_FAULT_FAMILY family,
    .setFld F.HKP_FAULT_VALID 1, .setReg R.HKP_FAULT_DETAIL (BitVec.ofNat 32 detail), .setReg R.HKP_FAULT_FSN fsn]

/-- What a node that runs no trial does after it moved to FAULT (R341, R409, R415). -/
def leaveService (fsn : Fsn) (family code : Nat) : Prog :=
  .block [aplHalt, .act (.extend 14 (Config.codeDigest (family * 256 + code))), .raise 36,
    faultNotice fsn (family * 256 + code), trySendVote false, trySendVote true]

theorem run_enterFault {s : State} (hmove : nodeMove s.node .fault = true) (hno : s.NoTrial) (block family code detail : Nat) :
    (enterFault block family code detail).run s = (leaveService s.S family code).run
      ((moveNode .fault).run ((recordFault block family code detail s.S (s.flag F.HKP_FAULT_VALID)).run s)) := by
  obtain ⟨hupd, hfrom⟩ := hno
  have htrial : (s.sec.upd == .trial || s.sec.trialFrom.isSome) = false := by simp [hupd, hfrom]
  simp only [enterFault, Prog.run_dyn, hmove, htrial, Prog.run_block_cons, Prog.run_block_nil, Prog.run_when, Bool.true_or,
    Bool.false_eq_true, if_true, if_false, leaveService]
  rfl

/-- The registers that a node may change which leaves service for FAULT. -/
abbrev fromLeaving (off : Nat) : Prop := off = R.APL_STATUS ∨ fromFab off

theorem Prog.Only.in_mono {parts : List Part} {P Q : Nat → Prop} {p : Prog} (hp : p.Only (Act.In parts P))
    (h : ∀ off, P off → Q off) : p.Only (Act.In parts Q) := by
  refine Prog.only_mono (fun a ha => ?_) p hp
  cases a with
  | reg off _ => exact h off ha
  | _ => exact ha

theorem aplCounts_in {parts : List Part} : aplCounts.Only (Act.In parts fromLeaving) := by
  intro s
  simp +decide

theorem aplHalt_in {parts : List Part} (h : Part.apl ∈ parts) : aplHalt.Only (Act.In parts fromLeaving) :=
  ⟨by simp [Act.In, Act.Within, h], aplCounts_in⟩

theorem faultNotice_in {parts : List Part} (hfab : Part.fab ∈ parts) (hout : Part.out ∈ parts)
    (hfree : Part.freeCount ∈ parts) (fsn : Fsn) (reason : Nat) : (faultNotice fsn reason).Only (Act.In parts fromFab) :=
  fun _ => sendUnicast_in hfab hout hfree _ _ _ _

theorem leaveService_in (parts : List Part) (h : ∀ p ∈ [Part.apl, .meas, .cmt, .fab, .out, .freeCount], p ∈ parts)
    (fsn : Fsn) (family code : Nat) : (leaveService fsn family code).Only (Act.In parts fromLeaving) := by
  simp only [List.forall_mem_cons] at h
  obtain ⟨hapl, hmeas, hcmt, hfab, hout, hfree, -⟩ := h
  have hnotice := (faultNotice_in hfab hout hfree fsn (family * 256 + code)).in_mono (Q := fromLeaving) fun _ => .inr
  have hvote (d : Bool) := (trySendVote_in hfab hout hfree hcmt d).in_mono (Q := fromLeaving) fun _ => .inr
  simp [leaveService, aplHalt_in hapl, hnotice, hvote, Act.In, Act.Within, hmeas, hfree]

/-- The first cause of a FAULT is kept with its block, code and detail (R559). -/
theorem run_recordFault {s : State} (hs : s.Canon) (block family code detail : Nat) (fsn : Fsn) :
    let t := (recordFault block family code detail fsn false).run s
    t.fld F.HKP_FAULT_CODE = code % 256 ∧ t.fld F.HKP_FAULT_BLOCK = block % 256 ∧ t.fld F.HKP_FAULT_VALID = 1 ∧
      t.reg R.HKP_FAULT_DETAIL = BitVec.ofNat 32 detail := by
  let last : Prog := .block [.setReg R.HKP_FAULT_DETAIL (BitVec.ofNat 32 detail), .setReg R.HKP_FAULT_FSN fsn]
  let valid : Prog := .block [.setFld F.HKP_FAULT_FAMILY family, .setFld F.HKP_FAULT_VALID 1, last]
  have hcode : (Prog.block [.setFld F.HKP_FAULT_BLOCK block, valid]).Keeps (fun t => t.fld F.HKP_FAULT_CODE) := by
    simp +decide [valid, last]
  have hblock : valid.Keeps (fun t => t.fld F.HKP_FAULT_BLOCK) := by simp +decide [valid, last]
  have hvalid : last.Keeps (fun t => t.fld F.HKP_FAULT_VALID) := by simp +decide [last]
  refine ⟨?_, ?_, ?_, ?_⟩
  · exact (hcode.run (hs.run _)).trans (Prog.run_setFld_same F.HKP_FAULT_CODE code s hs (by decide) (by decide))
  · exact (hblock.run ((hs.run _).run _)).trans
      (Prog.run_setFld_same F.HKP_FAULT_BLOCK block _ (hs.run _) (by decide) (by decide))
  · exact (hvalid.run ((((hs.run _).run _).run _).run _)).trans
      (Prog.run_setFld_same F.HKP_FAULT_VALID 1 _ (((hs.run _).run _).run _) (by decide) (by decide))
  · refine (State.reg_store_other _ _ _ _ ?_ (by decide)).trans (State.reg_store_same _ _ _ _ ?_ rfl)
    · exact (((((hs.run _).run _).run _).run _).run _)
    · exact ((((hs.run _).run _).run _).run _)

theorem recordFault_in {parts : List Part} {P : Nat → Prop} (hP : ∀ off ∈ faultRegs, P off) (block family code detail : Nat)
    (fsn : Fsn) (later : Bool) : (recordFault block family code detail fsn later).Only (Act.In parts P) := by
  simp only [faultRegs, List.forall_mem_cons] at hP
  obtain ⟨hfault, hdetail, hfsn, -⟩ := hP
  cases later
  · exact ⟨fun _ => hfault, fun _ => hfault, fun _ => hfault, fun _ => hfault, hdetail, hfsn, trivial⟩
  · exact fun _ _ => hfault

/-- The registers that the entry into FAULT may change. -/
abbrev touchedByFault (off : Nat) : Prop := off ∈ faultRegs ∨ fromLeaving off

/-- The entry of a node that runs no trial into FAULT (R46, R559, R560). -/
theorem enterFault_enters {s : State} (hs : s.Canon) (hnode : s.node = .sapling ∨ s.node = .member) (hno : s.NoTrial)
    (block family code detail : Nat) :
    let t := (enterFault block family code detail).run s
    t.node = .fault ∧ Spared faultParts touchedByFault s t ∧ (s.flag F.HKP_FAULT_VALID = false →
      t.fld F.HKP_FAULT_CODE = code % 256 ∧ t.fld F.HKP_FAULT_BLOCK = block % 256 ∧ t.fld F.HKP_FAULT_VALID = 1 ∧
        t.reg R.HKP_FAULT_DETAIL = BitVec.ofNat 32 detail) := by
  have hmove : nodeMove s.node .fault = true := by rcases hnode with h | h <;> rw [h] <;> rfl
  have hrec := (recordFault_in (parts := []) (P := touchedByFault) (fun _ h => .inl h) block family code detail s.S
    (s.flag F.HKP_FAULT_VALID)).spared hs
  have hkept := run_recordFault hs block family code detail s.S
  rw [run_enterFault hmove hno]
  generalize hr : (recordFault block family code detail s.S (s.flag F.HKP_FAULT_VALID)).run s = r at hrec
  have hrc : r.Canon := hr ▸ hs.run _
  have hrnode : r.node = s.node := hrec.same .node (by simp) (by decide) (by decide)
  have hmoved : Spared faultParts (fun _ => False) r ((moveNode .fault).run r) := by
    refine Prog.Only.spared (fun _ => ?_) hrc
    simp [Act.In, Act.Within, faultParts]
  have hfault : ((moveNode .fault).run r).node = .fault := by simp [moveNode, hrnode, hmove, Act.apply]
  generalize hm : (moveNode .fault).run r = m at hmoved hfault
  have hmc : m.Canon := hm ▸ hrc.run _
  have hleave := (leaveService_in [.apl, .meas, .cmt, .fab, .out, .freeCount] (by simp) s.S family code).spared hmc
  generalize (leaveService s.S family code).run m = t at hleave
  have hall : Spared faultParts touchedByFault s t := (hrec.mono (by simp) fun _ => id).trans
    ((hmoved.mono (fun _ => id) fun _ => False.elim).trans (hleave.mono (by simp [faultParts]) fun _ => .inr))
  have hreg (off : Nat) (ho : ¬ fromLeaving off) : t.reg off = r.reg off := (hleave.reg off ho).trans (hmoved.reg off id)
  refine ⟨Eq.trans (hleave.same .node (by decide) (by decide) (by decide)) hfault, hall, fun hvalid => ?_⟩
  rw [← hvalid, hr] at hkept
  have hfld (f : Fld) (hf : ¬ fromLeaving f.off) : t.fld f = r.fld f := by rw [State.fld, hreg _ hf, State.fld]
  rw [hfld _ (by decide), hfld _ (by decide), hfld _ (by decide), hreg _ (by decide)]
  exact hkept

/-- The entry into FAULT leaves the code of the aperture's own condition (Table 11.9). -/
theorem enterFault_aplCode {s : State} (hs : s.Canon) (hnode : s.node = .sapling ∨ s.node = .member) (hno : s.NoTrial)
    (block family code detail : Nat) :
    ((enterFault block family code detail).run s).fld F.APL_STATUS_FAULT_CODE = s.fld F.APL_STATUS_FAULT_CODE := by
  have hmove : nodeMove s.node .fault = true := by rcases hnode with h | h <;> rw [h] <;> rfl
  have hsends {p : Prog} (h : p.Only (Act.In faultParts fromFab)) : p.Keeps (fun t => t.fld F.APL_STATUS_FAULT_CODE) :=
    fun _ ht => (h.spared ht).fld _ (by decide)
  have hvote (d : Bool) := hsends (trySendVote_in (by decide) (by decide) (by decide) (by decide) d)
  have hcounts : aplCounts.Keeps (fun t => t.fld F.APL_STATUS_FAULT_CODE) := by simp +decide [aplCounts]
  have hleave : (leaveService s.S family code).Keeps (fun t => t.fld F.APL_STATUS_FAULT_CODE) :=
    Prog.keeps_seq (Prog.keeps_seq (fun _ _ => rfl) hcounts) (Prog.keeps_seq (fun _ _ => rfl) (Prog.keeps_seq (fun _ _ => rfl)
      (Prog.keeps_seq (hsends (faultNotice_in (by decide) (by decide) (by decide) _ _)) (Prog.keeps_seq (hvote false)
        (Prog.keeps_seq (hvote true) Prog.keeps_nil)))))
  have hrec := (recordFault_in (parts := []) (fun _ h => h) block family code detail s.S (s.flag F.HKP_FAULT_VALID)).spared hs
  have hmoved : (moveNode .fault).Keeps (fun t => t.fld F.APL_STATUS_FAULT_CODE) := by simp [moveNode]
  rw [run_enterFault hmove hno]
  exact (hleave.run ((hs.run _).run _)).trans ((hmoved.run (hs.run _)).trans (hrec.fld _ (by decide)))

end Sys2Proof.Machine
end

section
/-! PROOF. The start sequence (R495, R499, R502, R557): steps that end and what they start, and steps that fail. -/

namespace Sys2Proof.Machine

/-! ### What the parts of a step keep -/

/-- The registers from block SDS on. -/
abbrev fromSds (off : Nat) : Prop := 0x1800000 ≤ off

theorem bringUpLane_in (i : Nat) (t : Time) : (bringUpLane i t).Only (Act.In [.sds, .out] fromSds) := by
  have hctrl : fromSds (F.SDS_LCTRL_ENABLE i).off := Nat.le_trans (by decide) (Nat.le_add_right _ _)
  simp [bringUpLane, restartLane, modLane, toTest, sendTs, Act.In, Act.Within, hctrl]

theorem startLanes_in (t : Time) : (startLanes t).Only (Act.In [.sds, .out] fromSds) := by
  simp [startLanes, bringUpLane_in]

theorem nvmPages_in (p : Nat × Nat) (t : Time) (parts : List Part) :
    (nvmPages p t).Only (Act.In parts (fun off => off = F.NVM_ECC_CORR.off ∨ off = F.NVM_ECC_UNCORR.off)) := by
  simp [nvmPages]

theorem readBistRecord_in : readBistRecord.Only (Act.In [.freeCount, .hkp] (fun _ => True)) := by
  intro s
  simp [writeRec, Act.In, Act.Within]

/-- The end of a step before 11 that measures nothing: its records, and events (R557, Table 17.11). -/
theorem stepEnds_in {step : Nat} (h : step ∈ [1, 2, 5, 8, 9, 10]) (t : Time) :
    (stepEnds step t).Only (Act.In [.freeCount, .hkp] (fun _ => True)) := by
  simp only [List.mem_cons, List.not_mem_nil, or_false] at h
  rcases h with rfl | rfl | rfl | rfl | rfl | rfl
  · simp [stepEnds]
  · exact readBistRecord_in
  all_goals trivial

/-- What of the start sequence an event leaves. -/
theorem Spared.start {parts : List Part} {P : Nat → Prop} {s t : State} (h : Spared parts P s t) (hc : Part.ctl ∉ parts) :
    t.ctl.started = s.ctl.started ∧ t.ctl.ended = s.ctl.ended ∧ t.ctl.stepMs = s.ctl.stepMs ∧
      t.ctl.startDone = s.ctl.startDone := by
  obtain ⟨pd, ss, hctl⟩ := h.events hc
  rw [hctl]
  exact ⟨rfl, rfl, rfl, rfl⟩

theorem Spared.flag {parts : List Part} {P : Nat → Prop} {s t : State} (h : Spared parts P s t) (f : Fld) (hf : ¬ P f.off) :
    t.flag f = s.flag f := by
  unfold State.flag
  rw [h.fld f hf]

/-- The steps that may start are recorded and, where step 7 is not among them, only lanes are brought up (R499). -/
theorem run_startSteps {s : State} (hs : s.Canon) (t : Time) (h7 : 7 ∉ s.ctl.startable) :
    let u := (startSteps t).run s
    u.ctl.started = s.ctl.started ++ s.ctl.startable ∧ u.ctl.ended = s.ctl.ended ∧ u.ctl.stepMs = s.ctl.stepMs ∧
      u.ctl.startDone = s.ctl.startDone ∧ u.node = s.node ∧ ∀ off, ¬ fromSds off → u.reg off = s.reg off := by
  let v := (Act.ctl (fun c => { c with started := c.started ++ s.ctl.startable })).apply s
  have hlanes : (Prog.when (s.ctl.startable.contains 5) (startLanes t)).Only (Act.In [.sds, .out] fromSds) :=
    Prog.only_when _ (startLanes_in t)
  have hrun : (startSteps t).run s = (Prog.when (s.ctl.startable.contains 5) (startLanes t)).run v := by
    simp [startSteps, h7, v]
  have hspared := hlanes.spared (s := v) (hs.apply _)
  obtain ⟨hstarted, hended, hms, hdone⟩ := hspared.start (by decide)
  rw [hrun]
  exact ⟨hstarted, hended, hms, hdone, hspared.same .node (by decide) (by decide) (by decide), hspared.reg⟩

theorem CPX_START_MS_ne (i : Nat) : R.CPX_START_MS i ≠ R.CPX_START := by
  unfold R.CPX_START_MS R.CPX_START
  omega

/-- Step 11 finishes the start (R499). -/
theorem run_stepEnds_last {s : State} (hs : s.Canon) (t : Time) :
    let u := (stepEnds 11 t).run s
    u.ctl.started = s.ctl.started ∧ u.ctl.ended = s.ctl.ended ∧ u.ctl.stepMs = s.ctl.stepMs ∧ u.ctl.startDone = true ∧
      u.node = s.node ∧ u.fld F.CPX_START_STEP = 11 ∧ u.fld F.CPX_START_FAILED = 0 := by
  let done := (Act.ctl (fun c => { c with startDone := true })).apply s
  have hdone : done.Canon := hs.apply _
  let times : Prog := .block [.each s.ctl.stepMs (fun p => .setFld (F.CPX_START_MS_MS (p.1 - 1)) (min p.2 65535)), .raiseAt 2 t]
  have htimes : times.Only (Act.In [] (fun off => off ≠ R.CPX_START)) := by
    simp [times, F.CPX_START_MS_MS, CPX_START_MS_ne]
  let v := (Prog.setFld F.CPX_START_FAILED 0).run ((Prog.setFld F.CPX_START_STEP 11).run done)
  have hv : v.Canon := (hdone.run _).run _
  have hrun : (stepEnds 11 t).run s = times.run v := rfl
  have hspared := htimes.spared hv
  obtain ⟨hstarted, hended, hms, hdone'⟩ := hspared.start (by decide)
  have hstep : v.fld F.CPX_START_STEP = 11 :=
    (Prog.run_setFld_other F.CPX_START_FAILED F.CPX_START_STEP 0 _ (hdone.run _) (by decide) (by decide) (by decide)).trans
      (Prog.run_setFld_same F.CPX_START_STEP 11 _ hdone (by decide) (by decide))
  have hfailed : v.fld F.CPX_START_FAILED = 0 :=
    Prog.run_setFld_same F.CPX_START_FAILED 0 _ (hdone.run _) (by decide) (by decide)
  rw [hrun]
  exact ⟨hstarted, hended, hms, hdone', hspared.same .node (by decide) (by decide) (by decide),
    (hspared.fld _ (by simp [F.CPX_START_STEP])).trans hstep, (hspared.fld _ (by simp [F.CPX_START_FAILED])).trans hfailed⟩

/-- What the end of a step of those that measure, rank and trim nothing leaves of the start sequence. -/
theorem run_stepEnds {s : State} (hs : s.Canon) {step : Nat} (h : step ∈ [1, 2, 5, 8, 9, 10, 11]) (t : Time) :
    let u := (stepEnds step t).run s
    u.ctl.started = s.ctl.started ∧ u.ctl.ended = s.ctl.ended ∧ u.ctl.stepMs = s.ctl.stepMs ∧ u.node = s.node ∧
      (step = 11 → u.ctl.startDone = true ∧ u.fld F.CPX_START_STEP = 11 ∧ u.fld F.CPX_START_FAILED = 0) := by
  by_cases h11 : step = 11
  · subst h11
    obtain ⟨hstarted, hended, hms, hdone, hnode, hstep, hfailed⟩ := run_stepEnds_last hs t
    exact ⟨hstarted, hended, hms, hnode, fun _ => ⟨hdone, hstep, hfailed⟩⟩
  · have hspared := (stepEnds_in (step := step) (by simp at h ⊢; omega) t).spared hs
    obtain ⟨hstarted, hended, hms, -⟩ := hspared.start (by decide)
    exact ⟨hstarted, hended, hms, hspared.same .node (by decide) (by decide) (by decide), fun h => absurd h h11⟩

/-- Step 7 does not follow a step that it does not wait for (Table 17.11). -/
theorem seven_notMem_startable {c : Control} {started ended : List Nat} {step : Nat}
    (hstarted : c.started = started.filter (fun k => k != step)) (hended : c.ended = ended ++ [step]) (h4 : 4 ≠ step)
    (h6 : 6 ≠ step) (h7 : 7 ≠ step) (h : 4 ∉ ended ∨ 6 ∉ ended ∨ 7 ∈ started ∨ 7 ∈ ended) : 7 ∉ c.startable := by
  simp only [Control.startable, List.mem_filter, hstarted, hended, stepDeps, List.all_cons, List.all_nil, Bool.and_eq_true,
    Bool.not_eq_true', List.contains_eq_mem, decide_eq_true_eq, decide_eq_false_iff_not, List.mem_append, List.mem_singleton,
    h4, h6, h7, bne_iff_ne, ne_eq, not_false_eq_true, and_true, or_false]
  tauto

/-- A step that ends is recorded with its time, and starts what its end allows (R499). -/
theorem completes_startStepEnd {s : State} (hs : s.Canon) (hawake : s.Awake) (step ms : Nat) (pages : Nat × Nat) (stamp : Time)
    (hstep : step ∈ [1, 2, 5, 8, 9, 10, 11]) (hmay : s.stepMayEnd step = true)
    (h7 : 4 ∉ s.ctl.ended ∨ 6 ∉ s.ctl.ended ∨ 7 ∈ s.ctl.started ∨ 7 ∈ s.ctl.ended) :
    Completes (.startStepEnd step none ms pages stamp) s (fun t =>
      t.ctl.ended = s.ctl.ended ++ [step] ∧ t.ctl.stepMs = s.ctl.stepMs ++ [(step, ms)] ∧
      (∀ k ∈ t.ctl.started, k ∈ s.ctl.started ∨ (stepDeps k).all t.ctl.ended.contains = true) ∧
      (step = 11 → t.ctl.startDone = true ∧ t.fld F.CPX_START_STEP = 11 ∧ t.fld F.CPX_START_FAILED = 0) ∧
      t.node = s.node) := by
  generalize hs0 : (Act.ctl (fun c => { c with
    started := c.started.filter (fun k => k != step)
    ended := c.ended ++ [step]
    stepMs := c.stepMs ++ [(step, ms)] })).apply s = s0
  have hc0 : s0.Canon := hs0 ▸ hs.apply _
  have hpages := (nvmPages_in pages stamp []).spared hc0
  generalize hs1 : (nvmPages pages stamp).run s0 = s1 at hpages
  have hc1 : s1.Canon := hs1 ▸ hc0.run _
  obtain ⟨hstarted1, hended1, hms1, -⟩ := hpages.start (by decide)
  have hnode1 : s1.node = s0.node := hpages.same .node (by decide) (by decide) (by decide)
  obtain ⟨hstarted2, hended2, hms2, hnode2, hlast2⟩ := run_stepEnds hc1 hstep stamp
  generalize hs2 : (stepEnds step stamp).run s1 = s2 at *
  have hc2 : s2.Canon := hs2 ▸ hc1.run _
  have hstarted : s2.ctl.started = s.ctl.started.filter (fun k => k != step) := by rw [hstarted2, hstarted1, ← hs0]; rfl
  have hended : s2.ctl.ended = s.ctl.ended ++ [step] := by rw [hended2, hended1, ← hs0]; rfl
  have hms : s2.ctl.stepMs = s.ctl.stepMs ++ [(step, ms)] := by rw [hms2, hms1, ← hs0]; rfl
  have hnode : s2.node = s.node := by rw [hnode2, hnode1, ← hs0]; rfl
  have hstartable : 7 ∉ s2.ctl.startable := by
    simp only [List.mem_cons, List.not_mem_nil, or_false] at hstep
    exact seven_notMem_startable hstarted hended (by omega) (by omega) (by omega) h7
  obtain ⟨hstarted3, hended3, hms3, hdone3, hnode3, hreg3⟩ := run_startSteps hc2 stamp hstartable
  have hrun : exec (.startStepEnd step none ms pages stamp) s = .next ((startSteps stamp).run s2) := by
    have hgo : exec (.startStepEnd step none ms pages stamp) s =
        .next ((Prog.when (s.stepMayEnd step) (.block [.act _, nvmPages pages stamp, stepEnds step stamp, startSteps stamp])).run s) :=
      congrArg _ (Prog.go_awake _ s hawake)
    rw [hgo, Prog.run_when, if_pos hmay, Prog.run_block_cons, Prog.run_act, hs0, Prog.run_block_cons, hs1, Prog.run_block_cons,
      hs2, Prog.run_block_cons, Prog.run_block_nil]
  refine ⟨_, hrun, hended3.trans hended, hms3.trans hms, fun k hk => ?_, fun h11 => ?_, hnode3.trans hnode⟩
  · rw [hstarted3, List.mem_append] at hk
    rcases hk with hk | hk
    · rw [hstarted] at hk
      exact .inl (List.mem_filter.1 hk).1
    · simp only [Control.startable, List.mem_filter, Bool.and_eq_true] at hk
      rw [hended3]
      exact .inr hk.2.2
  · obtain ⟨hdone, hnum, hfailed⟩ := hlast2 h11
    exact ⟨hdone3.trans hdone, by rw [State.fld, hreg3 _ (by decide)]; exact hnum, by rw [State.fld, hreg3 _ (by decide)]; exact hfailed⟩

/-! ### Steps that fail -/

/-- What the pages that a failed step read may change, and what then the step's failure does. -/
theorem completes_startStepFail {s : State} (hs : s.Canon) (hawake : s.Awake) {step : Nat} {f : StepFail} (ms : Nat)
    (pages : Nat × Nat) (stamp : Time) (hstep : step ∈ s.ctl.started)
    (hlater : f.code = 0x0B03 ∨ step ∈ [4, 5, 6, 8, 9, 10, 11]) :
    ∃ u, Spared [] (fun off => off = F.NVM_ECC_CORR.off ∨ off = F.NVM_ECC_UNCORR.off) s u ∧ u.Canon ∧
      exec (.startStepEnd step (some f) ms pages stamp) s = .next ((laterStepFails step f).run u) := by
  refine ⟨(nvmPages pages stamp).run s, (nvmPages_in pages stamp []).spared hs, hs.run _, ?_⟩
  have hgo : exec (.startStepEnd step (some f) ms pages stamp) s =
      .next ((Prog.guard (fun s => s.ctl.started.contains step) (.seq (nvmPages pages stamp)
        (if f.code = 0x0B03 then laterStepFails step f
         else if step ≤ 3 then earlyStepFails step
         else if step = 7 then trimFails
         else laterStepFails step f))).run s) :=
    congrArg _ (Prog.go_awake _ s hawake)
  have hprog : (if f.code = 0x0B03 then laterStepFails step f else if step ≤ 3 then earlyStepFails step
      else if step = 7 then trimFails else laterStepFails step f) = laterStepFails step f := by
    split
    · rfl
    · next hcode =>
      have hlow := hlater.resolve_left hcode
      simp only [List.mem_cons, List.not_mem_nil, or_false] at hlow
      rw [if_neg (by omega), if_neg (by omega)]
  rw [hgo, Prog.run_guard, if_pos (by simpa using hstep), hprog, Prog.run_seq]

/-- What a failed step records before it enters FAULT (R502, R557). -/
def failRecorded (step : Nat) (f : StepFail) : Prog :=
  .seq (stepFailed step)
    (.when (f.code.toNat = 0x0B03) (.block [.setFld F.HKP_BIST_ITEM f.item, .setFld F.HKP_BIST_DETAIL f.detail.toNat]))

theorem failRecorded_in (step : Nat) (f : StepFail) :
    (failRecorded step f).Only (Act.In [] (fun off => off = R.CPX_START ∨ off = R.HKP_BIST)) := by
  simp +decide [failRecorded, stepFailed]

theorem run_failRecorded {s : State} (hs : s.Canon) {step : Nat} (f : StepFail) (hstep : step < 16) :
    let t := (failRecorded step f).run s
    t.fld F.CPX_START_STEP = step ∧ t.fld F.CPX_START_FAILED = 1 ∧
      (f.code = 0x0B03 → t.fld F.HKP_BIST_ITEM = f.item % 16) := by
  let tested : Prog :=
    .when (f.code.toNat = 0x0B03) (.block [.setFld F.HKP_BIST_ITEM f.item, .setFld F.HKP_BIST_DETAIL f.detail.toNat])
  have hnum : (Prog.seq (.setFld F.CPX_START_FAILED 1) tested).Keeps (fun t => t.fld F.CPX_START_STEP) := by
    simp +decide [tested]
  have hfailed : tested.Keeps (fun t => t.fld F.CPX_START_FAILED) := by simp +decide [tested]
  have hitem : (Prog.setFld F.HKP_BIST_DETAIL f.detail.toNat).Keeps (fun t => t.fld F.HKP_BIST_ITEM) := by
    simp +decide
  refine ⟨?_, ?_, fun htest => ?_⟩
  · refine (hnum.run (hs.run _)).trans ((Prog.run_setFld_same F.CPX_START_STEP step s hs (by decide) (by decide)).trans ?_)
    exact Nat.mod_eq_of_lt hstep
  · exact (hfailed.run ((hs.run _).run _)).trans
      (Prog.run_setFld_same F.CPX_START_FAILED 1 _ (hs.run _) (by decide) (by decide))
  · have hcode : f.code.toNat = 0x0B03 := by rw [htest]; rfl
    simp only [failRecorded, Prog.run_seq, Prog.run_when, hcode, decide_true, if_true, Prog.run_block_cons, Prog.run_block_nil]
    exact (hitem.run (((hs.run _).run _))).trans
      (Prog.run_setFld_same F.HKP_BIST_ITEM f.item _ (hs.run _) (by decide) (by decide))

/-- A failed step from 4 on, or of the interconnect test, and the FAULT that follows (R502, R557). -/
theorem run_laterStepFails {s : State} (hs : s.Canon) {step : Nat} (f : StepFail) (hstep : step < 16) (hno : s.NoTrial)
    (hnode : s.node = .sapling ∨ s.node = .member) :
    let t := (laterStepFails step f).run s
    t.node = .fault ∧ t.fld F.CPX_START_STEP = step ∧ t.fld F.CPX_START_FAILED = 1 ∧
      (f.code = 0x0B03 → t.fld F.HKP_BIST_ITEM = f.item % 16 ∧ (s.flag F.HKP_FAULT_VALID = false →
        t.fld F.HKP_FAULT_BLOCK = 2 ∧ t.fld F.HKP_FAULT_CODE = 3 ∧
        t.reg R.HKP_FAULT_DETAIL = BitVec.ofNat 32 (f.item % 16 * 2 ^ 16 + f.detail.toNat % 2 ^ 16))) := by
  have hspared := (failRecorded_in step f).spared hs
  obtain ⟨hnum, hfailed, hitem⟩ := run_failRecorded hs f hstep
  generalize hu : (failRecorded step f).run s = u at *
  have huc : u.Canon := hu ▸ hs.run _
  have hunode : u.node = s.node := hspared.same .node (by decide) (by decide) (by decide)
  have husec : u.sec = s.sec := hspared.same .sec (by decide) (by decide) (by decide)
  have hnot (block family code : Nat) : u.faultIs block family code = false := by
    have : (u.node == .fault) = false := by rcases hnode with h | h <;> simp [hunode, h]
    simp [State.faultIs, this]
  have hrun : (laterStepFails step f).run s =
      (enterFault (if f.code.toNat = 0x0B03 then 0x02 else stepBlock step) (f.code.toNat / 256) (f.code.toNat % 256)
        (if f.code.toNat = 0x0B03 then f.item % 16 * 2 ^ 16 + f.detail.toNat % 2 ^ 16 else f.detail.toNat)).run u := by
    have : (laterStepFails step f).run s = (Prog.guard (fun s => !s.faultIs _ _ _) (enterFault _ _ _ _)).run
      ((failRecorded step f).run s) := rfl
    rw [this, hu, Prog.run_guard, hnot, Bool.not_false, if_pos rfl]
  rw [hrun]
  obtain ⟨hfault, hkept, hfirst⟩ := enterFault_enters huc (by rwa [hunode]) (by rwa [State.NoTrial, husec])
    (if f.code.toNat = 0x0B03 then 0x02 else stepBlock step) (f.code.toNat / 256) (f.code.toNat % 256)
    (if f.code.toNat = 0x0B03 then f.item % 16 * 2 ^ 16 + f.detail.toNat % 2 ^ 16 else f.detail.toNat)
  refine ⟨hfault, (hkept.fld _ (by decide)).trans hnum, (hkept.fld _ (by decide)).trans hfailed, fun htest =>
    ⟨(hkept.fld _ (by decide)).trans (hitem htest), fun hvalid => ?_⟩⟩
  have hcode : f.code.toNat = 0x0B03 := by rw [htest]; rfl
  obtain ⟨hc, hb, -, hd⟩ := hfirst ((hspared.flag F.HKP_FAULT_VALID (by decide)).trans hvalid)
  simp only [hcode, if_true] at hc hb hd ⊢
  exact ⟨hb, hc, hd⟩

theorem completes_laterStepFails {s : State} (hs : s.Canon) (hawake : s.Awake) {step : Nat} {f : StepFail} (ms : Nat)
    (pages : Nat × Nat) (stamp : Time) (hstep : step ∈ s.ctl.started) (hno : s.NoTrial)
    (hnode : s.node = .sapling ∨ s.node = .member) (hlow : step < 16)
    (hlater : f.code = 0x0B03 ∨ step ∈ [4, 5, 6, 8, 9, 10, 11]) :
    Completes (.startStepEnd step (some f) ms pages stamp) s (fun t =>
      t.node = .fault ∧ t.fld F.CPX_START_STEP = step ∧ t.fld F.CPX_START_FAILED = 1 ∧
      (f.code = 0x0B03 → t.fld F.HKP_BIST_ITEM = f.item % 16 ∧ (s.flag F.HKP_FAULT_VALID = false →
        t.fld F.HKP_FAULT_BLOCK = 2 ∧ t.fld F.HKP_FAULT_CODE = 3 ∧
        t.reg R.HKP_FAULT_DETAIL = BitVec.ofNat 32 (f.item % 16 * 2 ^ 16 + f.detail.toNat % 2 ^ 16)))) := by
  obtain ⟨u, hspared, huc, hexec⟩ := completes_startStepFail hs hawake ms pages stamp hstep hlater
  have hunode : u.node = s.node := hspared.same .node (by decide) (by decide) (by decide)
  have husec : u.sec = s.sec := hspared.same .sec (by decide) (by decide) (by decide)
  have hvalid : u.flag F.HKP_FAULT_VALID = s.flag F.HKP_FAULT_VALID :=
    hspared.flag F.HKP_FAULT_VALID (by decide)
  have hrun := run_laterStepFails huc f hlow (by rwa [State.NoTrial, husec]) (by rwa [hunode])
  rw [hvalid] at hrun
  exact ⟨_, hexec, hrun⟩

/-- Settles O19: a step that ends starts what waited for it; a step that fails enters FAULT under its number. -/
theorem Settled.startSteps : Obligations.StartSteps := by
  unfold Obligations.StartSteps
  intro s ms pages stamp hinv hawake
  have hs := hinv.canon
  refine ⟨fun step hstep hmay h7 => completes_startStepEnd hs hawake step ms pages stamp hstep hmay h7,
    fun step f hstep hno hnode => ?_⟩
  have hfail (hlow : step < 16) (hlater : f.code = 0x0B03 ∨ step ∈ [4, 5, 6, 8, 9, 10, 11]) :=
    completes_laterStepFails hs hawake ms pages stamp hstep hno hnode hlow hlater
  refine ⟨fun hlater _ => ?_, fun hlow htest hvalid => ?_⟩
  · have hlow : step < 16 := by
      simp only [List.mem_cons, List.not_mem_nil, or_false] at hlater
      omega
    obtain ⟨t, hexec, hfault, hnum, hfailed, -⟩ := hfail hlow (.inr hlater)
    exact ⟨t, hexec, hfault, hnum, hfailed⟩
  · obtain ⟨t, hexec, hfault, hnum, hfailed, htested⟩ := hfail (by omega) (.inl htest)
    obtain ⟨hitem, hfirst⟩ := htested htest
    obtain ⟨hblock, hcode, hdetail⟩ := hfirst hvalid
    exact ⟨t, hexec, hfault, hnum, hfailed, hblock, hcode, hitem, hdetail⟩

end Sys2Proof.Machine
end

section
/-! PROOF. Field stores and lane changes as rewriting rules: what a store of a field leaves, what a change of one lane leaves,
and what the other lanes keep (chapter 10). -/

namespace Sys2Proof.Machine

/-! ### Stores of a field -/

section
variable (f g : Fld) (v : Nat) (s : State)

@[simp] theorem Prog.setFld_mem : ((Prog.setFld f v).run s).mem = s.mem := (rfl)
@[simp] theorem Prog.setFld_node : ((Prog.setFld f v).run s).node = s.node := (rfl)
@[simp] theorem Prog.setFld_lc : ((Prog.setFld f v).run s).lc = s.lc := (rfl)
@[simp] theorem Prog.setFld_ing : ((Prog.setFld f v).run s).ing = s.ing := (rfl)
@[simp] theorem Prog.setFld_thk : ((Prog.setFld f v).run s).thk = s.thk := (rfl)
@[simp] theorem Prog.setFld_grv : ((Prog.setFld f v).run s).grv = s.grv := (rfl)
@[simp] theorem Prog.setFld_lyr : ((Prog.setFld f v).run s).lyr = s.lyr := (rfl)
@[simp] theorem Prog.setFld_pdl : ((Prog.setFld f v).run s).pdl = s.pdl := (rfl)
@[simp] theorem Prog.setFld_sds : ((Prog.setFld f v).run s).sds = s.sds := (rfl)
@[simp] theorem Prog.setFld_apl : ((Prog.setFld f v).run s).apl = s.apl := (rfl)
@[simp] theorem Prog.setFld_fab : ((Prog.setFld f v).run s).fab = s.fab := (rfl)
@[simp] theorem Prog.setFld_tim : ((Prog.setFld f v).run s).tim = s.tim := (rfl)
@[simp] theorem Prog.setFld_cmt : ((Prog.setFld f v).run s).cmt = s.cmt := (rfl)
@[simp] theorem Prog.setFld_met : ((Prog.setFld f v).run s).met = s.met := (rfl)
@[simp] theorem Prog.setFld_dmc : ((Prog.setFld f v).run s).dmc = s.dmc := (rfl)
@[simp] theorem Prog.setFld_sram : ((Prog.setFld f v).run s).sram = s.sram := (rfl)
@[simp] theorem Prog.setFld_nvm : ((Prog.setFld f v).run s).nvm = s.nvm := (rfl)
@[simp] theorem Prog.setFld_ctl : ((Prog.setFld f v).run s).ctl = s.ctl := (rfl)
@[simp] theorem Prog.setFld_sec : ((Prog.setFld f v).run s).sec = s.sec := (rfl)
@[simp] theorem Prog.setFld_hkp : ((Prog.setFld f v).run s).hkp = s.hkp := (rfl)
@[simp] theorem Prog.setFld_pins : ((Prog.setFld f v).run s).pins = s.pins := (rfl)
@[simp] theorem Prog.setFld_out : ((Prog.setFld f v).run s).out = s.out := (rfl)
@[simp] theorem Prog.setFld_freeCount : ((Prog.setFld f v).run s).freeCount = s.freeCount := (rfl)

/-- A field store shows in its own field. -/
@[simp] theorem State.fld_setFld_same (hs : s.Canon) (h : f.hi < 32 ∧ f.lo ≤ f.hi) :
    ((Prog.setFld f v).run s).fld f = v % 2 ^ (f.hi + 1 - f.lo) := Prog.run_setFld_same f v s hs h.1 h.2

/-- A field store does not show in another field. -/
@[simp] theorem State.fld_setFld_other (hs : s.Canon) (h : f.hi < 32 ∧ f.lo ≤ f.hi)
    (hd : g.off ≠ f.off ∨ f.hi < g.lo ∨ g.hi < f.lo) : ((Prog.setFld f v).run s).fld g = s.fld g :=
  Prog.run_setFld_other f g v s hs h.1 h.2 hd

@[simp] theorem State.flag_setFld_other (hs : s.Canon) (h : f.hi < 32 ∧ f.lo ≤ f.hi)
    (hd : g.off ≠ f.off ∨ f.hi < g.lo ∨ g.hi < f.lo) : ((Prog.setFld f v).run s).flag g = s.flag g := by
  unfold State.flag
  rw [State.fld_setFld_other f g v s hs h hd]

@[simp] theorem State.reg_setFld_other (off : Nat) (hs : s.Canon) (h : off ≠ f.off) :
    ((Prog.setFld f v).run s).reg off = s.reg off := State.reg_store_other s _ off _ hs h

theorem Prog.run_count (n : Nat) : (Prog.count f n).run s = (Prog.setFld f (satAdd (2 ^ (f.hi + 1 - f.lo) - 1) (s.fld f) n)).run s := (rfl)

end

/-! ### Lanes -/

section
variable (i j : Nat) (f : Lane → Lane) (s : State)

theorem run_modLane : (modLane i f).run s = (Act.sds (fun d => { d with lanes := modAt d.lanes i f })).apply s := (rfl)

@[simp] theorem State.lane_modLane_same (h : i < s.sds.lanes.length) : ((modLane i f).run s).lane i = f (s.lane i) :=
  getD_modAt_same _ _ _ _ h
@[simp] theorem State.lane_modLane_other (h : j ≠ i) : ((modLane i f).run s).lane j = s.lane j :=
  getD_modAt_other _ _ _ _ _ h
@[simp] theorem lanes_length_modLane : ((modLane i f).run s).sds.lanes.length = s.sds.lanes.length := by
  simp [run_modLane, modAt_eq_modify]

@[simp] theorem modLane_band : ((modLane i f).run s).sds.band = s.sds.band := (rfl)
@[simp] theorem modLane_due : ((modLane i f).run s).sds.due = s.sds.due := (rfl)
@[simp] theorem modLane_bgRun : ((modLane i f).run s).sds.bgRun = s.sds.bgRun := (rfl)
@[simp] theorem modLane_retrains : ((modLane i f).run s).sds.retrains = s.sds.retrains := (rfl)
@[simp] theorem modLane_firstTs : ((modLane i f).run s).sds.firstTs = s.sds.firstTs := (rfl)
@[simp] theorem modLane_node : ((modLane i f).run s).node = s.node := (rfl)
@[simp] theorem modLane_lc : ((modLane i f).run s).lc = s.lc := (rfl)
@[simp] theorem modLane_fab : ((modLane i f).run s).fab = s.fab := (rfl)
@[simp] theorem modLane_pdl : ((modLane i f).run s).pdl = s.pdl := (rfl)
@[simp] theorem modLane_ctl : ((modLane i f).run s).ctl = s.ctl := (rfl)
@[simp] theorem modLane_sec : ((modLane i f).run s).sec = s.sec := (rfl)
@[simp] theorem modLane_out : ((modLane i f).run s).out = s.out := (rfl)
@[simp] theorem modLane_freeCount : ((modLane i f).run s).freeCount = s.freeCount := (rfl)
@[simp] theorem State.fld_modLane (g : Fld) : ((modLane i f).run s).fld g = s.fld g := (rfl)
@[simp] theorem State.flag_modLane (g : Fld) : ((modLane i f).run s).flag g = s.flag g := (rfl)
@[simp] theorem State.reg_modLane (off : Nat) : ((modLane i f).run s).reg off = s.reg off := (rfl)
@[simp] theorem State.dieT_modLane : ((modLane i f).run s).dieT = s.dieT := (rfl)
@[simp] theorem State.testFields_modLane (k : Nat) : ((modLane i f).run s).testFields k = s.testFields k := (rfl)
@[simp] theorem modLane_does {parts : List Part} {offs : List Nat} :
    (modLane i f).Does (Act.Within parts offs) s ↔ Part.sds ∈ parts := Iff.rfl

@[simp] theorem State.lane_setFld (g : Fld) (v : Nat) : ((Prog.setFld g v).run s).lane i = s.lane i := (rfl)
@[simp] theorem State.lane_reg (off : Nat) (v : Word) : ((Act.reg off v).apply s).lane i = s.lane i := (rfl)
@[simp] theorem State.lane_out (o : Out) : ((Act.out o).apply s).lane i = s.lane i := (rfl)
@[simp] theorem State.lane_ctl (c : Control → Control) : ((Act.ctl c).apply s).lane i = s.lane i := (rfl)
@[simp] theorem State.lane_free (n : Nat) : ((Act.free n).apply s).lane i = s.lane i := (rfl)

end

end Sys2Proof.Machine
end

section
/-! PROOF. Lanes are enabled, disabled, put into TEST and calibrate their offsets (R304, R306, R307, R313, R322). -/

namespace Sys2Proof.Machine

/-! ### Lanes of a port, and fields of a lane -/

theorem laneFabricPort_eq_none {i : Nat} (h : i < 192) : laneFabricPort i = none := by simp [laneFabricPort, h]

theorem laneFabricPort_some {i p : Nat} (h : laneFabricPort i = some p) : p < 6 ∧ i ∈ portLanes p ∧ 192 ≤ i := by
  unfold laneFabricPort at h
  unfold portLanes
  split_ifs at h <;> simp only [Option.some.injEq, reduceCtorEq] at h <;> subst h
  · refine ⟨by omega, ?_, by omega⟩
    rw [if_pos (by omega)]
    exact List.mem_map.2 ⟨(i - 192) % 4, List.mem_range.2 (by omega), by omega⟩
  · exact ⟨by omega, List.mem_map.2 ⟨i - 208, List.mem_range.2 (by omega), by omega⟩, by omega⟩
  · exact ⟨by omega, List.mem_map.2 ⟨i - 216, List.mem_range.2 (by omega), by omega⟩, by omega⟩

theorem portLanes_nodup (p : Nat) : (portLanes p).Nodup := by
  unfold portLanes
  split <;> exact List.Nodup.map (fun a b h => by simpa using h) List.nodup_range

theorem portLanes_lt {p k : Nat} (hp : p < 6) (hk : k ∈ portLanes p) : k < 224 := by
  unfold portLanes at hk
  split at hk <;> simp only [List.mem_map, List.mem_range] at hk <;> obtain ⟨a, ha, rfl⟩ := hk <;> omega

theorem R.SDS_LCTRL_inj {i k : Nat} (h : R.SDS_LCTRL i = R.SDS_LCTRL k) : i = k := by
  unfold R.SDS_LCTRL at h
  omega

theorem R.SDS_LCTRL_notMem {k : Nat} {l : List Nat} (h : k ∉ l) : R.SDS_LCTRL k ∉ l.map R.SDS_LCTRL := by
  rw [List.mem_map]
  rintro ⟨a, ha, e⟩
  exact h (R.SDS_LCTRL_inj e ▸ ha)

theorem R.SDS_LCTRL_ne (i : Nat) {off : Nat} (h : off < 0x1801000) : off ≠ R.SDS_LCTRL i := by
  unfold R.SDS_LCTRL
  omega

/-- What a frame leaves of the die temperature. -/
theorem Frame.dieT {parts : List Part} {offs : List Nat} {s t : State} (h : Frame parts offs s t) (ho : R.HKP_TEMP ∉ offs) :
    t.dieT = s.dieT := congrArg (BitVec.ofNat 16) (h.fld F.HKP_TEMP_T ho)

theorem testFields_congr {s t : State} {k : Nat} (h : t.reg (R.SDS_LCTRL k) = s.reg (R.SDS_LCTRL k)) :
    t.testFields k = s.testFields k := by
  unfold State.testFields State.fld
  rw [show (F.SDS_LCTRL_LOOP k).off = R.SDS_LCTRL k from rfl, show (F.SDS_LCTRL_TEST_SPEED k).off = R.SDS_LCTRL k from rfl, h]

@[simp] theorem State.testFields_ENABLE (s : State) (i k v : Nat) (hs : s.Canon) :
    ((Prog.setFld (F.SDS_LCTRL_ENABLE i) v).run s).testFields k = s.testFields k := by
  simp [State.testFields, hs, F.SDS_LCTRL_ENABLE, F.SDS_LCTRL_LOOP, F.SDS_LCTRL_TEST_SPEED]

@[simp] theorem State.dieT_setFld (s : State) (g : Fld) (v : Nat) (hs : s.Canon) (h : R.HKP_TEMP ≠ g.off) :
    ((Prog.setFld g v).run s).dieT = s.dieT := by
  unfold State.dieT State.fld
  rw [show F.HKP_TEMP_T.off = R.HKP_TEMP from rfl, State.reg_setFld_other g v s _ hs h]

/-- Programs that run on distinct lanes, each changing its own lane only. -/
theorem run_each_lanes {l : List Nat} (hl : l.Nodup) {g : Nat → Prog} {Q : Lane → Lane → Prop} {s : State}
    (h : ∀ k ∈ l, ∀ s : State, s.sds.lanes.length = 224 → let u := (g k).run s
      u.sds.lanes.length = 224 ∧ Q (s.lane k) (u.lane k) ∧ ∀ j, j ≠ k → u.lane j = s.lane j)
    (hlen : s.sds.lanes.length = 224) : let u := (Prog.each l g).run s
    u.sds.lanes.length = 224 ∧ (∀ k ∈ l, Q (s.lane k) (u.lane k)) ∧ ∀ j, j ∉ l → u.lane j = s.lane j := by
  induction l generalizing s with
  | nil => exact ⟨hlen, by simp, fun _ _ => rfl⟩
  | cons k l ih =>
    obtain ⟨hk, hl⟩ := List.nodup_cons.1 hl
    obtain ⟨hlen1, hq1, hother1⟩ := h k List.mem_cons_self s hlen
    obtain ⟨hlen2, hq2, hother2⟩ := ih hl (fun j hj => h j (List.mem_cons_of_mem k hj)) hlen1
    refine ⟨hlen2, fun j hj => ?_, fun j hj => ?_⟩
    · rcases List.mem_cons.1 hj with rfl | hj
      · rw [Prog.run_each_cons, hother2 j hk]
        exact hq1
      · have hne : j ≠ k := fun e => hk (e ▸ hj)
        rw [Prog.run_each_cons, ← hother1 j hne]
        exact hq2 j hj
    · rw [List.mem_cons, not_or] at hj
      exact (hother2 j hj.2).trans (hother1 j hj.1)

/-! ### Lanes come up -/

/-- Lane `k` has been brought up from OFF. -/
def CameUp (t : Time) (s u : State) (k : Nat) : Prop :=
  u.lane k = { (s.lane k).restart t s.sds.band s.dieT with enabledAt := some t } ∧ u.fld (F.SDS_LCTRL_ENABLE k) = 1

theorem run_bringUpLane_on {s : State} {i : Nat} (t : Time) (hon : (s.lane i).st ≠ .off) : (bringUpLane i t).run s = s := by
  simp [bringUpLane, hon]

theorem run_bringUpLane {s : State} (hs : s.Canon) {i : Nat} (hi : i < s.sds.lanes.length) (t : Time)
    (hoff : (s.lane i).st = .off) (htest : s.testFields i = false) : let u := (bringUpLane i t).run s
    CameUp t s u i ∧ (∀ j, j ≠ i → u.lane j = s.lane j) ∧ u.sds.lanes.length = s.sds.lanes.length ∧
      u.sds.band = s.sds.band ∧ Frame [.sds] [R.SDS_LCTRL i] s u := by
  have hdie : ((Prog.setFld (F.SDS_LCTRL_ENABLE i) 1).run s).dieT = s.dieT :=
    State.dieT_setFld _ _ _ hs (R.SDS_LCTRL_ne i (by decide))
  refine ⟨⟨?_, ?_⟩, fun j hj => ?_, ?_, ?_, ?_⟩
  · simp [bringUpLane, restartLane, hoff, hs, htest, hi, hdie]
  · simp [bringUpLane, restartLane, hoff, hs, htest, F.SDS_LCTRL_ENABLE]
  · simp [bringUpLane, restartLane, hoff, hs, htest, hj]
  · simp [bringUpLane, restartLane, hoff, hs, htest]
  · simp [bringUpLane, restartLane, hoff, hs, htest]
  · exact Prog.Does.frame (by simp [bringUpLane, restartLane, F.SDS_LCTRL_ENABLE, hoff, hs, htest]) hs

/-- Bringing up distinct lanes: those that are OFF come up, the others stay. -/
theorem run_each_bringUpLane {l : List Nat} (hl : l.Nodup) {s : State} (hs : s.Canon) (hlt : ∀ k ∈ l, k < s.sds.lanes.length)
    (t : Time) (htest : ∀ k ∈ l, s.testFields k = false) : let u := (Prog.each l (fun k => bringUpLane k t)).run s
    (∀ k ∈ l, (s.lane k).st = .off → CameUp t s u k) ∧ (∀ k, k ∉ l ∨ (s.lane k).st ≠ .off → u.lane k = s.lane k) ∧
      Frame [.sds] (l.map R.SDS_LCTRL) s u := by
  induction l generalizing s with
  | nil => exact ⟨by simp, fun _ _ => rfl, Frame.refl _ _ s⟩
  | cons i l ih =>
    obtain ⟨hi, hl⟩ := List.nodup_cons.1 hl
    simp only [Prog.run_each_cons, List.map_cons]
    by_cases hoff : (s.lane i).st = .off
    · obtain ⟨hup1, hother1, hlen1, hband1, hframe1⟩ :=
        run_bringUpLane hs (hlt i List.mem_cons_self) t hoff (htest i List.mem_cons_self)
      have hs1 : ((bringUpLane i t).run s).Canon := hs.run _
      generalize (bringUpLane i t).run s = v at hs1 hup1 hother1 hlen1 hband1 hframe1 ⊢
      have hreg (k : Nat) (hk : k ≠ i) : v.reg (R.SDS_LCTRL k) = s.reg (R.SDS_LCTRL k) :=
        hframe1.2 _ (by simpa using fun e => hk (R.SDS_LCTRL_inj e))
      obtain ⟨hup2, hother2, hframe2⟩ := ih hl hs1 (fun k hk => hlen1 ▸ hlt k (List.mem_cons_of_mem i hk)) (fun k hk => by
        rw [testFields_congr (hreg k fun e => hi (e ▸ hk))]
        exact htest k (List.mem_cons_of_mem i hk))
      have hdie : v.dieT = s.dieT := hframe1.dieT (by simpa using R.SDS_LCTRL_ne i (by decide))
      refine ⟨fun k hk hkoff => ?_, fun k hk => ?_,
        (hframe1.mono (by simp) (by simp)).trans (hframe2.mono (by simp) (by simp +contextual))⟩
      · by_cases hki : k = i
        · subst hki
          exact ⟨(hother2 k (.inl hi)).trans hup1.1, (hframe2.fld _ (R.SDS_LCTRL_notMem hi)).trans hup1.2⟩
        · have hkl : k ∈ l := (List.mem_cons.1 hk).resolve_left hki
          have := hup2 k hkl (by rwa [hother1 k hki])
          unfold CameUp at this ⊢
          rwa [hother1 k hki, hband1, hdie] at this
      · have hki : k ≠ i := by
          rintro rfl
          exact hk.elim (fun h => h List.mem_cons_self) (fun h => h hoff)
        rw [hother2 k (by
          rw [hother1 k hki]
          exact hk.imp_left fun h hm => h (List.mem_cons_of_mem i hm)), hother1 k hki]
    · rw [run_bringUpLane_on t hoff]
      obtain ⟨hup, hother, hframe⟩ := ih hl hs (fun k hk => hlt k (List.mem_cons_of_mem i hk))
        (fun k hk => htest k (List.mem_cons_of_mem i hk))
      refine ⟨fun k hk hkoff => hup k ((List.mem_cons.1 hk).resolve_left (by rintro rfl; exact hoff hkoff)) hkoff,
        fun k hk => hother k (hk.imp_left fun h hm => h (List.mem_cons_of_mem i hm)), hframe.mono (by simp) (by simp +contextual)⟩

/-- LANE_ENABLE sets ENABLE of its lane and brings up the lanes that it enables (R304). -/
theorem completes_laneEnable {s : State} (hs : s.Canon) (hawake : s.Awake) {i : Nat} (hi : i < 224)
    (hlen : s.sds.lanes.length = 224) (stamp : Time) (hnodup : (s.enableSet i).Nodup)
    (hlt : ∀ k ∈ s.enableSet i, k < 224) (htest : ∀ k ∈ s.enableSet i, s.testFields k = false) :
    Completes (.laneEnable i stamp) s (fun t =>
      (∀ k ∈ s.enableSet i, (s.lane k).st = .off → CameUp stamp s t k) ∧
      (∀ k, k ∉ s.enableSet i ∨ (s.lane k).st ≠ .off → t.lane k = s.lane k) ∧
      ∃ v, Frame [] [R.SDS_LCTRL i] s v ∧ Frame [.sds] ((s.enableSet i).map R.SDS_LCTRL) v t) := by
  refine .of_go rfl hawake ?_
  have hv : Frame [] [R.SDS_LCTRL i] s ((Prog.setFld (F.SDS_LCTRL_ENABLE i) 1).run s) :=
    Prog.Does.frame (by simp [F.SDS_LCTRL_ENABLE]) hs
  have hvtest (k : Nat) := State.testFields_ENABLE s i k 1 hs
  have hvlane (k : Nat) := State.lane_setFld k s (F.SDS_LCTRL_ENABLE i) 1
  have hvsds := Prog.setFld_sds (F.SDS_LCTRL_ENABLE i) 1 s
  have hvs : ((Prog.setFld (F.SDS_LCTRL_ENABLE i) 1).run s).Canon := hs.run _
  simp only [Prog.run_when, hi, decide_true, if_true, laneEnableProg, Prog.run_seq, Prog.run_dyn]
  generalize (Prog.setFld (F.SDS_LCTRL_ENABLE i) 1).run s = v at *
  have hset : v.enableSet i = s.enableSet i := by
    unfold State.enableSet
    rw [hv.fld F.FAB_ROLE_PORT_EN (by simpa using R.SDS_LCTRL_ne i (by decide))]
  have hdie : v.dieT = s.dieT := hv.dieT (by simpa using R.SDS_LCTRL_ne i (by decide))
  rw [hset]
  obtain ⟨hup, hother, hframe⟩ := run_each_bringUpLane hnodup hvs (by simpa [hvsds, hlen] using hlt) stamp
    (by simpa [hvtest] using htest)
  refine ⟨fun k hk hoff => ?_, fun k hk => ?_, v, hv, hframe⟩
  · have := hup k hk (by rwa [hvlane])
    unfold CameUp at this ⊢
    rwa [hvlane, hvsds, hdie] at this
  · rw [hother k (by rwa [hvlane]), hvlane]

/-- LANE_ENABLE of a port that the role does not enable sets ENABLE only (R304). -/
theorem completes_laneEnable_none {s : State} (hs : s.Canon) (hawake : s.Awake) {i : Nat} (hi : i < 224) (stamp : Time)
    (hnone : s.enableSet i = []) : Completes (.laneEnable i stamp) s (fun t =>
      t.fld (F.SDS_LCTRL_ENABLE i) = 1 ∧ Frame [] [R.SDS_LCTRL i] s t) := by
  have hv : Frame [] [R.SDS_LCTRL i] s ((Prog.setFld (F.SDS_LCTRL_ENABLE i) 1).run s) :=
    Prog.Does.frame (by simp [F.SDS_LCTRL_ENABLE]) hs
  have hset : ((Prog.setFld (F.SDS_LCTRL_ENABLE i) 1).run s).enableSet i = [] := by
    unfold State.enableSet at hnone ⊢
    rw [hv.fld F.FAB_ROLE_PORT_EN (by simpa using R.SDS_LCTRL_ne i (by decide)), hnone]
  refine .of_go rfl hawake ?_
  rw [Prog.run_when, if_pos (by simpa using hi), laneEnableProg, Prog.run_seq, Prog.run_dyn, hset, Prog.run_each_nil]
  exact ⟨by simp [hs, F.SDS_LCTRL_ENABLE], hv⟩

/-! ### Lanes that leave ACTIVE by a write -/

theorem rerouteCopy_in {parts : List Part} (hfab : Part.fab ∈ parts) (hout : Part.out ∈ parts)
    (hfree : Part.freeCount ∈ parts) (c : Queued) : (rerouteCopy c).Only (Act.In parts fromFab) := by
  refine fun s => ⟨Prog.only_each _ _ fun h => ?_, Prog.only_each _ _ fun h => ?_, trivial⟩
  · cases h with
    | send p pkt => exact enqueue_in hfab _ _
    | deliver pkt => exact ⟨deliverPacket_in hfab hout hfree _, copySent_in hfab _ _⟩
    | discard code src => exact ⟨discardPacket_in hfab hout hfree _ _, copySent_in hfab _ _⟩
  · cases h with
    | send p pkt => exact pumpPort_in hfab hout _
    | deliver pkt => trivial
    | discard code src => trivial

theorem portOut_in {parts : List Part} (hfab : Part.fab ∈ parts) (hout : Part.out ∈ parts)
    (hfree : Part.freeCount ∈ parts) (p : Nat) (st : PortState) (t : Time) : (portOut p st t).Only (Act.In parts fromFab) := by
  intro s
  simp [portStop, modPort, copySent_in hfab, rerouteCopy_in hfab hout hfree, Act.In, Act.Within, hfab]

@[simp] theorem dropRecal_lane (l : List Nat) (s : State) (k : Nat) : ((dropRecal l).run s).lane k = s.lane k := (rfl)
@[simp] theorem dropRecal_lanes (l : List Nat) (s : State) : ((dropRecal l).run s).sds.lanes = s.sds.lanes := (rfl)
@[simp] theorem dropRecal_band (l : List Nat) (s : State) : ((dropRecal l).run s).sds.band = s.sds.band := (rfl)
@[simp] theorem dropRecal_fld (l : List Nat) (s : State) (f : Fld) : ((dropRecal l).run s).fld f = s.fld f := (rfl)
@[simp] theorem dropRecal_flag (l : List Nat) (s : State) (f : Fld) : ((dropRecal l).run s).flag f = s.flag f := (rfl)
@[simp] theorem dropRecal_out (l : List Nat) (s : State) : ((dropRecal l).run s).out = s.out := (rfl)
@[simp] theorem dropRecal_does {parts : List Part} {offs : List Nat} (l : List Nat) (s : State) :
    (dropRecal l).Does (Act.Within parts offs) s ↔ Part.sds ∈ parts := Iff.rfl

/-- Lanes that are put into OFFSET_CAL where a condition names them. -/
theorem run_each_restartLane {l : List Nat} (hl : l.Nodup) (c : Nat → Bool) (t : Time) {s : State}
    (hlt : ∀ k ∈ l, k < 224) (hlen : s.sds.lanes.length = 224) :
    let u := (Prog.each l (fun k => if c k then restartLane k t else .nil)).run s
    u.sds.lanes.length = 224 ∧ (∀ k ∈ l, c k = true → (u.lane k).st = .offsetCal ∧ (u.lane k).runStart = some t) ∧
      ∀ j, j ∉ l ∨ c j = false → u.lane j = s.lane j := by
  induction l generalizing s with
  | nil => exact ⟨hlen, by simp, fun _ _ => rfl⟩
  | cons i l ih =>
    obtain ⟨hi, hl⟩ := List.nodup_cons.1 hl
    have hlti : i < s.sds.lanes.length := hlen ▸ hlt i List.mem_cons_self
    obtain ⟨hlen2, hin, hother⟩ := ih hl (fun j hj => hlt j (List.mem_cons_of_mem i hj))
      (s := (if c i then restartLane i t else .nil).run s) (by split <;> simp [restartLane, hlen])
    have hone (j : Nat) (hj : j ≠ i ∨ c j = false) : ((if c i then restartLane i t else .nil).run s).lane j = s.lane j := by
      by_cases hji : j = i
      · subst hji
        simp [hj.resolve_left (by simp)]
      · split <;> simp [restartLane, hji]
    refine ⟨hlen2, fun k hk hc => ?_, fun j hj => ?_⟩
    · rcases List.mem_cons.1 hk with rfl | hk
      · rw [Prog.run_each_cons, hother k (.inl hi)]
        simp [hc, restartLane, hlti, Lane.restart, Lane.startRun]
      · exact hin k hk hc
    · rw [List.mem_cons, not_or] at hj
      rw [Prog.run_each_cons, hother j (hj.imp_left And.right), hone j (hj.imp_left And.left)]

/-- What a port loses with one of its ACTIVE lanes (R306): the others start again. -/
theorem run_portLosesLane {s : State} (hs : s.Canon) {i p : Nat} (hp : laneFabricPort i = some p) (t : Time)
    (hlen : s.sds.lanes.length = 224) : let u := (portLosesLane i t).run s
    (∀ k ∈ portLanes p, k ≠ i → (s.lane k).st = .active → (u.lane k).st = .offsetCal) ∧
      (∀ k, k ∉ portLanes p → u.lane k = s.lane k) ∧ u.sds.lanes.length = 224 ∧
      Spared [.fab, .out, .freeCount, .sds] fromFab s u := by
  have hspared := (portOut_in (parts := sendParts) (by simp) (by simp) (by simp) p .training t).spared hs
  have hsds : ((portOut p .training t).run s).sds = s.sds := hspared.same .sds (by decide) (by decide) (by decide)
  have hc : ((portOut p .training t).run s).Canon := hs.run _
  have hprog : (portLosesLane i t).run s = (Prog.each ((portLanes p).filter (fun k => k != i))
      (fun k => if (s.lane k).st == .active then restartLane k t else .nil)).run
        ((dropRecal (portLanes p)).run ((portOut p .training t).run s)) := by
    simp only [portLosesLane, hp]
    rfl
  rw [hprog]
  generalize (portOut p .training t).run s = v at hspared hsds hc ⊢
  have hlane (k : Nat) : ((dropRecal (portLanes p)).run v).lane k = s.lane k := by
    rw [dropRecal_lane]
    unfold State.lane
    rw [hsds]
  obtain ⟨hp6, -⟩ := laneFabricPort_some hp
  obtain ⟨hlen2, hin, hother⟩ := run_each_restartLane (List.Nodup.filter (fun k => k != i) (portLanes_nodup p))
    (fun k => (s.lane k).st == .active) t (s := (dropRecal (portLanes p)).run v)
    (fun k hk => portLanes_lt hp6 (List.mem_filter.1 hk).1) (by rw [dropRecal_lanes, hsds, hlen])
  refine ⟨fun k hk hki hact => (hin k (List.mem_filter.2 ⟨hk, by simpa using hki⟩) (by simpa using hact)).1, fun k hk => ?_,
    hlen2, (hspared.mono (by simp) fun _ => id).trans (((Prog.Only.spared ?_ hc).trans (Prog.Only.spared ?_ (hc.run _))))⟩
  · rw [hother k (.inl fun h => hk (List.mem_filter.1 h).1), hlane]
  · simp [dropRecal, Act.In, Act.Within]
  · simp [restartLane, modLane, Act.In, Act.Within]

/-- LANE_DISABLE of a drive lane, or of a fabric lane that is not ACTIVE (R306). -/
theorem completes_laneDisable {s : State} (hs : s.Canon) (hawake : s.Awake) {i : Nat} (hi : i < 224)
    (hlen : s.sds.lanes.length = 224) (stamp : Time) (hfailed : (s.lane i).st ≠ .failed)
    (halone : (s.lane i).st ≠ .active ∨ i < 192) : Completes (.laneDisable i stamp) s (fun t =>
      (t.lane i).st = .off ∧ t.fld (F.SDS_LCTRL_ENABLE i) = 0 ∧ (∀ j, j ≠ i → t.lane j = s.lane j) ∧
        Frame [.sds] [R.SDS_LCTRL i] s t) := by
  have hport : (s.lane i).st = .active → portLosesLane i stamp = .nil := fun h => by
    simp [portLosesLane, laneFabricPort_eq_none (halone.resolve_left (by simp [h]))]
  refine .of_go rfl hawake ?_
  simp only [Prog.run_when, hi, decide_true, if_true]
  refine ⟨?_, ?_, fun j hj => ?_, ?_⟩
  · simp +contextual [laneDisableProg, hfailed, hport, hlen, hi, apply_ite]
  · simp +contextual [laneDisableProg, hfailed, hport, hlen, hi, apply_ite, hs, F.SDS_LCTRL_ENABLE]
  · simp +contextual [laneDisableProg, hfailed, hport, hlen, hi, apply_ite, hj]
  · exact Prog.Does.frame (by simp +contextual [laneDisableProg, hfailed, hport, F.SDS_LCTRL_ENABLE]) hs

theorem completes_laneDisable_failed {s : State} (hs : s.Canon) (hawake : s.Awake) {i : Nat} (hi : i < 224) (stamp : Time)
    (hfailed : (s.lane i).st = .failed) : Completes (.laneDisable i stamp) s (fun t =>
      t.fld (F.SDS_LCTRL_ENABLE i) = 0 ∧ Frame [] [R.SDS_LCTRL i] s t) := by
  refine .of_go rfl hawake ?_
  simp only [Prog.run_when, hi, decide_true, if_true]
  refine ⟨?_, ?_⟩
  · simp [laneDisableProg, hfailed, hs, F.SDS_LCTRL_ENABLE]
  · exact Prog.Does.frame (by simp [laneDisableProg, hfailed, F.SDS_LCTRL_ENABLE]) hs

/-- LANE_DISABLE of an ACTIVE fabric lane takes its port back (R306). -/
theorem completes_laneDisable_port {s : State} (hs : s.Canon) (hawake : s.Awake) {i p : Nat}
    (hlen : s.sds.lanes.length = 224) (stamp : Time) (hp : laneFabricPort i = some p) (hact : (s.lane i).st = .active) :
    Completes (.laneDisable i stamp) s (fun t =>
      (t.lane i).st = .off ∧ t.fld (F.SDS_LCTRL_ENABLE i) = 0 ∧
        (∀ k ∈ portLanes p, k ≠ i → (s.lane k).st = .active → (t.lane k).st = .offsetCal) ∧
        (∀ k, k ∉ portLanes p → t.lane k = s.lane k)) := by
  obtain ⟨hp6, hmem, -⟩ := laneFabricPort_some hp
  have hi := portLanes_lt hp6 hmem
  have hv : ((Prog.setFld (F.SDS_LCTRL_ENABLE i) 0).run s).fld (F.SDS_LCTRL_ENABLE i) = 0 := by
    simp [hs, F.SDS_LCTRL_ENABLE]
  have hvlane (k : Nat) := State.lane_setFld k s (F.SDS_LCTRL_ENABLE i) 0
  have hvsds := Prog.setFld_sds (F.SDS_LCTRL_ENABLE i) 0 s
  have hvs : ((Prog.setFld (F.SDS_LCTRL_ENABLE i) 0).run s).Canon := hs.run _
  refine .of_go rfl hawake ?_
  simp only [Prog.run_when, hi, decide_true, if_true, laneDisableProg, Prog.run_block_cons, Prog.run_block_nil, Prog.run_dyn]
  generalize (Prog.setFld (F.SDS_LCTRL_ENABLE i) 0).run s = v at *
  obtain ⟨hin, hother, hlen2, hspared⟩ := run_portLosesLane hvs hp stamp (by rw [hvsds, hlen])
  have hne : (fromFab (R.SDS_LCTRL i)) → False := by
    unfold R.SDS_LCTRL fromFab
    omega
  simp only [hvlane, hact, beq_self_eq_true, Bool.false_eq_true, if_false, if_true, reduceCtorEq, beq_iff_eq,
    Prog.run_block_cons, Prog.run_block_nil, Prog.run_when, dropRecal_lane, dropRecal_fld]
  generalize (portLosesLane i stamp).run v = w at *
  refine ⟨by simp [hlen2, hi], ?_, fun k hk hki hk' => ?_, fun k hk => ?_⟩
  · rw [State.fld_modLane, hspared.fld _ hne, hv]
  · rw [State.lane_modLane_other _ _ _ _ hki]
    exact hin k hk hki (by rwa [hvlane])
  · rw [State.lane_modLane_other _ _ _ _ (by rintro rfl; exact hk hmem), hother k hk, hvlane]

/-! ### TEST and offset calibration -/

theorem State.ownTs_congr {s t : State} {i : Nat} (hl : t.lane i = s.lane i)
    (hr : t.reg (R.SDS_LEYE i) = s.reg (R.SDS_LEYE i)) (go loop : Bool) (count next : Nat) :
    t.ownTs i go count next loop = s.ownTs i go count next loop := by
  have hew : t.fld (F.SDS_LEYE_EW i) = s.fld (F.SDS_LEYE_EW i) := congrArg (getBits · 5 0) hr
  have heh : t.fld (F.SDS_LEYE_EH i) = s.fld (F.SDS_LEYE_EH i) := congrArg (getBits · 15 8) hr
  simp only [State.ownTs, hl, hew, heh]

section
variable (i j : Nat) (s : State)

theorem toTest_sends : ∃ o : Bool, (toTest i).run s =
    ((if o then sendTs i else .nil).run ((modLane i (fun l => { l.fresh with st := .test })).run s)) := ⟨_, rfl⟩

theorem lane_toTest_same (h : i < s.sds.lanes.length) :
    ((toTest i).run s).lane i = { (s.lane i).fresh with st := .test } := by
  obtain ⟨o, ho⟩ := toTest_sends i s
  rw [ho]
  split <;> simp [sendTs, h]

theorem lane_toTest_other (h : j ≠ i) : ((toTest i).run s).lane j = s.lane j := by
  obtain ⟨o, ho⟩ := toTest_sends i s
  rw [ho]
  split <;> simp [sendTs, h]

theorem frame_toTest : Frame [.sds, .out] [] s ((toTest i).run s) := by
  obtain ⟨o, ho⟩ := toTest_sends i s
  rw [ho]
  exact (Prog.Does.frame_noRegs (p := modLane i _) (by simp)).trans (Prog.Does.frame_noRegs (by cases o <;> simp [sendTs]))

theorem fld_toTest (f : Fld) : ((toTest i).run s).fld f = s.fld f := by
  obtain ⟨o, ho⟩ := toTest_sends i s
  rw [ho]
  split <;> simp [sendTs]

end

/-- LANE_TEST_WRITE is ignored outside TEST and RETURN, and with the reserved pattern (R13, R322). -/
theorem completes_laneTestWrite_ignored {s : State} (i : Nat) (loop pattern speed : BitVec 2) (stamp : Time)
    (h : (s.lc ≠ .test ∧ s.lc ≠ .returned) ∨ pattern = 3) :
    Completes (.laneTestWrite i loop pattern speed stamp) s (fun t => t = s) := by
  have hnot : (!lcTest s.lc || pattern.toNat == 3) = true := by
    rcases h with ⟨ht, hr⟩ | rfl
    · simp [lcTest, ht, hr]
    · simp
  refine .of_go_self rfl ?_
  rw [Prog.run_when]
  split
  · rw [laneTestProg, Prog.run_dyn, if_pos hnot, Prog.run_nil]
  · rfl

/-- The lane's fields are written in TEST and RETURN (R322). -/
theorem laneTestProg_open {s : State} {i loop pattern speed : Nat} {t : Time} (hlc : s.lc = .test ∨ s.lc = .returned)
    (hpattern : pattern ≠ 3) : (laneTestProg i loop pattern speed t).run s = (Prog.block [
      patternStops i, .setFld (F.SDS_LCTRL_LOOP i) loop, .setFld (F.SDS_LCTRL_PATTERN i) pattern,
      .setFld (F.SDS_LCTRL_TEST_SPEED i) speed,
      if loop != 0 || speed != 0 then
        if (s.lane i).st == .active then .block [portLosesLane i t, dropRecal [i], toTest i]
        else .when ((s.lane i).st == .offsetCal || (s.lane i).st == .trainLow || (s.lane i).st == .step ||
          (s.lane i).st == .test) (toTest i)
      else .when ((s.lane i).st == .test) (restartLane i t)]).run s := by
  have hopen : ¬ (!lcTest s.lc || pattern == 3) = true := by rcases hlc with h | h <;> simp [lcTest, h, hpattern]
  rw [laneTestProg, Prog.run_dyn, if_neg hopen]

/-- The three fields that LANE_TEST_WRITE writes (R322). -/
def setTestFields (i loop pattern speed : Nat) : Prog :=
  .block [.setFld (F.SDS_LCTRL_LOOP i) loop, .setFld (F.SDS_LCTRL_PATTERN i) pattern,
    .setFld (F.SDS_LCTRL_TEST_SPEED i) speed]

theorem frame_setTestFields {s : State} (hs : s.Canon) (i loop pattern speed : Nat) :
    Frame [] [R.SDS_LCTRL i] s ((setTestFields i loop pattern speed).run s) :=
  Prog.Does.frame (by simp [setTestFields, F.SDS_LCTRL_LOOP, F.SDS_LCTRL_PATTERN, F.SDS_LCTRL_TEST_SPEED]) hs

theorem fld_setTestFields {s : State} (hs : s.Canon) (i : Nat) (loop pattern speed : BitVec 2) :
    let u := (setTestFields i loop.toNat pattern.toNat speed.toNat).run s
    u.fld (F.SDS_LCTRL_LOOP i) = loop.toNat ∧ u.fld (F.SDS_LCTRL_PATTERN i) = pattern.toNat ∧
      u.fld (F.SDS_LCTRL_TEST_SPEED i) = speed.toNat := by
  refine ⟨?_, ?_, ?_⟩ <;>
    simp [setTestFields, hs, F.SDS_LCTRL_LOOP, F.SDS_LCTRL_PATTERN, F.SDS_LCTRL_TEST_SPEED]
  · exact loop.isLt
  · exact pattern.isLt
  · exact speed.isLt

/-- A lane that is taken to TEST drops at most its place in the recalibration queue (R316, R322). -/
theorem run_laneTestProg_test {s : State} {i : Nat} {loop pattern speed : Nat} {stamp : Time}
    (hlc : s.lc = .test ∨ s.lc = .returned) (hpattern : pattern ≠ 3) (hfields : (loop != 0 || speed != 0) = true)
    (hst : (s.lane i).st ∈ [LaneState.offsetCal, .trainLow, .step] ∨ (s.lane i).st = .active ∧ i < 192) :
    ∃ drops : Bool, (laneTestProg i loop pattern speed stamp).run s =
      (toTest i).run ((Prog.when drops (dropRecal [i])).run ((setTestFields i loop pattern speed).run s)) := by
  have hrest : s.patternRuns i = false := by
    have : (s.lane i).st ≠ .test := by
      rcases hst with h | ⟨h, -⟩
      · simp only [List.mem_cons, List.not_mem_nil, or_false] at h
        rcases h with h | h | h <;> simp [h]
      · simp [h]
    simp [State.patternRuns, this]
  have hstops : (patternStops i).run s = s := by rw [patternStops, Prog.run_guard, hrest, if_neg (by simp)]
  rw [laneTestProg_open hlc hpattern, if_pos hfields, Prog.run_block_cons, hstops]
  rcases hst with h | ⟨h, hdrive⟩
  · simp only [List.mem_cons, List.not_mem_nil, or_false] at h
    refine ⟨false, ?_⟩
    rw [if_neg (by rcases h with h | h | h <;> simp [h])]
    have hwhen : ((s.lane i).st == .offsetCal || (s.lane i).st == .trainLow || (s.lane i).st == .step ||
        (s.lane i).st == .test) = true := by rcases h with h | h | h <;> simp [h]
    rw [hwhen]
    rfl
  · refine ⟨true, ?_⟩
    have hport : portLosesLane i stamp = .nil := by simp [portLosesLane, laneFabricPort_eq_none hdrive]
    rw [if_pos (by simp [h]), hport]
    rfl

/-- LANE_TEST_WRITE with a loop-back or a held speed takes a lane to TEST (R322). -/
theorem completes_laneTestWrite_test {s : State} (hs : s.Canon) (hawake : s.Awake) {i : Nat} (hi : i < 224)
    (hlen : s.sds.lanes.length = 224) (loop pattern speed : BitVec 2) (stamp : Time) (hlc : s.lc = .test ∨ s.lc = .returned)
    (hpattern : pattern ≠ 3) (hfields : loop ≠ 0 ∨ speed ≠ 0)
    (hst : (s.lane i).st ∈ [LaneState.offsetCal, .trainLow, .step] ∨ (s.lane i).st = .active ∧ i < 192) :
    Completes (.laneTestWrite i loop pattern speed stamp) s (fun t =>
      (t.lane i).st = .test ∧ t.fld (F.SDS_LCTRL_LOOP i) = loop.toNat ∧
        t.fld (F.SDS_LCTRL_PATTERN i) = pattern.toNat ∧ t.fld (F.SDS_LCTRL_TEST_SPEED i) = speed.toNat ∧
        (∀ j, j ≠ i → t.lane j = s.lane j) ∧ Frame [.sds, .out] [R.SDS_LCTRL i] s t) := by
  have hset : (loop.toNat != 0 || speed.toNat != 0) = true := by
    simpa [← BitVec.toNat_inj, bne_iff_ne] using hfields
  obtain ⟨drops, hrun⟩ := run_laneTestProg_test (stamp := stamp) hlc
    (fun h => hpattern (BitVec.eq_of_toNat_eq h) : pattern.toNat ≠ 3) hset hst
  obtain ⟨hloop, hpat, hspeed⟩ := fld_setTestFields hs i loop pattern speed
  have hframe := frame_setTestFields hs i loop.toNat pattern.toNat speed.toNat
  have hlanes : ((setTestFields i loop.toNat pattern.toNat speed.toNat).run s).sds = s.sds :=
    hframe.1 .sds (by decide) (by decide)
  have hc : ((setTestFields i loop.toNat pattern.toNat speed.toNat).run s).Canon := hs.run _
  generalize (setTestFields i loop.toNat pattern.toNat speed.toNat).run s = u at *
  have hdrop : Frame [.sds, .out] [] u ((Prog.when drops (dropRecal [i])).run u) :=
    Prog.frame_noRegs _ _ (Prog.only_when drops (show (dropRecal [i]).Only _ from List.mem_cons_self)) u
  have hdropped : ((Prog.when drops (dropRecal [i])).run u).sds.lanes = s.sds.lanes := by
    rw [← hlanes]
    cases drops <;> simp
  have hlane (k : Nat) : ((Prog.when drops (dropRecal [i])).run u).lane k = s.lane k := by
    unfold State.lane
    rw [hdropped]
  have hlen2 : ((Prog.when drops (dropRecal [i])).run u).sds.lanes.length = 224 := by rw [hdropped, hlen]
  refine .of_go rfl hawake ?_
  rw [Prog.run_when, if_pos (by simpa using hi), hrun]
  generalize (Prog.when drops (dropRecal [i])).run u = v at *
  have hfld (f : Fld) : ((toTest i).run v).fld f = u.fld f := (fld_toTest i v f).trans (hdrop.fld f (by simp))
  refine ⟨?_, ?_, ?_, ?_, fun j hj => ?_, (hframe.mono (by simp) (by simp)).trans ((hdrop.mono (by simp) (by simp)).trans
    ((frame_toTest i v).mono (by simp) (by simp)))⟩
  · rw [lane_toTest_same _ _ (by rwa [hlen2])]
  · rw [hfld, hloop]
  · rw [hfld, hpat]
  · rw [hfld, hspeed]
  · rw [lane_toTest_other _ _ _ hj, hlane]

theorem frame_patternStops {s : State} (hs : s.Canon) (i : Nat) :
    Frame [.freeCount] [R.SDS_LPRBS_ERR i] s ((patternStops i).run s) :=
  Prog.Does.frame (by simp [patternStops, F.SDS_LPRBS_ERR_COUNT]) hs

/-- LANE_TEST_WRITE with both fields 0 takes a lane out of TEST (R322). -/
theorem completes_laneTestWrite_leaves {s : State} (hs : s.Canon) (hawake : s.Awake) {i : Nat} (hi : i < 224)
    (hlen : s.sds.lanes.length = 224) (pattern : BitVec 2) (stamp : Time) (hlc : s.lc = .test ∨ s.lc = .returned)
    (hpattern : pattern ≠ 3) (hst : (s.lane i).st = .test) :
    Completes (.laneTestWrite i 0 pattern 0 stamp) s (fun t =>
      t.lane i = (s.lane i).restart stamp s.sds.band s.dieT ∧ t.fld (F.SDS_LCTRL_LOOP i) = 0 ∧
        (∀ j, j ≠ i → t.lane j = s.lane j) ∧ Frame [.sds, .freeCount] [R.SDS_LCTRL i, R.SDS_LPRBS_ERR i] s t) := by
  have hopen : pattern.toNat ≠ 3 := fun h => hpattern (BitVec.eq_of_toNat_eq h)
  have hrun : (laneTestProg i (0 : BitVec 2).toNat pattern.toNat (0 : BitVec 2).toNat stamp).run s =
      (restartLane i stamp).run ((setTestFields i (0 : BitVec 2).toNat pattern.toNat (0 : BitVec 2).toNat).run
        ((patternStops i).run s)) := by
    rw [laneTestProg_open hlc hopen, if_neg (by simp), hst]
    rfl
  have hstops := frame_patternStops hs i
  have hc : ((patternStops i).run s).Canon := hs.run _
  have hset := frame_setTestFields hc i (0 : BitVec 2).toNat pattern.toNat (0 : BitVec 2).toNat
  obtain ⟨hloop, -⟩ := fld_setTestFields hc i 0 pattern 0
  have hcv := hc.run (setTestFields i (0 : BitVec 2).toNat pattern.toNat (0 : BitVec 2).toNat)
  refine .of_go rfl hawake ?_
  rw [Prog.run_when, if_pos (by simpa using hi), hrun]
  generalize (setTestFields i (0 : BitVec 2).toNat pattern.toNat (0 : BitVec 2).toNat).run ((patternStops i).run s) = v at *
  have hframe : Frame [.freeCount] [R.SDS_LCTRL i, R.SDS_LPRBS_ERR i] s v :=
    (hstops.mono (by simp) (by simp)).trans (hset.mono (by simp) (by simp))
  have hsds : v.sds = s.sds := hframe.1 .sds (by decide) (by decide)
  have hdie : v.dieT = s.dieT := hframe.dieT (by
    rw [List.mem_cons, List.mem_singleton, not_or]
    exact ⟨R.SDS_LCTRL_ne i (by decide), by unfold R.HKP_TEMP R.SDS_LPRBS_ERR; omega⟩)
  have hlane (k : Nat) : v.lane k = s.lane k := by
    unfold State.lane
    rw [hsds]
  refine ⟨?_, ?_, fun j hj => ?_, (hframe.mono (by simp) (by simp)).trans ?_⟩
  · rw [restartLane, Prog.run_dyn, State.lane_modLane_same _ _ _ (by rwa [hsds, hlen]), hlane, hsds, hdie]
  · rw [restartLane, Prog.run_dyn, State.fld_modLane]
    exact hloop
  · rw [restartLane, Prog.run_dyn, State.lane_modLane_other _ _ _ _ hj, hlane]
  · exact Prog.Does.frame (by simp [restartLane]) hcv

/-- OFFSET_CAL_DONE in time (R307, R308, R313). -/
theorem completes_offsetCalDone {s : State} (hs : s.Canon) (hawake : s.Awake) {i : Nat} (hi : i < 224)
    (hlen : s.sds.lanes.length = 224) (w : Word) (stamp t0 : Time) (hst : (s.lane i).st = .offsetCal)
    (hrun : (s.lane i).runStart = some t0) (hin : stamp < t0 + runBound) :
    Completes (.offsetCalDone i w stamp) s (fun t =>
      t.lane i = { (s.lane i).fresh with st := .trainLow } ∧ t.reg (R.SDS_LOFS i) = w &&& 0x3F3F3F3F ∧
        t.out = .trainingSet i (t.ownTs i false 15 1 false) :: s.out ∧ (∀ j, j ≠ i → t.lane j = s.lane j) ∧
        Frame [.sds, .out] [R.SDS_LOFS i] s t) := by
  have hlate : ¬ t0 + runBound ≤ stamp := not_le.2 hin
  refine .of_go rfl hawake ?_
  refine ⟨?_, ?_, ?_, fun j hj => ?_, ?_⟩
  · simp [hst, hrun, hlate, sendTs, hlen, hi]
  · simp [hst, hrun, hlate, sendTs, hs]
  · have hsent (u : State) (o : Out) : ((Act.out o).apply u).ownTs i false 15 1 false = u.ownTs i false 15 1 false := rfl
    simp [hst, hrun, hlate, sendTs, hsent, hlen, hi, Lane.fresh]
  · simp [hst, hrun, hlate, sendTs, hj]
  · exact Prog.Does.frame (by simp [hst, hrun, hlate, sendTs]) hs

/-- Settles O22, command by command over `modLane`, and over the lanes of a port for LANE_ENABLE and LANE_DISABLE. -/
theorem lanesEnableAndCalibrate : Obligations.LanesEnableAndCalibrate := by
  unfold Obligations.LanesEnableAndCalibrate
  intro s i stamp hinv hawake hi hlen
  have hs := hinv.canon
  refine ⟨fun hdrive hoff htest => ?_, fun p hp hnot => ?_, fun p hp hen htest => ?_,
    fun hfailed halone => completes_laneDisable hs hawake hi hlen stamp hfailed halone,
    fun p hp hact => completes_laneDisable_port hs hawake hlen stamp hp hact,
    fun hfailed => completes_laneDisable_failed hs hawake hi stamp hfailed,
    fun loop pattern speed hlc hpattern => ⟨fun hfields hst =>
      completes_laneTestWrite_test hs hawake hi hlen loop pattern speed stamp hlc hpattern hfields hst, ?_⟩,
    fun loop pattern speed h => completes_laneTestWrite_ignored i loop pattern speed stamp h,
    fun w t0 hst hrun hin => completes_offsetCalDone hs hawake hi hlen w stamp t0 hst hrun hin⟩
  · have hset : s.enableSet i = [i] := by simp [State.enableSet, laneFabricPort_eq_none hdrive]
    obtain ⟨t, hexec, hup, hother, v, hv, hvt⟩ := completes_laneEnable hs hawake hi hlen stamp
      (by simp [hset]) (by simpa [hset] using hi) (by simpa [hset] using htest)
    rw [hset] at hup hother hvt
    obtain ⟨hlane, hen⟩ := hup i List.mem_cons_self hoff
    exact ⟨t, hexec, hlane, hen, fun j hj => hother j (.inl (by simpa using hj)),
      (hv.mono (by simp) (by simp)).trans hvt⟩
  · exact completes_laneEnable_none hs hawake hi stamp (by simp [State.enableSet, hp, hnot])
  · have hset : s.enableSet i = portLanes p := by simp [State.enableSet, hp, hen]
    obtain ⟨hp6, hmem, -⟩ := laneFabricPort_some hp
    obtain ⟨t, hexec, hup, hother, v, hv, hvt⟩ := completes_laneEnable hs hawake hi hlen stamp
      (by rw [hset]; exact portLanes_nodup p) (by rw [hset]; exact fun k hk => portLanes_lt hp6 hk) (by rwa [hset])
    rw [hset] at hup hother hvt
    exact ⟨t, hexec, hup, hother, (hv.mono (by simp) (by simpa using ⟨i, hmem, rfl⟩)).trans hvt⟩
  · rintro rfl rfl hst
    exact completes_laneTestWrite_leaves hs hawake hi hlen pattern stamp hlc hpattern hst

end Sys2Proof.Machine
end

section
/-! PROOF. One packet that leaves by an idle port at once (R352, R353, R358, R363, R370). -/

namespace Sys2Proof.Machine

@[simp] theorem port_modPort_same (s : State) (p : Nat) (f : Port → Port) (h : p < s.fab.ports.length) :
    ((modPort p f).run s).port p = f (s.port p) := getD_modAt_same _ _ _ _ h
@[simp] theorem port_modPort_other (s : State) (p q : Nat) (f : Port → Port) (h : q ≠ p) :
    ((modPort p f).run s).port q = s.port q := getD_modAt_other _ _ _ _ _ h
@[simp] theorem modPort_does {parts : List Part} {offs : List Nat} (p : Nat) (f : Port → Port) (s : State) :
    (modPort p f).Does (Act.Within parts offs) s ↔ Part.fab ∈ parts := Iff.rfl
@[simp] theorem modPort_out (p : Nat) (f : Port → Port) (s : State) : ((modPort p f).run s).out = s.out := (rfl)
@[simp] theorem fld_modPort (p : Nat) (f : Port → Port) (s : State) (g : Fld) : ((modPort p f).run s).fld g = s.fld g := (rfl)

/-- The only packet waiting at an output is the next, where it may start (R370). -/
theorem pickNext_single {q : Port} {c : Queued} (hq : q.queue = [c]) (hin : c.input < 7) (hsend : canSend q c = true) :
    pickNext q = some c := by
  have hhead (cls i : Nat) : headOf q cls i = if c.pkt.cls.toNat = cls ∧ c.input = i then some c else none := by
    unfold headOf
    rw [hq]
    by_cases hc : c.pkt.cls.toNat = cls
    · have hlist : upToAhead [c] = [c] := by cases ha : c.ahead <;> simp [upToAhead, ha]
      by_cases hi : c.input = i <;> simp [hc, hi, hlist]
    · simp [hc, upToAhead]
  have hready (cls : Nat) : readyIn q cls = if c.pkt.cls.toNat = cls then [c] else [] := by
    unfold readyIn
    simp only [hhead]
    by_cases hc : c.pkt.cls.toNat = cls
    · simp only [hc, true_and, if_true]
      rw [show List.range 7 = [0, 1, 2, 3, 4, 5, 6] from rfl]
      interval_cases c.input <;> simp [List.filterMap_cons, hsend]
    · simp [hc]
  have hlt : c.pkt.cls.toNat < 4 := c.pkt.cls.isLt
  unfold pickNext
  simp only [hready]
  interval_cases c.pkt.cls.toNat <;> simp [List.range_succ, leastRank]

/-- A port that is idle, carries packets, and has room for one more (R352, R353). -/
structure Port.Idle (q : Port) (pkt : XtfPacket) : Prop where
  carries : portCarries q = true
  queue : q.queue = []
  room : pkt.cls = 0 ∨ q.unacked.length < 64
  credits : creditsOf pkt ≤ creditsFree q pkt.cls.toNat

/-- The ports of one state are those of another but for the credits of received packets (R353, R363). -/
def State.PortsBut (s t : State) : Prop := ∀ q, ∃ back held, t.port q = { s.port q with creditBack := back, held := held }

theorem returnCredits_portsBut (port cls n : Nat) (s : State) : s.PortsBut ((returnCredits port cls n).run s) := by
  intro q
  have hkept : ∃ back held, s.port q = { s.port q with creditBack := back, held := held } := ⟨_, _, rfl⟩
  rw [returnCredits, Prog.run_when]
  split
  · by_cases hq : q = port
    · by_cases hlen : q < s.fab.ports.length
      · subst hq
        exact ⟨_, _, port_modPort_same s q _ hlen⟩
      · have hnone : ((modPort port (fun q => { q with
            creditBack := modAt q.creditBack cls (· + n), held := modAt q.held cls (· - n) })).run s).port q = s.port q := by
          show (modAt s.fab.ports port _).getD q {} = s.fab.ports.getD q {}
          rw [modAt_eq_modify, List.getD_eq_getElem?_getD, List.getD_eq_getElem?_getD, List.getElem?_modify,
            List.getElem?_eq_none (by omega)]
          rfl
        rwa [hnone]
    · rwa [port_modPort_other s port q _ hq]
  · exact hkept

theorem copySent_portsBut (hold credits : Nat) (s : State) : s.PortsBut ((copySent hold credits).run s) := by
  rw [copySent, Prog.run_dyn]
  split
  · exact fun _ => ⟨_, _, rfl⟩
  · split
    · exact returnCredits_portsBut _ _ _ _
    · exact fun _ => ⟨_, _, rfl⟩

theorem copySent_frame (hold credits : Nat) (s : State) : Frame [.fab] [] s ((copySent hold credits).run s) := by
  refine Prog.frame_noRegs _ _ (fun s => ?_) s
  dsimp only
  split
  · trivial
  · simp [returnCredits, modPort, Act.Within]

/-- What a port sends that carries packets and has one waiting which may go (R353, R370): that packet, and nothing else. -/
theorem run_pumpPort_single {s : State} (hs : s.Canon) {p : Nat} (hp : p < s.fab.ports.length) {c : Queued}
    (hcarries : portCarries (s.port p) = true) (hqueue : (s.port p).queue = [c]) (hin : c.input < 7)
    (hsend : canSend (s.port p) c = true) : let u := (pumpPort p).run s
    u.out = packetOut p (startPacket (s.port p) c).2 :: s.out ∧ u.fld (F.FAB_P_TX_COUNT p) = s.countUp (F.FAB_P_TX_COUNT p) ∧
      ((modPort p (fun _ => (startPacket (s.port p) c).1)).run s).PortsBut u ∧ Frame [.fab, .out] [R.FAB_P_TX p] s u := by
  have hrun : (pumpPort p).run s = (copySent c.hold (creditsOf c.pkt)).run
      ((sendPacket p (startPacket (s.port p) c).2).run ((modPort p (fun _ => (startPacket (s.port p) c).1)).run s)) := by
    rw [pumpPort, Prog.run_dyn, if_pos hcarries]
    have hlen : (s.port p).queue.length = 1 := by rw [hqueue]; rfl
    rw [hlen, drainPort, Prog.run_dyn, pickNext_single hqueue hin hsend]
    rfl
  rw [hrun]
  generalize startPacket (s.port p) c = r
  have hw : Frame [.fab] [] s ((modPort p (fun _ => r.1)).run s) := Prog.frame_noRegs _ _ (by simp [modPort, Act.Within]) s
  have hwc : ((modPort p (fun _ => r.1)).run s).Canon := hs.run _
  have hwout : ((modPort p (fun _ => r.1)).run s).out = s.out := rfl
  generalize (modPort p (fun _ => r.1)).run s = w at *
  have hsent : Frame [.out] [R.FAB_P_TX p] w ((sendPacket p r.2).run w) :=
    Prog.Does.frame (by simp [sendPacket, F.FAB_P_TX_COUNT]) hwc
  have hfld : ((sendPacket p r.2).run w).fld (F.FAB_P_TX_COUNT p) = s.countUp (F.FAB_P_TX_COUNT p) := by
    have hcount := Prog.run_count_same (F.FAB_P_TX_COUNT p) 1 ((Act.out (packetOut p r.2)).apply w)
      (hwc.apply _) (by show 31 < 32; decide) (by show 0 ≤ 31; decide)
    rw [State.countUp, ← hw.fld (F.FAB_P_TX_COUNT p) (by simp)]
    exact hcount
  have hout : ((sendPacket p r.2).run w).out = packetOut p r.2 :: s.out := by rw [← hwout]; rfl
  have hports (q : Nat) : ((sendPacket p r.2).run w).port q = w.port q := by
    rw [State.port, hsent.1 .fab (by decide) (by decide), State.port]
  generalize (sendPacket p r.2).run w = x at *
  have hlast := copySent_frame c.hold (creditsOf c.pkt) x
  refine ⟨?_, (hlast.fld _ (by simp)).trans hfld, fun q => ?_, (hw.mono (by simp) (by simp)).trans
    ((hsent.mono (by simp) (by simp)).trans (hlast.mono (by simp) (by simp)))⟩
  · rw [hlast.1 .out (by decide) (by decide), hout]
  · rw [← hports q]
    exact copySent_portsBut _ _ _ q

/-- The packet as an idle port sends it: under the next LSEQ, but for class 0 (R352). -/
def Port.numbered (q : Port) (pkt : XtfPacket) : XtfPacket := { pkt with lseq := if pkt.cls.toNat = 0 then 0 else q.txSeq }

/-- What one packet that leaves by an idle port leaves (R353, R363, R370). -/
theorem run_dispatchHops_send {s : State} (hs : s.Canon) {p : Nat} (hp : p < s.fab.ports.length) {pkt : XtfPacket}
    (hidle : (s.port p).Idle pkt) (cls credits : Nat) : let u := (dispatchHops 6 cls credits false [.send p pkt]).run s
    let k : Queued := { pkt := (s.port p).numbered pkt }
    u.out = packetOut p k :: s.out ∧ u.fld (F.FAB_P_TX_COUNT p) = s.countUp (F.FAB_P_TX_COUNT p) ∧
      (pkt.cls ≠ 0 → (u.port p).unacked = (s.port p).unacked ++ [k] ∧ (u.port p).txSeq = (s.port p).txSeq + 1) ∧
      Frame [.fab, .out] [R.FAB_P_TX p] s u := by
  obtain ⟨hcarries, hqueue, hroom, hcredits⟩ := hidle
  let c : Queued := { pkt := pkt, input := 6, hold := s.fab.nextHold + 1, bad := false }
  have hpump : (dispatchHops 6 cls credits false [.send p pkt]).run s =
      (pumpPort p).run ((modPort p (fun q => { q with queue := q.queue ++ [c] })).run ((Act.fab (fun b => { b with
        nextHold := s.fab.nextHold + 1, holds := b.holds ++ [(s.fab.nextHold + 1, 6, cls, 1)] })).apply s)) := rfl
  have hvport : ((modPort p (fun q => { q with queue := q.queue ++ [c] })).run ((Act.fab (fun b => { b with
      nextHold := s.fab.nextHold + 1, holds := b.holds ++ [(s.fab.nextHold + 1, 6, cls, 1)] })).apply s)).port p =
      { s.port p with queue := [c] } := by
    rw [port_modPort_same _ _ _ (by simpa using hp)]
    show { s.port p with queue := (s.port p).queue ++ [c] } = _
    rw [hqueue]
    rfl
  have hvframe : Frame [.fab] [] s ((modPort p (fun q => { q with queue := q.queue ++ [c] })).run ((Act.fab (fun b => { b with
      nextHold := s.fab.nextHold + 1, holds := b.holds ++ [(s.fab.nextHold + 1, 6, cls, 1)] })).apply s)) :=
    Prog.frame_noRegs [.fab] (.seq (.act (.fab _)) (modPort p _)) (by simp [modPort, Act.Within]) s
  have hvlen : p < ((modPort p (fun q => { q with queue := q.queue ++ [c] })).run ((Act.fab (fun b => { b with
      nextHold := s.fab.nextHold + 1, holds := b.holds ++ [(s.fab.nextHold + 1, 6, cls, 1)] })).apply s)).fab.ports.length := by
    show p < (modAt _ p _).length
    simpa [modAt_eq_modify] using hp
  rw [hpump]
  generalize hv : (modPort p (fun q => { q with queue := q.queue ++ [c] })).run _ = v at *
  have hvc : v.Canon := hv ▸ (hs.apply _).run _
  have hsend : canSend (v.port p) c = true := by
    rw [hvport]
    exact Bool.and_eq_true_iff.2 ⟨decide_eq_true hcredits,
      Bool.or_eq_true_iff.2 (hroom.imp (fun h => beq_iff_eq.2 h) decide_eq_true)⟩
  obtain ⟨hout, hcount, hports, hframe⟩ := run_pumpPort_single hvc hvlen (by rw [hvport]; exact hcarries) (by rw [hvport])
    (show 6 < 7 by decide) hsend
  have hsent : (startPacket (v.port p) c).2 = { pkt := (s.port p).numbered pkt } := by rw [hvport]; rfl
  intro u k
  refine ⟨?_, ?_, fun hcls => ?_, (hvframe.mono (by simp) (by simp)).trans hframe⟩
  · rw [hout, hsent, show v.out = s.out from hvframe.1 .out (by decide) (by decide)]
  · rw [hcount, State.countUp, hvframe.fld _ (by simp), State.countUp]
  · have hne : ¬ pkt.cls.toNat = 0 := fun h => hcls (BitVec.eq_of_toNat_eq h)
    obtain ⟨back, held, hport⟩ := hports p
    rw [port_modPort_same _ _ _ hvlen, hvport] at hport
    rw [hport]
    constructor
    · show (if pkt.cls.toNat = 0 then _ else _) = _
      rw [if_neg hne]
      rfl
    · show (if pkt.cls.toNat = 0 then _ else _) = _
      rw [if_neg hne]

/-! ### Packets of this node to itself, and up a tree -/

/-- A unicast packet to this node stays here (R358). -/
theorem routeHops_self {s : State} {a : BitVec 16} (hhere : s.here = some a) (hg : isGuest a = false) {pkt : XtfPacket}
    (hm : pkt.mode = 0) (hdst : BitVec.ofNat 16 pkt.dst.toNat = a) (hdet : pkt.detoured = false) :
    routeHops s pkt = [.deliver pkt] := by
  have hmode : ¬ pkt.mode = 4 := by rw [hm]; decide
  simp [routeHops, hmode, hhere, hm, routeUnicast, hdst, hg, routeTo, hdet, clearHere]

/-- A tree-up packet leaves by the parent port where that link is usable (R361). -/
theorem routeHops_up {s : State} {a : BitVec 16} (hhere : s.here = some a) {pkt : XtfPacket} (hm : pkt.mode = 2) {p : Nat}
    (hparent : (s.dom pkt.domain).parent = some p) (husable : s.linkUsable (addrX a) (addrY a) p = true) :
    routeHops s pkt = [.send p pkt] := by
  have hmode : ¬ pkt.mode = 4 ∧ ¬ pkt.mode = 0 ∧ ¬ pkt.mode = 1 := by rw [hm]; decide
  obtain ⟨h4, h0, h1⟩ := hmode
  simp [routeHops, h4, h0, h1, hhere, routeTree, hm, hparent, treeHop, husable]

/-- What a packet of this node changes of the fabric before it is delivered here. -/
def Fabric.originated (b : Fabric) (cls : Nat) : Fabric :=
  { b with srcSeq := modAt b.srcSeq cls (· + 1), nextHold := b.nextHold + 1 }

theorem run_originate_deliver {s : State} {cls mode proto : Nat} {domain : Bool} {dst : Word} {payload : List Byte}
    {pkt : XtfPacket} (hroute : routeHops ((bumpSrcSeq cls).run s) (s.newPacket cls mode proto domain dst payload) =
      [.deliver pkt]) :
    (originate cls mode proto domain dst payload).run s =
      (deliverPacket pkt).run ((Act.fab (fun b => b.originated cls)).apply s) := by
  have hrun : (originate cls mode proto domain dst payload).run s =
      (dispatchHops 6 (s.newPacket cls mode proto domain dst payload).cls.toNat
        (creditsOf (s.newPacket cls mode proto domain dst payload)) false
        (routeHops ((bumpSrcSeq cls).run s) (s.newPacket cls mode proto domain dst payload))).run ((bumpSrcSeq cls).run s) := rfl
  rw [hrun, hroute]
  rfl

theorem run_deliverPacket {s : State} {pkt : XtfPacket} (hok : messageOk pkt = true) (hcls : pkt.cls ≠ 2) :
    (deliverPacket pkt).run s = (Act.out (.deliver pkt)).apply s := by
  rw [deliverPacket, Prog.run_dyn, hok, if_neg (by simp), if_neg (fun h => hcls h.1), Prog.run_send]

end Sys2Proof.Machine
end

section
/-! PROOF. A node whose parent port has a number beyond the six ports sends its vote by it, and the transmit counter of that port
lies at the place of a lane register: why the statements on lanes that fail do not hold in every state of the invariant
(R313, R314, R318, R321, R409, R415). -/

namespace Sys2Proof.Machine

/-- A sapling, its own root, that votes on Canopy A by port `p` as soon as it enters FAULT. -/
structure State.VotesBy (s : State) (p : Nat) : Prop where
  node : s.node = .sapling
  noTrial : s.NoTrial
  enabled : s.flag F.CMT_CTRL_ENABLE = true
  unsent : s.cmt.sent = []
  here : s.here = some 0
  root : s.rootA = 0
  parentA : (s.dom false).parent = some p
  parentB : (s.dom true).parent = none
  childless : (s.dom false).cands = []
  links : s.fab.links = []
  port : p < s.fab.ports.length
  up : (s.port p).st = .up
  queue : (s.port p).queue = []
  unacked : (s.port p).unacked = []
  credits : 1 ≤ creditsFree (s.port p) 1

/-- What of the state the way to the vote leaves alone. -/
structure SameForVote (p : Nat) (s t : State) : Prop where
  fab : t.fab = s.fab
  tim : t.tim = s.tim
  cmt : t.cmt = s.cmt
  ctrl : t.reg R.CMT_CTRL = s.reg R.CMT_CTRL
  root : t.reg R.TIM_ROOT = s.reg R.TIM_ROOT
  count : t.reg (R.FAB_P_TX p) = s.reg (R.FAB_P_TX p)

/-- The vote that leaves by the parent port is counted there (Table 12.13). -/
theorem run_trySendVote_counts {s : State} (hs : s.Canon) {p : Nat} (hnode : s.node = .fault)
    (hen : s.flag F.CMT_CTRL_ENABLE = true) (hsent : s.cmt.sent = []) (hhere : s.here = some 0)
    (hparent : (s.dom false).parent = some p) (hcands : (s.dom false).cands = []) (hlinks : s.fab.links = [])
    (hport : p < s.fab.ports.length) (hup : (s.port p).st = .up) (hqueue : (s.port p).queue = [])
    (hunacked : (s.port p).unacked = []) (hcredits : 1 ≤ creditsFree (s.port p) 1) :
    let t := (trySendVote false).run s
    t.fld (F.FAB_P_TX_COUNT p) = s.countUp (F.FAB_P_TX_COUNT p) ∧ t.tim = s.tim := by
  have hchildren : s.children false = [] := by simp [State.children, hcands]
  let body := voteBytes 1 s.N (s.aggregate false s.N)
  let v := (bumpSrcSeq 1).run ((Act.cmt (fun c => { c with sent := (false, s.N) :: c.sent })).apply s)
  let pkt := s.newPacket 1 2 3 false 0 body
  have hroute : routeHops v pkt = [.send p pkt] := by
    refine routeHops_up (a := 0) hhere rfl hparent ?_
    have hvport : v.port p = s.port p := rfl
    have hvlinks : v.fab.links = [] := hlinks
    show ((v.port p).st == .up && !linkFailed v.fab.links _) = true
    rw [hvport, hup, hvlinks]
    rfl
  have hrun : (trySendVote false).run s = (dispatchHops 6 pkt.cls.toNat (creditsOf pkt) false [.send p pkt]).run v := by
    have hfirst : (trySendVote false).run s = (sendVote false).run s := by
      rw [trySendVote, Prog.run_dyn, if_pos (by simp [hnode, hchildren])]
    have hsend : (sendVote false).run s = (dispatchHops 6 pkt.cls.toNat (creditsOf pkt) false (routeHops v pkt)).run v := by
      rw [sendVote, Prog.run_dyn, if_neg (by simp [hen, State.voteSent, hsent, hparent])]
      rfl
    rw [hfirst, hsend, hroute]
  have hlen : body.length = 28 := by simp [body, voteBytes]
  have hidle : (v.port p).Idle pkt := by
    refine ⟨?_, hqueue, ?_, ?_⟩
    · show portCarries (s.port p) = true
      rw [portCarries, hup]
      rfl
    · refine .inr ?_
      show (s.port p).unacked.length < 64
      simp [hunacked]
    · show creditsOf pkt ≤ creditsFree (s.port p) 1
      have : creditsOf pkt = 1 := by simp [creditsOf, pkt, State.newPacket, hlen]
      rwa [this]
  obtain ⟨-, hcount, -, hframe⟩ := run_dispatchHops_send (s := v) ((hs.apply _).run _) hport hidle pkt.cls.toNat (creditsOf pkt)
  rw [hrun]
  refine ⟨hcount.trans ?_, hframe.1 .tim (by decide) (by decide)⟩
  rfl

theorem faultNotice_messageOk (s : State) (fsn : Fsn) (reason : Nat) : messageOk (s.newPacket 1 0 3 false 0
    (leBytes 4 9 ++ leBytes 4 fsn.toNat ++ leBytes 2 reason ++ leBytes 2 0)) = true := by
  simp [messageOk, State.newPacket, leBytes]

/-- The notice of a node that is its own root stays here (R415). -/
theorem run_faultNotice_self {s : State} (hhere : s.here = some 0) (hroot : s.rootA = 0) (fsn : Fsn) (reason : Nat) :
    ∃ pkt, (faultNotice fsn reason).run s = (Act.out (.deliver pkt)).apply ((Act.fab (fun b => b.originated 1)).apply s) := by
  refine ⟨s.newPacket 1 0 3 false 0 (leBytes 4 9 ++ leBytes 4 fsn.toNat ++ leBytes 2 reason ++ leBytes 2 0), ?_⟩
  have hrun : (faultNotice fsn reason).run s = (originate 1 0 3 false 0
      (leBytes 4 9 ++ leBytes 4 fsn.toNat ++ leBytes 2 reason ++ leBytes 2 0)).run s := by
    rw [faultNotice, Prog.run_dyn, hroot]
    rfl
  rw [hrun, run_originate_deliver (routeHops_self (a := 0) hhere (by decide) rfl rfl rfl),
    run_deliverPacket (faultNotice_messageOk s fsn reason) (by simp [State.newPacket])]

/-- What a node does on its way from FAULT to the notice (R341, R560). -/
def beforeNotice (family code : Nat) : Prog :=
  .block [aplHalt, .act (.extend 14 (Config.codeDigest (family * 256 + code))), .raise 36]

theorem Spared.sameForVote {parts : List Part} {P : Nat → Prop} {s t : State} (h : Spared parts P s t) {p : Nat}
    (hparts : Part.fab ∉ parts ∧ Part.tim ∉ parts ∧ Part.cmt ∉ parts) (hregs : ¬ P R.CMT_CTRL ∧ ¬ P R.TIM_ROOT ∧ ¬ P (R.FAB_P_TX p)) :
    SameForVote p s t :=
  ⟨h.same .fab hparts.1 (by decide) (by decide), h.same .tim hparts.2.1 (by decide) (by decide),
    h.same .cmt hparts.2.2 (by decide) (by decide), h.reg _ hregs.1, h.reg _ hregs.2.1, h.reg _ hregs.2.2⟩

theorem SameForVote.trans {p : Nat} {s t u : State} (h : SameForVote p s t) (h' : SameForVote p t u) : SameForVote p s u :=
  ⟨h'.fab.trans h.fab, h'.tim.trans h.tim, h'.cmt.trans h.cmt, h'.ctrl.trans h.ctrl, h'.root.trans h.root,
    h'.count.trans h.count⟩

theorem run_leaveService (m : State) (fsn : Fsn) (family code : Nat) : (leaveService fsn family code).run m =
    (trySendVote true).run ((trySendVote false).run ((faultNotice fsn (family * 256 + code)).run
      ((beforeNotice family code).run m))) := by
  simp only [leaveService, beforeNotice, Prog.run_block_cons, Prog.run_block_nil]

theorem beforeNotice_in (family code : Nat) :
    (beforeNotice family code).Only (Act.In [.apl, .meas, .freeCount] (· = R.APL_STATUS)) := by
  simp [beforeNotice, aplHalt, aplCounts, Act.In, Act.Within, F.APL_STATUS_INFLIGHT, F.APL_STATUS_QUEUED,
    F.APL_STATUS_JOURNAL_BUSY]

theorem R.FAB_P_TX_far (p : Nat) : R.FAB_P_TX p ∉ faultRegs ∧ R.FAB_P_TX p ≠ R.APL_STATUS := by
  simp only [faultRegs, List.mem_cons, List.not_mem_nil, or_false, R.FAB_P_TX, R.HKP_FAULT, R.HKP_FAULT_DETAIL,
    R.HKP_FAULT_FSN, R.APL_STATUS]
  omega

/-- The entry into FAULT up to its notice (R341, R559, R560). -/
theorem run_enterFault_notice {s : State} (hs : s.Canon) (hnode : s.node = .sapling) (hno : s.NoTrial) (p : Nat)
    (block family code detail : Nat) : ∃ q : State, q.Canon ∧ q.node = .fault ∧ SameForVote p s q ∧
      (enterFault block family code detail).run s = (trySendVote true).run ((trySendVote false).run
        ((faultNotice s.S (family * 256 + code)).run q)) := by
  have hmove : nodeMove s.node .fault = true := by rw [hnode]; rfl
  have hrec := (recordFault_in (parts := []) (P := (· ∈ faultRegs)) (fun _ => id) block family code detail s.S
    (s.flag F.HKP_FAULT_VALID)).spared hs
  rw [run_enterFault hmove hno]
  generalize hr : (recordFault block family code detail s.S (s.flag F.HKP_FAULT_VALID)).run s = r at hrec
  have hrc : r.Canon := hr ▸ hs.run _
  have hrnode : r.node = s.node := hrec.same .node (by simp) (by decide) (by decide)
  have hmoved : Spared [.node, .freeCount] (fun _ => False) r ((moveNode .fault).run r) :=
    Prog.Only.spared (fun _ => by simp [Act.In, Act.Within]) hrc
  have hfault : ((moveNode .fault).run r).node = .fault := by simp [moveNode, hrnode, hmove, Act.apply]
  generalize hm : (moveNode .fault).run r = m at hmoved hfault
  have hmc : m.Canon := hm ▸ hrc.run _
  have hbefore := (beforeNotice_in family code).spared hmc
  obtain ⟨hregs, hstatus⟩ := R.FAB_P_TX_far p
  rw [run_leaveService]
  refine ⟨(beforeNotice family code).run m, hmc.run _,
    Eq.trans (hbefore.same .node (by decide) (by decide) (by decide)) hfault, ?_, rfl⟩
  exact (hrec.sameForVote (by simp) ⟨by decide, by decide, hregs⟩).trans
    ((hmoved.sameForVote (by simp) (by simp)).trans (hbefore.sameForVote (by simp) ⟨by decide, by decide, hstatus⟩))

/-- The votes after the notice, where the state is as it was in what they look at. -/
theorem run_votes_counts {s w : State} {p : Nat} (hw : w.Canon) (h : s.VotesBy p) (hnode : w.node = .fault)
    (hfab : w.fab = s.fab.originated 1) (htim : w.tim = s.tim) (hcmt : w.cmt = s.cmt)
    (hctrl : w.reg R.CMT_CTRL = s.reg R.CMT_CTRL) (hcount : w.reg (R.FAB_P_TX p) = s.reg (R.FAB_P_TX p)) :
    ((trySendVote true).run ((trySendVote false).run w)).fld (F.FAB_P_TX_COUNT p) = s.countUp (F.FAB_P_TX_COUNT p) := by
  have hport : w.port p = s.port p := by unfold State.port; rw [hfab]; rfl
  have hdom (d : Bool) : w.dom d = s.dom d := by unfold State.dom; rw [htim]
  have hen : w.flag F.CMT_CTRL_ENABLE = true := by
    rw [← h.enabled]
    unfold State.flag State.fld
    rw [show F.CMT_CTRL_ENABLE.off = R.CMT_CTRL from rfl, hctrl]
  obtain ⟨hsent, htim'⟩ := run_trySendVote_counts hw (p := p) hnode hen
    (by rw [hcmt, h.unsent]) (by unfold State.here; rw [hfab]; exact h.here) (by rw [hdom, h.parentA])
    (by rw [hdom, h.childless]) (by rw [hfab]; exact h.links) (by rw [hfab]; exact h.port) (by rw [hport, h.up])
    (by rw [hport, h.queue]) (by rw [hport, h.unacked]) (by rw [hport]; exact h.credits)
  generalize (trySendVote false).run w = v at *
  have hlast : (trySendVote true).run v = v := by
    have hparent : (v.dom true).parent = none := by
      unfold State.dom
      rw [htim', htim]
      exact h.parentB
    rw [trySendVote, Prog.run_dyn]
    dsimp only
    split
    · rw [sendVote, Prog.run_dyn, if_pos (by simp [hparent]), Prog.run_nil]
    · rfl
  have hfld : w.fld (F.FAB_P_TX_COUNT p) = s.fld (F.FAB_P_TX_COUNT p) := congrArg (getBits · 31 0) hcount
  rw [hlast, hsent, State.countUp, State.countUp, hfld]

/-- Such a node counts its vote when it enters FAULT (R409, R560). -/
theorem enterFault_counts {s : State} (hs : s.Canon) {p : Nat} (h : s.VotesBy p) (block family code detail : Nat) :
    ((enterFault block family code detail).run s).fld (F.FAB_P_TX_COUNT p) = s.countUp (F.FAB_P_TX_COUNT p) := by
  obtain ⟨q, hqc, hqnode, hsame, hrun⟩ := run_enterFault_notice hs h.node h.noTrial p block family code detail
  have hqroot : q.rootA = 0 := by
    rw [← h.root]
    unfold State.rootA State.fld
    rw [show F.TIM_ROOT_ROOT_A.off = R.TIM_ROOT from rfl, hsame.root]
  obtain ⟨pkt, hnotice⟩ := run_faultNotice_self (s := q) ((congrArg Fabric.coord hsame.fab).trans h.here) hqroot s.S
    (family * 256 + code)
  rw [hrun, hnotice]
  exact run_votes_counts ((hqc.apply _).apply _) h hqnode (congrArg (Fabric.originated · 1) hsame.fab) hsame.tim hsame.cmt
    hsame.ctrl hsame.count

end Sys2Proof.Machine
end

section
/-! PROOF. Counterexamples in which the counter of the vote lies on a lane's register: a node that takes its lanes to FAILED
enters FAULT, votes, and counts the vote there (R313, R314, R318, R321, R409, R415). -/

namespace Sys2Proof.Machine

/-! ### What enters FAULT with the lanes -/

/-- The place of the first failed lane among those that fail at one instant (R321). -/
def lowestFail (first : Nat × Nat) (f : List (Nat × Nat)) : Nat × Nat := f.foldl (fun m x => if x.1 < m.1 then x else m) first

/-- What lanes that fail leave of themselves, before their ports go down and the node enters FAULT (R321). -/
def markLanes (f : List (Nat × Nat)) (low : Nat × Nat) (summary : Bool) (t : Time) : Prog :=
  .block [
    .each f (fun x => .block [
      modLane x.1 (fun l => { l with st := .failed, runStart := none, farRun := none, ready := false }),
      .setFld (F.SDS_LFAIL_CODE x.1) x.2, .raiseAt 377 t]),
    dropRecal (f.map (·.1)),
    .when summary (.block [.setFld F.SDS_SUMMARY_FAIL_LANE low.1, .setFld F.SDS_SUMMARY_FAIL_VALID 1])]

theorem run_failEach {s : State} {ls f : List (Nat × Nat)} {first : Nat × Nat} {t : Time}
    (h : ls.filter (fun x => x.1 < 224 && (s.lane x.1).st != .off && (s.lane x.1).st != .failed) = first :: f) :
    (failEach ls t).run s = (enterFault 0x18 0x05 (lowestFail first (first :: f)).2 (lowestFail first (first :: f)).1).run
      ((Prog.each ((first :: f).filterMap (fun x => laneFabricPort x.1)).eraseDups (fun p => portOut p .down t)).run
        ((markLanes (first :: f) (lowestFail first (first :: f)) (!s.flag F.SDS_SUMMARY_FAIL_VALID) t).run s)) := by
  rw [failEach, Prog.run_dyn]
  simp only [h]
  rfl

theorem markLanes_only {f : List (Nat × Nat)} {low : Nat × Nat} {summary : Bool} {t : Time} {P : Nat → Prop}
    (hfail : ∀ x ∈ f, P (R.SDS_LFAIL x.1)) (hsummary : P R.SDS_SUMMARY) :
    (markLanes f low summary t).Only (Act.In [.sds] P) :=
  ⟨Prog.only_each_iff.2 fun x hx => ⟨List.mem_cons_self, fun _ => hfail x hx, Prog.raiseAt_in _ _ _ _, trivial⟩,
    List.mem_cons_self, Prog.only_when _ ⟨fun _ => hsummary, fun _ => hsummary, trivial⟩, trivial⟩

theorem markLanes_in (f : List (Nat × Nat)) (low : Nat × Nat) (summary : Bool) (t : Time) :
    (markLanes f low summary t).Only (Act.In [.sds] fromSds) :=
  markLanes_only (fun _ _ => Nat.le_trans (by decide) (Nat.le_add_right _ _)) (by decide)

theorem Prog.run_each_append_singleton {α : Type} (l : List α) (x : α) (g : α → Prog) (s : State) :
    (Prog.each (l ++ [x]) g).run s = (g x).run ((Prog.each l g).run s) := by
  induction l generalizing s with
  | nil => rfl
  | cons y l ih => exact ih _

/-- What follows the marks of the lanes that fail. -/
def markRest (ls : List Nat) (low : Nat × Nat) (summary : Bool) : Prog :=
  .block [dropRecal ls,
    .when summary (.block [.setFld F.SDS_SUMMARY_FAIL_LANE low.1, .setFld F.SDS_SUMMARY_FAIL_VALID 1])]

theorem markRest_keeps (ls : List Nat) (low : Nat × Nat) (summary : Bool) (i : Nat) :
    (markRest ls low summary).Keeps (fun s => s.fld (F.SDS_LFAIL_CODE i)) := by
  have hne : (F.SDS_LFAIL_CODE i).off ≠ R.SDS_SUMMARY := by
    show R.SDS_LFAIL i ≠ R.SDS_SUMMARY
    unfold R.SDS_LFAIL R.SDS_SUMMARY
    omega
  refine Prog.keeps_seq (fun _ _ => rfl) (Prog.keeps_seq (Prog.keeps_ite (fun _ => ?_) fun _ => Prog.keeps_nil) Prog.keeps_nil)
  exact Prog.keeps_seq (Prog.keeps_fld_setFld _ ⟨by decide, .inl hne⟩)
    (Prog.keeps_seq (Prog.keeps_fld_setFld _ ⟨by decide, .inl hne⟩) Prog.keeps_nil)

/-- The last of the failed lanes shows its code (R321). -/
theorem fld_markLanes_last {s : State} (hs : s.Canon) (l : List (Nat × Nat)) (i code : Nat) (low : Nat × Nat) (summary : Bool)
    (t : Time) : ((markLanes (l ++ [(i, code)]) low summary t).run s).fld (F.SDS_LFAIL_CODE i) = code % 256 := by
  let mark (x : Nat × Nat) : Prog := .block [
    modLane x.1 (fun l => { l with st := .failed, runStart := none, farRun := none, ready := false }),
    .setFld (F.SDS_LFAIL_CODE x.1) x.2, .raiseAt 377 t]
  have hrun : (markLanes (l ++ [(i, code)]) low summary t).run s =
      (markRest ((l ++ [(i, code)]).map Prod.fst) low summary).run ((mark (i, code)).run ((Prog.each l mark).run s)) :=
    congrArg (fun u => (markRest ((l ++ [(i, code)]).map Prod.fst) low summary).run u) (Prog.run_each_append_singleton l (i, code) mark s)
  have hv := hs.run (Prog.each l mark)
  rw [hrun]
  generalize (Prog.each l mark).run s = v at hv ⊢
  refine ((markRest_keeps _ low summary i).run (hv.run _)).trans ?_
  exact Prog.run_setFld_same (F.SDS_LFAIL_CODE i) code _ (hv.run _) (by show 7 < 32; decide) (by show 0 ≤ 7; decide)

theorem modAt_eq_self {α : Type} {l : List α} {i : Nat} {f : α → α} {d : α} (h : f (l.getD i d) = l.getD i d) :
    modAt l i f = l := by
  induction l generalizing i with
  | nil => rfl
  | cons a l ih =>
    cases i with
    | zero => exact congrArg (· :: l) h
    | succ i => exact congrArg (a :: ·) (ih h)

/-- A port that is disabled stays as it is (R354). -/
theorem run_portOut_disabled {s : State} {p : Nat} (h : (s.port p).st = .disabled) (st : PortState) (t : Time) :
    (portOut p st t).run s = s := by
  have hcarries : portCarries (s.port p) = false := by simp [portCarries, h]
  have hports : modAt s.fab.ports p (fun q => if q.st == .disabled || q.st == .guestRefused then q else { q with st := st }) =
      s.fab.ports := modAt_eq_self (d := {}) (if_pos (by
    show ((s.port p).st == .disabled || _) = true
    simp [h]))
  rw [portOut, Prog.run_dyn, hcarries, if_neg (by simp)]
  show { s with fab := { s.fab with ports := _ } } = s
  rw [hports]

/-! ### A node that votes by a port of its own numbering -/

/-- A sapling at (0, 0) after reset, whose parent on Canopy A is port `p`, which is up. -/
def childOf (p : Nat) (d : Serial) : State :=
  { State.reset with
    sds := d
    fab := { coord := some 0, ports := List.replicate p {} ++ [{ st := .up, creditLimit := [255, 255, 255, 255] }] }
    tim := { doms := [{ parent := some p, cands := [] }, {}] } }

/-- The same with COMMIT enabled, so that it votes. -/
def voter (p : Nat) (d : Serial) : State := (Prog.setFld F.CMT_CTRL_ENABLE 1).run (childOf p d)

section
variable (p : Nat) (d : Serial)

theorem childOf_canon : (childOf p d).Canon := by
  unfold State.Canon
  rfl

theorem voter_inv : (voter p d).Inv := Prog.run_inv _ _ ⟨rfl, rfl, rfl, rfl, rfl⟩

theorem voter_awake : (voter p d).Awake := rfl

theorem voter_sds : (voter p d).sds = d := rfl

theorem voter_port_own : (voter p d).port p = { st := .up, creditLimit := [255, 255, 255, 255] } := by
  show (List.replicate p _ ++ [_]).getD p _ = _
  simp

theorem voter_port_below {q : Nat} (h : q < p) : (voter p d).port q = {} := by
  show (List.replicate p _ ++ [_]).getD q _ = _
  simp [List.getElem?_append_left, h]

theorem voter_reg {off : Nat} (h : off ≠ R.CMT_CTRL) : (voter p d).reg off = resetWord off :=
  State.reg_setFld_other F.CMT_CTRL_ENABLE 1 _ off (childOf_canon p d) h

theorem voter_votes : (voter p d).VotesBy p where
  node := rfl
  noTrial := ⟨by rw [show (voter p d).sec = {} from rfl]; decide, rfl⟩
  enabled := by
    unfold State.flag
    rw [voter, State.fld_setFld_same _ _ _ (childOf_canon p d) (by decide)]
    rfl
  unsent := rfl
  here := rfl
  root := by
    unfold State.rootA State.fld
    rw [show F.TIM_ROOT_ROOT_A.off = R.TIM_ROOT from rfl, voter_reg p d (by decide)]
    decide
  parentA := rfl
  parentB := rfl
  childless := rfl
  links := rfl
  port := by simp [voter, childOf]
  up := by rw [voter_port_own]
  queue := by rw [voter_port_own]
  unacked := by rw [voter_port_own]
  credits := by rw [voter_port_own]; decide

end

theorem State.VotesBy.of_spared {parts : List Part} {P : Nat → Prop} {s u : State} {p : Nat} (h : s.VotesBy p)
    (hspared : Spared parts P s u)
    (hparts : ∀ q ∈ [Part.node, .sec, .cmt, .fab, .tim], q ∉ parts) (hregs : ¬ P R.CMT_CTRL ∧ ¬ P R.TIM_ROOT) : u.VotesBy p := by
  simp only [List.forall_mem_cons] at hparts
  obtain ⟨hnode, hsec, hcmt, hfab, htim, -⟩ := hparts
  have enode : u.node = s.node := hspared.same .node hnode (by decide) (by decide)
  have esec : u.sec = s.sec := hspared.same .sec hsec (by decide) (by decide)
  have ecmt : u.cmt = s.cmt := hspared.same .cmt hcmt (by decide) (by decide)
  have efab : u.fab = s.fab := hspared.same .fab hfab (by decide) (by decide)
  have etim : u.tim = s.tim := hspared.same .tim htim (by decide) (by decide)
  have eport : u.port p = s.port p := by unfold State.port; rw [efab]
  have edom (b : Bool) : u.dom b = s.dom b := by unfold State.dom; rw [etim]
  exact {
    node := enode.trans h.node
    noTrial := by unfold State.NoTrial; rw [esec]; exact h.noTrial
    enabled := (hspared.flag F.CMT_CTRL_ENABLE hregs.1).trans h.enabled
    unsent := by rw [ecmt, h.unsent]
    here := by unfold State.here; rw [efab]; exact h.here
    root := by
      rw [← h.root]
      unfold State.rootA
      rw [hspared.fld F.TIM_ROOT_ROOT_A hregs.2]
    parentA := by rw [edom, h.parentA]
    parentB := by rw [edom, h.parentB]
    childless := by rw [edom, h.childless]
    links := by rw [efab, h.links]
    port := by rw [efab]; exact h.port
    up := by rw [eport, h.up]
    queue := by rw [eport, h.queue]
    unacked := by rw [eport, h.unacked]
    credits := by rw [eport]; exact h.credits }

/-- Where the low field of a register lies under the counter of the parent port, the vote adds one to it. -/
theorem fld_enterFault_vote {u : State} (hu : u.Canon) {p : Nat} (h : u.VotesBy p) {f : Fld} (hoff : f.off = R.FAB_P_TX p)
    (hhi : f.hi = 7) (hlo : f.lo = 0) (hroom : u.fld f < 255) (block family code detail : Nat) :
    ((enterFault block family code detail).run u).fld f = u.fld f + 1 := by
  have hcount := enterFault_counts hu h block family code detail
  generalize (enterFault block family code detail).run u = t at hcount ⊢
  have hlow (v : State) : v.fld f = v.fld (F.FAB_P_TX_COUNT p) % 256 := by
    unfold State.fld
    rw [hoff, hhi, hlo, show (F.FAB_P_TX_COUNT p).off = R.FAB_P_TX p from rfl, show (F.FAB_P_TX_COUNT p).hi = 31 from rfl,
      show (F.FAB_P_TX_COUNT p).lo = 0 from rfl]
    simp [getBits, bitsOf]
  have hlt := State.fld_lt u (F.FAB_P_TX_COUNT p)
  rw [show (F.FAB_P_TX_COUNT p).hi + 1 - (F.FAB_P_TX_COUNT p).lo = 32 from rfl] at hlt
  rw [State.countUp, show (F.FAB_P_TX_COUNT p).hi + 1 - (F.FAB_P_TX_COUNT p).lo = 32 from rfl] at hcount
  rw [hlow u] at hroom ⊢
  rw [hlow t, hcount]
  omega

/-! ### The counterexamples -/

/-- Refutes O24: drive lane 0 loses its lock, and the vote of the node by port 0x98079 counts on SDS_LFAIL of lane 0, which then
shows 0x08 and not 0x07. -/
theorem not_lanesFail : ¬ Obligations.LanesFail := by
  unfold Obligations.LanesFail
  intro h
  let s := voter 0x98079 { lanes := List.replicate 224 { st := .active } }
  have hlane : s.lane 0 = { st := .active } := rfl
  obtain ⟨-, -, -, hlost⟩ := h s 0 0 (voter_inv _ _) (voter_awake _ _) (by decide) (List.length_replicate ..)
    (voter_votes _ _).noTrial (.inl rfl) (by simp [hlane]) (by simp [hlane])
  obtain ⟨t, hexec, -, hcode, -⟩ := hlost (by decide) (by rw [hlane])
  have hrun : exec (.laneLockLost 0 0) s = .next ((failLanes [0] 0x07 0).run s) := by
    refine (congrArg _ (Prog.go_awake _ s (voter_awake _ _))).trans ?_
    rw [Prog.run_guard, if_pos (by rw [hlane]; rfl)]
    rfl
  rw [hrun] at hexec
  cases hexec
  have hfail := run_failEach (s := s) (ls := [(0, 7)]) (f := []) (first := (0, 7)) (t := 0) (by rw [List.filter_cons, hlane]; rfl)
  rw [show failLanes [0] 0x07 0 = failEach [(0, 7)] 0 from rfl, hfail] at hcode
  have hs : s.Canon := (voter_inv _ _).canon
  have hmark := (markLanes_in [(0, 7)] (0, 7) (!s.flag F.SDS_SUMMARY_FAIL_VALID) 0).spared hs
  have hmarked := fld_markLanes_last hs [] 0 7 (0, 7) (!s.flag F.SDS_SUMMARY_FAIL_VALID) 0
  rw [List.nil_append] at hmarked
  have hvote := fld_enterFault_vote (hs.run _) ((voter_votes _ _).of_spared hmark (by simp) (by decide))
    (f := F.SDS_LFAIL_CODE 0) (by decide) rfl rfl (by rw [hmarked]; decide) 0x18 0x05 7 0
  rw [hmarked] at hvote
  exact absurd (hcode.symm.trans hvote) (by decide)

/-- The four lanes of port 0 fail in a node that votes at the place of SDS_LFAIL of the last of them. -/
theorem fld_failLanes_vote {v : State} (hv : v.Canon) {p : Nat} (hvotes : v.VotesBy p) (hport : (v.port 0).st = .disabled)
    (hlane : ∀ i < 224, (v.lane i).st = .active) (hoff : (F.SDS_LFAIL_CODE 195).off = R.FAB_P_TX p) (t : Time) :
    ((failLanes [192, 193, 194, 195] 0x08 t).run v).fld (F.SDS_LFAIL_CODE 195) = 9 := by
  let fails : List (Nat × Nat) := [(192, 8), (193, 8), (194, 8)]
  have hlt : ∀ x ∈ fails ++ [(195, 8)], x.1 < 224 := by decide
  have hfail := run_failEach (s := v) (ls := fails ++ [(195, 8)]) (f := [(193, 8), (194, 8), (195, 8)]) (first := (192, 8))
    (t := t) (List.filter_eq_self.2 fun x hx => by rw [hlane _ (hlt x hx)]; simpa using hlt x hx)
  have hmark := (markLanes_in (fails ++ [(195, 8)]) (192, 8) (!v.flag F.SDS_SUMMARY_FAIL_VALID) t).spared hv
  have hmarked := fld_markLanes_last hv fails 195 8 (192, 8) (!v.flag F.SDS_SUMMARY_FAIL_VALID) t
  have hu := hv.run (markLanes (fails ++ [(195, 8)]) (192, 8) (!v.flag F.SDS_SUMMARY_FAIL_VALID) t)
  have hfail' : (failLanes [192, 193, 194, 195] 0x08 t).run v = (enterFault 0x18 0x05 8 192).run ((portOut 0 .down t).run
      ((markLanes (fails ++ [(195, 8)]) (192, 8) (!v.flag F.SDS_SUMMARY_FAIL_VALID) t).run v)) := hfail
  generalize (markLanes (fails ++ [(195, 8)]) (192, 8) (!v.flag F.SDS_SUMMARY_FAIL_VALID) t).run v = u at *
  have huport : (u.port 0).st = .disabled := by
    have : u.fab = v.fab := hmark.same .fab (by simp) (by decide) (by decide)
    unfold State.port
    rw [this]
    exact hport
  rw [hfail', run_portOut_disabled huport,
    fld_enterFault_vote hu (hvotes.of_spared hmark (by simp) (by decide)) hoff rfl rfl (by rw [hmarked]; decide), hmarked]

/-- The fourth retrain of a port within a minute (R318). -/
theorem run_retrainPort_fourth {s : State} {p : Nat} {t : Time} (h : 3 ≤ ((s.sds.retrains.getD p []).filter
      (fun u => t - 60000000000 * 256 ≤ u && u < t)).length) : ∃ f : List (List Time) → List (List Time), (retrainPort p t).run s =
    (failLanes (portLanes p) 0x08 t).run ((dropRecal (portLanes p)).run ((portOut p .training t).run
      ((Prog.raiseAt 379 t).run ((Act.sds (fun d => { d with retrains := f d.retrains, firstTs := d.firstTs.set p none })).apply s)))) := by
  refine ⟨fun r => r.set p ((s.sds.retrains.getD p []).filter (fun u => t - 60000000000 * 256 ≤ u && u < t) ++ [t]), ?_⟩
  rw [retrainPort, Prog.run_dyn]
  simp only [if_pos h, Prog.run_block_cons, Prog.run_block_nil, Prog.run_act]

/-- Refutes O25: the fourth retrain of port 0 within a minute fails its lanes, and the vote of the node by port 0x981FF counts on
SDS_LFAIL of lane 195, which then shows 0x09 and not 0x08. -/
theorem not_portsRetrain : ¬ Obligations.PortsRetrain := by
  unfold Obligations.PortsRetrain
  intro h
  obtain ⟨s, hs0⟩ : ∃ s, s = voter 0x981FF { lanes := List.replicate 224 { st := .active }, retrains := [[0, 0, 0]] } := ⟨_, rfl⟩
  have hinv : s.Inv := hs0 ▸ voter_inv _ _
  have hawake : s.Awake := hs0 ▸ voter_awake _ _
  have hvotes : s.VotesBy 0x981FF := hs0 ▸ voter_votes _ _
  have hsds : s.sds = { lanes := List.replicate 224 { st := .active }, retrains := [[0, 0, 0]] } := hs0 ▸ voter_sds _ _
  have hport0 : (s.port 0).st = .disabled := by rw [hs0, voter_port_below _ _ (by decide)]
  clear hs0
  have hs := hinv.canon
  have hlane (i : Nat) (hi : i < 224) : (s.lane i).st = .active := by
    unfold State.lane
    rw [hsds]
    simp only [List.getD_replicate _ hi]
  have hrecent : 3 ≤ ((s.sds.retrains.getD 0 []).filter (fun u => (1 : Time) - 60000000000 * 256 ≤ u && u < 1)).length := by
    rw [hsds]
    decide
  obtain ⟨hport, -⟩ := h s 192 0 1 hinv hawake (by rw [hsds]; exact List.length_replicate ..)
  obtain ⟨-, hfourth⟩ := hport rfl (hlane _ (by decide)) { check := 0x5A } 0 (by decide) (.laneRetrainRequest 192 1)
    List.mem_cons_self
  obtain ⟨t, hexec, hlanes⟩ := hfourth hrecent hvotes.noTrial
  obtain ⟨-, hcode⟩ := hlanes 195 (by decide) (by rw [hlane _ (by decide)]; decide)
  obtain ⟨f, hretrain⟩ := run_retrainPort_fourth hrecent
  have hrun : exec (.laneRetrainRequest 192 1) s = .next ((retrainPort 0 1).run s) := by
    refine (congrArg _ (Prog.go_awake _ s hawake)).trans ?_
    have : laneRetrainProg 192 1 = .guard (fun s => (s.lane 192).st == .active) (retrainPort 0 1) := rfl
    rw [this, Prog.run_guard, if_pos (by rw [hlane _ (by decide)]; rfl)]
  rw [hrun, hretrain] at hexec
  cases hexec
  have hstamped : Spared [.sds] (fun _ => False) s ((Prog.raiseAt 379 1).run ((Act.sds (fun d => { d with
      retrains := f d.retrains, firstTs := d.firstTs.set 0 none })).apply s)) :=
    Prog.Only.spared (p := .seq (.act (.sds _)) (.raiseAt 379 1)) ⟨List.mem_cons_self, Prog.raiseAt_in _ _ _ _⟩ hs
  have hlanes' : ((Prog.raiseAt 379 1).run ((Act.sds (fun d => { d with
      retrains := f d.retrains, firstTs := d.firstTs.set 0 none })).apply s)).sds.lanes = s.sds.lanes := rfl
  have hc := (hs.apply (Act.sds (fun d => { d with
      retrains := f d.retrains, firstTs := d.firstTs.set 0 none }))).run (Prog.raiseAt 379 1)
  generalize (Prog.raiseAt 379 1).run ((Act.sds (fun d => { d with
      retrains := f d.retrains, firstTs := d.firstTs.set 0 none })).apply s) = v at *
  have hvport : (v.port 0).st = .disabled := by
    have : v.fab = s.fab := hstamped.same .fab (by simp) (by decide) (by decide)
    unfold State.port
    rw [this]
    exact hport0
  rw [run_portOut_disabled hvport] at hcode
  have hdropped : Spared [.sds] (fun _ => False) v ((dropRecal (portLanes 0)).run v) :=
    Prog.Only.spared (p := dropRecal _) List.mem_cons_self hc
  have h9 := fld_failLanes_vote (hc.run (dropRecal (portLanes 0)))
    (hvotes.of_spared (hstamped.trans hdropped) (by simp) (by simp)) (p := 0x981FF) hvport (fun i hi => by
      rw [dropRecal_lane]
      unfold State.lane
      rw [hlanes']
      exact hlane i hi) (by decide) 1
  exact absurd ((hcode (by rw [hlane _ (by decide)]; decide)).symm.trans h9) (by decide)

/-- A lane at 25 Gbaud that misses the margin of its band (R311). -/
theorem run_tryReady_margin {s : State} {i : Nat} {t : Time} (hst : (s.lane i).st = .step) (hspeed : (s.lane i).speed = 3)
    (hdone : (s.lane i).rxDone = true) (hready : (s.lane i).ready = false) (hdrive : laneFabricPort i = none)
    (hmargin : s.meetsMargin (s.lane i).runBand (s.fld (F.SDS_LEYE_EW i)) (s.fld (F.SDS_LEYE_EH i)) = false) :
    (tryReady i t).run s = (failLanes [i] 0x04 t).run s := by
  simp [tryReady, hst, hspeed, hdone, hready, hdrive, hmargin]

/-- CAL_RUN_DONE in time (R310, R313). -/
theorem exec_calRunDone {s : State} (hawake : s.Awake) {i : Nat} {q : EyeResult} {stamp t0 : Time}
    (hrun : (s.lane i).runStart = some t0) (htrains : s.trains i = true) (hadapted : (s.lane i).adapted = false)
    (hin : ¬ t0 + runBound ≤ stamp) : exec (.calRunDone i q stamp) s = .next ((Prog.block [
      loadEye i q (s.lane i).runBand (s.lane i).runTemp ((laneFabricPort i).isNone || (s.lane i).rxSpeed == 3),
      .setFlag (F.SDS_LSTATE_RX_INV i) q.rxInv, modLane i (fun l => { l with adapted := true }),
      tryDone i stamp, tryCountdown i, tryReady i stamp]).run s) := by
  refine (congrArg _ (Prog.go_awake _ s hawake)).trans ?_
  rw [Prog.run_dyn]
  simp only [hrun, htrains, hadapted, Bool.not_false, Bool.and_true, Prog.when, if_true, if_neg hin]

/-- What a run of drive lane 0 with figures 0 loads before the lane is judged (R313). -/
def adaptedZero : Prog :=
  .block [loadEye 0 {} 0 0 true, .setFlag (F.SDS_LSTATE_RX_INV 0) false, modLane 0 (fun l => { l with adapted := true })]

theorem lane_adaptedZero {s : State} {l : Lane} (hl : s.lane 0 = l) (hlen : s.sds.lanes.length = 224) :
    (adaptedZero.run s).lane 0 = { l with adapted := true } := by
  have hin : 0 < s.sds.lanes.length := by rw [hlen]; decide
  rw [← hl]
  exact getD_modAt_same s.sds.lanes 0 _ _ hin

theorem adaptedZero_in : adaptedZero.Only (Act.In [.sds] (0x1801000 ≤ ·)) := by
  simp +decide [adaptedZero, loadEye, modLane, Act.In, Act.Within]

theorem fld_adaptedZero {s : State} (hs : s.Canon) : (adaptedZero.run s).fld (F.SDS_LEYE_EH 0) = 0 ∧
    (adaptedZero.run s).fld ⟨R.SDS_LCTLE 0, 7, 0⟩ = 0 := by
  let after : Prog := .block [.setReg (R.SDS_LDFE 0) ((0 : Word) &&& 0x7FFFFFFF#32), .setReg (R.SDS_LOFS 0) ((0 : Word) &&& 0x3F3F3F3F#32),
    .setFld (F.SDS_LSTATE_BAND 0) 0, .setFld (F.SDS_LCAL_TCAL 0) 0, .setFlag (F.SDS_LSTATE_RX_INV 0) false,
    modLane 0 (fun l => { l with adapted := true })]
  have hafter : after.Only (Act.In [.sds] (· ∉ [R.SDS_LEYE 0, R.SDS_LCTLE 0])) := by
    simp +decide [after, modLane, Act.In, Act.Within]
  have hew := hs.run (.setFld (F.SDS_LEYE_EW 0) 0)
  have heh := hew.run (.setFld (F.SDS_LEYE_EH 0) 0)
  have hspared := hafter.spared (heh.run (.setReg (R.SDS_LCTLE 0) ((0 : Word) &&& 0xF1F#32)))
  constructor
  · refine (hspared.fld (F.SDS_LEYE_EH 0) (by decide)).trans ((State.fld_store_other _ _ _ _ heh (by decide)).trans ?_)
    exact Prog.run_setFld_same (F.SDS_LEYE_EH 0) 0 _ hew (by decide) (by decide)
  · refine (hspared.fld ⟨R.SDS_LCTLE 0, 7, 0⟩ (by decide)).trans ((State.fld_store_same _ _ _ _ heh (by decide)).trans ?_)
    decide

/-- Refutes O23: drive lane 0 adapts at 25 Gbaud and misses its margin, and the vote of the node by port 0x98078 counts on
SDS_LCTLE of lane 0, which then shows 1 and not the peaking of the run, 0. -/
theorem not_lanesTrain : ¬ Obligations.LanesTrain := by
  unfold Obligations.LanesTrain
  intro h
  obtain ⟨s, hs0⟩ : ∃ s, s = voter 0x98078
    { lanes := List.replicate 224 { st := .step, speed := 3, runStart := some 0, rxDone := true } } := ⟨_, rfl⟩
  have hinv : s.Inv := hs0 ▸ voter_inv _ _
  have hawake : s.Awake := hs0 ▸ voter_awake _ _
  have hvotes : s.VotesBy 0x98078 := hs0 ▸ voter_votes _ _
  have hlane : s.lane 0 = { st := .step, speed := 3, runStart := some 0, rxDone := true } := hs0 ▸ rfl
  have hlen : s.sds.lanes.length = 224 := hs0 ▸ List.length_replicate ..
  have hmargin0 : s.reg R.SDS_MARGIN0 = resetWord R.SDS_MARGIN0 := hs0 ▸ voter_reg _ _ (by decide)
  clear hs0
  have hs := hinv.canon
  have htrains : s.trains 0 = true := by simp [State.trains, hlane]
  obtain ⟨-, -, hcal, -⟩ := h s 0 0 hinv hawake (by decide) hlen
  obtain ⟨t, hexec, -, -, -, hctle, -⟩ := hcal {} 0 htrains hvotes.noTrial (by rw [hlane]) (by rw [hlane]) (by decide)
  have hrun : exec (.calRunDone 0 {} 0) s = .next ((tryReady 0 0).run (adaptedZero.run s)) := by
    have hdone : (tryDone 0 0).run (adaptedZero.run s) = adaptedZero.run s := by simp [tryDone, lane_adaptedZero hlane hlen]
    have hcount : (tryCountdown 0).run (adaptedZero.run s) = adaptedZero.run s := by
      simp [tryCountdown, lane_adaptedZero hlane hlen, Lane.partnerDone]
    have hprog : (Prog.block [adaptedZero, tryDone 0 0, tryCountdown 0, tryReady 0 0]).run s =
        (tryReady 0 0).run (adaptedZero.run s) := by
      rw [Prog.run_block_cons, Prog.run_block_cons, hdone, Prog.run_block_cons, hcount]
      rfl
    rw [exec_calRunDone hawake (by rw [hlane]) htrains (by rw [hlane]) (by decide), ← hprog]
    simp only [hlane, adaptedZero, Prog.run_block_cons, Prog.run_block_nil]
    rfl
  have hspared := adaptedZero_in.spared hs
  have hv := hs.run adaptedZero
  obtain ⟨heh, hpeak⟩ := fld_adaptedZero hs
  have hvlane := lane_adaptedZero hlane hlen
  have hvmargin0 : (adaptedZero.run s).reg R.SDS_MARGIN0 = resetWord R.SDS_MARGIN0 := (hspared.reg _ (by decide)).trans hmargin0
  have hvvotes := hvotes.of_spared hspared (by simp) (by decide)
  rw [hrun] at hexec
  cases hexec
  generalize adaptedZero.run s = v at *
  have hvmargin : v.meetsMargin 0 (v.fld (F.SDS_LEYE_EW 0)) (v.fld (F.SDS_LEYE_EH 0)) = false := by
    unfold State.meetsMargin
    rw [heh, show R.SDS_MARGIN0 + 4 * 0 = R.SDS_MARGIN0 from rfl, hvmargin0]
    have : ¬ bitsOf (resetWord R.SDS_MARGIN0).toNat 23 16 ≤ 0 := by decide
    simp [this]
  have hfail := run_failEach (s := v) (ls := [(0, 4)]) (f := []) (first := (0, 4)) (t := 0) (by rw [List.filter_cons, hvlane]; rfl)
  have hmark := (markLanes_in [(0, 4)] (0, 4) (!v.flag F.SDS_SUMMARY_FAIL_VALID) 0).spared hv
  have hregs : (markLanes [(0, 4)] (0, 4) (!v.flag F.SDS_SUMMARY_FAIL_VALID) 0).Only
      (Act.In [.sds] (· ∈ [R.SDS_LFAIL 0, R.SDS_SUMMARY])) :=
    markLanes_only (by decide) (by decide)
  have hpeak' : ((markLanes [(0, 4)] (0, 4) (!v.flag F.SDS_SUMMARY_FAIL_VALID) 0).run v).fld ⟨R.SDS_LCTLE 0, 7, 0⟩ = 0 :=
    ((hregs.spared hv).fld ⟨R.SDS_LCTLE 0, 7, 0⟩ (by decide)).trans hpeak
  rw [run_tryReady_margin (by rw [hvlane]) (by rw [hvlane]) (by rw [hvlane]) (by rw [hvlane]) rfl (by rw [hvlane]; exact hvmargin),
    show failLanes [0] 0x04 0 = failEach [(0, 4)] 0 from rfl, hfail] at hctle
  have hvote := fld_enterFault_vote (hv.run _) (hvvotes.of_spared hmark (by simp) (by decide))
    (f := ⟨R.SDS_LCTLE 0, 7, 0⟩) (by decide) rfl rfl (by rw [hpeak']; decide) 0x18 0x05 4 0
  rw [hpeak'] at hvote
  have hzero := congrArg (getBits · 7 0) hctle
  exact absurd (hzero.symm.trans hvote) (by decide)

end Sys2Proof.Machine
end

section
/-! PROOF. Background recalibration and far-end loop-back (R316, R317, R323, R324). -/

namespace Sys2Proof.Machine

theorem R.CPX_EV_ROUTE_lt {e : Nat} (he : e < 512) : R.CPX_EV_ROUTE e < 0x1800000 := by
  unfold R.CPX_EV_ROUTE
  omega

/-- An event that is raised after what leaves its route and the control state alone (R491). -/
theorem Frame.pended_raiseAt {parts : List Part} {offs : List Nat} {s u : State} (h : Frame parts offs s u) {e : Nat} (t : Time)
    (hctl : Part.ctl ∉ parts) (hroute : R.CPX_EV_ROUTE e ∉ offs) : Pended e s ((Prog.raiseAt e t).run u) := by
  have hsame : u.ctl = s.ctl := h.1 .ctl hctl (by decide)
  unfold Pended
  rw [Prog.run_raiseAt, Act.ctl_ctl, State.raised_pend, h.2 _ hroute, hsame]

theorem frame_raiseAt (e : Nat) (t : Time) (s : State) : Frame [.ctl] [] s ((Prog.raiseAt e t).run s) :=
  Act.frame_noRegs (a := .ctl _) List.mem_cons_self s

/-- BG_RECAL_START takes the first due lane (R316). -/
theorem completes_bgRecalStart {s : State} (hawake : s.Awake) {i : Nat} {rest : List Nat} (stamp : Time)
    (hen : s.flag F.SDS_CTRL_BGCAL_EN = true) (hidle : s.sds.bgRun = none) (hdue : s.sds.due = i :: rest)
    (hst : (s.lane i).st = .active) : Completes (.bgRecalStart stamp) s (fun t =>
      t.sds = { s.sds with
        due := rest.filter (fun k => (s.lane k).st == .active), bgRun := some i, bgStart := stamp, bgTemp := s.dieT
        bgBand := s.sds.band } ∧ Frame [.sds] [] s t) := by
  refine .of_go rfl hawake ?_
  have hfilter : s.sds.due.filter (fun k => (s.lane k).st == .active) = i :: rest.filter (fun k => (s.lane k).st == .active) := by
    rw [hdue, List.filter_cons, hst]
    rfl
  rw [Prog.run_guard, if_pos (by simp [hen, hidle]), Prog.run_dyn, hfilter]
  exact ⟨rfl, Act.frame_noRegs List.mem_cons_self s⟩

theorem laneRegs_ge {i : Nat} {off : Nat}
    (h : off ∈ [R.SDS_LEYE i, R.SDS_LCTLE i, R.SDS_LDFE i, R.SDS_LOFS i, R.SDS_LSTATE i, R.SDS_LCAL i]) : 0x1801000 ≤ off := by
  simp only [List.mem_cons, List.not_mem_nil, or_false, R.SDS_LEYE, R.SDS_LCTLE, R.SDS_LDFE, R.SDS_LOFS, R.SDS_LSTATE,
    R.SDS_LCAL] at h
  omega

/-- What a calibration run loads (R313, R317): its figures, and the temperature at the configured speed. -/
theorem run_loadEye {s : State} (hs : s.Canon) (i : Nat) (q : EyeResult) (band : Nat) (temp : BitVec 16) :
    let u := (loadEye i q band temp true).run s
    u.fld (F.SDS_LEYE_EW i) = q.ew.toNat ∧ u.fld (F.SDS_LCAL_TCAL i) = temp.toNat ∧
      Frame [] [R.SDS_LEYE i, R.SDS_LCTLE i, R.SDS_LDFE i, R.SDS_LOFS i, R.SDS_LSTATE i, R.SDS_LCAL i] s u := by
  have hoff : R.SDS_LEYE i ≠ R.SDS_LCTLE i ∧ R.SDS_LEYE i ≠ R.SDS_LDFE i ∧ R.SDS_LEYE i ≠ R.SDS_LOFS i ∧
      R.SDS_LEYE i ≠ R.SDS_LSTATE i ∧ R.SDS_LEYE i ≠ R.SDS_LCAL i := by
    simp only [R.SDS_LEYE, R.SDS_LCTLE, R.SDS_LDFE, R.SDS_LOFS, R.SDS_LSTATE, R.SDS_LCAL]
    omega
  obtain ⟨hctle, hdfe, hofs, hstate, hcal⟩ := hoff
  let rest : Prog := .block [.setReg (R.SDS_LCTLE i) (q.ctle &&& 0xF1F#32), .setReg (R.SDS_LDFE i) (q.dfe &&& 0x7FFFFFFF#32),
    .setReg (R.SDS_LOFS i) (q.ofs &&& 0x3F3F3F3F#32), .setFld (F.SDS_LSTATE_BAND i) band,
    .setFld (F.SDS_LCAL_TCAL i) temp.toNat]
  have hrest : rest.Keeps (fun s => s.fld (F.SDS_LEYE_EW i)) := by
    simp [rest, F.SDS_LEYE_EW, F.SDS_LSTATE_BAND, F.SDS_LCAL_TCAL, hctle, hdfe, hofs, hstate, hcal]
  have hkeeps : (Prog.setFld (F.SDS_LEYE_EH i) q.eh.toNat).Keeps (fun s => s.fld (F.SDS_LEYE_EW i)) :=
    Prog.keeps_fld_setFld _ ⟨by show 15 < 32 ∧ 8 ≤ 15; decide, .inr (.inr (by show 5 < 8; decide))⟩
  have hin : (loadEye i q band temp true).Only (Act.Within [] [R.SDS_LEYE i, R.SDS_LCTLE i, R.SDS_LDFE i, R.SDS_LOFS i,
      R.SDS_LSTATE i, R.SDS_LCAL i]) := by
    refine ⟨fun _ => .head _, fun _ => .head _, .tail _ (.head _), .tail _ (.tail _ (.head _)),
      .tail _ (.tail _ (.tail _ (.head _))), fun _ => .tail _ (.tail _ (.tail _ (.tail _ (.head _)))),
      Prog.only_when _ fun _ => .tail _ (.tail _ (.tail _ (.tail _ (.tail _ (.head _))))), trivial⟩
  refine ⟨?_, ?_, (Prog.frame _ _ _ hin s hs).2⟩
  · refine (hrest.run ((hs.run _).run _)).trans ((hkeeps.run (hs.run _)).trans ?_)
    exact (State.fld_setFld_same (F.SDS_LEYE_EW i) q.ew.toNat s hs (by simp [F.SDS_LEYE_EW])).trans (Nat.mod_eq_of_lt q.ew.isLt)
  · exact (State.fld_setFld_same (F.SDS_LCAL_TCAL i) temp.toNat _ ((((((hs.run _).run _).run _).run _).run _).run _)
      (by simp [F.SDS_LCAL_TCAL])).trans (Nat.mod_eq_of_lt temp.isLt)

/-- BG_RECAL_DONE in time with enough margin (R313, R316, R317). -/
theorem completes_bgRecalDone {s : State} (hs : s.Canon) (hawake : s.Awake) {i : Nat} (stamp : Time) (q : EyeResult)
    (hrun : s.sds.bgRun = some i) (hin : stamp < s.sds.bgStart + runBound)
    (hmargin : s.meetsMargin s.sds.bgBand q.ew.toNat q.eh.toNat = true) : Completes (.bgRecalDone q stamp) s (fun t =>
      t.sds = { s.sds with bgRun := none } ∧ t.fld (F.SDS_LEYE_EW i) = q.ew.toNat ∧
        t.fld (F.SDS_LCAL_TCAL i) = s.sds.bgTemp.toNat ∧ Pended 378 s t ∧
        Frame [.sds, .ctl] [R.SDS_LEYE i, R.SDS_LCTLE i, R.SDS_LDFE i, R.SDS_LOFS i, R.SDS_LSTATE i, R.SDS_LCAL i] s t) := by
  have hlate : ¬ s.sds.bgStart + runBound ≤ stamp := not_le.2 hin
  let v := (Act.sds (fun d => { d with bgRun := none })).apply s
  let u := (loadEye i q s.sds.bgBand s.sds.bgTemp true).run v
  have hvs : v.Canon := hs.apply _
  have hframe : Frame [.sds] [] s v := Act.frame_noRegs List.mem_cons_self s
  obtain ⟨hew, htcal, hload⟩ := run_loadEye hvs i q s.sds.bgBand s.sds.bgTemp
  have hprog : exec (.bgRecalDone q stamp) s =
      .next ((Prog.raiseAt 378 stamp).run ((Prog.count (F.SDS_LCAL_RECALS i) 1).run u)) := by
    refine (congrArg _ (Prog.go_awake _ s hawake)).trans ?_
    rw [Prog.run_dyn]
    simp only [hrun, if_neg hlate, hmargin, if_true]
    rfl
  have hus : u.Canon := hvs.run _
  have hcount : Frame [] [R.SDS_LCAL i] u ((Prog.count (F.SDS_LCAL_RECALS i) 1).run u) :=
    Prog.Does.frame (by simp [F.SDS_LCAL_RECALS]) hus
  have htcal' : ((Prog.count (F.SDS_LCAL_RECALS i) 1).run u).fld (F.SDS_LCAL_TCAL i) = u.fld (F.SDS_LCAL_TCAL i) :=
    Prog.run_count_other (F.SDS_LCAL_RECALS i) (F.SDS_LCAL_TCAL i) 1 u hus (by simp [F.SDS_LCAL_RECALS])
      (by simp [F.SDS_LCAL_RECALS]) (.inr (.inr (by simp [F.SDS_LCAL_RECALS, F.SDS_LCAL_TCAL])))
  have hall : Frame [.sds] [R.SDS_LEYE i, R.SDS_LCTLE i, R.SDS_LDFE i, R.SDS_LOFS i, R.SDS_LSTATE i, R.SDS_LCAL i] s
      ((Prog.count (F.SDS_LCAL_RECALS i) 1).run u) :=
    (hframe.mono (by simp) (by simp)).trans ((hload.mono (by simp) (by simp)).trans (hcount.mono (by simp) (by simp)))
  have hsds : ((Prog.count (F.SDS_LCAL_RECALS i) 1).run u).sds = { s.sds with bgRun := none } :=
    Eq.trans (hcount.1 .sds (by decide) (by decide)) (hload.1 .sds (by decide) (by decide))
  have hew' := (hcount.fld (F.SDS_LEYE_EW i) (by
    simp only [List.mem_singleton, F.SDS_LEYE_EW, R.SDS_LEYE, R.SDS_LCAL]
    omega)).trans hew
  refine ⟨_, hprog, ?_⟩
  generalize (Prog.count (F.SDS_LCAL_RECALS i) 1).run u = w at *
  have hroute : R.CPX_EV_ROUTE 378 ∉ [R.SDS_LEYE i, R.SDS_LCTLE i, R.SDS_LDFE i, R.SDS_LOFS i, R.SDS_LSTATE i, R.SDS_LCAL i] :=
    fun h => absurd (laneRegs_ge h) (by decide)
  have hlast := frame_raiseAt 378 stamp w
  exact ⟨Eq.trans (hlast.1 .sds (by decide) (by decide)) hsds, (hlast.fld _ List.not_mem_nil).trans hew',
    (hlast.fld _ List.not_mem_nil).trans (htcal'.trans htcal), hall.pended_raiseAt stamp (by decide) hroute,
    (hall.mono (by simp) fun _ => id).trans (hlast.mono (by simp) (by simp))⟩

theorem mem_loops {l : LaneState} (h : l ∈ [LaneState.trainLow, .step, .test]) :
    (l == .step || l == .trainLow || l == .test) = true := by
  simp only [List.mem_cons, List.not_mem_nil, or_false] at h
  rcases h with rfl | rfl | rfl <;> rfl

/-- A program that changes lane `i` only. -/
theorem run_modLane_only {s : State} {i : Nat} (hi : i < s.sds.lanes.length) (f : Lane → Lane) :
    let u := (modLane i f).run s
    u.lane i = f (s.lane i) ∧ (∀ j, j ≠ i → u.lane j = s.lane j) ∧ Frame [.sds] [] s u :=
  ⟨State.lane_modLane_same i f s hi, fun j hj => State.lane_modLane_other i j f s hj,
    Prog.frame_noRegs [.sds] (modLane i f) (by simp [modLane, Act.Within]) s⟩

/-- An own loop-back request goes out at once (R323). -/
theorem run_sendLoopRequest {s : State} {i : Nat} (hi : i < s.sds.lanes.length) (t : Time) :
    let u := (sendLoopRequest i t).run s
    u.lane i = { s.lane i with loopOut := some t, loopRetry := false } ∧
      u.out = .trainingSet i (s.ownTs i false 15 (min 3 ((s.lane i).speed + 1)) true) :: s.out ∧
      (∀ j, j ≠ i → u.lane j = s.lane j) ∧ Frame [.sds, .out] [] s u := by
  let v := (modLane i (fun l => { l with loopOut := some t, loopRetry := false })).run s
  have hv : v.lane i = { s.lane i with loopOut := some t, loopRetry := false } := State.lane_modLane_same i _ s hi
  have hts : v.ownTs i false 15 (min 3 ((v.lane i).speed + 1)) true = s.ownTs i false 15 (min 3 ((s.lane i).speed + 1)) true := by
    unfold State.ownTs
    rw [hv]
    rfl
  have hrun : (sendLoopRequest i t).run s =
      (Act.out (.trainingSet i (v.ownTs i false 15 (min 3 ((v.lane i).speed + 1)) true))).apply v := rfl
  rw [hrun, hts]
  exact ⟨hv, rfl, fun j hj => State.lane_modLane_other i j _ s hj,
    ((run_modLane_only hi _).2.2.mono (by simp) (by simp)).trans
      ((Act.frame_noRegs (parts := [.out]) (a := .out _) List.mem_cons_self v).mono (by simp) (by simp))⟩

/-- The markers that the requester has sent, and the round trip that it loads (R323). -/
def loadRtt (i : Nat) (rtt : BitVec 24) : Prog :=
  .seq (.send (.loopMarkers i 64)) (.seq (.setFld (F.SDS_LRTT_RTT i) rtt.toNat) (.setFld (F.SDS_LRTT_VALID i) 1))

theorem run_loadRtt {s : State} (hs : s.Canon) (i : Nat) (rtt : BitVec 24) : let u := (loadRtt i rtt).run s
    u.out = .loopMarkers i 64 :: s.out ∧ u.fld (F.SDS_LRTT_RTT i) = rtt.toNat ∧ u.fld (F.SDS_LRTT_VALID i) = 1 ∧
      u.sds = s.sds ∧ Frame [.out] [R.SDS_LRTT i] s u := by
  have hkeeps : (Prog.setFld (F.SDS_LRTT_VALID i) 1).Keeps (fun s => s.fld (F.SDS_LRTT_RTT i)) :=
    Prog.keeps_fld_setFld _ ⟨by simp [F.SDS_LRTT_VALID], .inr (.inr (by simp [F.SDS_LRTT_RTT, F.SDS_LRTT_VALID]))⟩
  have hin : (loadRtt i rtt).Only (Act.Within [.out] [R.SDS_LRTT i]) := ⟨.head _, fun _ => .head _, fun _ => .head _⟩
  have hvs : ((Prog.send (.loopMarkers i 64)).run s).Canon := hs.run _
  have hframe := (Prog.frame _ _ _ hin s hs).2
  refine ⟨?_, ?_, ?_, hframe.1 .sds (by decide) (by decide), hframe⟩
  · simp [loadRtt]
  · exact (hkeeps.run (hvs.run _)).trans ((State.fld_setFld_same _ _ _ hvs (by simp [F.SDS_LRTT_RTT])).trans
      (Nat.mod_eq_of_lt rtt.isLt))
  · exact State.fld_setFld_same _ _ _ (hvs.run _) (by simp [F.SDS_LRTT_VALID])

/-- FE_LOOP_END of an own loop-back on a drive lane (R323, R324). -/
theorem completes_feLoopEnd {s : State} (hs : s.Canon) (hawake : s.Awake) {i : Nat} (hi : i < s.sds.lanes.length)
    (hdrive : i < 192) (rtt : BitVec 24) (stamp : Time) (hout : (s.lane i).loopOut.isSome = true) :
    Completes (.feLoopEnd i rtt stamp) s (fun t =>
      t.lane i = { s.lane i with loopOut := none, loopMeasured := (s.lane i).ready && (s.lane i).speed == 3 } ∧
        t.out = .loopMarkers i 64 :: s.out ∧ t.fld (F.SDS_LRTT_RTT i) = rtt.toNat ∧
        t.fld (F.SDS_LRTT_VALID i) = 1 ∧ Pended 381 s t ∧ (∀ j, j ≠ i → t.lane j = s.lane j) ∧
        Frame [.sds, .ctl, .out] [R.SDS_LRTT i] s t) := by
  have hrun : exec (.feLoopEnd i rtt stamp) s = .next ((Prog.raiseAt 381 stamp).run
      ((modLane i (fun l => { l with loopOut := none, loopMeasured := l.ready && l.speed == 3 })).run ((loadRtt i rtt).run s))) := by
    refine (congrArg _ (Prog.go_awake _ s hawake)).trans ?_
    rw [Prog.run_dyn]
    simp only [hout, if_true, laneFabricPort_eq_none hdrive]
    rfl
  obtain ⟨hout', hrtt, hvalid, hsds, hframe⟩ := run_loadRtt hs i rtt
  refine ⟨_, hrun, ?_⟩
  generalize (loadRtt i rtt).run s = w at *
  have hlane (k : Nat) : w.lane k = s.lane k := by unfold State.lane; rw [hsds]
  obtain ⟨hown, hother, hmod⟩ := run_modLane_only (s := w) (i := i) (by rwa [hsds])
    (fun l => { l with loopOut := none, loopMeasured := l.ready && l.speed == 3 })
  rw [← modLane_out i (fun l => { l with loopOut := none, loopMeasured := l.ready && l.speed == 3 })] at hout'
  generalize (modLane i _).run w = x at *
  have hroute : R.CPX_EV_ROUTE 381 ∉ [R.SDS_LRTT i] := by
    rw [List.mem_singleton, R.SDS_LRTT]
    have := R.CPX_EV_ROUTE_lt (e := 381) (by decide)
    omega
  have hall : Frame [.out, .sds] [R.SDS_LRTT i] s x := (hframe.mono (by simp) (by simp)).trans (hmod.mono (by simp) (by simp))
  have hlast := frame_raiseAt 381 stamp x
  have hxlane (k : Nat) : ((Prog.raiseAt 381 stamp).run x).lane k = x.lane k := by
    unfold State.lane
    rw [show ((Prog.raiseAt 381 stamp).run x).sds = x.sds from hlast.1 .sds (by decide) (by decide)]
  refine ⟨?_, Eq.trans (hlast.1 .out (by decide) (by decide)) hout', ?_, ?_, hall.pended_raiseAt stamp (by decide) hroute,
    fun j hj => ?_, (hall.mono (by simp) (by simp)).trans (hlast.mono (by simp) (by simp))⟩
  · rw [hxlane, hown, hlane]
  · rw [hlast.fld _ List.not_mem_nil, hmod.fld _ List.not_mem_nil, hrtt]
  · rw [hlast.fld _ List.not_mem_nil, hmod.fld _ List.not_mem_nil, hvalid]
  · rw [hxlane, hother j hj, hlane]

/-- Settles O26, clause by clause. -/
theorem lanesRecalibrateAndLoop : Obligations.LanesRecalibrateAndLoop := by
  unfold Obligations.LanesRecalibrateAndLoop
  intro s i stamp hinv hawake hi hlen
  have hs := hinv.canon
  have hin : i < s.sds.lanes.length := hlen ▸ hi
  refine ⟨fun rest hen hidle hdue hst => completes_bgRecalStart hawake stamp hen hidle hdue hst,
    fun q hrun hq hmargin => completes_bgRecalDone hs hawake stamp q hrun hq hmargin, fun hst => ?_, fun hst hnone => ?_,
    fun rtt hdrive hout => completes_feLoopEnd hs hawake hin hdrive rtt stamp hout, fun rtt hnone => ?_, fun hretry => ?_⟩
  · refine .of_go rfl hawake ?_
    rw [Prog.run_guard, if_pos (mem_loops hst), if_pos rfl]
    exact run_sendLoopRequest hin stamp
  · refine .of_go rfl hawake ?_
    rw [Prog.run_guard, if_pos (mem_loops hst), if_neg (by simp), loopReceived, Prog.run_dyn, if_pos (by simp [hnone])]
    exact run_modLane_only hin _
  · refine .of_go rfl hawake ?_
    rw [Prog.run_dyn, if_neg (by simp [hnone])]
    exact run_modLane_only hin _
  · refine .of_go rfl hawake ?_
    rw [Prog.run_guard, if_pos hretry]
    obtain ⟨hlane, hout, hother, hframe⟩ := run_sendLoopRequest hin stamp
    exact ⟨by rw [hlane], hout, hother, hframe⟩

end Sys2Proof.Machine
end

section
/-! PROOF. The raster of the panel drive link: lines that end and begin, fills that are done, and stalls (R140, R273 to R277,
R282). -/

namespace Sys2Proof.Machine

/-! ### Drive lanes -/

section
variable (i j : Nat) (f : DriveLane → DriveLane) (s : State)

@[simp] theorem drive_modDrive_same (h : i < s.pdl.lanes.length) : ((modDrive i f).run s).drive i = f (s.drive i) :=
  getD_modAt_same _ _ _ _ h
@[simp] theorem drive_modDrive_other (h : j ≠ i) : ((modDrive i f).run s).drive j = s.drive j :=
  getD_modAt_other _ _ _ _ _ h
@[simp] theorem lanes_length_modDrive : ((modDrive i f).run s).pdl.lanes.length = s.pdl.lanes.length := by
  show (modAt s.pdl.lanes i f).length = _
  simp [modAt_eq_modify]

theorem frame_modDrive : Frame [.pdl] [] s ((modDrive i f).run s) :=
  Act.frame_noRegs (a := .pdl _) List.mem_cons_self s

end

theorem drive_congr {s t : State} (h : t.pdl.lanes = s.pdl.lanes) (i : Nat) : t.drive i = s.drive i := by
  unfold State.drive
  rw [h]

/-! ### Items leave at the end of their line (R282) -/

/-- A lane whose first `n` items are sent. -/
def DriveLane.sent (d : DriveLane) (n : Nat) : DriveLane :=
  { d with sending := d.sending.drop n, flight := d.flight ++ d.sending.take n }

theorem DriveLane.sent_all (d : DriveLane) :
    (d.sent d.sending.length).sending = [] ∧ (d.sent d.sending.length).flight = d.flight ++ d.sending := by
  simp [DriveLane.sent]

theorem run_sends_pdl {α : Type} (l : List α) (o : α → Out) (s : State) : ((Prog.each l (fun p => .send (o p))).run s).pdl = s.pdl := by
  induction l generalizing s with
  | nil => rfl
  | cons x l ih => exact ih _

theorem run_eoiLeaves {s : State} {i n : Nat} (hi : i < s.pdl.lanes.length) : let u := (eoiLeaves i n).run s
    u.drive i = (s.drive i).sent n ∧ (∀ j, j ≠ i → u.drive j = s.drive j) ∧ u.pdl.lanes.length = s.pdl.lanes.length := by
  have hpdl := run_sends_pdl ((s.drive i).sending.take n) (fun p => s.itemOut i p.1 p.2) s
  have hrun : (eoiLeaves i n).run s = (modDrive i (fun d => d.sent n)).run
      ((Prog.each ((s.drive i).sending.take n) (fun p => .send (s.itemOut i p.1 p.2))).run s) := rfl
  rw [hrun]
  generalize (Prog.each _ _).run s = v at hpdl ⊢
  have hdrive (j : Nat) : v.drive j = s.drive j := drive_congr (by rw [hpdl]) j
  refine ⟨?_, fun j hj => ?_, ?_⟩
  · rw [drive_modDrive_same _ _ _ (by rwa [hpdl]), hdrive]
  · rw [drive_modDrive_other _ _ _ _ hj, hdrive]
  · rw [lanes_length_modDrive, hpdl]

theorem run_each_eoiLeaves {l : List Nat} (hl : l.Nodup) (n : Nat → Nat) {s : State} (hlt : ∀ i ∈ l, i < s.pdl.lanes.length) :
    let u := (Prog.each l (fun i => eoiLeaves i (n i))).run s
    (∀ i ∈ l, u.drive i = (s.drive i).sent (n i)) ∧ (∀ i, i ∉ l → u.drive i = s.drive i) := by
  induction l generalizing s with
  | nil => exact ⟨by simp, fun _ _ => rfl⟩
  | cons k l ih =>
    obtain ⟨hk, hl⟩ := List.nodup_cons.1 hl
    obtain ⟨hown, hother, hlen⟩ := run_eoiLeaves (n := n k) (hlt k List.mem_cons_self)
    obtain ⟨hin, hout⟩ := ih hl (s := (eoiLeaves k (n k)).run s) (fun i hi => hlen ▸ hlt i (List.mem_cons_of_mem k hi))
    refine ⟨fun i hi => ?_, fun i hi => ?_⟩
    · rcases List.mem_cons.1 hi with rfl | hi
      · rw [Prog.run_each_cons, hout i hk, hown]
      · rw [Prog.run_each_cons, hin i hi, hother i (fun e => hk (e ▸ hi))]
    · rw [List.mem_cons, not_or] at hi
      rw [Prog.run_each_cons, hout i hi.2, hother i hi.1]

/-- At the end of a line every item that was being sent is in flight (R282). -/
theorem drive_endLine {s : State} (hlen : s.pdl.lanes.length = 192) (t : Time) (i : Nat) :
    (((endLine t).run s).drive i).sending = [] ∧
      (((endLine t).run s).drive i).flight = (s.drive i).flight ++ (s.drive i).sending := by
  obtain ⟨hin, hout⟩ := run_each_eoiLeaves (List.nodup_range (n := 192)) (fun i => (s.drive i).sending.length) (s := s)
    (fun i hi => by rw [hlen]; exact List.mem_range.1 hi)
  let rest : Prog := .block [
    (match s.pdl.running with
     | some (fsn, slate, line) => modFillAny fsn slate (fun f => { f with
        sentGroups := if slate then f.sentGroups else max f.sentGroups (16 * (line + 1))
        staged := f.staged.filter (fun c => c.row % 32 != line)
        lastEnd := if f.nextLine == 32 && f.resend.isEmpty then some t else f.lastEnd })
     | none => .nil),
    .act (.pdl (fun p => { p with running := none })), dropSentWorks]
  have hrest (v : State) : (rest.run v).pdl.lanes = v.pdl.lanes := by
    simp only [rest, Prog.run_block_cons, Prog.run_block_nil]
    cases s.pdl.running <;> rfl
  have hrun : (endLine t).run s = rest.run ((Prog.each (List.range 192)
      (fun i => eoiLeaves i (s.drive i).sending.length)).run s) := rfl
  rw [hrun, drive_congr (hrest _)]
  by_cases hi : i < 192
  · rw [hin i (List.mem_range.2 hi)]
    exact (s.drive i).sent_all
  · have hnone : s.drive i = {} := by
      unfold State.drive
      exact List.getD_eq_default _ _ (by omega)
    rw [hout i (by simpa using hi), hnone]
    exact ⟨rfl, rfl⟩

theorem endLine_in (t : Time) : (endLine t).Only (Act.Within [.pdl, .grv, .out] []) := by
  intro s
  refine ⟨Prog.only_each _ _ fun i u => ⟨Prog.only_each _ _ fun p => ?_, ?_⟩, ?_, ?_, fun _ => ?_, trivial⟩
  · show Part.out ∈ _
    decide
  · simp [modDrive, Act.Within]
  · split <;> simp [modFillAny, Act.Within]
  · simp [Act.Within]
  · simp [Act.Within]

/-! ### The line that begins -/

theorem DriveLane.begin_flight (d : DriveLane) (ks : List ItemKind) : (d.begin_ ks).flight = d.flight := by
  unfold DriveLane.begin_
  induction ks generalizing d with
  | nil => rfl
  | cons k ks ih => exact (ih _).trans rfl

/-- What of every lane a beginning line leaves: the items in flight. -/
def State.flights (s : State) (i : Nat) : List (BitVec 16 × ItemKind) := (s.drive i).flight

theorem modCarrying_keeps {f : State → DriveLane → DriveLane} (h : ∀ s d, (f s d).flight = d.flight) :
    (modCarrying f).Keeps State.flights := by
  intro s _
  funext i
  show DriveLane.flight ((List.map _ s.pdl.lanes.zipIdx).getD i {}) = DriveLane.flight (s.pdl.lanes.getD i {})
  simp only [List.getD_eq_getElem?_getD, List.getElem?_map, List.getElem?_zipIdx]
  cases s.pdl.lanes[i]? with
  | none => rfl
  | some d =>
    simp only [Option.map_some, Option.getD_some]
    split
    · exact h s d
    · rfl

theorem beginLine_keeps (kind : LineKind) (slot line code : Nat) : (beginLine kind slot line code).Keeps State.flights := by
  refine Prog.keeps_seq (fun _ _ => rfl) (Prog.keeps_seq (fun _ _ => rfl) (Prog.keeps_seq ?_ (Prog.keeps_seq (fun _ _ => rfl) Prog.keeps_nil)))
  exact Prog.keeps_ite (fun _ => Prog.keeps_seq (fun _ _ => rfl) fun _ _ => rfl) fun _ => Prog.keeps_nil

theorem beginFillLine_keeps (f : Fill) (kind : LineKind) (code : Nat) (t : Time) :
    (beginFillLine f kind code t).Keeps State.flights := by
  refine Prog.keeps_seq (fun _ _ => rfl) (Prog.keeps_seq (fun _ _ => rfl) (Prog.keeps_seq
    (modCarrying_keeps fun _ d => d.begin_flight _) (Prog.keeps_seq (fun _ _ => rfl) (Prog.keeps_seq (beginLine_keeps _ _ _ _)
      (Prog.keeps_seq (fun s hs => ?_) Prog.keeps_nil)))))
  exact Prog.keeps_ite (q := .nil) (fun _ _ _ => rfl) (fun _ => Prog.keeps_nil) s hs

theorem beginRectLine_keeps (prefer : Option Nat) : (beginRectLine prefer).Keeps State.flights :=
  Prog.keeps_seq (modCarrying_keeps fun _ d => DriveLane.begin_flight { d with queue := _ } _) (beginLine_keeps _ _ _ _)

theorem beginServiceLine_keeps : beginServiceLine.Keeps State.flights := by
  refine Prog.keeps_seq (modCarrying_keeps fun s d => ?_) (beginLine_keeps _ _ _ _)
  split
  · exact DriveLane.begin_flight { d with service := _ } _
  · rfl

theorem kind_beginLine (kind : LineKind) (slot line code : Nat) (s : State) :
    ((beginLine kind slot line code).run s).pdl.kind = kind := by
  unfold beginLine
  rw [Prog.run_block_cons, Prog.run_block_cons, Prog.run_block_cons, Prog.run_block_cons, Prog.run_block_nil, Prog.run_when]
  split <;> rfl

theorem raiseWhere_pdl (c : State → Bool) (e : Nat) (t : Time) (s : State) :
    ((Prog.dyn (fun s => .when (c s) (.raiseAt e t))).run s).pdl = s.pdl := by
  rw [Prog.run_dyn, Prog.run_when]
  split <;> rfl

theorem kind_beginFillLine (f : Fill) (kind : LineKind) (code : Nat) (t : Time) (s : State) :
    ((beginFillLine f kind code t).run s).pdl.kind = kind := by
  unfold beginFillLine
  simp only [Prog.run_block_cons, Prog.run_block_nil]
  exact (congrArg Pdl.kind (raiseWhere_pdl _ _ _ _)).trans (kind_beginLine _ _ _ _ _)

/-- The line that the raster goes on with (R273, R279) leaves what is in flight, and is of some kind. -/
theorem run_chooseLine {s : State} (hs : s.Canon) (t : Time) :
    ((chooseLine t).run s).flights = s.flights ∧ ((chooseLine t).run s).pdl.kind ≠ .none := by
  have hfill (f : Fill) (kind : LineKind) (code : Nat) (h : kind ≠ .none) : ((beginFillLine f kind code t).run s).flights =
      s.flights ∧ ((beginFillLine f kind code t).run s).pdl.kind ≠ .none :=
    ⟨beginFillLine_keeps f kind code t s hs, by rwa [kind_beginFillLine]⟩
  have hrect (p : Option Nat) : ((beginRectLine p).run s).flights = s.flights ∧ ((beginRectLine p).run s).pdl.kind ≠ .none :=
    ⟨beginRectLine_keeps p s hs, by rw [beginRectLine, Prog.run_seq, kind_beginLine]; decide⟩
  have hservice : (beginServiceLine.run s).flights = s.flights ∧ (beginServiceLine.run s).pdl.kind ≠ .none :=
    ⟨beginServiceLine_keeps s hs, by rw [beginServiceLine, Prog.run_seq, kind_beginLine]; decide⟩
  rw [chooseLine, Prog.run_dyn]
  dsimp only
  split
  · exact hfill _ _ _ (by decide)
  · split
    · exact hservice
    · split
      · exact hfill _ _ _ (by decide)
      · split
        · exact hrect _
        · split
          · exact hfill _ _ _ (by decide)
          · split
            · exact hrect _
            · exact hservice

/-- LINE_END where the line may end (R276, R277, R282). -/
theorem completes_lineEnd {s : State} (hs : s.Canon) (hawake : s.Awake) (hlen : s.pdl.lanes.length = 192) (stamp : Time)
    (hmay : s.lineMayEnd = true) : Completes (.lineEnd stamp) s (fun t =>
      (∀ i, (t.drive i).flight = (s.drive i).flight ++ (s.drive i).sending) ∧
      (s.flag F.PDL_CTRL_LINK_EN = true → t.pdl.kind ≠ .none) ∧
      (s.flag F.PDL_CTRL_LINK_EN = false → t.pdl.kind = .none ∧ t.fld F.PDL_RASTER_KIND = 0 ∧
        ∀ i, (t.drive i).sending = [])) := by
  refine .of_go rfl hawake ?_
  rw [Prog.run_guard, if_pos hmay, Prog.run_seq, Prog.run_dyn]
  have hended := drive_endLine hlen stamp
  have hframe : Frame [.pdl, .grv, .out] [] s ((endLine stamp).run s) := Prog.frame_noRegs _ _ (endLine_in stamp) s
  have hv := hs.run (endLine stamp)
  generalize (endLine stamp).run s = v at *
  rw [hframe.flag F.PDL_CTRL_LINK_EN List.not_mem_nil]
  by_cases hen : s.flag F.PDL_CTRL_LINK_EN = true
  · rw [if_pos hen]
    obtain ⟨hflights, hkind⟩ := run_chooseLine hv stamp
    exact ⟨fun i => (congrFun hflights i).trans (hended i).2, fun _ => hkind, fun h => absurd (hen.symm.trans h) (by decide)⟩
  · rw [if_neg hen]
    refine ⟨fun i => ?_, fun h => absurd h hen, fun _ => ⟨rfl, ?_, fun i => ?_⟩⟩
    · exact (hended i).2
    · exact Prog.run_setFld_same F.PDL_RASTER_KIND 0 _ (hv.run _) (by decide) (by decide)
    · exact (hended i).1

theorem completes_lineEnd_early {s : State} (stamp : Time) (hmay : s.lineMayEnd = false) :
    Completes (.lineEnd stamp) s (fun t => t = s) := by
  have hexec : exec (.lineEnd stamp) s = execLineEnd stamp s := rfl
  refine .of_go_self hexec ?_
  rw [Prog.run_guard, if_neg (by rw [hmay]; decide)]

/-! ### Fills -/

theorem modFillAny_find {n : Fsn} {slate : Bool} {g : Fill → Fill} (hg : ∀ x, (g x).fsn = x.fsn ∧ (g x).slate = x.slate)
    {l : List Fill} {f : Fill} (h : l.find? (fun x => x.fsn == n && x.slate == slate) = some f) :
    (l.map (fun x => if x.fsn == n && x.slate == slate then g x else x)).find? (fun x => x.fsn == n && x.slate == slate) =
      some (g f) := by
  induction l with
  | nil => exact absurd h (by rw [List.find?_nil]; exact nofun)
  | cons x l ih =>
    rw [List.map_cons]
    by_cases hx : (x.fsn == n && x.slate == slate) = true
    · have hxf : x = f := Option.some.inj ((List.find?_cons_of_pos (p := fun x : Fill => x.fsn == n && x.slate == slate) hx).symm.trans h)
      subst hxf
      obtain ⟨hn, hsl⟩ := hg x
      rw [if_pos hx]
      exact List.find?_cons_of_pos (by rw [hn, hsl]; exact hx)
    · have hskip (l : List Fill) := List.find?_cons_of_neg (p := fun x : Fill => x.fsn == n && x.slate == slate) (l := l) hx
      rw [if_neg hx, hskip]
      exact ih ((hskip l).symm.trans h)

/-- A frame whose fill has lines unconfirmed is not written (R284). -/
theorem run_writtenCheck_unconf {s : State} {n : Fsn} {f : Fill} (hf : s.fillOf n = some f) (hunconf : f.unconf ≠ []) :
    (writtenCheck n).run s = s := by
  rw [writtenCheck, Prog.run_dyn]
  simp [hf, hunconf]

/-- FRAME_DONE (R275). -/
theorem completes_frameDone {s : State} (hawake : s.Awake) {fsn : Fsn} {slate : Bool} {f : Fill}
    (hf : s.pdl.fills.find? (fun x => x.fsn == fsn && x.slate == slate) = some f) (hend : f.lastEnd.isSome = true)
    (hsent : f.unsent = false) (hdone : f.frameDone = false) (hopen : slate = true ∨ f.unconf ≠ []) :
    Completes (.frameDone fsn slate) s (fun t =>
      (∀ x ∈ t.pdl.fills, x.fsn = fsn → x.slate = slate → x.frameDone = true) ∧
      t.pdl.fills.length = s.pdl.fills.length ∧ Pended 314 s t ∧ Frame [.pdl, .ctl, .freeCount] [] s t) := by
  let v := (modFillAny fsn slate (fun f => { f with frameDone := true })).run s
  have hfills : v.pdl.fills = s.pdl.fills.map (fun x => if x.fsn == fsn && x.slate == slate then { x with frameDone := true } else x) := rfl
  have hfind := modFillAny_find (g := fun f => { f with frameDone := true }) (fun _ => ⟨rfl, rfl⟩) hf
  have hframe : Frame [.pdl] [] s v := Act.frame_noRegs (a := .pdl _) List.mem_cons_self s
  have hrun : exec (.frameDone fsn slate) s = .next ((Prog.when (!slate) (writtenCheck fsn)).run ((Prog.raise 314).run v)) := by
    refine (congrArg _ (Prog.go_awake _ s hawake)).trans ?_
    rw [Prog.run_dyn]
    simp only [hf, hend, hsent, hdone, Bool.not_false, Bool.and_true, Prog.when, if_true]
    rfl
  have hlast : (Prog.when (!slate) (writtenCheck fsn)).run ((Prog.raise 314).run v) = (Prog.raise 314).run v := by
    rw [Prog.run_when]
    split
    · next h =>
      have hslate : slate = false := by simpa using h
      refine run_writtenCheck_unconf (f := { f with frameDone := true }) ?_ (hopen.resolve_left (by simp [hslate]))
      have hpred : (fun x : Fill => x.fsn == fsn && !x.slate) = (fun x => x.fsn == fsn && x.slate == slate) := by
        funext x
        rw [hslate]
        cases x.slate <;> rfl
      show (v.pdl.fills).find? (fun x : Fill => x.fsn == fsn && !x.slate) = _
      rw [hpred, hfills]
      exact hfind
    · rfl
  rw [hlast] at hrun
  refine ⟨_, hrun, fun x hx hn hsl => ?_, ?_, ?_, (hframe.mono (by simp) (by simp)).trans
    ((Prog.does_raise v 314).2 (by decide)).frame_noRegs⟩
  · have hx' : x ∈ v.pdl.fills := hx
    rw [hfills, List.mem_map] at hx'
    obtain ⟨y, -, rfl⟩ := hx'
    split at hn <;> rename_i hy
    · rw [if_pos hy]
    · rw [if_neg hy] at hsl
      exact absurd (by simp [hn, hsl]) hy
  · show v.pdl.fills.length = _
    rw [hfills, List.length_map]
  · exact Prog.run_raise_pend 314 v

/-- The first late group of a fill's running line (R140, R276). -/
theorem completes_fillUnderrunStall {s : State} (hs : s.Canon) (hawake : s.Awake) {fsn : Fsn} {f : Fill} {line c : Nat}
    (hrunning : s.pdl.running = some (fsn, false, line)) (hf : s.fillOf fsn = some f) (hlate : f.lateGroups = [])
    (hunder : f.underran = false) (hc : (List.range 16).find? (fun c => !f.groupComplete (16 * line + c)) = some c) :
    Completes (.fillUnderrunStall fsn) s (fun t =>
      t.fld F.BIN_LATE_COUNT = s.countUp F.BIN_LATE_COUNT ∧
      t.fld F.PDL_UNDERRUN_COUNT = s.countUp F.PDL_UNDERRUN_COUNT ∧
      t.ctl.pend = pendSet (getBits (s.reg (R.CPX_EV_ROUTE 315)) 11 0) 315
        (pendSet (getBits (s.reg (R.CPX_EV_ROUTE 210)) 11 0) 210 s.ctl.pend) ∧
      Frame [.pdl, .ctl, .freeCount] [F.BIN_LATE_COUNT.off, F.PDL_UNDERRUN_COUNT.off] s t) := by
  let p : Prog := .block [.count F.BIN_LATE_COUNT 1, .raise 210, .count F.PDL_UNDERRUN_COUNT 1, .raise 315,
    modFill fsn (fun f => { f with
      underran := true, lateGroups := if f.lateGroups.contains (16 * line + c) then f.lateGroups
        else f.lateGroups ++ [16 * line + c] })]
  have hrun : exec (.fillUnderrunStall fsn) s = .next (p.run s) := by
    refine (congrArg _ (Prog.go_awake _ s hawake)).trans ?_
    rw [Prog.run_dyn]
    simp only [hrunning, hf, beq_self_eq_true, if_true, hc, hlate, hunder, List.contains_nil, List.any_nil, List.isEmpty_nil,
      Bool.not_false, Prog.when]
    rfl
  let u := (Prog.raise 210).run ((Prog.count F.BIN_LATE_COUNT 1).run s)
  have hu : u.Canon := (hs.run _).run _
  have hkeep : (Prog.block [.raise 210, .count F.PDL_UNDERRUN_COUNT 1, .raise 315, modFill fsn (fun f => { f with
      underran := true, lateGroups := if f.lateGroups.contains (16 * line + c) then f.lateGroups
        else f.lateGroups ++ [16 * line + c] })]).Keeps (fun v => v.fld F.BIN_LATE_COUNT) :=
    Prog.keeps_seq (Prog.keeps_fld_raise _ _) (Prog.keeps_seq
      (fun v hv => Prog.run_count_other F.PDL_UNDERRUN_COUNT F.BIN_LATE_COUNT 1 v hv (by decide) (by decide) (by decide))
      (Prog.keeps_seq (Prog.keeps_fld_raise _ _) (Prog.keeps_seq (fun _ _ => rfl) Prog.keeps_nil)))
  have hdoes : p.Does (Act.Within [.pdl, .ctl, .freeCount] [F.BIN_LATE_COUNT.off, F.PDL_UNDERRUN_COUNT.off]) s := by
    simp [p, modFill, Act.Within]
  refine ⟨_, hrun, ?_, ?_, ?_, hdoes.frame hs⟩
  · exact (hkeep.run (hs.run _)).trans (Prog.run_count_same F.BIN_LATE_COUNT 1 s hs (by decide) (by decide))
  · have hlast (v : State) : ((Prog.block [.raise 315, modFill fsn (fun f => { f with
        underran := true, lateGroups := if f.lateGroups.contains (16 * line + c) then f.lateGroups
          else f.lateGroups ++ [16 * line + c] })]).run v).fld F.PDL_UNDERRUN_COUNT = v.fld F.PDL_UNDERRUN_COUNT := rfl
    refine (hlast _).trans ((Prog.run_count_same F.PDL_UNDERRUN_COUNT 1 u hu (by decide) (by decide)).trans ?_)
    exact congrArg (fun n => min _ (n + 1)) (Prog.run_count_other F.BIN_LATE_COUNT F.PDL_UNDERRUN_COUNT 1 s hs (by decide)
      (by decide) (by decide))
  · have hroute (e : Nat) (v : State) (g : Fld) (hv : v.Canon) (hg : R.CPX_EV_ROUTE e ≠ g.off) :
        ((Prog.count g 1).run v).reg (R.CPX_EV_ROUTE e) = v.reg (R.CPX_EV_ROUTE e) := State.reg_store_other _ _ _ _ hv hg
    have hroute' : u.reg (R.CPX_EV_ROUTE 315) = s.reg (R.CPX_EV_ROUTE 315) := hroute 315 s _ hs (by decide)
    show pendSet (getBits (((Prog.count F.PDL_UNDERRUN_COUNT 1).run u).reg (R.CPX_EV_ROUTE 315)) 11 0) 315 (pendSet
      (getBits (((Prog.count F.BIN_LATE_COUNT 1).run s).reg (R.CPX_EV_ROUTE 210)) 11 0) 210 s.ctl.pend) = _
    rw [hroute 315 u _ hu (by decide), hroute', hroute 210 s _ hs (by decide)]

/-- Settles O27, clause by clause. -/
theorem linesAndFillsRun : Obligations.LinesAndFillsRun := by
  unfold Obligations.LinesAndFillsRun
  refine ⟨fun s stamp hinv hawake hlen => ⟨fun hmay => ?_, completes_lineEnd hinv.canon hawake hlen stamp⟩,
    fun s fsn f hinv hawake => ⟨fun slate => completes_frameDone hawake, fun line c => completes_fillUnderrunStall hinv.canon hawake⟩⟩
  exact completes_lineEnd_early stamp hmay

end Sys2Proof.Machine
end

section
/-! PROOF. The CONFs of the panel drive link and their absence (R265, R283, R295). -/

namespace Sys2Proof.Machine

/-! ### Frames of the shared steps -/

theorem anyState (p : Prop) : (∀ _ : State, p) ↔ p := ⟨fun h => h State.reset, fun h _ => h⟩

section
variable {parts : List Part} {offs : List Nat}

@[simp] theorem Prog.onlyWithin_setReg (off : Nat) (v : Word) : (Prog.setReg off v).Only (Act.Within parts offs) ↔ off ∈ offs := Iff.rfl
@[simp] theorem Prog.onlyWithin_setFld (f : Fld) (v : Nat) : (Prog.setFld f v).Only (Act.Within parts offs) ↔ f.off ∈ offs :=
  anyState _
@[simp] theorem Prog.onlyWithin_setFlag (f : Fld) (b : Bool) : (Prog.setFlag f b).Only (Act.Within parts offs) ↔ f.off ∈ offs :=
  anyState _
@[simp] theorem Prog.onlyWithin_count (f : Fld) (n : Nat) : (Prog.count f n).Only (Act.Within parts offs) ↔ f.off ∈ offs :=
  (anyState _).trans (anyState _)
@[simp] theorem Prog.onlyWithin_send (o : Out) : (Prog.send o).Only (Act.Within parts offs) ↔ Part.out ∈ parts := Iff.rfl
@[simp] theorem Prog.onlyWithin_raiseAt (e : Nat) (t : Time) :
    (Prog.raiseAt e t).Only (Act.Within parts offs) ↔ Part.ctl ∈ parts := anyState _
@[simp] theorem Prog.onlyWithin_withFree (f : Word → Prog) : (Prog.withFree f).Only (Act.Within parts offs) ↔
    (Part.freeCount ∈ parts ∧ ∀ w, (f w).Only (Act.Within parts offs)) ∨
      Anyway ((Prog.withFree f).Only (Act.Within parts offs)) (fun _ => true) := iff_or_anyway fun h _ => ⟨h.1, h.2 _⟩
@[simp] theorem Prog.onlyWithin_raise (e : Nat) : (Prog.raise e).Only (Act.Within parts offs) ↔
    Part.freeCount ∈ parts ∧ Part.ctl ∈ parts := ⟨fun h => ⟨(h State.reset).1, (h State.reset).2 State.reset⟩, fun h _ => ⟨h.1, fun _ => h.2⟩⟩

end

variable {s : State} {lane line slot : Nat} {seq : BitVec 16} {fsn : Fsn}

/-! ### A CONF that is only counted -/

/-- Coding errors and a wrong CRC of one return lane, counted in the two halves of one register. -/
theorem run_countCoding (hs : s.Canon) {off : Nat} (n : Nat) (hoff : R.SDS_LCODE_ERR lane ≠ off)
    (hcode : (if lane < 96 then F.PDL_CRC_ERR0_CODE else F.PDL_CRC_ERR1_CODE) = ⟨off, 31, 16⟩) :
    let t := (Prog.count ⟨off, 15, 0⟩ 1).run ((countCoding lane n).run s)
    t.fld ⟨off, 15, 0⟩ = s.countUp ⟨off, 15, 0⟩ ∧ t.fld ⟨off, 31, 16⟩ = min 65535 (s.fld ⟨off, 31, 16⟩ + n) ∧
      Frame [.freeCount] [off, R.SDS_LCODE_ERR lane] s t := by
  let rest : Prog := .block [.count (F.SDS_LCODE_ERR_CODE lane) n,
    .withFree (fun w => .count (F.SDS_LCODE_ERR_DISP lane) w.toNat)]
  have hrest (g : Fld) (hg : g.off = off) : rest.Keeps (fun t => t.fld g) :=
    Prog.keeps_fld_of_only (parts := [.freeCount]) (offs := [R.SDS_LCODE_ERR lane])
      (by simp [rest, F.SDS_LCODE_ERR_CODE, F.SDS_LCODE_ERR_DISP]) g (by simpa [hg] using hoff.symm)
  have hdef : countCoding lane n = .when (n != 0) (.seq (.count ⟨off, 31, 16⟩ n) rest) := by
    unfold countCoding
    rw [hcode]
    rfl
  have hret (v : State) (hv : v.Canon) := Prog.run_count_same ⟨off, 15, 0⟩ 1 v hv (by simp) (by simp)
  have hcode (v : State) (hv : v.Canon) := Prog.run_count_other ⟨off, 15, 0⟩ ⟨off, 31, 16⟩ 1 v hv (by simp) (by simp)
    (.inr (.inl (by simp)))
  have hframe : Frame [.freeCount] [off, R.SDS_LCODE_ERR lane] s ((countCoding lane n).run s) := by
    rw [hdef]
    exact (Prog.frame _ _ _ (by simp [rest, F.SDS_LCODE_ERR_CODE, F.SDS_LCODE_ERR_DISP]) s hs).2
  have hcount : ((countCoding lane n).run s).fld ⟨off, 15, 0⟩ = s.fld ⟨off, 15, 0⟩ ∧
      ((countCoding lane n).run s).fld ⟨off, 31, 16⟩ = min 65535 (s.fld ⟨off, 31, 16⟩ + n) := by
    rw [hdef, Prog.run_when]
    by_cases hn : n = 0
    · have hlt := s.fld_lt ⟨off, 31, 16⟩
      dsimp only at hlt
      rw [if_neg (by simp [hn]), hn]
      exact ⟨rfl, by omega⟩
    · rw [if_pos (by simpa using hn), Prog.run_seq]
      have hu := hs.run (Prog.count ⟨off, 31, 16⟩ n)
      rw [(hrest ⟨off, 15, 0⟩ rfl).run hu, (hrest ⟨off, 31, 16⟩ rfl).run hu]
      exact ⟨Prog.run_count_other ⟨off, 31, 16⟩ ⟨off, 15, 0⟩ n s hs (by simp) (by simp) (.inr (.inr (by simp))),
        Prog.run_count_same ⟨off, 31, 16⟩ n s hs (by simp) (by simp)⟩
  have hv := hs.run (countCoding lane n)
  generalize (countCoding lane n).run s = v at *
  refine ⟨?_, (hcode v hv).trans hcount.2, hframe.trans (Prog.Does.frame (p := .count _ 1) ((Prog.does_count _ _ _).2 (.head _)) hv)⟩
  exact (hret v hv).trans (by rw [hcount.1]; rfl)

theorem completes_wrongCrc (hs : s.Canon) (hawake : s.Awake) (hlane : lane < 192) (hcarries : s.carries lane = true) (status : Byte)
    (value : BitVec 24) (n : Nat) (stamp : Time) : Completes (.confReceive lane seq status value n false stamp) s (fun t =>
      (lane < 96 → t.fld F.PDL_CRC_ERR0_RET = s.countUp F.PDL_CRC_ERR0_RET ∧
        t.fld F.PDL_CRC_ERR0_CODE = min 65535 (s.fld F.PDL_CRC_ERR0_CODE + n)) ∧
      (96 ≤ lane → t.fld F.PDL_CRC_ERR1_RET = s.countUp F.PDL_CRC_ERR1_RET ∧
        t.fld F.PDL_CRC_ERR1_CODE = min 65535 (s.fld F.PDL_CRC_ERR1_CODE + n)) ∧
      Frame [.freeCount] [F.PDL_CRC_ERR0_RET.off, F.PDL_CRC_ERR1_RET.off, R.SDS_LCODE_ERR lane] s t) := by
  have hrun : exec (.confReceive lane seq status value n false stamp) s =
      .next ((countCrc lane).run ((countCoding lane n).run s)) := by
    refine (congrArg _ (Prog.go_awake _ s hawake)).trans ?_
    rw [returnItem, Prog.run_guard, if_pos hcarries, Prog.run_seq]
    rfl
  rw [countCrc] at hrun
  refine ⟨_, hrun, ?_⟩
  have hne (off : Nat) (h : off < 0x1801020) : R.SDS_LCODE_ERR lane ≠ off := by
    unfold R.SDS_LCODE_ERR
    omega
  by_cases hhalf : lane < 96
  · rw [if_pos hhalf]
    obtain ⟨hret, hcode, hframe⟩ := run_countCoding hs (off := R.PDL_CRC_ERR0) n (hne _ (by decide)) (if_pos hhalf)
    exact ⟨fun _ => ⟨hret, hcode⟩, fun h => absurd hhalf (by omega), hframe.mono (fun _ => id) (by
      simp [F.PDL_CRC_ERR0_RET])⟩
  · rw [if_neg hhalf]
    obtain ⟨hret, hcode, hframe⟩ := run_countCoding hs (off := R.PDL_CRC_ERR1) n (hne _ (by decide)) (if_neg hhalf)
    exact ⟨fun h => absurd h hhalf, fun _ => ⟨hret, hcode⟩, hframe.mono (fun _ => id) (by
      simp [F.PDL_CRC_ERR1_RET])⟩

theorem completes_notCarried (hcarries : s.carries lane = false) (status : Byte) (value : BitVec 24) (n : Nat) (ok : Bool)
    (stamp : Time) : Completes (.confReceive lane seq status value n ok stamp) s (fun t => t = s) := by
  have hexec : exec (.confReceive lane seq status value n ok stamp) s = execConfReceive lane seq status value n ok stamp s := rfl
  refine .of_go_self hexec ?_
  rw [returnItem, Prog.run_guard, if_neg (by rw [hcarries]; decide)]

/-! ### A CONF of an item in flight -/

/-- An answer to no item of the running line tells nothing of its EOI (R282). -/
theorem run_seenEoi_none (h : (s.drive lane).sending.lookup seq = none) : (seenEoi lane seq).run s = s := by
  have hfind : (s.drive lane).sending.findIdx? (fun p => p.1 == seq) = none := by
    rw [List.findIdx?_eq_none_iff]
    intro p hp
    rw [List.lookup_eq_none_iff] at h
    rw [beq_eq_false_iff_ne]
    exact fun e => absurd (h p hp) (by simp [e])
  rw [seenEoi, Prog.run_dyn, hfind]
  rfl

theorem exec_confReceive (hawake : s.Awake) (hcarries : s.carries lane = true) (status : Byte) (value : BitVec 24) (stamp : Time)
    {k : ItemKind} (hsending : (s.drive lane).sending.lookup seq = none) (hflight : (s.drive lane).flight.lookup seq = some k) :
    exec (.confReceive lane seq status value 0 true stamp) s = .next ((if status != 0 then failItem lane k
      else itemConfirmed lane k value.toNat stamp).run ((leaveFlight lane seq).run s)) := by
  refine (congrArg _ (Prog.go_awake _ s hawake)).trans ?_
  rw [returnItem, Prog.run_guard, if_pos hcarries, Prog.run_seq]
  have hnone : (countCoding lane 0).run s = s := rfl
  rw [hnone, if_pos rfl, Prog.run_seq, run_seenEoi_none hsending, Prog.run_dyn, hflight]
  rfl

theorem exec_rectConfTimeout (hawake : s.Awake) (hlane : lane < 192) {k : ItemKind}
    (hsending : (s.drive lane).sending.lookup seq = none) (hflight : (s.drive lane).flight.lookup seq = some k) :
    exec (.rectConfTimeout lane seq) s = .next ((failItem lane k).run ((leaveFlight lane seq).run s)) := by
  refine (congrArg _ (Prog.go_awake _ s hawake)).trans ?_
  rw [Prog.run_when, if_pos (by simpa using hlane), Prog.run_seq, run_seenEoi_none hsending, Prog.run_dyn, hflight]
  rfl

theorem frame_modFillAny (n : Fsn) (slate : Bool) (g : Fill → Fill) (v : State) : Frame [.pdl] [] v ((modFillAny n slate g).run v) :=
  Act.frame_noRegs (a := .pdl _) (.head _) v

theorem mem_modFillAny {n : Fsn} {slate : Bool} {g : Fill → Fill} {v : State} {f : Fill}
    (hg : ∀ x, (g x).fsn = x.fsn ∧ (g x).slate = x.slate) (hf : f ∈ ((modFillAny n slate g).run v).pdl.fills) (hn : f.fsn = n)
    (hslate : f.slate = slate) : ∃ x, f = g x := by
  obtain ⟨x, -, hx⟩ := List.mem_map.1 (show f ∈ v.pdl.fills.map _ from hf)
  split at hx
  · exact ⟨x, hx.symm⟩
  · next h => exact absurd (by rw [hx, hn, hslate]; simp) h

/-- A slate line is confirmed on a lane (R284). -/
theorem run_itemConfirmed (hlen : s.pdl.lanes.length = 192) (hlane : lane < 192) (value : Nat) (stamp : Time) :
    let t := (itemConfirmed lane (.line fsn true slot line) value stamp).run ((leaveFlight lane seq).run s)
    (t.drive lane).consec = 0 ∧ (t.drive lane).flight = (s.drive lane).flight.filter (fun p => p.1 != seq) ∧
      (∀ f ∈ t.pdl.fills, f.fsn = fsn → f.slate = true → (lane, line) ∉ f.unconf) ∧
      (∀ j, j ≠ lane → t.drive j = s.drive j) ∧ Frame [.pdl] [] s t := by
  let unconf (f : Fill) : Fill := { f with unconf := f.unconf.filter (· != (lane, line)) }
  let u := (leaveFlight lane seq).run s
  let v := (modDrive lane (fun d => { d with consec := 0 })).run u
  have hlenU : u.pdl.lanes.length = 192 := (lanes_length_modDrive lane _ s).trans hlen
  have hdrive (j : Nat) : ((modFillAny fsn true unconf).run v).drive j = v.drive j := drive_congr rfl j
  have hrun : (itemConfirmed lane (.line fsn true slot line) value stamp).run u = (modFillAny fsn true unconf).run v := rfl
  intro t
  rw [show t = (modFillAny fsn true unconf).run v from hrun]
  refine ⟨?_, ?_, fun f hf hn hslate => ?_, fun j hj => ?_, ?_⟩
  · rw [hdrive, drive_modDrive_same _ _ _ (by omega)]
  · rw [hdrive, drive_modDrive_same _ _ _ (by omega), show u = (modDrive lane _).run s from rfl, drive_modDrive_same _ _ _ (by omega)]
  · obtain ⟨x, rfl⟩ := mem_modFillAny (g := unconf) (v := v) (fun _ => ⟨rfl, rfl⟩) hf hn hslate
    simp [unconf]
  · rw [hdrive, drive_modDrive_other _ _ _ _ hj]
    exact drive_modDrive_other _ _ _ _ hj
  · exact ((frame_modDrive lane _ s).trans (frame_modDrive lane _ u)).trans (frame_modFillAny fsn true unconf v)

theorem countItemFail_within (lane : Nat) : (countItemFail lane).Only
    (Act.Within [.pdl, .ctl, .freeCount] [F.PDL_ITEM_FAIL0_COUNT.off, F.PDL_ITEM_FAIL1_COUNT.off]) := by
  unfold countItemFail
  exact Prog.only_ite (by simp) (by simp)

/-- An item that fails is counted and told with the event of the lane's half (R283). -/
theorem run_countItemFail (hs : s.Canon) (lane : Nat) : let t := (countItemFail lane).run s
    t.pdl = s.pdl ∧ Pended (if lane < 96 then 317 else 349) s t := by
  unfold countItemFail
  split
  · refine ⟨rfl, ?_⟩
    exact pended_run_raise 317 (Prog.Does.frame (p := .count F.PDL_ITEM_FAIL0_COUNT 1) (parts := []) (offs := [F.PDL_ITEM_FAIL0_COUNT.off])
      ((Prog.does_count _ _ _).2 (.head _)) hs) (by decide) (by decide)
  · refine ⟨rfl, ?_⟩
    exact pended_run_raise 349 (Prog.Does.frame (p := .count F.PDL_ITEM_FAIL1_COUNT 1) (parts := []) (offs := [F.PDL_ITEM_FAIL1_COUNT.off])
      ((Prog.does_count _ _ _).2 (.head _)) hs) (by decide) (by decide)

/-- A slate line fails on a lane for the first or second time in a row, and is sent again (R283, R286). -/
theorem run_failItem (hs : s.Canon) (hlen : s.pdl.lanes.length = 192) (hlane : lane < 192) (hconsec : (s.drive lane).consec ≠ 2) :
    let t := (failItem lane (.line fsn true slot line)).run ((leaveFlight lane seq).run s)
    (t.drive lane).consec = (s.drive lane).consec + 1 ∧
      (t.drive lane).flight = (s.drive lane).flight.filter (fun p => p.1 != seq) ∧
      (∀ f ∈ t.pdl.fills, f.fsn = fsn → f.slate = true → line ∈ f.resend) ∧
      Pended (if lane < 96 then 317 else 349) s t ∧
      Frame [.pdl, .ctl, .freeCount] [F.PDL_ITEM_FAIL0_COUNT.off, F.PDL_ITEM_FAIL1_COUNT.off] s t := by
  let again (f : Fill) : Fill := { f with
    unconf := f.unconf.filter (· != (lane, line)), resend := f.resend ++ [line] }
  let u := (leaveFlight lane seq).run s
  let v := (countItemFail lane).run u
  let w := (modDrive lane (fun d => { d with consec := d.consec + 1 })).run v
  let x := (modFillAny fsn true again).run w
  have hu : u.Canon := hs.run _
  have hlenU : u.pdl.lanes.length = 192 := (lanes_length_modDrive lane _ s).trans hlen
  obtain ⟨hpdl, hpend⟩ := run_countItemFail hu lane
  have hcounted := (Prog.frame _ _ _ (countItemFail_within lane) u hu).2
  have hlenV : v.pdl.lanes.length = 192 := (congrArg (·.lanes.length) hpdl).trans hlenU
  have hdrive : x.drive lane = { s.drive lane with
      flight := (s.drive lane).flight.filter (fun p => p.1 != seq), consec := (s.drive lane).consec + 1 } := by
    have hx : x.drive lane = w.drive lane := drive_congr rfl lane
    have hw : w.drive lane = _ := drive_modDrive_same lane _ v (by omega)
    have hv : v.drive lane = u.drive lane := drive_congr (congrArg (·.lanes) hpdl) lane
    have hu : u.drive lane = _ := drive_modDrive_same lane _ s (by omega)
    rw [hx, hw, hv, hu]
  have hrun : (failItem lane (.line fsn true slot line)).run u =
      (Prog.when ((x.drive lane).consec == 3 || false) (driveFault lane 0x11)).run x := rfl
  have hthird : ((x.drive lane).consec == 3 || false) = false := by
    rw [hdrive]
    simpa using hconsec
  rw [Prog.run_when, if_neg (by rw [hthird]; decide)] at hrun
  intro t
  rw [show t = x from hrun, hdrive]
  refine ⟨rfl, rfl, fun f hf hn hslate => ?_, hpend, ?_⟩
  · obtain ⟨y, rfl⟩ := mem_modFillAny (g := again) (v := w) (fun _ => ⟨rfl, rfl⟩) hf hn hslate
    simp [again]
  · have hfirst := (frame_modDrive lane (fun d => { d with flight := d.flight.filter (fun p => p.1 != seq) }) s).mono
      (parts' := [.pdl, .ctl, .freeCount]) (offs' := [F.PDL_ITEM_FAIL0_COUNT.off, F.PDL_ITEM_FAIL1_COUNT.off]) (by simp) (by simp)
    have hlast := ((frame_modDrive lane (fun d => { d with consec := d.consec + 1 }) v).trans
      (frame_modFillAny fsn true again w)).mono
      (parts' := [.pdl, .ctl, .freeCount]) (offs' := [F.PDL_ITEM_FAIL0_COUNT.off, F.PDL_ITEM_FAIL1_COUNT.off]) (by simp) (by simp)
    exact (hfirst.trans hcounted).trans hlast

/-- Settles O28, clause by clause. -/
theorem itemsConfirmOrFail : Obligations.ItemsConfirmOrFail := by
  unfold Obligations.ItemsConfirmOrFail
  intro s lane seq fsn slot line hinv hawake hlane hlen
  refine ⟨completes_wrongCrc hinv.canon hawake hlane, completes_notCarried, fun hsending hflight => ⟨fun hcarries value stamp => ?_,
    fun hconsec value stamp c hc hcarries => ?_⟩⟩
  · exact ⟨_, exec_confReceive hawake hcarries 0 value stamp hsending hflight, run_itemConfirmed (slot := slot) hlen hlane value.toNat stamp⟩
  · have hfails := run_failItem (seq := seq) (fsn := fsn) (slot := slot) (line := line) hinv.canon hlen hlane hconsec
    simp only [List.mem_cons, List.not_mem_nil, or_false] at hc
    obtain rfl | rfl := hc
    · exact ⟨_, exec_rectConfTimeout hawake hlane hsending hflight, hfails⟩
    · exact ⟨_, exec_confReceive hawake (hcarries.resolve_left nofun) 1 value stamp hsending hflight, hfails⟩

end Sys2Proof.Machine
end

section
/-! PROOF. Answers of the drivers (R290 to R300): a counterexample. -/

namespace Sys2Proof.Machine

/-- A node after reset whose drive lane 0 is put to TEST while its latency calibration runs. -/
def testedInCalibration : State :=
  { State.reset with
    sds := { State.reset.sds with lanes := List.replicate 224 { st := .test } }
    pdl := { State.reset.pdl with lanes := { calStart := some 0 } :: List.replicate 191 {} } }

/-- Refutes O29: a latency calibration that is not answered in time is no fault of a lane in TEST (Table 9.12), which the
statement does not set aside; the node stays a SAPLING. -/
theorem not_driversAnswer : ¬ Obligations.DriversAnswer := by
  unfold Obligations.DriversAnswer
  intro h
  let s := testedInCalibration
  have hawake : s.Awake := rfl
  have hlen : s.pdl.lanes.length = 192 := by
    show (_ :: List.replicate 191 _).length = 192
    rw [List.length_cons, List.length_replicate]
  have hinv : s.Inv := resetInvariant
  obtain ⟨-, -, -, hfault⟩ := h.1 s 0 0 hinv hawake (by decide) hlen
  obtain ⟨t, hexec, hnode, -⟩ := (hfault ⟨by decide, rfl⟩ (.inl rfl) (by decide)).1 rfl rfl
  have hrun : exec (.latencyCalTimeout 0) s = .next s := by
    refine (congrArg _ (Prog.go_awake _ s hawake)).trans ?_
    rw [Prog.run_guard, if_pos (by decide), driveFault, Prog.run_guard, if_neg (by decide)]
  rw [hrun] at hexec
  cases hexec
  exact absurd hnode (by decide)

end Sys2Proof.Machine
end

section
/-! PROOF. The aperture layer: requests, the journal, lines, and what stops them (chapter 11). -/

namespace Sys2Proof.Machine

variable {s : State}

/-! ### Requests (R336 to R338) -/

theorem completes_aplRequestGo (hs : s.Canon) (imm : Bool) (hnone : s.apl.pendingReq = none) :
    Completes (.aplRequestGo imm) s (fun t =>
      t.apl = { s.apl with pendingReq := some { seq := 0, rect := s.reg R.APL_REQ_RECT, fsn := s.reg R.APL_REQ_FSN
                                                immediate := imm
                                                buf := s.addr F.APL_REQ_BUF_LO_ADDR_LO F.APL_REQ_BUF_HI_ADDR_HI } } ∧
      t.fld F.APL_REQ_RESULT_PENDING = 1 ∧ Frame [.apl] [R.APL_REQ_RESULT] s t) := by
  let p (r : AplReq) : Prog := .seq (.act (.apl (fun a => { a with pendingReq := some r }))) (.setFld F.APL_REQ_RESULT_PENDING 1)
  have hrun : exec (.aplRequestGo imm) s = .next ((p
      { seq := 0, rect := s.reg R.APL_REQ_RECT, fsn := s.reg R.APL_REQ_FSN
        immediate := imm, buf := s.addr F.APL_REQ_BUF_LO_ADDR_LO F.APL_REQ_BUF_HI_ADDR_HI }).run s) := by
    show Host.Outcome.next _ = _
    rw [Prog.run_dyn, submitRequest, Prog.run_dyn, hnone]
    rfl
  refine ⟨_, hrun, rfl, ?_, (Prog.frame _ _ (p _) (by simp [p, Act.Within, F.APL_REQ_RESULT_PENDING]) s hs).2⟩
  exact Prog.run_setFld_same F.APL_REQ_RESULT_PENDING 1 _ (hs.apply _) (by decide) (by decide)

theorem completes_aplRequestGo_overrun (hs : s.Canon) (imm : Bool) (hpending : s.apl.pendingReq ≠ none) :
    Completes (.aplRequestGo imm) s (fun t =>
      t.fld F.APL_REQ_RESULT_OVERRUN = 1 ∧ Pended 410 s t ∧ Frame [.ctl, .freeCount] [R.APL_REQ_RESULT] s t) := by
  let p : Prog := .seq (.setFld F.APL_REQ_RESULT_OVERRUN 1) (.raise 410)
  have hrun : exec (.aplRequestGo imm) s = .next (p.run s) := by
    show Host.Outcome.next _ = _
    rw [Prog.run_dyn, submitRequest, Prog.run_dyn, if_pos (Option.isSome_iff_ne_none.2 hpending)]
  have hset : Frame [] [R.APL_REQ_RESULT] s ((Prog.setFld F.APL_REQ_RESULT_OVERRUN 1).run s) :=
    Prog.Does.frame ((Prog.does_setFld _ _ _).2 (.head _)) hs
  refine ⟨_, hrun, ?_, pended_run_raise 410 hset (by decide) (by decide),
    (Prog.frame _ _ p (by simp [p, F.APL_REQ_RESULT_OVERRUN]) s hs).2⟩
  exact Prog.run_setFld_same F.APL_REQ_RESULT_OVERRUN 1 s hs (by decide) (by decide)

/-- The verdict on the pending request, before what follows from it (R336). -/
def takeVerdict (code : Nat) : Prog :=
  .block [.act (.apl (fun a => { a with pendingReq := none })), .setFld F.APL_REQ_RESULT_PENDING 0,
    .setFld F.APL_REQ_RESULT_STATUS code]

theorem run_takeVerdict (hs : s.Canon) {code : Nat} (hcode : code < 256) : let t := (takeVerdict code).run s
    t.apl = { s.apl with pendingReq := none } ∧ t.fld F.APL_REQ_RESULT_STATUS = code ∧ t.fld F.APL_REQ_RESULT_PENDING = 0 ∧
      Frame [.apl] [R.APL_REQ_RESULT] s t := by
  refine ⟨rfl, ?_, ?_, (Prog.frame _ _ (takeVerdict code)
    (by simp [takeVerdict, Act.Within, F.APL_REQ_RESULT_PENDING, F.APL_REQ_RESULT_STATUS]) s hs).2⟩
  · exact (Prog.run_setFld_same F.APL_REQ_RESULT_STATUS code _ ((hs.apply _).run _) (by decide) (by decide)).trans
      (Nat.mod_eq_of_lt hcode)
  · exact (Prog.run_setFld_other F.APL_REQ_RESULT_STATUS F.APL_REQ_RESULT_PENDING code _ ((hs.apply _).run _) (by decide)
      (by decide) (by decide)).trans (Prog.run_setFld_same F.APL_REQ_RESULT_PENDING 0 _ (hs.apply _) (by decide) (by decide))

theorem judge_lt (r : Word) (b : Bool) : s.judge r b < 256 := by
  unfold State.judge
  repeat' split
  all_goals decide

/-- What follows from the verdict on a request (R336, R337). -/
def actOnVerdict (s : State) (r : AplReq) (code : Nat) : Prog :=
  let n := (rectKH r.rect + 1) * rowSize r.rect
  if code = 0 then acceptRequest r (s.bytes r.buf n)
  else .seq (.raise 410) (.when (code == 3 && rangeInDram r.buf n)
    (match (linesOf r.buf n).find? s.lineBad with
     | some line => uncorrectable line 0x15 0xFF none
     | none => .nil))

theorem exec_aplRequestJudged {r : AplReq} (hr : s.apl.pendingReq = some r) {code : Nat} (hcode : code =
      s.judge r.rect (rangeInDram r.buf ((rectKH r.rect + 1) * rowSize r.rect) &&
        !s.badRange r.buf ((rectKH r.rect + 1) * rowSize r.rect))) :
    exec .aplRequestJudged s = .next ((actOnVerdict s r code).run ((takeVerdict code).run s)) := by
  show Host.Outcome.next _ = _
  rw [Prog.run_dyn, hr, hcode]
  rfl

theorem aplCounts_within {parts : List Part} : aplCounts.Only (Act.Within parts [R.APL_STATUS]) := by
  intro s
  simp [F.APL_STATUS_INFLIGHT, F.APL_STATUS_QUEUED, F.APL_STATUS_JOURNAL_BUSY]

theorem aplCounts_apl : (aplCounts.run s).apl = s.apl := rfl

theorem completes_aplRequestJudged_accept (hs : s.Canon) {r : AplReq} (hr : s.apl.pendingReq = some r)
    (hcode : s.judge r.rect (rangeInDram r.buf ((rectKH r.rect + 1) * rowSize r.rect) &&
        !s.badRange r.buf ((rectKH r.rect + 1) * rowSize r.rect)) = 0) : Completes .aplRequestJudged s (fun t =>
        t.apl.queue = s.apl.queue ++ [{ r with seq := s.apl.nextSeq, bits := s.bytes r.buf ((rectKH r.rect + 1) * rowSize r.rect) }] ∧
        t.apl.nextSeq = s.apl.nextSeq + 1 ∧ t.apl.pendingReq = none ∧ t.reg R.APL_REQ_SEQ = s.apl.nextSeq ∧
        t.fld F.APL_REQ_RESULT_STATUS = 0 ∧ t.fld F.APL_REQ_RESULT_PENDING = 0 ∧
        Frame [.apl] [R.APL_REQ_RESULT, R.APL_REQ_SEQ, R.APL_STATUS] s t) := by
  refine ⟨_, exec_aplRequestJudged hr hcode.symm, ?_⟩
  obtain ⟨hapl, hstatus, hpending, hframe⟩ := run_takeVerdict hs (code := 0) (by decide)
  have hv := hs.run (takeVerdict 0)
  generalize (takeVerdict 0).run s = v at *
  rw [actOnVerdict, if_pos rfl, acceptRequest, Prog.run_dyn, hapl]
  generalize s.bytes _ _ = bits
  let w := (Prog.setReg R.APL_REQ_SEQ s.apl.nextSeq).run ((Act.apl (fun a => { a with
    queue := a.queue ++ [{ r with seq := a.nextSeq, bits := bits }], nextSeq := a.nextSeq + 1 })).apply v)
  have hw : w.Canon := (hv.apply _).run _
  have hstored : Frame [.apl] [R.APL_REQ_SEQ] v w := (Prog.frame [.apl] [R.APL_REQ_SEQ] (.seq (.act (.apl _)) (.setReg _ _))
    (by simp [Act.Within]) v hv).2
  have hcounts := (Prog.frame _ _ _ (aplCounts_within (parts := [])) w hw).2
  have haplw : (aplCounts.run w).apl = { s.apl with
      pendingReq := none, queue := s.apl.queue ++ [{ r with seq := s.apl.nextSeq, bits := bits }]
      nextSeq := s.apl.nextSeq + 1 } := by
    show { v.apl with queue := v.apl.queue ++ [{ r with seq := v.apl.nextSeq, bits := bits }], nextSeq := v.apl.nextSeq + 1 } = _
    rw [hapl]
  have hall : Frame [.apl] [R.APL_REQ_SEQ, R.APL_STATUS] v (aplCounts.run w) :=
    (hstored.mono (fun _ => id) (by simp)).trans (hcounts.mono (by simp) (by simp))
  show _ ∧ _
  rw [show (Prog.block _).run v = aplCounts.run w from rfl, haplw]
  refine ⟨rfl, rfl, rfl, ?_, (hall.fld _ (by decide)).trans hstatus, (hall.fld _ (by decide)).trans hpending,
    (hframe.mono (fun _ => id) (by simp)).trans (hall.mono (fun _ => id) (by simp))⟩
  exact (hcounts.2 _ (by decide)).trans (State.reg_store_same _ _ _ _ (hv.apply _) rfl)

theorem completes_aplRequestJudged_refuse (hs : s.Canon) {r : AplReq} (hr : s.apl.pendingReq = some r) {code : Nat}
    (hcode : code = s.judge r.rect (rangeInDram r.buf ((rectKH r.rect + 1) * rowSize r.rect) &&
        !s.badRange r.buf ((rectKH r.rect + 1) * rowSize r.rect))) (h0 : code ≠ 0) (h3 : code ≠ 3) :
    Completes .aplRequestJudged s (fun t =>
        t.apl = { s.apl with pendingReq := none } ∧ t.fld F.APL_REQ_RESULT_STATUS = code ∧
        t.fld F.APL_REQ_RESULT_PENDING = 0 ∧ Pended 410 s t ∧
        Frame [.apl, .ctl, .freeCount] [R.APL_REQ_RESULT] s t) := by
  refine ⟨_, exec_aplRequestJudged hr hcode, ?_⟩
  obtain ⟨hapl, hstatus, hpending, hframe⟩ := run_takeVerdict hs (code := code) (hcode ▸ judge_lt _ _)
  generalize (takeVerdict code).run s = v at *
  rw [actOnVerdict, if_neg h0, Prog.run_seq, Prog.run_when, if_neg (by simp [h3])]
  exact ⟨hapl, hstatus, hpending, pended_run_raise 410 hframe (by decide) (by decide),
    (hframe.mono (by simp) fun _ => id).trans (((Prog.does_raise v 410).2 (by decide)).frame_noRegs.mono (fun _ => id) (by simp))⟩

theorem completes_aplRequestStart (hs : s.Canon) {r : AplReq} (hopen : s.linesOpen = true) (hwriting : s.apl.writing = none)
    (hrestore : s.apl.restore = none) (hr : s.apl.queue.find? s.canStart = some r) : Completes .aplRequestStart s (fun t =>
        t.apl = { s.apl with
          writing := some r, writeTries := 0
          journal := if s.apl.slot < 128 then s.apl.journal else s.apl.journal.set (1 - s.apl.half) erasedHalf } ∧
        t.fld F.APL_STATUS_JOURNAL_BUSY = 1 ∧ Frame [.apl] [R.APL_STATUS] s t) := by
  let p : Prog := .seq (.act (.apl (fun a => { a with
    writing := some r, writeTries := 0
    journal := if a.slot < 128 then a.journal else a.journal.set (1 - a.half) erasedHalf }))) aplCounts
  have hrun : exec .aplRequestStart s = .next (p.run s) := by
    show Host.Outcome.next _ = _
    rw [Prog.run_guard, if_pos (by simp [hopen, hwriting, hrestore]), Prog.run_dyn, hr]
  refine ⟨_, hrun, rfl, ?_, (Prog.frame _ _ p ⟨.head _, aplCounts_within⟩ s hs).2⟩
  exact Prog.run_setFld_same F.APL_STATUS_JOURNAL_BUSY 1 _ (((hs.apply _).run _).run _) (by decide) (by decide)

theorem completes_aplRequestStart_none (hnone : s.apl.queue.find? s.canStart = none) :
    Completes .aplRequestStart s (fun t => t = s) := by
  refine ⟨_, rfl, ?_⟩
  rw [Prog.run_guard]
  split
  · rw [Prog.run_dyn, hnone]
    rfl
  · rfl

/-- Settles O30, clause by clause. -/
theorem apertureRequests : Obligations.ApertureRequests := by
  unfold Obligations.ApertureRequests
  intro s hinv
  have hs := hinv.canon
  exact ⟨completes_aplRequestGo hs, completes_aplRequestGo_overrun hs,
    fun r hr => ⟨completes_aplRequestJudged_accept hs hr, completes_aplRequestJudged_refuse hs hr rfl⟩,
    fun r => completes_aplRequestStart hs, completes_aplRequestStart_none⟩

/-! ### Lines (R330 to R340) -/

/-- What a line boundary leaves of the aperture: the image, the journal's request, the requests and the restore. -/
def State.requests (s : State) : BitVec 32768 × Option AplReq × List AplReq × List AplReq × BitVec 128 × Option Nat × Word × Word :=
  (s.apl.mask, s.apl.writing, s.apl.flight, s.apl.queue, s.apl.pol, s.apl.restore, s.apl.nextSeq, s.apl.restoreInfo)

theorem requests_eq {s t : State} (h : t.requests = s.requests) : t.apl.mask = s.apl.mask ∧ t.apl.writing = s.apl.writing ∧
    t.apl.flight = s.apl.flight ∧ t.apl.queue = s.apl.queue ∧ t.apl.pol = s.apl.pol ∧ t.apl.restore = s.apl.restore ∧
    t.apl.nextSeq = s.apl.nextSeq ∧ t.apl.restoreInfo = s.apl.restoreInfo := by
  simpa [State.requests] using h

theorem runLine_requests : runLine.Keeps State.requests := by
  intro s _
  rw [runLine, Prog.run_dyn]
  dsimp only
  split
  · rfl
  · split <;> rfl

theorem aplTempProg_requests (t : Time) : (aplTempProg t).Keeps State.requests := by
  intro s _
  rw [aplTempProg, Prog.run_dyn]
  split <;> rfl

theorem lineBoundary_requests (t : Time) : (lineBoundary t).Keeps State.requests := by
  intro s hs
  rw [lineBoundary, Prog.run_dyn]
  dsimp only
  split
  · rfl
  · split
    · exact Prog.keeps_ite (q := .nil) (fun _ _ _ => rfl) (fun _ => Prog.keeps_nil) s hs
    · refine Prog.keeps_seq (aplTempProg_requests t) (Prog.keeps_seq (fun _ _ => rfl) (Prog.keeps_seq ?_ Prog.keeps_nil)) s hs
      exact Prog.keeps_ite (fun _ => runLine_requests) fun _ _ _ => rfl

/-- The registers that a line boundary may change. -/
def boundaryRegs : List Nat := [R.APL_STATUS, R.APL_TEMP]

theorem runLine_within : runLine.Only (Act.Within [.apl, .pins, .out, .ctl] boundaryRegs) := by
  intro s
  dsimp only
  split
  · simp [startWave, latchLevels, Act.Within, boundaryRegs, F.APL_STATUS_BAND]
  · split
    · trivial
    · simp [startWave, latchLevels, Act.Within, boundaryRegs, F.APL_STATUS_BAND]

theorem aplTempProg_within (t : Time) : (aplTempProg t).Only (Act.Within [.apl, .pins, .out, .ctl] boundaryRegs) := by
  intro s
  dsimp only
  split <;> simp [boundaryRegs, F.APL_STATUS_TEMP_VALID, F.APL_TEMP_T, F.APL_TEMP_SRC]

theorem lineBoundary_within (t : Time) : (lineBoundary t).Only (Act.Within [.apl, .pins, .out, .ctl] boundaryRegs) := by
  intro s
  dsimp only
  split
  · trivial
  · split
    · simp [Act.Within, boundaryRegs, F.APL_STATUS_TEMP_VALID]
    · simp [aplTempProg_within, runLine_within, Act.Within]

theorem completes_journalWriteDone (hs : s.Canon) {r : AplReq} (stamp : Time) (hr : s.apl.writing = some r) :
    Completes (.journalWriteDone true stamp) s (fun t =>
      t.apl.mask = writeRect s.apl.mask r.rect r.bits ∧ t.apl.writing = none ∧
      t.apl.flight = s.apl.flight ++ [{ r with next := 0 }] ∧
      t.apl.queue = s.apl.queue.filter (fun x => x.seq != r.seq)) := by
  let u := (Act.apl (fun a => { a.record r with
    writing := none, writeTries := 0, queue := a.queue.filter (fun x => x.seq != r.seq)
    flight := a.flight ++ [{ r with next := 0 }] })).apply s
  have hrun : exec (.journalWriteDone true stamp) s = .next ((lineBoundary stamp).run (aplCounts.run u)) := by
    show Host.Outcome.next _ = _
    rw [Prog.run_dyn, hr]
    rfl
  obtain ⟨hmask, hwriting, hflight, hqueue, -⟩ := requests_eq ((lineBoundary_requests stamp).run ((hs.apply _).run aplCounts))
  refine ⟨_, hrun, hmask.trans ?_, hwriting, hflight, hqueue⟩
  show (s.apl.record r).mask = _
  unfold Apl.record
  split <;> rfl

theorem completes_journalWriteDone_again {r : AplReq} (stamp : Time) (hr : s.apl.writing = some r) (htries : s.apl.writeTries = 0) :
    Completes (.journalWriteDone false stamp) s (fun t => t.apl = { s.apl with writeTries := 1 } ∧ Frame [.apl] [] s t) := by
  have hrun : exec (.journalWriteDone false stamp) s = .next ((Act.apl (fun a => { a with writeTries := 1 })).apply s) := by
    show Host.Outcome.next _ = _
    rw [Prog.run_dyn, hr]
    dsimp only
    rw [if_neg (by decide), if_pos htries]
    rfl
  exact ⟨_, hrun, rfl, Act.frame_noRegs (a := .apl _) (.head _) s⟩

/-- What the end of a line does before the next boundary: the line's last phases, and its request or the restore. -/
def lineEnded (s : State) (stamp : Time) : Prog :=
  match s.apl.line with
  | some seq => requestLineDone seq stamp
  | none => match s.apl.restore with
    | some n => if n + 1 < 256 then .act (.apl (fun a => { a with restore := some (n + 1) })) else restoreDone stamp
    | none => .nil

/-- The outputs at the end of a line. -/
def lineQuiet : Prog := .seq (.act (.apl (fun a => { a with lineIdle := true, line := none }))) endWave

theorem exec_aplLineEnd (stamp : Time) (hbusy : s.apl.lineIdle = false) :
    exec (.aplLineEnd stamp) s = .next ((lineBoundary stamp).run ((lineEnded s stamp).run (lineQuiet.run s))) := by
  show Host.Outcome.next _ = _
  rw [Prog.run_guard, if_pos (by simp [hbusy]), Prog.run_dyn]
  rfl

theorem lineQuiet_requests : lineQuiet.Keeps State.requests := by
  have hlatch (l : List Nat) : (latchLevels l).Keeps State.requests := fun _ _ => rfl
  refine Prog.keeps_seq (fun _ _ => rfl) fun s hs => ?_
  rw [endWave, Prog.run_dyn]
  refine Prog.keeps_seq ?_ (Prog.keeps_seq (fun _ _ => rfl) (hlatch [])) s hs
  split
  · exact Prog.keeps_each fun _ _ => hlatch _
  · exact Prog.keeps_nil

/-- A line of a request ends (R331, R339, R340). -/
theorem run_requestLineDone (hs : s.Canon) {r : AplReq} (stamp : Time) (hr : s.apl.flight.find? (fun x => x.seq == r.seq) = some r) :
    let t := (requestLineDone r.seq stamp).run s
    t.apl.pol = s.apl.pol ^^^ (1#128 <<< (rectK0 r.rect + r.next)) ∧
      (r.next < rectKH r.rect → t.apl.flight =
        s.apl.flight.map (fun x => if x.seq == r.seq then { x with next := x.next + 1 } else x)) ∧
      (rectKH r.rect ≤ r.next → t.apl.flight = s.apl.flight.filter (fun x => x.seq != r.seq) ∧ t.reg R.APL_DONE_SEQ = r.seq) := by
  rw [requestLineDone, Prog.run_dyn, hr]
  dsimp only
  by_cases hlast : r.next < rectKH r.rect
  · rw [if_pos hlast]
    exact ⟨rfl, fun _ => rfl, fun h => absurd hlast (not_lt.2 h)⟩
  · rw [if_neg hlast]
    refine ⟨rfl, fun h => absurd h hlast, fun _ => ⟨rfl, ?_⟩⟩
    have hdone (u : State) (hu : u.Canon) : ((Prog.block [.setReg R.APL_DONE_SEQ r.seq, aplCounts, .raiseAt 408 stamp]).run u).reg
        R.APL_DONE_SEQ = r.seq := by
      have hv := hu.run (.setReg R.APL_DONE_SEQ r.seq)
      have hstored : ((Prog.setReg R.APL_DONE_SEQ r.seq).run u).reg R.APL_DONE_SEQ = r.seq := State.reg_store_same _ _ _ _ hu rfl
      rw [Prog.run_block_cons, Prog.run_block_cons]
      generalize (Prog.setReg R.APL_DONE_SEQ r.seq).run u = v at *
      exact ((Prog.frame _ _ _ (aplCounts_within (parts := [])) v hv).2.2 R.APL_DONE_SEQ (by decide)).trans hstored
    exact hdone _ ((hs.apply _).apply _)

theorem completes_aplLineEnd_request (hs : s.Canon) {r : AplReq} (stamp : Time) (hbusy : s.apl.lineIdle = false)
    (hline : s.apl.line = some r.seq) (hr : s.apl.flight.find? (fun x => x.seq == r.seq) = some r) :
    Completes (.aplLineEnd stamp) s (fun t =>
      t.apl.pol = s.apl.pol ^^^ (1#128 <<< (rectK0 r.rect + r.next)) ∧
      (r.next < rectKH r.rect → t.apl.flight =
        s.apl.flight.map (fun x => if x.seq == r.seq then { x with next := x.next + 1 } else x)) ∧
      (rectKH r.rect ≤ r.next → t.apl.flight = s.apl.flight.filter (fun x => x.seq != r.seq) ∧ t.reg R.APL_DONE_SEQ = r.seq)) := by
  refine ⟨_, exec_aplLineEnd stamp hbusy, ?_⟩
  obtain ⟨-, -, hflight, -, hpol, -⟩ := requests_eq (lineQuiet_requests.run hs)
  have hv := hs.run lineQuiet
  generalize lineQuiet.run s = v at *
  rw [lineEnded, hline]
  dsimp only
  obtain ⟨hpol', hmore, hdone⟩ := run_requestLineDone hv stamp (hflight ▸ hr)
  have hw := hv.run (requestLineDone r.seq stamp)
  generalize (requestLineDone r.seq stamp).run v = w at *
  obtain ⟨-, -, hflight', -, hpol'', -⟩ := requests_eq ((lineBoundary_requests stamp).run hw)
  have hregs := (Prog.frame _ _ _ (lineBoundary_within stamp) w hw).2
  rw [hflight', hpol'', hregs.2 R.APL_DONE_SEQ (by decide), ← hpol, ← hflight]
  exact ⟨hpol', hmore, hdone⟩

theorem completes_aplLineEnd_restore (hs : s.Canon) {n : Nat} (stamp : Time) (hbusy : s.apl.lineIdle = false)
    (hline : s.apl.line = none) (hrestore : s.apl.restore = some n) (hn : n + 1 < 256) :
    Completes (.aplLineEnd stamp) s (fun t => t.apl.restore = some (n + 1)) := by
  refine ⟨_, exec_aplLineEnd stamp hbusy, ?_⟩
  have hended : lineEnded s stamp = .act (.apl (fun a => { a with restore := some (n + 1) })) := by
    simp [lineEnded, hline, hrestore, hn]
  rw [hended]
  obtain ⟨-, -, -, -, -, hrestore', -⟩ := requests_eq ((lineBoundary_requests stamp).run ((hs.run lineQuiet).apply _))
  exact hrestore'

/-- The line `n` of a restore (R344). -/
def State.restoreWave (s : State) (n : Nat) : AplWave where
  common := n % 128
  pol := if n < 128 then 1 else -1
  seg := 0
  cells := cellList 256 (s.apl.mask.toNat / 2 ^ (256 * (n % 128)) % 2 ^ 256)

/-- The line of a restore starts (R329, R334, R344). -/
theorem completes_aplRefSettled (hs : s.Canon) {n : Nat} (stamp : Time) (hsettling : s.apl.settling = true)
    (hrestore : s.apl.restore = some n) (hopen : s.linesOpen = true) :
    Completes (.aplRefSettled stamp) s (fun t =>
      t.apl.settling = false ∧ t.apl.lineIdle = false ∧ t.fld F.APL_STATUS_BAND = s.apl.band % 8 ∧
      t.apl.wave = some (s.restoreWave n) ∧ t.pins.aplOut = (s.restoreWave n).levels 1 ∧
      t.out = .aplPhase (chainBits ((s.restoreWave n).levels 1)) :: s.out ∧ Frame [.apl, .pins, .out] [R.APL_STATUS] s t) := by
  let u := (Act.apl (fun a => { a with settling := false })).apply s
  have hopen' : u.linesOpen = true := hopen
  have hrun : exec (.aplRefSettled stamp) s = .next (runLine.run u) := by
    show Host.Outcome.next _ = _
    rw [Prog.run_guard, if_pos hsettling, Prog.run_seq, Prog.run_dyn]
    show Host.Outcome.next ((if u.apl.restore.isNone && u.apl.flight.isEmpty then Prog.nil else if u.linesOpen then runLine
      else lineBoundary stamp).run u) = _
    rw [if_neg (by simp [u, Act.apply, hrestore]), if_pos hopen']
  let p (x : AplWave) : Prog := .block [.act (.apl (fun a => { a with lineIdle := false, line := none })),
    .setFld F.APL_STATUS_BAND s.apl.band, startWave x]
  have hline : runLine.run u = (p (s.restoreWave n)).run u := by
    have hu : u.apl.restore = some n := hrestore
    rw [runLine, Prog.run_dyn, hu]
    rfl
  rw [hline] at hrun
  refine ⟨_, hrun, rfl, rfl, ?_, rfl, rfl, rfl, ?_⟩
  · exact Prog.run_setFld_same F.APL_STATUS_BAND s.apl.band _ ((hs.apply _).apply _) (by decide) (by decide)
  · exact ((Act.frame_noRegs (a := .apl _) (.head _) s).mono (fun _ => id) (by simp)).trans
      (Prog.frame _ _ (p _) (by simp [p, startWave, latchLevels, Act.Within, F.APL_STATUS_BAND]) u (hs.apply _)).2

/-- Settles O31, clause by clause. -/
theorem apertureJournalAndLines : Obligations.ApertureJournalAndLines := by
  unfold Obligations.ApertureJournalAndLines
  intro s r stamp hinv
  have hs := hinv.canon
  exact ⟨completes_journalWriteDone hs stamp, completes_journalWriteDone_again stamp, completes_aplLineEnd_request hs stamp,
    fun _ => completes_aplLineEnd_restore hs stamp, fun _ hsettling hrestore hopen => completes_aplRefSettled hs stamp hsettling hrestore hopen⟩

/-! ### Enabling, tile power and faults (R341, R343 to R345) -/

theorem completes_aplEnableWrite_off (hs : s.Canon) (stamp : Time) :
    Completes (.aplEnableWrite false stamp) s (fun t => t.fld F.APL_CTRL_ENABLE = 0 ∧ Frame [] [R.APL_CTRL] s t) :=
  ⟨(Prog.setFld F.APL_CTRL_ENABLE 0).run s, rfl, Prog.run_setFld_same F.APL_CTRL_ENABLE 0 s hs (by decide) (by decide),
    Prog.Does.frame ((Prog.does_setFld _ _ _).2 (.head _)) hs⟩

theorem completes_aplEnableWrite_on (hs : s.Canon) {m : BitVec 32768} (stamp : Time) (hoff : s.flag F.APL_CTRL_ENABLE = false)
    (hrestored : s.flag F.APL_STATUS_RESTORED = false) (hrestore : s.apl.restore = none) (hhalf : s.apl.restoreHalf = none)
    (hm : s.apl.initialMask = some m) : Completes (.aplEnableWrite true stamp) s (fun t =>
      t.fld F.APL_CTRL_ENABLE = 1 ∧ t.apl.mask = m ∧ t.apl.restore = some 0 ∧ t.apl.nextSeq = 1 ∧
      t.apl.restoreInfo = 0x80000000) := by
  let u := (Prog.setFld F.APL_CTRL_ENABLE 1).run s
  have hu : u.Canon := hs.run _
  have hrestored' : u.flag F.APL_STATUS_RESTORED = false := (State.flag_setFld_other _ _ _ _ hs (by decide) (by decide)).trans hrestored
  let v := (Act.apl (fun a => { a with
    mask := m
    journal := if a.stopped then a.journal
      else a.journal.set 0 (erasedHalf.set 0 (journalBytes 1 0 wholeMask 0 (maskBytes m)))
    half := 0, slot := 1, nextSeq := 1, restore := some 0, restoreAt := stamp, restoreSeq := 0
    restoreInfo := 0x80000000 })).apply u
  have hrun : exec (.aplEnableWrite true stamp) s = .next ((lineBoundary stamp).run v) := by
    have hhalf' : u.apl.restoreHalf = none := hhalf
    have hm' : u.apl.initialMask = some m := hm
    show Host.Outcome.next _ = _
    rw [aplEnable, Prog.run_dyn, if_neg (by decide), if_neg (by simp [hoff]), if_neg (by simp [hrestored, hrestore]), Prog.run_seq,
      restoreProg, Prog.run_dyn, hhalf']
    dsimp only
    rw [hm']
    rfl
  obtain ⟨hmask, -, -, -, -, hrestore', hseq, hinfo⟩ := requests_eq ((lineBoundary_requests stamp).run (s := v) (hu.apply _))
  refine ⟨_, hrun, ?_, hmask, hrestore', hseq, hinfo⟩
  have hframe := (Prog.frame _ _ _ (lineBoundary_within stamp) v (hu.apply _)).2
  exact (hframe.fld F.APL_CTRL_ENABLE (by decide)).trans (Prog.run_setFld_same F.APL_CTRL_ENABLE 1 s hs (by decide) (by decide))

theorem completes_tilePowerFail_short {n : Nat} (hn : n < 1000) : Completes (.tilePowerFail n) s (fun t => t = s) := by
  refine ⟨_, rfl, ?_⟩
  rw [Prog.run_when, if_neg (by simpa using hn)]

theorem completes_tilePowerFail {n : Nat} (hbist : s.hkp.bist = none) (hn : 1000 ≤ n) : Completes (.tilePowerFail n) s (fun t =>
      t.apl = { s.apl with stopped := true } ∧ t.pins.tilePg = false ∧
      t.pins.aplOut = (if s.apl.lineIdle then [] else s.pins.aplOut) ∧ Frame [.apl, .pins] [] s t) := by
  let u := (Act.pins (fun p => { p with tilePg := false })).apply ((Act.apl (fun a => { a with stopped := true })).apply s)
  let v := if s.apl.lineIdle then (Act.pins (fun p => { p with aplOut := [] })).apply u else u
  have hbist' : v.hkp = s.hkp := by
    unfold v
    split <;> rfl
  have hrun : exec (.tilePowerFail n) s = .next v := by
    show Host.Outcome.next _ = _
    have hstop : (bistStop true).run v = v := by
      rw [bistStop, Prog.run_dyn, Prog.run_when, hbist', hbist]
      rfl
    rw [Prog.run_when, if_pos (by simpa using hn), Prog.run_block_cons, Prog.run_block_cons, Prog.run_block_cons, Prog.run_guard]
    exact congrArg _ hstop
  have hframe : Frame [.apl, .pins] [] s u := Frame.trans (Act.frame_noRegs (a := .apl _) (.head _) s)
    (Act.frame_noRegs (a := .pins _) (.tail _ (.head _)) _)
  refine ⟨v, hrun, ?_⟩
  unfold v
  split
  · exact ⟨rfl, rfl, rfl, hframe.trans (Act.frame_noRegs (a := .pins _) (.tail _ (.head _)) u)⟩
  · exact ⟨rfl, rfl, rfl, hframe⟩

theorem completes_aplDriverFault_short {n : Nat} (hn : n < 10000) : Completes (.aplDriverFault n) s (fun t => t = s) := by
  refine ⟨_, rfl, ?_⟩
  rw [Prog.run_when, if_neg (by simpa using hn)]

/-- A condition of the aperture takes the node into FAULT under its code (R345, Table 11.7). -/
theorem run_aplFault (hs : s.Canon) (hno : s.NoTrial) (hnode : s.node = .sapling ∨ s.node = .member)
    (hvalid : s.flag F.HKP_FAULT_VALID = false) {code : Nat} (hcode : code < 16) : let t := (aplFault code).run s
    t.node = .fault ∧ t.fld F.HKP_FAULT_CODE = 0x10 + code ∧ t.fld F.HKP_FAULT_BLOCK = 0x19 ∧
      t.fld F.APL_STATUS_FAULT_CODE = code := by
  let u := (Act.free 1).apply ((Prog.setFld F.APL_STATUS_FAULT_CODE code).run s)
  have hu : u.Canon := (hs.run _).apply _
  have hrun : (aplFault code).run s =
      (enterFault 0x19 0x0B (0x10 + code) (Config.freeWord s.freeCount).toNat).run u := rfl
  have hvalid' : u.flag F.HKP_FAULT_VALID = false :=
    (State.flag_setFld_other F.APL_STATUS_FAULT_CODE _ code s hs (by decide) (by decide)).trans hvalid
  obtain ⟨hfault, -, hcause⟩ := enterFault_enters hu hnode hno 0x19 0x0B (0x10 + code) (Config.freeWord s.freeCount).toNat
  obtain ⟨hcode', hblock, -⟩ := hcause hvalid'
  intro t
  rw [show t = _ from hrun]
  refine ⟨hfault, hcode'.trans (by omega), hblock, (enterFault_aplCode hu hnode hno _ _ _ _).trans ?_⟩
  exact (Prog.run_setFld_same F.APL_STATUS_FAULT_CODE code s hs (by decide) (by decide)).trans (Nat.mod_eq_of_lt hcode)

/-- Settles O32, clause by clause. -/
theorem apertureEnablesAndFails : Obligations.ApertureEnablesAndFails := by
  unfold Obligations.ApertureEnablesAndFails
  intro s stamp hinv
  have hs := hinv.canon
  refine ⟨completes_aplEnableWrite_off hs stamp, fun _ => completes_aplEnableWrite_on hs stamp, fun _ => completes_tilePowerFail_short,
    fun _ => completes_tilePowerFail, fun _ => completes_aplDriverFault_short, fun hno hnode hvalid => ⟨fun n hn => ?_,
      fun hrestore hidle hsettled => ?_⟩⟩
  · refine ⟨_, ?_, run_aplFault hs hno hnode hvalid (code := 1) (by decide)⟩
    show Host.Outcome.next _ = _
    rw [Prog.run_when, if_pos (by simpa using hn)]
  · obtain ⟨hfault, hcode, hblock, -⟩ := run_aplFault hs hno hnode hvalid (code := 3) (by decide)
    refine ⟨_, ?_, hfault, hcode, hblock⟩
    show Host.Outcome.next _ = _
    rw [Prog.run_guard, if_pos (by simp [hrestore, hidle, hsettled])]

end Sys2Proof.Machine
end

section
/-! PROOF. Layer commits and latches, the flattened cache, retirement and the end of the slate (R237, R242 to R249, R254). -/

namespace Sys2Proof.Machine

variable {s : State}

/-! ### The cache's status -/

theorem cacheStatus_within {parts : List Part} : cacheStatus.Only (Act.Within parts [R.LYR_STATUS]) := by
  intro s
  simp [F.LYR_STATUS_CACHED, F.LYR_STATUS_FLATTEN_BUSY]

theorem freeSlots_within : freeSlots.Only (Act.Within [.lyr] [R.LYR_STATUS]) := fun _ => ⟨.head _, cacheStatus_within⟩

/-- What the freeing of cache slots leaves of the layers. -/
theorem freeSlots_keeps : freeSlots.Keeps (fun s => (s.lyr.held, s.lyr.applied)) := fun _ _ => rfl

theorem cacheStatus_keeps_held : cacheStatus.Keeps (fun s => s.fld F.LYR_STATUS_HELD) := by
  simp +decide [cacheStatus]

/-! ### Commits (R237, R243) -/

theorem completes_layerCommitGo (hs : s.Canon) (hawake : s.Awake) (stamp : Time)
    (hgood : setFault ((List.range 8).map s.liveDesc) = none) : Completes (.layerCommitGo stamp) s (fun t =>
      t.lyr.held = some { descs := (List.range 8).map s.liveDesc, target := s.reg R.LYR_TARGET_FSN, stamp := stamp } ∧
      t.fld F.LYR_STATUS_HELD = 1 ∧ t.lyr.applied = s.lyr.applied ∧ Frame [.lyr] [R.LYR_STATUS] s t) := by
  let held : HeldCommit := { descs := (List.range 8).map s.liveDesc, target := s.reg R.LYR_TARGET_FSN, stamp := stamp }
  let place : Prog := .act (.lyr (fun l => { l with cache := (staticGroups held.descs).foldl (fun c g => placeGroup g c) l.cache }))
  let last : Prog := .block [freeSlots, place, cacheStatus]
  let u := (Prog.setFld F.LYR_STATUS_HELD 1).run ((Act.lyr (fun l => { l with held := some held })).apply s)
  have hu : u.Canon := (hs.apply _).run _
  have hrun : exec (.layerCommitGo stamp) s = .next (last.run u) := by
    refine (congrArg _ (Prog.go_awake _ s hawake)).trans ?_
    rw [layerCommitProg, Prog.run_dyn]
    simp only [hgood]
    rfl
  have hlast : last.Keeps (fun s => (s.lyr.held, s.lyr.applied)) :=
    Prog.keeps_seq freeSlots_keeps (Prog.keeps_seq (fun _ _ => rfl) (Prog.keeps_seq (fun _ _ => rfl) Prog.keeps_nil))
  have hflag : last.Keeps (fun s => s.fld F.LYR_STATUS_HELD) :=
    Prog.keeps_seq (fun v hv => cacheStatus_keeps_held _ (hv.apply _)) (Prog.keeps_seq (fun _ _ => rfl)
      (Prog.keeps_seq cacheStatus_keeps_held Prog.keeps_nil))
  have hset := Prog.run_setFld_same F.LYR_STATUS_HELD 1 _ (hs.apply (.lyr (fun l => { l with held := some held }))) (by decide) (by decide)
  have hfirst : Frame [.lyr] [R.LYR_STATUS] s u :=
    (Prog.frame _ _ (.seq (.act (.lyr _)) (.setFld F.LYR_STATUS_HELD 1)) ⟨.head _, fun _ => .head _⟩ s hs).2
  have hrest := (Prog.frame _ _ last ⟨freeSlots_within, .head _, cacheStatus_within, trivial⟩ u hu).2
  have hobs := hlast.run hu
  exact ⟨_, hrun, (congrArg Prod.fst hobs :), (hflag.run hu).trans hset, (congrArg Prod.snd hobs :), hfirst.trans hrest⟩

/-- What a faulty set leaves in LYR_STATUS (Table 8.8). -/
def rejectSet (f : Nat × Nat) : Prog :=
  .block [.setFld F.LYR_STATUS_REJECT 1, .setFld F.LYR_STATUS_REJ_LAYER f.1, .setFld F.LYR_STATUS_REJ_WORD f.2]

theorem fld_rejectSet (hs : s.Canon) {f : Nat × Nat} (hlayer : f.1 < 8) (hword : f.2 < 16) : let t := (rejectSet f).run s
    t.fld F.LYR_STATUS_REJECT = 1 ∧ t.fld F.LYR_STATUS_REJ_LAYER = f.1 ∧ t.fld F.LYR_STATUS_REJ_WORD = f.2 := by
  have hreject := State.fld_setFld_same F.LYR_STATUS_REJECT 1 s hs (by decide)
  have h1 := hs.run (.setFld F.LYR_STATUS_REJECT 1)
  rw [rejectSet, Prog.run_block_cons, Prog.run_block_cons, Prog.run_block_cons, Prog.run_block_nil]
  generalize (Prog.setFld F.LYR_STATUS_REJECT 1).run s = u at *
  have hlayers := State.fld_setFld_same F.LYR_STATUS_REJ_LAYER f.1 u h1 (by decide)
  have hkeep := State.fld_setFld_other F.LYR_STATUS_REJ_LAYER F.LYR_STATUS_REJECT f.1 u h1 (by decide) (by decide)
  have h2 := h1.run (.setFld F.LYR_STATUS_REJ_LAYER f.1)
  generalize (Prog.setFld F.LYR_STATUS_REJ_LAYER f.1).run u = v at *
  refine ⟨?_, ?_, ?_⟩
  · rw [State.fld_setFld_other _ _ _ _ h2 (by decide) (by decide), hkeep, hreject]
    rfl
  · rw [State.fld_setFld_other _ _ _ _ h2 (by decide) (by decide), hlayers]
    exact Nat.mod_eq_of_lt hlayer
  · rw [State.fld_setFld_same _ _ _ h2 (by decide)]
    exact Nat.mod_eq_of_lt hword

theorem completes_layerCommitGo_reject (hs : s.Canon) (hawake : s.Awake) (stamp : Time) {f : Nat × Nat}
    (hbad : setFault ((List.range 8).map s.liveDesc) = some f) (hlayer : f.1 < 8) (hword : f.2 < 16) :
    Completes (.layerCommitGo stamp) s (fun t =>
      t.lyr = s.lyr ∧ t.fld F.LYR_STATUS_REJECT = 1 ∧ t.fld F.LYR_STATUS_REJ_LAYER = f.1 ∧
      t.fld F.LYR_STATUS_REJ_WORD = f.2 ∧ Pended 274 s t ∧ Frame [.ctl] [R.LYR_STATUS] s t) := by
  have hrun : exec (.layerCommitGo stamp) s = .next ((Prog.raiseAt 274 stamp).run ((rejectSet f).run s)) := by
    refine (congrArg _ (Prog.go_awake _ s hawake)).trans ?_
    rw [layerCommitProg, Prog.run_dyn]
    simp only [hbad, rejectSet, Prog.run_block_cons, Prog.run_block_nil]
  have hframe : Frame [] [R.LYR_STATUS] s ((rejectSet f).run s) :=
    (Prog.frame _ _ (rejectSet f) ⟨fun _ => .head _, fun _ => .head _, fun _ => .head _, trivial⟩ s hs).2
  obtain ⟨hreject, hlayers, hwords⟩ := fld_rejectSet hs hlayer hword
  have hlyr : ((rejectSet f).run s).lyr = s.lyr := hframe.1 .lyr (by decide) (by decide)
  generalize (rejectSet f).run s = u at *
  have hlast := frame_raiseAt 274 stamp u
  exact ⟨_, hrun, Eq.trans (hlast.1 .lyr (by decide) (by decide)) hlyr, (hlast.fld _ List.not_mem_nil).trans hreject,
    (hlast.fld _ List.not_mem_nil).trans hlayers, (hlast.fld _ List.not_mem_nil).trans hwords,
    hframe.pended_raiseAt stamp (by decide) (by decide), (hframe.mono (by simp) fun _ => id).trans (hlast.mono (fun _ => id) (by simp))⟩

/-! ### Latches (R244, R247) -/

theorem find?_modLatched {n : Fsn} {g : Latched → Latched} (hg : ∀ l, (g l).fsn = l.fsn) (m : Fsn) :
    ((modLatched n g).run s).pdl.frames.find? (fun l => l.fsn == m) =
      (s.pdl.frames.find? (fun l => l.fsn == m)).map (fun l => if l.fsn == n then g l else l) := by
  show (List.map _ s.pdl.frames).find? _ = _
  rw [List.find?_map]
  congr 2
  funext l
  simp only [Function.comp]
  split
  · rw [hg]
  · rfl

theorem latched_modLatched_other {n m : Fsn} {g : Latched → Latched} (hg : ∀ l, (g l).fsn = l.fsn) (h : m ≠ n) :
    ((modLatched n g).run s).latched m = s.latched m := by
  rw [State.latched, find?_modLatched hg, State.latched]
  cases hl : s.pdl.frames.find? (fun l => l.fsn == m) with
  | none => rfl
  | some l =>
    have hm : l.fsn = m := by simpa using List.find?_some hl
    simp [hm, h]

theorem latched_modLatched_same {n : Fsn} {g : Latched → Latched} (hg : ∀ l, (g l).fsn = l.fsn)
    (h : s.pdl.frames.any (fun l => l.fsn == n) = true) : ((modLatched n g).run s).latched n = g (s.latched n) := by
  rw [State.latched, find?_modLatched hg, State.latched]
  obtain ⟨l, hl⟩ := Option.isSome_iff_exists.1 (List.find?_isSome.2 (by simpa using h) :
    (s.pdl.frames.find? (fun l => l.fsn == n)).isSome = true)
  have hn : l.fsn = n := by simpa using List.find?_some hl
  simp [hl, hn]

/-- A frame that has no record gets one; the others keep theirs. -/
theorem run_needLatched (n : Fsn) : let t := (needLatched n).run s
    t.pdl.frames.any (fun l => l.fsn == n) = true ∧ (∀ m, m ≠ n → t.latched m = s.latched m) ∧ t.lyr = s.lyr ∧
      Frame [.pdl] [] s t := by
  rw [needLatched, Prog.run_dyn]
  by_cases h : s.pdl.frames.any (fun l => l.fsn == n) = true
  · rw [if_pos h]
    exact ⟨h, fun _ _ => rfl, rfl, Frame.refl _ _ _⟩
  · rw [if_neg h]
    refine ⟨?_, fun m hm => ?_, rfl, Act.frame_noRegs (a := .pdl _) (.head _) s⟩
    · show (s.pdl.frames ++ [_]).any _ = true
      simp
    · show ((s.pdl.frames ++ [_]).find? _).getD _ = _
      rw [List.find?_append, List.find?_singleton, if_neg (by simpa using hm.symm), Option.or_none]
      rfl

theorem latched_congr {s t : State} (h : t.pdl = s.pdl) (n : Fsn) : t.latched n = s.latched n := by
  rw [State.latched, h, State.latched]

theorem completes_layerLatch (hs : s.Canon) (hawake : s.Awake) {fsn : Fsn} (hnew : (s.latched fsn).layersLatched = false)
    (hnode : s.node ≠ .fault) (hheld : s.lyr.held = none) : Completes (.layerLatch fsn) s (fun t =>
      (t.latched fsn).layers = s.lyr.applied ∧ (t.latched fsn).layersLatched = true ∧
      (∀ m, m ≠ fsn → t.latched m = s.latched m) ∧ Frame [.pdl, .lyr] [R.LYR_STATUS] s t) := by
  obtain ⟨hany, hother, hlyr, hneed⟩ := run_needLatched (s := s) fsn
  have hu := hs.run (needLatched fsn)
  have hrun : exec (.layerLatch fsn) s = .next (freeSlots.run ((modLatched fsn (fun l =>
      { l with layers := s.lyr.applied, layersLatched := true })).run ((needLatched fsn).run s))) := by
    refine (congrArg _ (Prog.go_awake _ s hawake)).trans ?_
    have hopen : (!(s.latched fsn).layersLatched && !s.frozen) = true := by simp [hnew, State.frozen, hnode]
    have hnone (v : State) (hv : v.lyr.held = none) : (applyCommit fsn).run v = v := by
      rw [applyCommit, Prog.run_dyn, hv]
      rfl
    rw [Prog.run_guard, if_pos hopen, Prog.run_block_cons, Prog.run_block_cons, hnone _ (by rw [hlyr]; exact hheld),
      Prog.run_block_cons, Prog.run_dyn, hlyr]
    rfl
  generalize (needLatched fsn).run s = u at *
  have hg (l : Latched) : ({ l with layers := s.lyr.applied, layersLatched := true } : Latched).fsn = l.fsn := rfl
  have hown := latched_modLatched_same (n := fsn) hg hany
  have hmod {m : Fsn} (hm : m ≠ fsn) := latched_modLatched_other (s := u) hg hm
  have hframe : Frame [.pdl] [] u ((modLatched fsn (fun l => { l with layers := s.lyr.applied, layersLatched := true })).run u) :=
    Act.frame_noRegs (a := .pdl _) (.head _) u
  have hv := hu.run (modLatched fsn (fun l => { l with layers := s.lyr.applied, layersLatched := true }))
  generalize (modLatched fsn (fun l => { l with layers := s.lyr.applied, layersLatched := true })).run u = v at *
  have hfree := (Prog.frame _ _ _ freeSlots_within v hv).2
  have hlatched (m : Fsn) : (freeSlots.run v).latched m = v.latched m := latched_congr (hfree.1 .pdl (by decide) (by decide)) m
  refine ⟨_, hrun, ?_, ?_, fun m hm => ?_, ((hneed.trans hframe).mono (by simp) (by simp)).trans (hfree.mono (by simp) fun _ => id)⟩
  · rw [hlatched, hown]
  · rw [hlatched, hown]
  · rw [hlatched, hmod hm, hother m hm]

theorem completes_layerLatch_none {fsn : Fsn} (h : (s.latched fsn).layersLatched = true ∨ s.node = .fault) :
    Completes (.layerLatch fsn) s (fun t => t = s) := by
  have hexec : exec (.layerLatch fsn) s = execLayerLatch fsn s := rfl
  refine .of_go_self hexec ?_
  rw [Prog.run_guard, if_neg]
  rcases h with h | h <;> simp [h, State.frozen]

/-! ### The flattened cache, retirement and the slate (R242, R249, R254) -/

theorem completes_flattenDone (hinv : s.Inv) (hawake : s.Awake) {slot : Nat} (hslot : slot < s.lyr.cache.length)
    (hgroup : (s.lyr.cache.getD slot {}).group.isEmpty = false) (hready : (s.lyr.cache.getD slot {}).ready = false) :
    Completes (.flattenDone slot) s (fun t =>
      (t.lyr.cache.getD slot {}).ready = true ∧
      (∀ i (h : i < (s.flatBytes (s.lyr.cache.getD slot {}).group).length),
        Memory.read t.mem (s.cacheAddr + slot * 0x4000000 + i) = (s.flatBytes (s.lyr.cache.getD slot {}).group)[i]) ∧
      MemOutside (s.cacheAddr + slot * 0x4000000) (s.flatBytes (s.lyr.cache.getD slot {}).group).length s t ∧
      Frame [.mem, .lyr] [R.LYR_STATUS] s t) := by
  obtain ⟨hs, -, hmem, -⟩ := hinv
  let a := s.cacheAddr + slot * 0x4000000
  obtain ⟨bs, hbs⟩ : ∃ bs, bs = s.flatBytes (s.lyr.cache.getD slot {}).group := ⟨_, rfl⟩
  let p : Prog := .block [.act (.mem a bs),
    .act (.lyr (fun l => { l with cache := modAt l.cache slot (fun c => { c with ready := true }) })), cacheStatus]
  have hrun : exec (.flattenDone slot) s = .next (p.run s) := by
    refine (congrArg _ (Prog.go_awake _ s hawake)).trans ?_
    rw [Prog.run_dyn]
    dsimp only
    rw [if_neg (by simp only [hgroup, hready]; decide), ← hbs]
  have htmem : (p.run s).mem = Memory.writeBytes s.mem a bs := rfl
  rw [← hbs]
  refine ⟨_, hrun, ?_, fun i hi => ?_, fun c hc => ?_, (Prog.frame _ _ p ⟨.head _, .tail _ (.head _), cacheStatus_within, trivial⟩ s hs).2⟩
  · show ((modAt s.lyr.cache slot (fun c => { c with ready := true })).getD slot {}).ready = true
    rw [getD_modAt_same _ _ _ _ hslot]
  · rw [htmem]
    exact Memory.read_writeBytes_inside bs s.mem a i hmem hi
  · rw [htmem]
    exact Memory.read_writeBytes_outside bs s.mem a c hmem hc

theorem retireCheck_within : retireCheck.Only (Act.Within [.grv] [F.COL_STATUS_RETIRE_PENDING.off]) :=
  fun _ => ⟨.head _, fun _ => .head _⟩

theorem completes_frameRetired (hs : s.Canon) (hawake : s.Awake) {fsn : Fsn}
    (hany : s.pdl.frames.any (fun l => l.fsn == fsn && !l.retired) = true) (hlater : laterFsn fsn s.S = false)
    (hrect : s.rectOut fsn = false) (hbin : s.binOpen fsn = false) : Completes (.frameRetired fsn) s (fun t =>
      (∀ l ∈ t.pdl.frames, l.fsn = fsn → l.retired = true) ∧ t.reg R.LYR_RETIRED_FSN = fsn ∧ Pended 275 s t ∧
      Frame [.pdl, .lyr, .grv, .ctl, .freeCount] [R.LYR_RETIRED_FSN, R.LYR_STATUS, F.COL_STATUS_RETIRE_PENDING.off] s t) := by
  let first : Prog := .seq (modLatched fsn (fun l => { l with retired := true })) (.setReg R.LYR_RETIRED_FSN fsn)
  let last : Prog := .seq freeSlots retireCheck
  have hrun : exec (.frameRetired fsn) s = .next (last.run ((Prog.raise 275).run (first.run s))) := by
    refine (congrArg _ (Prog.go_awake _ s hawake)).trans ?_
    rw [Prog.run_guard, if_pos (by simp only [hany, hlater, hrect, hbin]; decide)]
    simp only [last, first, Prog.run_block_cons, Prog.run_block_nil, Prog.run_seq]
  have hfirst : Frame [.pdl] [R.LYR_RETIRED_FSN] s (first.run s) := (Prog.frame _ _ first ⟨.head _, .head _⟩ s hs).2
  have hframes : (first.run s).pdl.frames = s.pdl.frames.map (fun l => if l.fsn == fsn then { l with retired := true } else l) := rfl
  have hreg : (first.run s).reg R.LYR_RETIRED_FSN = fsn := State.reg_store_same _ _ _ _ (hs.apply _) rfl
  have hu := hs.run first
  generalize first.run s = u at *
  have hpend := pended_run_raise 275 hfirst (by decide) (by decide)
  have hraise : Frame [.ctl, .freeCount] [] u ((Prog.raise 275).run u) := ((Prog.does_raise u 275).2 (by decide)).frame_noRegs
  have hv := hu.run (Prog.raise 275)
  generalize (Prog.raise 275).run u = v at *
  have hlast : Frame [.lyr, .grv] [R.LYR_STATUS, F.COL_STATUS_RETIRE_PENDING.off] v (last.run v) :=
    ((Prog.frame _ _ _ freeSlots_within v hv).2.mono (by simp) (by simp)).trans
      ((Prog.frame _ _ _ retireCheck_within _ (hv.run _)).2.mono (by simp) (by simp))
  generalize last.run v = t at *
  have hpdl : t.pdl = u.pdl := Eq.trans (hlast.1 .pdl (by decide) (by decide)) (hraise.1 .pdl (by decide) (by decide))
  refine ⟨_, hrun, fun l hl hn => ?_, ((hlast.2 _ (by decide)).trans (hraise.2 _ List.not_mem_nil)).trans hreg, ?_,
    (hfirst.mono (by simp) (by simp)).trans ((hraise.mono (by simp) (by simp)).trans (hlast.mono (by simp) (by simp)))⟩
  · rw [hpdl, hframes, List.mem_map] at hl
    obtain ⟨x, -, rfl⟩ := hl
    split at hn
    · next h => rw [if_pos h]
    · next h => exact absurd (by simp [hn]) h
  · have hctl : t.ctl = v.ctl := hlast.1 .ctl (by decide) (by decide)
    rw [Pended, hctl]
    exact hpend

theorem completes_slateFillEnd (hawake : s.Awake) (hwait : s.lyr.slateWait = true)
    (hfill : s.pdl.fills.any (fun f => f.slate && f.frameDone && f.unconf.isEmpty && !f.unsent) = true) :
    Completes .slateFillEnd s (fun t =>
      t.lyr = { s.lyr with slateDone := true } ∧ t.pdl.fills = s.pdl.fills.filter (fun f => !f.slate) ∧
      Frame [.lyr, .pdl] [] s t) := by
  let p : Prog := .block [.act (.lyr (fun l => { l with slateDone := true })),
    .act (.pdl (fun p => { p with fills := p.fills.filter (fun f => !f.slate) }))]
  have hrun : exec .slateFillEnd s = .next (p.run s) := by
    refine (congrArg _ (Prog.go_awake _ s hawake)).trans ?_
    rw [Prog.run_dyn, Prog.run_when, if_pos (by rw [hwait, hfill]; rfl)]
  exact ⟨_, hrun, rfl, rfl, Prog.frame_noRegs _ p ⟨.head _, .tail _ (.head _), trivial⟩ s⟩

theorem completes_slateFillEnd_none (h : s.lyr.slateWait = false ∨ (∀ f ∈ s.pdl.fills, f.slate = false)) :
    Completes .slateFillEnd s (fun t => t = s) := by
  have hexec : exec .slateFillEnd s = execSlateFillEnd s := rfl
  refine .of_go_self hexec ?_
  rw [Prog.run_dyn, Prog.run_when, if_neg]
  rcases h with h | h
  · simp [h]
  · rw [Bool.and_eq_true, List.any_eq_true]
    rintro ⟨-, f, hf, hslate⟩
    simp [h f hf] at hslate

/-- Settles O33, clause by clause. -/
theorem layersCommitCacheRetire : Obligations.LayersCommitCacheRetire := by
  unfold Obligations.LayersCommitCacheRetire
  refine ⟨fun s stamp fsn hinv hawake => ?_, fun s hinv hawake => ?_⟩
  · have hs := hinv.canon
    exact ⟨completes_layerCommitGo hs hawake stamp, fun _ => completes_layerCommitGo_reject hs hawake stamp,
      completes_layerLatch hs hawake, completes_layerLatch_none⟩
  · exact ⟨fun _ => completes_flattenDone hinv hawake, fun _ => completes_frameRetired hinv.canon hawake,
      completes_slateFillEnd hawake, completes_slateFillEnd_none⟩

end Sys2Proof.Machine
end

section
/-! PROOF. The line code (R460, R461, R463): a stored code word has no syndrome, and the pattern that marks a poisoned line is
never taken for a single wrong symbol. Both follow from the linearity of the syndromes. -/

namespace Sys2Proof.Machine

/-! ### The field's shifts are linear -/

theorem gfTimes2_eq {a : Nat} (h : a < 256) : gfTimes2 a = (2 * a) ^^^ (if a.testBit 7 then 0x11D else 0) := by
  have hbit : a.testBit 7 = decide (128 ≤ a) := by
    rw [Nat.testBit_eq_decide_div_mod_eq]
    by_cases h7 : 128 ≤ a
    · simp only [h7, decide_true, decide_eq_true_eq]
      omega
    · simp only [h7, decide_false, decide_eq_false_iff_not]
      omega
  unfold gfTimes2
  rw [hbit]
  by_cases h7 : 128 ≤ a
  · rw [if_neg (by omega), if_pos (by simpa using h7)]
  · rw [if_pos (by omega), if_neg (by simpa using h7), Nat.xor_zero]

theorem gfTimes2_xor {a b : Nat} (ha : a < 256) (hb : b < 256) : gfTimes2 (a ^^^ b) = gfTimes2 a ^^^ gfTimes2 b := by
  have hdouble : 2 * (a ^^^ b) = 2 * a ^^^ 2 * b := by
    simpa [Nat.shiftLeft_eq, Nat.mul_comm] using Nat.shiftLeft_xor_distrib (a := a) (b := b) (i := 1)
  rw [gfTimes2_eq (Nat.xor_lt_two_pow (n := 8) ha hb), gfTimes2_eq ha, gfTimes2_eq hb, Nat.testBit_xor, hdouble]
  have hswap (w x y z : Nat) : w ^^^ x ^^^ (y ^^^ z) = w ^^^ y ^^^ (x ^^^ z) := by
    rw [Nat.xor_assoc, Nat.xor_assoc, Nat.xor_left_comm x]
  rw [hswap (2 * a)]
  congr 1
  cases a.testBit 7 <;> cases b.testBit 7 <;> rfl

theorem gfTimes2_lt : ∀ a < 256, gfTimes2 a < 256 := by decide +kernel

theorem gfShift_lt (n : Nat) {a : Nat} (h : a < 256) : gfShift n a < 256 := by
  induction n generalizing a with
  | zero => exact h
  | succ n ih => exact ih (gfTimes2_lt a h)

theorem gfShift_xor (n : Nat) {a b : Nat} (ha : a < 256) (hb : b < 256) : gfShift n (a ^^^ b) = gfShift n a ^^^ gfShift n b := by
  induction n generalizing a b with
  | zero => rfl
  | succ n ih =>
    rw [gfShift, gfTimes2_xor ha hb, ih (gfTimes2_lt a ha) (gfTimes2_lt b hb), gfShift, gfShift]

theorem gfShift_add (m n a : Nat) : gfShift (m + n) a = gfShift m (gfShift n a) := by
  induction n generalizing a with
  | zero => rfl
  | succ n ih => exact ih (gfTimes2 a)

theorem gfShift_zero (n : Nat) : gfShift n 0 = 0 := by
  induction n with
  | zero => rfl
  | succ n ih => exact ih

/-! ### Syndromes are linear -/

/-- A list of symbols. -/
def Symbols (l : List Nat) : Prop := ∀ x ∈ l, x < 256

/-- Horner's rule at a power of alpha, from a value on. -/
def hornerFrom (k s : Nat) (w : List Nat) : Nat := w.foldl (fun s x => gfShift k s ^^^ x) s

theorem syndrome_eq (k : Nat) (w : List Nat) : syndrome k w = hornerFrom k 0 w := rfl

theorem hornerFrom_cons (k s x : Nat) (w : List Nat) : hornerFrom k s (x :: w) = hornerFrom k (gfShift k s ^^^ x) w := rfl

theorem hornerFrom_append (k s : Nat) (v w : List Nat) : hornerFrom k s (v ++ w) = hornerFrom k (hornerFrom k s v) w :=
  List.foldl_append

theorem hornerFrom_lt (k : Nat) {s : Nat} {w : List Nat} (hs : s < 256) (hw : Symbols w) : hornerFrom k s w < 256 := by
  induction w generalizing s with
  | nil => exact hs
  | cons x w ih =>
    obtain ⟨hx, hw⟩ := List.forall_mem_cons.1 hw
    exact ih (Nat.xor_lt_two_pow (n := 8) (gfShift_lt k hs) hx) hw

theorem hornerFrom_xor (k : Nat) {s t : Nat} {v w : List Nat} (hs : s < 256) (ht : t < 256) (hv : Symbols v) (hw : Symbols w)
    (hlen : v.length = w.length) : hornerFrom k (s ^^^ t) (v.zipWith (· ^^^ ·) w) = hornerFrom k s v ^^^ hornerFrom k t w := by
  induction v generalizing s t w with
  | nil =>
    obtain rfl := List.length_eq_zero_iff.1 hlen.symm
    rfl
  | cons x v ih =>
    cases w with
    | nil => simp at hlen
    | cons y w =>
      obtain ⟨hx, hv⟩ := List.forall_mem_cons.1 hv
      obtain ⟨hy, hw⟩ := List.forall_mem_cons.1 hw
      have hswap : gfShift k s ^^^ gfShift k t ^^^ (x ^^^ y) = gfShift k s ^^^ x ^^^ (gfShift k t ^^^ y) := by
        rw [Nat.xor_assoc, Nat.xor_assoc, Nat.xor_left_comm (gfShift k t)]
      rw [List.zipWith_cons_cons, hornerFrom_cons, gfShift_xor k hs ht, hswap, hornerFrom_cons, hornerFrom_cons]
      exact ih (Nat.xor_lt_two_pow (n := 8) (gfShift_lt k hs) hx) (Nat.xor_lt_two_pow (n := 8) (gfShift_lt k ht) hy) hv hw
        (Nat.succ.inj hlen)

/-! ### Check symbols -/

theorem rsGenerator_eq : rsGenerator = [1, 15, 54, 120, 64] := by decide +kernel

/-- The generator without its leading term, at the powers of alpha that are its roots. -/
theorem generator_root : ∀ k < 4, ∀ f < 256,
    gfShift k (gfShift k (gfShift k (gfMul f 15) ^^^ gfMul f 54) ^^^ gfMul f 120) ^^^ gfMul f 64 = gfShift (4 * k) f := by
  decide +kernel

theorem gfMul_lt : ∀ f < 256, gfMul f 15 < 256 ∧ gfMul f 54 < 256 ∧ gfMul f 120 < 256 ∧ gfMul f 64 < 256 := by
  decide +kernel

theorem hornerFrom_three (k r0 : Nat) {r1 r2 r3 : Nat} (h0 : r0 < 256) (h1 : r1 < 256) (h2 : r2 < 256) (h3 : r3 < 256) :
    gfShift k (hornerFrom k 0 [r0, r1, r2, r3]) = gfShift (4 * k) r0 ^^^ gfShift k (hornerFrom k 0 [r1, r2, r3]) := by
  have hsplit := hornerFrom_xor k (s := r0) (t := 0) (v := [0, 0, 0]) (w := [r1, r2, r3]) h0 (by decide)
    (by simp [Symbols]) (by simp [Symbols, h1, h2, h3]) rfl
  have hzeros : hornerFrom k r0 [0, 0, 0] = gfShift (3 * k) r0 := by
    rw [show 3 * k = k + (k + k) by omega, gfShift_add, gfShift_add]
    simp [hornerFrom]
  have hhead : hornerFrom k 0 [r0, r1, r2, r3] = gfShift (3 * k) r0 ^^^ hornerFrom k 0 [r1, r2, r3] := by
    rw [← hzeros, ← hsplit]
    simp [hornerFrom, gfShift_zero]
  rw [hhead, gfShift_xor k (gfShift_lt _ h0) (hornerFrom_lt k (by decide) (by simp [Symbols, h1, h2, h3])),
    show 4 * k = k + 3 * k by omega, gfShift_add k]

/-- The four check symbols while a word's data go by: bytes, of the value that the data have so far, moved up by four
places. -/
def Divides (k s : Nat) (r : List Nat) : Prop :=
  ∃ r0 r1 r2 r3, r = [r0, r1, r2, r3] ∧ Symbols r ∧ hornerFrom k 0 r = gfShift (4 * k) s

theorem divides_rsStep {k s x : Nat} {r : List Nat} (hk : k < 4) (hs : s < 256) (hx : x < 256) (h : Divides k s r) :
    Divides k (gfShift k s ^^^ x) (rsStep r x) := by
  obtain ⟨r0, r1, r2, r3, rfl, hr, hval⟩ := h
  obtain ⟨h0, h1, h2, h3⟩ : r0 < 256 ∧ r1 < 256 ∧ r2 < 256 ∧ r3 < 256 := by simpa [Symbols] using hr
  have hf : x ^^^ r0 < 256 := Nat.xor_lt_two_pow (n := 8) hx h0
  obtain ⟨m1, m2, m3, m4⟩ := gfMul_lt (x ^^^ r0) hf
  have hstep : rsStep [r0, r1, r2, r3] x = [r1, r2, r3, 0].zipWith (· ^^^ ·)
      [gfMul (x ^^^ r0) 15, gfMul (x ^^^ r0) 54, gfMul (x ^^^ r0) 120, gfMul (x ^^^ r0) 64] := by
    rw [rsStep, rsGenerator_eq]
    rfl
  have hsum := hornerFrom_xor k (s := 0) (t := 0) (v := [r1, r2, r3, 0])
    (w := [gfMul (x ^^^ r0) 15, gfMul (x ^^^ r0) 54, gfMul (x ^^^ r0) 120, gfMul (x ^^^ r0) 64]) (by decide) (by decide)
    (by simp [Symbols, h1, h2, h3]) (by simp [Symbols, m1, m2, m3, m4]) rfl
  have hroot : hornerFrom k 0 [gfMul (x ^^^ r0) 15, gfMul (x ^^^ r0) 54, gfMul (x ^^^ r0) 120, gfMul (x ^^^ r0) 64] =
      gfShift (4 * k) (x ^^^ r0) := by
    rw [← generator_root k hk (x ^^^ r0) hf]
    simp [hornerFrom, gfShift_zero]
  have hmoved : hornerFrom k 0 [r1, r2, r3, 0] = gfShift k (hornerFrom k 0 [r1, r2, r3]) := by simp [hornerFrom]
  have hhead := hornerFrom_three k r0 h0 h1 h2 h3
  rw [hval, ← gfShift_add, Nat.add_comm, gfShift_add] at hhead
  rw [Nat.xor_self, hroot, hmoved, gfShift_xor _ hx h0] at hsum
  refine ⟨_, _, _, _, hstep, ?_, ?_⟩
  · rw [hstep]
    have hxor {a b : Nat} (ha : a < 256) (hb : b < 256) : a ^^^ b < 256 := Nat.xor_lt_two_pow (n := 8) ha hb
    simp [Symbols, hxor h1 m1, hxor h2 m2, hxor h3 m3, m4]
  · rw [hstep, hsum, gfShift_xor _ (gfShift_lt k hs) hx, hhead,
      Nat.xor_comm (gfShift (4 * k) r0), Nat.xor_assoc, Nat.xor_comm (gfShift (4 * k) x)]

theorem divides_foldl {k s : Nat} {d r : List Nat} (hk : k < 4) (hs : s < 256) (hd : Symbols d) (h : Divides k s r) :
    Divides k (hornerFrom k s d) (d.foldl rsStep r) := by
  induction d generalizing s r with
  | nil => exact h
  | cons x d ih =>
    obtain ⟨hx, hd⟩ := List.forall_mem_cons.1 hd
    exact ih (Nat.xor_lt_two_pow (n := 8) (gfShift_lt k hs) hx) hd (divides_rsStep hk hs hx h)

theorem divides_checkSymbols {k : Nat} {d : List Nat} (hk : k < 4) (hd : Symbols d) :
    Divides k (hornerFrom k 0 d) (checkSymbols d) :=
  divides_foldl hk (by decide) hd ⟨0, 0, 0, 0, rfl, by simp [Symbols], by simp [hornerFrom, gfShift_zero]⟩

/-- A code word has no syndrome (R460). -/
theorem syndrome_codeWord {k : Nat} {d : List Nat} (hk : k < 4) (hd : Symbols d) : syndrome k (codeWord d) = 0 := by
  obtain ⟨r0, r1, r2, r3, hr, hsym, hval⟩ := divides_checkSymbols hk hd
  have hs := hornerFrom_lt k (s := 0) (by decide) hd
  have hsplit := hornerFrom_xor k (s := hornerFrom k 0 d) (t := 0) (v := [0, 0, 0, 0]) (w := [r0, r1, r2, r3]) hs (by decide)
    (by simp [Symbols]) (hr ▸ hsym) rfl
  have hzeros : hornerFrom k (hornerFrom k 0 d) [0, 0, 0, 0] = gfShift (4 * k) (hornerFrom k 0 d) := by
    rw [show 4 * k = k + (k + (k + k)) by omega, gfShift_add, gfShift_add, gfShift_add]
    simp [hornerFrom]
  rw [hzeros, ← hr, hval, Nat.xor_self, Nat.xor_zero] at hsplit
  rw [syndrome_eq, codeWord, hornerFrom_append]
  refine Eq.trans ?_ hsplit
  rw [hr]
  simp

/-! ### What the decoder makes of a line -/

theorem symbols_codeWord {d : List Nat} (hd : Symbols d) : Symbols (codeWord d) := by
  obtain ⟨_, _, _, _, -, hsym, -⟩ := divides_checkSymbols (k := 0) (by decide) hd
  exact fun x hx => (List.mem_append.1 hx).elim (hd x) (hsym x)

theorem length_codeWord {d : List Nat} (hd : Symbols d) : (codeWord d).length = d.length + 4 := by
  obtain ⟨_, _, _, _, hr, -⟩ := divides_checkSymbols (k := 0) (by decide) hd
  simp [codeWord, hr]

/-- The decoder sees a word by its syndromes. -/
theorem decodeWord_congr {v w : List Nat} (h : ∀ k < 4, syndrome k v = syndrome k w) : decodeWord v = decodeWord w := by
  have hmap : (List.range 4).map (fun k => syndrome k v) = (List.range 4).map (fun k => syndrome k w) :=
    List.map_congr_left fun k hk => h k (List.mem_range.1 hk)
  simp only [decodeWord, hmap]

/-- A code word as it is stored is clean (R461). -/
theorem decodeWord_codeWord {d : List Nat} (hd : Symbols d) : decodeWord (codeWord d) = .clean := by
  have hzero : decodeWord (List.replicate 20 0) = .clean := by decide +kernel
  refine (decodeWord_congr fun k hk => ?_).trans hzero
  rw [syndrome_codeWord hk hd]
  exact (by decide +kernel : ∀ k < 4, 0 = syndrome k (List.replicate 20 0)) k hk

/-- The pattern of a poisoned line (R463). -/
def poisonMark : List Nat := xorAt (xorAt (List.replicate 20 0) 16 0xFF) 19 0xFF

theorem xorAt_mark {w : List Nat} (h : w.length = 20) : xorAt (xorAt w 16 0xFF) 19 0xFF = w.zipWith (· ^^^ ·) poisonMark := by
  have hzero : ∀ i (h : i < 20), i ≠ 16 → i ≠ 19 → poisonMark[i]'h = 0 := by decide
  refine List.ext_getElem (by simp [xorAt, h, show poisonMark.length = 20 from rfl]) fun i h1 h2 => ?_
  have hi : i < 20 := by simpa [xorAt, h] using h1
  rw [List.getElem_zipWith]
  by_cases h19 : i = 19
  · subst h19
    simp [xorAt, h]
    rfl
  · by_cases h16 : i = 16
    · subst h16
      simp [xorAt, h]
      rfl
    · refine Eq.trans ?_ (congrArg (w[i]'(h ▸ hi) ^^^ ·) (hzero i hi h16 h19).symm)
      rw [Nat.xor_zero]
      simp only [xorAt]
      rw [List.getElem_set_ne (Ne.symm h19), List.getElem_set_ne (Ne.symm h16)]

theorem symbols_poisonMark : Symbols poisonMark := by
  unfold Symbols
  decide

/-- A code word of a poisoned line is uncorrectable, whatever its data (R461, R463). -/
theorem decodeWord_poisoned {d : List Nat} (hd : Symbols d) (hlen : d.length = 16) :
    decodeWord (xorAt (xorAt (codeWord d) 16 0xFF) 19 0xFF) = .bad := by
  have hbad : decodeWord poisonMark = .bad := by decide +kernel
  have hlen' : (codeWord d).length = 20 := by rw [length_codeWord hd, hlen]
  refine (decodeWord_congr fun k hk => ?_).trans hbad
  have hsum := hornerFrom_xor k (s := 0) (t := 0) (by decide) (by decide) (symbols_codeWord hd)
    symbols_poisonMark (by rw [hlen']; rfl)
  rw [← syndrome_eq k (codeWord d), syndrome_codeWord hk hd, Nat.zero_xor] at hsum
  rw [xorAt_mark hlen', syndrome_eq]
  exact hsum.trans (Nat.zero_xor _)

theorem symbols_toNat (l : List Byte) : Symbols (l.map (·.toNat)) := by
  intro x hx
  obtain ⟨b, -, rfl⟩ := List.mem_map.1 hx
  exact b.isLt

/-- A line that is not poisoned decodes clean, without errors of its devices (R461). -/
theorem decodeLine_clean {s : State} {line : Nat} (h : s.lineBad line = false) :
    s.decodeLine line [] = List.replicate 8 .clean := by
  have hword (j : Nat) : decodeWord (s.wordRead line [] j) = .clean := by
    show decodeWord (s.lineWord line j) = .clean
    rw [State.lineWord, h]
    exact decodeWord_codeWord (symbols_toNat _)
  simp only [State.decodeLine, hword]
  rfl

/-- A poisoned line is uncorrectable in every code word (R463). -/
theorem decodeLine_bad {s : State} {line : Nat} (h : s.lineBad line = true) :
    s.decodeLine line [] = List.replicate 8 .bad := by
  have hword (j : Nat) : decodeWord (s.wordRead line [] j) = .bad := by
    show decodeWord (s.lineWord line j) = .bad
    rw [State.lineWord, h]
    exact decodeWord_poisoned (symbols_toNat _) (by simp [State.bytes])
  simp only [State.decodeLine, hword]
  rfl

theorem lineFails_eq {s : State} (line : Nat) : s.lineFails line [] = s.lineBad line := by
  cases h : s.lineBad line with
  | false =>
    rw [State.lineFails, decodeLine_clean h]
    decide
  | true =>
    rw [State.lineFails, decodeLine_bad h]
    decide

/-- A clean line is read without any effect (R461). -/
theorem run_readLine_clean {s : State} {line : Nat} (h : s.lineBad line = false) (src : Nat) (t : Time) :
    (readLine src line [] t).run s = s := by
  rw [readLine, Prog.run_dyn]
  simp only [decodeLine_clean h]
  rfl

/-- A poisoned line is reported (R462). -/
theorem run_readLine_bad {s : State} {line : Nat} (h : s.lineBad line = true) (src : Nat) (t : Time) :
    (readLine src line [] t).run s = (uncorrectable line src 0xFF (some t)).run s := by
  rw [readLine, Prog.run_dyn]
  simp only [decodeLine_bad h]
  rfl

end Sys2Proof.Machine
end

section
/-! PROOF. Reads of bad lines that take the node into FAULT: a trial falls back into a warm reset (R541), which empties the
memory's list (R562), and a vote that leaves by a port beyond the six is counted on a register of the memory controller
(R409, R415, R476): counterexamples to what is said of writes and reads. -/

namespace Sys2Proof.Machine

/-! ### The fall-back of a trial -/

/-- A fall-back leaves the memory that a warm reset leaves. -/
theorem mem_fallBack {s : State} {p : BootPtr} (hptr : s.ptr = some p) : (fallBack.run s).mem = [] := by
  have hkept := (romBoot_kept (s.trialEnd p)).mem
  rw [run_fallBack hptr]
  generalize romBoot.run (s.trialEnd p) = u at *
  have hraise : ((Prog.raise 22).run u).mem = u.mem := by rw [Prog.run_raise, Act.ctl_mem, Act.free_mem]
  rw [hraise, hkept, Act.extend_mem]
  rfl

theorem run_enterFault_trial {s : State} (hmove : nodeMove s.node .fault = true) (htrial : s.sec.upd = .trial)
    (block family code detail : Nat) :
    (enterFault block family code detail).run s = fallBack.run ((leaveService s.S family code).run
      ((moveNode .fault).run ((recordFault block family code detail s.S (s.flag F.HKP_FAULT_VALID)).run s))) := by
  have htrial' : (s.sec.upd == .trial || s.sec.trialFrom.isSome) = true := by simp [htrial]
  simp only [enterFault, Prog.run_dyn, hmove, htrial', Prog.run_block_cons, Prog.run_block_nil, Prog.run_when, Bool.true_or,
    if_true, leaveService]
  rfl

/-- A node of which a trial runs, with its boot record. -/
structure State.InTrial (s : State) (p : BootPtr) : Prop where
  node : s.node = .sapling
  trial : s.sec.upd = .trial
  ptr : s.ptr = some p

theorem State.InTrial.of_spared {s u : State} {p : BootPtr} (h : s.InTrial p) {parts : List Part} {P : Nat → Prop}
    (hspared : Spared parts P s u) (hnode : Part.node ∉ parts) (hsec : Part.sec ∉ parts) : u.InTrial p := by
  have esec : u.sec = s.sec := hspared.same .sec hsec (by decide) (by decide)
  exact ⟨Eq.trans (hspared.same .node hnode (by decide) (by decide)) h.node, by rw [esec]; exact h.trial,
    (ptr_congr (by rw [esec])).trans h.ptr⟩

/-- A node that enters FAULT while a trial runs falls back (R541). -/
theorem State.InTrial.fallsBack {s : State} (hs : s.Canon) {p : BootPtr} (h : s.InTrial p) (block family code detail : Nat) :
    ∃ u : State, u.ptr = some p ∧ (enterFault block family code detail).run s = fallBack.run u := by
  rw [run_enterFault_trial (by rw [h.node]; rfl) h.trial]
  have hrec := (recordFault_in (parts := []) (P := (· ∈ faultRegs)) (fun _ => id) block family code detail s.S
    (s.flag F.HKP_FAULT_VALID)).spared hs
  have hr := hs.run (recordFault block family code detail s.S (s.flag F.HKP_FAULT_VALID))
  generalize (recordFault block family code detail s.S (s.flag F.HKP_FAULT_VALID)).run s = r at *
  have hmoved : Spared [.node, .freeCount] (fun _ => False) r ((moveNode .fault).run r) :=
    Prog.Only.spared (fun _ => by simp [Act.In, Act.Within]) hr
  have hm := hr.run (moveNode .fault)
  generalize (moveNode .fault).run r = m at *
  have hleave := (leaveService_in [.apl, .meas, .cmt, .fab, .out, .freeCount] (by simp) s.S family code).spared hm
  generalize (leaveService s.S family code).run m = t at *
  have hsec : t.sec = s.sec := Eq.trans (hleave.same .sec (by decide) (by decide) (by decide))
    (Eq.trans (hmoved.same .sec (by decide) (by decide) (by decide)) (hrec.same .sec (by decide) (by decide) (by decide)))
  exact ⟨t, (ptr_congr (by rw [hsec])).trans h.ptr, rfl⟩

theorem mem_enterFault_trial {s : State} (hs : s.Canon) {p : BootPtr} (h : s.InTrial p) (block family code detail : Nat) :
    ((enterFault block family code detail).run s).mem = [] := by
  obtain ⟨u, hptr, hrun⟩ := h.fallsBack hs block family code detail
  rw [hrun, mem_fallBack hptr]

/-! ### A bad line of a rank that migrates already (R476) -/

/-- What the DMC does with an uncorrectable line of a rank that migrates, up to the entry into FAULT. -/
def beforeDmcFault (line src words code : Nat) (t : Time) : Prog :=
  .block [reportUe line src 0x05 words (some t), .act (.free 1), .setFld F.DMC_FAULT_CODE code, .raise 453]

/-- The registers of the memory controller that a FAULT of it writes. -/
def dmcFaultRegs : List Nat := [R.DMC_UE_ADDR_LO, R.DMC_UE_ADDR_HI, R.DMC_UE_INFO, R.DMC_UE_COUNT, R.DMC_FAULT]

theorem reportUe_in (line src code words : Nat) (t : Time) :
    (reportUe line src code words (some t)).Only (Act.In [] (· ∈ dmcFaultRegs)) := by
  intro s
  simp [dmcFaultRegs, raiseIn, F.DMC_UE_ADDR_HI_ADDR_HI, F.DMC_UE_INFO_SRC, F.DMC_UE_INFO_CODE, F.DMC_UE_INFO_CW,
    F.DMC_UE_COUNT_COUNT]

theorem beforeDmcFault_in (line src words code : Nat) (t : Time) :
    (beforeDmcFault line src words code t).Only (Act.In [.freeCount] (· ∈ dmcFaultRegs)) := by
  have hreport : (reportUe line src 5 words (some t)).Only (Act.In [.freeCount] (· ∈ dmcFaultRegs)) := by
    intro s
    simp [dmcFaultRegs, raiseIn, F.DMC_UE_ADDR_HI_ADDR_HI, F.DMC_UE_INFO_SRC, F.DMC_UE_INFO_CODE, F.DMC_UE_INFO_CW,
      F.DMC_UE_COUNT_COUNT]
  exact ⟨hreport, by simp [Act.In, Act.Within], by simp [dmcFaultRegs, F.DMC_FAULT_CODE], by simp, trivial⟩

theorem run_uncorrectable_migrating {s : State} (hs : s.Canon) (hnode : s.node = .sapling) {line : Nat} {m : MigCopy}
    (hmig : s.dmc.mig.getD (2 * pairOf (line * 128)) none = some m)
    (hpos : m.fromPos = s.rankPos (2 * pairOf (line * 128)) (rankOf (line * 128))) (src words : Nat) (t : Time) :
    ∃ code, (uncorrectable line src words (some t)).run s =
      (enterFault 0x1B 0x07 code 0).run ((beforeDmcFault line src words code t).run s) := by
  let u := (Act.free 1).apply ((reportUe line src 0x05 words (some t)).run s)
  have hreport := (reportUe_in line src 5 words t).spared hs
  have hmove : nodeMove u.node .fault = true := by
    have hu : u.node = s.node := hreport.same .node (by decide) (by decide) (by decide)
    rw [hu, hnode]
    rfl
  let code := if (Config.freeWord ((reportUe line src 0x05 words (some t)).run s).freeCount).getLsbD 0 then 0x03 else 0x04
  have hrun : (uncorrectable line src words (some t)).run s = (dmcFault code).run u := by
    rw [uncorrectable, Prog.run_dyn]
    simp only [hmig, hpos, beq_self_eq_true, Bool.true_or, if_true]
    rfl
  refine ⟨code, ?_⟩
  rw [hrun, dmcFault, Prog.run_dyn, Prog.run_block_cons, Prog.run_when, if_pos hmove]
  rfl

/-! ### The two nodes -/

/-- What the counterexamples share: line 0 is bad, and channel 0 migrates the rank position that holds it. -/
def migrating (s : State) : Dram :=
  { s.dmc with poison := [0], mig := [some { fromPos := s.rankPos 0 0 }, none, none, none] }

/-- A node that runs a trial, with a bad line and a byte elsewhere. -/
def trialStore : State :=
  { State.reset with
    mem := [(0x1000, 1)]
    dmc := migrating State.reset
    sec := { State.reset.sec with upd := .trial, ptrs := [({} : BootPtr).bytes, ({} : BootPtr).bytes] } }

theorem trialStore_inTrial : trialStore.InTrial {} := by
  have hread : readPtr ({} : BootPtr).bytes = some {} := readPtr_bytes {} ⟨by decide, by decide, by decide, by decide⟩
  refine ⟨rfl, rfl, ?_⟩
  show ptrOf [({} : BootPtr).bytes, ({} : BootPtr).bytes] = _
  unfold ptrOf currentPtr
  simp only [List.getD_cons_zero, List.getD_cons_succ, hread, Option.map_some, laterCopy, Option.bind_some]
  split <;> exact hread

/-- With the controller open nothing holds a request back (R466, R471, R473). -/
theorem reqBlocked_open {s : State} (h : s.DmcOpen) (r : DmcReq) :
    (s.reqBlocked r || s.dmc.held.any (fun x => x.src == r.src)) = false := by
  obtain ⟨hchanging, hpanic, hretrain, hheld⟩ := h
  simp [State.reqBlocked, hchanging, hpanic, hretrain, hheld]

/-- The grants of a request (R467). -/
def grants (r : DmcReq) : Prog :=
  .guard (fun s => portOf r.src.toNat != 0 && s.reqNeedsDram r) (.each r.channels (fun c => grantPort c (portOf r.src.toNat)))

/-- What grants leave of the memory controller. -/
def State.lineState (s : State) : List (Option MigCopy) × List Nat := (s.dmc.mig, s.dmc.poison)

theorem grants_lineState (r : DmcReq) : (grants r).Keeps State.lineState := by
  have heach : (Prog.each r.channels (fun c => grantPort c (portOf r.src.toNat))).Keeps State.lineState :=
    Prog.keeps_each fun _ _ _ _ => rfl
  exact fun s hs => Prog.keeps_ite (fun _ => heach) (fun _ => Prog.keeps_nil) s hs

theorem grants_within (r : DmcReq) : (grants r).Only (Act.Within [.dmc] []) :=
  Prog.only_guard _ (Prog.only_each _ _ fun _ => List.mem_cons_self)

/-- A read of one bad line by a source that makes nothing of it. -/
theorem run_readLines_bad (u : State) (line : Nat) {src : Nat} (hsrc : src ≠ 0x10 ∧ src ≠ 0x11)
    (t : Time) : (readLines src [(line, 0)] [] t).run u = (readLine src line [] t).run u := by
  have htaken : poisonTaken src line = .nil := by rw [poisonTaken, if_neg hsrc.1, if_neg hsrc.2]
  have hrun : (readLines src [(line, 0)] [] t).run u =
      (Prog.when (u.lineFails line []) (poisonTaken src line)).run ((readLine src line [] t).run u) := rfl
  rw [hrun, htaken, Prog.run_when]
  split <;> rfl

/-- Refutes O35: a core's store whose block must be read from a bad line takes the node into FAULT where the rank migrates
already (R476); while a trial runs the node falls back by a warm reset (R541), and the memory's list is emptied outside the
store's bytes too. -/
theorem not_memoryWrites : ¬ Obligations.MemoryWrites := by
  unfold Obligations.MemoryWrites
  intro h
  have hinv : trialStore.Inv := ⟨rfl, rfl, rfl, rfl, rfl⟩
  obtain ⟨hfirst, -⟩ := h trialStore 0 0 [0] .plain 0 hinv rfl (by decide)
  obtain ⟨t, hexec, hmem⟩ := hfirst (.inl (by decide))
  let r : DmcReq := { src := 0, addr := 0, data := some [0], op := .plain, stamp := 0 }
  have hrun : exec (.dmcWriteRequest 0 0 [0] .plain 0) trialStore = .next ((coreStore 0 0 [0] .plain 0).run ((grants r).run trialStore)) := by
    refine (congrArg _ (Prog.go_awake _ trialStore rfl)).trans ?_
    rw [dmcRequest, Prog.run_dyn, reqBlocked_open ⟨rfl, rfl, rfl, rfl⟩, if_neg Bool.false_ne_true]
    have hserve : serveReq r = .block [grants r, coreStore 0 0 [0] .plain 0] := rfl
    rw [hserve, Prog.run_block_cons, Prog.run_block_cons, Prog.run_block_nil]
  have hlines := grants_lineState r trialStore hinv.canon
  have hgranted := Prog.frame_noRegs _ _ (grants_within r) trialStore
  have hu := hinv.canon.run (grants r)
  generalize (grants r).run trialStore = u at *
  have hbad : u.lineBad 0 = true := by
    show u.dmc.poison.contains 0 = true
    rw [show u.dmc.poison = trialStore.dmc.poison from congrArg Prod.snd hlines]
    rfl
  have hmiss : [0].filter (fun b => !u.l2Holds b) = [0] := by
    have hctl : u.ctl = trialStore.ctl := hgranted.1 .ctl (by decide) (by decide)
    simp only [State.l2Holds, hctl]
    rfl
  have hstore : (coreStore 0 0 [0] .plain 0).run u = (Act.bus { data := [], error := true }).apply ((readLine 0 0 [] 0).run u) := by
    have hfails : u.anyFails [(0, 0)] [] = true := by simp [State.anyFails, errsOf, lineFails_eq, hbad]
    have hblocks : (if [(0 : Byte)].isEmpty then [] else blocksOf 0 [(0 : Byte)].length) = [0] := rfl
    have hls : ((([0].map (· / 2)).eraseDups).map (fun l : Nat => (l, l - ([0].head?.getD 0) / 2))) = [(0, 0)] := by decide
    rw [coreStore, hblocks, l2Fill, Prog.run_dyn]
    simp only [hmiss, hls, hfails, if_true]
    rw [Prog.run_seq, run_readLines_bad u 0 (by decide)]
    rfl
  have hmig : u.dmc.mig.getD (2 * pairOf (0 * 128)) none = some { fromPos := u.rankPos 0 0 } := by
    have hrank : u.rankPos 0 0 = State.reset.rankPos 0 0 := hgranted.fld _ List.not_mem_nil
    rw [show u.dmc.mig = trialStore.dmc.mig from congrArg Prod.fst hlines, hrank]
    rfl
  have htrial : u.InTrial {} := trialStore_inTrial.of_spared (Spared.of_frame hgranted (P := fun _ => False) (by simp)) (by decide) (by decide)
  obtain ⟨code, hfault⟩ := run_uncorrectable_migrating hu htrial.node hmig (by rfl) 0 0xFF 0
  have hbefore := (beforeDmcFault_in 0 0 0xFF code 0).spared hu
  have hcleared : ((readLine 0 0 [] 0).run u).mem = [] := by
    rw [run_readLine_bad hbad, hfault]
    exact mem_enterFault_trial (hu.run _) (htrial.of_spared hbefore (by decide) (by decide)) _ _ _ _
  rw [hrun, hstore] at hexec
  cases hexec
  have houtside := hmem 0x1000 (.inr (by decide))
  have hread : Memory.read ((readLine 0 0 [] 0).run u).mem 0x1000 = 1 := houtside
  rw [hcleared] at hread
  exact absurd hread (by decide)

/-! ### A read whose FAULT is counted by the vote (R462) -/

/-- The port whose transmit counter lies at the place of DMC_UE_COUNT. -/
def countedPort : Nat := 0xAFFF9

/-- A node that votes by that port as soon as it enters FAULT, with the bad line. -/
def voterRead : State := (Act.dmc (fun _ => migrating (voter countedPort {}))).apply (voter countedPort {})

theorem voterRead_spared : Spared [.dmc] (fun _ => False) (voter countedPort {}) voterRead :=
  Spared.of_frame (Act.frame_noRegs (a := .dmc _) (.head _) _) (by simp)

theorem voterRead_votes : voterRead.VotesBy countedPort :=
  (voter_votes countedPort {}).of_spared voterRead_spared (by decide) ⟨id, id⟩

/-- A read of one bad line answers an error (R462). -/
theorem run_dramRead_bad {u : State} (hbad : u.lineBad 0 = true) {src : Nat} (hsrc : src ≠ 0x10 ∧ src ≠ 0x11) :
    (dramRead src 0 1 [] 0).run u = (Act.bus { data := [], error := true }).apply ((readLine src 0 [] 0).run u) := by
  have hls : (linesOf 0 1).zipIdx = [(0, 0)] := by decide
  have hfails : u.anyFails [(0, 0)] [] = true := by simp [State.anyFails, errsOf, lineFails_eq, hbad]
  rw [dramRead, Prog.run_dyn]
  simp only [hls, hfails, if_true]
  rw [Prog.run_block_cons, run_readLines_bad u 0 hsrc]
  rfl

theorem exec_read_voterRead : exec (.dmcReadRequest 0x20 0 1 .plain [] 0) voterRead =
    .next ((Act.bus { data := [], error := true }).apply ((readLine 0x20 0 [] 0).run voterRead)) := by
  let r : DmcReq := { src := 0x20, addr := 0, len := 1, op := .plain, errs := [], stamp := 0 }
  have hserve : serveReq r = .block [grants r, dramRead 0x20 0 1 [] 0] := rfl
  have hgrants : (grants r).run voterRead = voterRead := by
    rw [grants, Prog.run_guard, if_neg (by rw [Bool.and_eq_true]; rintro ⟨h, -⟩; exact absurd h (by decide))]
  refine (congrArg _ (Prog.go_awake _ voterRead rfl)).trans ?_
  rw [Prog.run_guard, if_pos (by decide), dmcRequest, Prog.run_dyn, reqBlocked_open ⟨rfl, rfl, rfl, rfl⟩, if_neg Bool.false_ne_true,
    hserve, Prog.run_block_cons, Prog.run_block_cons, Prog.run_block_nil, hgrants, run_dramRead_bad rfl (by decide)]

/-- A report of an uncorrectable line is counted. -/
theorem fld_beforeDmcFault {s : State} (hs : s.Canon) (hzero : s.fld F.DMC_UE_COUNT_COUNT = 0) (line src words code : Nat) (t : Time) :
    ((beforeDmcFault line src words code t).run s).fld F.DMC_UE_COUNT_COUNT = 1 := by
  let first : Prog := .when (s.fld F.DMC_UE_COUNT_COUNT == 0) (.block [
    .setReg R.DMC_UE_ADDR_LO (BitVec.ofNat 32 (line * 128)), .setFld F.DMC_UE_ADDR_HI_ADDR_HI (line * 128 / 2 ^ 32),
    .setFld F.DMC_UE_INFO_SRC src, .setFld F.DMC_UE_INFO_CODE 0x05, .setFld F.DMC_UE_INFO_CW words])
  have hfirst : first.Keeps (fun u => u.fld F.DMC_UE_COUNT_COUNT) := by simp +decide [first]
  let last : Prog := .block [.act (.free 1), .setFld F.DMC_FAULT_CODE code, .raise 453]
  have hlast : last.Keeps (fun u => u.fld F.DMC_UE_COUNT_COUNT) := by simp +decide [last]
  have hraise : (Prog.raiseAt 449 t).Keeps (fun u => u.fld F.DMC_UE_COUNT_COUNT) := fun _ _ => rfl
  have hrun : (beforeDmcFault line src words code t).run s =
      last.run ((Prog.raiseAt 449 t).run ((Prog.count F.DMC_UE_COUNT_COUNT 1).run (first.run s))) := rfl
  have hu := hs.run first
  have hkept := hfirst.run hs
  rw [hrun]
  generalize first.run s = u at *
  have hcount := Prog.run_count_same F.DMC_UE_COUNT_COUNT 1 u hu (by decide) (by decide)
  have hv := hu.run (.count F.DMC_UE_COUNT_COUNT 1)
  generalize (Prog.count F.DMC_UE_COUNT_COUNT 1).run u = v at *
  rw [hlast.run (hv.run _), hraise.run hv, hcount, hkept, hzero]
  decide

/-- Refutes O36: an uncorrectable line of a rank that migrates already takes the node into FAULT (R476); the vote of a node
whose parent port lies beyond the six is counted at DMC_UE_COUNT, which then shows 2. -/
theorem not_memoryReads : ¬ Obligations.MemoryReads := by
  unfold Obligations.MemoryReads
  intro h
  have hinv : voterRead.Inv := Prog.run_inv (.act _) _ (voter_inv _ _)
  obtain ⟨-, -, hread, -⟩ := h voterRead 0x20 0 1 .plain 0 hinv rfl (by decide) (by decide)
  have hbad : voterRead.lineBad 0 = true := rfl
  obtain ⟨t, hexec, -, hcount, -⟩ := hread 0 ⟨rfl, rfl, rfl, rfl⟩ (by decide) hbad voterRead_votes.noTrial (.inl (by decide))
  rw [exec_read_voterRead] at hexec
  cases hexec
  have hmig : voterRead.dmc.mig.getD (2 * pairOf (0 * 128)) none = some { fromPos := voterRead.rankPos 0 0 } := rfl
  have hzero : voterRead.fld F.DMC_UE_COUNT_COUNT = 0 := by
    rw [voterRead_spared.fld _ id, State.fld, voter_reg _ _ (by decide)]
    decide
  have hs := hinv.canon
  obtain ⟨code, hfault⟩ := run_uncorrectable_migrating hs voterRead_votes.node hmig (by rfl) 0x20 0xFF 0
  have hbefore := (beforeDmcFault_in 0 0x20 0xFF code 0).spared hs
  have hone := fld_beforeDmcFault hs hzero 0 0x20 0xFF code 0
  have hvotes := voterRead_votes.of_spared hbefore (by decide) (by decide)
  have hv := hs.run (beforeDmcFault 0 0x20 0xFF code 0)
  have hbus (u : State) : ((Act.bus { data := [], error := true }).apply u).fld F.DMC_UE_COUNT_COUNT = u.fld F.DMC_UE_COUNT_COUNT := rfl
  rw [hbus, run_readLine_bad hbad, hfault, State.countUp, hzero] at hcount
  generalize (beforeDmcFault 0 0x20 0xFF code 0).run voterRead = v at *
  have hvote := enterFault_counts hv hvotes 0x1B 0x07 code 0
  generalize (enterFault 0x1B 0x07 code 0).run v = w at *
  have hlow (u : State) : u.fld F.DMC_UE_COUNT_COUNT = u.fld (F.FAB_P_TX_COUNT countedPort) % 65536 := by
    unfold State.fld
    rw [show F.DMC_UE_COUNT_COUNT.off = (F.FAB_P_TX_COUNT countedPort).off from rfl]
    simp [getBits, bitsOf, F.DMC_UE_COUNT_COUNT, F.FAB_P_TX_COUNT]
  have hlt := v.fld_lt (F.FAB_P_TX_COUNT countedPort)
  rw [State.countUp] at hvote
  rw [hlow] at hone hcount
  rw [show (F.FAB_P_TX_COUNT countedPort).hi + 1 - (F.FAB_P_TX_COUNT countedPort).lo = 32 from rfl] at hlt hvote
  omega

end Sys2Proof.Machine
end

section
/-! PROOF. A held request that is issued in a trial, and a word of SRAM under a line that is listed as poisoned: counterexamples
to what is said of the memory's upkeep and of the SRAM ports (R462, R468, R477, R541). -/

namespace Sys2Proof.Machine

/-! ### A held request that meets a bad line in a trial -/

theorem Act.Rom.dmc {a : Act} (h : a.Rom) (s : State) : (a.apply s).dmc = s.dmc := by
  cases a <;> simp [Act.Rom] at h ⊢

/-- A fall-back leaves the memory controller that a warm reset leaves. -/
theorem dmc_fallBack {s : State} {p : BootPtr} (hptr : s.ptr = some p) : (fallBack.run s).dmc = {} := by
  have hrom : (romBoot.run (s.trialEnd p)).dmc = (s.trialEnd p).dmc := by
    rw [run_romBoot]
    refine Prog.run_keeps (fun t : State => t.dmc = (s.trialEnd p).dmc) (fun a t ha ht => (ha.dmc t).trans ht)
      _ (romAfterM0_rom _ _) _ ?_
    rw [Act.extend_dmc]
  rw [run_fallBack hptr]
  generalize romBoot.run (s.trialEnd p) = u at *
  rw [Prog.run_raise, Act.ctl_dmc, Act.free_dmc, hrom]
  rfl

/-- A read by the groves' port 1 of the line that is bad. -/
def heldRead : DmcReq := { src := 0x16, addr := 0, len := 1 }

/-- The node of a trial under panic, with that read held back. -/
def trialStarve : State := (Act.dmc (fun d => { d with panicGroves := 1, held := [heldRead] })).apply trialStore

theorem trialStarve_spared : Spared [.dmc] (fun _ => False) trialStore trialStarve :=
  Spared.of_frame (Act.frame_noRegs (a := .dmc _) (.head _) _) (by simp)

theorem trialStarve_starving : trialStarve.starving 0 1 = some (0, heldRead) := by
  have hopen : ({ trialStarve with dmc := { trialStarve.dmc with panicGroves := 0 } } : State).reqBlocked heldRead = false := by
    have hchanging : trialStarve.dmc.changing = false := rfl
    have hretrain : trialStarve.dmc.retrain = [] := rfl
    simp [State.reqBlocked, hchanging, hretrain]
  refine List.find?_cons_of_pos ?_
  dsimp only
  rw [hopen]
  decide

/-- The steps before a held request is served (R467, R468). -/
def issue (stamp : Time) : Prog :=
  .block [.act (.dmc (fun d => { d with starve := putKey 1 stamp d.starve })), .act (.dmc (fun d => { d with held := d.held.eraseIdx 0 })),
    grants heldRead]

theorem exec_starveIssue (stamp : Time) (hwait : heldRead.stamp + (trialStarve.fld F.DMC_STARVE_NS * 256 : Nat) ≤ stamp) :
    exec (.starveIssue 0 1 stamp) trialStarve = .next ((dramRead 0x16 0 1 [] 0).run ((issue stamp).run trialStarve)) := by
  have hlookup : trialStarve.dmc.starve.lookup (0 * 4 + 1) = none := rfl
  refine (congrArg _ (Prog.go_awake _ trialStarve rfl)).trans ?_
  rw [Prog.run_guard, if_pos (by decide), Prog.run_dyn, trialStarve_starving]
  dsimp only
  rw [hlookup]
  dsimp only
  rw [Prog.run_when, if_pos (by simpa using hwait)]
  rfl

theorem issue_within (stamp : Time) : (issue stamp).Only (Act.Within [.dmc] []) :=
  ⟨.head _, .head _, grants_within heldRead, trivial⟩

theorem issue_lineState (stamp : Time) : (issue stamp).Keeps State.lineState :=
  Prog.keeps_seq (fun _ _ => rfl) (Prog.keeps_seq (fun _ _ => rfl) (Prog.keeps_seq (grants_lineState heldRead) Prog.keeps_nil))

/-- Refutes O37: a held read that is issued under panic (R468) meets a bad line of a rank that migrates already; the node
enters FAULT, falls back from its trial (R541), and the warm reset forgets when the port was last issued. -/
theorem not_memoryUpkeep : ¬ Obligations.MemoryUpkeep := by
  unfold Obligations.MemoryUpkeep
  intro h
  have hinv : trialStarve.Inv := ⟨rfl, rfl, rfl, rfl, rfl⟩
  let stamp : Time := heldRead.stamp + (trialStarve.fld F.DMC_STARVE_NS * 256 : Nat)
  obtain ⟨-, -, -, hstarve, -⟩ := h trialStarve 0 0 hinv rfl (by decide) (by decide)
  obtain ⟨hissue, -⟩ := hstarve stamp 1 (by decide) (by decide) (by decide)
  obtain ⟨t, hexec, -, htold⟩ := hissue _ trialStarve_starving rfl (le_refl _)
  have hs := hinv.canon
  have hissued := Prog.frame_noRegs _ _ (issue_within stamp) trialStarve
  have hlines := (issue_lineState stamp).run hs
  have hu := hs.run (issue stamp)
  rw [exec_starveIssue stamp (le_refl _)] at hexec
  generalize (issue stamp).run trialStarve = u at *
  have hbad : u.lineBad 0 = true := by
    show u.dmc.poison.contains 0 = true
    rw [show u.dmc.poison = trialStarve.dmc.poison from congrArg Prod.snd hlines]
    rfl
  have hmig : u.dmc.mig.getD (2 * pairOf (0 * 128)) none = some { fromPos := u.rankPos 0 0 } := by
    have hrank : u.rankPos 0 0 = State.reset.rankPos 0 0 := hissued.fld _ List.not_mem_nil
    rw [show u.dmc.mig = trialStarve.dmc.mig from congrArg Prod.fst hlines, hrank]
    rfl
  have htrial : u.InTrial {} := (trialStore_inTrial.of_spared trialStarve_spared (by decide) (by decide)).of_spared
    (Spared.of_frame hissued (P := fun _ => False) (by simp)) (by decide) (by decide)
  obtain ⟨code, hfault⟩ := run_uncorrectable_migrating hu htrial.node hmig (by rfl) 0x16 0xFF 0
  have hbefore := (beforeDmcFault_in 0 0x16 0xFF code 0).spared hu
  obtain ⟨v, hptr, hfall⟩ := (htrial.of_spared hbefore (by decide) (by decide)).fallsBack (hu.run _) 0x1B 0x07 code 0
  rw [run_dramRead_bad hbad (by decide), run_readLine_bad hbad, hfault, hfall] at hexec
  have hdmc := dmc_fallBack hptr
  generalize fallBack.run v = w at *
  cases hexec
  have hforgotten : ((Act.bus { data := [], error := true }).apply w).dmc.starve = [] := by
    rw [Act.bus_dmc, hdmc]
  exact absurd (hforgotten.symm.trans htold) (List.cons_ne_nil _ _).symm

/-! ### A word of SRAM under a line listed as poisoned -/

/-- The first address of the staging SRAM. -/
def stagingStart : Nat := 0x2010000000

/-- A node whose list of poisoned lines names a line of the staging SRAM, with a byte there that is not the open value of a
reader (R462). -/
def shadowedWord : State :=
  { State.reset with
    mem := Memory.write [] stagingStart (Config.poisonByte 0 stagingStart + 1)
    dmc := { State.reset.dmc with poison := [stagingStart / 128] } }

theorem shadowedWord_inv : shadowedWord.Inv := ⟨rfl, rfl, Memory.wf_write [] _ _ rfl, rfl, rfl⟩

/-- The read of that word by the system port. -/
def stagingRead : SramAccess := { addr := stagingStart }

theorem exec_stagingRead : ∃ t, exec (.sramPortAccess none (some stagingRead) false 0 0) shadowedWord = .next t ∧
    t.bus.data = wordsOf (shadowedWord.bytes stagingStart 8) := by
  refine ⟨_, (congrArg _ (Prog.go_awake _ shadowedWord rfl)).trans rfl, ?_⟩
  rfl

/-- The low byte of the first word of four bytes or more. -/
theorem head_wordsOf (a b c d : Byte) (l : List Byte) : ((wordsOf (a :: b :: c :: d :: l)).headD 0).toNat % 256 = a.toNat := by
  have ha := a.isLt
  show (BitVec.ofNat 32 (leNat [a, b, c, d])).toNat % 256 = _
  simp only [leNat, BitVec.toNat_ofNat]
  omega

theorem head_readBytes (m : List Host.Cell) (a : Nat) :
    ((wordsOf (Memory.readBytes m a 8)).headD 0).toNat % 256 = (Memory.read m a).toNat :=
  head_wordsOf (Memory.read m a) (Memory.read m (a + 1)) (Memory.read m (a + 2)) (Memory.read m (a + 3)) _

theorem head_bytes (s : State) (a : Nat) : ((wordsOf (s.bytes a 8)).headD 0).toNat % 256 = (s.byteRead a).toNat :=
  head_wordsOf (s.byteRead a) (s.byteRead (a + 1)) (s.byteRead (a + 2)) (s.byteRead (a + 3)) _

/-- Refutes O38: where the list of poisoned lines names a line of the SRAM, a read takes the open value of R462 for its bytes
and not those that the memory holds. -/
theorem not_frequencyAndSram : ¬ Obligations.FrequencyAndSram := by
  unfold Obligations.FrequencyAndSram
  rintro ⟨-, h⟩
  obtain ⟨-, -, hread, -⟩ := h shadowedWord stagingRead stagingRead false 0 0 shadowedWord_inv rfl rfl (by decide) (by decide)
  obtain ⟨t, hexec, hbus, -⟩ := hread rfl rfl
  obtain ⟨u, hexec', hdata⟩ := exec_stagingRead
  rw [hexec'] at hexec
  cases hexec
  rw [hbus] at hdata
  have hhead := congrArg (fun l : List Word => (l.headD 0).toNat % 256) hdata
  have hread : Memory.read shadowedWord.mem stagingStart = Config.poisonByte 0 stagingStart + 1 :=
    Memory.read_write_same [] _ _ rfl
  have hopen : shadowedWord.byteRead stagingStart = Config.poisonByte 0 stagingStart := if_pos (by decide)
  have hbytes : ((wordsOf (Memory.readBytes shadowedWord.mem stagingStart 8)).headD 0).toNat % 256 =
      ((wordsOf (shadowedWord.bytes stagingStart 8)).headD 0).toNat % 256 := hhead
  rw [head_readBytes, head_bytes, hread, hopen] at hbytes
  generalize Config.poisonByte 0 stagingStart = b at hbytes
  have hsame : b + 1 = b := BitVec.eq_of_toNat_eq hbytes
  bv_omega

end Sys2Proof.Machine
end

section
/-! PROOF. O39: discovery on the fabric (R355, R356, R367, R373). -/

namespace Sys2Proof.Machine

/-! ### A FAULT of the fabric (Table 12.9) -/

/-- A FAULT that leaves its code in a register of its unit and raises its event first (R559, Table 12.9, Table 14.5). -/
theorem enterFault_afterEvent {s : State} (hs : s.Canon) (hnode : s.node = .sapling ∨ s.node = .member) (hno : s.NoTrial)
    (hvalid : s.flag F.HKP_FAULT_VALID = false) (f : Fld) (hf : (f.hi < 32 ∧ f.lo ≤ f.hi) ∧ f.off ≠ R.HKP_FAULT)
    (v e block family code detail : Nat) :
    let t := (enterFault block family code detail).run ((Prog.block [.setFld f v, .raise e]).run s)
    t.node = .fault ∧ t.fld F.HKP_FAULT_BLOCK = block % 256 ∧ t.fld F.HKP_FAULT_CODE = code % 256 := by
  have hu : ((Prog.block [.setFld f v, .raise e]).run s).Canon := hs.run _
  have hnode' : ((Prog.block [.setFld f v, .raise e]).run s).node = s.node := rfl
  have hsec : ((Prog.block [.setFld f v, .raise e]).run s).sec = s.sec := rfl
  have hkept : ((Prog.block [.setFld f v, .raise e]).run s).flag F.HKP_FAULT_VALID = s.flag F.HKP_FAULT_VALID :=
    State.flag_setFld_other f F.HKP_FAULT_VALID v s hs hf.1 (.inl (Ne.symm hf.2))
  generalize (Prog.block [.setFld f v, .raise e]).run s = u at *
  obtain ⟨hfault, -, hcause⟩ := enterFault_enters hu (hnode' ▸ hnode) (by rwa [State.NoTrial, hsec]) block family code detail
  obtain ⟨hcode, hblock, -⟩ := hcause (hkept.trans hvalid)
  exact ⟨hfault, hblock, hcode⟩

theorem run_fabFault {s : State} (hs : s.Canon) (hnode : s.node = .sapling ∨ s.node = .member) (hno : s.NoTrial)
    (hvalid : s.flag F.HKP_FAULT_VALID = false) {code : Nat} (hcode : code < 256) (detail : Nat) :
    let t := (fabFault code detail).run s
    t.node = .fault ∧ t.fld F.HKP_FAULT_BLOCK = 5 ∧ t.fld F.HKP_FAULT_CODE = code := by
  have hmove : nodeMove s.node .fault = true := by rcases hnode with h | h <;> rw [h] <;> rfl
  have hrun : (fabFault code detail).run s =
      (enterFault 5 6 code detail).run ((Prog.block [.setFld F.FAB_FAULT_CODE code, .raise 72]).run s) := by
    rw [fabFault, Prog.run_dyn, hmove]
    rfl
  obtain ⟨hfault, hblock, hkept⟩ :=
    enterFault_afterEvent hs hnode hno hvalid F.FAB_FAULT_CODE (by decide) code 72 5 6 code detail
  rw [hrun]
  exact ⟨hfault, hblock, hkept.trans (Nat.mod_eq_of_lt hcode)⟩

/-! ### Discards (R373) -/

/-- The first discard is kept with its code and sender (R373). -/
theorem run_firstDiscard {s : State} (hs : s.Canon) (code : Nat) (src : BitVec 16) : let t := (firstDiscard code src).run s
    (∃ told, t.fab = { s.fab with firstTold := told }) ∧ Frame [.fab, .ctl, .freeCount] [R.FAB_FIRST_DISCARD] s t := by
  refine ⟨?_, (Prog.frame _ _ _ (by simp [firstDiscard, F.FAB_FIRST_DISCARD_CODE, F.FAB_FIRST_DISCARD_SRC, Act.Within]) s hs).2⟩
  rw [firstDiscard, Prog.run_dyn, Prog.run_when]
  split <;> exact ⟨_, rfl⟩

/-- A malformed packet is counted (R373). -/
theorem run_discardPacket_header {s : State} (hs : s.Canon) (src : BitVec 16) : let t := (discardPacket 0x06 src).run s
    t.fld F.FAB_DISCARD_HEADER = s.countUp F.FAB_DISCARD_HEADER ∧ (∃ told, t.fab = { s.fab with firstTold := told }) ∧
      Frame [.fab, .ctl, .freeCount] [R.FAB_FIRST_DISCARD, R.FAB_DISCARD] s t := by
  have hrun : (discardPacket 0x06 src).run s = (Prog.count F.FAB_DISCARD_HEADER 1).run ((firstDiscard 0x06 src).run s) := rfl
  obtain ⟨hfab, hframe⟩ := run_firstDiscard hs 0x06 src
  have hc : ((firstDiscard 0x06 src).run s).Canon := hs.run _
  rw [hrun]
  generalize (firstDiscard 0x06 src).run s = u at *
  have hcount := Prog.run_count_same F.FAB_DISCARD_HEADER 1 u hc (by decide) (by decide)
  have hlast := (Prog.frame [] [R.FAB_DISCARD] (.count F.FAB_DISCARD_HEADER 1) (fun _ _ => List.mem_singleton_self _) u hc).2
  refine ⟨?_, by rwa [hlast.1 .fab (by decide) (by decide)],
    (hframe.mono (fun _ => id) (by simp)).trans (hlast.mono (by simp) (by simp))⟩
  rw [hcount, hframe.fld _ (by decide)]
  rfl

/-! ### Enabling -/

theorem run_each_training (c : Nat → Bool) {l : List Nat} (hl : l.Nodup) {s : State} (hlt : ∀ p ∈ l, p < s.fab.ports.length) :
    let t := (Prog.each l (fun p => .when (c p) (modPort p (fun q => { q with st := .training })))).run s
    (∀ p, t.port p = if p ∈ l ∧ c p = true then { s.port p with st := .training } else s.port p) ∧
      t.fab.enabledAt = s.fab.enabledAt ∧ Frame [.fab] [] s t := by
  induction l generalizing s with
  | nil => exact ⟨fun p => by simp [Prog.each, Prog.run_nil], rfl, Frame.refl _ _ _⟩
  | cons x l ih =>
    obtain ⟨hx, hl⟩ := List.nodup_cons.1 hl
    let v := (Prog.when (c x) (modPort x (fun q => { q with st := .training }))).run s
    have hv : v = if c x = true then (modPort x (fun q => { q with st := .training })).run s else s := Prog.run_when _ _ _
    have hlen : v.fab.ports.length = s.fab.ports.length ∧ v.fab.enabledAt = s.fab.enabledAt := by
      rw [hv]
      split
      · refine ⟨?_, rfl⟩
        show (modAt _ x _).length = _
        simp [modAt_eq_modify]
      · exact ⟨rfl, rfl⟩
    have hport (p : Nat) : v.port p = if p = x ∧ c x = true then { s.port p with st := .training } else s.port p := by
      rw [hv]
      by_cases hc : c x = true
      · by_cases hp : p = x
        · rw [if_pos hc, if_pos ⟨hp, hc⟩, hp, port_modPort_same _ _ _ (hlt x List.mem_cons_self)]
        · rw [if_pos hc, if_neg (fun h => hp h.1), port_modPort_other _ _ _ _ hp]
      · rw [if_neg hc, if_neg (fun h => hc h.2)]
    have hframe : Frame [.fab] [] s v := Prog.frame_noRegs _ _ (by simp [modPort, Act.Within]) s
    obtain ⟨hports, hat, hrest⟩ := ih hl (s := v) (fun p hp => hlen.1 ▸ hlt p (List.mem_cons_of_mem x hp))
    refine ⟨fun p => (hports p).trans ?_, hat.trans hlen.2, hframe.trans hrest⟩
    rw [hport]
    by_cases hpx : p = x
    · subst hpx
      simp [hx]
    · simp [hpx]

theorem completes_fabricEnable {s : State} (hs : s.Canon) (hawake : s.Awake) (hlen : s.fab.ports.length = 6) (stamp : Time)
    (hoff : s.flag F.FAB_CTRL_ENABLE = false) (hanchor : s.flag F.FAB_ROLE_ANCHOR = false) :
    Completes (.fabricEnable stamp) s (fun t =>
      t.flag F.FAB_CTRL_ENABLE = true ∧ t.fab.enabledAt = some stamp ∧
      (∀ p, p < 6 → (t.port p).st =
        if bitOf (s.fld F.FAB_ROLE_PORT_EN) p && (s.port p).st == .disabled then .training else (s.port p).st) ∧
      Frame [.fab] [F.FAB_CTRL_ENABLE.off] s t) := by
  let each : Prog := .each (List.range 6) (fun p => .when (bitOf (s.fld F.FAB_ROLE_PORT_EN) p && (s.port p).st == .disabled)
    (modPort p (fun q => { q with st := .training })))
  have hrun : (fabricEnableProg stamp).run s =
      each.run ((Act.fab (fun b => { b with enabledAt := some stamp })).apply ((Prog.setFld F.FAB_CTRL_ENABLE 1).run s)) := by
    rw [fabricEnableProg, Prog.run_dyn]
    simp only [hoff, hanchor, Bool.false_and, Bool.false_eq_true, if_false]
    rfl
  refine .of_go rfl hawake ?_
  rw [hrun]
  have hflag : ((Prog.setFld F.FAB_CTRL_ENABLE 1).run s).flag F.FAB_CTRL_ENABLE = true := by
    rw [State.flag, Prog.run_setFld_same F.FAB_CTRL_ENABLE 1 s hs (by decide) (by decide)]
    rfl
  have hv : Frame [.fab] [F.FAB_CTRL_ENABLE.off] s
      ((Act.fab (fun b => { b with enabledAt := some stamp })).apply ((Prog.setFld F.FAB_CTRL_ENABLE 1).run s)) :=
    (Prog.frame [.fab] [F.FAB_CTRL_ENABLE.off] (.seq (.setFld F.FAB_CTRL_ENABLE 1) (.act (.fab _)))
      ⟨fun _ => List.mem_singleton_self _, List.mem_singleton_self _⟩ s hs).2
  have hport (p : Nat) : ((Act.fab (fun b => { b with enabledAt := some stamp })).apply
      ((Prog.setFld F.FAB_CTRL_ENABLE 1).run s)).port p = s.port p := rfl
  have hflag' : ((Act.fab (fun b => { b with enabledAt := some stamp })).apply
      ((Prog.setFld F.FAB_CTRL_ENABLE 1).run s)).flag F.FAB_CTRL_ENABLE = true := hflag
  have hlen' : ((Act.fab (fun b => { b with enabledAt := some stamp })).apply
      ((Prog.setFld F.FAB_CTRL_ENABLE 1).run s)).fab.ports.length = 6 := hlen
  have hat : ((Act.fab (fun b => { b with enabledAt := some stamp })).apply
      ((Prog.setFld F.FAB_CTRL_ENABLE 1).run s)).fab.enabledAt = some stamp := rfl
  generalize (Act.fab (fun b => { b with enabledAt := some stamp })).apply ((Prog.setFld F.FAB_CTRL_ENABLE 1).run s) = v at *
  obtain ⟨hports, hkept, hframe⟩ :=
    run_each_training (fun p => bitOf (s.fld F.FAB_ROLE_PORT_EN) p && (s.port p).st == .disabled)
      List.nodup_range (s := v) (fun p hp => by rw [hlen']; exact List.mem_range.1 hp)
  refine ⟨(hframe.flag _ List.not_mem_nil).trans hflag', hkept.trans hat, fun p hp => ?_,
    hv.trans (hframe.mono (fun _ => id) (by simp))⟩
  rw [hports p, hport]
  simp only [List.mem_range, hp, true_and]
  split <;> rfl

/-! ### Offers -/

theorem completes_coordOfferSend {s : State} (hs : s.Canon) (hawake : s.Awake) (hlen : s.fab.ports.length = 6) {a : BitVec 16}
    (hhere : s.here = some a) {p : Nat} (hp : p < 4) (hup : (s.port p).st = .up)
    (hothers : ∀ q, q < 4 → q ≠ p → (s.port q).st ≠ .up) (hqueue : (s.port p).queue = []) (hroom : (s.port p).unacked.length < 64)
    (hcredits : 1 ≤ creditsFree (s.port p) 1) :
    Completes .coordOfferSend s (fun t =>
      let k : Queued := { pkt := { s.newPacket 1 4 4 false 0
        (leBytes 4 1 ++ leBytes 2 (offerFor a p) ++ leBytes 1 p ++ leBytes 1 0) with lseq := (s.port p).txSeq } }
      t.out = packetOut p k :: s.out ∧ (t.port p).unacked = (s.port p).unacked ++ [k] ∧
      (t.port p).txSeq = (s.port p).txSeq + 1 ∧
      t.fld (F.FAB_P_TX_COUNT p) = s.countUp (F.FAB_P_TX_COUNT p) ∧
      Frame [.fab, .out] [(F.FAB_P_TX_COUNT p).off] s t) := by
  let body := leBytes 4 1 ++ leBytes 2 (offerFor a p) ++ leBytes 1 p ++ leBytes 1 0
  let pkt := s.newPacket 1 4 4 false 0 body
  let v := (bumpSrcSeq 1).run s
  have honly : (List.range 4).filter (fun q => (s.port q).st == .up) = [p] := by
    have h (q : Nat) (hq : q < 4) : ((s.port q).st == .up) = decide (q = p) := by
      by_cases hqp : q = p
      · simp [hqp, hup]
      · simp [hqp, hothers q hq hqp]
    rw [List.filter_congr (fun q hq => h q (List.mem_range.1 hq))]
    interval_cases p <;> rfl
  have hcarries : portCarries (s.port p) = true := by simp [portCarries, hup]
  have hrun : exec .coordOfferSend s = .next ((dispatchHops 6 1 0 false [.send p pkt]).run v) := by
    refine (congrArg _ (Prog.go_awake _ s hawake)).trans ?_
    rw [Prog.run_dyn, hhere]
    dsimp only
    rw [honly]
    have hone : (Prog.each [p] (fun p => sendLink 1 4 p
        (leBytes 4 1 ++ leBytes 2 (offerFor a p) ++ leBytes 1 p ++ leBytes 1 0))).run s = (sendLink 1 4 p body).run s := rfl
    rw [hone, sendLink, Prog.run_dyn, if_pos hcarries]
    rfl
  have hvframe : Frame [.fab] [] s v := Prog.frame_noRegs _ _ (by simp [bumpSrcSeq, Act.Within]) s
  have hone : creditsOf pkt = 1 := by
    show ((BitVec.ofNat 16 body.length).toNat + 20 + 255) / 256 = 1
    simp [body, leBytes]
  have hidle : (v.port p).Idle pkt := ⟨hcarries, hqueue, .inr hroom, hone ▸ hcredits⟩
  obtain ⟨hout, hcount, hlink, hframe⟩ :=
    run_dispatchHops_send (s := v) (hs.run _) (p := p) (by rw [show v.fab.ports.length = 6 from hlen]; omega) hidle 1 0
  obtain ⟨hunacked, hseq⟩ := hlink (by simp [pkt, State.newPacket])
  refine ⟨_, hrun, hout, hunacked, hseq, ?_, (hvframe.mono (by simp) (by simp)).trans hframe⟩
  rw [hcount, State.countUp, hvframe.fld _ List.not_mem_nil, State.countUp]

section
variable {s : State} {port : Nat} {offered : BitVec 16} {sender : Byte}

/-- An offer from the opposite port of the partner, of a node address (R355). -/
theorem exec_coordOfferReceive (hawake : s.Awake) (hport : port < 4) (hup : (s.port port).st = .up)
    (hsender : sender.toNat = oppositePort port) (hnode : bitOf offered.toNat 15 = false) :
    exec (.coordOfferReceive port offered sender 0) s = .next ((match s.here with
      | none => adoptCoord offered
      | some a => Prog.when (a != offered) (fabFault 0x10 offered.toNat)).run s) := by
  refine (congrArg _ (Prog.go_awake _ s hawake)).trans ?_
  rw [Prog.run_guard, if_pos (by simp [hport, hup]), Prog.run_dyn]
  simp only [hsender, hnode, bne_self_eq_false, Bool.false_eq_true, if_false] <;> rfl

theorem completes_coordOfferReceive_adopted (hs : s.Canon) (hawake : s.Awake) (hport : port < 4) (hup : (s.port port).st = .up)
    (hsender : sender.toNat = oppositePort port) (hnode : bitOf offered.toNat 15 = false) (hhere : s.here = none)
    (hexpect : s.fld F.FAB_EXPECT_ADDR = offered.toNat) : Completes (.coordOfferReceive port offered sender 0) s (fun t =>
      t.here = some offered ∧ t.fld F.FAB_COORD_ADDR = offered.toNat ∧ t.flag F.FAB_COORD_VALID = true ∧
      Pended 64 s t ∧ Frame [.fab, .ctl, .freeCount] [F.FAB_COORD_ADDR.off] s t) := by
  let v := (Act.fab (fun b => { b with coord := some offered, coordFrom := some offered })).apply s
  let w := (Prog.setFld F.FAB_COORD_VALID 1).run ((Prog.setFld F.FAB_COORD_ADDR offered.toNat).run v)
  have hrun : exec (.coordOfferReceive port offered sender 0) s = .next ((Prog.raise 64).run w) := by
    rw [exec_coordOfferReceive hawake hport hup hsender hnode, hhere]
    dsimp only
    rw [adoptCoord, Prog.run_dyn, hexpect]
    simp only [bne_self_eq_false]
    rfl
  have hlt : offered.toNat < 2 ^ 15 := by
    have hlt := offered.isLt
    have hbit : (offered.toNat / 2 ^ 15) % 2 = 0 := by simpa [bitOf] using hnode
    omega
  have hv : v.Canon := hs.apply _
  have hframe : Frame [.fab] [F.FAB_COORD_ADDR.off] s w :=
    (Prog.frame [.fab] [F.FAB_COORD_ADDR.off] (.block [.act (.fab _), .setFld F.FAB_COORD_ADDR offered.toNat,
      .setFld F.FAB_COORD_VALID 1]) (by simp [F.FAB_COORD_ADDR, F.FAB_COORD_VALID, Act.Within]) s hs).2
  have hhere' : w.here = some offered := rfl
  have haddr : w.fld F.FAB_COORD_ADDR = offered.toNat := by
    refine (Prog.run_setFld_other F.FAB_COORD_VALID F.FAB_COORD_ADDR 1 _ (hv.run _) (by decide) (by decide) (by decide)).trans ?_
    exact (Prog.run_setFld_same F.FAB_COORD_ADDR _ v hv (by decide) (by decide)).trans (Nat.mod_eq_of_lt hlt)
  have hvalid : w.flag F.FAB_COORD_VALID = true := by
    rw [State.flag, Prog.run_setFld_same F.FAB_COORD_VALID 1 _ (hv.run _) (by decide) (by decide)]
    rfl
  refine ⟨_, hrun, ?_⟩
  generalize w = w at *
  have hlast : Frame [.freeCount, .ctl] [] w ((Prog.raise 64).run w) := Prog.Does.frame_noRegs (by simp)
  refine ⟨?_, (hlast.fld _ List.not_mem_nil).trans haddr, (hlast.flag _ List.not_mem_nil).trans hvalid,
    pended_run_raise 64 hframe (by decide) (by decide), (hframe.mono (by simp) (fun _ => id)).trans (hlast.mono (by simp) (by simp))⟩
  rw [State.here, hlast.1 .fab (by decide) (by decide)]
  exact hhere'

end

/-- Settles O39, clause by clause. -/
theorem fabricDiscovers : Obligations.FabricDiscovers := by
  unfold Obligations.FabricDiscovers
  intro s hinv hawake hlen
  have hs := hinv.canon
  refine ⟨fun stamp hon => ?_, fun stamp => completes_fabricEnable hs hawake hlen stamp, fun hnone => ?_,
    fun a p hhere hp hup hothers hqueue => completes_coordOfferSend hs hawake hlen hhere hp hup hothers hqueue,
    fun port offered sender hport hup hsender hnode =>
      ⟨completes_coordOfferReceive_adopted hs hawake hport hup hsender hnode, fun hhere => ?_, fun a hhere hne hno hst hvalid => ?_⟩,
    fun port g h rsv hrsv => ?_, fun port g h hno hst hvalid => ?_⟩
  · refine .of_go_self rfl ?_
    rw [fabricEnableProg, Prog.run_dyn, if_pos hon, Prog.run_nil]
  · refine .of_go_self rfl ?_
    rw [Prog.run_dyn, hnone, Prog.run_nil]
  · refine ⟨_, exec_coordOfferReceive hawake hport hup hsender hnode, ?_⟩
    rw [hhere]
    simp [Prog.run_when]
  · refine ⟨_, exec_coordOfferReceive hawake hport hup hsender hnode, ?_⟩
    rw [hhere]
    dsimp only
    rw [Prog.run_when, if_pos (by simpa using hne)]
    exact run_fabFault hs hst hno hvalid (by decide) _
  · refine .of_go rfl hawake ?_
    rw [if_pos hrsv]
    obtain ⟨hcount, -, hframe⟩ := run_discardPacket_header hs h
    exact ⟨hcount, hframe.1 .node (by decide) (by decide)⟩
  · refine .of_go rfl hawake ?_
    rw [if_neg (by simp)]
    exact run_fabFault hs hst hno hvalid (by decide) _

end Sys2Proof.Machine
end

section
/-! PROOF. O40: packets accepted, refused and counted (R349 to R353, R357, R358, R371, R373). -/

namespace Sys2Proof.Machine

/-! ### What a route depends on (R358 to R361) -/

section
variable {s t : State} (h : t.fab = s.fab)
include h

theorem State.port_congr (p : Nat) : t.port p = s.port p := by rw [State.port, h, State.port]

theorem State.linkUsable_congr (x y p : Nat) : t.linkUsable x y p = s.linkUsable x y p := by
  rw [State.linkUsable, State.port_congr h, h, State.linkUsable]

theorem pathUsable_congr (n : Nat) (own : Bool) (x y tx ty : Nat) : pathUsable t n own x y tx ty = pathUsable s n own x y tx ty := by
  induction n generalizing own x y with
  | zero => rfl
  | succ n ih => simp only [pathUsable, State.linkUsable_congr h, h, ih]

theorem findDetour_congr (x y p : Nat) (l : List Int) : findDetour t x y p l = findDetour s x y p l := by
  induction l with
  | nil => rfl
  | cons k l ih => simp only [findDetour, pathUsable_congr h, ih]

theorem routeTo_congr (x y tx ty : Nat) (pkt : XtfPacket) (here : Hop) : routeTo t x y tx ty pkt here = routeTo s x y tx ty pkt here := by
  simp only [routeTo, State.linkUsable_congr h, findDetour_congr h]

theorem routeUnicast_congr (x y : Nat) (pkt : XtfPacket) : routeUnicast t x y pkt = routeUnicast s x y pkt := by
  simp only [routeUnicast, State.guestEntry, State.port_congr h, h, routeTo_congr h]

theorem routeRect_congr (x y : Nat) (pkt : XtfPacket) : routeRect t x y pkt = routeRect s x y pkt := by
  simp only [routeRect, routeTo_congr h]

/-- Where a packet goes depends on the fabric, and for a tree packet on the domains and their children. -/
theorem routeHops_congr (hdom : ∀ d, t.dom d = s.dom d) (hchildren : ∀ d, t.children d = s.children d) (pkt : XtfPacket) :
    routeHops t pkt = routeHops s pkt := by
  have hhop (x y : Nat) : treeHop t x y pkt = treeHop s x y pkt := by
    funext p
    simp only [treeHop, State.linkUsable_congr h]
  have htree (x y : Nat) : routeTree t x y pkt = routeTree s x y pkt := by
    simp only [routeTree, hdom, hchildren, hhop]
  simp only [routeHops, State.here, h, routeUnicast_congr h, routeRect_congr h, htree]

theorem packetError_congr (hguest : ∀ p, t.guestAddr p = s.guestAddr p) (input : Nat) (pkt : XtfPacket) :
    packetError t input pkt = packetError s input pkt := by
  simp only [packetError, State.here, h, hguest] <;> rfl

end

/-! ### Shared steps -/

section
variable {s : State}

@[simp] theorem Prog.run_sendLinkctl (port : Nat) (c1 c2 : Byte) :
    (sendLinkctl port c1 c2).run s = (Act.out (linkOut port c1 c2)).apply s := rfl

theorem frame_atFabric (stamp : Time) (s : State) : Frame [.tim] [] s ((Prog.atFabric stamp).run s) :=
  Act.frame_noRegs (a := .tim _) List.mem_cons_self s

theorem run_discardAtPort_crc (htold : s.fab.firstTold = true) (port : Nat) (src : BitVec 16) :
    (discardAtPort port 0x01 src).run s = (Prog.count (F.FAB_P_CRC_CRC port) 1).run s := by
  rw [discardAtPort, Prog.run_seq, firstDiscard, Prog.run_dyn, htold]
  rfl

theorem run_discardAtPort_stomp (htold : s.fab.firstTold = true) (port : Nat) (src : BitVec 16) :
    (discardAtPort port 0x02 src).run s = (Prog.count (F.FAB_P_CRC_STOMP port) 1).run s := by
  rw [discardAtPort, Prog.run_seq, firstDiscard, Prog.run_dyn, htold]
  rfl

theorem run_nakOnce_told {port : Nat} (hnak : (s.port port).gapNak = true) : (nakOnce port).run s = s := by
  rw [nakOnce, Prog.run_dyn, if_pos hnak, Prog.run_nil]

/-- A count of a register leaves it one higher and nothing else (R9). -/
theorem run_count_one (hs : s.Canon) (f : Fld) (hhi : f.hi < 32) (hlo : f.lo ≤ f.hi) : let t := (Prog.count f 1).run s
    t.fld f = s.countUp f ∧ Frame [] [f.off] s t :=
  ⟨Prog.run_count_same f 1 s hs hhi hlo,
    (Prog.frame [] [f.off] (.count f 1) (fun _ _ => List.mem_singleton_self _) s hs).2⟩

theorem run_dispatchHops_deliver (input cls credits : Nat) (pkt : XtfPacket) :
    (dispatchHops input cls credits false [.deliver pkt]).run s = (returnCredits input cls credits).run
      ((deliverPacket pkt).run ((Act.fab (fun b => { b with nextHold := b.nextHold + 1, holds := b.holds })).apply s)) := rfl

end

/-- A reliable packet is taken under its LSEQ and acknowledged (R352). -/
theorem run_takeSeq {s : State} {port : Nat} {k : XtfPacket} (hp : port < s.fab.ports.length) (hcls : k.cls.toNat ≠ 0) :
    let u := (takeSeq port k).run s
    u.out = linkOut port 0x10 k.lseq :: s.out ∧ (u.port port).rxSeq = (s.port port).rxSeq + 1 ∧
      (∃ ports, u.fab = { s.fab with ports := ports }) ∧ Frame [.fab, .out] [] s u := by
  have hrun : (takeSeq port k).run s = (Act.out (linkOut port 0x10 k.lseq)).apply ((modPort port (fun q => { q with
      rxSeq := if k.cls.toNat = 0 then q.rxSeq else q.rxSeq + 1
      gapNak := if k.cls.toNat = 0 then q.gapNak else false
      held := modAt q.held k.cls.toNat (· + creditsOf k) })).run s) := by
    rw [takeSeq, Prog.run_seq, Prog.run_when, if_pos (by simpa using hcls)]
    rfl
  refine ⟨by rw [hrun]; rfl, ?_, ⟨_, by rw [hrun]; rfl⟩,
    Prog.frame_noRegs _ _ (by simp [takeSeq, sendLinkctl, modPort, Act.Within]) s⟩
  rw [hrun]
  refine (congrArg Port.rxSeq (port_modPort_same s port _ hp)).trans ?_
  exact if_neg hcls

theorem pumpPort_firstTold (p : Nat) (s : State) : ((pumpPort p).run s).fab.firstTold = s.fab.firstTold := by
  have hcredits (port cls n : Nat) (s : State) : ((returnCredits port cls n).run s).fab.firstTold = s.fab.firstTold := by
    rw [returnCredits, Prog.run_when]
    split <;> rfl
  have hcopy (hold n : Nat) (s : State) : ((copySent hold n).run s).fab.firstTold = s.fab.firstTold := by
    rw [copySent, Prog.run_dyn]
    split
    · rfl
    · split
      · exact hcredits _ _ _ _
      · rfl
  have hdrain (n : Nat) : ∀ s : State, ((drainPort n p).run s).fab.firstTold = s.fab.firstTold := by
    induction n with
    | zero => exact fun _ => rfl
    | succ n ih =>
      intro s
      rw [drainPort, Prog.run_dyn]
      split
      · rfl
      · exact (ih _).trans (hcopy _ _ _)
  rw [pumpPort, Prog.run_dyn]
  split
  · exact hdrain _ _
  · rfl

/-- Of a packet whose end is bad, and of which no copy goes on, only the credits are returned (R363, R371). -/
theorem run_dispatchHops_nothing {s : State} {input cls credits : Nat} {hops : List Hop}
    (hnone : hops.all (fun h => match h with | .send _ _ => false | _ => true) = true) :
    (dispatchHops input cls credits true hops).run s = (returnCredits input cls credits).run
      ((Act.fab (fun b => { b with nextHold := b.nextHold + 1, holds := b.holds })).apply s) := by
  have hstays (h : Hop) (hh : h ∈ hops) : ∀ p pkt, h ≠ .send p pkt := by
    rintro p pkt rfl
    simpa using List.all_eq_true.1 hnone _ hh
  have heach (f : Hop → Prog) (hf : ∀ h ∈ hops, ∀ t, (f h).run t = t) (t : State) : (Prog.each hops f).run t = t := by
    clear hnone hstays
    induction hops generalizing t with
    | nil => rfl
    | cons h l ih =>
      show (Prog.each l f).run ((f h).run t) = t
      rw [hf h List.mem_cons_self, ih fun h' hh => hf h' (List.mem_cons_of_mem h hh)]
  rw [dispatchHops, Prog.run_dyn]
  generalize hcopies : List.filter _ hops = copies
  have hnil : copies = [] := by
    rw [← hcopies]
    refine List.filter_eq_nil_iff.2 fun h hh => ?_
    cases h with
    | send p pkt => exact absurd rfl (hstays _ hh p pkt)
    | _ => simp
  rw [hnil, Prog.run_block_cons, Prog.run_block_cons, heach _ ?_, Prog.run_block_cons, Prog.run_block_cons, heach _ ?_]
  · rfl
  · intro h hh t
    cases h with
    | send p pkt => exact absurd rfl (hstays _ hh p pkt)
    | _ => rfl
  · intro h hh t
    cases h with
    | send p pkt => exact absurd rfl (hstays _ hh p pkt)
    | _ => rfl

/-! ### A good packet for this node -/

theorem completes_packetForward_here {s : State} (hs : s.Canon) (hawake : s.Awake) (hlen : s.fab.ports.length = 6) {port : Nat}
    {k : XtfPacket} (stamp : Time) (hport : port < 4) (hcarries : portCarries (s.port port) = true) (hcls : k.cls = 1)
    {a : BitVec 16} (hhere : s.here = some a) (hg : isGuest a = false) (hheader : headerOk k = true) (hmessage : messageOk k = true)
    (hhops : k.hops.toNat < 127) (hmode : k.mode = 0) (hdst : k.dst = BitVec.ofNat 32 a.toNat) (hdet : k.detoured = false)
    (hseq : k.lseq = (s.port port).rxSeq) (hroom : (s.port port).held.getD 1 0 + creditsOf k ≤ 32) :
    Completes (.packetForward port k (packetCrc k) stamp) s (fun t =>
      t.out = .deliver { k with hops := k.hops + 1 } :: linkOut port 0x10 k.lseq :: s.out ∧
      (t.port port).rxSeq = (s.port port).rxSeq + 1 ∧
      t.fld (F.FAB_P_RX_COUNT port) = s.countUp (F.FAB_P_RX_COUNT port) ∧
      Frame [.fab, .tim, .out] [(F.FAB_P_RX_COUNT port).off] s t) := by
  let pkt : XtfPacket := { k with hops := k.hops + 1 }
  let v := (Prog.atFabric stamp).run s
  let w := (Prog.count (F.FAB_P_RX_COUNT port) 1).run ((takeSeq port k).run v)
  have hfields : fieldsOk k = true := (Bool.and_eq_true_iff.1 hheader).1
  have hclsNat : k.cls.toNat = 1 := by rw [hcls]; rfl
  have hbuffer : bufferOf port k.cls.toNat = 32 := by rw [hclsNat]; rfl
  have hrun : (packetForwardProg port k (packetCrc k) stamp).run s = (acceptPacket port k).run w := by
    rw [packetForwardProg, Prog.run_seq, Prog.run_dyn, if_neg (by omega), if_neg ?_]
    · dsimp only
      rw [if_neg (by simp), if_neg (fun h => h.2 hseq), if_neg ?_]
      · rfl
      · rintro ⟨-, h⟩
        rw [hbuffer, hclsNat] at h
        exact absurd hroom (not_le.2 h)
    · rintro (h | h)
      · omega
      · rw [show ((Prog.atFabric stamp).run s).port port = s.port port from rfl, hcarries] at h
        cases h
  have hv : Frame [.tim] [] s v := frame_atFabric stamp s
  have hvc : v.Canon := hs.run _
  obtain ⟨htout, htport, ⟨ports, htfab⟩, htake⟩ := run_takeSeq (s := v) (port := port) (k := k)
    (by rw [show v.fab.ports.length = 6 from hlen]; omega) (by omega)
  generalize hu : (takeSeq port k).run v = u at *
  have huc : u.Canon := hu ▸ hvc.run _
  obtain ⟨hcount, hw⟩ : w.fld (F.FAB_P_RX_COUNT port) = u.countUp (F.FAB_P_RX_COUNT port) ∧ Frame [] [R.FAB_P_RX port] u w := by
    subst hu
    exact run_count_one huc (F.FAB_P_RX_COUNT port) (show 31 < 32 by decide) (show 0 ≤ 31 by decide)
  have hwfab : w.fab = u.fab := hw.1 .fab (by simp) (by decide)
  have hwhere : w.here = some a := by rw [State.here, hwfab, htfab]; exact hhere
  have hwout : w.out = u.out := hw.1 .out (by simp) (by decide)
  have hroute : routeHops w pkt = [.deliver pkt] := by
    refine routeHops_self hwhere hg hmode ?_ hdet
    rw [show pkt.dst = BitVec.ofNat 32 a.toNat from hdst]
    exact BitVec.eq_of_toNat_eq (by simp [Nat.mod_eq_of_lt (show a.toNat < 4294967296 by omega)])
  have herror : packetError w port k = none := by
    have h1 : ¬ (port = 4 ∨ port = 5) := by omega
    have h2 : ¬ 128 ≤ k.hops.toNat + 1 := by omega
    simp [packetError, hfields, hheader, h1, h2, hwhere]
  have haccept : (acceptPacket port k).run w = (returnCredits port pkt.cls.toNat (creditsOf pkt)).run
      ((Act.out (.deliver pkt)).apply ((Act.fab (fun b => { b with nextHold := b.nextHold + 1, holds := b.holds })).apply w)) := by
    rw [acceptPacket, Prog.run_dyn, herror]
    dsimp only
    rw [passedOn, if_pos hport, forwardPacket, Prog.run_dyn, hroute, run_dispatchHops_deliver,
      run_deliverPacket (pkt := pkt) hmessage (by rw [show pkt.cls = 1 from hcls]; decide)]
  refine .of_go rfl hawake ?_
  rw [hrun, haccept]
  have hports := returnCredits_portsBut port pkt.cls.toNat (creditsOf pkt)
    ((Act.out (.deliver pkt)).apply ((Act.fab (fun b => { b with nextHold := b.nextHold + 1, holds := b.holds })).apply w)) port
  have hx : Frame [.fab, .out] [] w
      ((Act.out (.deliver pkt)).apply ((Act.fab (fun b => { b with nextHold := b.nextHold + 1, holds := b.holds })).apply w)) :=
    Prog.frame_noRegs [.fab, .out] (.seq (.act (.fab _)) (.act (.out _))) (by simp [Act.Within]) w
  have hxout : ((Act.out (.deliver pkt)).apply ((Act.fab (fun b => { b with nextHold := b.nextHold + 1, holds := b.holds })).apply
      w)).out = .deliver pkt :: w.out := rfl
  have hxport : ((Act.out (.deliver pkt)).apply ((Act.fab (fun b => { b with nextHold := b.nextHold + 1, holds := b.holds })).apply
      w)).port port = w.port port := rfl
  generalize hxx : (Act.out (.deliver pkt)).apply
    ((Act.fab (fun b => { b with nextHold := b.nextHold + 1, holds := b.holds })).apply w) = x at *
  have hlast : Frame [.fab] [] x ((returnCredits port pkt.cls.toNat (creditsOf pkt)).run x) :=
    Prog.frame_noRegs _ _ (by simp [returnCredits, modPort, Act.Within]) x
  refine ⟨?_, ?_, ?_, (hv.mono (by simp) (by simp)).trans ((htake.mono (by simp) (by simp)).trans
    ((hw.mono (by simp) (by simp [F.FAB_P_RX_COUNT])).trans ((hx.mono (by simp) (by simp)).trans
      (hlast.mono (by simp) (by simp)))))⟩
  · rw [hlast.1 .out (by decide) (by decide), hxout, hwout, htout]
    rfl
  · obtain ⟨back, held, hback⟩ := hports
    rw [hback, hxport, State.port_congr hwfab]
    exact htport
  · rw [hlast.fld _ List.not_mem_nil, hx.fld _ List.not_mem_nil, hcount, State.countUp, htake.fld _ List.not_mem_nil,
      hv.fld _ List.not_mem_nil, State.countUp]

/-! ### Packets that are not taken (R349, R371, R373) -/

section
variable {s : State} (hs : s.Canon) (hawake : s.Awake) {port : Nat} {k : XtfPacket} (hcarries : portCarries (s.port port) = true)
  (hcls : k.cls = 1)

include hawake hcarries hcls in
theorem exec_badPacketReceive_form : exec (.badPacketReceive port k .form) s =
    .next ((nakOnce port).run ((discardAtPort port 0x01 k.src).run s)) := by
  refine (congrArg _ (Prog.go_awake _ s hawake)).trans ?_
  rw [Prog.run_guard, if_pos hcarries, Prog.run_dyn, hcls]
  rfl

include hawake hcarries hcls in
theorem exec_badPacketReceive_crc : exec (.badPacketReceive port k .crc) s =
    .next ((nakOnce port).run ((discardAtPort port 0x01 k.src).run ((cutThrough port k).run s))) := by
  refine (congrArg _ (Prog.go_awake _ s hawake)).trans ?_
  rw [Prog.run_guard, if_pos hcarries, Prog.run_dyn, hcls]
  rfl

/-- A discard at a port whose gap has its NAK is only counted, once the first has been told (R352, R373). -/
theorem run_discard_told {s : State} (hs : s.Canon) (htold : s.fab.firstTold = true) {port : Nat}
    (hnak : (s.port port).gapNak = true) (src : BitVec 16) :
    (nakOnce port).run ((discardAtPort port 0x01 src).run s) = (Prog.count (F.FAB_P_CRC_CRC port) 1).run s := by
  rw [run_discardAtPort_crc htold]
  obtain ⟨-, hframe⟩ := run_count_one hs (F.FAB_P_CRC_CRC port) (show 15 < 32 by decide) (show 0 ≤ 15 by decide)
  exact run_nakOnce_told (by rw [State.port_congr (hframe.1 .fab (by simp) (by decide))]; exact hnak)

/-- A packet whose LSEQ is not the expected one goes nowhere ahead of its end (R371). -/
theorem run_cutThrough_other {s : State} {port : Nat} {k : XtfPacket} (hseq : k.lseq ≠ (s.port port).rxSeq) : (cutThrough port k).run s = s := by
  rw [cutThrough, Prog.run_dyn, if_neg (fun h => hseq h.2.1)]
  rfl

/-- The first discard at a port is kept with its code and sender and raises event 70 (R373). -/
theorem completes_badPacketReceive_first (hs : s.Canon) (hawake : s.Awake) (hcarries : portCarries (s.port port) = true)
    (hcls : k.cls = 1) (hfirst : s.fab.firstTold = false) (hnak : (s.port port).gapNak = true) :
    Completes (.badPacketReceive port k .form) s (fun t =>
      t.fld F.FAB_FIRST_DISCARD_CODE = 1 ∧ t.fld F.FAB_FIRST_DISCARD_SRC = k.src.toNat ∧
      t.fld (F.FAB_P_CRC_CRC port) = s.countUp (F.FAB_P_CRC_CRC port) ∧ t.fab.firstTold = true ∧ Pended 70 s t) := by
  let v := (Act.fab (fun b => { b with firstTold := true })).apply s
  let w := (Prog.setFld F.FAB_FIRST_DISCARD_SRC k.src.toNat).run ((Prog.setFld F.FAB_FIRST_DISCARD_CODE 1).run v)
  have hrun : (discardAtPort port 0x01 k.src).run s = (Prog.count (F.FAB_P_CRC_CRC port) 1).run ((Prog.raise 70).run w) := by
    rw [discardAtPort, Prog.run_seq, firstDiscard, Prog.run_dyn, hfirst]
    rfl
  have hv : v.Canon := hs.apply _
  have hframe : Frame [.fab] [R.FAB_FIRST_DISCARD] s w :=
    (Prog.frame [.fab] [R.FAB_FIRST_DISCARD] (.block [.act (.fab _), .setFld F.FAB_FIRST_DISCARD_CODE 1,
      .setFld F.FAB_FIRST_DISCARD_SRC k.src.toNat])
      (by simp [F.FAB_FIRST_DISCARD_CODE, F.FAB_FIRST_DISCARD_SRC, Act.Within]) s hs).2
  have hcode : w.fld F.FAB_FIRST_DISCARD_CODE = 1 :=
    (Prog.run_setFld_other F.FAB_FIRST_DISCARD_SRC F.FAB_FIRST_DISCARD_CODE _ _ (hv.run _) (by decide) (by decide)
      (by decide)).trans (Prog.run_setFld_same F.FAB_FIRST_DISCARD_CODE 1 v hv (by decide) (by decide))
  have hsrc : w.fld F.FAB_FIRST_DISCARD_SRC = k.src.toNat :=
    (Prog.run_setFld_same F.FAB_FIRST_DISCARD_SRC _ _ (hv.run _) (by decide) (by decide)).trans (Nat.mod_eq_of_lt k.src.isLt)
  have hport : w.port port = s.port port := rfl
  have htold : w.fab.firstTold = true := rfl
  have hwc : w.Canon := (hv.run _).run _
  refine ⟨_, exec_badPacketReceive_form hawake hcarries hcls, ?_⟩
  rw [hrun]
  generalize w = w at *
  have hpend := pended_run_raise 70 hframe (by decide) (by decide)
  have hraise : Frame [.freeCount, .ctl] [] w ((Prog.raise 70).run w) := Prog.Does.frame_noRegs (by simp)
  have hxc : ((Prog.raise 70).run w).Canon := hwc.run _
  generalize (Prog.raise 70).run w = x at *
  obtain ⟨hcount, hlast⟩ := run_count_one hxc (F.FAB_P_CRC_CRC port) (show 15 < 32 by decide) (show 0 ≤ 15 by decide)
  have hoff : F.FAB_FIRST_DISCARD_CODE.off ∉ [(F.FAB_P_CRC_CRC port).off] := by
    simp only [List.mem_singleton]
    show ¬ 0x500030 = 0x500100 + 0x20 * port
    omega
  have hfab : ((Prog.count (F.FAB_P_CRC_CRC port) 1).run x).fab = w.fab :=
    Eq.trans (hlast.1 .fab (by simp) (by decide)) (hraise.1 .fab (by simp) (by decide))
  rw [run_nakOnce_told (by rw [State.port_congr hfab, hport]; exact hnak)]
  refine ⟨?_, ?_, ?_, by rw [hfab]; exact htold, ?_⟩
  · rw [hlast.fld _ hoff, hraise.fld _ List.not_mem_nil, hcode]
  · rw [hlast.fld F.FAB_FIRST_DISCARD_SRC hoff, hraise.fld _ List.not_mem_nil, hsrc]
  · rw [hcount, State.countUp, hraise.fld _ List.not_mem_nil, hframe.fld _ (by
      simp only [List.mem_singleton]
      show ¬ 0x500100 + 0x20 * port = 0x500030
      omega), State.countUp]
  · unfold Pended at hpend ⊢
    rw [show _ = x.ctl from hlast.1 .ctl (by simp) (by decide), hpend]

section
variable (htold : s.fab.firstTold = true)
include hs hawake hcarries hcls htold

/-- Later discards are only counted, with one NAK a gap (R352, R373). -/
theorem completes_badPacketReceive_later (hnak : (s.port port).gapNak = true) :
    Completes (.badPacketReceive port k .form) s (fun t =>
      t.fld (F.FAB_P_CRC_CRC port) = s.countUp (F.FAB_P_CRC_CRC port) ∧ Frame [] [(F.FAB_P_CRC_CRC port).off] s t) := by
  refine ⟨_, exec_badPacketReceive_form hawake hcarries hcls, ?_⟩
  have hcount := run_count_one hs (F.FAB_P_CRC_CRC port) (show 15 < 32 by decide) (show 0 ≤ 15 by decide)
  rw [run_discard_told hs htold hnak]
  exact hcount

theorem completes_badPacketReceive_nak (hlen : port < s.fab.ports.length) (hnak : (s.port port).gapNak = false) :
    Completes (.badPacketReceive port k .form) s (fun t =>
      (t.port port).gapNak = true ∧ t.out = linkOut port 0x20 (s.port port).rxSeq :: s.out ∧
      t.fld (F.FAB_P_CRC_CRC port) = s.countUp (F.FAB_P_CRC_CRC port) ∧
      Frame [.fab, .out] [(F.FAB_P_CRC_CRC port).off] s t) := by
  refine ⟨_, exec_badPacketReceive_form hawake hcarries hcls, ?_⟩
  obtain ⟨hcount, hframe⟩ := run_count_one hs (F.FAB_P_CRC_CRC port) (show 15 < 32 by decide) (show 0 ≤ 15 by decide)
  rw [run_discardAtPort_crc htold]
  generalize (Prog.count (F.FAB_P_CRC_CRC port) 1).run s = u at *
  have hfab : u.fab = s.fab := hframe.1 .fab (by simp) (by decide)
  have hrun : (nakOnce port).run u = (modPort port (fun q => { q with gapNak := true })).run
      ((Act.out (linkOut port 0x20 (s.port port).rxSeq)).apply u) := by
    rw [nakOnce, Prog.run_dyn, State.port_congr hfab, hnak]
    rfl
  have hlast : Frame [.out, .fab] [] u ((modPort port (fun q => { q with gapNak := true })).run
      ((Act.out (linkOut port 0x20 (s.port port).rxSeq)).apply u)) :=
    Prog.frame_noRegs _ (.seq (.act (.out _)) (modPort port _)) (by simp [modPort, Act.Within]) u
  rw [hrun]
  refine ⟨?_, ?_, ?_, (hframe.mono (by simp) (by simp)).trans (hlast.mono (by simp) (by simp))⟩
  · rw [port_modPort_same _ _ _ (by simpa [hfab] using hlen)]
  · rw [modPort_out, Act.out_out, show u.out = s.out from hframe.1 .out (by simp) (by decide)]
  · rw [hlast.fld _ List.not_mem_nil, hcount]

theorem completes_badPacketReceive_crc (hnak : (s.port port).gapNak = true) (hseq : k.lseq ≠ (s.port port).rxSeq) :
    Completes (.badPacketReceive port k .crc) s (fun t =>
      t.fld (F.FAB_P_CRC_CRC port) = s.countUp (F.FAB_P_CRC_CRC port) ∧ Frame [] [(F.FAB_P_CRC_CRC port).off] s t) := by
  refine ⟨_, exec_badPacketReceive_crc hawake hcarries hcls, ?_⟩
  have hcount := run_count_one hs (F.FAB_P_CRC_CRC port) (show 15 < 32 by decide) (show 0 ≤ 15 by decide)
  rw [run_cutThrough_other hseq, run_discard_told hs htold hnak]
  exact hcount

/-- A second packet of a gap that has its NAK changes nothing (R352). -/
theorem completes_packetForward_gap (hport : port < 6) (hnak : (s.port port).gapNak = true) (hseq : k.lseq ≠ (s.port port).rxSeq)
    (stamp : Time) : Completes (.packetForward port k (packetCrc k) stamp) s (Frame [.tim] [] s) := by
  refine .of_go rfl hawake ?_
  have hclsNat : k.cls.toNat ≠ 0 := by rw [hcls]; decide
  have hv := frame_atFabric stamp s
  have hv' : ((Prog.atFabric stamp).run s).fab = s.fab := rfl
  rw [packetForwardProg, Prog.run_seq, Prog.run_dyn]
  generalize (Prog.atFabric stamp).run s = v at *
  rw [if_neg (by omega), State.port_congr hv', hcarries, if_neg (by simp; omega)]
  dsimp only
  rw [if_neg (by simp), if_pos ⟨hclsNat, hseq⟩, run_nakOnce_told (by rw [State.port_congr hv']; exact hnak)]
  exact hv

theorem completes_packetForward_crc (hport : port < 6) (hnak : (s.port port).gapNak = true) (hseq : k.lseq ≠ (s.port port).rxSeq)
    (stamp : Time) {crc : Word} (hcrc : crc ≠ packetCrc k) : Completes (.packetForward port k crc stamp) s (fun t =>
      t.fld (F.FAB_P_CRC_CRC port) = s.countUp (F.FAB_P_CRC_CRC port) ∧ Frame [.tim] [(F.FAB_P_CRC_CRC port).off] s t) := by
  have hclsNat : (k.cls.toNat != 0) = true := by rw [hcls]; decide
  have hv := frame_atFabric stamp s
  have hvc : ((Prog.atFabric stamp).run s).Canon := hs.run _
  have hv' : ((Prog.atFabric stamp).run s).fab = s.fab := rfl
  have hrun : (packetForwardProg port k crc stamp).run s =
      (Prog.count (F.FAB_P_CRC_CRC port) 1).run ((Prog.atFabric stamp).run s) := by
    rw [packetForwardProg, Prog.run_seq, Prog.run_dyn]
    generalize (Prog.atFabric stamp).run s = v at *
    rw [if_neg (by omega), State.port_congr hv', hcarries, if_neg (by simp; omega)]
    dsimp only
    rw [if_pos hcrc, Prog.run_block_cons, run_cutThrough_other (by rw [State.port_congr hv']; exact hseq), Prog.run_block_cons,
      Prog.run_block_cons, Prog.run_when, if_pos hclsNat, Prog.run_block_nil,
      run_discard_told hvc (by rw [hv']; exact htold) (by rw [State.port_congr hv']; exact hnak)]
  refine .of_go rfl hawake ?_
  rw [hrun]
  generalize (Prog.atFabric stamp).run s = v at *
  obtain ⟨hcount, hframe⟩ := run_count_one hvc (F.FAB_P_CRC_CRC port) (show 15 < 32 by decide) (show 0 ≤ 15 by decide)
  refine ⟨?_, (hv.mono (fun _ => id) (by simp)).trans (hframe.mono (by simp) (fun _ => id))⟩
  rw [hcount, State.countUp, hv.fld _ List.not_mem_nil, State.countUp]

/-- A COMMIT packet that went on ahead of its bad CRC ends in EOP_BAD (R352, R371). -/
theorem completes_badPacketReceive_cutThrough (hlen : s.fab.ports.length = 6) (hport : port < 6)
    (hnak : (s.port port).gapNak = true) {p : Nat} (hp : p < 6) (hseq : k.lseq = (s.port port).rxSeq)
    (herror : packetError s port k = none) (hroute : routeHops s (passedOn port k) = [.send p (passedOn port k)])
    (hout : portCarries (s.port p) = true) (hqueue : (s.port p).queue = []) (hroom : (s.port p).unacked.length < 64)
    (hcredits : creditsOf k ≤ creditsFree (s.port p) 1) : Completes (.badPacketReceive port k .crc) s (fun t =>
      t.out = packetOut p { pkt := { passedOn port k with lseq := (s.port p).txSeq }, input := port, bad := true } :: s.out ∧
      t.fld (F.FAB_P_CRC_CRC port) = s.countUp (F.FAB_P_CRC_CRC port) ∧
      Frame [.fab, .out] [(F.FAB_P_CRC_CRC port).off, (F.FAB_P_TX_COUNT p).off] s t) := by
  let c : Queued := { pkt := passedOn port k, input := port, bad := true }
  have hpassed : (passedOn port k).cls = k.cls ∧ creditsOf (passedOn port k) = creditsOf k := by
    unfold passedOn
    split <;> exact ⟨rfl, rfl⟩
  have hclsNat : (passedOn port k).cls.toNat = 1 := by rw [hpassed.1, hcls]; rfl
  have hcut : (cutThrough port k).run s = (pumpPort p).run ((enqueue p c).run s) := by
    rw [cutThrough, Prog.run_dyn, if_pos ⟨hcls, hseq, by rw [herror]; rfl⟩, hroute]
    rfl
  have hvport : ((enqueue p c).run s).port p = { s.port p with queue := [c] } := by
    rw [enqueue, port_modPort_same _ _ _ (by rw [hlen]; exact hp), hqueue]
    rfl
  have hvother (q : Nat) (hq : q ≠ p) : ((enqueue p c).run s).port q = s.port q := port_modPort_other _ _ _ _ hq
  have hvframe : Frame [.fab] [] s ((enqueue p c).run s) := Prog.frame_noRegs _ _ (by simp [enqueue, modPort, Act.Within]) s
  have hvlen : p < ((enqueue p c).run s).fab.ports.length := by
    show p < (modAt _ p _).length
    simp [modAt_eq_modify, hlen, hp]
  have hvtold : ((enqueue p c).run s).fab.firstTold = true := htold
  have hvc : ((enqueue p c).run s).Canon := hs.run _
  refine ⟨_, exec_badPacketReceive_crc hawake hcarries hcls, ?_⟩
  rw [hcut]
  generalize (enqueue p c).run s = v at *
  have hsend : canSend (v.port p) c = true := by
    rw [hvport]
    refine Bool.and_eq_true_iff.2 ⟨decide_eq_true ?_, Bool.or_eq_true_iff.2 (.inr (decide_eq_true hroom))⟩
    show creditsOf (passedOn port k) ≤ creditsFree _ (passedOn port k).cls.toNat
    rw [hclsNat, hpassed.2]
    exact hcredits
  obtain ⟨hsent, -, hports, hpump⟩ := run_pumpPort_single hvc hvlen (by rw [hvport]; exact hout) (by rw [hvport])
    (show port < 7 by omega) hsend
  have hutold : ((pumpPort p).run v).fab.firstTold = true := (pumpPort_firstTold p v).trans hvtold
  have huc : ((pumpPort p).run v).Canon := hvc.run _
  generalize (pumpPort p).run v = u at *
  have hunak : (u.port port).gapNak = true := by
    obtain ⟨back, held, hu⟩ := hports port
    rw [hu]
    by_cases hpp : port = p
    · subst hpp
      rw [port_modPort_same _ _ _ hvlen, hvport]
      exact hnak
    · rw [port_modPort_other _ _ _ _ hpp, hvother port hpp]
      exact hnak
  rw [run_discard_told huc hutold hunak]
  obtain ⟨hcount, hlast⟩ := run_count_one huc (F.FAB_P_CRC_CRC port) (show 15 < 32 by decide) (show 0 ≤ 15 by decide)
  refine ⟨?_, ?_, (hvframe.mono (by simp) (by simp)).trans ((hpump.mono (fun _ => id) (by simp [F.FAB_P_TX_COUNT])).trans
    (hlast.mono (by simp) (by simp)))⟩
  · rw [hlast.1 .out (by simp) (by decide), hsent, show v.out = s.out from hvframe.1 .out (by simp) (by decide), hvport]
    have hnumber : (startPacket { s.port p with queue := [c] } c).2.pkt =
        { passedOn port k with lseq := if (passedOn port k).cls.toNat = 0 then 0 else (s.port p).txSeq } := rfl
    rw [hclsNat] at hnumber
    exact congrArg (fun pkt => packetOut p { pkt := pkt, input := port, bad := true } :: s.out) hnumber
  · rw [hcount, State.countUp, hpump.fld _ (by
      simp only [List.mem_singleton]
      show ¬ 0x500100 + 0x20 * port = 0x50010C + 0x20 * p
      omega), hvframe.fld _ List.not_mem_nil, State.countUp]

/-- A stomped packet is acknowledged and delivers nothing (R371). -/
theorem completes_badPacketReceive_stomped (hport : port < 6) (hlen : port < s.fab.ports.length) (hseq : k.lseq = (s.port port).rxSeq)
    (hstays : (routeHops s (passedOn port k)).all (fun h => match h with | .send _ _ => false | _ => true) = true) :
    Completes (.badPacketReceive port k .stomped) s (fun t =>
      (t.port port).rxSeq = (s.port port).rxSeq + 1 ∧ t.out = linkOut port 0x10 k.lseq :: s.out ∧
      t.fld (F.FAB_P_CRC_STOMP port) = s.countUp (F.FAB_P_CRC_STOMP port) ∧
      Frame [.fab, .out] [(F.FAB_P_CRC_STOMP port).off] s t) := by
  have hclsNat : k.cls.toNat ≠ 0 := by rw [hcls]; decide
  let u := (Prog.count (F.FAB_P_CRC_STOMP port) 1).run s
  let hops := if k.cls = 1 ∧ (packetError u port k).isNone then routeHops u (passedOn port k) else []
  obtain ⟨hcount, hframe⟩ : u.fld (F.FAB_P_CRC_STOMP port) = s.countUp (F.FAB_P_CRC_STOMP port) ∧
    Frame [] [(F.FAB_P_CRC_STOMP port).off] s u := run_count_one hs (F.FAB_P_CRC_STOMP port) (show 31 < 32 by decide)
      (show 16 ≤ 31 by decide)
  have hrun : exec (.badPacketReceive port k .stomped) s =
      .next ((dispatchHops port k.cls.toNat (creditsOf k) true hops).run ((takeSeq port k).run u)) := by
    refine (congrArg _ (Prog.go_awake _ s hawake)).trans ?_
    rw [Prog.run_guard, if_pos hcarries, Prog.run_dyn]
    dsimp only
    rw [if_neg (fun h => h.2 hseq), Prog.run_block_cons, run_discardAtPort_stomp htold]
    rfl
  have hfab : u.fab = s.fab := hframe.1 .fab (by simp) (by decide)
  have htim : u.tim = s.tim := hframe.1 .tim (by simp) (by decide)
  have hdom (d : Bool) : u.dom d = s.dom d := by rw [State.dom, htim, State.dom]
  have hvalid (p : Nat) : u.flag (F.TIM_ASYM_VALID p) = s.flag (F.TIM_ASYM_VALID p) := by
    refine hframe.flag _ ?_
    simp only [List.mem_singleton]
    show ¬ 0x600040 + 0x4 * p = 0x500100 + 0x20 * port
    omega
  have hchildren (d : Bool) : u.children d = s.children d := by
    unfold State.children
    refine List.filter_congr fun p _ => ?_
    rw [hvalid p, hdom, htim]
  have hroute : routeHops u (passedOn port k) = routeHops s (passedOn port k) := routeHops_congr hfab hdom hchildren _
  have hnone : hops.all (fun h => match h with | .send _ _ => false | _ => true) = true := by
    show (if _ then _ else _ : List Hop).all _ = true
    split
    · rw [hroute]; exact hstays
    · rfl
  obtain ⟨hout, hrx, -, htake⟩ := run_takeSeq (s := u) (port := port) (k := k) (by rwa [hfab]) hclsNat
  refine ⟨_, hrun, ?_⟩
  rw [run_dispatchHops_nothing hnone]
  generalize hw : (takeSeq port k).run u = w at *
  have hports := returnCredits_portsBut port k.cls.toNat (creditsOf k)
    ((Act.fab (fun b => { b with nextHold := b.nextHold + 1, holds := b.holds })).apply w) port
  have hlast : Frame [.fab] [] w ((returnCredits port k.cls.toNat (creditsOf k)).run
      ((Act.fab (fun b => { b with nextHold := b.nextHold + 1, holds := b.holds })).apply w)) :=
    Prog.frame_noRegs _ (.seq (.act (.fab _)) (returnCredits port k.cls.toNat (creditsOf k)))
      (by simp [returnCredits, modPort, Act.Within]) w
  refine ⟨?_, ?_, ?_, (hframe.mono (by simp) (by simp)).trans ((htake.mono (by simp) (by simp)).trans
    (hlast.mono (by simp) (by simp)))⟩
  · obtain ⟨back, held, hback⟩ := hports
    rw [hback]
    show (w.port port).rxSeq = _
    rw [hrx, State.port_congr hfab]
  · rw [hlast.1 .out (by decide) (by decide), hout, show u.out = s.out from hframe.1 .out (by simp) (by decide)]
  · rw [hlast.fld _ List.not_mem_nil, htake.fld _ List.not_mem_nil, hcount]

end

end

/-- Settles O40, clause by clause. -/
theorem packetsAccepted : Obligations.PacketsAccepted := by
  unfold Obligations.PacketsAccepted
  intro s port k stamp hinv hawake hlen hport hcarries hcls
  have hs := hinv.canon
  have hin : port < s.fab.ports.length := by omega
  refine ⟨fun a hp hhere hg hheader hmessage hhops hmode hdst hdet hseq hroom =>
      completes_packetForward_here hs hawake hlen stamp hp hcarries hcls hhere hg hheader hmessage hhops hmode hdst hdet hseq hroom,
    completes_badPacketReceive_first hs hawake hcarries hcls, fun htold hnak =>
      ⟨completes_badPacketReceive_later hs hawake hcarries hcls htold hnak,
       fun hseq => ⟨completes_badPacketReceive_crc hs hawake hcarries hcls htold hnak hseq,
         completes_packetForward_gap hs hawake hcarries hcls htold hport hnak hseq stamp,
         fun crc => completes_packetForward_crc hs hawake hcarries hcls htold hport hnak hseq stamp⟩,
       fun p hp hseq herror hroute hout hqueue hroom hcredits => completes_badPacketReceive_cutThrough hs hawake hcarries hcls htold
         hlen hport hnak hp hseq herror hroute hout hqueue hroom hcredits⟩,
    fun htold hnak => completes_badPacketReceive_nak hs hawake hcarries hcls htold hin hnak, fun htold hseq hall => ?_⟩
  exact completes_badPacketReceive_stomped hs hawake hcarries hcls htold hport hin hseq hall

end Sys2Proof.Machine
end

section
/-! PROOF. O41: ACK, NAK, time-out and credit of a link (R352, R353). -/

namespace Sys2Proof.Machine

/-- A port with nothing to send sends nothing. -/
theorem run_pumpPort_empty {s : State} {p : Nat} (hqueue : (s.port p).queue = []) : (pumpPort p).run s = s := by
  rw [pumpPort, Prog.run_dyn, hqueue]
  split <;> rfl

theorem sendPacket_fab (p : Nat) (c : Queued) (s : State) : ((sendPacket p c).run s).fab = s.fab := rfl

theorem recordFab_port (code p q : Nat) (s : State) : ((recordFab code p).run s).port q = s.port q := rfl

theorem run_each_sendPacket (p : Nat) (l : List Queued) {s : State} (hs : s.Canon) :
    let t := (Prog.each l (sendPacket p)).run s
    t.out = (l.map (packetOut p)).reverse ++ s.out ∧ Frame [.out] [R.FAB_P_TX p] s t := by
  refine ⟨?_, (Prog.frame _ _ _ (by simp [sendPacket, F.FAB_P_TX_COUNT]) s hs).2⟩
  clear hs
  induction l generalizing s with
  | nil => rfl
  | cons c l ih =>
    rw [Prog.run_each_cons, ih, List.map_cons, List.reverse_cons, List.append_assoc]
    rfl

/-- A port that stops and has nothing that is routed again (R354). -/
theorem run_portOut_empty {s : State} {p : Nat} (hcarries : portCarries (s.port p) = true) (hqueue : (s.port p).queue = [])
    (hunacked : (s.port p).unacked.filter (fun c => c.pkt.cls == 2 || c.pkt.cls == 3) = []) (st : PortState) (t : Time) :
    (portOut p st t).run s = (modPort p (fun q =>
      { q with st := st, unacked := [], queue := [], assigned := false, downSince := some t })).run s := by
  rw [portOut, Prog.run_dyn, if_pos hcarries, portStop, Prog.run_dyn]
  dsimp only
  rw [hqueue, List.append_nil, hunacked]
  rfl

/-- A first retrain of a port that has nothing to route again (R317, R318, R354). -/
theorem run_retrainPort_empty {s : State} {p : Nat} (hp : p < s.fab.ports.length) (hcarries : portCarries (s.port p) = true)
    (hqueue : (s.port p).queue = [])
    (hunacked : (s.port p).unacked.filter (fun c => c.pkt.cls == 2 || c.pkt.cls == 3) = [])
    (hnone : s.sds.retrains.getD p [] = []) (t : Time) : let u := (retrainPort p t).run s
    u.out = s.out ∧ u.fab.recorded = s.fab.recorded ∧ (u.port p).st = .training ∧ (u.port p).unacked = [] := by
  let v := (Prog.raiseAt 379 t).run ((Act.sds (fun d => { d with
    retrains := d.retrains.set p ([] ++ [t]), firstTs := d.firstTs.set p none })).apply s)
  let tail : Prog := .seq (dropRecal (portLanes p)) (.each (portLanes p) (fun i => .dyn (fun s =>
        if (s.lane i).st == .off || (s.lane i).st == .failed then .nil else restartLane i t)))
  have hrun : (retrainPort p t).run s = tail.run ((portOut p .training t).run v) := by
    rw [retrainPort, Prog.run_dyn, hnone]
    rfl
  have hfab : v.fab = s.fab := rfl
  have hout : v.out = s.out := rfl
  rw [hrun]
  generalize v = v at *
  have hvport : v.port p = s.port p := State.port_congr hfab p
  rw [run_portOut_empty (by rwa [hvport]) (by rwa [hvport]) (by rwa [hvport])]
  have hwport := port_modPort_same v p (fun q =>
    { q with st := .training, unacked := [], queue := [], assigned := false, downSince := some t }) (by rwa [hfab])
  have hwrec : ((modPort p (fun q =>
    { q with st := .training, unacked := [], queue := [], assigned := false, downSince := some t })).run v).fab.recorded =
      s.fab.recorded := Eq.trans (b := v.fab.recorded) rfl (congrArg Fabric.recorded hfab)
  have hwout : ((modPort p (fun q =>
    { q with st := .training, unacked := [], queue := [], assigned := false, downSince := some t })).run v).out = s.out := hout
  generalize (modPort p _).run v = w at *
  have hlast : Frame [.sds] [] w (tail.run w) :=
    Prog.frame_noRegs _ _ (by simp [tail, dropRecal, restartLane, modLane, Act.Within]) w
  have hlastFab : (tail.run w).fab = w.fab := hlast.1 .fab (by decide) (by decide)
  refine ⟨Eq.trans (hlast.1 .out (by decide) (by decide)) hwout, by rw [hlastFab, hwrec], ?_, ?_⟩
  · rw [State.port_congr hlastFab, hwport]
  · rw [State.port_congr hlastFab, hwport]

section
variable {s : State} (hs : s.Canon) (hawake : s.Awake) (hlen : s.fab.ports.length = 6) {port : Nat} (hport : port < 6)
  (hcarries : portCarries (s.port port) = true) (hqueue : (s.port port).queue = [])

/-- A change of a port that has nothing to send. -/
theorem run_modPort_pump {s : State} {port : Nat} (hp : port < s.fab.ports.length) {f : Port → Port}
    (hqueue : (f (s.port port)).queue = []) : (pumpPort port).run ((modPort port f).run s) = (modPort port f).run s :=
  run_pumpPort_empty (by rw [port_modPort_same _ _ _ hp, hqueue])

include hs hawake hlen hport hcarries hqueue

theorem completes_ackReceive (lseq : Byte) : Completes (.ackReceive port lseq (0x10 ^^^ lseq ^^^ 0xC3)) s (fun t =>
    (t.port port).unacked = ackDrop lseq (s.port port).unacked ∧ Frame [.fab] [] s t) := by
  have hp : port < s.fab.ports.length := hlen ▸ hport
  refine .of_go rfl hawake ?_
  rw [Prog.run_guard, if_pos (by simp [hcarries, linkctlOk]), Prog.run_block_cons, Prog.run_block_cons, Prog.run_block_nil,
    Prog.run_dyn]
  dsimp only
  rw [run_modPort_pump hp hqueue]
  refine ⟨by rw [port_modPort_same _ _ _ hp], Prog.frame_noRegs _ _ (by simp [modPort, Act.Within]) s⟩

/-- What the packets sent again leave before the limit of eight (R352). -/
theorem run_resendAll (hresends : (s.port port).resends < 7) (hunacked : (s.port port).unacked ≠ []) (stamp : Time) :
    let t := (resendAll port stamp).run s
    t.out = ((s.port port).unacked.map (packetOut port)).reverse ++ s.out ∧
      t.port port = { s.port port with resends := (s.port port).resends + 1 } ∧
      t.fld (F.FAB_P_REPLAY_REPLAY port) = s.countUp (F.FAB_P_REPLAY_REPLAY port) ∧
      t.fld (F.FAB_P_REPLAY_TIMEOUT port) = s.fld (F.FAB_P_REPLAY_TIMEOUT port) ∧
      Frame [.fab, .out] [R.FAB_P_REPLAY port, R.FAB_P_TX port] s t := by
  have hrun : (resendAll port stamp).run s = (Prog.each (s.port port).unacked (sendPacket port)).run
      ((modPort port (fun q => { q with resends := q.resends + 1 })).run
        ((Prog.count (F.FAB_P_REPLAY_REPLAY port) 1).run s)) := by
    rw [resendAll, Prog.run_dyn]
    dsimp only
    rw [Prog.run_when, if_pos (by simpa using hunacked), Prog.run_block_cons, Prog.run_block_cons, Prog.run_block_cons,
      Prog.run_block_cons, Prog.run_when, if_neg (by simp; omega)]
    rfl
  obtain ⟨hcount, hu⟩ := run_count_one hs (F.FAB_P_REPLAY_REPLAY port) (show 15 < 32 by decide) (show 0 ≤ 15 by decide)
  have hother : ((Prog.count (F.FAB_P_REPLAY_REPLAY port) 1).run s).fld (F.FAB_P_REPLAY_TIMEOUT port) =
      s.fld (F.FAB_P_REPLAY_TIMEOUT port) :=
    Prog.run_count_other _ _ _ _ hs (show 15 < 32 by decide) (show 0 ≤ 15 by decide) (.inr (.inl (show 15 < 16 by decide)))
  have huc : ((Prog.count (F.FAB_P_REPLAY_REPLAY port) 1).run s).Canon := hs.run _
  rw [hrun]
  generalize (Prog.count (F.FAB_P_REPLAY_REPLAY port) 1).run s = u at *
  have hfab : u.fab = s.fab := hu.1 .fab (by simp) (by decide)
  have hvport := port_modPort_same u port (fun q => { q with resends := q.resends + 1 }) (by rw [hfab]; omega)
  have hv : Frame [.fab] [] u ((modPort port (fun q => { q with resends := q.resends + 1 })).run u) :=
    Prog.frame_noRegs _ _ (by simp [modPort, Act.Within]) u
  have hvc : ((modPort port (fun q => { q with resends := q.resends + 1 })).run u).Canon := huc.run _
  generalize (modPort port (fun q => { q with resends := q.resends + 1 })).run u = v at *
  obtain ⟨hout, hlast⟩ := run_each_sendPacket port (s.port port).unacked hvc
  have hnot (f : Fld) (hf : f.off = R.FAB_P_REPLAY port) : f.off ∉ [R.FAB_P_TX port] := by
    rw [hf, List.mem_singleton, R.FAB_P_REPLAY, R.FAB_P_TX]
    omega
  refine ⟨?_, ?_, ?_, ?_, (hu.mono (by simp) (by simp [F.FAB_P_REPLAY_REPLAY])).trans ((hv.mono (by simp) (by simp)).trans
    (hlast.mono (by simp) (by simp)))⟩
  · rw [hout, show v.out = u.out from hv.1 .out (by decide) (by decide), show u.out = s.out from hu.1 .out (by simp) (by decide)]
  · rw [State.port_congr (hlast.1 .fab (by decide) (by decide)), hvport, State.port_congr hfab]
  · rw [hlast.fld _ (hnot _ rfl), hv.fld _ List.not_mem_nil, hcount]
  · rw [hlast.fld _ (hnot _ rfl), hv.fld _ List.not_mem_nil, hother]

theorem completes_nakReceive (hresends : (s.port port).resends < 7) (hunacked : (s.port port).unacked ≠ []) (stamp : Time)
    (lseq : Byte) : Completes (.nakReceive port lseq (0x20 ^^^ lseq ^^^ 0xC3) stamp) s (fun t =>
      t.out = ((s.port port).unacked.map (packetOut port)).reverse ++ s.out ∧
      (t.port port).unacked = (s.port port).unacked ∧ (t.port port).resends = (s.port port).resends + 1 ∧
      t.fld (F.FAB_P_REPLAY_REPLAY port) = s.countUp (F.FAB_P_REPLAY_REPLAY port) ∧
      Frame [.fab, .out] [(F.FAB_P_REPLAY_REPLAY port).off, (F.FAB_P_TX_COUNT port).off] s t) := by
  obtain ⟨hout, hown, hcount, -, hframe⟩ := run_resendAll hs hawake hlen hport hcarries hqueue hresends hunacked stamp
  refine .of_go rfl hawake ?_
  rw [Prog.run_guard, if_pos (by simp [hcarries, linkctlOk]), Prog.run_seq, run_pumpPort_empty (by rw [hown]; exact hqueue)]
  exact ⟨hout, by rw [hown], by rw [hown], hcount, hframe⟩

theorem completes_ackTimeout (hresends : (s.port port).resends < 7) (hunacked : (s.port port).unacked ≠ []) (stamp : Time) :
    Completes (.ackTimeout port stamp) s (fun t =>
      t.out = ((s.port port).unacked.map (packetOut port)).reverse ++ s.out ∧
      (t.port port).resends = (s.port port).resends + 1 ∧
      t.fld (F.FAB_P_REPLAY_TIMEOUT port) = s.countUp (F.FAB_P_REPLAY_TIMEOUT port) ∧
      Frame [.fab, .out] [(F.FAB_P_REPLAY_REPLAY port).off, (F.FAB_P_REPLAY_TIMEOUT port).off,
        (F.FAB_P_TX_COUNT port).off] s t) := by
  refine .of_go rfl hawake ?_
  rw [Prog.run_guard, if_pos (by simp [hcarries, hunacked]), Prog.run_block_cons, Prog.run_block_cons, Prog.run_block_nil]
  obtain ⟨hcount, hu⟩ := run_count_one hs (F.FAB_P_REPLAY_TIMEOUT port) (show 31 < 32 by decide) (show 16 ≤ 31 by decide)
  have huc : ((Prog.count (F.FAB_P_REPLAY_TIMEOUT port) 1).run s).Canon := hs.run _
  have hfab : ((Prog.count (F.FAB_P_REPLAY_TIMEOUT port) 1).run s).fab = s.fab := hu.1 .fab (by simp) (by decide)
  have hsame : ((Prog.count (F.FAB_P_REPLAY_TIMEOUT port) 1).run s).port port = s.port port := State.port_congr hfab port
  have hawake' : ((Prog.count (F.FAB_P_REPLAY_TIMEOUT port) 1).run s).Awake := by
    rwa [State.Awake, show _ = s.ctl from hu.1 .ctl (by simp) (by decide)]
  generalize (Prog.count (F.FAB_P_REPLAY_TIMEOUT port) 1).run s = u at *
  obtain ⟨hout, hown, -, hkept, hframe⟩ := run_resendAll huc hawake' (by rw [hfab, hlen]) hport (by rwa [hsame])
    (by rwa [hsame]) (by rwa [hsame]) (by rwa [hsame]) stamp
  refine ⟨?_, by rw [hown, hsame], hkept.trans hcount, (hu.mono (by simp) (by simp)).trans
    (hframe.mono (fun _ => id) (by simp [F.FAB_P_REPLAY_REPLAY, F.FAB_P_TX_COUNT]))⟩
  rw [hout, hsame, show u.out = s.out from hu.1 .out (by simp) (by decide)]

/-- With the eighth resend the limit is recorded and the port retrains (R318, R352). -/
theorem completes_ackTimeout_limit {k : Queued} (hresends : (s.port port).resends = 7) (hunacked : (s.port port).unacked = [k])
    (hk2 : k.pkt.cls ≠ 2) (hk3 : k.pkt.cls ≠ 3) (hnone : s.sds.retrains.getD port [] = []) (stamp : Time) :
    Completes (.ackTimeout port stamp) s (fun t =>
      t.out = packetOut port k :: s.out ∧ (4, port) ∈ t.fab.recorded ∧ (t.port port).st = .training ∧
      (t.port port).unacked = []) := by
  have hp : port < s.fab.ports.length := hlen ▸ hport
  obtain ⟨-, hu⟩ := run_count_one hs (F.FAB_P_REPLAY_TIMEOUT port) (show 31 < 32 by decide) (show 16 ≤ 31 by decide)
  have hfab : ((Prog.count (F.FAB_P_REPLAY_TIMEOUT port) 1).run s).fab = s.fab := hu.1 .fab (by simp) (by decide)
  have hsds : ((Prog.count (F.FAB_P_REPLAY_TIMEOUT port) 1).run s).sds = s.sds := hu.1 .sds (by simp) (by decide)
  have hout : ((Prog.count (F.FAB_P_REPLAY_TIMEOUT port) 1).run s).out = s.out := hu.1 .out (by simp) (by decide)
  refine .of_go rfl hawake ?_
  rw [Prog.run_guard, if_pos (by simp [hcarries, hunacked]), Prog.run_block_cons, Prog.run_block_cons, Prog.run_block_nil]
  generalize (Prog.count (F.FAB_P_REPLAY_TIMEOUT port) 1).run s = u at *
  have huport : u.port port = s.port port := State.port_congr hfab port
  let v := (recordFab 4 port).run ((sendPacket port k).run ((modPort port (fun q => { q with resends := q.resends + 1 })).run
    ((Prog.count (F.FAB_P_REPLAY_REPLAY port) 1).run u)))
  have hrun : (resendAll port stamp).run u = (retrainPort port stamp).run v := by
    rw [resendAll, Prog.run_dyn, huport]
    dsimp only
    rw [Prog.run_when, if_pos (by simp [hunacked]), Prog.run_block_cons, Prog.run_block_cons, Prog.run_block_cons,
      Prog.run_block_cons, Prog.run_when, if_pos (by simp [hresends]), hunacked]
    rfl
  have hvport : v.port port = { s.port port with resends := (s.port port).resends + 1 } := by
    have hw : ((Prog.count (F.FAB_P_REPLAY_REPLAY port) 1).run u).fab = u.fab := rfl
    have hv : v.port port = ((modPort port (fun q => { q with resends := q.resends + 1 })).run
        ((Prog.count (F.FAB_P_REPLAY_REPLAY port) 1).run u)).port port :=
      (recordFab_port _ _ _ _).trans (State.port_congr (sendPacket_fab _ _ _) port)
    rw [hv, port_modPort_same _ _ _ (by rwa [hw, hfab]), State.port_congr hw, huport]
  have hvout : v.out = packetOut port k :: s.out := congrArg (packetOut port k :: ·) hout
  have hvrec : v.fab.recorded = u.fab.recorded ++ [(4, port)] := rfl
  have hvsds : v.sds = s.sds := hsds
  have hvlen : port < v.fab.ports.length := by
    show port < (modAt u.fab.ports port _).length
    simpa [modAt_eq_modify, hfab] using hp
  rw [hrun]
  generalize v = v at *
  have hagain : (v.port port).unacked.filter (fun c => c.pkt.cls == 2 || c.pkt.cls == 3) = [] := by
    rw [hvport, hunacked]
    simpa using ⟨hk2, hk3⟩
  obtain ⟨hlastOut, hlastRec, hst, hun⟩ := run_retrainPort_empty hvlen (by rw [hvport]; exact hcarries)
    (by rw [hvport]; exact hqueue) hagain (by rwa [hvsds]) stamp
  exact ⟨hlastOut.trans hvout, by rw [hlastRec, hvrec]; simp, hst, hun⟩

theorem completes_creditReceive {c1 : Byte} (value : Byte) (hc : c1.toNat < 4) (hlimit : (s.port port).creditLimit.length = 4) :
    Completes (.creditReceive port c1 value (c1 ^^^ value ^^^ 0xC3)) s (fun t =>
      (t.port port).creditLimit.getD c1.toNat 0 = value.toNat ∧ Frame [.fab] [] s t) := by
  have hp : port < s.fab.ports.length := hlen ▸ hport
  have hstalled : portStalled (s.port port) = false := by simp [portStalled, headOf, hqueue, upToAhead]
  refine .of_go rfl hawake ?_
  rw [Prog.run_guard, if_pos (by simp [hcarries, linkctlOk, hc]), Prog.run_block_cons, Prog.run_dyn, hstalled, Prog.run_when,
    if_neg (by simp), Prog.run_block_cons, Prog.run_block_cons, Prog.run_block_nil, run_modPort_pump hp hqueue]
  refine ⟨?_, Prog.frame_noRegs _ _ (by simp [modPort, Act.Within]) s⟩
  rw [port_modPort_same _ _ _ hp]
  simp [List.getD_eq_getElem?_getD, hlimit, hc]

end

/-- Settles O41, clause by clause. -/
theorem linksReplayAndCredit : Obligations.LinksReplayAndCredit := by
  unfold Obligations.LinksReplayAndCredit
  intro s port stamp hinv hawake hlen hport hcarries hqueue
  have hs := hinv.canon
  refine ⟨completes_ackReceive hs hawake hlen hport hcarries hqueue, fun lseq check => ⟨fun hcheck => ?_, fun hcheck => ?_⟩,
    fun hresends hunacked => ⟨completes_nakReceive hs hawake hlen hport hcarries hqueue hresends hunacked stamp,
      completes_ackTimeout hs hawake hlen hport hcarries hqueue hresends hunacked stamp⟩,
    fun k hresends hunacked hk2 hk3 hnone => completes_ackTimeout_limit hs hawake hlen hport hcarries hqueue hresends hunacked
      hk2 hk3 hnone stamp,
    fun hnone => ?_, fun c1 value hc hlimit => completes_creditReceive hs hawake hlen hport hcarries hqueue value hc hlimit,
    fun c1 value check hbad => ?_, ?_⟩
  · refine .of_go_self rfl ?_
    rw [Prog.run_guard, if_neg (by simpa [linkctlOk] using fun _ => hcheck)]
  · refine .of_go_self rfl ?_
    rw [Prog.run_guard, if_neg (by simpa [linkctlOk] using fun _ => hcheck)]
  · refine .of_go_self rfl ?_
    rw [Prog.run_guard, if_neg (by simp [hnone])]
  · refine .of_go_self rfl ?_
    rw [Prog.run_guard, if_neg ?_]
    rcases hbad with h | h
    · simp [not_lt.2 h]
    · simpa [linkctlOk] using fun _ heq => absurd heq h
  · refine .of_go rfl hawake ?_
    rw [Prog.run_guard, if_pos hcarries, advertise, Prog.run_dyn]
    exact ⟨rfl, Prog.frame_noRegs _ _ (by simp [sendLinkctl]) s⟩

end Sys2Proof.Machine
end

section
/-! PROOF. O42: link reports, the link table and guests, at a node alone in both trees (R359, R366). -/

namespace Sys2Proof.Machine

/-- A node with a coordinate that is the root of both domains and has no children (R385, R388). -/
def State.RootAlone (s : State) (a : BitVec 16) : Prop := s.here = some a ∧ ∀ d, (s.dom d).st = .root ∧ s.children d = []

section
variable {s t : State} {a : BitVec 16} (h : s.RootAlone a)
include h

theorem State.RootAlone.of_same (hcoord : t.fab.coord = s.fab.coord) (htim : t.tim = s.tim)
    (hvalid : ∀ p, t.flag (F.TIM_ASYM_VALID p) = s.flag (F.TIM_ASYM_VALID p)) : t.RootAlone a := by
  obtain ⟨hhere, hroot⟩ := h
  refine ⟨by rw [State.here, hcoord]; exact hhere, fun d => ⟨by rw [State.dom, htim]; exact (hroot d).1, ?_⟩⟩
  rw [← (hroot d).2]
  unfold State.children
  refine List.filter_congr fun p _ => ?_
  rw [hvalid p, State.dom, htim]
  rfl

theorem State.RootAlone.of_frame {parts : List Part} (hcoord : t.fab.coord = s.fab.coord) (hframe : Frame parts [] s t)
    (htim : Part.tim ∉ parts) : t.RootAlone a :=
  h.of_same hcoord (hframe.1 .tim htim (by decide)) fun _ => hframe.flag _ List.not_mem_nil

/-- No child comes with time: its ANNOUNCE only ages (R388). -/
theorem State.RootAlone.atFabric (stamp : Time) : ((Prog.atFabric stamp).run s).RootAlone a := by
  obtain ⟨hhere, hroot⟩ := h
  refine ⟨hhere, fun d => ⟨(hroot d).1, ?_⟩⟩
  refine List.eq_nil_iff_forall_not_mem.2 fun p hp => ?_
  have hnone : p ∉ s.children d := by rw [(hroot d).2]; exact List.not_mem_nil
  refine hnone ?_
  obtain ⟨hmem, hchild⟩ := List.mem_filter.1 hp
  refine List.mem_filter.2 ⟨hmem, ?_⟩
  have hvalid : ((Prog.atFabric stamp).run s).flag (F.TIM_ASYM_VALID p) = s.flag (F.TIM_ASYM_VALID p) := rfl
  have hdom : ((Prog.atFabric stamp).run s).dom d = s.dom d := rfl
  have hnow : ((Prog.atFabric stamp).run s).tim.now = max s.tim.now (s.localOf stamp) := rfl
  rw [hvalid, hdom, hnow] at hchild
  obtain ⟨hflag, hcand⟩ := Bool.and_eq_true_iff.1 hchild
  refine Bool.and_eq_true_iff.2 ⟨hflag, ?_⟩
  split at hcand
  · obtain ⟨hparent, hfresh⟩ := Bool.and_eq_true_iff.1 hcand
    refine Bool.and_eq_true_iff.2 ⟨hparent, decide_eq_true ?_⟩
    exact lt_of_le_of_lt (le_max_left _ _) (of_decide_eq_true hfresh)
  · cases hcand

/-- A packet down the tree of such a node is delivered here, and goes no further (R361). -/
theorem State.RootAlone.routeHops {pkt : XtfPacket} (hmode : pkt.mode = 3) : routeHops s pkt = [.deliver pkt] := by
  obtain ⟨hhere, hroot⟩ := h
  have hother : ¬ pkt.mode = 4 ∧ ¬ pkt.mode = 0 ∧ ¬ pkt.mode = 1 ∧ ¬ pkt.mode = 2 := by rw [hmode]; decide
  obtain ⟨h4, h0, h1, h2⟩ := hother
  obtain ⟨hst, hnone⟩ := hroot pkt.domain
  rw [Machine.routeHops, if_neg h4, hhere]
  dsimp only
  rw [if_neg h0, if_neg h1, routeTree, if_neg h2, hst, hnone]
  rfl

theorem run_sendTree_root (d : Bool) {body : List Byte} (hok : messageOk (s.newPacket 1 3 4 d 0 body) = true) :
    (sendTree true d 4 body).run s = (Act.out (.deliver (s.newPacket 1 3 4 d 0 body))).apply
      ((Act.fab (fun b => b.originated 1)).apply s) := by
  have hbump : ((bumpSrcSeq 1).run s).RootAlone a :=
    h.of_frame rfl (Prog.frame_noRegs [.fab] _ (by simp [bumpSrcSeq, Act.Within]) s) (by decide)
  have hcls : (s.newPacket 1 3 4 d 0 body).cls = 1 := rfl
  rw [sendTree, if_pos rfl, run_originate_deliver (hbump.routeHops rfl), run_deliverPacket hok (by rw [hcls]; decide)]

/-- A message to both domains. -/
theorem run_each_sendTree {f : Bool → Prog} {body : List Byte} (hok : ∀ (t : State) d, messageOk (t.newPacket 1 3 4 d 0 body) = true)
    (hf : ∀ d (t : State), t.RootAlone a → (f d).run t = (sendTree true d 4 body).run t) : let u := (Prog.each [false, true] f).run s
    (∃ kA kB, u.out = .deliver kB :: .deliver kA :: s.out ∧ kA.proto = 4 ∧ kB.proto = 4 ∧ kA.mode = 3 ∧ kB.mode = 3 ∧
      kA.domain = false ∧ kB.domain = true ∧ kA.payload = kB.payload) ∧
      u.fab = (s.fab.originated 1).originated 1 ∧ u.ctl = s.ctl ∧ Frame [.fab, .out] [] s u := by
  let v := (Act.out (.deliver (s.newPacket 1 3 4 false 0 body))).apply ((Act.fab (fun b => b.originated 1)).apply s)
  have hv : v.RootAlone a :=
    h.of_frame rfl (Prog.frame_noRegs [.fab, .out] (.seq (.act (.fab _)) (.act (.out _))) (by simp [Act.Within]) s) (by decide)
  have hrun : (Prog.each [false, true] f).run s =
      (Act.out (.deliver (v.newPacket 1 3 4 true 0 body))).apply ((Act.fab (fun b => b.originated 1)).apply v) := by
    rw [Prog.run_each_cons, Prog.run_each_cons, hf false s h, run_sendTree_root h false (hok s false), hf true v hv,
      run_sendTree_root hv true (hok v true)]
    rfl
  intro u
  rw [show u = _ from hrun]
  refine ⟨⟨s.newPacket 1 3 4 false 0 body, v.newPacket 1 3 4 true 0 body, ?_, ?_, ?_, ?_, ?_, ?_, ?_, ?_⟩, ?_, ?_, ?_⟩
  iterate 10 exact rfl
  exact Prog.frame_noRegs [.fab, .out] (.block [.act (.fab fun b => b.originated 1),
    .act (.out (.deliver (s.newPacket 1 3 4 false 0 body))), .act (.fab fun b => b.originated 1),
    .act (.out (.deliver (v.newPacket 1 3 4 true 0 body)))]) (by simp [Act.Within]) s

end

theorem messageOk_linkState (s : State) (d : Bool) (key : BitVec 16 × Nat) (down : Bool) (seq a : BitVec 16) :
    messageOk (s.newPacket 1 3 4 d 0 (linkStateBytes key down seq a)) = true := by
  simp [messageOk, State.newPacket, linkStateBytes, leBytes]

/-! ### Reports of this node's own links (R359) -/

/-- The first report enters an empty table (R359). -/
theorem run_storeLinkEnd {s : State} (hnone : s.fab.links = []) (e : LinkEnd) :
    (storeLinkEnd e).run s = (Act.fab (fun b => { b with links := b.links ++ [e] })).apply s := by
  rw [storeLinkEnd, Prog.run_dyn, hnone]
  dsimp only [List.find?_nil]
  rw [if_neg]
  · rfl
  · simp [failedLinks]

theorem completes_linkDownReport {s : State} (hawake : s.Awake) (hlen : s.fab.ports.length = 6) {a : BitVec 16}
    (hroot : s.RootAlone a) {p : Nat} (hp : p < 4) (hen : bitOf (s.fld F.FAB_ROLE_PORT_EN) p = true)
    (hst : (s.port p).st = .down ∨ (s.port p).st = .training) {t0 stamp : Time} (hsince : (s.port p).downSince = some t0)
    (hdue : t0 + (s.fld F.FAB_TIMING_DOWN_REPORT : Int) * 256000 ≤ stamp) (hnone : s.fab.links = []) :
    Completes (.linkDownReport p stamp) s (fun t =>
      let key := linkKey (addrX a) (addrY a) p
      t.fab.links = [{ addr := key.1, port := key.2, reporter := a, down := true,
                       eventSeq := (s.port p).eventSeq, stamp := stamp }] ∧
      (t.port p).st = .down ∧ (t.port p).eventSeq = (s.port p).eventSeq + 1 ∧ Pended 65 s t ∧
      Frame [.fab, .tim, .out, .ctl] [] s t) := by
  let key := linkKey (addrX a) (addrY a) p
  let e : LinkEnd := { addr := key.1, port := key.2, reporter := a, down := true, eventSeq := (s.port p).eventSeq, stamp := stamp }
  let body := linkStateBytes key true (s.port p).eventSeq a
  let tell (d : Bool) : Prog := .dyn (fun s => if (s.dom d).st == .root then sendTree true d 4 body else sendTree false d 4 body)
  let v := (modPort p (fun q => { q with st := .down })).run ((Prog.atFabric stamp).run s)
  let w := (modPort p (fun q => { q with eventSeq := q.eventSeq + 1 })).run v
  let x := (Act.fab (fun b => { b with links := b.links ++ [e] })).apply w
  have hin : p < s.fab.ports.length := by omega
  have hvport : v.port p = { s.port p with st := .down } := port_modPort_same _ p _ hin
  have hvlen : p < v.fab.ports.length := by
    show p < (modAt s.fab.ports p _).length
    simpa [modAt_eq_modify] using hin
  have hwport : w.port p = { v.port p with eventSeq := (v.port p).eventSeq + 1 } := port_modPort_same _ p _ hvlen
  have hrun : exec (.linkDownReport p stamp) s = .next ((Prog.raiseAt 65 stamp).run ((Prog.each [false, true] tell).run x)) := by
    refine (congrArg _ (Prog.go_awake _ s hawake)).trans ?_
    have hne : (s.port p).st ≠ .up ∧ (s.port p).st ≠ .disabled := by rcases hst with h | h <;> simp [h]
    rw [Prog.run_guard, if_pos (by simp [hp, hen, hne]), Prog.run_dyn, hsince]
    dsimp only
    rw [Prog.run_when, if_pos (decide_eq_true hdue), Prog.run_block_cons, Prog.run_block_cons, Prog.run_block_cons,
      Prog.run_block_nil, reportLink, Prog.run_dyn]
    have hhere : v.here = some a := hroot.1
    have hseq : (v.port p).eventSeq = (s.port p).eventSeq := by rw [hvport]
    show Host.Outcome.next ((match v.here with | none => _ | some a => _ : Prog).run v) = _
    rw [hhere]
    dsimp only
    rw [hseq, Prog.run_block_cons, Prog.run_block_cons, run_storeLinkEnd (by exact hnone)]
    rfl
  have hframe : Frame [.tim, .fab] [] s x :=
    Prog.frame_noRegs [.tim, .fab] (.block [.atFabric stamp, modPort p _, modPort p _, .act (.fab _)])
      (by simp [Prog.atFabric, Prog.atLocal, modPort, Act.Within]) s
  have hxroot : x.RootAlone a := (hroot.atFabric stamp).of_frame (t := x) rfl
    (Prog.frame_noRegs [.fab] (.block [modPort p _, modPort p _, .act (.fab _)]) (by simp [modPort, Act.Within]) _) (by decide)
  obtain ⟨-, hfab, hctl, hsent⟩ := run_each_sendTree hxroot (f := tell) (body := body)
    (fun t d => messageOk_linkState t d key true (s.port p).eventSeq a)
    (fun d t ht => by
      show (if (t.dom d).st == .root then sendTree true d 4 body else sendTree false d 4 body).run t = _
      rw [(ht.2 d).1]
      rfl)
  refine ⟨_, hrun, ?_⟩
  have hxlinks : x.fab.links = [e] := by
    show s.fab.links ++ [e] = _
    rw [hnone]
    rfl
  have hxport : x.port p = { s.port p with st := .down, eventSeq := (s.port p).eventSeq + 1 } := by
    rw [show x.port p = w.port p from rfl, hwport, hvport]
  generalize x = x at *
  have hall : Frame [.tim, .fab, .out] [] s ((Prog.each [false, true] tell).run x) :=
    (hframe.mono (by simp) (by simp)).trans (hsent.mono (by simp) (by simp))
  have hport : ((Prog.each [false, true] tell).run x).port p = x.port p := by
    rw [State.port, hfab]
    rfl
  have hlinks : ((Prog.each [false, true] tell).run x).fab.links = x.fab.links := by
    rw [hfab]
    rfl
  generalize (Prog.each [false, true] tell).run x = y at *
  have hlast := frame_raiseAt 65 stamp y
  have hlastFab : ((Prog.raiseAt 65 stamp).run y).fab = y.fab := hlast.1 .fab (by decide) (by decide)
  have hlastPort : ((Prog.raiseAt 65 stamp).run y).port p = y.port p := State.port_congr hlastFab p
  refine ⟨by rw [hlastFab, hlinks, hxlinks], by rw [hlastPort, hport, hxport], by rw [hlastPort, hport, hxport],
    hall.pended_raiseAt stamp (by decide) (by decide), (hall.mono (by simp) (by simp)).trans (hlast.mono (by simp) (by simp))⟩

/-! ### Messages from other nodes (R359) -/

theorem completes_linkStateReceive {s : State} (hawake : s.Awake) (m : LinkMsg) (domain : Bool) (stamp : Time) (hrsv : m.rsv = 0)
    (hdown : m.down.toNat ≤ 1) (hport : m.port.toNat ≤ 3) (hnone : s.fab.links = []) :
    Completes (.linkStateReceive m domain true stamp) s (fun t =>
      t.fab.links = [{ addr := m.addr, port := m.port.toNat, reporter := m.reporter, down := m.down == 1,
                       eventSeq := m.eventSeq, stamp := stamp }] ∧ Frame [.fab, .tim] [] s t) := by
  let e : LinkEnd := { addr := m.addr, port := m.port.toNat, reporter := m.reporter, down := m.down == 1,
                       eventSeq := m.eventSeq, stamp := stamp }
  have hrun : exec (.linkStateReceive m domain true stamp) s =
      .next ((Act.fab (fun b => { b with links := b.links ++ [e] })).apply ((Prog.atFabric stamp).run s)) := by
    refine (congrArg _ (Prog.go_awake _ s hawake)).trans ?_
    rw [Prog.run_dyn, if_neg (by simp [hrsv]; omega), Prog.run_block_cons, Prog.run_block_cons, run_storeLinkEnd (by exact hnone)]
    rfl
  refine ⟨_, hrun, ?_, Prog.frame_noRegs [.fab, .tim] (.seq (.atFabric stamp) (.act (.fab _)))
    (by simp [Prog.atFabric, Prog.atLocal, Act.Within]) s⟩
  show s.fab.links ++ [e] = _
  rw [hnone]
  rfl

theorem completes_linkStateReceive_bad {s : State} (hs : s.Canon) (hawake : s.Awake) (m : LinkMsg) (domain down : Bool) (stamp : Time)
    (hbad : m.rsv ≠ 0 ∨ 1 < m.down.toNat ∨ 3 < m.port.toNat) : Completes (.linkStateReceive m domain down stamp) s (fun t =>
      t.fab.links = s.fab.links ∧ t.fld F.FAB_DISCARD_HEADER = s.countUp F.FAB_DISCARD_HEADER) := by
  refine .of_go rfl hawake ?_
  rw [Prog.run_dyn, if_pos (by simpa [or_assoc] using hbad)]
  obtain ⟨hcount, ⟨told, hfab⟩, -⟩ := run_discardPacket_header hs m.reporter
  exact ⟨by rw [hfab], hcount⟩

/-! ### Guests (R305, R366, R367) -/

theorem messageOk_guest (s : State) (d : Bool) (guest host p gone seq : Nat) : messageOk (s.newPacket 1 3 4 d 0
    (leBytes 4 3 ++ leBytes 2 guest ++ leBytes 2 host ++ leBytes 1 p ++ leBytes 1 gone ++ leBytes 2 seq)) = true := by
  simp [messageOk, State.newPacket, leBytes]

/-- What the announcement of a guest leaves at such a node (R366). -/
theorem run_announceGuest {s : State} {a : BitVec 16} (hroot : s.RootAlone a) (p : Nat) (gone : Bool) :
    let u := (announceGuest p gone).run s
    (∃ kA kB, u.out = .deliver kB :: .deliver kA :: s.out ∧ kA.proto = 4 ∧ kB.proto = 4 ∧ kA.mode = 3 ∧ kB.mode = 3 ∧
      kA.domain = false ∧ kB.domain = true ∧ kA.payload = kB.payload) ∧ u.fab.ports = s.fab.ports ∧
      u.fab.guests = s.fab.guests ∧ Frame [.fab, .out] [] s u := by
  let body := leBytes 4 3 ++ leBytes 2 (s.guestAddr p).toNat ++ leBytes 2 (s.here.getD 0).toNat ++ leBytes 1 p ++
    leBytes 1 (boolNat gone) ++ leBytes 2 (s.fab.guestSeq.getD (p - 4) 0).toNat
  have hrun : (announceGuest p gone).run s =
      (Prog.each [false, true] (fun d => .dyn (fun s => sendTree ((s.dom d).st == .root) d 4 body))).run
        ((Act.fab (fun b => { b with guestSeq := modAt b.guestSeq (p - 4) (· + 1) })).apply s) := by
    rw [announceGuest, Prog.run_dyn]
    dsimp only
    rw [Prog.run_block_cons, Prog.run_block_cons, Prog.run_block_nil, Prog.run_act]
  have hok (t : State) (d : Bool) : messageOk (t.newPacket 1 3 4 d 0 body) = true :=
    messageOk_guest t d (s.guestAddr p).toNat (s.here.getD 0).toNat p (boolNat gone) (s.fab.guestSeq.getD (p - 4) 0).toNat
  clear_value body
  have hv : Frame [.fab] [] s ((Act.fab (fun b => { b with guestSeq := modAt b.guestSeq (p - 4) (· + 1) })).apply s) :=
    Act.frame_noRegs (a := .fab _) List.mem_cons_self s
  have hvcoord : ((Act.fab (fun b => { b with guestSeq := modAt b.guestSeq (p - 4) (· + 1) })).apply s).fab.coord = s.fab.coord := rfl
  have hvout : ((Act.fab (fun b => { b with guestSeq := modAt b.guestSeq (p - 4) (· + 1) })).apply s).out = s.out := rfl
  have hvports : ((Act.fab (fun b => { b with guestSeq := modAt b.guestSeq (p - 4) (· + 1) })).apply s).fab.ports = s.fab.ports := rfl
  have hvguests : ((Act.fab (fun b => { b with guestSeq := modAt b.guestSeq (p - 4) (· + 1) })).apply s).fab.guests =
      s.fab.guests := rfl
  rw [hrun]
  generalize (Act.fab (fun b => { b with guestSeq := modAt b.guestSeq (p - 4) (· + 1) })).apply s = v at *
  have hvroot : v.RootAlone a := hroot.of_frame hvcoord hv (by decide)
  have htell (d : Bool) (t : State) (ht : t.RootAlone a) :
      (Prog.dyn (fun s => sendTree ((s.dom d).st == .root) d 4 body)).run t = (sendTree true d 4 body).run t := by
    rw [Prog.run_dyn, (ht.2 d).1]
    rfl
  obtain ⟨hsent, hfab, -, hframe⟩ := run_each_sendTree hvroot hok htell
  rw [hvout] at hsent
  generalize Prog.run _ v = u at *
  refine ⟨hsent, ?_, ?_, (hv.mono (by simp) (by simp)).trans hframe⟩
  · rw [hfab, ← hvports]; rfl
  · rw [hfab, ← hvguests]; rfl

/-- A port without credits keeps what it is given to send (R353). -/
theorem run_dispatchHops_waits {s : State} {p : Nat} (hp : p < s.fab.ports.length) {pkt : XtfPacket}
    (hqueue : (s.port p).queue = []) (hcredits : creditsFree (s.port p) pkt.cls.toNat < creditsOf pkt) (cls credits : Nat) :
    let u := (dispatchHops 6 cls credits false [.send p pkt]).run s
    (∃ l, u.port p = { s.port p with queue := l }) ∧ (∃ ports holds n, u.fab = { s.fab with ports := ports, holds := holds, nextHold := n }) ∧
      Frame [.fab] [] s u := by
  let c : Queued := { pkt := pkt, input := 6, hold := s.fab.nextHold + 1, bad := false }
  let v := (modPort p (fun q => { q with queue := q.queue ++ [c] })).run ((Act.fab (fun b => { b with
    nextHold := s.fab.nextHold + 1, holds := b.holds ++ [(s.fab.nextHold + 1, 6, cls, 1)] })).apply s)
  have hvport : v.port p = { s.port p with queue := [c] } := by
    refine (port_modPort_same _ _ _ hp).trans ?_
    show { s.port p with queue := (s.port p).queue ++ [c] } = _
    rw [hqueue]
    rfl
  have hcannot : canSend { s.port p with queue := [c] } c = false := Bool.and_eq_false_iff.2 (.inl (decide_eq_false (not_le.2 hcredits)))
  have hnone : pickNext { s.port p with queue := [c] } = none := by
    have hhead (k i : Nat) : headOf { s.port p with queue := [c] } k i = none ∨ headOf { s.port p with queue := [c] } k i = some c := by
      have hlist : upToAhead [c] = [c] := rfl
      unfold headOf
      by_cases hk : c.pkt.cls.toNat = k
      · by_cases hi : c.input = i <;> simp [hk, hi, hlist]
      · simp [hk, upToAhead]
    have hready (k : Nat) : readyIn { s.port p with queue := [c] } k = [] := by
      refine List.filterMap_eq_nil_iff.2 fun i _ => ?_
      rcases hhead k i with h | h
      · rw [h]
      · rw [h]
        dsimp only
        rw [hcannot]
        rfl
    simp [pickNext, List.range_succ, hready, leastRank]
  have hrun : (dispatchHops 6 cls credits false [.send p pkt]).run s = v := by
    have hpump : (dispatchHops 6 cls credits false [.send p pkt]).run s = (pumpPort p).run v := rfl
    rw [hpump, pumpPort, Prog.run_dyn, hvport]
    split
    · show (drainPort 1 p).run v = v
      rw [drainPort, Prog.run_dyn, hvport, hnone]
      rfl
    · rfl
  rw [hrun]
  exact ⟨⟨_, hvport⟩, ⟨_, _, _, rfl⟩, Prog.frame_noRegs [.fab] (.seq (.act (.fab _)) (modPort p _)) (by simp [modPort, Act.Within]) s⟩

theorem State.guestAddr_congr {parts : List Part} {s t : State} (h : Frame parts [] s t) (p : Nat) : t.guestAddr p = s.guestAddr p := by
  rw [State.guestAddr, h.fld _ List.not_mem_nil, h.fld _ List.not_mem_nil, State.guestAddr]

/-- GUEST_ASSIGN goes once, and waits for the credits of a port that has just come up (R353, R366). -/
theorem run_assignGuest {s : State} {p : Nat} (hp : p < s.fab.ports.length) (hqueue : (s.port p).queue = [])
    (hcredits : creditsFree (s.port p) 1 = 0) (body : List Byte) :
    let u := (Prog.when (!(s.port p).assigned) (.seq (modPort p (fun q => { q with assigned := true })) (sendLink 1 4 p body))).run s
    (u.port p).st = (s.port p).st ∧ u.fab.guests = s.fab.guests ∧ u.fab.guestSeq = s.fab.guestSeq ∧ u.fab.coord = s.fab.coord ∧
      Frame [.fab] [] s u := by
  rw [Prog.run_when]
  split
  case isFalse => exact ⟨rfl, rfl, rfl, rfl, Frame.refl _ _ _⟩
  rw [Prog.run_seq]
  have hvport := port_modPort_same s p (fun q => { q with assigned := true }) hp
  have hvfab : ((modPort p (fun q => { q with assigned := true })).run s).fab.guests = s.fab.guests ∧
    ((modPort p (fun q => { q with assigned := true })).run s).fab.guestSeq = s.fab.guestSeq ∧
    ((modPort p (fun q => { q with assigned := true })).run s).fab.coord = s.fab.coord := ⟨rfl, rfl, rfl⟩
  have hv : Frame [.fab] [] s ((modPort p (fun q => { q with assigned := true })).run s) :=
    Prog.frame_noRegs _ _ (by simp [modPort, Act.Within]) s
  have hvlen : p < ((modPort p (fun q => { q with assigned := true })).run s).fab.ports.length := by
    show p < (modAt s.fab.ports p _).length
    simpa [modAt_eq_modify] using hp
  generalize (modPort p (fun q => { q with assigned := true })).run s = v at *
  obtain ⟨hguests, hseq, hcoord⟩ := hvfab
  rw [sendLink, Prog.run_dyn]
  split
  case isFalse => exact ⟨by rw [Prog.run_nil, hvport], hguests, hseq, hcoord, hv⟩
  let pkt := v.newPacket 1 4 4 false 0 body
  have hwcls : pkt.cls.toNat = 1 := rfl
  have hwport : ((bumpSrcSeq 1).run v).port p = v.port p := rfl
  have hw : Frame [.fab] [] v ((bumpSrcSeq 1).run v) := Prog.frame_noRegs _ _ (by simp [bumpSrcSeq, Act.Within]) v
  obtain ⟨⟨l, hown⟩, ⟨ports, holds, n, hfab⟩, hx⟩ := run_dispatchHops_waits (s := (bumpSrcSeq 1).run v) hvlen (pkt := pkt)
    (by rw [hwport, hvport]; exact hqueue) (by
      rw [hwport, hvport, hwcls]
      show creditsFree (s.port p) 1 < (pkt.length.toNat + 20 + 255) / 256
      omega) 1 0
  show (((dispatchHops 6 1 0 false [.send p pkt]).run ((bumpSrcSeq 1).run v)).port p).st = _ ∧ _
  generalize hu : (dispatchHops 6 1 0 false [.send p pkt]).run ((bumpSrcSeq 1).run v) = u at *
  have hrun : (Prog.block [bumpSrcSeq 1, dispatchHops 6 1 0 false [.send p (v.newPacket 1 4 4 false 0 body)]]).run v = u := hu
  rw [hrun]
  refine ⟨by rw [hown, hwport, hvport], ?_, ?_, ?_, hv.trans (hw.trans hx)⟩
  · rw [hfab]; exact hguests
  · rw [hfab]; exact hseq
  · rw [hfab]; exact hcoord

/-- What a port starts with (R353, R354). -/
def Port.started (p : Nat) (st : PortState) (q : Port) : Port :=
  { q with
    st := st, txSeq := 0, rxSeq := 0, gapNak := false, unacked := [], resends := 0
    creditUsed := [0, 0, 0, 0], creditLimit := [0, 0, 0, 0]
    creditBack := (List.range 4).map (fun k => bufferOf p k - q.held.getD k 0), downSince := none }

theorem run_portStart {s : State} {p : Nat} (hp : p < s.fab.ports.length) (st : PortState) : let u := (portStart p st).run s
    u.port p = (s.port p).started p st ∧ u.fab.guests = s.fab.guests ∧ u.fab.guestSeq = s.fab.guestSeq ∧
      u.fab.coord = s.fab.coord := by
  have hrun : (portStart p st).run s = (advertise p).run ((modPort p (Port.started p st)).run s) := rfl
  have hport := port_modPort_same s p (Port.started p st) hp
  have hsame : ((modPort p (Port.started p st)).run s).fab.guests = s.fab.guests ∧
    ((modPort p (Port.started p st)).run s).fab.guestSeq = s.fab.guestSeq ∧
    ((modPort p (Port.started p st)).run s).fab.coord = s.fab.coord := ⟨rfl, rfl, rfl⟩
  rw [hrun]
  generalize (modPort p (Port.started p st)).run s = v at *
  have hlast : Frame [.out] [] v ((advertise p).run v) := Prog.frame_noRegs _ _ (by simp [advertise, sendLinkctl]) v
  have hfab : ((advertise p).run v).fab = v.fab := hlast.1 .fab (by decide) (by decide)
  refine ⟨(State.port_congr hfab p).trans hport, ?_⟩
  rw [hfab]
  exact hsame

/-- What a guest port that is up does each time: GUEST_ASSIGN once, the own entry, the announcement (R366). -/
def greetGuest (p : Nat) (stamp : Time) : Prog :=
  .dyn (fun s => match s.here with
    | none => .nil
    | some a =>
      let lower := match s.guestEntry (s.guestAddr p) with
        | some g => decide (g.host.toNat < a.toNat)
        | none => false
      .block [
        .when (!(s.port p).assigned) (.seq (modPort p (fun q => { q with assigned := true }))
          (sendLink 1 4 p (leBytes 4 4 ++ leBytes 2 (s.guestAddr p).toNat ++ leBytes 2 a.toNat))),
        .when (!lower) (.act (.fab (fun b =>
          let g : GuestEntry := ⟨s.guestAddr p, a, p, b.guestSeq.getD (p - 4) 0, stamp⟩
          { b with guests := putGuest g b.guests }))),
        announceGuest p false])

theorem run_greetGuest {s : State} {a : BitVec 16} (hroot : s.RootAlone a) {p : Nat} (hp : p < s.fab.ports.length)
    (hqueue : (s.port p).queue = []) (hcredits : creditsFree (s.port p) 1 = 0) (hnone : s.fab.guests = []) (stamp : Time) :
    let u := (greetGuest p stamp).run s
    (u.port p).st = (s.port p).st ∧
      u.fab.guests = [⟨s.guestAddr p, a, p, s.fab.guestSeq.getD (p - 4) 0, stamp⟩] ∧
      (∃ kA kB, u.out = .deliver kB :: .deliver kA :: s.out ∧ kA.proto = 4 ∧ kB.proto = 4 ∧ kA.mode = 3 ∧ kB.mode = 3 ∧
        kA.domain = false ∧ kB.domain = true ∧ kA.payload = kB.payload) ∧ Frame [.fab, .out] [] s u := by
  let body := leBytes 4 4 ++ leBytes 2 (s.guestAddr p).toNat ++ leBytes 2 a.toNat
  let put (b : Fabric) : Fabric := { b with guests := putGuest ⟨s.guestAddr p, a, p, b.guestSeq.getD (p - 4) 0, stamp⟩ b.guests }
  have hrun : (greetGuest p stamp).run s = (announceGuest p false).run ((Act.fab put).apply
      ((Prog.when (!(s.port p).assigned) (.seq (modPort p (fun q => { q with assigned := true })) (sendLink 1 4 p body))).run s)) := by
    rw [greetGuest, Prog.run_dyn, hroot.1]
    dsimp only
    rw [State.guestEntry, hnone, List.find?_nil]
    dsimp only
    rw [Prog.run_block_cons, Prog.run_block_cons, Prog.run_block_cons, Prog.run_block_nil, Prog.run_when (!false),
      if_pos Bool.not_false, Prog.run_act]
  obtain ⟨hxst, hxguests, hxseq, hxcoord, hx⟩ := run_assignGuest hp hqueue hcredits body
  rw [hrun]
  generalize (Prog.when (!(s.port p).assigned) _).run s = x at *
  have hput : (put x.fab).ports = x.fab.ports ∧ (put x.fab).coord = x.fab.coord ∧
      (put x.fab).guests = [⟨s.guestAddr p, a, p, s.fab.guestSeq.getD (p - 4) 0, stamp⟩] := by
    refine ⟨rfl, rfl, ?_⟩
    show putGuest ⟨s.guestAddr p, a, p, x.fab.guestSeq.getD (p - 4) 0, stamp⟩ x.fab.guests = _
    rw [hxguests, hnone, hxseq]
    rfl
  clear_value put
  have hy : Frame [.fab] [] x ((Act.fab put).apply x) := Act.frame_noRegs (a := .fab _) List.mem_cons_self x
  have hyfab : ((Act.fab put).apply x).fab = put x.fab := rfl
  have hyout : ((Act.fab put).apply x).out = x.out := rfl
  generalize (Act.fab put).apply x = y at *
  have hyroot : y.RootAlone a := hroot.of_frame (by rw [hyfab, hput.2.1, hxcoord]) (hx.trans hy) (by decide)
  obtain ⟨⟨kA, kB, hout, hkinds⟩, hports, hguests, hlast⟩ := run_announceGuest hyroot p false
  generalize (announceGuest p false).run y = z at *
  refine ⟨?_, by rw [hguests, hyfab, hput.2.2], ⟨kA, kB, ?_, hkinds⟩,
    ((hx.trans hy).mono (by simp) (by simp)).trans hlast⟩
  · rw [State.port, hports, hyfab, hput.1, ← hxst, State.port]
  · rw [hout, hyout, show x.out = s.out from hx.1 .out (by decide) (by decide)]

/-- A guest port comes up (R305, R366): the message to the guest waits for credits, the guest enters the table, and both
domains hear of it. -/
theorem completes_guestPortUp {s : State} (hawake : s.Awake) (hlen : s.fab.ports.length = 6) {a : BitVec 16}
    (hroot : s.RootAlone a) {p : Nat} (hp : p = 4 ∨ p = 5) (hqueue : (s.port p).queue = []) (stamp : Time)
    (hen : bitOf (s.fld F.FAB_ROLE_PORT_EN) p = true) (hst : (s.port p).st = .down) (hnone : s.fab.guests = [])
    (hactive : (portLanes p).all (fun i => (s.lane i).st == .active) = true) : Completes (.guestPortUp p stamp) s (fun t =>
      (t.port p).st = .guestUp ∧ t.guestEntry (s.guestAddr p) =
        some ⟨s.guestAddr p, a, p, s.fab.guestSeq.getD (p - 4) 0, stamp⟩ ∧ Pended 68 s t ∧
      (∃ kA kB, t.out.take 2 = [.deliver kB, .deliver kA] ∧ kA.proto = 4 ∧ kB.proto = 4 ∧ kA.mode = 3 ∧ kB.mode = 3 ∧
        kA.domain = false ∧ kB.domain = true ∧ kA.payload = kB.payload) ∧
      Frame [.fab, .tim, .out, .ctl] [] s t) := by
  have hin : p < s.fab.ports.length := by omega
  let v := (portStart p .guestUp).run ((Prog.atFabric stamp).run s)
  have hrun : exec (.guestPortUp p stamp) s = .next ((greetGuest p stamp).run ((Prog.raiseAt 68 stamp).run v)) := by
    refine (congrArg _ (Prog.go_awake _ s hawake)).trans ?_
    rw [Prog.run_guard, if_pos (by
      rw [hactive, hen, hst]
      rcases hp with rfl | rfl <;> rfl), Prog.run_block_cons, Prog.run_block_cons, Prog.run_guard, if_pos (by
      show ((s.port p).st != .guestUp) = true
      rw [hst]
      rfl)]
    rfl
  obtain ⟨hvport, hvguests, hvseq, hvcoord⟩ : v.port p = (s.port p).started p .guestUp ∧ v.fab.guests = s.fab.guests ∧
    v.fab.guestSeq = s.fab.guestSeq ∧ v.fab.coord = s.fab.coord := run_portStart (s := (Prog.atFabric stamp).run s) hin .guestUp
  have hvframe : Frame [.tim, .fab, .out] [] s v := Prog.frame_noRegs _ (.seq (.atFabric stamp) (portStart p .guestUp))
    (by simp [Prog.atFabric, Prog.atLocal, portStart, modPort, advertise, sendLinkctl, Act.Within]) s
  have hvlen : p < v.fab.ports.length := by
    show p < (modAt s.fab.ports p _).length
    simpa [modAt_eq_modify] using hin
  have hvroot : v.RootAlone a := (hroot.atFabric stamp).of_frame hvcoord (Prog.frame_noRegs [.fab, .out] (portStart p .guestUp)
    (by simp [portStart, modPort, advertise, sendLinkctl, Act.Within]) _) (by decide)
  refine ⟨(greetGuest p stamp).run ((Prog.raiseAt 68 stamp).run v), hrun, ?_⟩
  generalize v = v at *
  have hpend := hvframe.pended_raiseAt (e := 68) stamp (by decide) List.not_mem_nil
  have hraise := frame_raiseAt 68 stamp v
  have hwfab : ((Prog.raiseAt 68 stamp).run v).fab = v.fab := hraise.1 .fab (by decide) (by decide)
  have hwroot : ((Prog.raiseAt 68 stamp).run v).RootAlone a := hvroot.of_frame (by rw [hwfab]) hraise (by decide)
  have hall : Frame [.fab, .tim, .out, .ctl] [] s ((Prog.raiseAt 68 stamp).run v) :=
    (hvframe.mono (by simp) (by simp)).trans (hraise.mono (by simp) (by simp))
  generalize (Prog.raiseAt 68 stamp).run v = w at *
  have hwport : w.port p = (s.port p).started p .guestUp := (State.port_congr hwfab p).trans hvport
  have hwaddr : w.guestAddr p = s.guestAddr p := State.guestAddr_congr hall p
  obtain ⟨hst', hguests, ⟨kA, kB, hout, hkinds⟩, hlast⟩ := run_greetGuest hwroot (p := p) (by rwa [hwfab])
    (by rw [hwport]; exact hqueue) (by rw [hwport]; simp [creditsFree, Port.started]) (by rw [hwfab, hvguests, hnone]) stamp
  generalize (greetGuest p stamp).run w = z at *
  refine ⟨?_, ?_, ?_, ⟨kA, kB, by rw [hout]; rfl, hkinds⟩, hall.trans (hlast.mono (by simp) (by simp))⟩
  · rw [hst', hwport]
    rfl
  · rw [State.guestEntry, hguests, hwaddr, hwfab, hvseq]
    simp
  · rw [Pended, hlast.1 .ctl (by decide) (by decide)]
    exact hpend

/-- A guest port that has been down long enough forgets its guest, and both domains hear of it (R366). -/
theorem completes_guestPortDown {s : State} (hawake : s.Awake) (hlen : s.fab.ports.length = 6) {a : BitVec 16}
    (hroot : s.RootAlone a) {p : Nat} (hp : p = 4 ∨ p = 5) {t0 stamp : Time} (hst : (s.port p).st = .down)
    (hsince : (s.port p).downSince = some t0) (hdue : t0 + (s.fld F.FAB_TIMING_DOWN_REPORT : Int) * 256000 ≤ stamp) :
    Completes (.guestPortDown p stamp) s (fun t =>
      (t.port p).st = .down ∧ (t.port p).downSince = none ∧
      (∀ g ∈ t.fab.guests, ¬(g.guest = s.guestAddr p ∧ g.host = a)) ∧ Pended 69 s t ∧
      Frame [.fab, .tim, .out, .ctl] [] s t) := by
  have hin : p < s.fab.ports.length := by omega
  let gone (b : Fabric) : Fabric := { b with
    guests := b.guests.filter (fun g => !(g.guest == s.guestAddr p && some g.host == s.here)) }
  let v := (modPort p (fun q => { q with st := .down, downSince := none })).run ((Prog.atFabric stamp).run s)
  have hrun : exec (.guestPortDown p stamp) s =
      .next ((Prog.raiseAt 69 stamp).run ((announceGuest p true).run ((Act.fab gone).apply v))) := by
    refine (congrArg _ (Prog.go_awake _ s hawake)).trans ?_
    rw [Prog.run_guard, if_pos (by
      simp only [hst, hsince, decide_eq_true hdue, portCarries]
      rcases hp with rfl | rfl <;> rfl), Prog.run_dyn, Prog.run_block_cons, Prog.run_block_cons, Prog.run_block_cons,
      Prog.run_block_cons, Prog.run_block_cons, Prog.run_block_nil, Prog.run_act]
  have hvport : v.port p = { s.port p with st := .down, downSince := none } :=
    port_modPort_same ((Prog.atFabric stamp).run s) p (fun q => { q with st := .down, downSince := none }) hin
  have hvframe : Frame [.tim, .fab] [] s v := Prog.frame_noRegs _ (.seq (.atFabric stamp) (modPort p _))
    (by simp [Prog.atFabric, Prog.atLocal, modPort, Act.Within]) s
  have hvroot : v.RootAlone a := (hroot.atFabric stamp).of_frame rfl (Prog.frame_noRegs [.fab] (modPort p _)
    (by simp [modPort, Act.Within]) _) (by decide)
  have hgone : (gone v.fab).ports = v.fab.ports ∧ (gone v.fab).coord = v.fab.coord ∧
      ∀ g ∈ (gone v.fab).guests, ¬(g.guest = s.guestAddr p ∧ g.host = a) := by
    refine ⟨rfl, rfl, fun g hg hboth => ?_⟩
    have hkept := (List.mem_filter.1 hg).2
    rw [hboth.1, hboth.2, hroot.1] at hkept
    simp at hkept
  clear_value gone
  refine ⟨(Prog.raiseAt 69 stamp).run ((announceGuest p true).run ((Act.fab gone).apply v)), hrun, ?_⟩
  generalize v = v at *
  have hw : Frame [.fab] [] v ((Act.fab gone).apply v) := Act.frame_noRegs (a := .fab _) List.mem_cons_self v
  have hwfab : ((Act.fab gone).apply v).fab = gone v.fab := rfl
  generalize (Act.fab gone).apply v = w at *
  have hwroot : w.RootAlone a := hvroot.of_frame (by rw [hwfab, hgone.2.1]) hw (by decide)
  obtain ⟨-, hports, hguests, hx⟩ := run_announceGuest hwroot p true
  have hall : Frame [.tim, .fab, .out] [] s ((announceGuest p true).run w) :=
    (hvframe.mono (by simp) (by simp)).trans ((hw.mono (by simp) (by simp)).trans (hx.mono (by simp) (by simp)))
  generalize (announceGuest p true).run w = x at *
  have hlast := frame_raiseAt 69 stamp x
  have hlastFab : ((Prog.raiseAt 69 stamp).run x).fab = x.fab := hlast.1 .fab (by decide) (by decide)
  have hport : ((Prog.raiseAt 69 stamp).run x).port p = { s.port p with st := .down, downSince := none } := by
    rw [State.port, hlastFab, hports, hwfab, hgone.1, ← hvport, State.port]
  refine ⟨by rw [hport], by rw [hport], ?_, hall.pended_raiseAt stamp (by decide) List.not_mem_nil,
    (hall.mono (by simp) (by simp)).trans (hlast.mono (by simp) (by simp))⟩
  rw [hlastFab, hguests, hwfab]
  exact hgone.2.2

/-! ### Announcements of other hosts (R366) -/

/-- The guest table after an announcement (R366). -/
def Fabric.heard (msg : GuestMsg) (new : GuestEntry) (b : Fabric) : Fabric :=
  match b.guests.find? (fun g => g.guest == msg.guest) with
  | some g =>
    if msg.gone == 1 then
      (if g.host == msg.host then { b with guests := b.guests.filter (fun x => x.guest != msg.guest) } else b)
    else if g.host == msg.host && newer16 g.eventSeq msg.eventSeq then b
    else if g.host != msg.host && g.host.toNat < msg.host.toNat then b
    else { b with guests := putGuest new b.guests }
  | none => if msg.gone == 1 then b else { b with guests := putGuest new b.guests }

theorem Fabric.heard_guests (msg : GuestMsg) (new : GuestEntry) (b : Fabric) :
    ∃ guests, b.heard msg new = { b with guests := guests } := by
  unfold Fabric.heard
  split
  · split
    · split <;> exact ⟨_, rfl⟩
    · split
      · exact ⟨_, rfl⟩
      · split <;> exact ⟨_, rfl⟩
  · split <;> exact ⟨_, rfl⟩

section
variable {s : State} (hawake : s.Awake) (m : GuestMsg) (domain : Bool) (stamp : Time) (hrsv : m.rsv = 0)
  (hport : m.port = 4 ∨ m.port = 5) (hgone : m.gone = 0)
include hrsv hport hgone

theorem guestMsg_wellFormed : ¬ (m.rsv != 0 || decide (1 < m.gone.toNat) || !(m.port == 4 || m.port == 5)) = true := by
  rw [hrsv, hgone]
  rcases hport with h | h <;> rw [h] <;> decide

include hawake

/-- A first announcement enters the guest table (R366). -/
theorem completes_guestAnnounceReceive (hup : ∀ p, (s.port p).st ≠ .guestUp) (hnone : s.fab.guests = []) :
    Completes (.guestAnnounceReceive m domain true stamp) s (fun t =>
      t.fab.guests = [⟨m.guest, m.host, m.port.toNat, m.eventSeq, stamp⟩] ∧ Frame [.fab, .tim] [] s t) := by
  let new : GuestEntry := ⟨m.guest, m.host, m.port.toNat, m.eventSeq, stamp⟩
  have hmine : [4, 5].filter (fun p => (s.port p).st == .guestUp && s.guestAddr p == m.guest) = [] := by simp [hup]
  have hrun : exec (.guestAnnounceReceive m domain true stamp) s =
      .next ((Act.fab (Fabric.heard m new)).apply ((Prog.atFabric stamp).run s)) := by
    refine (congrArg _ (Prog.go_awake _ s hawake)).trans ?_
    rw [Prog.run_dyn]
    dsimp only
    rw [hmine, if_neg (guestMsg_wellFormed m hrsv hport hgone)]
    rfl
  refine ⟨_, hrun, ?_, Prog.frame_noRegs [.fab, .tim] (.seq (.atFabric stamp) (.act (.fab _)))
    (by simp [Prog.atFabric, Prog.atLocal, Act.Within]) s⟩
  show (Fabric.heard m new s.fab).guests = [new]
  simp [Fabric.heard, hnone, hgone, putGuest]

/-- Of two hosts of one guest the lower address keeps it, and the other refuses its port (R366). -/
theorem completes_guestAnnounceReceive_lower (hlen : s.fab.ports.length = 6) {a : BitVec 16} (hhere : s.here = some a) {p : Nat}
    (hp : p = 4 ∨ p = 5) (hst : (s.port p).st = .guestUp) (hguest : m.guest = s.guestAddr p) (hlower : m.host.toNat < a.toNat)
    (hqueue : (s.port p).queue = []) (hunacked : (s.port p).unacked = []) (hne : s.guestAddr 4 ≠ s.guestAddr 5) :
    Completes (.guestAnnounceReceive m domain true stamp) s (fun t =>
      (t.port p).st = .guestRefused ∧ (0x14, p) ∈ t.fab.recorded ∧ Pended 69 s t ∧
      Frame [.fab, .tim, .ctl] [] s t) := by
  have hin : p < s.fab.ports.length := by omega
  let new : GuestEntry := ⟨m.guest, m.host, m.port.toNat, m.eventSeq, stamp⟩
  have hmine : [4, 5].filter (fun q => (s.port q).st == .guestUp && s.guestAddr q == m.guest) = [p] := by
    rcases hp with rfl | rfl
    · simp [hst, hguest, hne.symm]
    · simp [hst, hguest, hne]
  have hhost : (s.here != some m.host) = true := by
    rw [hhere]
    simpa using fun h : a = m.host => absurd hlower (by rw [h]; exact lt_irrefl _)
  let w := (recordFab 0x14 p).run ((Prog.atFabric stamp).run s)
  have hrun : exec (.guestAnnounceReceive m domain true stamp) s = .next ((Act.fab (Fabric.heard m new)).apply
      ((Prog.raiseAt 69 stamp).run ((portOut p .guestRefused stamp).run w))) := by
    refine (congrArg _ (Prog.go_awake _ s hawake)).trans ?_
    rw [Prog.run_dyn]
    dsimp only
    rw [hmine, if_neg (guestMsg_wellFormed m hrsv hport hgone), hhost, hhere, show (m.gone == 0) = true by rw [hgone]; rfl,
      show decide (m.host.toNat < ((some a).getD 0).toNat) = true from decide_eq_true hlower]
    rfl
  have hwport : w.port p = s.port p := rfl
  have hwfab : w.fab.ports.length = s.fab.ports.length ∧ (0x14, p) ∈ w.fab.recorded := by
    refine ⟨rfl, ?_⟩
    show (0x14, p) ∈ s.fab.recorded ++ [(0x14, p)]
    simp
  have hw : Frame [.tim, .fab] [] s w := Prog.frame_noRegs _ (.seq (.atFabric stamp) (recordFab 0x14 p))
    (by simp [Prog.atFabric, Prog.atLocal, recordFab, Act.Within]) s
  refine ⟨(Act.fab (Fabric.heard m new)).apply ((Prog.raiseAt 69 stamp).run ((portOut p .guestRefused stamp).run w)), hrun, ?_⟩
  generalize w = w at *
  have hcarries : portCarries (w.port p) = true := by rw [hwport, portCarries, hst]; rfl
  rw [run_portOut_empty hcarries (by rw [hwport, hqueue]) (by rw [hwport, hunacked]; rfl)]
  have hxport := port_modPort_same w p (fun q =>
    { q with st := .guestRefused, unacked := [], queue := [], assigned := false, downSince := some stamp }) (by omega)
  have hxrec : (0x14, p) ∈ ((modPort p (fun q =>
      { q with st := .guestRefused, unacked := [], queue := [], assigned := false, downSince := some stamp })).run w).fab.recorded :=
    hwfab.2
  have hx : Frame [.fab] [] w ((modPort p (fun q =>
      { q with st := .guestRefused, unacked := [], queue := [], assigned := false, downSince := some stamp })).run w) :=
    Prog.frame_noRegs _ _ (by simp [modPort, Act.Within]) w
  generalize (modPort p _).run w = x at *
  have hall : Frame [.tim, .fab] [] s x := hw.trans (hx.mono (by simp) (by simp))
  have hpend := hall.pended_raiseAt (e := 69) stamp (by decide) List.not_mem_nil
  have hraise := frame_raiseAt 69 stamp x
  have hyfab : ((Prog.raiseAt 69 stamp).run x).fab = x.fab := hraise.1 .fab (by decide) (by decide)
  generalize (Prog.raiseAt 69 stamp).run x = y at *
  obtain ⟨guests, hheard⟩ := Fabric.heard_guests m new y.fab
  have hlast : Frame [.fab] [] y ((Act.fab (Fabric.heard m new)).apply y) := Act.frame_noRegs (a := .fab _) List.mem_cons_self y
  have hlastFab : ((Act.fab (Fabric.heard m new)).apply y).fab = { x.fab with guests := guests } := by rw [← hyfab, ← hheard]; rfl
  have hlastPort : ((Act.fab (Fabric.heard m new)).apply y).port p = x.port p := by rw [State.port, hlastFab]; rfl
  refine ⟨by rw [hlastPort, hxport], by rw [hlastFab]; exact hxrec, ?_, (hall.mono (by simp) (by simp)).trans
    ((hraise.mono (by simp) (by simp)).trans (hlast.mono (by simp) (by simp)))⟩
  rw [Pended, hlast.1 .ctl (by decide) (by decide)]
  exact hpend

end

/-- Settles O42, clause by clause. -/
theorem linksFailAndGuestsCome : Obligations.LinksFailAndGuestsCome := by
  unfold Obligations.LinksFailAndGuestsCome
  intro s a stamp hinv hawake hlen hhere hdoms
  have hs := hinv.canon
  have hroot : s.RootAlone a := ⟨hhere, hdoms⟩
  refine ⟨fun p t0 hp hen hst hsince => ⟨fun hearly => ?_, fun hdue hnone =>
      completes_linkDownReport hawake hlen hroot hp hen hst hsince hdue hnone⟩,
    fun m domain hrsv hdown hport hnone => completes_linkStateReceive hawake m domain stamp hrsv hdown hport hnone,
    fun m domain down hbad => completes_linkStateReceive_bad hs hawake m domain down stamp hbad, ?_, ?_,
    fun p hp hqueue _ => ⟨fun hen hst hnone hactive => completes_guestPortUp hawake hlen hroot hp hqueue stamp hen hst hnone hactive,
      fun t0 hst hsince hdue => completes_guestPortDown hawake hlen hroot hp hst hsince hdue⟩,
    fun m domain hrsv hport hup hgone hnone => completes_guestAnnounceReceive hawake m domain stamp hrsv hport hgone hup hnone,
    fun m domain p hrsv hport hgone hp hst hguest hlower hqueue hunacked hne =>
      completes_guestAnnounceReceive_lower hawake m domain stamp hrsv hport hgone hlen hhere hp hst hguest hlower hqueue hunacked hne⟩
  · refine .of_go_self rfl ?_
    rw [Prog.run_guard]
    split
    · rw [Prog.run_dyn, hsince]
      dsimp only
      rw [Prog.run_when, if_neg (by simpa using hearly)]
    · rfl
  · exact .of_go rfl hawake ⟨rfl, Act.frame_noRegs (a := .fab _) List.mem_cons_self s⟩
  · exact .of_go rfl hawake ⟨rfl, Act.frame_noRegs (a := .fab _) List.mem_cons_self s⟩

end Sys2Proof.Machine
end

section
/-! PROOF. O45: house time over PTP, the capture channels, TIME_NOW (R377, R391, R399 to R404). -/

namespace Sys2Proof.Machine

/-! ### Offsets and steering (R377, R391, R399) -/

theorem Domain.ofs_at_base (x : Domain) {l : Time} (h : x.base = l) : x.ofs l = x.offset := by
  rw [Domain.ofs, h, sub_self, mul_zero]
  simp

/-- Nothing but the two domains has changed, and the free values drawn. -/
def State.OnlyDoms (s t : State) : Prop :=
  (∃ doms, t.tim = { s.tim with doms := doms } ∧ doms.length = s.tim.doms.length) ∧ Frame [.tim, .freeCount] [] s t

theorem State.OnlyDoms.refl (s : State) : s.OnlyDoms s := ⟨⟨_, rfl, rfl⟩, Frame.refl _ _ _⟩

theorem State.OnlyDoms.trans {s t u : State} (h : s.OnlyDoms t) (h' : t.OnlyDoms u) : s.OnlyDoms u := by
  obtain ⟨⟨doms, ht, hlen⟩, hframe⟩ := h
  obtain ⟨⟨doms', hu, hlen'⟩, hframe'⟩ := h'
  exact ⟨⟨doms', by rw [hu, ht], by rw [hlen', ht, hlen]⟩, hframe.trans hframe'⟩

theorem modDom_onlyDoms (d : Bool) (f : Domain → Domain) (s : State) : s.OnlyDoms ((modDom d f).run s) :=
  ⟨⟨_, rfl, by simp [modAt_eq_modify]⟩, Prog.frame_noRegs _ _ (by simp [modDom, Act.Within]) s⟩

theorem steer_onlyDoms (d : Bool) (source : Option Int) (bound theta : Int) (l : Time) (s : State) :
    s.OnlyDoms ((steer d source bound theta l).run s) :=
  (show s.OnlyDoms ((Act.free 1).apply ((Act.free 1).apply s)) from
    ⟨⟨_, rfl, rfl⟩, Prog.frame_noRegs _ (.seq (.act (.free 1)) (.act (.free 1))) (by simp [Act.Within]) s⟩).trans
    (modDom_onlyDoms d _ _)

theorem steerRoot_onlyDoms (d : Bool) (l : Time) (s : State) : s.OnlyDoms ((steerRoot d l).run s) := by
  rw [steerRoot, Prog.run_dyn]
  dsimp only
  split
  · exact .refl s
  · split
    · exact steer_onlyDoms _ _ _ _ _ _
    · split
      · exact steer_onlyDoms _ _ _ _ _ _
      · exact modDom_onlyDoms _ _ _

theorem steerRoots_onlyDoms (l : Time) (s : State) : s.OnlyDoms ((steerRoots l).run s) :=
  (steerRoot_onlyDoms false l s).trans (steerRoot_onlyDoms true l _)

/-! ### House time (R378, R400) -/

/-- Events at instants of LOCAL. -/
theorem frame_raiseLocal (e : Nat) (l : Time) (s : State) : Frame [.ctl] [] s ((Prog.raiseLocal e l).run s) := frame_raiseAt e _ s

theorem Frame.pended_raiseLocal {parts : List Part} {offs : List Nat} {s u : State} (h : Frame parts offs s u) {e : Nat} (l : Time)
    (hctl : Part.ctl ∉ parts) (hroute : R.CPX_EV_ROUTE e ∉ offs) : Pended e s ((Prog.raiseLocal e l).run u) :=
  h.pended_raiseAt _ hctl hroute

/-- What a Sync leaves that locks HOUSE or loses it (R400): `house` says which. -/
theorem run_houseSync {s : State} (hs : s.Canon) {origin t2 : Int} {l : Time} {good : Nat} {house : Bool} {e : Nat}
    (hgood : (if (t2 - origin - s.tim.meanDelay).natAbs ≤ 1000 * 256 then min 16 (s.tim.houseGood + 1) else 0) = good)
    (hturn : (s.tim.house = false ∧ good = 16 ∧ house = true ∧ e = 100) ∨
      (s.tim.house = true ∧ 10000 * 256 < (t2 - origin - s.tim.meanDelay).natAbs ∧ house = false ∧ e = 101)) :
    let u := (houseSync origin t2 l).run s
    u.tim.house = house ∧ u.tim.houseGood = good ∧ u.tim.houseOffset = t2 - origin - s.tim.meanDelay ∧
      u.tim.houseLocal = t2 - l ∧ u.tim.syncT1 = some origin ∧
      u.reg R.TIM_HOUSE_OFFSET = BitVec.ofInt 32 (sat32 ((t2 - l - (s.dom false).ofs l) / 256)) ∧
      u.out = .ptp 1 t2 :: s.out ∧ Pended e s u ∧ Frame [.tim, .ctl, .out, .freeCount] [R.TIM_HOUSE_OFFSET] s u := by
  let lock := !s.tim.house && good == 16
  let lost := s.tim.house && decide (10000 * 256 < (t2 - origin - s.tim.meanDelay).natAbs)
  let v := (Act.tim (fun c => { c with
    houseOffset := t2 - origin - s.tim.meanDelay, houseGood := good, syncT1 := some origin, syncT2 := some t2, syncLoc := l
    houseLocal := t2 - l, house := (c.house || lock) && !lost })).apply s
  let w := (Prog.setReg R.TIM_HOUSE_OFFSET (BitVec.ofInt 32 (sat32 ((t2 - l - (s.dom false).ofs l) / 256)))).run v
  have hone : (lock = true ∧ lost = false ∧ e = 100 ∨ lock = false ∧ lost = true ∧ e = 101) ∧
      ((s.tim.house || lock) && !lost) = house := by
    rcases hturn with ⟨hoff, h16, rfl, rfl⟩ | ⟨hon, hfar, rfl, rfl⟩
    · simp [lock, lost, hoff, h16]
    · simpa [lock, lost, hon] using hfar
  have hrun : (houseSync origin t2 l).run s =
      (Act.out (.ptp 1 t2)).apply ((Prog.raiseLocal e l).run ((steerRoots l).run w)) := by
    rw [houseSync, Prog.run_dyn]
    dsimp only
    rw [hgood]
    show (Prog.block [.act (.tim _), .setReg _ _, steerRoots l, .when lock (.raiseLocal 100 l), .when lost (.raiseLocal 101 l),
      .send (.ptp 1 t2)]).run s = _
    simp only [Prog.run_block_cons, Prog.run_block_nil, Prog.run_when, Prog.run_send]
    rcases hone.1 with ⟨h1, h2, rfl⟩ | ⟨h1, h2, rfl⟩
    · rw [h1, h2, if_neg Bool.false_ne_true, if_pos rfl, Prog.run_act]
    · rw [h1, h2, if_neg Bool.false_ne_true, if_pos rfl, Prog.run_act]
  have hreg : w.reg R.TIM_HOUSE_OFFSET = BitVec.ofInt 32 (sat32 ((t2 - l - (s.dom false).ofs l) / 256)) :=
    State.reg_store_same _ _ _ _ (hs.apply _) rfl
  have hframe : Frame [.tim] [R.TIM_HOUSE_OFFSET] s w :=
    (Prog.frame [.tim] [R.TIM_HOUSE_OFFSET] (.seq (.act (.tim _)) (.setReg R.TIM_HOUSE_OFFSET _)) (by simp [Act.Within]) s hs).2
  have htim : w.tim.house = house ∧ w.tim.houseGood = good ∧ w.tim.houseOffset = t2 - origin - s.tim.meanDelay ∧
      w.tim.houseLocal = t2 - l ∧ w.tim.syncT1 = some origin := ⟨hone.2, rfl, rfl, rfl, rfl⟩
  have hwout : w.out = s.out := rfl
  intro u
  rw [show u = _ from hrun]
  clear u hrun
  generalize w = w at *
  obtain ⟨⟨doms, hdoms, -⟩, hsteer⟩ := steerRoots_onlyDoms l w
  generalize (steerRoots l).run w = x at *
  have hall : Frame [.tim, .freeCount] [R.TIM_HOUSE_OFFSET] s x := (hframe.mono (by simp) (fun _ => id)).trans (hsteer.mono (fun _ => id) (by simp))
  have hroute : R.CPX_EV_ROUTE e ∉ [R.TIM_HOUSE_OFFSET] := by rcases hone.1 with ⟨-, -, rfl⟩ | ⟨-, -, rfl⟩ <;> decide
  have hpend := hall.pended_raiseLocal (e := e) l (by decide) hroute
  have hraise := frame_raiseLocal e l x
  generalize (Prog.raiseLocal e l).run x = y at *
  have hlast : Frame [.out] [] y ((Act.out (.ptp 1 t2)).apply y) := Act.frame_noRegs (a := .out _) List.mem_cons_self y
  have hytim : ((Act.out (.ptp 1 t2)).apply y).tim = { w.tim with doms := doms } := by
    rw [← hdoms]
    exact hraise.1 .tim (by decide) (by decide)
  have hyout : ((Act.out (.ptp 1 t2)).apply y).out = .ptp 1 t2 :: s.out := by
    rw [← hwout, ← show x.out = w.out from hsteer.1 .out (by decide) (by decide),
      ← show y.out = x.out from hraise.1 .out (by decide) (by decide)]
    rfl
  rw [hytim]
  obtain ⟨h1, h2, h3, h4, h5⟩ := htim
  refine ⟨h1, h2, h3, h4, h5, ?_, hyout, hpend, (hall.mono (by simp) (fun _ => id)).trans
    ((hraise.mono (by simp) (by simp)).trans (hlast.mono (by simp) (by simp)))⟩
  rw [hlast.2 _ List.not_mem_nil, hraise.2 _ List.not_mem_nil, hsteer.2 _ List.not_mem_nil, hreg]

section
variable {s : State} (hs : s.Canon) (hawake : s.Awake) (hen : s.flag F.TIM_CTRL_PTP_EN = true) (hruns : s.mgtRuns = true)
include hs hawake hen hruns

theorem completes_ptpSyncReceive_locks (seq : BitVec 16) (origin t2 : Int) (loc : Time) (hoff : s.tim.house = false)
    (hgood : s.tim.houseGood = 15)
    (hnear : (t2 - (s.fld F.TIM_PTP_PHY_RX : Int) - origin - s.tim.meanDelay).natAbs ≤ 1000 * 256) :
    Completes (.ptpSyncReceive false seq origin t2 loc) s (fun t =>
      t.tim.house = true ∧ t.tim.houseOffset = t2 - (s.fld F.TIM_PTP_PHY_RX : Int) - origin - s.tim.meanDelay ∧
      t.tim.houseLocal = t2 - loc ∧
      t.reg R.TIM_HOUSE_OFFSET = BitVec.ofInt 32 (sat32 ((t2 - loc -
        (s.dom false).ofs (loc - (s.fld F.TIM_PTP_PHY_RX : Int))) / 256)) ∧
      t.out = .ptp 1 (t2 - s.fld F.TIM_PTP_PHY_RX) :: s.out ∧ Pended 100 s t ∧
      Frame [.tim, .ctl, .out, .freeCount] [R.TIM_HOUSE_OFFSET] s t) := by
  let phy : Int := s.fld F.TIM_PTP_PHY_RX
  let v := (Act.tim (fun c => { c with syncSeq := seq })).apply ((Prog.atLocal loc).run s)
  have hrun : exec (.ptpSyncReceive false seq origin t2 loc) s = .next ((houseSync origin (t2 - phy) (loc - phy)).run v) := by
    refine (congrArg _ (Prog.go_awake _ s hawake)).trans ?_
    rw [Prog.run_guard, if_pos (by rw [hen, hruns]; rfl)]
    rfl
  have hv : Frame [.tim] [] s v := Prog.frame_noRegs _ (.seq (.atLocal loc) (.act (.tim _))) (by simp [Prog.atLocal, Act.Within]) s
  have hvc : v.Canon := (hs.run _).apply _
  have hvtim : v.tim.house = false ∧ v.tim.houseGood = 15 ∧ v.tim.meanDelay = s.tim.meanDelay := ⟨hoff, hgood, rfl⟩
  have hvdom : v.dom false = s.dom false := rfl
  refine ⟨_, hrun, ?_⟩
  generalize v = v at *
  obtain ⟨hvoff, hvgood, hmean⟩ := hvtim
  obtain ⟨hhouse, -, hofs, hlocal, -, hreg, hout, hpend, hframe⟩ := run_houseSync hvc (origin := origin) (t2 := t2 - phy)
    (l := loc - phy) (good := 16) (house := true) (e := 100) (by rw [hmean, if_pos hnear, hvgood]; rfl)
    (.inl ⟨hvoff, rfl, rfl, rfl⟩)
  have hdiff : t2 - phy - (loc - phy) = t2 - loc := by ring
  rw [hdiff] at hlocal hreg
  refine ⟨hhouse, by rw [hofs, hmean], hlocal, by rw [hreg, hvdom], ?_, ?_, (hv.mono (by simp) (by simp)).trans hframe⟩
  · rw [hout, show v.out = s.out from hv.1 .out (by decide) (by decide)]
  · rw [Pended, hpend, hv.2 _ List.not_mem_nil, hv.1 .ctl (by decide) (by decide)]

theorem completes_ptpFollowUpReceive_lost (origin : Int) {t2 : Int} (hnone : s.tim.syncT1 = none) (hsome : s.tim.syncT2 = some t2)
    (hon : s.tim.house = true) (hfar : 10000 * 256 < (t2 - origin - s.tim.meanDelay).natAbs) :
    Completes (.ptpFollowUpReceive s.tim.syncSeq origin) s (fun t =>
      t.tim.house = false ∧ t.tim.houseGood = 0 ∧ t.tim.syncT1 = some origin ∧ t.out = .ptp 1 t2 :: s.out ∧
      Pended 101 s t ∧ Frame [.tim, .ctl, .out, .freeCount] [R.TIM_HOUSE_OFFSET] s t) := by
  refine .of_go rfl hawake ?_
  rw [Prog.run_guard, if_pos (by rw [hen, hruns]; rfl), Prog.run_dyn, hnone, hsome]
  dsimp only
  rw [if_pos rfl]
  obtain ⟨hhouse, hgood, -, -, hsync, -, hout, hpend, hframe⟩ := run_houseSync hs (origin := origin) (t2 := t2)
    (l := s.tim.syncLoc) (good := 0) (house := false) (e := 101) (if_neg (by omega)) (.inr ⟨hon, hfar, rfl, rfl⟩)
  exact ⟨hhouse, hgood, hsync, hout, hpend, hframe⟩

end

/-- HOUSE is lost with the Announces of its master (R400). -/
theorem completes_ptpAnnounceTimeout {s : State} (hawake : s.Awake) (hon : s.tim.house = true) :
    Completes .ptpAnnounceTimeout s (fun t => t.tim.master = none ∧ t.tim.house = false ∧ t.tim.houseGood = 0 ∧ Pended 101 s t ∧
      Frame [.tim, .ctl, .freeCount] [] s t) := by
  let v := (Act.tim (fun c => { c with master := none, house := false, houseGood := 0 })).apply s
  have hrun : exec .ptpAnnounceTimeout s = .next ((Prog.raise 101).run ((steerRoots s.tim.now).run v)) := by
    refine (congrArg _ (Prog.go_awake _ s hawake)).trans ?_
    rw [Prog.run_dyn, Prog.run_block_cons, Prog.run_block_cons, Prog.run_block_cons, Prog.run_block_nil, hon, Prog.run_when,
      if_pos rfl, Prog.run_act]
  have hv : Frame [.tim] [] s v := Act.frame_noRegs (a := .tim _) List.mem_cons_self s
  have hvtim : v.tim.master = none ∧ v.tim.house = false ∧ v.tim.houseGood = 0 := ⟨rfl, rfl, rfl⟩
  refine ⟨_, hrun, ?_⟩
  generalize v = v at *
  obtain ⟨⟨doms, hdoms, -⟩, hsteer⟩ := steerRoots_onlyDoms s.tim.now v
  generalize (steerRoots s.tim.now).run v = x at *
  have hall : Frame [.tim, .freeCount] [] s x := (hv.mono (by simp) (by simp)).trans hsteer
  have hlast : Frame [.freeCount, .ctl] [] x ((Prog.raise 101).run x) := Prog.Does.frame_noRegs (by simp)
  have htim : ((Prog.raise 101).run x).tim = { v.tim with doms := doms } := hdoms ▸ hlast.1 .tim (by decide) (by decide)
  rw [htim]
  obtain ⟨hmaster, hhouse, hgood⟩ := hvtim
  exact ⟨hmaster, hhouse, hgood, pended_run_raise 101 hall (by decide) (by decide),
    (hall.mono (by simp) (by simp)).trans (hlast.mono (by simp) (by simp))⟩

/-! ### Capture channels (R401, R402) -/

theorem Prog.run_block_two (p q : Prog) (s : State) : (Prog.block [p, q]).run s = q.run (p.run s) := rfl

/-- A one-bit field reads back as it was written. -/
theorem flag_setFlag_same {s : State} (hs : s.Canon) {f : Fld} (hf : f.lo = f.hi ∧ f.hi < 32) (b : Bool) :
    ((Prog.setFlag f b).run s).flag f = b := by
  show (((Prog.setFld f (boolNat b)).run s).fld f == 1) = b
  rw [Prog.run_setFld_same f _ s hs hf.2 (le_of_eq hf.1), hf.1, Nat.add_sub_cancel_left]
  cases b <;> rfl

theorem cap_modCap_same {s : State} {c : Nat} (h : c < s.tim.caps.length) (f : CapChannel → CapChannel) :
    ((modCap c f).run s).cap c = f (s.cap c) := getD_modAt_same _ _ _ _ h

theorem State.cap_congr {s t : State} (h : t.tim = s.tim) (c : Nat) : t.cap c = s.cap c := by rw [State.cap, h, State.cap]

theorem capInfo_route {c e : Nat} (he : e < 512) : R.CPX_EV_ROUTE e ∉ [(F.TIM_CAP_INFO_LEVEL c).off] := by
  simp only [List.mem_singleton]
  show ¬ 0x1000 + 0x4 * e = 0x600110 + 0x20 * c
  omega

section
variable {s : State} (hs : s.Canon) (hawake : s.Awake) {c : Nat} (hc : c < 9) (hlen : s.tim.caps.length = 9)
  (hen : s.flag (F.TIM_CAP_CTRL_ENABLE c) = true) (halways : s.flag (F.TIM_CAP_CTRL_ALWAYS c) = true)
  (hedge : s.fld (F.TIM_CAP_CTRL_EDGE c) = 3) {stamp : Time} (hapart : ∀ u, (s.cap c).last = some u → 4 * 256 ≤ stamp - u)
include hc hen halways hedge hapart

/-- An edge that is far enough from the last and that the channel takes, whichever kind it is (R401, R402). -/
theorem run_captureEdgeProg (rising : Bool) : (captureEdgeProg c rising stamp).run s =
    (if (s.cap c).queue.length ≥ 16 then Prog.block [.setFld (F.TIM_CAP_INFO_OVF c) 1, .raiseAt 105 stamp]
      else .block [
        modCap c (fun x => { x with
          queue := x.queue ++ [{ ns := timeNs stamp, frac := timeFrac stamp, rising := rising, domain := s.tim.follow }]
          latest := some stamp }),
        .setFld (F.TIM_CAP_INFO_LEVEL c) ((s.cap c).queue.length + 1),
        .when (s.cap c).queue.isEmpty (.raiseAt 104 stamp)]).run ((modCap c (fun x => { x with last := some stamp })).run s) := by
  have hopen : (match (s.cap c).last with | some u => decide (stamp - u < 4 * 256) | none => false) = false := by
    split
    case h_1 u hu => exact decide_eq_false (not_lt.2 (hapart u hu))
    case h_2 => rfl
  have hkind : (if rising = true then bitOf (s.fld (F.TIM_CAP_CTRL_EDGE c)) 0 else bitOf (s.fld (F.TIM_CAP_CTRL_EDGE c)) 1) = true := by
    rw [hedge]
    cases rising <;> rfl
  have hwanted : ¬ (!((if rising = true then bitOf (s.fld (F.TIM_CAP_CTRL_EDGE c)) 0 else bitOf (s.fld (F.TIM_CAP_CTRL_EDGE c)) 1) &&
      (s.flag (F.TIM_CAP_CTRL_ALWAYS c) || inCapWindow s c stamp))) = true := by rw [hkind, halways]; simp
  rw [captureEdgeProg, Prog.run_guard, if_pos (by simp [hc, hen]), Prog.run_dyn]
  dsimp only
  rw [Prog.run_block_cons, Prog.run_block_cons, Prog.run_block_nil, if_neg, if_neg hwanted]
  exact ne_true_of_eq_false hopen

include hs hawake hlen

theorem completes_captureEdge_first (rising : Bool) (hempty : (s.cap c).queue = []) : Completes (.captureEdge c rising stamp) s (fun t =>
    (t.cap c).queue = [{ ns := timeNs stamp, frac := timeFrac stamp, rising := rising, domain := s.tim.follow }] ∧
    t.fld (F.TIM_CAP_INFO_LEVEL c) = 1 ∧ Pended 104 s t ∧ Frame [.tim, .ctl] [(F.TIM_CAP_INFO_LEVEL c).off] s t) := by
  refine .of_go rfl hawake ?_
  rw [run_captureEdgeProg hc hen halways hedge hapart, hempty, if_neg (by simp), Prog.run_block_cons, Prog.run_block_cons,
    Prog.run_block_cons, Prog.run_block_nil, Prog.run_when,
    if_pos List.isEmpty_nil]
  have hv : Frame [.tim] [] s ((modCap c (fun x => { x with last := some stamp })).run s) :=
    Prog.frame_noRegs _ _ (by simp [modCap, Act.Within]) s
  have hvc : ((modCap c (fun x => { x with last := some stamp })).run s).Canon := hs.run _
  have hvcap := cap_modCap_same (s := s) (c := c) (by omega) (fun x => { x with last := some stamp })
  have hvlen : ((modCap c (fun x => { x with last := some stamp })).run s).tim.caps.length = 9 := by
    show (modAt s.tim.caps c _).length = 9
    simpa [modAt_eq_modify] using hlen
  generalize (modCap c (fun x => { x with last := some stamp })).run s = v at *
  let add (x : CapChannel) : CapChannel := { x with
    queue := x.queue ++ [{ ns := timeNs stamp, frac := timeFrac stamp, rising := rising, domain := s.tim.follow }]
    latest := some stamp }
  have hw : Frame [.tim] [] v ((modCap c add).run v) := Prog.frame_noRegs _ _ (by simp [modCap, Act.Within]) v
  have hwc : ((modCap c add).run v).Canon := hvc.run _
  have hwcap := cap_modCap_same (s := v) (c := c) (by omega) add
  have hwq : (add (v.cap c)).queue = [{ ns := timeNs stamp, frac := timeFrac stamp, rising := rising, domain := s.tim.follow }] := by
    show (v.cap c).queue ++ _ = _
    rw [hvcap, hempty]
    rfl
  generalize (modCap c add).run v = w at *
  have hlevel := Prog.run_setFld_same (F.TIM_CAP_INFO_LEVEL c) 1 w hwc (show 16 < 32 by decide) (show 12 ≤ 16 by decide)
  have hx : Frame [] [(F.TIM_CAP_INFO_LEVEL c).off] w ((Prog.setFld (F.TIM_CAP_INFO_LEVEL c) 1).run w) :=
    (Prog.frame [] _ (.setFld (F.TIM_CAP_INFO_LEVEL c) 1) (fun _ => List.mem_singleton_self _) w hwc).2
  show (((Prog.raiseAt 104 stamp).run ((Prog.setFld (F.TIM_CAP_INFO_LEVEL c) 1).run w)).cap c).queue = _ ∧ _
  generalize (Prog.setFld (F.TIM_CAP_INFO_LEVEL c) 1).run w = x at *
  have hxcap : x.cap c = w.cap c := State.cap_congr (hx.1 .tim (by simp) (by decide)) c
  have hall : Frame [.tim] [(F.TIM_CAP_INFO_LEVEL c).off] s x :=
    (hv.mono (fun _ => id) (by simp)).trans ((hw.mono (fun _ => id) (by simp)).trans (hx.mono (by simp) (fun _ => id)))
  have hlast := frame_raiseAt 104 stamp x
  refine ⟨?_, (hlast.fld _ List.not_mem_nil).trans hlevel, hall.pended_raiseAt stamp (by decide) (capInfo_route (by decide)),
    (hall.mono (by simp) (fun _ => id)).trans (hlast.mono (by simp) (by simp))⟩
  rw [State.cap_congr (hlast.1 .tim (by decide) (by decide)), hxcap, hwcap, hwq]

theorem completes_captureEdge_full (rising : Bool) (hfull : (s.cap c).queue.length = 16) :
    Completes (.captureEdge c rising stamp) s (fun t =>
      (t.cap c).queue = (s.cap c).queue ∧ t.flag (F.TIM_CAP_INFO_OVF c) = true ∧ Pended 105 s t ∧
      Frame [.tim, .ctl] [(F.TIM_CAP_INFO_LEVEL c).off] s t) := by
  refine .of_go rfl hawake ?_
  rw [run_captureEdgeProg hc hen halways hedge hapart, hfull, if_pos (le_refl 16), Prog.run_block_cons, Prog.run_block_cons,
    Prog.run_block_nil]
  have hv : Frame [.tim] [] s ((modCap c (fun x => { x with last := some stamp })).run s) :=
    Prog.frame_noRegs _ _ (by simp [modCap, Act.Within]) s
  have hvc : ((modCap c (fun x => { x with last := some stamp })).run s).Canon := hs.run _
  have hvcap := cap_modCap_same (s := s) (c := c) (by omega) (fun x => { x with last := some stamp })
  generalize (modCap c (fun x => { x with last := some stamp })).run s = v at *
  have hovf := Prog.run_setFld_same (F.TIM_CAP_INFO_OVF c) 1 v hvc (show 24 < 32 by decide) (show 24 ≤ 24 by decide)
  have hx : Frame [] [(F.TIM_CAP_INFO_LEVEL c).off] v ((Prog.setFld (F.TIM_CAP_INFO_OVF c) 1).run v) :=
    (Prog.frame [] _ (.setFld (F.TIM_CAP_INFO_OVF c) 1) (fun _ => List.mem_singleton_self _) v hvc).2
  generalize (Prog.setFld (F.TIM_CAP_INFO_OVF c) 1).run v = x at *
  have hall : Frame [.tim] [(F.TIM_CAP_INFO_LEVEL c).off] s x := (hv.mono (fun _ => id) (by simp)).trans (hx.mono (by simp) (fun _ => id))
  have hlast := frame_raiseAt 105 stamp x
  refine ⟨?_, (hlast.flag _ List.not_mem_nil).trans (by rw [State.flag, hovf]; rfl),
    hall.pended_raiseAt stamp (by decide) (capInfo_route (by decide)),
    (hall.mono (by simp) (fun _ => id)).trans (hlast.mono (by simp) (by simp))⟩
  rw [State.cap_congr (hlast.1 .tim (by decide) (by decide)), State.cap_congr (hx.1 .tim (by simp) (by decide)), hvcap]

end

/-- A read of an empty channel answers 0 (R402). -/
theorem completes_captureRead_empty {s : State} (hs : s.Canon) (hawake : s.Awake) {c : Nat} (hc : c < 9)
    (hempty : (s.cap c).queue = []) : Completes (.captureRead c) s (fun t =>
      t.bus = { data := [0] } ∧ t.flag (F.TIM_CAP_INFO_VALID c) = false ∧
      Frame [.bus] [(F.TIM_CAP_INFO_LEVEL c).off] s t) := by
  refine .of_go rfl hawake ?_
  rw [captureReadProg, Prog.run_dyn, if_neg (by omega), hempty]
  have hvalid := Prog.run_setFld_same (F.TIM_CAP_INFO_VALID c) 0 s hs (show 10 < 32 by decide) (show 10 ≤ 10 by decide)
  refine ⟨rfl, ?_, (Prog.frame [.bus] [R.TIM_CAP_INFO c] (.block [.setFld (F.TIM_CAP_INFO_VALID c) 0, .act (.bus { data := [0] })])
    (by simp [F.TIM_CAP_INFO_VALID, Act.Within]) s hs).2⟩
  show (((Prog.setFld (F.TIM_CAP_INFO_VALID c) 0).run s).fld (F.TIM_CAP_INFO_VALID c) == 1) = false
  rw [hvalid]
  rfl

/-- A read takes the oldest record (R402). -/
theorem completes_captureRead {s : State} (hs : s.Canon) (hawake : s.Awake) {c : Nat} (hc : c < 9) (hlen : s.tim.caps.length = 9)
    {r : CapRecord} {rest : List CapRecord} (hqueue : (s.cap c).queue = r :: rest) (hrest : rest.length < 16) :
    Completes (.captureRead c) s (fun t =>
      t.bus = { data := [r.ns] } ∧ (t.cap c).queue = rest ∧ t.fld (F.TIM_CAP_INFO_FRAC c) = r.frac.toNat ∧
      t.flag (F.TIM_CAP_INFO_RISING c) = r.rising ∧ t.flag (F.TIM_CAP_INFO_DOMAIN c) = r.domain ∧
      t.flag (F.TIM_CAP_INFO_VALID c) = true ∧ t.fld (F.TIM_CAP_INFO_LEVEL c) = rest.length ∧
      Frame [.bus, .tim] [(F.TIM_CAP_INFO_LEVEL c).off] s t) := by
  let level : Prog := .block [.setFld (F.TIM_CAP_INFO_LEVEL c) rest.length, .act (.bus { data := [r.ns] })]
  let valid : Prog := .block [.setFld (F.TIM_CAP_INFO_VALID c) 1, level]
  let domain : Prog := .block [.setFlag (F.TIM_CAP_INFO_DOMAIN c) r.domain, valid]
  let rising : Prog := .block [.setFlag (F.TIM_CAP_INFO_RISING c) r.rising, domain]
  let v := (modCap c (fun x => { x with queue := rest })).run s
  have hvf : Frame [.tim] [] s v := Prog.frame_noRegs _ _ (by simp [modCap, Act.Within]) s
  have hv : v.Canon := hs.run _
  have hcap : v.cap c = { s.cap c with queue := rest } := cap_modCap_same (by omega) _
  have hrun : exec (.captureRead c) s = .next ((Prog.block [.setFld (F.TIM_CAP_INFO_FRAC c) r.frac.toNat, rising]).run v) := by
    refine (congrArg _ (Prog.go_awake _ s hawake)).trans ?_
    rw [captureReadProg, Prog.run_dyn, if_neg (by omega), hqueue]
    simp only [Prog.run_block_cons, Prog.run_block_nil, rising, domain, valid, level, v]
  have hbus (t : State) : ((Prog.block [.setFld (F.TIM_CAP_INFO_FRAC c) r.frac.toNat, rising]).run t).bus = { data := [r.ns] } := by
    simp only [Prog.run_block_cons, Prog.run_block_nil, rising, domain, valid, level, Prog.run_act, Act.bus_bus]
  refine ⟨_, hrun, ?_⟩
  generalize v = v at *
  have hframe : Frame [.bus] [R.TIM_CAP_INFO c] v ((Prog.block [.setFld (F.TIM_CAP_INFO_FRAC c) r.frac.toNat, rising]).run v) :=
    (Prog.frame _ _ _ (by
      simp [rising, domain, valid, level, Act.Within, F.TIM_CAP_INFO_FRAC, F.TIM_CAP_INFO_RISING,
        F.TIM_CAP_INFO_DOMAIN, F.TIM_CAP_INFO_VALID, F.TIM_CAP_INFO_LEVEL]) v hv).2
  let v1 := (Prog.setFld (F.TIM_CAP_INFO_FRAC c) r.frac.toNat).run v
  let v2 := (Prog.setFlag (F.TIM_CAP_INFO_RISING c) r.rising).run v1
  let v3 := (Prog.setFlag (F.TIM_CAP_INFO_DOMAIN c) r.domain).run v2
  let v4 := (Prog.setFld (F.TIM_CAP_INFO_VALID c) 1).run v3
  have h1 : v1.Canon := hv.run _
  have h2 : v2.Canon := h1.run _
  have h3 : v3.Canon := h2.run _
  have h4 : v4.Canon := h3.run _
  have hfrac : rising.Keeps (fun t => t.fld (F.TIM_CAP_INFO_FRAC c)) := by
    simp [rising, domain, valid, level, F.TIM_CAP_INFO_FRAC, F.TIM_CAP_INFO_RISING, F.TIM_CAP_INFO_DOMAIN,
      F.TIM_CAP_INFO_VALID, F.TIM_CAP_INFO_LEVEL]
  have hrising : domain.Keeps (fun t => t.fld (F.TIM_CAP_INFO_RISING c)) := by
    simp [domain, valid, level, F.TIM_CAP_INFO_RISING, F.TIM_CAP_INFO_DOMAIN, F.TIM_CAP_INFO_VALID, F.TIM_CAP_INFO_LEVEL]
  have hdomain : valid.Keeps (fun t => t.fld (F.TIM_CAP_INFO_DOMAIN c)) := by
    simp [valid, level, F.TIM_CAP_INFO_DOMAIN, F.TIM_CAP_INFO_VALID, F.TIM_CAP_INFO_LEVEL]
  have hvalid : level.Keeps (fun t => t.fld (F.TIM_CAP_INFO_VALID c)) := by
    simp [level, F.TIM_CAP_INFO_VALID, F.TIM_CAP_INFO_LEVEL]
  have e1 : (Prog.block [.setFld (F.TIM_CAP_INFO_FRAC c) r.frac.toNat, rising]).run v = rising.run v1 := Prog.run_block_two _ _ v
  have e2 : rising.run v1 = domain.run v2 := Prog.run_block_two _ _ v1
  have e3 : domain.run v2 = valid.run v3 := Prog.run_block_two _ _ v2
  have e4 : valid.run v3 = level.run v4 := Prog.run_block_two _ _ v3
  have e5 : level.run v4 = (Act.bus { data := [r.ns] }).apply ((Prog.setFld (F.TIM_CAP_INFO_LEVEL c) rest.length).run v4) :=
    Prog.run_block_two _ _ v4
  have f1 : v1.fld (F.TIM_CAP_INFO_FRAC c) = r.frac.toNat % 2 ^ 8 :=
    Prog.run_setFld_same (F.TIM_CAP_INFO_FRAC c) _ v hv (show 7 < 32 by decide) (show 0 ≤ 7 by decide)
  have f2 : v2.flag (F.TIM_CAP_INFO_RISING c) = r.rising :=
    flag_setFlag_same (f := F.TIM_CAP_INFO_RISING c) h1 ⟨rfl, show 8 < 32 by decide⟩ r.rising
  have f3 : v3.flag (F.TIM_CAP_INFO_DOMAIN c) = r.domain :=
    flag_setFlag_same (f := F.TIM_CAP_INFO_DOMAIN c) h2 ⟨rfl, show 9 < 32 by decide⟩ r.domain
  have f4 : v4.flag (F.TIM_CAP_INFO_VALID c) = true :=
    flag_setFlag_same (f := F.TIM_CAP_INFO_VALID c) h3 ⟨rfl, show 10 < 32 by decide⟩ true
  have f5 : ((Prog.setFld (F.TIM_CAP_INFO_LEVEL c) rest.length).run v4).fld (F.TIM_CAP_INFO_LEVEL c) = rest.length % 2 ^ 5 :=
    Prog.run_setFld_same (F.TIM_CAP_INFO_LEVEL c) rest.length v4 h4 (show 16 < 32 by decide) (show 12 ≤ 16 by decide)
  have k1 := hfrac.run h1
  have k2 := hrising.run h2
  have k3 := hdomain.run h3
  have k4 := hvalid.run h4
  clear_value v1 v2 v3 v4
  refine ⟨hbus v, ?_, ?_, ?_, ?_, ?_, ?_, (hvf.mono (by simp) (by simp)).trans (hframe.mono (by simp) (fun _ => id))⟩
  · rw [State.cap_congr (hframe.1 .tim (by decide) (by decide)), hcap]
  · rw [e1, k1, f1, Nat.mod_eq_of_lt r.frac.isLt]
  · rw [e1, e2, State.flag, k2, ← f2, State.flag]
  · rw [e1, e2, e3, State.flag, k3, ← f3, State.flag]
  · rw [e1, e2, e3, e4, State.flag, k4, ← f4, State.flag]
  · rw [e1, e2, e3, e4, e5, State.fld_apply (Act.keepsRegs_bus _), f5, Nat.mod_eq_of_lt (by omega)]

/-! ### TIME_NOW (R403, R404) -/

theorem completes_timeNowRead {s : State} (hs : s.Canon) (hawake : s.Awake) (loc : Time) : Completes (.timeNowRead loc) s (fun t =>
    let now := s.fabricAt loc
    let sec := unsignedOf 48 ((loc + s.tim.houseLocal) / (256 * 1000000000))
    t.bus = { data := [timeNs now] } ∧ t.reg R.TIM_NOW_NS = timeNs now ∧
    t.fld F.TIM_NOW_FRAC_FRAC = (timeFrac now).toNat ∧ t.flag F.TIM_NOW_FRAC_LOCKED = s.timeLock ∧
    t.reg R.TIM_NOW_LOCAL = timeNs loc ∧ t.reg R.TIM_HOUSE_SEC_LO = BitVec.ofNat 32 sec ∧
    t.fld F.TIM_HOUSE_SEC_HI_SEC = sec / 2 ^ 32 ∧
    Frame [.bus, .tim] [R.TIM_NOW_NS, R.TIM_NOW_FRAC, R.TIM_NOW_LOCAL, R.TIM_HOUSE_SEC_LO, R.TIM_HOUSE_SEC_HI] s t) := by
  let now := s.fabricAt loc
  let sec := unsignedOf 48 ((loc + s.tim.houseLocal) / (256 * 1000000000))
  let v := (Prog.atLocal loc).run s
  let v1 := (Prog.setReg R.TIM_NOW_NS (timeNs now)).run v
  let v2 := (Prog.setFld F.TIM_NOW_FRAC_FRAC (timeFrac now).toNat).run v1
  let v3 := (Prog.setFlag F.TIM_NOW_FRAC_LOCKED s.timeLock).run v2
  let v4 := (Prog.setReg R.TIM_NOW_LOCAL (timeNs loc)).run v3
  let v5 := (Prog.setReg R.TIM_HOUSE_SEC_LO (BitVec.ofNat 32 sec)).run v4
  let v6 := (Prog.setFld F.TIM_HOUSE_SEC_HI_SEC (sec / 2 ^ 32)).run v5
  have hrun : exec (.timeNowRead loc) s = .next ((Act.bus { data := [timeNs now] }).apply v6) := by
    refine (congrArg _ (Prog.go_awake _ s hawake)).trans ?_
    rw [Prog.run_seq, Prog.run_dyn, timeNowProg, Prog.run_dyn]
    simp only [Prog.run_block_cons, Prog.run_block_nil, Prog.run_act]
    rfl
  have hframe : Frame [.bus, .tim] [R.TIM_NOW_NS, R.TIM_NOW_FRAC, R.TIM_NOW_LOCAL, R.TIM_HOUSE_SEC_LO, R.TIM_HOUSE_SEC_HI] s
      ((Act.bus { data := [timeNs now] }).apply v6) :=
    (Prog.frame _ _ (.block [.atLocal loc, .setReg R.TIM_NOW_NS (timeNs now), .setFld F.TIM_NOW_FRAC_FRAC (timeFrac now).toNat,
      .setFlag F.TIM_NOW_FRAC_LOCKED s.timeLock, .setReg R.TIM_NOW_LOCAL (timeNs loc),
      .setReg R.TIM_HOUSE_SEC_LO (BitVec.ofNat 32 sec), .setFld F.TIM_HOUSE_SEC_HI_SEC (sec / 2 ^ 32),
      .act (.bus { data := [timeNs now] })])
      (by simp [Prog.atLocal, Act.Within, F.TIM_NOW_FRAC_FRAC, F.TIM_NOW_FRAC_LOCKED, F.TIM_HOUSE_SEC_HI_SEC]) s hs).2
  have h0 : v.Canon := hs.run _
  have h1 : v1.Canon := h0.run _
  have h2 : v2.Canon := h1.run _
  have h3 : v3.Canon := h2.run _
  have h4 : v4.Canon := h3.run _
  have h5 : v5.Canon := h4.run _
  have f1 : v1.reg R.TIM_NOW_NS = timeNs now := State.reg_store_same _ _ _ _ h0 rfl
  have f2 : v2.fld F.TIM_NOW_FRAC_FRAC = (timeFrac now).toNat := by
    rw [show v2.fld F.TIM_NOW_FRAC_FRAC = (timeFrac now).toNat % 2 ^ 8 from Prog.run_setFld_same _ _ _ h1 (by decide) (by decide)]
    exact Nat.mod_eq_of_lt (timeFrac now).isLt
  have f3 : v3.flag F.TIM_NOW_FRAC_LOCKED = s.timeLock := flag_setFlag_same h2 (by decide) _
  have f4 : v4.reg R.TIM_NOW_LOCAL = timeNs loc := State.reg_store_same _ _ _ _ h3 rfl
  have f5 : v5.reg R.TIM_HOUSE_SEC_LO = BitVec.ofNat 32 sec := State.reg_store_same _ _ _ _ h4 rfl
  have f6 : v6.fld F.TIM_HOUSE_SEC_HI_SEC = sec / 2 ^ 32 := by
    have hlt : sec < 2 ^ 48 := by
      have := Int.emod_lt_of_pos ((loc + s.tim.houseLocal) / (256 * 1000000000)) (show (0 : Int) < ((2 ^ 48 : Nat) : Int) by decide)
      show (((loc + s.tim.houseLocal) / (256 * 1000000000)) % ((2 ^ 48 : Nat) : Int)).toNat < 2 ^ 48
      omega
    rw [show v6.fld F.TIM_HOUSE_SEC_HI_SEC = sec / 2 ^ 32 % 2 ^ 16 from Prog.run_setFld_same _ _ _ h5 (by decide) (by decide)]
    exact Nat.mod_eq_of_lt (by omega)
  have k1 : v6.reg R.TIM_NOW_NS = v1.reg R.TIM_NOW_NS := by simp +decide [v6, v5, v4, v3, v2, h1, Prog.setFlag]
  have k2 : v6.fld F.TIM_NOW_FRAC_FRAC = v2.fld F.TIM_NOW_FRAC_FRAC := by simp +decide [v6, v5, v4, v3, h2, Prog.setFlag]
  have k3 : v6.flag F.TIM_NOW_FRAC_LOCKED = v3.flag F.TIM_NOW_FRAC_LOCKED := by simp +decide [v6, v5, v4, h3]
  have k4 : v6.reg R.TIM_NOW_LOCAL = v4.reg R.TIM_NOW_LOCAL := by simp +decide [v6, v5, h4]
  have k5 : v6.reg R.TIM_HOUSE_SEC_LO = v5.reg R.TIM_HOUSE_SEC_LO := by simp +decide [v6, h5]
  refine ⟨_, hrun, ?_⟩
  clear_value v1 v2 v3 v4 v5 v6
  exact ⟨rfl, k1.trans f1, k2.trans f2, k3.trans f3, k4.trans f4, k5.trans f5, f6, hframe⟩

/-- Settles O45, clause by clause. -/
theorem houseTimeAndCaptures : Obligations.HouseTimeAndCaptures := by
  unfold Obligations.HouseTimeAndCaptures
  intro s hinv hawake
  have hs := hinv.canon
  refine ⟨fun hen hruns => ⟨fun seq origin t2 loc => ?_,
      fun seq origin t2 loc hoff hgood hnear => completes_ptpSyncReceive_locks hs hawake hen hruns seq origin t2 loc hoff hgood hnear,
      fun origin t2 hnone hsome hon hfar => completes_ptpFollowUpReceive_lost hs hawake hen hruns origin hnone hsome hon hfar,
      fun seq origin hseq => ?_, fun t1 t2 t3 t4 h1 h2 => ?_, fun dn ds stamp hdn => ?_, fun dn ds stamp hdn hbetter => ?_⟩,
    fun hon => ?_, fun c rising stamp hc hen => ?_,
    fun c rising stamp hc hlen hen halways hedge hapart =>
      ⟨completes_captureEdge_first hs hawake hc hlen hen halways hedge hapart rising,
        completes_captureEdge_full hs hawake hc hlen hen halways hedge hapart rising⟩,
    fun c hc hempty => completes_captureRead_empty hs hawake hc hempty,
    fun c r rest hc hlen hqueue hrest => completes_captureRead hs hawake hc hlen hqueue hrest,
    fun loc => completes_timeNowRead hs hawake loc, ?_⟩
  · refine .of_go rfl hawake ?_
    rw [Prog.run_guard, if_pos (by rw [hen, hruns]; rfl)]
    exact ⟨rfl, Prog.frame_noRegs _ (.seq (.atLocal loc) (.act (.tim _))) (by simp [Prog.atLocal, Act.Within]) s⟩
  · refine .of_go_self rfl ?_
    rw [Prog.run_guard]
    split
    · rw [Prog.run_dyn]
      split
      · rw [if_neg (Ne.symm hseq), Prog.run_nil]
      · rw [Prog.run_nil]
    · rfl
  · refine .of_go rfl hawake ?_
    rw [Prog.run_guard, if_pos (by rw [hen, hruns]; rfl), Prog.run_dyn, h1, h2]
    exact ⟨rfl, Act.frame_noRegs (a := .tim _) List.mem_cons_self s⟩
  · refine .of_go_self rfl ?_
    rw [Prog.run_guard, if_neg]
    simpa using fun _ _ h => hdn h.symm
  · have hrun : exec (.ptpAnnounceReceive dn ds stamp) s =
        .next ((Act.tim (fun c => { c with master := some ds, masterAt := stamp })).apply s) := by
      refine (congrArg _ (Prog.go_awake _ s hawake)).trans ?_
      rw [Prog.run_guard, if_pos (by rw [hen, hruns, ← hdn]; simp), Prog.run_dyn]
      split
      · rw [Prog.run_when, if_pos (hbetter _ (by assumption)), Prog.run_act]
      · rw [Prog.run_act]
    exact ⟨_, hrun, rfl, Act.frame_noRegs (a := .tim _) List.mem_cons_self s⟩
  · exact completes_ptpAnnounceTimeout hawake hon
  · refine .of_go_self rfl ?_
    rw [captureEdgeProg, Prog.run_guard, if_neg (by simp [hen])]
  · exact .of_go rfl hawake ⟨rfl, Prog.Does.frame_noRegs (by simp)⟩

end Sys2Proof.Machine
end

section
/-! PROOF. O44: link exchanges as sent, the first step, and the lock (R381, R382, R391 to R393). -/

namespace Sys2Proof.Machine

/-! ### Domains one by one -/

theorem dom_modDom_same {s : State} (h : s.tim.doms.length = 2) (d : Bool) (f : Domain → Domain) :
    ((modDom d f).run s).dom d = f (s.dom d) := getD_modAt_same _ _ _ _ (by rw [h]; cases d <;> decide)

theorem dom_modDom_other (s : State) (d : Bool) (f : Domain → Domain) : ((modDom d f).run s).dom (!d) = s.dom (!d) :=
  getD_modAt_other _ _ _ _ _ (by cases d <;> decide)

theorem State.dom_congr {s t : State} (h : t.tim = s.tim) (d : Bool) : t.dom d = s.dom d := by rw [State.dom, h, State.dom]

/-- A domain is as it was, or steered from an instant on, at which its time does not move (R391, R399). -/
def Domain.Steered (l : Time) (x y : Domain) : Prop := y = x ∨ ∃ track corr, y = { x.rebase l with track := track, corr := corr }

theorem Domain.Steered.kept {l : Time} {x y : Domain} (h : x.Steered l y) :
    y.st = x.st ∧ y.ofs l = x.ofs l ∧ y.parent = x.parent ∧ y.depth = x.depth ∧ y.since = x.since ∧ y.rateHeld = x.rateHeld ∧
      y.cands = x.cands := by
  rcases h with rfl | ⟨track, corr, rfl⟩
  · exact ⟨rfl, rfl, rfl, rfl, rfl, rfl, rfl⟩
  · exact ⟨rfl, Domain.ofs_at_base _ rfl, rfl, rfl, rfl, rfl, rfl⟩

section
variable {s : State} (h : s.tim.doms.length = 2) (l : Time)
include h

theorem steer_dom_same (d : Bool) (source : Option Int) (bound theta : Int) :
    (s.dom d).Steered l (((steer d source bound theta l).run s).dom d) :=
  .inr ⟨_, _, dom_modDom_same (s := (Act.free 1).apply ((Act.free 1).apply s)) h d _⟩

omit h in
theorem steer_dom_other (d : Bool) (source : Option Int) (bound theta : Int) :
    ((steer d source bound theta l).run s).dom (!d) = s.dom (!d) :=
  dom_modDom_other ((Act.free 1).apply ((Act.free 1).apply s)) d _

theorem steerRoot_dom (d e : Bool) : (s.dom e).Steered l (((steerRoot d l).run s).dom e) ∧
    ((s.dom e).st ≠ .root ∨ e ≠ d → ((steerRoot d l).run s).dom e = s.dom e) := by
  rw [steerRoot, Prog.run_dyn]
  dsimp only
  have hother (p : Prog) (hp : (p.run s).dom (!d) = s.dom (!d)) (hown : (s.dom d).Steered l ((p.run s).dom d))
      (hroot : (s.dom d).st = .root) :
      (s.dom e).Steered l ((p.run s).dom e) ∧ ((s.dom e).st ≠ .root ∨ e ≠ d → (p.run s).dom e = s.dom e) := by
    by_cases hed : e = d
    · subst hed
      exact ⟨hown, fun hne => absurd hroot (hne.resolve_right (· rfl))⟩
    · obtain rfl : e = !d := by cases e <;> cases d <;> simp_all
      exact ⟨.inl hp, fun _ => hp⟩
  split
  case isTrue => exact ⟨.inl rfl, fun _ => rfl⟩
  case isFalse hroot =>
    have hroot : (s.dom d).st = .root := by simpa using hroot
    split
    · exact hother _ (steer_dom_other l d _ _ _) (steer_dom_same h l d _ _ _) hroot
    · split
      · exact hother _ (steer_dom_other l d _ _ _) (steer_dom_same h l d _ _ _) hroot
      · exact hother _ (dom_modDom_other s d _) (.inr ⟨_, _, dom_modDom_same h d _⟩) hroot

/-- Steering leaves a domain that is no root as it was, and the others' times where they were (R399). -/
theorem steerRoots_dom (e : Bool) : (s.dom e).Steered l (((steerRoots l).run s).dom e) ∧
    ((s.dom e).st ≠ .root → ((steerRoots l).run s).dom e = s.dom e) := by
  have hlen : ((steerRoot false l).run s).tim.doms.length = 2 := by
    obtain ⟨⟨doms, htim, hdoms⟩, -⟩ := steerRoot_onlyDoms false l s
    rw [htim, ← h]
    exact hdoms
  obtain ⟨hA, hAkept⟩ := steerRoot_dom h l false e
  obtain ⟨hB, hBkept⟩ := steerRoot_dom hlen l true e
  have hst := hA.kept.1
  refine ⟨?_, fun hne => (hBkept (.inl (by rwa [hst]))).trans (hAkept (.inl hne))⟩
  cases e
  · rw [show ((steerRoots l).run s).dom false = ((steerRoot false l).run s).dom false from hBkept (.inr (by decide))]
    exact hA
  · rw [← hAkept (.inr (by decide))]
    exact hB

end

/-! ### Messages to a partner (R361, R381) -/

/-- A message to the partner of an idle port leaves at once. -/
theorem run_sendLink_idle {s : State} (hs : s.Canon) {p : Nat} (hp : p < s.fab.ports.length) {cls proto : Nat} {body : List Byte}
    (hidle : (s.port p).Idle (s.newPacket cls 4 proto false 0 body)) : let u := (sendLink cls proto p body).run s
    u.out = packetOut p { pkt := (s.port p).numbered (s.newPacket cls 4 proto false 0 body) } :: s.out ∧
      u.fld (F.FAB_P_TX_COUNT p) = s.countUp (F.FAB_P_TX_COUNT p) ∧ Frame [.fab, .out] [R.FAB_P_TX p] s u := by
  have hrun : (sendLink cls proto p body).run s =
      (dispatchHops 6 cls 0 false [.send p (s.newPacket cls 4 proto false 0 body)]).run ((bumpSrcSeq cls).run s) := by
    rw [sendLink, Prog.run_dyn, if_pos hidle.carries]
    rfl
  have hv : Frame [.fab] [] s ((bumpSrcSeq cls).run s) := Prog.frame_noRegs _ _ (by simp [bumpSrcSeq, Act.Within]) s
  have hport : ((bumpSrcSeq cls).run s).port p = s.port p := rfl
  obtain ⟨hout, hcount, -, hframe⟩ := run_dispatchHops_send (s := (bumpSrcSeq cls).run s) (hs.run _) (p := p) hp
    (by rw [hport]; exact hidle) cls 0
  rw [hrun]
  refine ⟨hout, ?_, (hv.mono (by simp) (by simp)).trans hframe⟩
  rw [hcount, State.countUp, hv.fld _ List.not_mem_nil, State.countUp]

/-- A short time message leaves by an idle port with credits of class 0 (R353, R381). -/
theorem Port.idle_time {q : Port} (s : State) {body : List Byte} (hcarries : portCarries q = true) (hqueue : q.queue = [])
    (hcredits : 1 ≤ creditsFree q 0) (hbody : body.length ≤ 236) : q.Idle (s.newPacket 0 4 2 false 0 body) := by
  refine ⟨hcarries, hqueue, .inl rfl, ?_⟩
  have hone : creditsOf (s.newPacket 0 4 2 false 0 body) ≤ 1 := by
    show ((BitVec.ofNat 16 body.length).toNat + 20 + 255) / 256 ≤ 1
    rw [BitVec.toNat_ofNat, Nat.mod_eq_of_lt (by omega)]
    omega
  exact le_trans hone hcredits

theorem Port.numbered_time (q : Port) (s : State) (body : List Byte) :
    q.numbered (s.newPacket 0 4 2 false 0 body) = { s.newPacket 0 4 2 false 0 body with lseq := 0 } := rfl

section
variable {s : State} (hs : s.Canon) (hawake : s.Awake) (hdoms : s.tim.doms.length = 2) (hlen : s.fab.ports.length = 6) {p : Nat}
  (hp : p < 4) (hen : s.flag F.TIM_CTRL_ENABLE = true) {d : Bool}

theorem frame_atLocal (l : Time) (s : State) : Frame [.tim] [] s ((Prog.atLocal l).run s) :=
  Act.frame_noRegs (a := .tim _) List.mem_cons_self s

section
variable (hcarries : portCarries (s.port p) = true) (hqueue : (s.port p).queue = []) (hcredits : 1 ≤ creditsFree (s.port p) 0)
include hs hawake hlen hp hen hcarries hqueue hcredits

include hdoms in
/-- A request goes to the parent port with the next XID (R381). -/
theorem completes_exchReqSend (loc : Time) (hparent : (s.dom d).parent = some p) : Completes (.exchReqSend d loc) s (fun t =>
    (t.dom d).xid = (s.dom d).xid + 1 ∧ (t.dom d).t1 = some (loc + (s.dom d).ofs loc) ∧
    t.out = packetOut p { pkt := { s.newPacket 0 4 2 false 0 (leBytes 1 2 ++ leBytes 1 (boolNat d) ++
      leBytes 2 ((s.dom d).xid + 1).toNat ++ leBytes 4 0) with lseq := 0 } } :: s.out ∧
    Frame [.tim, .fab, .out] [(F.FAB_P_TX_COUNT p).off] s t) := by
  let body := leBytes 1 2 ++ leBytes 1 (boolNat d) ++ leBytes 2 ((s.dom d).xid + 1).toNat ++ leBytes 4 0
  let v := (modDom d (fun x => { x with xid := (s.dom d).xid + 1, t1 := some (loc + x.ofs loc) })).run ((Prog.atLocal loc).run s)
  have hrun : exec (.exchReqSend d loc) s = .next ((sendLink 0 2 p body).run v) := by
    refine (congrArg _ (Prog.go_awake _ s hawake)).trans ?_
    rw [Prog.run_guard, if_pos hen, Prog.run_seq, Prog.run_dyn, show ((Prog.atLocal loc).run s).dom d = s.dom d from rfl, hparent]
    rfl
  have hv : Frame [.tim] [] s v := Prog.frame_noRegs _ (.seq (.atLocal loc) (modDom d _)) (by simp [Prog.atLocal, modDom, Act.Within]) s
  have hvdom : v.dom d = { s.dom d with xid := (s.dom d).xid + 1, t1 := some (loc + (s.dom d).ofs loc) } :=
    dom_modDom_same (s := (Prog.atLocal loc).run s) hdoms d _
  have hvc : v.Canon := (hs.run _).run _
  have hbody : body.length ≤ 236 := by simp [body, leBytes]
  have hvfab : v.fab = s.fab := hv.1 .fab (by decide) (by decide)
  have hpacket : v.newPacket 0 4 2 false 0 body = s.newPacket 0 4 2 false 0 body := rfl
  refine ⟨_, hrun, ?_⟩
  generalize v = v at *
  obtain ⟨hout, -, hframe⟩ := run_sendLink_idle hvc (p := p) (by rw [hvfab]; omega) (proto := 2) (body := body)
    (by rw [State.port_congr hvfab, hpacket]; exact Port.idle_time s hcarries hqueue hcredits hbody)
  rw [hpacket, Port.numbered_time, show v.out = s.out from hv.1 .out (by decide) (by decide)] at hout
  have hdom := State.dom_congr (hframe.1 .tim (by decide) (by decide)) d
  exact ⟨by rw [hdom, hvdom], by rw [hdom, hvdom], hout, (hv.mono (by simp) (by simp)).trans (hframe.mono (by simp) (fun _ => id))⟩

/-- A request is answered with the stamps in the node's own time of the domain (R381). -/
theorem completes_exchReqReceive (xid : BitVec 16) (l2 l3 : Time) : Completes (.exchReqReceive p d xid l2 l3) s (fun t =>
    t.out = packetOut p { pkt := { s.newPacket 0 4 2 false 0
      (exchRespBytes d xid (l2 + (s.dom d).ofs l2) (l3 + (s.dom d).ofs l3)) with lseq := 0 } } :: s.out ∧
    t.fld (F.FAB_P_TX_COUNT p) = s.countUp (F.FAB_P_TX_COUNT p) ∧
    Frame [.tim, .fab, .out] [(F.FAB_P_TX_COUNT p).off] s t) := by
  let body := exchRespBytes d xid (l2 + (s.dom d).ofs l2) (l3 + (s.dom d).ofs l3)
  let v := (Prog.atLocal l2).run s
  have hrun : exec (.exchReqReceive p d xid l2 l3) s = .next ((sendLink 0 2 p body).run v) := by
    refine (congrArg _ (Prog.go_awake _ s hawake)).trans ?_
    rw [Prog.run_guard, if_pos (by simp [hen, hp])]
    rfl
  have hv : Frame [.tim] [] s v := frame_atLocal l2 s
  have hvc : v.Canon := hs.run _
  have hbody : body.length ≤ 236 := by simp [body, exchRespBytes, leBytes]
  have hvfab : v.fab = s.fab := hv.1 .fab (by decide) (by decide)
  have hpacket : v.newPacket 0 4 2 false 0 body = s.newPacket 0 4 2 false 0 body := rfl
  refine ⟨_, hrun, ?_⟩
  generalize v = v at *
  obtain ⟨hout, hcount, hframe⟩ := run_sendLink_idle hvc (p := p) (by rw [hvfab]; omega) (proto := 2) (body := body)
    (by rw [State.port_congr hvfab, hpacket]; exact Port.idle_time s hcarries hqueue hcredits hbody)
  rw [hpacket, Port.numbered_time, show v.out = s.out from hv.1 .out (by decide) (by decide)] at hout
  refine ⟨hout, ?_, (hv.mono (by simp) (by simp)).trans (hframe.mono (by simp) (fun _ => id))⟩
  rw [hcount, State.countUp, hv.fld _ List.not_mem_nil, State.countUp]

end

end

/-! ### An accepted exchange (R382, R391 to R393) -/

/-- The registers in which an accepted exchange shows (Tables 13.7 and 13.8). -/
def exchRegs (d : Bool) (p : Nat) (y : Domain) : Prog :=
  .block [
    .setReg (if d then R.TIM_THETA_B else R.TIM_THETA_A) (BitVec.ofInt 32 (meanInt y.thetas)),
    .setFld (F.TIM_DELAY_D p) (unsignedOf 24 (meanInt y.ds)),
    .setFlag (F.TIM_DELAY_VALID p) (y.ds.length == 16 && decide (spanInt y.ds ≤ 128))]

/-- What an accepted exchange makes of the domains (R391, R399): `y` is the domain that accepted it. -/
def exchSteer (d : Bool) (y : Domain) (first : Bool) (l : Time) : Prog :=
  .block [
    .when (!first && y.st != .holdover) (steer d none 1000000 (meanInt y.thetas) l),
    .when (y.st != .holdover) (modDom d (fun z => { z with rates := (z.rate :: z.rates).take 16 })),
    steerRoots l]

/-- The event of a lock, and what follows from it (R56, R396, R397). -/
def lockTold (l : Time) : Prog := .block [.raiseLocal 96 l, followCheck l, alignNow l]

theorem run_exchRegs {s : State} (hs : s.Canon) (d : Bool) {p : Nat} (hp : p < 4) (y : Domain) :
    let u := (exchRegs d p y).run s
    u.reg (if d then R.TIM_THETA_B else R.TIM_THETA_A) = BitVec.ofInt 32 (meanInt y.thetas) ∧
      u.fld (F.TIM_DELAY_D p) = unsignedOf 24 (meanInt y.ds) ∧
      u.flag (F.TIM_DELAY_VALID p) = (y.ds.length == 16 && decide (spanInt y.ds ≤ 128)) ∧
      Frame [] [R.TIM_THETA_A, R.TIM_THETA_B, (F.TIM_DELAY_D p).off] s u := by
  let v1 := (Prog.setReg (if d then R.TIM_THETA_B else R.TIM_THETA_A) (BitVec.ofInt 32 (meanInt y.thetas))).run s
  let v2 := (Prog.setFld (F.TIM_DELAY_D p) (unsignedOf 24 (meanInt y.ds))).run v1
  have h1 : v1.Canon := hs.run _
  have h2 : v2.Canon := h1.run _
  have hoff : (if d then R.TIM_THETA_B else R.TIM_THETA_A) ≠ R.TIM_DELAY p := by
    have : R.TIM_DELAY p ≠ R.TIM_THETA_B ∧ R.TIM_DELAY p ≠ R.TIM_THETA_A := by
      interval_cases p <;> decide
    cases d
    · exact this.2.symm
    · exact this.1.symm
  have hlt : unsignedOf 24 (meanInt y.ds) < 2 ^ 24 := by
    have := Int.emod_lt_of_pos (meanInt y.ds) (show (0 : Int) < ((2 ^ 24 : Nat) : Int) by decide)
    show ((meanInt y.ds) % ((2 ^ 24 : Nat) : Int)).toNat < 2 ^ 24
    omega
  have hD : (F.TIM_DELAY_D p).hi < 32 ∧ (F.TIM_DELAY_D p).lo ≤ (F.TIM_DELAY_D p).hi := ⟨show 23 < 32 by decide, show 0 ≤ 23 by decide⟩
  have hV : (F.TIM_DELAY_VALID p).hi < 32 ∧ (F.TIM_DELAY_VALID p).lo ≤ (F.TIM_DELAY_VALID p).hi :=
    ⟨show 31 < 32 by decide, show 31 ≤ 31 by decide⟩
  have hframe : Frame [] [R.TIM_THETA_A, R.TIM_THETA_B, (F.TIM_DELAY_D p).off] s ((exchRegs d p y).run s) := by
    refine (Prog.frame _ _ _ ?_ s hs).2
    cases d <;> simp [exchRegs, Act.Within, F.TIM_DELAY_D, F.TIM_DELAY_VALID]
  have hrun : (exchRegs d p y).run s =
      (Prog.setFlag (F.TIM_DELAY_VALID p) (y.ds.length == 16 && decide (spanInt y.ds ≤ 128))).run v2 := rfl
  refine ⟨?_, ?_, ?_, hframe⟩
  · rw [hrun, Prog.setFlag, State.reg_setFld_other (hs := h2) (h := hoff), State.reg_setFld_other (hs := h1) (h := hoff)]
    exact State.reg_store_same _ _ _ _ hs (by cases d <;> decide)
  · rw [hrun, Prog.setFlag, State.fld_setFld_other (hs := h2) (h := hV) (hd := .inr (.inr (show 23 < 31 by decide))),
      State.fld_setFld_same (hs := h1) (h := hD)]
    exact Nat.mod_eq_of_lt hlt
  · rw [hrun]
    exact flag_setFlag_same h2 ⟨rfl, show 31 < 32 by decide⟩ _

/-- The first exchange of a domain that acquires is not steered away again (R391). -/
theorem run_exchSteer_first {s : State} (h : s.tim.doms.length = 2) {d : Bool} (l : Time) {y : Domain}
    (hy : y.st ≠ .holdover) (hst : (s.dom d).st ≠ .root) :
    ((exchSteer d y true l).run s).dom d = { s.dom d with rates := ((s.dom d).rate :: (s.dom d).rates).take 16 } := by
  let f (z : Domain) : Domain := { z with rates := (z.rate :: z.rates).take 16 }
  have hrun : (exchSteer d y true l).run s = (steerRoots l).run ((modDom d f).run s) := by
    rw [exchSteer, Prog.run_block_cons, Prog.run_when, if_neg (by simp), Prog.run_block_cons, Prog.run_when,
      if_pos (by simpa using hy), Prog.run_block_cons, Prog.run_block_nil]
  have hdom := dom_modDom_same h d f
  have hlen : ((modDom d f).run s).tim.doms.length = 2 := by simpa [modDom, modAt_eq_modify, Act.apply] using h
  rw [hrun, (steerRoots_dom hlen l d).2 (by rw [hdom]; exact hst), hdom]

/-- An accepted exchange steers, and moves no domain from its state (R391, R399). -/
theorem run_exchSteer {s : State} (h : s.tim.doms.length = 2) (d : Bool) (y : Domain) (first : Bool) (l : Time) :
    let u := (exchSteer d y first l).run s
    s.OnlyDoms u ∧ (u.dom (!d)).st = (s.dom (!d)).st ∧ (u.dom d).st = (s.dom d).st ∧ (u.dom d).since = (s.dom d).since ∧
      (u.dom d).rateHeld = (s.dom d).rateHeld ∧ (u.dom d).depth = (s.dom d).depth := by
  have hlen {v w : State} (hd : v.OnlyDoms w) (hv : v.tim.doms.length = 2) : w.tim.doms.length = 2 := by
    obtain ⟨⟨doms, htim, hdoms⟩, -⟩ := hd
    rw [htim, ← hv]
    exact hdoms
  let v := (Prog.when (!first && y.st != .holdover) (steer d none 1000000 (meanInt y.thetas) l)).run s
  have hv : s.OnlyDoms v ∧ v.dom (!d) = s.dom (!d) ∧ (s.dom d).Steered l (v.dom d) := by
    simp only [v, Prog.run_when]
    split
    · exact ⟨steer_onlyDoms _ _ _ _ _ _, steer_dom_other l d _ _ _, steer_dom_same h l d _ _ _⟩
    · exact ⟨.refl s, rfl, .inl rfl⟩
  let f (z : Domain) : Domain := { z with rates := (z.rate :: z.rates).take 16 }
  let w := (Prog.when (y.st != .holdover) (modDom d f)).run v
  have hw : v.OnlyDoms w ∧ w.dom (!d) = v.dom (!d) ∧ (w.dom d = v.dom d ∨ w.dom d = f (v.dom d)) := by
    simp only [w, Prog.run_when]
    split
    · exact ⟨modDom_onlyDoms d f v, dom_modDom_other v d f, .inr (dom_modDom_same (hlen hv.1 h) d f)⟩
    · exact ⟨.refl v, rfl, .inl rfl⟩
  have hx (e : Bool) := (steerRoots_dom (hlen hw.1 (hlen hv.1 h)) l e).1.kept
  obtain ⟨hst, -, -, hdepth, hsince, hheld, -⟩ := hx d
  obtain ⟨hst', -, -, hdepth', hsince', hheld', -⟩ := hv.2.2.kept
  have hf : (w.dom d).st = (v.dom d).st ∧ (w.dom d).since = (v.dom d).since ∧ (w.dom d).rateHeld = (v.dom d).rateHeld ∧
      (w.dom d).depth = (v.dom d).depth := by
    rcases hw.2.2 with h' | h' <;> rw [h'] <;> exact ⟨rfl, rfl, rfl, rfl⟩
  have hrun : (exchSteer d y first l).run s = (steerRoots l).run w := by
    rw [exchSteer, Prog.run_block_cons, Prog.run_block_cons, Prog.run_block_cons, Prog.run_block_nil]
  intro u
  rw [show u = _ from hrun]
  exact ⟨(hv.1.trans hw.1).trans (steerRoots_onlyDoms l w), by rw [← hv.2.1, ← hw.2.1]; exact (hx (!d)).1,
    hst.trans (hf.1.trans hst'), hsince.trans (hf.2.1.trans hsince'), hheld.trans (hf.2.2.1.trans hheld'),
    hdepth.trans (hf.2.2.2.trans hdepth')⟩

/-- What follows a lock leaves the domains and the registers (R56, R396, R397). -/
theorem run_lockTold (l : Time) (s : State) : let u := (lockTold l).run s
    u.tim.doms = s.tim.doms ∧ Frame [.tim, .ctl, .cmt, .ing] [] s u := by
  have hfollow (v : State) : ((followCheck l).run v).tim.doms = v.tim.doms ∧ Frame [.tim, .ctl] [] v ((followCheck l).run v) := by
    rw [followCheck, Prog.run_dyn]
    dsimp only
    split
    · rw [Prog.run_block_two, Prog.run_act]
      generalize hw : Act.apply (.tim _) v = w
      have hraise := frame_raiseLocal 99 l w
      refine ⟨(congrArg Canopy.doms (hraise.1 .tim (by decide) (by decide))).trans (by rw [← hw]; rfl), ?_⟩
      rw [← hw] at hraise ⊢
      exact (Act.frame_noRegs (parts := [.tim, .ctl]) (a := .tim _) List.mem_cons_self v).trans (hraise.mono (by simp) (by simp))
    · exact ⟨rfl, Frame.refl _ _ _⟩
  have halign (v : State) : Frame [.cmt, .ing] [] v ((alignNow l).run v) := by
    refine Prog.frame_noRegs _ (.dyn (fun s => .when s.timeLock (alignFrames (s.fabricAt l)))) ?_ v
    simp [alignFrames, alignTo, Act.Within]
  have hraise := frame_raiseLocal 96 l s
  let v := (Prog.raiseLocal 96 l).run s
  have h2 := hfollow v
  have h3 := halign ((followCheck l).run v)
  have hrun : (lockTold l).run s = (alignNow l).run ((followCheck l).run v) := rfl
  intro u
  rw [show u = _ from hrun]
  exact ⟨(congrArg Canopy.doms (h3.1 .tim (by decide) (by decide))).trans
    (h2.1.trans (congrArg Canopy.doms (hraise.1 .tim (by decide) (by decide)))),
    (hraise.mono (by simp) (by simp)).trans ((h2.2.mono (by simp) (by simp)).trans (h3.mono (by simp) (by simp)))⟩

section
variable {s : State} (hs : s.Canon) (hawake : s.Awake) (hdoms : s.tim.doms.length = 2) {p : Nat} (hp : p < 4)
  (hen : s.flag F.TIM_CTRL_ENABLE = true) {d : Bool}
include hawake

/-- A response that fits no request is passed over (R381). -/
theorem completes_exchRespReceive_other {xid : BitVec 16} (t2 t3 : Time) (loc : Time)
    (h : (s.dom d).t1 = none ∨ xid ≠ (s.dom d).xid ∨ (s.dom d).parent ≠ some p) :
    Completes (.exchRespReceive p d xid t2 t3 loc) s (fun t =>
      t = { s with tim := { s.tim with now := max s.tim.now loc } }) := by
  refine .of_go rfl hawake ?_
  rw [Prog.run_seq, Prog.run_dyn]
  dsimp only
  rw [show ((Prog.atLocal loc).run s).dom d = s.dom d from rfl]
  split
  · rfl
  case h_2 t1 ht1 =>
    rw [if_pos]
    · rfl
    · rcases h with h | h | h
      · exact absurd (ht1.symm.trans h) (by simp)
      · simp [Ne.symm h]
      · simp [h]

include hs hdoms hp hen

/-- An accepted exchange: its domain, its registers, then the steering (R382, R391). -/
theorem exec_exchRespReceive {t1 : Time} (t2 t3 loc : Time) (ht1 : (s.dom d).t1 = some t1) (hparent : (s.dom d).parent = some p)
    (hnear : timeDiff (loc + (s.dom d).ofs loc) t1 ≤ 20000 * 256) :
    let t4 := loc + (s.dom d).ofs loc
    let y := (s.dom d).accept (exchD t1 t2 t3 t4) (exchTheta t1 t2 t3 t4 (signedOf 12 (s.fld (F.TIM_ASYM_MEAS p))))
      (s.candDepth d p) loc
    ∃ v, exec (.exchRespReceive p d (s.dom d).xid t2 t3 loc) s = .next ((Prog.when ((s.dom d).st != y.st) (lockTold loc)).run
        ((exchSteer d y ((s.dom d).st == .acquire && !(s.dom d).stepped) loc).run v)) ∧
      v.tim.doms.length = 2 ∧ v.dom d = y ∧ v.dom (!d) = s.dom (!d) ∧
      v.reg (if d then R.TIM_THETA_B else R.TIM_THETA_A) = BitVec.ofInt 32 (meanInt y.thetas) ∧
      v.fld (F.TIM_DELAY_D p) = unsignedOf 24 (meanInt y.ds) ∧
      v.flag (F.TIM_DELAY_VALID p) = (y.ds.length == 16 && decide (spanInt y.ds ≤ 128)) ∧
      Frame [.tim] [R.TIM_THETA_A, R.TIM_THETA_B, (F.TIM_DELAY_D p).off] s v := by
  intro t4 y
  let w := (modDom d (fun _ => y)).run ((Prog.atLocal loc).run s)
  have hw : Frame [.tim] [] s w := Prog.frame_noRegs _ (.seq (.atLocal loc) (modDom d _)) (by simp [Prog.atLocal, modDom, Act.Within]) s
  obtain ⟨hreg, hD, hV, hframe⟩ := run_exchRegs (s := w) ((hs.run _).run _) d hp y
  have htim : ((exchRegs d p y).run w).tim = w.tim := hframe.1 .tim (by simp) (by decide)
  refine ⟨(exchRegs d p y).run w, ?_, ?_, ?_, ?_, hreg, hD, hV,
    (hw.mono (fun _ => id) (by simp)).trans (hframe.mono (by simp) (fun _ => id))⟩
  · refine (congrArg _ (Prog.go_awake _ s hawake)).trans ?_
    rw [Prog.run_seq, Prog.run_dyn]
    dsimp only
    rw [show ((Prog.atLocal loc).run s).dom d = s.dom d from rfl, ht1]
    dsimp only
    rw [if_neg]
    · rw [show ((Prog.atLocal loc).run s).candDepth d p = s.candDepth d p from rfl,
        show ((Prog.atLocal loc).run s).fld (F.TIM_ASYM_MEAS p) = s.fld (F.TIM_ASYM_MEAS p) from rfl]
      simp only [exchSteer, exchRegs, Prog.run_block_cons, Prog.run_block_nil, w]
      rfl
    · have : ((Prog.atLocal loc).run s).flag F.TIM_CTRL_ENABLE = true := hen
      simpa [this, hparent] using hnear
  · rw [htim]
    simpa [w, modDom, modAt_eq_modify, Act.apply, Prog.atLocal] using hdoms
  · rw [State.dom_congr htim]
    exact dom_modDom_same (s := (Prog.atLocal loc).run s) hdoms d _
  · rw [State.dom_congr htim]
    exact dom_modDom_other ((Prog.atLocal loc).run s) d _

/-- The first exchange of a domain that acquires steps it by its own theta (R391). -/
theorem completes_exchRespReceive_first {t1 : Time} (t2 t3 loc : Time) (ht1 : (s.dom d).t1 = some t1)
    (hparent : (s.dom d).parent = some p) (hnear : timeDiff (loc + (s.dom d).ofs loc) t1 ≤ 20000 * 256)
    (hst : (s.dom d).st = .acquire) (hstepped : (s.dom d).stepped = false) (hds : (s.dom d).ds = [])
    (hthetas : (s.dom d).thetas = []) :
    let t4 := loc + (s.dom d).ofs loc
    let th := exchTheta t1 t2 t3 t4 (signedOf 12 (s.fld (F.TIM_ASYM_MEAS p)))
    Completes (.exchRespReceive p d (s.dom d).xid t2 t3 loc) s (fun t =>
      (t.dom d).ofs loc = (s.dom d).ofs loc - th ∧ (t.dom d).stepped = true ∧ (t.dom d).st = .acquire ∧
      (t.dom d).ds = [exchD t1 t2 t3 t4] ∧ (t.dom d).t1 = none ∧
      t.reg (if d then R.TIM_THETA_B else R.TIM_THETA_A) = BitVec.ofInt 32 th ∧
      t.fld (F.TIM_DELAY_D p) = unsignedOf 24 (exchD t1 t2 t3 t4) ∧ t.flag (F.TIM_DELAY_VALID p) = false ∧
      Frame [.tim, .freeCount] [R.TIM_THETA_A, R.TIM_THETA_B, (F.TIM_DELAY_D p).off] s t) := by
  intro t4 th
  obtain ⟨v, hrun, hvdoms, hvdom, -, hreg, hD, hV, hframe⟩ := exec_exchRespReceive hs hawake hdoms hp hen t2 t3 loc ht1 hparent hnear
  have hofs : ∀ y : Domain, y = (s.dom d).accept (exchD t1 t2 t3 t4) th (s.candDepth d p) loc →
      y.ofs loc = (s.dom d).ofs loc - th ∧ y.stepped = true ∧ y.st = .acquire ∧ y.ds = [exchD t1 t2 t3 t4] ∧ y.thetas = [th] ∧
        y.t1 = none := by
    rintro y rfl
    refine ⟨(Domain.ofs_at_base _ rfl).trans ?_, ?_, ?_, ?_, ?_, rfl⟩ <;> simp [Domain.accept, Domain.rebase, hst, hstepped, hds, hthetas]
  specialize hofs _ rfl
  rw [hst] at hrun
  generalize (s.dom d).accept _ _ _ _ = y at hrun hvdom hreg hD hV hofs
  obtain ⟨hy, hystep, hyst, hyds, hythetas, hyt1⟩ := hofs
  rw [hyst, hstepped, Prog.run_when, if_neg (by decide)] at hrun
  rw [hyds] at hD hV
  have hmean (x : Int) : meanInt [x] = x := by simp [meanInt]
  have hdom := run_exchSteer_first hvdoms loc (y := y) (d := d) (by rw [hyst]; decide) (by rw [hvdom, hyst]; decide)
  obtain ⟨⟨-, hsteer⟩, -⟩ := run_exchSteer hvdoms d y true loc
  refine ⟨_, hrun, ?_⟩
  rw [show (DomState.acquire == DomState.acquire && !false) = true from rfl]
  generalize (exchSteer d y true loc).run v = t at *
  rw [hdom, hvdom, hsteer.2 _ List.not_mem_nil, hreg, hsteer.fld _ List.not_mem_nil, hD, hsteer.flag _ List.not_mem_nil, hV, hythetas,
    hmean, hmean]
  exact ⟨hy, hystep, hyst, hyds, hyt1, rfl, rfl, rfl, (hframe.mono (by simp) (fun _ => id)).trans (hsteer.mono (fun _ => id) (by simp))⟩

/-- The sixteenth exchange within half a nanosecond locks the domain (R391, R393). -/
theorem completes_exchRespReceive_locks {t1 : Time} (t2 t3 loc : Time) (ht1 : (s.dom d).t1 = some t1)
    (hparent : (s.dom d).parent = some p) (hnear : timeDiff (loc + (s.dom d).ofs loc) t1 ≤ 20000 * 256)
    (hst : (s.dom d).st = .acquire) (hds : 15 ≤ (s.dom d).ds.length)
    (hspan : spanInt ((exchD t1 t2 t3 (loc + (s.dom d).ofs loc) :: (s.dom d).ds).take 16) ≤ 128) :
    Completes (.exchRespReceive p d (s.dom d).xid t2 t3 loc) s (fun t =>
      (t.dom d).st = .locked ∧ (t.dom d).since = loc ∧ (t.dom d).rateHeld = false ∧
      (t.dom (!d)).st = (s.dom (!d)).st ∧
      (t.dom d).depth = min 64 (s.candDepth d p + 1) ∧ t.flag (F.TIM_DELAY_VALID p) = true) := by
  obtain ⟨v, hrun, hvdoms, hvdom, hvother, -, -, hV, -⟩ := exec_exchRespReceive hs hawake hdoms hp hen t2 t3 loc ht1 hparent hnear
  have hlock : ∀ y : Domain, y = (s.dom d).accept (exchD t1 t2 t3 (loc + (s.dom d).ofs loc))
      (exchTheta t1 t2 t3 (loc + (s.dom d).ofs loc) (signedOf 12 (s.fld (F.TIM_ASYM_MEAS p)))) (s.candDepth d p) loc →
      y.st = .locked ∧ y.since = loc ∧ y.rateHeld = false ∧ y.depth = min 64 (s.candDepth d p + 1) ∧
        (y.ds.length == 16 && decide (spanInt y.ds ≤ 128)) = true := by
    rintro y rfl
    have hconv : (((exchD t1 t2 t3 (loc + (s.dom d).ofs loc) :: (s.dom d).ds).take 16).length == 16 &&
        decide (spanInt ((exchD t1 t2 t3 (loc + (s.dom d).ofs loc) :: (s.dom d).ds).take 16) ≤ 128)) = true := by
      rw [decide_eq_true hspan, Bool.and_true, List.length_take, List.length_cons, beq_iff_eq]
      omega
    refine ⟨?_, ?_, ?_, ?_, hconv⟩ <;> rw [Domain.accept] <;> simp only [hconv, hst] <;> rfl
  specialize hlock _ rfl
  rw [hst] at hrun
  generalize (s.dom d).accept _ _ _ _ = y at hrun hvdom hV hlock
  obtain ⟨hyst, hysince, hyheld, hydepth, hyconv⟩ := hlock
  rw [hyst, Prog.run_when, if_pos (by decide)] at hrun
  obtain ⟨⟨-, hsteer⟩, hother, hsteerst, hsteersince, hsteerheld, hsteerdepth⟩ :=
    run_exchSteer hvdoms d y (DomState.acquire == DomState.acquire && !(s.dom d).stepped) loc
  refine ⟨_, hrun, ?_⟩
  generalize (exchSteer d y _ loc).run v = w at *
  obtain ⟨hkept, hlast⟩ := run_lockTold loc w
  have hdom (e : Bool) : ((lockTold loc).run w).dom e = w.dom e := by rw [State.dom, hkept, State.dom]
  rw [hdom, hdom, hsteerst, hsteersince, hsteerheld, hother, hsteerdepth, hvdom, hvother, hlast.flag _ List.not_mem_nil,
    hsteer.flag _ List.not_mem_nil, hV]
  exact ⟨hyst, hysince, hyheld, rfl, hydepth, hyconv⟩

end

/-- Settles O44: each clause by the program of its command, the last two by way of what an accepted exchange does. -/
theorem exchangesLockDomains : Obligations.ExchangesLockDomains := by
  unfold Obligations.ExchangesLockDomains
  intro s d p hinv hawake hdoms hlen hp hen
  have hs := hinv.canon
  refine ⟨fun loc hparent => ?_, fun hcarries hqueue hcredits => ⟨fun loc hparent =>
      completes_exchReqSend hs hawake hdoms hlen hp hen hcarries hqueue hcredits loc hparent,
    fun xid l2 l3 => completes_exchReqReceive hs hawake hlen hp hen hcarries hqueue hcredits xid l2 l3⟩,
    fun xid t2 t3 loc h => completes_exchRespReceive_other hawake t2 t3 loc h,
    fun t1 t2 t3 loc ht1 hparent => ?_⟩
  · refine .of_go rfl hawake ?_
    rw [Prog.run_guard, if_pos hen, Prog.run_seq, Prog.run_dyn]
    dsimp only
    rw [show ((Prog.atLocal loc).run s).dom d = s.dom d from rfl, hparent]
    rfl
  · intro t4 hnear hst th
    exact ⟨fun hstepped hds hthetas =>
        completes_exchRespReceive_first hs hawake hdoms hp hen t2 t3 loc ht1 hparent hnear hst hstepped hds hthetas,
      fun hds hspan => completes_exchRespReceive_locks hs hawake hdoms hp hen t2 t3 loc ht1 hparent hnear hst hds hspan⟩

end Sys2Proof.Machine
end

section
/-! PROOF. O43: canopy trees: enabling, ANNOUNCE, the first parent and its loss (R386 to R390, R395, R397, R399). -/

namespace Sys2Proof.Machine

/-! ### Candidates (R387, R389) -/

section
variable {parts : List Part} {s t : State} (h : Frame parts [] s t) (hfab : Part.fab ∉ parts)
include h

theorem Frame.rootOf (d : Bool) : t.rootOf d = s.rootOf d := by
  cases d <;> simp only [State.rootOf, State.rootA, State.rootB, h.fld _ List.not_mem_nil]

include hfab

theorem Frame.timePort (p : Nat) : t.timePort p = s.timePort p := by
  have hf : t.fab = s.fab := h.1 .fab hfab (by decide)
  simp only [State.timePort, State.here, State.linkUsable_congr hf, hf, h.flag _ List.not_mem_nil]

/-- A domain that takes or loses a parent keeps its candidates. -/
theorem Frame.isCandidate_of_withParent {d : Bool} {l : Time} {q : Option Nat}
    (hdom : (t.dom d).cands = ((s.dom d).withParent q l).cands) (p : Nat) : t.isCandidate d p l = s.isCandidate d p l := by
  have hget : (t.dom d).cands.getD p none = ((s.dom d).cands.getD p none).map (fun c : Candidate => { c with lowSince := none }) := by
    rw [hdom]
    exact List.getD_map (s.dom d).cands none (Option.map _)
  simp only [State.isCandidate, h.timePort hfab, h.rootOf, hget]
  cases (s.dom d).cands.getD p none <;> rfl

end

/-- Without a candidate a domain stays without a parent (R390). -/
theorem run_chooseParent_none {s : State} (h : s.tim.doms.length = 2) {d : Bool} {l : Time}
    (hcand : ∀ q, s.isCandidate d q l = false) : let u := (chooseParent d l).run s;
    (∃ lost, u.dom d = { s.dom d with candLost := lost }) ∧ u.dom (!d) = s.dom (!d) ∧
      (∃ doms, u.tim = { s.tim with doms := doms } ∧ doms.length = 2) ∧ Frame [.tim] [] s u := by
  intro u
  have hbest : s.bestCandidate d l = none := by simp [State.bestCandidate, hcand]
  by_cases hx : ((s.dom d).parent.isSome || (s.dom d).st == .root) = true
  · have hu : u = s := by
      show (chooseParent d l).run s = s
      rw [chooseParent, Prog.run_dyn]
      dsimp only
      rw [if_pos hx]
      rfl
    rw [hu]
    exact ⟨⟨_, rfl⟩, rfl, ⟨_, rfl, h⟩, Frame.refl _ _ _⟩
  · have hu : u = (modDom d (fun x => { x with candLost := if x.candLost.isSome then x.candLost else some l })).run s := by
      show (chooseParent d l).run s = _
      rw [chooseParent, Prog.run_dyn]
      dsimp only
      rw [if_neg hx, hbest]
    rw [hu]
    exact ⟨⟨_, dom_modDom_same h d _⟩, dom_modDom_other s d _, ⟨_, rfl, by simpa [modAt_eq_modify] using h⟩,
      Prog.frame_noRegs _ _ (by simp [modDom, Act.Within]) s⟩

/-! ### FREE (R390, R395, R397) -/

/-- A domain as it goes FREE (R390). -/
def Domain.freed (x : Domain) (l : Time) : Domain :=
  { x.withParent none l with
    st := .free, stepped := false, rateHeld := false, since := l, lostAt := if x.lock then some l else x.lostAt }

/-- The node has lost one domain and may go over to the other, at a state where the loss stands (R397). -/
theorem run_followCheck_still {s : State} {l : Time} (h : (s.dom (!s.tim.follow)).lock = false ∨ (s.dom s.tim.follow).lock = true ∨
    (s.dom s.tim.follow).lostAt ≠ some l) : (followCheck l).run s = s := by
  rw [followCheck, Prog.run_dyn]
  dsimp only
  rw [if_neg]
  · rfl
  · rcases h with h | h | h <;> simp [h]

theorem run_timeLostCheck_none {s : State} (e : Bool) (h : (s.dom e).st ≠ .free) : timeLostCheck.run s = s := by
  rw [timeLostCheck, Prog.run_dyn, Prog.run_when, if_neg]
  cases e <;> simp [h]

/-- Both domains FREE put a MEMBER into FAULT (R395). -/
theorem run_timeLostCheck_fault {s : State} (hs : s.Canon) (hnode : s.node = .member) (hno : s.NoTrial)
    (hvalid : s.flag F.HKP_FAULT_VALID = false) (h : ∀ e, (s.dom e).st = .free) : let t := timeLostCheck.run s
    t.node = .fault ∧ t.fld F.HKP_FAULT_BLOCK = 7 ∧ t.fld F.HKP_FAULT_CODE = 0x21 := by
  have hrun : timeLostCheck.run s =
      (enterFault 0x07 0x02 0x21 0).run ((Prog.block [.setFld F.CMT_FAULT_CODE 0x21, .raise 137]).run s) := by
    rw [timeLostCheck, Prog.run_dyn, Prog.run_when, if_pos (by simp [hnode, h]), cmtFault, Prog.run_dyn, Prog.run_block_two,
      Prog.run_when, if_pos (by rw [hnode]; rfl)]
  rw [hrun]
  exact enterFault_afterEvent hs (.inr hnode) hno hvalid F.CMT_FAULT_CODE (by decide) 0x21 137 7 2 0x21 0

section
variable {s : State} (hdoms : s.tim.doms.length = 2) {d : Bool} (l : Time)
include hdoms

/-- A domain goes FREE with its event, before anything follows from it (R390). -/
theorem run_goFree : ∃ v, (goFree d l).run s = timeLostCheck.run ((steerRoots l).run ((followCheck l).run v)) ∧
    v.dom d = (s.dom d).freed l ∧ v.dom (!d) = s.dom (!d) ∧ (∃ doms, v.tim = { s.tim with doms := doms } ∧ doms.length = 2) ∧
    Pended 97 s v ∧ Frame [.tim, .ctl] [] s v ∧ (s.Canon → v.Canon) := by
  let u := (modDom d (fun x => x.freed l)).run s
  have hudom : u.dom d = (s.dom d).freed l := dom_modDom_same hdoms d _
  have huother : u.dom (!d) = s.dom (!d) := dom_modDom_other s d _
  have hu : Frame [.tim] [] s u := Prog.frame_noRegs _ _ (by simp [modDom, Act.Within]) s
  have hulen : ∃ doms, u.tim = { s.tim with doms := doms } ∧ doms.length = 2 :=
    ⟨_, rfl, by simpa [modAt_eq_modify] using hdoms⟩
  have hrun : (goFree d l).run s = timeLostCheck.run ((steerRoots l).run ((followCheck l).run ((Prog.raiseLocal 97 l).run u))) := by
    rw [goFree, Prog.run_block_cons, Prog.run_block_cons, Prog.run_block_cons, Prog.run_block_cons, Prog.run_block_cons,
      Prog.run_block_nil]
    rfl
  refine ⟨_, hrun, ?_⟩
  have hv := frame_raiseLocal 97 l u
  have hpend := hu.pended_raiseLocal (e := 97) l (by decide) List.not_mem_nil
  have hcanon : s.Canon → ((Prog.raiseLocal 97 l).run u).Canon := fun hs => (hs.run _).run _
  generalize (Prog.raiseLocal 97 l).run u = v at *
  clear_value u
  have hvtim : v.tim = u.tim := hv.1 .tim (by decide) (by decide)
  rw [State.dom_congr hvtim, State.dom_congr hvtim, hvtim]
  exact ⟨hudom, huother, hulen, hpend, (hu.mono (by simp) (by simp)).trans (hv.mono (by simp) (by simp)), hcanon⟩

/-- A domain that goes FREE and is not left for the other one (R390, R397). -/
theorem run_goFree_still (hstill : s.tim.follow = (!d) ∨ (s.dom (!d)).lock = false) : ∃ w,
    (goFree d l).run s = timeLostCheck.run w ∧ w.dom d = (s.dom d).freed l ∧ (s.dom (!d)).Steered l (w.dom (!d)) ∧
      w.tim.follow = s.tim.follow ∧ w.tim.doms.length = 2 ∧ Pended 97 s w ∧ Frame [.tim, .ctl, .freeCount] [] s w ∧
      (s.Canon → w.Canon) := by
  obtain ⟨v, hrun, hown, hother, ⟨doms, hvtim, hlen⟩, hpend, hv, hcanon⟩ := run_goFree (d := d) hdoms l
  have hvfollow : v.tim.follow = s.tim.follow := by rw [hvtim]
  have hvlen : v.tim.doms.length = 2 := by rw [hvtim, hlen]
  have hfollow : (followCheck l).run v = v := by
    refine run_followCheck_still (.inl ?_)
    rw [hvfollow]
    by_cases hd : s.tim.follow = d
    · rw [hd, hother]
      exact hstill.resolve_left (by rw [hd]; cases d <;> decide)
    · rw [Bool.eq_not_of_ne hd, Bool.not_not, hown]
      rfl
  rw [hfollow] at hrun
  obtain ⟨⟨doms', htim, hlen'⟩, hsteer⟩ := steerRoots_onlyDoms l v
  have hown' := (steerRoots_dom hvlen l d).2 (by rw [hown]; exact DomState.noConfusion)
  have hother' := (steerRoots_dom hvlen l (!d)).1
  rw [hother] at hother'
  refine ⟨_, hrun, hown'.trans hown, hother', by rw [htim, ← hvfollow], by rw [htim, ← hvlen]; exact hlen', ?_,
    (hv.mono (by simp) (by simp)).trans (hsteer.mono (by simp) (by simp)), fun hs => (hcanon hs).run _⟩
  rw [Pended, show ((steerRoots l).run v).ctl = v.ctl from hsteer.1 .ctl (by decide) (by decide)]
  exact hpend

/-- The followed domain goes FREE and the node goes over to the other one, at the same fabric time (R397, R398). -/
theorem run_goFree_follows (hfollow : s.tim.follow = d) (hlock : (s.dom d).lock = true) (hother : (s.dom (!d)).lock = true)
    (hexp : (s.dom (!d)).expired l = false) : let t := (goFree d l).run s
    (t.dom d).st = .free ∧ t.tim.follow = (!d) ∧ t.fabricAt l = s.fabricAt l ∧ Frame [.tim, .ctl, .freeCount] [] s t := by
  obtain ⟨v, hrun, hvown, hvother, ⟨doms, hvtim, hlen⟩, -, hv, -⟩ := run_goFree (d := d) hdoms l
  have hvfollow : v.tim.follow = d := by rw [hvtim, ← hfollow]
  have hbeta : v.betaNow l = s.betaNow l := by rw [State.betaNow, hvtim, State.betaNow]
  let beta := (v.dom d).ofs l + v.betaNow l - (v.dom (!d)).ofs l
  let w := (Act.tim (fun c => { c with follow := !c.follow, beta := beta, betaAt := l })).apply v
  have hw : (followCheck l).run v = (Prog.raiseLocal 99 l).run w := by
    rw [followCheck, Prog.run_dyn]
    dsimp only
    rw [hvfollow, if_pos, Prog.run_block_two, Prog.run_act]
    have hlost : (v.dom d).lock = false ∧ (v.dom d).lostAt = some l := by
      rw [hvown]
      exact ⟨rfl, if_pos hlock⟩
    rw [hvother, hlost.1, hlost.2, hother, hexp]
    simp
  have hwframe : Frame [.tim] [] v w := Act.frame_noRegs (a := .tim _) List.mem_cons_self v
  have hwtim : w.tim = { v.tim with follow := !d, beta := beta, betaAt := l } := by
    rw [← hvfollow]
    rfl
  rw [hw] at hrun
  clear_value w
  have hraise := frame_raiseLocal 99 l w
  generalize (Prog.raiseLocal 99 l).run w = x at *
  have hxtim : x.tim = w.tim := hraise.1 .tim (by decide) (by decide)
  have hxlen : x.tim.doms.length = 2 := by rw [hxtim, hwtim, hvtim, hlen]
  have hxdom (e : Bool) : x.dom e = v.dom e := by rw [State.dom, hxtim, hwtim, State.dom]
  obtain ⟨⟨doms', htim, -⟩, hsteer⟩ := steerRoots_onlyDoms l x
  have hown := (steerRoots_dom hxlen l d).2 (by rw [hxdom, hvown]; exact DomState.noConfusion)
  obtain ⟨hst, hofs, -⟩ := (steerRoots_dom hxlen l (!d)).1.kept
  rw [hxdom, hvother] at hst hofs
  have hnone := run_timeLostCheck_none (s := (steerRoots l).run x) (!d) (by
    rw [hst]
    intro hfree
    rw [Domain.lock, hfree] at hother
    exact absurd hother (by decide))
  rw [hnone] at hrun
  rw [hrun]
  generalize (steerRoots l).run x = t at *
  have htfollow : t.tim.follow = !d := by rw [htim, hxtim, hwtim]
  refine ⟨by rw [hown, hxdom, hvown]; rfl, htfollow, ?_, (hv.mono (by simp) (by simp)).trans
    ((hwframe.mono (by simp) (by simp)).trans ((hraise.mono (by simp) (by simp)).trans (hsteer.mono (by simp) (by simp))))⟩
  have htbeta : t.betaNow l = beta := by
    rw [State.betaNow, htim, hxtim, hwtim]
    dsimp only
    rw [sub_self, Int.zero_ediv, sub_zero, add_zero]
    split <;> omega
  have hfreed : ((s.dom d).freed l).ofs l = (s.dom d).ofs l := rfl
  have hbridge : beta = (s.dom d).ofs l + s.betaNow l - (s.dom (!d)).ofs l := by
    rw [← hfreed, ← hvown, ← hvother, ← hbeta]
  rw [State.fabricAt, htfollow, hofs, htbeta, State.fabricAt, hfollow, hbridge]
  ring

end

/-! ### Enabling (R390, R397, R399) -/

/-- ENABLE before the domains start (R397). -/
def enableTime (pref : Bool) (l : Time) : Prog :=
  .block [.setFlag F.TIM_CTRL_PREF pref, .setFld F.TIM_CTRL_ENABLE 1,
    .act (.tim (fun c => { c with follow := pref, beta := 0, betaAt := l })), .atLocal l]

theorem run_timeEnableProg {s : State} (hoff : s.flag F.TIM_CTRL_ENABLE = false) (pref : Bool) (l : Time) :
    (timeEnableProg pref l).run s = (chooseParent true l).run ((chooseParent false l).run
      ((startRoot true l).run ((startRoot false l).run ((enableTime pref l).run s)))) := by
  rw [timeEnableProg, Prog.run_dyn, hoff, if_neg Bool.false_ne_true]
  simp only [enableTime, Prog.run_block_cons, Prog.run_block_nil]

theorem run_enableTime {s : State} (hs : s.Canon) (pref : Bool) (l : Time) : let v := (enableTime pref l).run s
    v.flag F.TIM_CTRL_ENABLE = true ∧ v.flag F.TIM_CTRL_PREF = pref ∧ v.tim.follow = pref ∧ v.tim.beta = 0 ∧
      v.tim.doms = s.tim.doms ∧ Frame [.tim] [F.TIM_CTRL_ENABLE.off] s v := by
  let u := (Prog.setFlag F.TIM_CTRL_PREF pref).run s
  have hu : u.Canon := hs.run _
  let w := (Prog.setFld F.TIM_CTRL_ENABLE 1).run u
  have hrun : (enableTime pref l).run s =
      (Prog.atLocal l).run ((Act.tim (fun c => { c with follow := pref, beta := 0, betaAt := l })).apply w) := rfl
  have hen : w.fld F.TIM_CTRL_ENABLE = 1 := Prog.run_setFld_same F.TIM_CTRL_ENABLE 1 u hu (by decide) (by decide)
  have hpref : w.flag F.TIM_CTRL_PREF = pref :=
    (State.flag_setFld_other F.TIM_CTRL_ENABLE F.TIM_CTRL_PREF 1 u hu (by decide) (by decide)).trans (flag_setFlag_same hs (by decide) pref)
  refine ⟨?_, hpref, rfl, rfl, rfl, (Prog.frame _ _ _ (by simp +decide [enableTime, Prog.atLocal, Act.Within]) s hs).2⟩
  show (w.fld F.TIM_CTRL_ENABLE == 1) = true
  rw [hen]
  rfl

theorem run_chooseParent_root {s : State} {d : Bool} (l : Time) (h : (s.dom d).st = .root) : (chooseParent d l).run s = s := by
  rw [chooseParent, Prog.run_dyn]
  dsimp only
  rw [h, if_pos (by simp)]
  rfl

/-- The choice of a parent keeps the other domain. -/
theorem run_chooseParent (d : Bool) (l : Time) (s : State) : let u := (chooseParent d l).run s
    u.dom (!d) = s.dom (!d) ∧ Frame [.tim, .ctl] [] s u := by
  have hmod (f : Domain → Domain) : Frame [.tim, .ctl] [] s ((modDom d f).run s) :=
    Act.frame_noRegs (parts := [.tim, .ctl]) (a := .tim _) List.mem_cons_self s
  rw [chooseParent, Prog.run_dyn]
  dsimp only
  split
  · exact ⟨rfl, Frame.refl _ _ _⟩
  · split
    · exact ⟨dom_modDom_other s d _, hmod _⟩
    · split
      · exact ⟨dom_modDom_other s d _, hmod _⟩
      · rw [Prog.run_block_two]
        generalize hf : (modDom d _).run s = u
        have hu : u.dom (!d) = s.dom (!d) ∧ Frame [.tim, .ctl] [] s u := by
          rw [← hf]
          exact ⟨dom_modDom_other s d _, hmod _⟩
        have hraise := frame_raiseLocal 98 l u
        exact ⟨(State.dom_congr (hraise.1 .tim (by decide) (by decide)) _).trans hu.1, hu.2.trans (hraise.mono (by simp) (by simp))⟩

theorem frame_alignNow (l : Time) (v : State) : Frame [.cmt, .ing] [] v ((alignNow l).run v) := by
  refine Prog.frame_noRegs _ (.dyn (fun s => .when s.timeLock (alignFrames (s.fabricAt l)))) ?_ v
  simp [alignFrames, alignTo, Act.Within]

theorem run_startRoot_other {s : State} {d : Bool} (l : Time) (h : s.here ≠ some (s.rootOf d)) : (startRoot d l).run s = s := by
  rw [startRoot, Prog.run_dyn]
  dsimp only
  rw [if_neg (by simpa using h)]
  rfl

/-- A root's domain at ENABLE (R390, R399). -/
theorem run_startRoot {s : State} (hdoms : s.tim.doms.length = 2) (d : Bool) (l : Time) : let u := (startRoot d l).run s
    (s.here = some (s.rootOf d) → (u.dom d).st = .root ∧ (u.dom d).parent = none ∧ (u.dom d).depth = 0) ∧
      u.dom (!d) = s.dom (!d) ∧ u.tim.doms.length = 2 ∧ Frame [.tim, .ctl, .cmt, .ing, .freeCount] [] s u := by
  by_cases hroot : s.here = some (s.rootOf d)
  case neg =>
    rw [run_startRoot_other l hroot]
    exact ⟨fun h => absurd h hroot, rfl, hdoms, Frame.refl _ _ _⟩
  obtain ⟨f, hf, hfst⟩ : ∃ f : Domain → Domain, (startRoot d l).run s =
      (alignNow l).run ((Prog.raiseLocal 96 l).run ((steerRoot d l).run ((modDom d f).run s))) ∧
      ∀ x, (f x).st = .root ∧ (f x).parent = none ∧ (f x).depth = 0 := by
    rw [startRoot, Prog.run_dyn]
    dsimp only
    rw [hroot, if_pos (by simp)]
    exact ⟨_, by rw [Prog.run_block_cons, Prog.run_block_cons, Prog.run_block_two], fun _ => ⟨rfl, rfl, rfl⟩⟩
  have hlen {v w : State} (hd : v.OnlyDoms w) (hv : v.tim.doms.length = 2) : w.tim.doms.length = 2 := by
    obtain ⟨⟨doms, htim, hdoms⟩, -⟩ := hd
    rw [htim, ← hv]
    exact hdoms
  rw [hf]
  have hv := modDom_onlyDoms d f s
  have hvown := hfst ((s.dom d))
  rw [← dom_modDom_same hdoms d f] at hvown
  have hvother := dom_modDom_other s d f
  generalize (modDom d f).run s = v at *
  have hw := steerRoot_onlyDoms d l v
  obtain ⟨hst, -, hparent, hdepth, -⟩ := (steerRoot_dom (hlen hv hdoms) l d d).1.kept
  have hwother := (steerRoot_dom (hlen hv hdoms) l d (!d)).2 (.inr (by cases d <;> decide))
  generalize (steerRoot d l).run v = w at *
  have hx := frame_raiseLocal 96 l w
  have hy := frame_alignNow l ((Prog.raiseLocal 96 l).run w)
  generalize (Prog.raiseLocal 96 l).run w = x at *
  have htim : ((alignNow l).run x).tim = w.tim :=
    Eq.trans (hy.1 .tim (by decide) (by decide)) (hx.1 .tim (by decide) (by decide))
  dsimp only
  rw [State.dom_congr htim, State.dom_congr htim, htim, hst, hparent, hdepth]
  exact ⟨fun _ => hvown, hwother.trans hvother, hlen hw (hlen hv hdoms), (hv.2.mono (by simp) (by simp)).trans
    ((hw.2.mono (by simp) (by simp)).trans ((hx.mono (by simp) (by simp)).trans (hy.mono (by simp) (by simp))))⟩

section
variable {s : State} (hs : s.Canon) (hawake : s.Awake) (hdoms : s.tim.doms.length = 2) (hoff : s.flag F.TIM_CTRL_ENABLE = false)
include hs hawake hdoms hoff

/-- At a root, ENABLE makes its domain ROOT (R390). -/
theorem completes_timeEnable_root {d : Bool} (hroot : s.here = some (s.rootOf d)) (pref : Bool) (l : Time) :
    Completes (.timeEnable pref l) s (fun t =>
      t.flag F.TIM_CTRL_ENABLE = true ∧ (t.dom d).st = .root ∧ (t.dom d).parent = none ∧ (t.dom d).depth = 0) := by
  refine .of_go (p := timeEnableProg pref l) rfl hawake ?_
  rw [run_timeEnableProg hoff]
  obtain ⟨hen, -, -, -, hvdoms, hv⟩ := run_enableTime hs pref l
  generalize (enableTime pref l).run s = v at *
  have hvlen : v.tim.doms.length = 2 := by rw [hvdoms, hdoms]
  have hvroot : v.here = some (v.rootOf d) := by
    rw [show v.rootOf d = s.rootOf d from by
      cases d <;> simp only [State.rootOf, State.rootA, State.rootB, hv.fld F.TIM_ROOT_ROOT_A (by decide),
        hv.fld F.TIM_ROOT_ROOT_B (by decide)], State.here, show v.fab = s.fab from hv.1 .fab (by decide) (by decide)]
    exact hroot
  obtain ⟨ha, haother, halen, haframe⟩ := run_startRoot hvlen false l
  generalize (startRoot false l).run v = a at *
  obtain ⟨hb, hbother, -, hbframe⟩ := run_startRoot halen true l
  have hbroot : ((((startRoot true l).run a).dom d).st = .root ∧ (((startRoot true l).run a).dom d).parent = none ∧
      (((startRoot true l).run a).dom d).depth = 0) := by
    cases d
    · rw [show ((startRoot true l).run a).dom false = a.dom false from hbother]
      exact ha hvroot
    · refine hb ?_
      rw [haframe.rootOf, State.here, show a.fab = v.fab from haframe.1 .fab (by decide) (by decide)]
      exact hvroot
  generalize (startRoot true l).run a = b at *
  obtain ⟨hcother, hcframe⟩ := run_chooseParent false l b
  have hc : ((chooseParent false l).run b).dom d = b.dom d := by
    cases d
    · rw [run_chooseParent_root l hbroot.1]
    · exact hcother
  generalize (chooseParent false l).run b = c at *
  obtain ⟨heother, heframe⟩ := run_chooseParent true l c
  have he : ((chooseParent true l).run c).dom d = c.dom d := by
    cases d
    · exact heother
    · rw [run_chooseParent_root l (by rw [hc]; exact hbroot.1)]
  rw [he, hc, heframe.flag _ List.not_mem_nil, hcframe.flag _ List.not_mem_nil, hbframe.flag _ List.not_mem_nil,
    haframe.flag _ List.not_mem_nil, hen]
  exact ⟨rfl, hbroot⟩

/-- A node without a coordinate only enables its clocks (R390). -/
theorem completes_timeEnable_alone (hhere : s.here = none) (pref : Bool) (l : Time) :
    Completes (.timeEnable pref l) s (fun t =>
      t.flag F.TIM_CTRL_ENABLE = true ∧ t.flag F.TIM_CTRL_PREF = pref ∧ t.tim.follow = pref ∧ t.tim.beta = 0 ∧
      (∀ x, (t.dom x).st = (s.dom x).st) ∧ Frame [.tim] [F.TIM_CTRL_ENABLE.off] s t) := by
  refine .of_go (p := timeEnableProg pref l) rfl hawake ?_
  rw [run_timeEnableProg hoff]
  obtain ⟨hen, hpref, hfollow, hbeta, hvdoms, hv⟩ := run_enableTime hs pref l
  generalize (enableTime pref l).run s = v at *
  have hvlen : v.tim.doms.length = 2 := by rw [hvdoms, hdoms]
  have hvhere : v.here = none := by
    rw [State.here, show v.fab = s.fab from hv.1 .fab (by decide) (by decide)]
    exact hhere
  have hvdom (x : Bool) : v.dom x = s.dom x := by rw [State.dom, hvdoms, State.dom]
  have hne (x : Bool) : v.here ≠ some (v.rootOf x) := by rw [hvhere]; simp
  rw [run_startRoot_other l (hne false), run_startRoot_other l (hne true)]
  have hnone {u : State} (hu : u.here = none) (x q) : u.isCandidate x q l = false := by
    simp [State.isCandidate, State.timePort, hu]
  obtain ⟨⟨lost, hown⟩, hother, ⟨doms, htim, hlen⟩, hframe⟩ := run_chooseParent_none hvlen (d := false) (hnone hvhere false)
  generalize (chooseParent false l).run v = a at *
  have hahere : a.here = none := by
    rw [State.here, show a.fab = v.fab from hframe.1 .fab (by decide) (by decide)]
    exact hvhere
  obtain ⟨⟨lost', hown'⟩, hother', ⟨doms', htim', -⟩, hframe'⟩ :=
    run_chooseParent_none (by rw [htim, hlen]) (d := true) (hnone hahere true)
  generalize (chooseParent true l).run a = b at *
  rw [hframe'.flag _ List.not_mem_nil, hframe.flag _ List.not_mem_nil, hen, hframe'.flag _ List.not_mem_nil,
    hframe.flag _ List.not_mem_nil, hpref, htim', htim]
  refine ⟨rfl, rfl, hfollow, hbeta, fun x => ?_,
    hv.trans ((hframe.mono (fun _ => id) (by simp)).trans (hframe'.mono (fun _ => id) (by simp)))⟩
  cases x
  · rw [show b.dom false = a.dom false from hother', hown, hvdom]
  · rw [hown', show a.dom true = v.dom true from hother, hvdom]

end

/-! ### ANNOUNCE (R386 to R388) -/

section
variable {s : State} (hs : s.Canon) (hawake : s.Awake) (hen : s.flag F.TIM_CTRL_ENABLE = true) {d : Bool} {p : Nat} (hp : p < 4)
include hs hawake hen hp

/-- A root announces on its time port (R386). -/
theorem completes_announceSend (hlen : s.fab.ports.length = 6) (hst : (s.dom d).st = .root) (hparent : (s.dom d).parent = none)
    (htime : s.timePort p = true) (hothers : ∀ q, q < 4 → q ≠ p → s.timePort q = false) (hqueue : (s.port p).queue = [])
    (hcredits : 1 ≤ creditsFree (s.port p) 0) (stamp : Time) : Completes (.announceSend d stamp) s (fun t =>
      t.out = packetOut p { pkt := { s.newPacket 0 4 2 false 0 (announceBytes s d p) with lseq := 0 } } :: s.out ∧
      t.fld (F.FAB_P_TX_COUNT p) = s.countUp (F.FAB_P_TX_COUNT p) ∧
      Frame [.tim, .fab, .out] [(F.FAB_P_TX_COUNT p).off] s t) := by
  let v := (Prog.atLocal stamp).run s
  have hv : Frame [.tim] [] s v := frame_atLocal stamp s
  have hvc : v.Canon := hs.run _
  have hvdom : v.dom d = s.dom d := rfl
  have hvfab : v.fab = s.fab := rfl
  have hports : [0, 1, 2, 3].filter v.timePort = [p] := by
    have hfilter : [0, 1, 2, 3].filter s.timePort = [p] := by
      have h (q : Nat) (hq : q < 4) : s.timePort q = decide (q = p) := by
        by_cases hqp : q = p
        · simp [hqp, htime]
        · simp [hqp, hothers q hq hqp]
      simp only [List.filter, h 0 (by decide), h 1 (by decide), h 2 (by decide), h 3 (by decide)]
      interval_cases p <;> rfl
    rw [← hfilter]
    exact congrArg (List.filter · _) (funext fun q => hv.timePort (by decide) q)
  have hrun : exec (.announceSend d stamp) s = .next ((sendLink 0 2 p (announceBytes s d p)).run v) := by
    refine (congrArg _ (Prog.go_awake _ s hawake)).trans ?_
    rw [Prog.run_guard, if_pos hen, Prog.run_seq, Prog.run_dyn]
    rw [show ((Prog.atLocal stamp).run s).dom d = s.dom d from rfl, hparent]
    dsimp only
    rw [Prog.run_block_two, run_chooseParent_root stamp (by rw [← hst]; rfl), Prog.run_dyn,
      show [0, 1, 2, 3].filter ((Prog.atLocal stamp).run s).timePort = [p] from hports]
    rfl
  have hcarries : portCarries (s.port p) = true := by
    unfold State.timePort at htime
    split at htime
    · exact absurd htime Bool.false_ne_true
    · simp only [State.linkUsable, Bool.and_eq_true, beq_iff_eq] at htime
      rw [portCarries, htime.2.1]
      rfl
  have hbody : (announceBytes s d p).length ≤ 236 := by simp [announceBytes, leBytes]
  have hpacket (body : List Byte) : v.newPacket 0 4 2 false 0 body = s.newPacket 0 4 2 false 0 body := rfl
  refine ⟨_, hrun, ?_⟩
  clear_value v
  obtain ⟨hout, hcount, hframe⟩ := run_sendLink_idle hvc (p := p) (by rw [hvfab]; omega) (cls := 0) (proto := 2)
    (body := announceBytes s d p)
    (by rw [State.port_congr hvfab, hpacket]; exact Port.idle_time s hcarries hqueue hcredits hbody)
  rw [hpacket, Port.numbered_time, show v.out = s.out from hv.1 .out (by decide) (by decide)] at hout
  refine ⟨hout, ?_, (hv.mono (by simp) (by simp)).trans (hframe.mono (by simp) (fun _ => id))⟩
  rw [hcount, State.countUp, hv.fld _ List.not_mem_nil, State.countUp]

/-- An ill-formed ANNOUNCE is discarded (R386, R393). -/
theorem completes_announceReceive_bad {m : AnnounceMsg} (h : m.rsv ≠ 0 ∨ 64 < m.depth) (stamp : Time) :
    Completes (.announceReceive p m stamp) s (fun t =>
      t.tim = s.tim ∧ t.fld F.FAB_DISCARD_HEADER = s.countUp F.FAB_DISCARD_HEADER) := by
  refine .of_go rfl hawake ?_
  rw [Prog.run_guard, if_pos (by simp [hen, hp]), if_pos (by simpa using h)]
  obtain ⟨hcount, -, hframe⟩ := run_discardPacket_header hs m.addr
  exact ⟨hframe.1 .tim (by decide) (by decide), hcount⟩

end

/-- An ANNOUNCE as the candidate that its port holds (R387). -/
def announced (m : AnnounceMsg) (l : Time) : Candidate :=
  { stamp := l, root := m.root, depth := m.depth, parent := m.parent, timed := m.timed, addr := m.addr }

/-- A domain that acquires a first parent (R387). -/
def Domain.acquired (x : Domain) (p : Nat) (l : Time) : Domain :=
  { x.withParent (some p) l with st := .acquire, since := l, stepped := false }

/-- A domain that is FREE takes its only candidate (R387). -/
theorem run_chooseParent_first {s : State} {d : Bool} {l : Time} {p : Nat} (hp : p < 4) (hparent : (s.dom d).parent = none)
    (hst : (s.dom d).st = .free) (hcand : ∀ q, q < 4 → s.isCandidate d q l = decide (q = p)) :
    (chooseParent d l).run s = (modDom d (fun x => x.acquired p l)).run s := by
  have hbest : s.bestCandidate d l = some p := by
    simp only [State.bestCandidate, List.filter, hcand 0 (by decide), hcand 1 (by decide), hcand 2 (by decide), hcand 3 (by decide)]
    interval_cases p <;> rfl
  rw [chooseParent, Prog.run_dyn]
  dsimp only
  rw [hparent, hst, if_neg (by simp), hbest]
  dsimp only
  rw [if_pos (by decide)]
  rfl

/-- The first good ANNOUNCE makes a domain that is FREE acquire its sender as parent (R387). -/
theorem completes_announceReceive_first {s : State} (hs : s.Canon) (hawake : s.Awake) (hdoms : s.tim.doms.length = 2)
    (hen : s.flag F.TIM_CTRL_ENABLE = true) {d : Bool} {p : Nat} {m : AnnounceMsg} (stamp : Time) (hp : p < 4) (hrsv : m.rsv = 0)
    (hdomain : m.domain = d) (hst : (s.dom d).st = .free) (hparent : (s.dom d).parent = none)
    (hcands : (s.dom d).cands = [none, none, none, none]) (htime : s.timePort p = true) (htimed : m.timed = true)
    (hmparent : m.parent = false) (hdepth : m.depth ≤ 63) (hroot : m.root = s.rootOf d) :
    Completes (.announceReceive p m stamp) s (fun t =>
      (t.dom d).st = .acquire ∧ (t.dom d).parent = some p ∧ (t.dom d).since = stamp ∧ t.dom (!d) = s.dom (!d) ∧
      (s.flag F.CMT_CTRL_ENABLE = false → Frame [.tim] [] s t)) := by
  let u := (Prog.atLocal stamp).run s
  let f (x : Domain) : Domain := { x with
    depth := if x.parent == some p && x.depth != 64 then min 64 (m.depth + 1) else x.depth
    cands := x.cands.set p (some (announced m stamp)) }
  let v := (modDom d f).run u
  have hulen : u.tim.doms.length = 2 := hdoms
  have hvc : v.Canon := (hs.run _).run _
  have hvdom : v.dom d = f (s.dom d) := dom_modDom_same hulen d f
  have hvother : v.dom (!d) = s.dom (!d) := dom_modDom_other u d f
  have hvcands : (v.dom d).cands = [none, none, none, none].set p (some (announced m stamp)) := by
    rw [hvdom, ← hcands]
  have hvlen : v.tim.doms.length = 2 := by simpa [v, modDom, modAt_eq_modify, Act.apply] using hulen
  have hv : Frame [.tim] [] s v := Prog.frame_noRegs _ (.seq (.atLocal stamp) (modDom d f)) (by simp [Prog.atLocal, modDom, Act.Within]) s
  have hcand (q : Nat) (hq : q < 4) : v.isCandidate d q stamp = decide (q = p) := by
    rw [State.isCandidate, hv.timePort (by decide), hvcands, hv.rootOf]
    by_cases hqp : q = p
    · subst hqp
      have hget : [none, none, none, none].getD q none = (none : Option Candidate) := by interval_cases q <;> rfl
      have hset : ([none, none, none, none].set q (some (announced m stamp))).getD q none = some (announced m stamp) := by
        interval_cases q <;> rfl
      rw [htime, hset]
      simp [announced, Candidate.fresh, htimed, hmparent, hdepth, hroot]
    · have hset : ([none, none, none, none].set p (some (announced m stamp))).getD q none = none := by
        interval_cases p <;> interval_cases q <;> first | rfl | exact absurd rfl hqp
      rw [hset]
      simp [hqp]
  have hrun : exec (.announceReceive p m stamp) s = .next ((trySendVote d).run ((modDom d (fun x => x.acquired p stamp)).run v)) := by
    refine (congrArg _ (Prog.go_awake _ s hawake)).trans ?_
    rw [Prog.run_guard, if_pos (by simp [hen, hp]), if_neg (by simp [hrsv]; omega), hdomain, Prog.run_block_cons, Prog.run_block_cons,
      Prog.run_dyn]
    dsimp only
    rw [show ((Prog.atLocal stamp).run s).dom d = s.dom d from rfl, hparent]
    dsimp only
    show Host.Outcome.next ((Prog.block [_, _]).run v) = _
    rw [Prog.run_block_two, Prog.run_dyn, show (v.dom d).parent = none by rw [hvdom]; exact hparent]
    dsimp only
    rw [run_chooseParent_first hp (by rw [hvdom]; exact hparent) (by rw [hvdom]; exact hst) hcand]
  refine ⟨_, hrun, ?_⟩
  clear hrun
  clear_value v
  let w := (modDom d (fun x => x.acquired p stamp)).run v
  have hw : Frame [.tim] [] v w := Prog.frame_noRegs _ _ (by simp [modDom, Act.Within]) v
  have hwdom : w.dom d = (v.dom d).acquired p stamp := dom_modDom_same hvlen d _
  have hwother : w.dom (!d) = v.dom (!d) := dom_modDom_other v d _
  rw [show (modDom d _).run v = w from rfl]
  have hwc : w.Canon := hvc.run _
  clear_value w
  have hvote := (trySendVote_in (parts := .cmt :: sendParts) (by decide) (by decide) (by decide) (by decide) d).spared hwc
  have htim : ((trySendVote d).run w).tim = w.tim := hvote.same .tim (by decide) (by decide) (by decide)
  rw [State.dom_congr htim, State.dom_congr htim, hwdom, hwother, hvother]
  refine ⟨rfl, rfl, rfl, rfl, fun hcmt => ?_⟩
  have hquiet : (trySendVote d).run w = w := by
    have hflag : w.flag F.CMT_CTRL_ENABLE = false := by rw [hw.flag _ List.not_mem_nil, hv.flag _ List.not_mem_nil, hcmt]
    rw [trySendVote, Prog.run_dyn]
    dsimp only
    split
    · rw [sendVote, Prog.run_dyn, hflag, if_pos (by simp)]
      rfl
    · rfl
  rw [hquiet]
  exact hv.trans hw

/-! ### The loss of a parent (R390, R395) -/

section
variable {s : State} (hawake : s.Awake) (hdoms : s.tim.doms.length = 2) {d : Bool} (l : Time)
include hawake

section
include hdoms

/-- A domain that is LOCKED holds over when its parent is no candidate any more (R390, R391). -/
theorem completes_parentLost_locked {p : Nat} (hparent : (s.dom d).parent = some p) (hcand : ∀ q, s.isCandidate d q l = false)
    (hst : (s.dom d).st = .locked) : Completes (.parentLost d l) s (fun t =>
      (t.dom d).st = .holdover ∧ (t.dom d).parent = none ∧ (t.dom d).rateHeld = true ∧ (t.dom d).since = l ∧
      (t.dom d).ofs l = (s.dom d).ofs l ∧ (t.dom d).corr = 0 ∧ t.dom (!d) = s.dom (!d) ∧ Frame [.tim] [] s t) := by
  let u := (Prog.atLocal l).run s
  let v := (modDom d (fun x => (x.withParent none l).holdOver l)).run u
  have hu : Frame [.tim] [] s u := frame_atLocal l s
  have hv : Frame [.tim] [] s v := hu.trans (Prog.frame_noRegs _ _ (by simp [modDom, Act.Within]) u)
  have hudom : u.dom d = s.dom d := rfl
  have huother : u.dom (!d) = s.dom (!d) := rfl
  have hulen : u.tim.doms.length = 2 := hdoms
  have hvdom : v.dom d = ((s.dom d).withParent none l).holdOver l := dom_modDom_same hulen d _
  have hvother : v.dom (!d) = s.dom (!d) := dom_modDom_other u d _
  have hvlen : v.tim.doms.length = 2 := by simpa [v, modDom, modAt_eq_modify, Act.apply] using hulen
  have hucand : u.isCandidate d p l = false := by
    rw [State.isCandidate, hu.timePort (by decide), hudom, hu.rootOf]
    exact hcand p
  have hrun : exec (.parentLost d l) s = .next ((chooseParent d l).run v) := by
    refine (congrArg _ (Prog.go_awake _ s hawake)).trans ?_
    rw [Prog.run_seq, Prog.run_dyn]
    dsimp only
    rw [show ((Prog.atLocal l).run s).dom d = s.dom d from rfl, hparent]
    dsimp only
    rw [Prog.run_when, if_pos (by rw [show ((Prog.atLocal l).run s).isCandidate d p l = false from hucand]; rfl), loseParent,
      Prog.run_dyn]
    dsimp only
    rw [show ((Prog.atLocal l).run s).dom d = s.dom d from rfl, hparent, hst, if_neg (by simp), Prog.run_block_two]
  refine ⟨_, hrun, ?_⟩
  clear_value v
  obtain ⟨⟨lost, hown⟩, hother, -, hframe⟩ := run_chooseParent_none hvlen (d := d) (l := l) (fun q => by
    rw [hv.isCandidate_of_withParent (by decide) (q := none) (by rw [hvdom]; rfl)]
    exact hcand q)
  rw [hown, hother, hvdom, hvother]
  exact ⟨rfl, rfl, rfl, rfl, (Domain.ofs_at_base _ (l := l) rfl).trans rfl, rfl, rfl, hv.trans hframe⟩

end

/-- Without a parent there is none to lose. -/
theorem completes_parentLost_none (hparent : (s.dom d).parent = none) : Completes (.parentLost d l) s (fun t =>
    t = { s with tim := { s.tim with now := max s.tim.now l } }) := by
  refine .of_go rfl hawake ?_
  rw [Prog.run_seq, Prog.run_dyn]
  dsimp only
  rw [show ((Prog.atLocal l).run s).dom d = s.dom d from rfl, hparent]
  rfl

theorem completes_holdoverTimeout_early (hexp : (s.dom d).expired l = false) : Completes (.holdoverTimeout d l) s (fun t =>
    t = { s with tim := { s.tim with now := max s.tim.now l } }) := by
  refine .of_go rfl hawake ?_
  rw [Prog.run_seq, Prog.run_dyn, Prog.run_when, show ((Prog.atLocal l).run s).dom d = s.dom d from rfl, hexp,
    if_neg Bool.false_ne_true]
  rfl

/-- A domain whose HOLDOVER has lasted too long goes FREE (R390). -/
theorem exec_holdoverTimeout (hst : (s.dom d).st = .holdover) (hold : (s.dom d).since + 100000000 * 256 ≤ l) :
    exec (.holdoverTimeout d l) s = .next ((goFree d l).run ((Prog.atLocal l).run s)) := by
  refine (congrArg _ (Prog.go_awake _ s hawake)).trans ?_
  rw [Prog.run_seq, Prog.run_dyn, Prog.run_when, if_pos]
  rw [show ((Prog.atLocal l).run s).dom d = s.dom d from rfl, Domain.expired, hst, decide_eq_true hold]
  rfl

include hdoms

/-- A domain that acquires goes FREE when its parent is no candidate any more (R390). -/
theorem completes_parentLost_acquire {p : Nat} (hparent : (s.dom d).parent = some p) (hcand : ∀ q, s.isCandidate d q l = false)
    (hst : (s.dom d).st = .acquire) (hfollow : s.tim.follow = (!d)) (hother : (s.dom (!d)).st ≠ .free) :
    Completes (.parentLost d l) s (fun t =>
      (t.dom d).st = .free ∧ (t.dom d).parent = none ∧ Pended 97 s t ∧ Frame [.tim, .ctl, .freeCount] [] s t) := by
  let u := (Prog.atLocal l).run s
  have hu : Frame [.tim] [] s u := frame_atLocal l s
  have hudom (e : Bool) : u.dom e = s.dom e := rfl
  have hucand : u.isCandidate d p l = false := by
    rw [State.isCandidate, hu.timePort (by decide), hudom, hu.rootOf]
    exact hcand p
  have hrun : exec (.parentLost d l) s = .next ((chooseParent d l).run ((goFree d l).run u)) := by
    refine (congrArg _ (Prog.go_awake _ s hawake)).trans ?_
    rw [Prog.run_seq, Prog.run_dyn]
    dsimp only
    rw [show ((Prog.atLocal l).run s).dom d = s.dom d from rfl, hparent]
    dsimp only
    rw [Prog.run_when, if_pos (by rw [show ((Prog.atLocal l).run s).isCandidate d p l = false from hucand]; rfl), loseParent,
      Prog.run_dyn]
    dsimp only
    rw [show ((Prog.atLocal l).run s).dom d = s.dom d from rfl, hparent, hst, if_neg (by simp), Prog.run_block_two]
  obtain ⟨w, hw, hown, hwother, -, hlen, hpend, hframe, -⟩ := run_goFree_still (s := u) hdoms (d := d) l (.inl hfollow)
  rw [hw, run_timeLostCheck_none (!d) (by rw [hwother.kept.1]; exact hother)] at hrun
  refine ⟨_, hrun, ?_⟩
  have hall : Frame [.tim, .ctl, .freeCount] [] s w := (hu.mono (by simp) (by simp)).trans hframe
  obtain ⟨⟨lost, hlost⟩, -, -, hlast⟩ := run_chooseParent_none hlen (d := d) (l := l) (fun q => by
    rw [hall.isCandidate_of_withParent (by decide) (q := none) (by rw [hown]; rfl)]
    exact hcand q)
  dsimp only
  rw [hlost, hown, Pended, show ((chooseParent d l).run w).ctl = w.ctl from hlast.1 .ctl (by decide) (by decide)]
  exact ⟨rfl, rfl, hpend, hall.trans (hlast.mono (by simp) (by simp))⟩

section
variable (hst : (s.dom d).st = .holdover) (hold : (s.dom d).since + 100000000 * 256 ≤ l)
include hst hold

theorem completes_holdoverTimeout_still (hfollow : s.tim.follow = (!d)) (hother : (s.dom (!d)).st ≠ .free) :
    Completes (.holdoverTimeout d l) s (fun t =>
      (t.dom d).st = .free ∧ (t.dom d).parent = none ∧ t.tim.follow = s.tim.follow ∧ Pended 97 s t ∧
      Frame [.tim, .ctl, .freeCount] [] s t) := by
  have hrun := exec_holdoverTimeout hawake l hst hold
  have hu : Frame [.tim] [] s ((Prog.atLocal l).run s) := frame_atLocal l s
  obtain ⟨w, hw, hown, hwother, hwfollow, -, hpend, hframe, -⟩ :=
    run_goFree_still (s := (Prog.atLocal l).run s) hdoms (d := d) l (.inl hfollow)
  rw [hw, run_timeLostCheck_none (!d) (by rw [hwother.kept.1]; exact hother)] at hrun
  refine ⟨_, hrun, ?_⟩
  dsimp only
  rw [hown]
  exact ⟨rfl, rfl, hwfollow, hpend, (hu.mono (by simp) (by simp)).trans hframe⟩

theorem completes_holdoverTimeout_follows (hfollow : s.tim.follow = d) (hother : (s.dom (!d)).lock = true)
    (hexp : (s.dom (!d)).expired l = false) : Completes (.holdoverTimeout d l) s (fun t =>
      (t.dom d).st = .free ∧ t.tim.follow = (!d) ∧ t.fabricAt l = s.fabricAt l ∧ Frame [.tim, .ctl, .freeCount] [] s t) := by
  have hu : Frame [.tim] [] s ((Prog.atLocal l).run s) := frame_atLocal l s
  obtain ⟨hfree, htfollow, hfabric, hframe⟩ := run_goFree_follows (s := (Prog.atLocal l).run s) hdoms l hfollow
    (show (s.dom d).lock = true by rw [Domain.lock, hst]; rfl) hother hexp
  exact ⟨_, exec_holdoverTimeout hawake l hst hold, hfree, htfollow, hfabric, (hu.mono (by simp) (by simp)).trans hframe⟩

/-- With both domains FREE a MEMBER goes into FAULT (R395). -/
theorem completes_holdoverTimeout_fault (hs : s.Canon) (hother : (s.dom (!d)).st = .free) (hnode : s.node = .member)
    (hno : s.NoTrial) (hvalid : s.flag F.HKP_FAULT_VALID = false) : Completes (.holdoverTimeout d l) s (fun t =>
      t.node = .fault ∧ t.fld F.HKP_FAULT_BLOCK = 7 ∧ t.fld F.HKP_FAULT_CODE = 0x21) := by
  have hrun := exec_holdoverTimeout hawake l hst hold
  have hu : Frame [.tim] [] s ((Prog.atLocal l).run s) := frame_atLocal l s
  obtain ⟨w, hw, hown, hwother, -, -, -, hframe, hcanon⟩ := run_goFree_still (s := (Prog.atLocal l).run s) hdoms (d := d) l
    (.inr (show (s.dom (!d)).lock = false by rw [Domain.lock, hother]; rfl))
  have hall : Frame [.tim, .ctl, .freeCount] [] s w := (hu.mono (by simp) (by simp)).trans hframe
  rw [hw] at hrun
  refine ⟨_, hrun, run_timeLostCheck_fault (hcanon (hs.run _)) ?_ ?_ ?_ fun e => ?_⟩
  · exact Eq.trans (hall.1 .node (by decide) (by decide)) hnode
  · rwa [State.NoTrial, show w.sec = s.sec from hall.1 .sec (by decide) (by decide)]
  · rw [hall.flag _ List.not_mem_nil, hvalid]
  · by_cases he : e = d
    · rw [he, hown]
      rfl
    · rw [Bool.eq_not_of_ne he, hwother.kept.1]
      exact hother

end

end

/-- Settles O43: each clause by the program of its command; a domain that goes FREE by `run_goFree`. -/
theorem treesFormAndBreak : Obligations.TreesFormAndBreak := by
  unfold Obligations.TreesFormAndBreak
  intro s d stamp hinv hawake hdoms hlen
  have hs := hinv.canon
  refine ⟨fun hoff hroot pref => completes_timeEnable_root hs hawake hdoms hoff hroot pref stamp,
    fun hoff hhere pref => completes_timeEnable_alone hs hawake hdoms hoff hhere pref stamp,
    fun hoff => .of_go_self rfl ?_,
    fun hen hst hparent _ p hp htime hothers hqueue hcredits =>
      completes_announceSend hs hawake hen hp hlen hst hparent htime hothers hqueue hcredits stamp,
    fun hen p m hp hrsv hdomain hst hparent hcands htime htimed hmparent hdepth hroot =>
      completes_announceReceive_first hs hawake hdoms hen stamp hp hrsv hdomain hst hparent hcands htime htimed hmparent hdepth hroot,
    fun hen p m hp hbad => completes_announceReceive_bad hs hawake hen hp hbad stamp,
    fun p hparent hcand => ⟨fun hst => completes_parentLost_locked hawake hdoms stamp hparent hcand hst,
      fun hst hfollow hother => completes_parentLost_acquire hawake hdoms stamp hparent hcand hst hfollow hother⟩,
    fun hparent => completes_parentLost_none hawake stamp hparent,
    fun hexp => completes_holdoverTimeout_early hawake stamp hexp,
    fun hst hold => ⟨fun hfollow hother => completes_holdoverTimeout_still hawake hdoms stamp hst hold hfollow hother,
      fun hfollow hother hexp => completes_holdoverTimeout_follows hawake hdoms stamp hst hold hfollow hother hexp,
      fun hother hnode hno hvalid => completes_holdoverTimeout_fault hawake hdoms stamp hst hold hs hother hnode hno hvalid⟩⟩
  rw [Prog.run_guard, if_neg (by simp [hoff])]

end Sys2Proof.Machine
end

section
/-! PROOF. O48: a frame that no decision reaches is abandoned; what that does to the memory controller (R172, R197, R414). -/

namespace Sys2Proof.Machine

/-- A node whose memory controller still shows a panic that no grove raises any more, with one active frame. -/
def stalePanic : State :=
  { State.reset with
    ing := { State.reset.ing with epochs := [{ fsn := State.reset.N, st := .active }] }
    dmc := { State.reset.dmc with panicGroves := 1 } }

/-- The groves that the memory controller holds in panic after a command. -/
def panicAfter (c : Instr) (s : State) : Option Byte :=
  match exec c s with
  | .next t => some t.dmc.panicGroves
  | _ => none

theorem panicAfter_localAbort : panicAfter .localAbort stalePanic = some 0 := by decide +kernel

/-- Refutes O48: the fill of an abandoned frame goes blank, which ends the panic of groves whose fill is gone (R172, R195), so
that the memory controller is not as it was. -/
theorem not_decisionsBind : ¬ Obligations.DecisionsBind := by
  unfold Obligations.DecisionsBind
  intro h
  have hinv : stalePanic.Inv := ⟨rfl, rfl, rfl, rfl, rfl⟩
  obtain ⟨-, -, -, -, -, -, hlocal⟩ := h stalePanic hinv rfl
  obtain ⟨t, hexec, -, -, -, -, -, -, hframe⟩ :=
    hlocal { fsn := State.reset.N, st := .active } rfl rfl (by decide) (by decide) rfl rfl rfl (by decide) (by decide)
  have hkept : t.dmc = stalePanic.dmc := hframe.1 .dmc (by decide) (by decide)
  have hpanic : panicAfter .localAbort stalePanic = some t.dmc.panicGroves := by rw [panicAfter, hexec]
  rw [panicAfter_localAbort, hkept] at hpanic
  exact absurd hpanic (by decide)

end Sys2Proof.Machine
end

section
/-! PROOF. O52: a REOPEN has every bin synthesised anew, and what that does to the memory controller (R172, R195, R196). -/

namespace Sys2Proof.Machine

/-- The frame of `boundStale`. -/
def openEpoch : Epoch := { fsn := State.reset.N, st := .active, opened := true }

/-- A node bound to source 0, whose memory controller still shows a panic that no grove raises any more, with one open
frame. -/
def boundStale : State :=
  { State.reset with
    eff := [(R.ING_STREAM, 0x10000)]
    ing := { State.reset.ing with epochs := [openEpoch] }
    dmc := { State.reset.dmc with panicGroves := 1 } }

/-- How a FRAME_OPEN for that frame comes, early enough. -/
def reopenEnv : GladeEnv := { stamp := -10 ^ 18, xtfLen := 24, hdr := { bodyLength := 8, fsn := State.reset.N } }

theorem panicAfter_reopen : panicAfter (.frameReopen reopenEnv 0 true 0) boundStale = some 0 := by decide +kernel

theorem boundStale_placed : boundStale.Placed { env := reopenEnv, type := 1, body := openBody 0 true true 0 } := by
  unfold State.Placed
  refine ⟨?_, ?_, ?_, ?_, ?_, ?_, .inl rfl, ?_, rfl⟩ <;> decide +kernel

/-- Refutes O52: a REOPEN sends the frame's fill blank, which ends the panic of groves whose fill is gone (R172, R195), so that
the memory controller is not as it was. -/
theorem not_scenePacketsApplied : ¬ Obligations.ScenePacketsApplied := by
  unfold Obligations.ScenePacketsApplied
  intro h
  have hinv : boundStale.Inv := ⟨rfl, by decide +kernel, rfl, rfl, rfl⟩
  have hlone : boundStale.Lone openEpoch := ⟨rfl, by decide, rfl, rfl, rfl⟩
  obtain ⟨-, hreopen, -⟩ := h boundStale reopenEnv openEpoch hinv rfl rfl hlone rfl
  obtain ⟨t, hexec, -, -, hframe⟩ := hreopen 0 boundStale_placed rfl (by decide) (by decide)
  have hkept : t.dmc = boundStale.dmc := hframe.1 .dmc (by decide) (by decide)
  have hpanic : panicAfter (.frameReopen reopenEnv 0 true 0) boundStale = some t.dmc.panicGroves := by rw [panicAfter, hexec]
  rw [panicAfter_reopen, hkept] at hpanic
  exact absurd hpanic (by decide)

end Sys2Proof.Machine
end

section
/-! PROOF. The end of panic serves what the memory controller held back (R172, R468); a held read that meets a bad line takes
a trial back (R541), and with it what a frame's error and a poisoned strip have recorded: counterexamples to O51 and O53. -/

namespace Sys2Proof.Machine

theorem Act.Rom.ing {a : Act} (h : a.Rom) (s : State) : (a.apply s).ing = s.ing := by
  cases a <;> simp [Act.Rom] at h ⊢

theorem Act.Rom.cmt {a : Act} (h : a.Rom) (s : State) : (a.apply s).cmt = s.cmt := by
  cases a <;> simp [Act.Rom] at h ⊢

/-- A fall-back leaves no frame and no cause. -/
theorem ing_fallBack {s : State} {p : BootPtr} (hptr : s.ptr = some p) :
    (fallBack.run s).ing = {} ∧ (fallBack.run s).cmt = {} := by
  have hrom : (romBoot.run (s.trialEnd p)).ing = (s.trialEnd p).ing ∧ (romBoot.run (s.trialEnd p)).cmt = (s.trialEnd p).cmt := by
    rw [run_romBoot]
    refine Prog.run_keeps (fun t : State => t.ing = (s.trialEnd p).ing ∧ t.cmt = (s.trialEnd p).cmt)
      (fun a t ha ht => ⟨(ha.ing t).trans ht.1, (ha.cmt t).trans ht.2⟩) _ (romAfterM0_rom _ _) _ ?_
    rw [Act.extend_ing, Act.extend_cmt]
    exact ⟨rfl, rfl⟩
  rw [run_fallBack hptr]
  generalize romBoot.run (s.trialEnd p) = u at *
  rw [Prog.run_raise, Act.ctl_ing, Act.free_ing, Act.ctl_cmt, Act.free_cmt, hrom.1, hrom.2]
  exact ⟨rfl, rfl⟩

/-- A node in a trial whose memory controller holds back a read of a bad line, of a rank that migrates already. -/
structure State.HoldsBack (s : State) (p : BootPtr) : Prop where
  inTrial : s.InTrial p
  bad : s.lineBad 0 = true
  mig : s.dmc.mig.getD 0 none = some { fromPos := s.rankPos 0 0 }
  held : s.dmc.held = [heldRead]
  changing : s.dmc.changing = false
  retrain : s.dmc.retrain = []

/-- What the end of panic changes before anything held back is served (R172). -/
def panicOver : Prog :=
  .block [
    .act (.grv (fun g => { g with panics := [] })),
    .each (List.range 8) (fun g => .dyn (fun s => .setReg (groveReg g 8) (putBits (s.reg (groveReg g 8)) 16 16 0))),
    .act (.dmc (fun d => { d with panicGroves := 0 })), .setFlag F.DMC_STATUS_PANIC false]

theorem run_panicCheck_none {s : State} (hpanics : s.grv.panics = []) : panicCheck.run s = drainAll.run (panicOver.run s) := by
  rw [panicCheck, Prog.run_dyn]
  dsimp only
  rw [hpanics]
  simp only [List.filter_nil, List.any_nil, List.isEmpty_nil, Prog.run_block_cons, Prog.run_block_nil, Prog.run_dyn, Prog.run_when,
    panicOver]
  rfl

/-- The registers that the end of panic writes. -/
def panicRegs : List Nat := F.DMC_STATUS_PANIC.off :: (List.range 8).map (fun g => groveReg g 8)

theorem panicOver_within : panicOver.Only (Act.Within [.grv, .dmc] panicRegs) := by
  refine ⟨by simp [Act.Within], ?_, by simp [Act.Within], by simp [panicRegs], trivial⟩
  exact Prog.only_each_iff.2 fun g hg _ => List.mem_cons_of_mem _ (List.mem_map_of_mem hg)

/-- What the end of panic leaves of what the memory controller holds. -/
theorem dmc_panicOver (s : State) : (panicOver.run s).dmc = { s.dmc with panicGroves := 0 } := rfl

/-- The steps before a held request is served (R467). -/
def takeHeld : Prog := .block [.act (.dmc (fun d => { d with held := d.held.eraseIdx 0 })), grants heldRead]

theorem takeHeld_within : takeHeld.Only (Act.Within [.dmc] []) := ⟨.head _, grants_within heldRead, trivial⟩

theorem takeHeld_lineState : takeHeld.Keeps State.lineState :=
  Prog.keeps_seq (fun _ _ => rfl) (Prog.keeps_seq (grants_lineState heldRead) Prog.keeps_nil)

/-- With nothing in its way the one request that is held is served (R466, R467). -/
theorem run_drainAll_heldRead {s : State} (hheld : s.dmc.held = [heldRead]) (hchanging : s.dmc.changing = false)
    (hretrain : s.dmc.retrain = []) (hpanic : s.dmc.panicGroves = 0) :
    drainAll.run s = (dramRead 0x16 0 1 [] 0).run (takeHeld.run s) := by
  have hopen : s.reqBlocked heldRead = false := by simp [State.reqBlocked, hchanging, hretrain, hpanic]
  have hready : s.readyReqs = [(0, heldRead)] := by simp [State.readyReqs, hheld, hopen]
  have hnext : s.nextReq = some (0, heldRead) := by rw [State.nextReq, hready]; rfl
  have hlen : s.dmc.held.length = 1 := by rw [hheld]; rfl
  rw [drainAll, Prog.run_dyn, hlen, drainReqs, Prog.run_dyn, hnext]
  rfl

section
variable {s t : State} {p : BootPtr} (h : s.HoldsBack p)
include h

/-- What touches neither node, security, memory controller nor the rank map leaves it so. -/
theorem State.HoldsBack.of_spared {parts : List Part} {P : Nat → Prop} (hspared : Spared parts P s t) (hnode : Part.node ∉ parts)
    (hsec : Part.sec ∉ parts) (hdmc : Part.dmc ∉ parts) (hreg : ¬ P (F.DMC_RANKMAP_LR0_POS 0).off) : t.HoldsBack p := by
  have hd : t.dmc = s.dmc := hspared.same .dmc hdmc (by decide) (by decide)
  have hrank : t.rankPos 0 0 = s.rankPos 0 0 := hspared.fld _ hreg
  refine ⟨h.inTrial.of_spared hspared hnode hsec, ?_, ?_, ?_, ?_, ?_⟩
  · rw [State.lineBad, hd]; exact h.bad
  · rw [hd, hrank]; exact h.mig
  · rw [hd]; exact h.held
  · rw [hd]; exact h.changing
  · rw [hd]; exact h.retrain

/-- The end of panic takes such a node back (R468, R541). -/
theorem State.HoldsBack.run_panicCheck (hs : s.Canon) (hpanics : s.grv.panics = []) : ∃ u : State, u.ptr = some p ∧
    panicCheck.run s = (Act.bus { data := [], error := true }).apply (fallBack.run u) := by
  have hover := (Prog.frame _ _ _ panicOver_within s hs).2
  have hdmc := dmc_panicOver s
  have hv := hs.run panicOver
  rw [run_panicCheck_none hpanics]
  generalize panicOver.run s = v at *
  rw [run_drainAll_heldRead (by rw [hdmc]; exact h.held) (by rw [hdmc]; exact h.changing) (by rw [hdmc]; exact h.retrain)
    (by rw [hdmc])]
  have htaken := Prog.frame_noRegs _ _ takeHeld_within v
  have hlines := takeHeld_lineState.run hv
  have hu := hv.run takeHeld
  generalize takeHeld.run v = u at *
  have hbad : u.lineBad 0 = true := by
    rw [State.lineBad, show u.dmc.poison = v.dmc.poison from congrArg Prod.snd hlines, hdmc]
    exact h.bad
  have hrank : u.rankPos 0 0 = s.rankPos 0 0 := (htaken.fld _ List.not_mem_nil).trans (hover.fld _ (by decide))
  have hmig : u.dmc.mig.getD (2 * pairOf (0 * 128)) none = some { fromPos := u.rankPos 0 0 } := by
    rw [show u.dmc.mig = v.dmc.mig from congrArg Prod.fst hlines, hdmc, hrank]
    exact h.mig
  have htrial : u.InTrial p := (h.inTrial.of_spared (Spared.of_frame hover (P := (· ∈ panicRegs)) fun _ => id) (by decide)
    (by decide)).of_spared (Spared.of_frame htaken (P := fun _ => False) (by simp)) (by decide) (by decide)
  obtain ⟨code, hfault⟩ := run_uncorrectable_migrating hu htrial.node hmig (by rfl) 0x16 0xFF 0
  have hbefore := (beforeDmcFault_in 0 0x16 0xFF code 0).spared hu
  obtain ⟨w, hptr, hfall⟩ := (htrial.of_spared hbefore (by decide) (by decide)).fallsBack (hu.run _) 0x1B 0x07 code 0
  exact ⟨w, hptr, by rw [run_dramRead_bad hbad (by decide), run_readLine_bad hbad, hfault, hfall]⟩

end

/-! ### An error of a frame (R64, R195) -/

/-- What is touched after an error has sent a fill blank. -/
def afterBlank : List Part := .cmt :: .grv :: sendParts

theorem mem_afterBlank : Part.cmt ∈ afterBlank ∧ Part.grv ∈ afterBlank ∧ Part.freeCount ∈ afterBlank := by decide

theorem tryVote_in : tryVote.Only (Act.In afterBlank fun _ => True) := by
  have hsend (d : Bool) : (trySendVote d).Only (Act.In afterBlank fun _ => True) :=
    (trySendVote_in (by decide) (by decide) (by decide) (by decide) d).in_mono fun _ _ => trivial
  have hsettle (ready : Bool) (reason : BitVec 16) : (settleVote ready reason).Only (Act.In afterBlank fun _ => True) := by
    intro s
    simp [hsend, Act.In, Act.Within, mem_afterBlank]
  intro s
  dsimp only
  split
  · split
    · exact hsettle _ _
    · split
      · exact hsettle _ _
      · trivial
  · trivial

/-- What an error still does once the fill of its frame is blank. -/
def afterErr (n : Fsn) (code : Nat) (first : Bool) : Prog :=
  .block [
    dropWork n,
    .dyn (fun s =>
      let err := ((s.epoch n).getD {}).err
      .block [.setReg R.ING_ERR_FSN n, .setFld F.ING_ERR_INFO_DETAIL err.detail.toNat,
        .setFld F.ING_ERR_INFO_COUNT (min 255 err.count), .setFld F.ING_ERR_INFO_CODE err.code]),
    .when first (.raise 160),
    recordCause n (sceneReason code),
    .when first (sceneReport n 0)]

theorem afterErr_in (n : Fsn) (code : Nat) (first : Bool) : (afterErr n code first).Only (Act.In afterBlank fun _ => True) := by
  have hreport : (sceneReport n 0).Only (Act.In afterBlank fun _ => True) := by
    have hsend (src : BitVec 16) (body : List Byte) : (sendUnicast 2 1 src body).Only (Act.In afterBlank fun _ => True) :=
      (sendUnicast_in (by decide) (by decide) (by decide) 2 1 src body).in_mono fun _ _ => trivial
    intro s
    dsimp only
    split
    · trivial
    · simp [hsend, Act.In, Act.Within, mem_afterBlank]
  simp [afterErr, dropWork, recordCause, tryVote_in, hreport, Act.In, Act.Within, mem_afterBlank]

/-- An error counted in its frame, whose fill goes blank (R64, R195). -/
def countErr (n : Fsn) (f : Epoch → Epoch) : Prog :=
  .block [needEpoch n, modEpoch n f, modEpoch n (fun e => { e with fillBlank := true }),
    modFill n (fun f => { f with blank := true }.advance)]

theorem countErr_within (n : Fsn) (f : Epoch → Epoch) : (countErr n f).Only (Act.Within [.ing, .pdl] []) := by
  simp [countErr, needEpoch, modEpoch, modFill, Act.Within]

/-- An error in its frame (R64). -/
def Epoch.withErr (code detail : Nat) (first : Bool) (e : Epoch) : Epoch :=
  { e with
    err := { code := if first then code else e.err.code
             detail := if first then BitVec.ofNat 32 detail else e.err.detail
             count := satAdd (2 ^ 32 - 1) e.err.count 1 }
    st := e.st.onError
    workStop := true }

/-- The end of panic lies within every error (R172, R195). -/
theorem run_recordErr {s : State} {n : Fsn} (h : laterFsn n s.S = true) (code detail : Nat) :
    let first := ((((needEpoch n).run s).epoch n).getD {}).err.count == 0
    (recordErr n code detail).run s =
      (afterErr n code first).run (panicCheck.run ((countErr n (Epoch.withErr code detail first)).run s)) := by
  rw [recordErr, Prog.run_dyn, h, if_neg (by simp)]
  rfl

/-! ### The node -/

/-- A node that runs a trial and holds back a read of its bad line, with a fill of one frame on an engine. -/
def trialHolds : State :=
  { trialStore with
    dmc := { trialStore.dmc with held := [heldRead] }
    grv := { trialStore.grv with strips := [{ kind := .fill }] }
    pdl := { trialStore.pdl with fills := [{}] } }

theorem trialHolds_holdsBack : trialHolds.HoldsBack {} :=
  ⟨⟨rfl, rfl, (ptr_congr rfl).trans trialStore_inTrial.ptr⟩, rfl, rfl, rfl, rfl, rfl⟩

/-- Refutes O51: an error sends the fill of its frame blank; what the memory controller held back is served then, and a bad line
takes a trial back by a warm reset, which leaves no frame. -/
theorem not_packetsJudged : ¬ Obligations.PacketsJudged := by
  unfold Obligations.PacketsJudged
  intro h
  have hinv : trialHolds.Inv := ⟨rfl, rfl, rfl, rfl, rfl⟩
  obtain ⟨-, -, hdeadline, -⟩ := h trialHolds (.cardSet {} []) _ hinv rfl rfl (by rintro _ _ _ ⟨⟩)
  obtain ⟨hnone, -⟩ := hdeadline (trialHolds.S + 1) (by decide) (.inl rfl)
  obtain ⟨t, hexec, e, hepoch, -⟩ := hnone rfl
  let n := trialHolds.S + 1
  let v := (Prog.act (.ing (fun g => { g with
    preEpoch := g.preEpoch.map (fun h => if h.isFor n then { h with after := h.after ++ [(2, 0)] } else h)
    deferred := g.deferred.map (fun h => if h.isFor n then { h with after := h.after ++ [(2, 0)] } else h) }))).run trialHolds
  have hrun : exec (.sceneDeadline n) trialHolds = .next ((recordErr n 0x02 0).run v) := by
    refine (congrArg _ (Prog.go_awake _ trialHolds rfl)).trans ?_
    rfl
  have hv : Frame [.ing] [] trialHolds v := Act.frame_noRegs (a := .ing _) List.mem_cons_self _
  have hvc : v.Canon := hinv.canon.run _
  rw [hrun, run_recordErr (by decide)] at hexec
  generalize (((((needEpoch n).run v).epoch n).getD {}).err.count == 0) = first at hexec
  clear_value v
  have hcount := Prog.frame_noRegs _ _ (countErr_within n (Epoch.withErr 0x02 0 first)) v
  have hx := hvc.run (countErr n (Epoch.withErr 0x02 0 first))
  generalize (countErr n (Epoch.withErr 0x02 0 first)).run v = x at *
  have hspared : Spared [.ing, .pdl] (fun _ => False) trialHolds x :=
    Spared.of_frame ((hv.mono (by simp) (fun _ => id)).trans hcount) (by simp)
  obtain ⟨u, hptr, hfall⟩ := (trialHolds_holdsBack.of_spared hspared (by decide) (by decide) (by decide) id).run_panicCheck hx
    (by rw [show x.grv = trialHolds.grv from hspared.same .grv (by decide) (by decide) (by decide)]; rfl)
  have hw : (panicCheck.run x).ing = {} := by rw [hfall, Act.bus_ing, (ing_fallBack hptr).1]
  have hafter := (afterErr_in n 0x02 first).spared (hx.run panicCheck)
  generalize panicCheck.run x = w at *
  cases hexec
  have hing : ((afterErr n 0x02 first).run w).ing = {} := Eq.trans (hafter.same .ing (by decide) (by decide) (by decide)) hw
  rw [State.epoch, hing] at hepoch
  exact absurd hepoch (by simp)

/-! ### A poisoned strip (R173) -/

/-- What a poisoned strip leaves before its codes (R146, R173). -/
def poisonTold (st : Strip) (ray : Word) : Prog :=
  .block [.setReg R.GRV_POISON_RAY ray, .raise 227, modLatched st.fsn (fun l => { l with poisoned := true }),
    .act (.cmt (fun c => { c with causes := c.causes ++ [(st.fsn, 0x0202)] }))]

theorem run_poisonedStrip {s : State} (hnode : s.node = .sapling) (st : Strip) (i : Nat) :
    (poisonedStrip st i).run s = (poisonTold st (s.stripRay st i)).run s := by
  have hvote (u : State) (hu : u.node = .sapling) : tryVote.run u = u := by
    rw [tryVote, Prog.run_dyn, if_neg (by simp [hu])]
    rfl
  have hrun : (poisonedStrip st i).run s = tryVote.run ((poisonTold st (s.stripRay st i)).run s) := rfl
  rw [hrun]
  exact hvote _ hnode

/-- What a finished fill strip leaves before the end of panic (R139, R141, R225). -/
def stripStaged (n : Fsn) (high neg : Nat) (stage : Fill → Fill) (sums : Latched → Latched) : Prog :=
  .block [modFill n stage, modLatched n sums, countClamps high neg]

theorem run_fillStripDone {s : State} {st : Strip} {f : Fill} (hfill : s.fillOf st.fsn = some f) (black : Bool) :
    ∃ high neg stage sums, (fillStripDone st black).run s = panicCheck.run ((stripStaged st.fsn high neg stage sums).run s) := by
  rw [fillStripDone, Prog.run_dyn, hfill]
  exact ⟨_, _, _, _, rfl⟩

/-- The registers that a poisoned strip of grove 0 writes before the end of panic. -/
def stripRegs : List Nat :=
  [groveReg 0 8, groveReg 0 0x10, groveReg 0 0x14, R.GRV_POISON_RAY, F.COL_CLAMP_HIGH.off, F.COL_CLAMP_NEG.off]

/-- A strip leaves its engine (R146). -/
def stripEnded (off : Word) : Prog :=
  .block [
    .act (.grv (fun g => { g with strips := g.strips.filter (fun x => x.engine != 0) })),
    .setReg (groveReg 0 8) off,
    .count ⟨groveReg 0 0x10, 31, 0⟩ 0, .count ⟨groveReg 0 0x14, 31, 0⟩ 0]

theorem stripEnded_within (off : Word) : (stripEnded off).Only (Act.Within [.grv] stripRegs) := by
  simp [stripEnded, stripRegs, Act.Within]

theorem poisonTold_in (st : Strip) (ray : Word) : (poisonTold st ray).Only (Act.In [.freeCount, .pdl, .cmt] (· ∈ stripRegs)) := by
  simp [poisonTold, modLatched, stripRegs, Act.In, Act.Within]

theorem stripStaged_within (n : Fsn) (high neg : Nat) (stage : Fill → Fill) (sums : Latched → Latched) :
    (stripStaged n high neg stage sums).Only (Act.Within [.pdl] stripRegs) := by
  simp [stripStaged, modFill, modLatched, countClamps, stripRegs, Act.Within]

/-- Refutes O53: a poisoned strip ends panic where its group is complete; what the memory controller held back is served then,
and a bad line takes a trial back by a warm reset, which leaves no cause. -/
theorem not_tablesAndStripsRun : ¬ Obligations.TablesAndStripsRun := by
  unfold Obligations.TablesAndStripsRun
  intro h
  have hinv : trialHolds.Inv := ⟨rfl, rfl, rfl, rfl, rfl⟩
  obtain ⟨-, -, -, -, -, -, -, -, hpoison, -⟩ := h trialHolds hinv rfl
  let st : Strip := { kind := .fill }
  obtain ⟨t, hexec, -, -, hcause⟩ := hpoison 0 0 0 st 0 (by decide) rfl
  have hs := hinv.canon
  obtain ⟨off, hrun⟩ : ∃ off, exec (.stripComplete 0 (some 0) 0 0) trialHolds = .next ((synthCheck 0).run
      ((fillStripDone st true).run ((poisonedStrip st 0).run ((stripEnded off).run trialHolds)))) := by
    refine ⟨trialHolds.reg (groveReg 0 8) &&& ~~~(1#32 <<< 0), (congrArg _ (Prog.go_awake _ trialHolds rfl)).trans ?_⟩
    rw [Prog.run_dyn, show trialHolds.grv.strips.find? (fun x => x.engine == 0) = some st from rfl]
    dsimp only
    simp only [stripEnded, Prog.run_block_cons, Prog.run_block_nil]
    rfl
  have hended := (Prog.frame _ _ _ (stripEnded_within off) trialHolds hs).2
  have hu := hs.run (stripEnded off)
  have hquiet : ((stripEnded off).run trialHolds).grv.panics = [] := rfl
  generalize (stripEnded off).run trialHolds = u at *
  have hnode : u.node = .sapling := hended.1 .node (by decide) (by decide)
  rw [run_poisonedStrip hnode] at hrun
  have htold := (poisonTold_in st (u.stripRay st 0)).spared hu
  have hv := hu.run (poisonTold st (u.stripRay st 0))
  have hfill : ((poisonTold st (u.stripRay st 0)).run u).fillOf st.fsn = some {} := by
    show u.fillOf st.fsn = some {}
    rw [State.fillOf, show u.pdl = trialHolds.pdl from hended.1 .pdl (by decide) (by decide)]
    rfl
  generalize (poisonTold st (u.stripRay st 0)).run u = v at *
  obtain ⟨high, neg, stage, sums, hdone⟩ := run_fillStripDone hfill true
  rw [hdone] at hrun
  have hstaged := (Prog.frame _ _ _ (stripStaged_within st.fsn high neg stage sums) v hv).2
  have hx := hv.run (stripStaged st.fsn high neg stage sums)
  generalize (stripStaged st.fsn high neg stage sums).run v = x at *
  have hspared : Spared [.grv, .freeCount, .pdl, .cmt] (· ∈ stripRegs) trialHolds x :=
    ((Spared.of_frame hended fun _ => id).mono (by simp) fun _ => id).trans
      ((htold.mono (by simp) fun _ => id).trans ((Spared.of_frame hstaged fun _ => id).mono (by simp) fun _ => id))
  have hpanics : x.grv.panics = [] := by
    rw [show x.grv = v.grv from hstaged.1 .grv (by decide) (by decide),
      show v.grv = u.grv from htold.same .grv (by decide) (by decide) (by decide), hquiet]
  obtain ⟨w, hptr, hfall⟩ :=
    (trialHolds_holdsBack.of_spared hspared (by decide) (by decide) (by decide) (by decide)).run_panicCheck hx hpanics
  obtain ⟨hing, hcmt⟩ := ing_fallBack hptr
  rw [hfall] at hrun
  have hnone : (synthCheck 0).run ((Act.bus { data := [], error := true }).apply (fallBack.run w)) =
      (Act.bus { data := [], error := true }).apply (fallBack.run w) := by
    have hepoch : ((Act.bus { data := [], error := true }).apply (fallBack.run w)).epoch 0 = none := by
      rw [State.epoch, Act.bus_ing, hing]
      rfl
    rw [synthCheck, Prog.run_dyn, hepoch]
    rfl
  rw [hnone, hexec] at hrun
  cases hrun
  rw [Act.bus_cmt, hcmt] at hcause
  exact absurd hcause (by simp)

end Sys2Proof.Machine
end

section
/-! PROOF. O57 and O58: what a refused client and a read leave of the sessions and of the router (R373, R493, R508). -/

namespace Sys2Proof.Machine

/-! ### A refusal that the router discards -/

/-- A node without a coordinate that holds eight sessions, each subscribed to every event, and sends discards to PMP. -/
def crowdedNode : State :=
  (Prog.setReg (R.CPX_EV_ROUTE 70) 0x1000).run { State.reset with
    lc := .field
    ctl := { State.reset.ctl with
      sessions := (List.range 8).map fun i => { id := i, opened := true, subMask := BitVec.allOnes 640 }
      nextSession := 8 } }

/-- How many event records each session holds after a command. -/
def queuedAfter (c : Instr) (s : State) : Option (List Nat) :=
  match exec c s with
  | .next t => some (t.ctl.sessions.map fun q => q.events.length)
  | _ => none

/-- A ninth client that says HELLO over the fabric. -/
def ninthHello : Instr := .pmpHello (some (0, 0)) false [] [] 0

theorem queuedAfter_ninthHello : queuedAfter ninthHello crowdedNode = some (List.replicate 8 1) := by decide +kernel

/-- Refutes O57: the refusal of a ninth client over the fabric is discarded where the node has no coordinate, and the event of
that discard is queued for the sessions that subscribed to it (R373, R493). -/
theorem not_hostSessionsRun : ¬ Obligations.HostSessionsRun := by
  unfold Obligations.HostSessionsRun
  intro h
  have hinv : crowdedNode.Inv := ⟨by decide +kernel, by decide +kernel, by decide +kernel, by decide +kernel, by decide +kernel⟩
  obtain ⟨-, -, -, -, -, hhello, -⟩ := h crowdedNode hinv (by unfold State.Awake; decide +kernel)
  obtain ⟨hfull, -⟩ := hhello (some (0, 0)) false [] [] 0 (by decide +kernel) (by decide +kernel) (by decide +kernel)
  obtain ⟨t, hexec, hsessions, -⟩ := hfull (by decide +kernel)
  have hqueued : queuedAfter ninthHello crowdedNode = some (t.ctl.sessions.map fun q => q.events.length) := by
    rw [queuedAfter, ninthHello, hexec]
  rw [queuedAfter_ninthHello, hsessions] at hqueued
  exact absurd hqueued (by decide +kernel)

/-! ### A read of the router's first discard -/

/-- A node with one open session, whose router has told of a discard. -/
def toldNode : State :=
  { State.reset with
    fab := { State.reset.fab with firstTold := true }
    ctl := { State.reset.ctl with sessions := [{ opened := true }] } }

/-- Whether the router has told of a discard, after a command. -/
def toldAfter (c : Instr) (s : State) : Option Bool :=
  match exec c s with
  | .next t => some t.fab.firstTold
  | _ => none

theorem toldAfter_regRead : toldAfter (.regRead {} R.FAB_DISCARD 1) toldNode = some false := by decide +kernel

/-- Refutes O58: REG_READ of FAB_DISCARD has the router tell of the next discard again, so that more than the register has
changed (R373, Table 12.14). -/
theorem not_servicesAnswer : ¬ Obligations.ServicesAnswer := by
  unfold Obligations.ServicesAnswer
  intro h
  have hinv : toldNode.Inv := ⟨rfl, rfl, rfl, rfl, rfl⟩
  obtain ⟨-, -, hasks⟩ := h toldNode {} hinv rfl
  obtain ⟨-, -, -, -, hread, -⟩ := hasks ⟨{ opened := true }, rfl, rfl, rfl, rfl, rfl⟩
  obtain ⟨t, hexec, -, hplain⟩ := hread R.FAB_DISCARD (by decide)
  obtain ⟨-, hframe⟩ := hplain (by decide) (by decide) (by decide) (by decide) (by decide) (by decide)
  have hkept : t.fab = toldNode.fab := hframe.1 .fab (by decide) (by decide)
  have htold : toldAfter (.regRead {} R.FAB_DISCARD 1) toldNode = some t.fab.firstTold := by rw [toldAfter, hexec]
  rw [toldAfter_regRead, hkept] at htold
  exact absurd htold (by decide)

end Sys2Proof.Machine
end

section
/-! PROOF. Requests of an open session, and messages that leave by one port (R491, R493, R509 to R512). -/

namespace Sys2Proof.Machine

/-! ### Sessions -/

theorem session_modSession (s : State) (id : Nat) {f : PmpSession → PmpSession} (hid : ∀ q, (f q).id = q.id)
    (hop : ∀ q, (f q).opened = q.opened) : ((modSession id f).run s).session id = (s.session id).map f := by
  refine (find_session_map s.ctl.sessions id (f := fun q => if q.id = id then f q else q)
    (fun q => by split <;> simp [hid]) (fun q => by split <;> simp [hop])).trans ?_
  show Option.map _ (s.session id) = _
  cases hq : s.session id with
  | none => rfl
  | some q =>
    have hsome := List.find?_some hq
    have hqid : q.id = id := by simp at hsome; exact hsome.1
    simp [hqid]

theorem State.session_congr {s t : State} (h : t.ctl.sessions = s.ctl.sessions) (id : Nat) : t.session id = s.session id := by
  rw [State.session, h, State.session]

/-- A session that subscribes to nothing is not touched by an event (R493). -/
theorem session_raiseAt {s : State} {id : Nat} {q : PmpSession} (h : s.session id = some q) (hsub : q.subMask = 0) (e : Nat)
    (t : Time) : ((Prog.raiseAt e t).run s).session id = some q :=
  quietKept_raised s e t id q h hsub

theorem State.Asks.congr {s t : State} {req : PmpCtx} (h : s.Asks req) (hss : t.ctl.sessions = s.ctl.sessions) : t.Asks req := by
  obtain ⟨q, hq, hrest⟩ := h
  exact ⟨q, (State.session_congr hss _).trans hq, hrest⟩

theorem State.Asks.raiseAt {s : State} {req : PmpCtx} (h : s.Asks req) (e : Nat) (t : Time) : ((Prog.raiseAt e t).run s).Asks req := by
  obtain ⟨q, hq, hg, hr, he, hsub⟩ := h
  exact ⟨q, session_raiseAt hq hsub e t, hg, hr, he, hsub⟩

theorem State.Asks.raise {s : State} {req : PmpCtx} (h : s.Asks req) (e : Nat) : ((Prog.raise e).run s).Asks req :=
  State.Asks.raiseAt (s := (Act.free 1).apply s) (h.congr rfl) e _

theorem QuietKept.trans {l l' l'' : List PmpSession} (h : QuietKept l l') (h' : QuietKept l' l'') : QuietKept l l'' :=
  fun id q hq hsub => h' id q (h id q hq hsub) hsub

/-- Acts that raise events at most leave an open session that subscribes to nothing (R493). -/
theorem Prog.Only.quietKept {parts : List Part} {P : Nat → Prop} {p : Prog} (hp : p.Only (Act.In parts P))
    (hctl : Part.ctl ∉ parts) (s : State) : QuietKept s.ctl.sessions (p.run s).ctl.sessions := by
  refine Prog.run_keeps (fun t => QuietKept s.ctl.sessions t.ctl.sessions) (fun a t ha ht => ?_) p hp s fun _ _ h _ => h
  have hother : (∀ f, a ≠ .ctl f) → (∀ w, a ≠ .reset w) → (a.apply t).ctl = t.ctl := by
    intro hf hr
    cases a with
    | ctl f => exact absurd rfl (hf f)
    | reset w => exact absurd rfl (hr w)
    | node | lifecycle | fuseVersion | fuseInitial | extend =>
      rw [Act.apply]
      split <;> rfl
    | _ => rfl
  cases a with
  | ctl f =>
    obtain ⟨pd, ss, hf, hkept⟩ := (ha.resolve_left hctl) t.ctl
    refine ht.trans ?_
    rw [show ((Act.ctl f).apply t).ctl = f t.ctl from rfl, hf]
    exact hkept
  | reset w => exact absurd ha (by simp [Act.In, Act.Within])
  | _ =>
    rw [hother (by simp) (by simp)]
    exact ht

theorem State.Asks.of_quietKept {s t : State} {req : PmpCtx} (h : s.Asks req) (hk : QuietKept s.ctl.sessions t.ctl.sessions) :
    t.Asks req := by
  obtain ⟨q, hq, hg, hr, he, hsub⟩ := h
  exact ⟨q, hk _ q hq hsub, hg, hr, he, hsub⟩

/-! ### Requests and answers -/

/-- An open session that has no request waiting is served at once (R507, R511). -/
theorem run_service {s : State} {req : PmpCtx} (h : s.Asks req) (svc : Nat) (p : Prog) : (service svc req p).run s = p.run s := by
  obtain ⟨q, hq, hg, hr, -⟩ := h
  have hwait : q.mustWait svc req.reqId = false := by simp [PmpSession.mustWait, hr]
  rw [service, Prog.run_dyn, hq]
  dsimp only
  rw [Prog.run_when, hwait, hg]
  rfl

/-- What an answer leaves (R510). -/
structure Replied (req : PmpCtx) (status : Nat) (body : List Byte) (s t : State) : Prop where
  out : Answered req status body s t
  ctl : ∃ ss, t.ctl = { s.ctl with sessions := ss }
  frame : Frame [.ctl, .out] [] s t

theorem run_respond {s : State} {req : PmpCtx} (h : s.Asks req) (status : Nat) (body : List Byte) :
    Replied req status body s ((respond req status body).run s) := by
  obtain ⟨q, hq, hg, hr, he, hsub⟩ := h
  have hasked : (s.session req.session).bind (fun q => q.reqs.find? (fun r => r.reqId == req.reqId)) = none := by
    rw [hq]
    simp [hr]
  let f : PmpSession → PmpSession := fun q => { q with
    reqs := q.reqs.filter (fun r => r.reqId != req.reqId), lastAt := max q.lastAt req.stamp }
  have hmod : ((modSession req.session f).run s).session req.session = some (f q) := by
    rw [session_modSession s req.session (f := f) (fun _ => rfl) (fun _ => rfl), hq]
    rfl
  have hrun : (respond req status body).run s = (Act.out (.response req.session req.reqId (BitVec.ofNat 16 status) body)).apply
      ((modSession req.session f).run s) := by
    rw [respond, Prog.run_dyn]
    dsimp only
    rw [hasked]
    simp only [Prog.run_block_cons, Prog.run_block_nil, Prog.run_nil, Prog.run_send]
    rw [sendEvents, Prog.run_dyn]
    have hsess : ((Act.out (.response req.session req.reqId (BitVec.ofNat 16 status) body)).apply
        ((modSession req.session f).run s)).session req.session = some (f q) := hmod
    rw [hsess]
    dsimp only
    rw [Prog.run_when, if_neg (by simp [f, he])]
  rw [hrun]
  exact ⟨rfl, ⟨_, rfl⟩, Prog.frame_noRegs _ (.seq (modSession req.session f) (.send _)) (by simp [modSession, Act.Within]) s⟩

section
variable {req : PmpCtx} {status : Nat} {body : List Byte} {s u t : State} {parts : List Part} {offs : List Nat}

/-- An answer after something that sent nothing. -/
theorem Replied.answered (h : Replied req status body u t) (hf : Frame parts offs s u) (hout : Part.out ∉ parts) :
    Answered req status body s t :=
  h.out.trans (congrArg _ (hf.1 .out hout (by decide)))

theorem Replied.after (h : Replied req status body u t) (hf : Frame parts offs s u) : Frame (.ctl :: .out :: parts) offs s t :=
  (hf.mono (fun _ hp => .tail _ (.tail _ hp)) fun _ => id).trans
    (h.frame.mono (by simp) (by simp))

theorem Replied.pended {e : Nat} (h : Replied req status body u t) (hp : Pended e s u) : Pended e s t := by
  obtain ⟨ss, hctl⟩ := h.ctl
  rw [Pended, hctl]
  exact hp

end

/-- An answer where no session is open (log entry 34). -/
theorem run_respond_none {s : State} {req : PmpCtx} (h : s.session req.session = none) (status : Nat) (body : List Byte) :
    Replied req status body s ((respond req status body).run s) := by
  let f : PmpSession → PmpSession := fun q => { q with
    reqs := q.reqs.filter (fun r => r.reqId != req.reqId), lastAt := max q.lastAt req.stamp }
  have hmod : ((modSession req.session f).run s).session req.session = none := by
    rw [session_modSession s req.session (f := f) (fun _ => rfl) (fun _ => rfl), h]
    rfl
  have hrun : (respond req status body).run s = (Act.out (.response req.session req.reqId (BitVec.ofNat 16 status) body)).apply
      ((modSession req.session f).run s) := by
    rw [respond, Prog.run_dyn, h]
    simp only [Option.bind_none, Prog.run_block_cons, Prog.run_block_nil, Prog.run_nil, Prog.run_send]
    rw [sendEvents, Prog.run_dyn]
    have hsess : ((Act.out (.response req.session req.reqId (BitVec.ofNat 16 status) body)).apply
        ((modSession req.session f).run s)).session req.session = none := hmod
    rw [hsess]
    rfl
  rw [hrun]
  exact ⟨rfl, ⟨_, rfl⟩, Prog.frame_noRegs _ (.seq (modSession req.session f) (.send _)) (by simp [modSession, Act.Within]) s⟩

theorem State.Asks.awake_service {s : State} {req : PmpCtx} (h : s.Asks req) (hawake : s.Awake) (svc : Nat) (p : Prog) :
    (service svc req p).go s = p.run s := (Prog.go_awake _ s hawake).trans (run_service h svc p)

/-! ### Routes -/

/-- Two fabrics route alike: coordinate, ports, links and guests are the same (R358, R366). -/
structure State.RoutesAlike (s t : State) : Prop where
  coord : t.fab.coord = s.fab.coord
  ports : t.fab.ports = s.fab.ports
  links : t.fab.links = s.fab.links
  guests : t.fab.guests = s.fab.guests

section
variable {s t : State} (h : s.RoutesAlike t)
include h

theorem State.RoutesAlike.port (p : Nat) : t.port p = s.port p := by rw [State.port, h.ports, State.port]

theorem State.RoutesAlike.linkUsable (x y p : Nat) : t.linkUsable x y p = s.linkUsable x y p := by
  rw [State.linkUsable, h.port, h.links, State.linkUsable]

theorem State.RoutesAlike.pathUsable (n : Nat) (own : Bool) (x y tx ty : Nat) :
    pathUsable t n own x y tx ty = pathUsable s n own x y tx ty := by
  induction n generalizing own x y with
  | zero => rfl
  | succ n ih => simp only [Machine.pathUsable, h.linkUsable, h.links, ih]

theorem State.RoutesAlike.findDetour (x y p : Nat) (l : List Int) : findDetour t x y p l = findDetour s x y p l := by
  induction l with
  | nil => rfl
  | cons k l ih => simp only [Machine.findDetour, h.pathUsable, ih]

theorem State.RoutesAlike.routeTo (x y tx ty : Nat) (pkt : XtfPacket) (here : Hop) :
    routeTo t x y tx ty pkt here = routeTo s x y tx ty pkt here := by
  simp only [Machine.routeTo, h.linkUsable, h.findDetour]

theorem State.RoutesAlike.routeUnicast (x y : Nat) (pkt : XtfPacket) : routeUnicast t x y pkt = routeUnicast s x y pkt := by
  simp only [Machine.routeUnicast, State.guestEntry, h.port, h.guests, h.routeTo]

theorem State.RoutesAlike.routeHops {pkt : XtfPacket} (hmode : pkt.mode = 0) : routeHops t pkt = routeHops s pkt := by
  simp only [Machine.routeHops, State.here, h.coord, hmode, h.routeUnicast, if_true]

end

/-- A hop of a packet that has another payload. -/
def Hop.withPayload (payload : List Byte) : Hop → Hop
  | .deliver pkt => .deliver { pkt with payload := payload }
  | .send p pkt => .send p { pkt with payload := payload }
  | .discard code src => .discard code src

/-- The rest of the way of a packet whose waypoint, if it has one, lies elsewhere (R358). -/
def onward (s : State) (x y tx ty : Nat) (pkt : XtfPacket) (here : Hop) : Hop :=
  let gx := if pkt.detoured then addrX pkt.waypoint else tx
  let gy := if pkt.detoured then addrY pkt.waypoint else ty
  if x = gx ∧ y = gy then (if pkt.detoured then .discard 0x08 pkt.src else here)
  else if s.linkUsable x y (firstStep pkt.detoured x y gx gy) then .send (firstStep pkt.detoured x y gx gy) pkt
  else ((findDetour s x y (firstStep pkt.detoured x y gx gy) detourOffsets).map fun w =>
    Hop.send (firstStep true x y w.1 w.2) { pkt with detoured := true, waypoint := nodeAddr w.1 w.2 }).getD (.discard 0x08 pkt.src)

theorem routeTo_eq (s : State) (x y tx ty : Nat) (pkt : XtfPacket) (here : Hop) :
    routeTo s x y tx ty pkt here = onward s x y tx ty (clearHere x y pkt) here := by
  unfold routeTo onward clearHere
  dsimp only
  cases hclear : (pkt.detoured && pkt.waypoint == nodeAddr x y) <;> simp only [Bool.false_eq_true, if_false, if_true]
  · generalize findDetour s x y _ detourOffsets = w
    cases w <;> rfl
  · generalize findDetour s x y _ detourOffsets = w
    cases w <;> rfl

theorem clearHere_payload (x y : Nat) (pkt : XtfPacket) (l : List Byte) :
    clearHere x y { pkt with payload := l } = { clearHere x y pkt with payload := l } := by
  unfold clearHere
  dsimp only
  split <;> rfl

theorem onward_payload (s : State) (x y tx ty : Nat) (pkt : XtfPacket) (here : Hop) (l : List Byte) :
    onward s x y tx ty { pkt with payload := l } (here.withPayload l) = (onward s x y tx ty pkt here).withPayload l := by
  unfold onward
  dsimp only
  cases findDetour s x y _ detourOffsets <;> split_ifs <;> rfl

theorem routeTo_payload (s : State) (x y tx ty : Nat) (pkt : XtfPacket) (here : Hop) (l : List Byte) :
    routeTo s x y tx ty { pkt with payload := l } (here.withPayload l) = (routeTo s x y tx ty pkt here).withPayload l := by
  rw [routeTo_eq, routeTo_eq, clearHere_payload, onward_payload]

theorem routeUnicast_payload (s : State) (x y : Nat) (pkt : XtfPacket) (l : List Byte) :
    routeUnicast s x y { pkt with payload := l } = (routeUnicast s x y pkt).withPayload l := by
  unfold routeUnicast
  dsimp only
  rw [clearHere_payload]
  split
  · split
    · rfl
    · rw [← routeTo_payload]
      split <;> rfl
  · exact routeTo_payload s _ _ _ _ pkt (.deliver (clearHere x y pkt)) l

theorem routeHops_unicast {s : State} {a : BitVec 16} (hhere : s.here = some a) {pkt : XtfPacket} (hmode : pkt.mode = 0) :
    routeHops s pkt = [routeUnicast s (addrX a) (addrY a) pkt] := by
  have h4 : ¬ pkt.mode = 4 := by rw [hmode]; decide
  rw [routeHops, if_neg h4, hhere]
  dsimp only
  rw [if_pos hmode]

/-- The payload of a packet does not tell where it goes (R358). -/
theorem routeHops_payload {s : State} {pkt : XtfPacket} (hmode : pkt.mode = 0) {p : Nat}
    (hroute : routeHops s pkt = [.send p pkt]) (l : List Byte) :
    routeHops s { pkt with payload := l } = [.send p { pkt with payload := l }] := by
  cases hhere : s.here with
  | none =>
    have h4 : ¬ pkt.mode = 4 := by rw [hmode]; decide
    rw [routeHops, if_neg h4, hhere] at hroute
    simp at hroute
  | some a =>
    rw [routeHops_unicast hhere hmode, List.singleton_inj] at hroute
    rw [routeHops_unicast hhere (pkt := { pkt with payload := l }) hmode, routeUnicast_payload, hroute, Hop.withPayload]

/-! ### Messages that leave by one port -/

theorem State.LeavesBy.congr {s t : State} {p cls proto : Nat} {dst : BitVec 16} {payload : List Byte}
    (h : s.LeavesBy p cls proto dst payload) (hfab : t.fab = s.fab) : t.LeavesBy p cls proto dst payload := by
  have halike : s.RoutesAlike t := ⟨by rw [hfab], by rw [hfab], by rw [hfab], by rw [hfab]⟩
  have hpkt : t.newPacket cls 0 proto false (BitVec.ofNat 32 dst.toNat) payload =
      s.newPacket cls 0 proto false (BitVec.ofNat 32 dst.toNat) payload := by
    simp only [State.newPacket, State.here, hfab]
  obtain ⟨hlen, hp, hcarries, hroute, hqueue, hroom, hcredits⟩ := h
  refine ⟨by rw [hfab]; exact hlen, hp, ?_, ?_, ?_, ?_, ?_⟩
  · rwa [halike.port]
  · rw [hpkt, halike.routeHops rfl, hroute]
  · rwa [halike.port]
  · rwa [halike.port]
  · rwa [hpkt, halike.port]

theorem State.left_congr {s t : State} (hfab : t.fab = s.fab) (p cls proto : Nat) (dst : BitVec 16) (payload : List Byte) :
    t.left p cls proto dst payload = s.left p cls proto dst payload := by
  simp only [State.left, State.newPacket, State.here, State.port, hfab]

theorem State.LeavesBy.payload {s : State} {p cls proto : Nat} {dst : BitVec 16} {payload l : List Byte}
    (h : s.LeavesBy p cls proto dst payload) (hl : l.length = payload.length) : s.LeavesBy p cls proto dst l := by
  obtain ⟨hlen, hp, hcarries, hroute, hqueue, hroom, hcredits⟩ := h
  have hpkt : s.newPacket cls 0 proto false (BitVec.ofNat 32 dst.toNat) l =
      { s.newPacket cls 0 proto false (BitVec.ofNat 32 dst.toNat) payload with payload := l } := by
    simp only [State.newPacket, hl]
  refine ⟨hlen, hp, hcarries, ?_, hqueue, hroom, ?_⟩
  · rw [hpkt]
    exact routeHops_payload rfl hroute l
  · rw [hpkt]
    exact hcredits

/-- A unicast packet of a reliable class whose route and port are clear leaves at once (R352, R353, R358). -/
theorem run_sendUnicast_leaves {s : State} (hs : s.Canon) {p cls proto : Nat} (hcls : 0 < cls ∧ cls < 4) {dst : BitVec 16}
    {payload : List Byte} (h : s.LeavesBy p cls proto dst payload) : let u := (sendUnicast cls proto dst payload).run s
    u.out = s.left p cls proto dst payload :: s.out ∧ Frame [.fab, .out] [(F.FAB_P_TX_COUNT p).off] s u := by
  obtain ⟨hlen, hp, hcarries, hroute, hqueue, hroom, hcredits⟩ := h
  obtain ⟨hpos, hlt⟩ := hcls
  let k := s.newPacket cls 0 proto false (BitVec.ofNat 32 dst.toNat) payload
  let v := (bumpSrcSeq cls).run s
  have halike : s.RoutesAlike v := ⟨rfl, rfl, rfl, rfl⟩
  have hnat : k.cls.toNat = cls := by
    show (BitVec.ofNat 2 cls).toNat = cls
    rw [BitVec.toNat_ofNat]
    omega
  have hrun : (sendUnicast cls proto dst payload).run s =
      (dispatchHops 6 k.cls.toNat (creditsOf k) false [.send p k]).run v := by
    have hv : routeHops v k = [.send p k] := (halike.routeHops rfl).trans hroute
    rw [← hv]
    rfl
  have hidle : (v.port p).Idle k := by
    rw [halike.port]
    exact ⟨hcarries, hqueue, .inr hroom, by rw [hnat]; exact hcredits⟩
  obtain ⟨hout, -, -, hframe⟩ := run_dispatchHops_send (hs.run _) (by rw [halike.ports, hlen]; exact hp) hidle k.cls.toNat (creditsOf k)
  have hbump : Frame [.fab] [] s v := Prog.frame_noRegs _ _ (by simp [bumpSrcSeq, Act.Within]) s
  intro u
  rw [← hrun] at hout hframe
  refine ⟨?_, (hbump.mono (by simp) (by simp)).trans hframe⟩
  refine hout.trans (congrArg₂ List.cons ?_ (hbump.1 .out (by decide) (by decide)))
  have hne : ¬ k.cls.toNat = 0 := by omega
  rw [State.left, halike.port, Port.numbered, if_neg hne]

/-- A unicast packet of this node to itself stays here (R358). -/
theorem run_sendUnicast_self {s : State} {a : BitVec 16} (hhere : s.here = some a) (hg : isGuest a = false) {cls proto : Nat}
    {payload : List Byte} (hok : messageOk (s.newPacket cls 0 proto false (BitVec.ofNat 32 a.toNat) payload) = true)
    (hcls : BitVec.ofNat 2 cls ≠ 2) : (sendUnicast cls proto a payload).run s =
      (Act.out (s.selfPacket 0 cls 0 proto false a payload)).apply ((Act.fab (fun b => b.originated cls)).apply s) := by
  have hdst : BitVec.ofNat 16 (BitVec.ofNat 32 a.toNat).toNat = a := by
    have := a.isLt
    rw [BitVec.toNat_ofNat, Nat.mod_eq_of_lt (by omega)]
    simp
  have hroute : routeHops ((bumpSrcSeq cls).run s) (s.newPacket cls 0 proto false (BitVec.ofNat 32 a.toNat) payload) =
      [.deliver (s.newPacket cls 0 proto false (BitVec.ofNat 32 a.toNat) payload)] :=
    routeHops_self (a := a) hhere hg rfl hdst rfl
  have hself : s.selfPacket 0 cls 0 proto false a payload =
      .deliver (s.newPacket cls 0 proto false (BitVec.ofNat 32 a.toNat) payload) := by
    rw [State.selfPacket, State.newPacket]
    simp
  rw [sendUnicast, run_originate_deliver hroute, run_deliverPacket hok hcls, hself]

/-- A stream of one piece is one packet (R509). -/
theorem run_sendPieces_single {bytes : List Byte} (hpos : 0 < bytes.length) (hlen : bytes.length ≤ 2040) (proto : Nat)
    (dst stream : BitVec 16) (s : State) : (sendPieces proto dst stream 0 true bytes).run s =
      (sendUnicast 3 proto dst (streamPayload stream 2 0 bytes)).run s := by
  have hone : (bytes.length + 2039) / 2040 = 1 := by omega
  have hpieces : streamPieces 0 bytes = [(0, bytes)] := by
    rw [streamPieces, hone]
    simp [List.take_of_length_le hlen]
  rw [sendPieces, hpieces, Prog.run_each_cons, Prog.run_each_nil]
  simp

/-- A message of one piece on a stream of its own leaves at once (R509). -/
theorem run_streamOut_leaves {s : State} (hs : s.Canon) {p proto : Nat} {dst : BitVec 16} {bytes : List Byte}
    (hpos : 0 < bytes.length) (hlen : bytes.length ≤ 2040)
    (h : s.LeavesBy p 3 proto dst (streamPayload s.ctl.nextStream 2 0 bytes)) : let u := (streamOut proto dst bytes).run s
    u.out = s.left p 3 proto dst (streamPayload s.ctl.nextStream 2 0 bytes) :: s.out ∧
      u.ctl = { s.ctl with nextStream := s.ctl.nextStream + 1 } ∧ Frame [.fab, .ctl, .out] [(F.FAB_P_TX_COUNT p).off] s u := by
  let v := (Act.ctl (fun c => { c with nextStream := c.nextStream + 1 })).apply s
  have hrun : (streamOut proto dst bytes).run s =
      (sendUnicast 3 proto dst (streamPayload s.ctl.nextStream 2 0 bytes)).run v :=
    run_sendPieces_single hpos hlen proto dst s.ctl.nextStream v
  have hv : Frame [.ctl] [] s v := Act.frame_noRegs (a := .ctl _) List.mem_cons_self s
  obtain ⟨hout, hframe⟩ := run_sendUnicast_leaves (hs.apply _) (by decide) (h.congr (t := v) rfl)
  intro u
  rw [← hrun] at hout hframe
  refine ⟨hout.trans ?_, hframe.1 .ctl (by decide) (by decide), (hv.mono (by simp) (by simp)).trans (hframe.mono (by simp) (by simp))⟩
  rw [State.left_congr (t := v) rfl]
  rfl

end Sys2Proof.Machine
end

section
/-! PROOF. O59: quotes, the verification of a Sapling and the life cycle (R515 to R519, R522, R523). -/

namespace Sys2Proof.Machine

variable {s : State}

/-! ### Quotes (R522) -/

theorem completes_quoteRequest_badNonce (req : PmpCtx) (src : BitVec 16 × BitVec 16) {nonce : List Byte} (h : nonce.length ≠ 64) :
    Completes (.quoteRequest req (some src) nonce) s (fun t => t = s) := by
  refine .of_go_self rfl ?_
  rw [Prog.run_dyn, Prog.run_when, if_neg (by simpa using h)]

/-- A quote goes out to the fabric address that asked. -/
theorem run_quoteRequest (src : BitVec 16 × BitVec 16) {nonce : List Byte} (h : nonce.length = 64) (s : State) :
    (Prog.dyn (fun s => .when (nonce.length == 64)
        (sendPieces 7 src.1 src.2 0 true (if lcQuotes s.lc then s.quote nonce else leBytes 2 0x0A03)))).run s =
      (sendPieces 7 src.1 src.2 0 true (if lcQuotes s.lc then s.quote nonce else leBytes 2 0x0A03)).run s := by
  rw [Prog.run_dyn, Prog.run_when, if_pos (by simpa using h)]

theorem completes_quoteRequest_fabric (hawake : s.Awake) (req : PmpCtx) (src : BitVec 16 × BitVec 16) {nonce : List Byte}
    (h : nonce.length = 64) (hlc : lcQuotes s.lc = true) : Completes (.quoteRequest req (some src) nonce) s (fun t =>
      t = (sendPieces 7 src.1 src.2 0 true (s.quote nonce)).run s) := by
  refine .of_go rfl hawake ?_
  rw [run_quoteRequest src h, if_pos hlc]

theorem completes_quoteRequest_fabricRefused (hs : s.Canon) (hawake : s.Awake) (req : PmpCtx) (src : BitVec 16 × BitVec 16)
    {nonce : List Byte} {p : Nat} (h : nonce.length = 64) (hlc : lcQuotes s.lc = false)
    (hleaves : s.LeavesBy p 3 7 src.1 (streamPayload src.2 2 0 (leBytes 2 0x0A03))) :
    Completes (.quoteRequest req (some src) nonce) s (fun t =>
      t.out = s.left p 3 7 src.1 (streamPayload src.2 2 0 (leBytes 2 0x0A03)) :: s.out ∧
      Frame [.fab, .out] [(F.FAB_P_TX_COUNT p).off] s t) := by
  refine .of_go rfl hawake ?_
  rw [run_quoteRequest src h, if_neg (by simp [hlc]), run_sendPieces_single (by simp) (by simp)]
  exact run_sendUnicast_leaves hs (by decide) hleaves

theorem completes_quoteRequest_service (hawake : s.Awake) {req : PmpCtx} (hasks : s.Asks req) {nonce : List Byte}
    (h : nonce.length = 64) : Completes (.quoteRequest req none nonce) s (fun t =>
      if lcQuotes s.lc then Replied req 0 (s.quote nonce) s t else Replied req 0x0A03 [] s t) := by
  refine .of_go rfl hawake ?_
  rw [run_service hasks, Prog.run_dyn, if_neg (not_not.2 h)]
  cases hlc : lcQuotes s.lc
  · exact run_respond hasks _ _
  · exact run_respond hasks _ _

/-! ### The verification of a Sapling (R523) -/

theorem completes_saplingVerify_none {port : Nat} (stamp : Time) (h : s.verifies port = false) :
    Completes (.saplingVerify port stamp) s (fun t => t = s) := by
  refine .of_go_self rfl ?_
  rw [Prog.run_guard, if_neg (by simp [h])]

theorem length_streamPayload (stream : BitVec 16) (flags offset : Nat) {l l' : List Byte} (h : l.length = l'.length) :
    (streamPayload stream flags offset l).length = (streamPayload stream flags offset l').length := by
  simp [streamPayload, h]

/-- A fresh nonce goes to the Sapling beyond a port. -/
theorem completes_saplingVerify (hs : s.Canon) (hawake : s.Awake) {port p : Nat} (stamp : Time) {b : BitVec 16}
    (hverifies : s.verifies port = true) (hb : s.partnerAddr port = some b)
    (hleaves : s.LeavesBy p 3 7 b (streamPayload s.ctl.nextStream 2 0 (List.replicate 64 0))) :
    Completes (.saplingVerify port stamp) s (fun t => (∃ n : List Byte, n.length = 64 ∧
      t.sec = { s.sec with attest := putKey port (n, stamp) s.sec.attest } ∧
      t.out = s.left p 3 7 b (streamPayload s.ctl.nextStream 2 0 n) :: s.out) ∧
      Frame [.sec, .fab, .ctl, .out, .freeCount] [(F.FAB_P_TX_COUNT p).off] s t) := by
  let n : List Byte := (List.range 64).map (fun i => Config.randomByte (s.freeCount + i))
  have hn : n.length = 64 := by simp [n]
  let pre : Prog := .seq (.act (.free 64)) (.act (.sec (fun x => { x with attest := putKey port (n, stamp) x.attest })))
  let v := pre.run s
  have hv : Frame [.sec, .freeCount] [] s v := Prog.frame_noRegs _ pre (by simp [pre, Act.Within]) s
  obtain ⟨hout, -, hframe⟩ := run_streamOut_leaves (s := v) (hs.run pre) (by rw [hn]; decide) (by rw [hn]; decide)
    ((hleaves.congr (t := v) rfl).payload (length_streamPayload _ _ _ (hn.trans (by simp))))
  refine .of_go rfl hawake ?_
  rw [Prog.run_guard, if_pos hverifies, Prog.withRandom, Prog.run_dyn, Prog.run_seq, Prog.run_act, Prog.run_dyn,
    show ((Act.free 64).apply s).partnerAddr port = some b from hb]
  refine ⟨⟨n, hn, hframe.1 .sec (by decide) (by decide), hout.trans ?_⟩,
    (hv.mono (by simp) (by simp)).trans (hframe.mono (by simp) (by simp))⟩
  rw [State.left_congr (t := v) rfl]
  rfl

theorem lookup_filter_ne {β : Type} (l : List (Nat × β)) (k : Nat) : (l.filter (fun e => e.1 != k)).lookup k = none := by
  rw [List.lookup_eq_none_iff]
  intro e he
  have hne := (List.mem_filter.1 he).2
  rw [bne_iff_ne] at hne
  exact bne_iff_ne.2 (Ne.symm hne)

theorem vouchBytes_messageOk (s : State) (dst : Word) (b : BitVec 16) :
    messageOk (s.newPacket 1 0 3 false dst (vouchBytes b)) = true := by
  simp [messageOk, State.newPacket, vouchBytes, leBytes]

theorem judgeQuote_lt (s : State) (port : Nat) (body chain : List Byte) (t : Time) : s.judgeQuote port body chain t < 256 := by
  have hite {c : Prop} [Decidable c] {x y : Nat} (hx : x < 256) (hy : y < 256) : (if c then x else y) < 256 := by
    split <;> assumption
  exact hite (by decide) (hite (by decide) (hite (by decide) (hite (by decide) (hite (by decide) (by decide)))))

/-- A quote that fails is counted and named (R523, Table 18.15). -/
def quoteFails (code : Nat) (a : BitVec 16) (stamp : Time) : Prog :=
  .block [.count F.SEC_ATTEST_FAIL_COUNT 1, .setFld F.SEC_ATTEST_FAIL_CODE code, .setFld F.SEC_ATTEST_NODE_ADDR a.toNat,
    .raiseAt 17 stamp]

theorem run_quoteFails (hs : s.Canon) {code : Nat} (hcode : code < 256) (a : BitVec 16) (stamp : Time) :
    let t := (quoteFails code a stamp).run s
    t.fld F.SEC_ATTEST_FAIL_COUNT = s.countUp F.SEC_ATTEST_FAIL_COUNT ∧ t.fld F.SEC_ATTEST_FAIL_CODE = code ∧
      t.fld F.SEC_ATTEST_NODE_ADDR = a.toNat ∧ Pended 17 s t ∧
      Frame [.ctl] [F.SEC_ATTEST_FAIL_COUNT.off, F.SEC_ATTEST_NODE_ADDR.off] s t := by
  let u := (Prog.count F.SEC_ATTEST_FAIL_COUNT 1).run s
  let v := (Prog.setFld F.SEC_ATTEST_FAIL_CODE code).run u
  let w := (Prog.setFld F.SEC_ATTEST_NODE_ADDR a.toNat).run v
  have huc : u.Canon := hs.run _
  have hvc : v.Canon := huc.run _
  have hu : u.fld F.SEC_ATTEST_FAIL_COUNT = s.countUp F.SEC_ATTEST_FAIL_COUNT :=
    (run_count_one hs F.SEC_ATTEST_FAIL_COUNT (by decide) (by decide)).1
  have hv : v.fld F.SEC_ATTEST_FAIL_CODE = code :=
    (State.fld_setFld_same _ _ _ huc ⟨by decide, by decide⟩).trans (Nat.mod_eq_of_lt hcode)
  have hw : w.fld F.SEC_ATTEST_NODE_ADDR = a.toNat :=
    (State.fld_setFld_same _ _ _ hvc ⟨by decide, by decide⟩).trans (Nat.mod_eq_of_lt a.isLt)
  have hframe : Frame [] [F.SEC_ATTEST_FAIL_COUNT.off, F.SEC_ATTEST_NODE_ADDR.off] s w :=
    (Prog.frame [] [F.SEC_ATTEST_FAIL_COUNT.off, F.SEC_ATTEST_NODE_ADDR.off] (.block [.count F.SEC_ATTEST_FAIL_COUNT 1,
      .setFld F.SEC_ATTEST_FAIL_CODE code, .setFld F.SEC_ATTEST_NODE_ADDR a.toNat])
      (by simp [F.SEC_ATTEST_FAIL_CODE, F.SEC_ATTEST_FAIL_COUNT]) s hs).2
  have hraise := frame_raiseAt 17 stamp w
  intro t
  refine ⟨(hraise.fld _ (by simp)).trans ?_, (hraise.fld _ (by simp)).trans ?_, (hraise.fld _ (by simp)).trans hw,
    hframe.pended_raiseAt stamp (by decide) (by decide), (hframe.mono (by simp) (by simp)).trans (hraise.mono (by simp) (by simp))⟩
  · exact ((State.fld_setFld_other _ _ _ _ hvc ⟨by decide, by decide⟩ (by decide)).trans
      (State.fld_setFld_other _ _ _ _ huc ⟨by decide, by decide⟩ (by decide))).trans hu
  · exact (State.fld_setFld_other _ _ _ _ hvc ⟨by decide, by decide⟩ (by decide)).trans hv

/-- What a quote that was judged leaves: a vouch to this node itself, or the failure with its code (R419, R523). -/
theorem completes_quoteReceive (hs : s.Canon) (hawake : s.Awake) {port : Nat} (body chain : List Byte) (stamp : Time)
    {a b : BitVec 16} (hverifies : s.verifies port = true) (hb : s.partnerAddr port = some b) (halone : s.Alone a) :
    Completes (.quoteReceive port body chain stamp) s (fun t =>
        t.sec.attest.lookup port = none ∧
        if s.judgeQuote port body chain stamp = 0 then
          t.out = s.selfPacket 0 1 0 3 false a (vouchBytes b) :: s.out ∧ Pended 18 s t ∧ Frame [.sec, .fab, .ctl, .out] [] s t
        else t.fld F.SEC_ATTEST_FAIL_COUNT = s.countUp F.SEC_ATTEST_FAIL_COUNT ∧
          t.fld F.SEC_ATTEST_FAIL_CODE = s.judgeQuote port body chain stamp ∧ t.fld F.SEC_ATTEST_NODE_ADDR = b.toNat ∧
          Pended 17 s t ∧ Frame [.sec, .ctl] [F.SEC_ATTEST_FAIL_COUNT.off, F.SEC_ATTEST_NODE_ADDR.off] s t) := by
  obtain ⟨hhere, hg, hroot, -⟩ := halone
  let v := (Act.sec (fun x => { x with attest := x.attest.filter (fun e => e.1 != port) })).apply s
  have hvc : v.Canon := hs.apply _
  have hv : Frame [.sec] [] s v := Act.frame_noRegs (a := .sec _) List.mem_cons_self s
  have hnone : v.sec.attest.lookup port = none := lookup_filter_ne _ _
  refine .of_go rfl hawake ?_
  rw [Prog.run_guard, if_pos hverifies, Prog.run_dyn]
  dsimp only
  rw [hb, Option.getD_some, Prog.run_seq, Prog.run_act]
  show _ ∧ _
  by_cases hcode : s.judgeQuote port body chain stamp = 0
  · rw [if_pos hcode, if_pos hcode, Prog.run_seq, hroot]
    have hself := run_sendUnicast_self (s := v) hhere hg (vouchBytes_messageOk v _ b) (by decide)
    have hw : Frame [.fab, .out] [] v ((sendUnicast 1 3 a (vouchBytes b)).run v) := by
      rw [hself]
      exact Prog.frame_noRegs _ (.seq (.act (.fab _)) (.act (.out _))) (by simp [Act.Within]) v
    have hout : ((sendUnicast 1 3 a (vouchBytes b)).run v).out = s.selfPacket 0 1 0 3 false a (vouchBytes b) :: s.out := by
      rw [hself]
      rfl
    have hall : Frame [.sec, .fab, .out] [] s ((sendUnicast 1 3 a (vouchBytes b)).run v) :=
      (hv.mono (by simp) (by simp)).trans (hw.mono (by simp) (by simp))
    have hraise := frame_raiseAt 18 stamp ((sendUnicast 1 3 a (vouchBytes b)).run v)
    refine ⟨?_, hraise.1 .out (by decide) (by decide) ▸ hout, hall.pended_raiseAt stamp (by decide) (by simp),
      (hall.mono (by simp) (by simp)).trans (hraise.mono (by simp) (by simp))⟩
    rw [(hw.mono (by simp) (by simp) |>.trans (hraise.mono (by simp) (by simp)) : Frame [.fab, .out, .ctl] [] v _).1 .sec (by decide) (by decide)]
    exact hnone
  · rw [if_neg hcode, if_neg hcode]
    obtain ⟨hcount, hname, haddr, hpend, hframe⟩ := run_quoteFails hvc (judgeQuote_lt s port body chain stamp) b stamp
    exact ⟨(congrArg (fun x => x.attest.lookup port) (hframe.1 .sec (by decide) (by decide))).trans hnone, hcount, hname, haddr,
      hpend, (hv.mono (by simp) (by simp)).trans (hframe.mono (by simp) (by simp))⟩

/-! ### The life cycle (R515, R516) -/

theorem act_rom_out {a : Act} (h : a.Rom) (s : State) : (a.apply s).out = s.out := by
  cases a with
  | fuseVersion v =>
    rw [Act.apply]
    split <;> rfl
  | extend i x =>
    rw [Act.apply]
    split <;> rfl
  | reg | sec | ctl | free => rfl
  | _ => exact absurd h (by simp [Act.Rom])

/-- The ROM sends nothing. -/
theorem romBoot_out (s : State) : (romBoot.run s).out = s.out := by
  rw [run_romBoot]
  refine (Prog.run_keeps (fun t => t.out = s.out) (fun _ _ ha ht => (act_rom_out ha _).trans ht) _
    (romAfterM0_rom _ _) _ ?_)
  rfl

/-- A token that passes names a move of the life cycle (Table 18.2). -/
theorem judgeToken_zero {tok : LcToken} {t : Time} (h : s.judgeToken tok t = 0) :
    ∃ n, lcOfCode tok.target.toNat = some n ∧ lcMove s.lc n = true := by
  unfold State.judgeToken at h
  cases hn : lcOfCode tok.target.toNat with
  | none =>
    rw [hn] at h
    exact absurd (show (0x0A01 : Nat) = 0 from h) (by decide)
  | some n =>
    rw [hn] at h
    dsimp only at h
    cases hmove : lcMove s.lc n with
    | true => exact ⟨n, rfl, hmove⟩
    | false =>
      rw [if_pos (by simp [hmove])] at h
      exact absurd h (by decide)

theorem completes_lifecycleTransition_refused (hawake : s.Awake) {req : PmpCtx} (hasks : s.Asks req) {tok : LcToken}
    (hcode : s.judgeToken tok req.stamp ≠ 0) : Completes (.lifecycleTransition req false tok) s (fun t =>
      Answered req (s.judgeToken tok req.stamp) [] s t ∧ Pended 16 s t ∧
        t.meas = modAt s.meas 14 (fun m => Config.sha3 (digestBytes m ++
          digestBytes (Config.codeDigest (s.judgeToken tok req.stamp)))) ∧ Frame [.meas, .ctl, .out] [] s t) := by
  refine .of_go rfl hawake ?_
  rw [if_neg (by simp), run_service hasks, lifecycleProg, Prog.run_dyn]
  dsimp only
  rw [if_pos hcode, Prog.run_block_cons, Prog.run_block_cons, Prog.run_block_cons, Prog.run_block_nil, Prog.run_act]
  generalize s.judgeToken tok req.stamp = code
  let u := (Act.extend 14 (Config.codeDigest code)).apply s
  let v := (Prog.raiseAt 16 req.stamp).run u
  have hu : Frame [.meas] [] s u := Act.frame_noRegs (a := .extend _ _) List.mem_cons_self s
  have hv := frame_raiseAt 16 req.stamp u
  have hreplied := run_respond (s := v) ((hasks.congr (t := u) rfl).raiseAt 16 req.stamp) code []
  have huv : Frame [.meas, .ctl] [] s v := (hu.mono (by simp) (by simp)).trans (hv.mono (by simp) (by simp))
  refine ⟨hreplied.answered huv (by decide), hreplied.pended (hu.pended_raiseAt _ (by decide) (by simp)), ?_,
    (hreplied.after huv).mono (by simp) (by simp)⟩
  rw [hreplied.frame.1 .meas (by decide) (by decide)]
  rfl

theorem warmResetAt_out (cause : Nat) (t : Time) (s : State) : ((warmResetAt cause t).run s).out = s.out := by
  rw [run_warmResetAt, romBoot_out]
  rfl

theorem lcFuses_frame (n : LcState) (tok : LcToken) (s : State) :
    Frame [.sec, .secVersion, .freeCount] [] s ((lcFuses n tok).run s) := by
  refine Prog.frame_noRegs _ _ ?_ s
  cases n <;> simp [lcFuses, Prog.withFree, Act.Within]

/-- An accepted token moves the life cycle and ends in a warm reset (R516). -/
theorem completes_lifecycleTransition (hs : s.Canon) (hawake : s.Awake) {req : PmpCtx} (hasks : s.Asks req) {tok : LcToken}
    (hcode : s.judgeToken tok req.stamp = 0) : Completes (.lifecycleTransition req false tok) s (fun t =>
      (∃ n, lcOfCode tok.target.toNat = some n ∧ t.lc = n ∧ lcMove s.lc n = true) ∧ t.node = .sapling ∧ Answered req 0 [] s t) := by
  obtain ⟨n, hn, hmove⟩ := judgeToken_zero hcode
  refine .of_go rfl hawake ?_
  rw [if_neg (by simp), run_service hasks, lifecycleProg, Prog.run_dyn]
  dsimp only
  rw [if_neg (not_not.2 hcode), hn]
  dsimp only
  simp only [Prog.run_block_cons, Prog.run_block_nil, Prog.run_act]
  let u := (Act.sec (fun x => { x with nonces := x.nonces.filter (fun e => e.1 != tok.nonce) })).apply s
  have hfuses := lcFuses_frame n tok u
  have huc : u.Canon := hs.apply _
  generalize hv : (lcFuses n tok).run u = v at hfuses
  have hvc : v.Canon := hv ▸ huc.run _
  have hlc : ((Act.lifecycle n).apply v).lc = n := by
    have hsame : v.lc = s.lc := hfuses.1 .lc (by decide) (by decide)
    rw [Act.apply, hsame, if_pos hmove]
  have hlife : Frame [.lc] [] v ((Act.lifecycle n).apply v) := Act.frame_noRegs (a := .lifecycle n) List.mem_cons_self v
  have hwc : ((Act.lifecycle n).apply v).Canon := hvc.apply _
  generalize (Act.lifecycle n).apply v = w at *
  have hsw : Frame [.sec, .secVersion, .freeCount, .lc] [] s w :=
    ((Act.frame_noRegs (a := .sec _) List.mem_cons_self s : Frame [.sec] [] s u).mono (by simp) (by simp)).trans
      ((hfuses.mono (by simp) (by simp)).trans (hlife.mono (by simp) (by simp)))
  have hreplied := run_respond (hasks.congr (t := w) (congrArg Control.sessions (hsw.1 .ctl (by decide) (by decide)))) 0 []
  have hxc : ((respond req 0 []).run w).Canon := hwc.run _
  generalize (respond req 0 []).run w = x at *
  have hwarm (cause : Nat) (t : Time) (y : State) (hy : y.Canon) (hc : cause < 256) := warmLeft_warmResetAt hy cause t hc
  rw [warmResetOpen, Prog.withFree, Prog.run_dyn, Prog.run_seq, Prog.run_act, warmResetProg, Prog.withFreeStamp, Prog.run_dyn,
    Prog.run_seq, Prog.run_act]
  obtain ⟨-, -, hnode, -, hlc', -⟩ := hwarm ((Config.freeWord x.freeCount).toNat % 256)
    (Config.freeStamp ((Act.free 1).apply x).freeCount) ((Act.free 1).apply ((Act.free 1).apply x)) ((hxc.apply _).apply _)
    (Nat.mod_lt _ (by decide))
  refine ⟨⟨n, rfl, ?_, hmove⟩, hnode, ?_⟩
  · rw [hlc']
    exact Eq.trans (hreplied.frame.1 .lc (by decide) (by decide)) hlc
  · exact (warmResetAt_out _ _ _).trans (hreplied.answered hsw (by decide))

theorem completes_lifecycleTransition_jtag {req : PmpCtx} {tok : LcToken} (h : lcJtag s.lc = false) :
    Completes (.lifecycleTransition req true tok) s (fun t => t = s) := by
  refine .of_go_self rfl ?_
  rw [if_pos rfl, Prog.run_guard, if_neg (by simp [h])]

/-- A nonce for a token is given and kept (R516). -/
def giveNonce (req : PmpCtx) : Prog :=
  .withRandom 32 (fun n => .seq (.act (.sec (fun x => { x with nonces := (n, req.stamp) :: x.nonces }))) (respond req 0 n))

theorem run_giveNonce {req : PmpCtx} (h : s.Asks req ∨ s.session req.session = none) : let t := (giveNonce req).run s
    (∃ n, n.length = 32 ∧ Answered req 0 n s t ∧ t.sec = { s.sec with nonces := (n, req.stamp) :: s.sec.nonces }) ∧
      Frame [.sec, .ctl, .out, .freeCount] [] s t := by
  let n : List Byte := (List.range 32).map (fun i => Config.randomByte (s.freeCount + i))
  let pre : Prog := .seq (.act (.free 32)) (.act (.sec (fun x => { x with nonces := (n, req.stamp) :: x.nonces })))
  let v := pre.run s
  have hv : Frame [.sec, .freeCount] [] s v := Prog.frame_noRegs _ pre (by simp [pre, Act.Within]) s
  have hreplied : Replied req 0 n v ((respond req 0 n).run v) := h.elim (fun hasks => run_respond (hasks.congr (t := v) rfl) 0 n)
    (fun hnone => run_respond_none (s := v) hnone 0 n)
  have hrun : (giveNonce req).run s = (respond req 0 n).run v := rfl
  intro t
  rw [show t = _ from hrun]
  exact ⟨⟨n, by simp [n], hreplied.answered hv (by decide), hreplied.frame.1 .sec (by decide) (by decide)⟩,
    (hreplied.after hv).mono (by simp) (by simp)⟩

theorem completes_lifecycleGetNonce (hawake : s.Awake) {req : PmpCtx}
    (h : s.Asks req ∨ s.lc = .raw ∧ s.session req.session = none) : Completes (.lifecycleGetNonce req) s (fun t =>
      (∃ n, n.length = 32 ∧ Answered req 0 n s t ∧ t.sec = { s.sec with nonces := (n, req.stamp) :: s.sec.nonces }) ∧
      Frame [.sec, .ctl, .out, .freeCount] [] s t) := by
  have hgive := run_giveNonce (s := s) (req := req) (h.imp id And.right)
  refine .of_go rfl hawake ?_
  rw [Prog.run_dyn]
  dsimp only
  by_cases hraw : s.lc = .raw
  · rw [if_pos hraw]
    exact hgive
  · rw [if_neg hraw, run_service (h.resolve_right fun hr => hraw hr.1)]
    exact hgive

/-- Settles O59. -/
theorem securityServicesRun : Obligations.SecurityServicesRun := by
  unfold Obligations.SecurityServicesRun
  intro s hinv hawake
  have hs : s.Canon := hinv.canon
  refine ⟨fun req src nonce => ⟨completes_quoteRequest_badNonce req src, completes_quoteRequest_fabric hawake req src,
      fun p => completes_quoteRequest_fabricRefused hs hawake req src, fun hasks hlen => ?_⟩,
    fun port stamp => completes_saplingVerify_none stamp,
    fun port stamp b p hverifies hb => completes_saplingVerify hs hawake stamp hverifies hb,
    fun port body chain stamp b a hverifies hb => completes_quoteReceive hs hawake body chain stamp hverifies hb,
    fun req tok hasks => ?_, fun req tok => completes_lifecycleTransition_jtag,
    fun req => completes_lifecycleGetNonce hawake⟩
  · obtain ⟨t, hexec, ht⟩ := completes_quoteRequest_service hawake hasks hlen
    refine ⟨fun hlc => ⟨t, hexec, ?_⟩, fun hlc => ⟨t, hexec, ?_⟩⟩
    · rw [if_pos hlc] at ht
      exact ⟨ht.out, ht.frame⟩
    · rw [if_neg (by simp [hlc])] at ht
      exact ⟨ht.out, ht.frame⟩
  · by_cases hcode : s.judgeToken tok req.stamp = 0
    · simp only [if_pos hcode]
      exact completes_lifecycleTransition hs hawake hasks hcode
    · simp only [if_neg hcode]
      exact completes_lifecycleTransition_refused hawake hasks hcode

end Sys2Proof.Machine
end

section
/-! PROOF. O60: firmware updates (R524 to R532, R536). -/

namespace Sys2Proof.Machine

variable {s : State}

/-! ### The update journal and state (R530, Table 18.16) -/

theorem updCopy_congr {t : State} (h : t.sec.journal = s.sec.journal) : t.updCopy = s.updCopy := by
  simp only [State.updCopy, State.updIndex, h]

theorem bitmap_congr {t : State} (h : t.sec.journal = s.sec.journal) : t.bitmap = s.bitmap :=
  congrArg UpdCopy.blocks (updCopy_congr h)

/-- A bitmap that is recorded is the one in use, under the next number. -/
theorem updCopy_run_writeBitmap (hlen : s.sec.journal.length = 2) (head : List Byte) (blocks : List Nat) :
    ((writeBitmap head blocks).run s).updCopy = { seq := s.updCopy.seq + 1, blocks := blocks, head := head } := by
  obtain ⟨a, b, hj⟩ := List.length_eq_two.1 hlen
  have hrun : ((writeBitmap head blocks).run s).sec.journal =
      s.sec.journal.set (1 - s.updIndex) { seq := s.updCopy.seq + 1, blocks := blocks, head := head } := rfl
  cases hlater : laterFsn b.seq a.seq with
  | true =>
    have hidx : s.updIndex = 1 := by simp [State.updIndex, hj, hlater]
    have hcopy : s.updCopy = b := by simp [State.updCopy, hidx, hj]
    have hjournal : ((writeBitmap head blocks).run s).sec.journal = [{ seq := b.seq + 1, blocks := blocks, head := head }, b] := by
      rw [hrun, hidx, hcopy, hj]
      rfl
    have hafter : ((writeBitmap head blocks).run s).updIndex = 0 := by
      rw [State.updIndex, hjournal]
      exact if_neg (by simp [laterFsn_pred])
    rw [State.updCopy, hafter, hjournal, hcopy]
    rfl
  | false =>
    have hidx : s.updIndex = 0 := by simp [State.updIndex, hj, hlater]
    have hcopy : s.updCopy = a := by simp [State.updCopy, hidx, hj]
    have hjournal : ((writeBitmap head blocks).run s).sec.journal = [a, { seq := a.seq + 1, blocks := blocks, head := head }] := by
      rw [hrun, hidx, hcopy, hj]
      rfl
    have hafter : ((writeBitmap head blocks).run s).updIndex = 1 := by
      rw [State.updIndex, hjournal]
      exact if_pos (laterFsn_succ a.seq)
    rw [State.updCopy, hafter, hjournal, hcopy]
    rfl

theorem writeBitmap_frame (head : List Byte) (blocks : List Nat) (s : State) : Frame [.sec] [] s ((writeBitmap head blocks).run s) :=
  Prog.frame_noRegs _ _ (by simp [writeBitmap, Act.Within]) s

/-- What a change of SEC_UPD_STATE leaves. -/
theorem run_setUpd (u : UpdState) (s : State) : let t := (setUpd u).run s
    t.sec = { s.sec with upd := u } ∧ Frame [.sec, .ctl, .freeCount] [] s t ∧ (s.sec.upd ≠ u → Pended 19 s t) := by
  by_cases hu : s.sec.upd = u
  · have hrun : (setUpd u).run s = s := by rw [setUpd, Prog.run_dyn, if_pos hu, Prog.run_nil]
    rw [hrun]
    refine ⟨?_, (Frame.refl [] [] s).mono (by simp) (by simp), fun h => absurd hu h⟩
    rw [← hu]
  · let pre : Prog := .seq (.act (.sec (fun x => { x with upd := u }))) (.act (.free 1))
    have hrun : (setUpd u).run s = (Prog.raiseAt 19 (Config.freeStamp s.freeCount)).run (pre.run s) := by
      rw [setUpd, Prog.run_dyn, if_neg hu]
      rfl
    have hpre : Frame [.sec, .freeCount] [] s (pre.run s) := Prog.frame_noRegs _ pre (by simp [pre, Act.Within]) s
    have hraise := frame_raiseAt 19 (Config.freeStamp s.freeCount) (pre.run s)
    rw [hrun]
    exact ⟨hraise.1 .sec (by decide) (by decide), (hpre.mono (by simp) (by simp)).trans (hraise.mono (by simp) (by simp)),
      fun _ => hpre.pended_raiseAt _ (by decide) (by simp)⟩

theorem setUpd_in {parts : List Part} {P : Nat → Prop} (hsec : Part.sec ∈ parts) (hfree : Part.freeCount ∈ parts) (u : UpdState) :
    (setUpd u).Only (Act.In parts P) := by
  intro s
  simp [Act.In, Act.Within, hsec, hfree]

/-- A refusal leaves its code, 0x0900 added, and event 20 (Tables 18.15, 18.16). -/
theorem run_updRefused (hs : s.Canon) {code : Nat} (hcode : code < 256) (stamp : Time) : let t := (updRefused code stamp).run s
    t.fld F.SEC_UPD_STATE_ERR = 0x0900 + code ∧ Pended 20 s t ∧ Frame [.ctl] [R.SEC_UPD_STATE] s t := by
  let u := (reportUpd code).run s
  have hu : Frame [] [R.SEC_UPD_STATE] s u :=
    (Prog.frame [] [R.SEC_UPD_STATE] (reportUpd code) (by simp [reportUpd, F.SEC_UPD_STATE_ERR]) s hs).2
  have herr : u.fld F.SEC_UPD_STATE_ERR = 0x0900 + code :=
    (State.fld_setFld_same _ _ _ hs ⟨by decide, by decide⟩).trans (Nat.mod_eq_of_lt (show 0x0900 + code < 2 ^ 16 by omega))
  have hraise := frame_raiseAt 20 stamp u
  exact ⟨(hraise.fld _ (by simp)).trans herr, hu.pended_raiseAt _ (by decide) (by decide),
    (hu.mono (by simp) (by simp)).trans (hraise.mono (by simp) (by simp))⟩

/-! ### Offers (R525 to R527, R531) -/

theorem guardCode_lt (s : State) : s.guardCode < 256 := by
  unfold State.guardCode
  split_ifs <;> decide

theorem judgeHead_lt (s : State) (h : List Byte) (crcs : List Word) : s.judgeHead h crcs < 256 := by
  have := guardCode_lt s
  unfold State.judgeHead
  split_ifs <;> omega

theorem judgeOffer_lt (s : State) (h : List Byte) (crcs : List Word) (t : Time) : s.judgeOffer h crcs t < 256 := by
  unfold State.judgeOffer
  split
  · split
    · exact judgeHead_lt s h crcs
    · decide
  · exact judgeHead_lt s h crcs

/-- The state of a download follows from how many blocks are verified (R530, R532). -/
theorem run_downloadState {u : UpdSession} (h : s.sec.session = some u) : downloadState.run s =
    (setUpd (if headBlocks u.head ≤ s.bitmap.length then .verifying else .downloading)).run s := by
  rw [downloadState, Prog.run_dyn, h]

theorem downloadState_frame (s : State) : Frame [.sec, .ctl, .freeCount] [] s (downloadState.run s) := by
  cases h : s.sec.session with
  | none =>
    have hrun : downloadState.run s = s := by rw [downloadState, Prog.run_dyn, h, Prog.run_nil]
    rw [hrun]
    exact (Frame.refl [] [] s).mono (by simp) (by simp)
  | some u =>
    rw [run_downloadState h]
    exact (run_setUpd _ s).2.1

theorem downloadState_sec (s : State) : (downloadState.run s).sec = { s.sec with upd := (downloadState.run s).sec.upd } := by
  cases h : s.sec.session with
  | none =>
    have hrun : downloadState.run s = s := by rw [downloadState, Prog.run_dyn, h, Prog.run_nil]
    rw [hrun]
  | some u =>
    rw [run_downloadState h, (run_setUpd _ s).1]

/-- The registers that an offer loads. -/
abbrev offerRegs : List Nat := [R.SEC_UPD_ID, F.SEC_UPD_BLOCKS_VERIFIED.off]

/-- The lock is taken for an offer. -/
theorem run_takeLock (hs : s.Canon) (u : UpdSession) : let t := (takeLock u).run s
    t.sec.session = some u ∧ t.reg R.SEC_UPD_ID = BitVec.ofNat 32 (headBundleId u.head) ∧
      Frame [.sec, .ctl, .freeCount] offerRegs s t ∧
      (s.sec.journal.length = 2 → s.updCopy.head ≠ u.head → headBlocks u.head ≠ 0 →
        t.bitmap = [] ∧ t.updCopy.head = u.head ∧ t.sec.upd = .downloading) := by
  let v := (Act.sec (fun x => { x with session := some u })).apply s
  let w := (Prog.dyn (fun s => .when (s.updCopy.head != u.head) (writeBitmap u.head []))).run v
  let x := (Prog.setReg R.SEC_UPD_ID (BitVec.ofNat 32 (headBundleId u.head))).run w
  let y := loadVerified.run x
  have hrun : (takeLock u).run s = downloadState.run y := rfl
  have hv : Frame [.sec] [] s v := Act.frame_noRegs (a := .sec _) List.mem_cons_self s
  have hw : Frame [.sec] [] v w := Prog.frame_noRegs _ _ (by simp [writeBitmap, Act.Within]) v
  have hvw : Frame [.sec] [] s w := hv.trans hw
  have hwsession : w.sec.session = some u := by
    show ((Prog.when _ _).run v).sec.session = _
    rw [Prog.run_when]
    split <;> rfl
  have hvc : v.Canon := hs.apply _
  have hwc : w.Canon := hvc.run _
  have hxc : x.Canon := hwc.run _
  have hx : Frame [] [R.SEC_UPD_ID] w x := (Prog.frame [] [R.SEC_UPD_ID] (.setReg _ _) (by simp) w hwc).2
  have hy : Frame [] [F.SEC_UPD_BLOCKS_VERIFIED.off] x y :=
    (Prog.frame [] [F.SEC_UPD_BLOCKS_VERIFIED.off] loadVerified (by simp [loadVerified]) x hxc).2
  have hysec : y.sec = w.sec := Eq.trans (hy.1 .sec (by decide) (by decide)) (hx.1 .sec (by decide) (by decide))
  have hid : y.reg R.SEC_UPD_ID = BitVec.ofNat 32 (headBundleId u.head) :=
    (hy.2 _ (by decide)).trans (State.reg_store_same w _ _ _ hwc rfl)
  have hload := downloadState_frame y
  have hsec := downloadState_sec y
  have hysession : y.sec.session = some u := by rw [hysec, hwsession]
  intro t
  rw [show t = downloadState.run y from hrun]
  refine ⟨by rw [hsec]; exact hysession, (hload.2 _ (by simp)).trans hid,
    (hvw.mono (by simp) (by simp)).trans ((hx.mono (by simp) (by simp)).trans ((hy.mono (by simp) (by simp)).trans
      (hload.mono (by simp) (by simp)))), fun hlen hhead hblocks => ?_⟩
  have hcopy : w.updCopy = { seq := s.updCopy.seq + 1, blocks := [], head := u.head } := by
    have hbefore : v.updCopy = s.updCopy := updCopy_congr rfl
    have hne : (v.updCopy.head != u.head) = true := by rw [hbefore]; exact bne_iff_ne.2 hhead
    have hstored : w = (writeBitmap u.head []).run v := by
      show (Prog.when _ _).run v = _
      rw [Prog.run_when, if_pos hne]
    rw [hstored, updCopy_run_writeBitmap (s := v) hlen, hbefore]
  have hycopy : y.updCopy = w.updCopy := updCopy_congr (by rw [hysec])
  have htcopy : (downloadState.run y).updCopy = w.updCopy := (updCopy_congr (by rw [hsec])).trans hycopy
  have hybits : y.bitmap = [] := by rw [State.bitmap, hycopy, hcopy]
  refine ⟨by rw [State.bitmap, htcopy, hcopy], by rw [htcopy, hcopy], ?_⟩
  rw [run_downloadState hysession, (run_setUpd _ y).1, hybits, if_neg (by simpa using hblocks)]

theorem completes_updateOffer_refused (hs : s.Canon) (hawake : s.Awake) {req : PmpCtx} (hasks : s.Asks req) (rect : Word)
    {head : List Byte} {crcs : List Word} (hcode : s.judgeOffer head crcs req.stamp ≠ 0) :
    Completes (.updateOffer req rect head crcs) s (fun t =>
      Answered req (0x0900 + s.judgeOffer head crcs req.stamp) [] s t ∧
          t.fld F.SEC_UPD_STATE_ERR = 0x0900 + s.judgeOffer head crcs req.stamp ∧ Pended 20 s t ∧
          Frame [.ctl, .out] [R.SEC_UPD_STATE] s t) := by
  refine .of_go rfl hawake ?_
  rw [run_service hasks, Prog.run_dyn]
  dsimp only
  rw [if_pos hcode, Prog.run_seq]
  have hlt := judgeOffer_lt s head crcs req.stamp
  generalize s.judgeOffer head crcs req.stamp = code at *
  obtain ⟨herr, hpend, hframe⟩ := run_updRefused hs hlt req.stamp
  have hquiet := Prog.Only.quietKept (parts := []) (P := fun _ => True) (p := updRefused code req.stamp)
    (by simp [updRefused, reportUpd]) (by simp) s
  have hreplied := run_respond (hasks.of_quietKept hquiet) (0x0900 + code) []
  exact ⟨hreplied.answered hframe (by decide), (hreplied.frame.fld _ (by simp)).trans herr, hreplied.pended hpend,
    (hreplied.after hframe).mono (by simp) (by simp)⟩

/-- A message on a stream of its own leaves a session alone that subscribes to nothing. -/
theorem streamOut_quietKept (proto : Nat) (dst : BitVec 16) (bytes : List Byte) (s : State) :
    QuietKept s.ctl.sessions ((streamOut proto dst bytes).run s).ctl.sessions := by
  have hsend : (sendPieces proto dst s.ctl.nextStream 0 true bytes).Only (Act.In sendParts fromFab) :=
    Prog.only_each _ _ fun _ => sendUnicast_in (by simp) (by simp) (by simp) _ _ _ _
  exact hsend.quietKept (by simp) ((Act.ctl (fun c => { c with nextStream := c.nextStream + 1 })).apply s)

theorem streamOut_spared (hs : s.Canon) (proto : Nat) (dst : BitVec 16) (bytes : List Byte) :
    Spared (.ctl :: sendParts) fromFab s ((streamOut proto dst bytes).run s) := by
  have hout : (streamOut proto dst bytes).Only (Act.In (.ctl :: sendParts) fromFab) := fun s =>
    ⟨by simp [Act.In], Prog.only_each _ _ fun _ => sendUnicast_in (by simp) (by simp) (by simp) _ _ _ _⟩
  exact hout.spared hs

/-- What one message after another leaves. -/
theorem run_each_streamOut {α : Type} (proto : Nat) (dst : α → BitVec 16) (bytes : List Byte) (l : List α) {s : State} (hs : s.Canon) :
    let t := (Prog.each l (fun a => streamOut proto (dst a) bytes)).run s
    QuietKept s.ctl.sessions t.ctl.sessions ∧ Spared (.ctl :: sendParts) fromFab s t := by
  induction l generalizing s with
  | nil => exact ⟨fun _ _ h _ => h, Spared.refl _ _ _⟩
  | cons a l ih =>
    obtain ⟨hquiet, hspared⟩ := ih (hs.run (streamOut proto (dst a) bytes))
    exact ⟨(streamOut_quietKept proto (dst a) bytes s).trans hquiet, (streamOut_spared hs proto (dst a) bytes).trans hspared⟩

/-- An accepted offer takes the lock, goes on to the rectangle, and is answered. -/
theorem completes_updateOffer (hs : s.Canon) (hawake : s.Awake) {req : PmpCtx} (hasks : s.Asks req) (rect : Word)
    {head : List Byte} {crcs : List Word} (hblocks : headBlocks head ≠ 0) (hhead : s.updCopy.head ≠ head)
    (hlen : s.sec.journal.length = 2) (hcode : s.judgeOffer head crcs req.stamp = 0) :
    Completes (.updateOffer req rect head crcs) s (fun t =>
      (∃ u, t.sec.session = some u ∧ u.session = some req.session ∧ u.rect = rect ∧ u.head = head ∧ u.crcs = crcs) ∧
        t.bitmap = [] ∧ t.updCopy.head = head ∧ t.sec.upd = .downloading ∧
        t.reg R.SEC_UPD_ID = BitVec.ofNat 32 (headBundleId head) ∧
        t.out.head? = some (.response req.session req.reqId 0 [])) := by
  refine .of_go rfl hawake ?_
  rw [run_service hasks, Prog.run_dyn]
  dsimp only
  rw [if_neg (not_not.2 hcode)]
  let u : UpdSession := { session := some req.session, source := s.here.getD 0, rect := rect, head := head, crcs := crcs
                          reqId := req.reqId }
  obtain ⟨hsession, hid, hframe, hdown⟩ := run_takeLock hs u
  obtain ⟨hbits, hcopy, hupd⟩ := hdown hlen hhead hblocks
  have hquiet : QuietKept s.ctl.sessions ((takeLock u).run s).ctl.sessions := by
    refine Prog.Only.quietKept (parts := [.sec, .freeCount]) (P := fun _ => True) (p := takeLock u) ?_ (by simp) s
    have hset (s : State) : (setUpd (if headBlocks u.head ≤ s.bitmap.length then .verifying else .downloading)).Only
      (Act.In [.sec, .freeCount] fun _ => True) := setUpd_in (by simp) (by simp) _
    refine ⟨by simp [Act.In, Act.Within], fun s => ?_, by simp, fun s => by simp, fun s => ?_, trivial⟩
    · simp [writeBitmap, Act.In, Act.Within]
    · dsimp only
      split
      · trivial
      · next v _ => exact setUpd_in (by simp) (by simp) _
  let v := (takeLock u).run s
  have hvc : v.Canon := hs.run _
  obtain ⟨hkept, hspared⟩ := run_each_streamOut 6 (fun a => a) (offerBytes head crcs)
    ((rectNodes rect).filter (fun a => s.here != some a)) hvc
  rw [Prog.run_block_cons, Prog.run_block_cons, Prog.run_block_cons, Prog.run_block_nil]
  generalize hw : (Prog.each ((rectNodes rect).filter (fun a => s.here != some a))
    (fun a => streamOut 6 a (offerBytes head crcs))).run ((takeLock u).run s) = w
  rw [show (Prog.each ((rectNodes rect).filter (fun a => s.here != some a))
    (fun a => streamOut 6 a (offerBytes head crcs))).run v = w from hw] at hkept hspared
  have hreplied := run_respond (hasks.of_quietKept (hquiet.trans hkept)) 0 []
  have hsec : ((respond req 0 []).run w).sec = v.sec :=
    Eq.trans (hreplied.frame.1 .sec (by decide) (by decide)) (hspared.same .sec (by decide) (by decide) (by decide))
  have htcopy : ((respond req 0 []).run w).updCopy = v.updCopy := updCopy_congr (by rw [hsec])
  refine ⟨⟨u, by rw [hsec]; exact hsession, rfl, rfl, rfl, rfl⟩, ?_, ?_, ?_, ?_, ?_⟩
  · exact (bitmap_congr (by rw [hsec])).trans hbits
  · exact (congrArg UpdCopy.head htcopy).trans hcopy
  · exact (congrArg Sec.upd hsec).trans hupd
  · exact (hreplied.frame.2 _ (by simp)).trans ((hspared.reg _ (by decide)).trans hid)
  · exact congrArg List.head? hreplied.out

theorem completes_updateOfferRelayReceive (hs : s.Canon) (hawake : s.Awake) (src : BitVec 16) (head : List Byte)
    (crcs : List Word) (stamp : Time) : Completes (.updateOfferRelayReceive src head crcs stamp) s (fun t =>
      if s.judgeOffer head crcs stamp = 0 then
        t.sec.session = some { session := none, source := src, head := head, crcs := crcs } ∧ t.out = s.out
      else t.fld F.SEC_UPD_STATE_ERR = 0x0900 + s.judgeOffer head crcs stamp ∧ t.sec = s.sec ∧ Pended 20 s t) := by
  refine .of_go rfl hawake ?_
  rw [Prog.run_dyn]
  dsimp only
  by_cases hcode : s.judgeOffer head crcs stamp = 0
  · rw [if_pos hcode, if_neg (not_not.2 hcode)]
    obtain ⟨hsession, -, hframe, -⟩ := run_takeLock hs { session := none, source := src, head := head, crcs := crcs }
    exact ⟨hsession, hframe.1 .out (by decide) (by decide)⟩
  · rw [if_neg hcode, if_pos hcode]
    obtain ⟨herr, hpend, hframe⟩ := run_updRefused hs (judgeOffer_lt s head crcs stamp) stamp
    exact ⟨herr, hframe.1 .sec (by decide) (by decide), hpend⟩

/-! ### Blocks (R530, R531) -/

section
variable {u : UpdSession} (hsession : s.sec.session = some u)
include hsession

theorem completes_updateBlockReceive_none (id : Word) {block chunk : Nat} {data : List Byte}
    (h : s.sec.upd ≠ .downloading ∨ data.length ≠ 1024 ∨ 64 ≤ chunk ∨ block ∈ s.bitmap) :
    Completes (.updateBlockReceive id block chunk data) s (fun t => t = s) := by
  refine .of_go_self rfl ?_
  rw [Prog.run_dyn, hsession]
  dsimp only
  rw [if_pos, Prog.run_nil]
  rcases h with h | h | h | h <;> simp [h]

/-- The chunks of a block that an update holds after one more. -/
abbrev UpdSession.chunksOf (u : UpdSession) (block chunk : Nat) (data : List Byte) : List (Nat × List Byte) :=
  ((addChunk u.chunks block chunk data).lookup block).getD []

/-- The bytes of a block that its chunks make. -/
abbrev blockData (u : UpdSession) (block : Nat) (chunks : List (Nat × List Byte)) : List Byte :=
  ((List.range 64).flatMap (fun i => (chunks.lookup i).getD [])).take (blockLength u.head block)

variable (hupd : s.sec.upd = .downloading) {id : Word} (hid : id.toNat = headBundleId u.head) {block chunk : Nat}
  (hlt : block < headBlocks u.head) (hnew : block ∉ s.bitmap) (hchunk : chunk < 64) {data : List Byte} (hdata : data.length = 1024)
include hupd hid hlt hnew hchunk hdata

/-- A chunk that counts is held, and a whole block is judged. -/
theorem exec_updateBlockReceive (hawake : s.Awake) : exec (.updateBlockReceive id block chunk data) s =
    .next ((Prog.when ((u.chunksOf block chunk data).length == 64) (judgeBlock u block (u.chunksOf block chunk data))).run
      ((Act.sec (fun x => { x with session := x.session.map (fun v =>
        { v with chunks := addChunk u.chunks block chunk data }) })).apply s)) := by
  refine (congrArg _ (Prog.go_awake _ s hawake)).trans ?_
  rw [Prog.run_dyn, hsession]
  dsimp only
  rw [if_neg (by simp [hupd, hid, hlt, hnew, hchunk, hdata]), Prog.run_seq, Prog.run_act]

theorem completes_updateBlockReceive_chunk (hawake : s.Awake) (hpart : (u.chunksOf block chunk data).length ≠ 64) :
    Completes (.updateBlockReceive id block chunk data) s (fun t =>
      t.sec = { s.sec with session := some { u with chunks := addChunk u.chunks block chunk data } } ∧ Frame [.sec] [] s t) := by
  refine ⟨_, exec_updateBlockReceive hsession hupd hid hlt hnew hchunk hdata hawake, ?_⟩
  rw [Prog.run_when, if_neg (by simpa using hpart)]
  refine ⟨?_, Act.frame_noRegs (a := .sec _) List.mem_cons_self s⟩
  rw [Act.apply]
  dsimp only
  rw [hsession]
  rfl

end

/-- The chunks of a block are given up when it is judged. -/
def forgetBlock (block : Nat) : Prog :=
  .act (.sec (fun x => { x with session := x.session.map (fun v => { v with chunks := v.chunks.filter (fun c => c.1 != block) }) }))

theorem run_judgeBlock (u : UpdSession) (block : Nat) (chunks : List (Nat × List Byte)) (s : State) :
    (judgeBlock u block chunks).run s = (if crc32c (blockData u block chunks) = u.crcs.getD block 0
      then programBlock u block (blockData u block chunks) else .count F.SEC_UPD_BLOCKS_BLOCK_ERR 1).run ((forgetBlock block).run s) := rfl

/-- What a block that is programmed leaves in the journal (R530). -/
theorem run_programBlock (hs : s.Canon) (u : UpdSession) (block : Nat) (d : List Byte) (hlen : s.sec.journal.length = 2) :
    ((programBlock u block d).run s).updCopy =
      { seq := s.updCopy.seq + 1, blocks := insertNat block s.bitmap, head := u.head } := by
  let v := (Act.sec (fun x => { x with slots := modAt x.slots s.idleSlot (fun t =>
    (if s.bitmap.isEmpty then ({} : Slot) else { t with verified := false }).program (65536 * block) d) })).apply s
  let w := (writeBitmap u.head (insertNat block s.bitmap)).run v
  let x := loadVerified.run w
  let send : Prog := .when u.session.isSome (sendBlock 1 u.rect (BitVec.ofNat 32 (headBundleId u.head)) block d)
  have hrun : (programBlock u block d).run s = downloadState.run (send.run x) := rfl
  have hvc : v.Canon := hs.apply _
  have hwc : w.Canon := hvc.run _
  have hxc : x.Canon := hwc.run _
  have hw : w.updCopy = { seq := s.updCopy.seq + 1, blocks := insertNat block s.bitmap, head := u.head } := by
    have hbefore : v.updCopy = s.updCopy := updCopy_congr rfl
    rw [show w.updCopy = _ from updCopy_run_writeBitmap (s := v) hlen u.head _, hbefore]
  have hx : x.sec = w.sec :=
    (Prog.frame [] [F.SEC_UPD_BLOCKS_VERIFIED.off] loadVerified (by simp [loadVerified]) w hwc).2.1 .sec (by decide) (by decide)
  have hsend : (send.run x).sec = x.sec := by
    have honly : send.Only (Act.In sendParts fromFab) := Prog.only_when _
      (Prog.only_each _ _ fun _ => originate_in (by simp) (by simp) (by simp) _ _ _ _ _ _)
    exact (honly.spared hxc).same .sec (by decide) (by decide) (by decide)
  rw [hrun, ← hw]
  refine updCopy_congr ?_
  rw [downloadState_sec, hsend, hx]

section
variable {u : UpdSession} (hsession : s.sec.session = some u) (hupd : s.sec.upd = .downloading) {id : Word}
  (hid : id.toNat = headBundleId u.head) {block chunk : Nat} (hlt : block < headBlocks u.head) (hnew : block ∉ s.bitmap)
  (hchunk : chunk < 64) {data : List Byte} (hdata : data.length = 1024)
include hsession hupd hid hlt hnew hchunk hdata

theorem completes_updateBlockReceive_badCrc (hs : s.Canon) (hawake : s.Awake) (hwhole : (u.chunksOf block chunk data).length = 64)
    (hcrc : crc32c (blockData u block (u.chunksOf block chunk data)) ≠ u.crcs.getD block 0) :
    Completes (.updateBlockReceive id block chunk data) s (fun t =>
      t.fld F.SEC_UPD_BLOCKS_BLOCK_ERR = s.countUp F.SEC_UPD_BLOCKS_BLOCK_ERR ∧ t.bitmap = s.bitmap ∧
          Frame [.sec] [F.SEC_UPD_BLOCKS_BLOCK_ERR.off] s t) := by
  refine ⟨_, exec_updateBlockReceive hsession hupd hid hlt hnew hchunk hdata hawake, ?_⟩
  rw [Prog.run_when, if_pos (by simpa using hwhole), run_judgeBlock, if_neg hcrc]
  let take : Prog := .seq (.act (.sec (fun x => { x with session := x.session.map (fun v =>
        { v with chunks := addChunk u.chunks block chunk data }) }))) (forgetBlock block)
  have hv : Frame [.sec] [] s (take.run s) := Prog.frame_noRegs _ take (by simp [take, forgetBlock, Act.Within]) s
  obtain ⟨hcount, hframe⟩ := run_count_one (s := take.run s) (hs.run take) F.SEC_UPD_BLOCKS_BLOCK_ERR (by decide) (by decide)
  refine ⟨hcount.trans ?_, (bitmap_congr (congrArg Sec.journal (hframe.1 .sec (by decide) (by decide)))).trans (bitmap_congr rfl),
    (hv.mono (by simp) (by simp)).trans (hframe.mono (by simp) (by simp))⟩
  rw [State.countUp, hv.fld _ (by simp), State.countUp]

theorem completes_updateBlockReceive_verified (hs : s.Canon) (hawake : s.Awake) (hlen : s.sec.journal.length = 2)
    (hwhole : (u.chunksOf block chunk data).length = 64)
    (hcrc : crc32c (blockData u block (u.chunksOf block chunk data)) = u.crcs.getD block 0) :
    Completes (.updateBlockReceive id block chunk data) s (fun t =>
      t.bitmap = insertNat block s.bitmap ∧ t.updCopy.seq = s.updCopy.seq + 1 ∧ t.updCopy.head = u.head) := by
  refine ⟨_, exec_updateBlockReceive hsession hupd hid hlt hnew hchunk hdata hawake, ?_⟩
  rw [Prog.run_when, if_pos (by simpa using hwhole), run_judgeBlock, if_pos hcrc]
  let take : Prog := .seq (.act (.sec (fun x => { x with session := x.session.map (fun v =>
        { v with chunks := addChunk u.chunks block chunk data }) }))) (forgetBlock block)
  have hcopy := run_programBlock (s := take.run s) (hs.run take) u block (blockData u block (u.chunksOf block chunk data)) hlen
  have hbefore : (take.run s).updCopy = s.updCopy := updCopy_congr rfl
  rw [State.bitmap, hbefore] at hcopy
  exact ⟨congrArg UpdCopy.blocks hcopy, congrArg UpdCopy.seq hcopy, congrArg UpdCopy.head hcopy⟩

end

/-! ### Verification and release (R525, R532) -/

theorem completes_bundleVerifyDone_none (h : s.sec.upd ≠ .verifying) : Completes .bundleVerifyDone s (fun t => t = s) := by
  refine .of_go_self rfl ?_
  rw [Prog.run_guard, if_neg (by simpa using h)]

theorem judgeBundle_lt (s : State) (u : UpdSession) : s.judgeBundle u < 256 := by
  have hite {c : Prop} [Decidable c] {x y : Nat} (hx : x < 256) (hy : y < 256) : (if c then x else y) < 256 := by
    split <;> assumption
  exact hite (by decide) (hite (by decide) (by decide))

section
variable {u : UpdSession} (hupd : s.sec.upd = .verifying) (hsession : s.sec.session = some u) (hslots : s.sec.slots.length = 2)
  (hidle : s.idleSlot < 2)
include hupd hsession hslots hidle

/-- A bundle that passes is staged, and the lock is free. -/
theorem completes_bundleVerifyDone_staged (hawake : s.Awake) (hcode : s.judgeBundle u = 0) :
    Completes .bundleVerifyDone s (fun t =>
      t.sec.upd = .staged ∧ t.sec.session = none ∧ (t.slot s.idleSlot).verified = true ∧ Pended 19 s t ∧
          Frame [.sec, .ctl, .freeCount] [] s t) := by
  refine .of_go rfl hawake ?_
  rw [Prog.run_guard, if_pos (by simpa using hupd), Prog.run_dyn, hsession]
  dsimp only
  rw [if_pos hcode, Prog.run_block_cons, Prog.run_block_cons, Prog.run_block_nil, Prog.run_act]
  let v := (Act.sec (fun x => { x with
    slots := modAt x.slots s.idleSlot (fun t => { t with verified := true, headLen := u.head.length }), session := none })).apply s
  have hv : Frame [.sec] [] s v := Act.frame_noRegs (a := .sec _) List.mem_cons_self s
  have hvslot : (v.slot s.idleSlot).verified = true :=
    congrArg Slot.verified (getD_modAt_same s.sec.slots s.idleSlot _ {} (by rw [hslots]; exact hidle))
  obtain ⟨hsec, hframe, hpend⟩ := run_setUpd .staged v
  have hctl : Pended 19 s ((setUpd .staged).run v) := hpend (by rw [show v.sec.upd = s.sec.upd from rfl, hupd]; decide)
  refine ⟨congrArg Sec.upd hsec, congrArg Sec.session hsec, ?_, hctl, (hv.mono (by simp) (by simp)).trans hframe⟩
  rw [State.slot, hsec]
  exact hvslot

/-- A bundle that fails is erased with its bitmap, and blocks arrive again. -/
theorem completes_bundleVerifyDone_failed (hs : s.Canon) (hawake : s.Awake) (hlen : s.sec.journal.length = 2)
    (hcode : s.judgeBundle u ≠ 0) : Completes .bundleVerifyDone s (fun t =>
      t.sec.upd = .downloading ∧ t.bitmap = [] ∧ t.slot s.idleSlot = {} ∧
          t.fld F.SEC_UPD_STATE_ERR = 0x0900 + s.judgeBundle u ∧ t.fld F.SEC_UPD_BLOCKS_VERIFIED = 0 ∧ Pended 19 s t ∧
          Frame [.sec, .ctl, .freeCount] [R.SEC_UPD_STATE, F.SEC_UPD_BLOCKS_VERIFIED.off] s t) := by
  refine .of_go rfl hawake ?_
  rw [Prog.run_guard, if_pos (by simpa using hupd), Prog.run_dyn, hsession]
  dsimp only
  rw [if_neg hcode]
  simp only [Prog.run_block_cons, Prog.run_block_nil, Prog.run_act]
  have hlt := judgeBundle_lt s u
  generalize s.judgeBundle u = code at *
  let v := (reportUpd code).run s
  let w := (Act.sec (fun x => { x with slots := x.slots.set s.idleSlot {} })).apply v
  let x := (writeBitmap u.head []).run w
  let y := loadVerified.run x
  have hvc : v.Canon := hs.run _
  have hwc : w.Canon := hvc.apply _
  have hxc : x.Canon := hwc.run _
  have hv : Frame [] [R.SEC_UPD_STATE] s v :=
    (Prog.frame [] [R.SEC_UPD_STATE] (reportUpd code) (by simp [reportUpd, F.SEC_UPD_STATE_ERR]) s hs).2
  have hw : Frame [.sec] [] v w := Act.frame_noRegs (a := .sec _) List.mem_cons_self v
  have hx : Frame [.sec] [] w x := writeBitmap_frame _ _ w
  have hy : Frame [] [F.SEC_UPD_BLOCKS_VERIFIED.off] x y :=
    (Prog.frame [] [F.SEC_UPD_BLOCKS_VERIFIED.off] loadVerified (by simp [loadVerified]) x hxc).2
  have hsy : Frame [.sec] [R.SEC_UPD_STATE, F.SEC_UPD_BLOCKS_VERIFIED.off] s y :=
    (hv.mono (by simp) (by simp)).trans ((hw.mono (by simp) (by simp)).trans ((hx.mono (by simp) (by simp)).trans
      (hy.mono (by simp) (by simp))))
  have herr : v.fld F.SEC_UPD_STATE_ERR = 0x0900 + code :=
    (State.fld_setFld_same _ _ _ hs ⟨by decide, by decide⟩).trans (Nat.mod_eq_of_lt (show 0x0900 + code < 2 ^ 16 by omega))
  have hyerr : y.fld F.SEC_UPD_STATE_ERR = 0x0900 + code :=
    (hy.fld _ (by decide)).trans ((hx.fld _ (by simp)).trans ((hw.fld _ (by simp)).trans herr))
  have hvsec : v.sec = s.sec := hv.1 .sec (by decide) (by decide)
  have hysec : y.sec = x.sec := hy.1 .sec (by decide) (by decide)
  have hxbits : x.bitmap = [] :=
    congrArg UpdCopy.blocks (updCopy_run_writeBitmap (s := w) (by rw [show w.sec.journal = v.sec.journal from rfl, hvsec]; exact hlen) _ _)
  have hverified : y.fld F.SEC_UPD_BLOCKS_VERIFIED = 0 :=
    (State.fld_setFld_same _ _ _ hxc ⟨by decide, by decide⟩).trans (by rw [hxbits]; rfl)
  have hslot : x.slot s.idleSlot = {} := by
    show (v.sec.slots.set s.idleSlot {}).getD s.idleSlot {} = {}
    rw [hvsec]
    simp [hslots, hidle]
  obtain ⟨hsec, hframe, hpend⟩ := run_setUpd .downloading y
  have hyupd : y.sec.upd ≠ .downloading := by
    rw [hysec, show x.sec.upd = v.sec.upd from rfl, hvsec, hupd]
    decide
  refine ⟨by rw [hsec], ?_, ?_, (hframe.fld _ (by simp)).trans hyerr, (hframe.fld _ (by simp)).trans hverified, ?_,
    (hsy.mono (by simp) (by simp)).trans (hframe.mono (by simp) (by simp))⟩
  · exact (bitmap_congr (s := y) (by rw [hsec])).trans ((bitmap_congr (congrArg Sec.journal hysec)).trans hxbits)
  · rw [State.slot, hsec]
    exact (congrArg (fun x => x.slots.getD s.idleSlot {}) hysec).trans hslot
  · have hp := hpend hyupd
    rw [Pended, hsy.2 _ (by decide), hsy.1 .ctl (by decide) (by decide)] at hp
    exact hp

end

/-- The lock is given up. -/
theorem run_releaseLock (s : State) : let t := releaseLock.run s
    t.sec.session = none ∧ t.sec.upd = .idle ∧ Frame [.sec, .ctl, .freeCount] [] s t := by
  let v := (Act.sec (fun x => { x with session := none })).apply s
  obtain ⟨hsec, hframe, -⟩ := run_setUpd .idle v
  have hv : Frame [.sec] [] s v := Act.frame_noRegs (a := .sec _) List.mem_cons_self s
  have hrun : releaseLock.run s = (setUpd .idle).run v := rfl
  intro t
  rw [show t = _ from hrun]
  exact ⟨congrArg Sec.session hsec, congrArg Sec.upd hsec, (hv.mono (by simp) (by simp)).trans hframe⟩

theorem completes_updateAbandon (hawake : s.Awake) {req : PmpCtx} (hasks : s.Asks req) {u : UpdSession}
    (hsession : s.sec.session = some u) (hholder : u.session = some req.session) : Completes (.updateAbandon req) s (fun t =>
      Answered req 0 [] s t ∧ t.sec.session = none ∧ t.sec.upd = .idle ∧ Frame [.sec, .ctl, .out, .freeCount] [] s t) := by
  refine .of_go rfl hawake ?_
  rw [run_service hasks, Prog.run_dyn, if_pos (by rw [hsession]; exact hholder), Prog.run_seq]
  obtain ⟨hnone, hidle, hframe⟩ := run_releaseLock s
  have hquiet := Prog.Only.quietKept (parts := [.sec, .freeCount]) (P := fun _ => True) (p := releaseLock)
    ⟨by simp [Act.In, Act.Within], setUpd_in (by simp) (by simp) _⟩ (by simp) s
  have hreplied := run_respond (hasks.of_quietKept hquiet) 0 []
  have hsec := hreplied.frame.1 .sec (by decide) (by decide)
  exact ⟨hreplied.answered hframe (by decide), (congrArg Sec.session hsec).trans hnone, (congrArg Sec.upd hsec).trans hidle,
    (hreplied.after hframe).mono (by simp) (by simp)⟩

theorem completes_updateAbandon_other (hawake : s.Awake) {req : PmpCtx} (hasks : s.Asks req) {u : UpdSession}
    (hsession : s.sec.session = some u) (hholder : u.session ≠ some req.session) : Completes (.updateAbandon req) s (fun t =>
      Answered req 2 [] s t ∧ Frame [.ctl, .out] [] s t) := by
  refine .of_go rfl hawake ?_
  rw [run_service hasks, Prog.run_dyn, if_neg (by rw [hsession]; exact hholder)]
  have hreplied := run_respond hasks 2 []
  exact ⟨hreplied.out, hreplied.frame⟩

theorem completes_updateLockTimeout (hawake : s.Awake) {u : UpdSession} {c stamp : Time} (hsession : s.sec.session = some u)
    (hclosed : u.closedAt = some c) (h : c + oneMinute ≤ stamp) : Completes (.updateLockTimeout stamp) s (fun t =>
      t.sec.session = none ∧ t.sec.upd = .idle ∧ Frame [.sec, .ctl, .freeCount] [] s t) := by
  refine .of_go rfl hawake ?_
  rw [Prog.run_dyn, show s.sec.session.bind (·.closedAt) = some c by rw [hsession]; exact hclosed]
  dsimp only
  rw [Prog.run_when, if_pos (decide_eq_true h)]
  exact run_releaseLock s

theorem completes_updateLockTimeout_none {u : UpdSession} {c stamp : Time} (hsession : s.sec.session = some u)
    (hclosed : u.closedAt = some c) (h : stamp < c + oneMinute) : Completes (.updateLockTimeout stamp) s (fun t => t = s) := by
  refine .of_go_self rfl ?_
  rw [Prog.run_dyn, show s.sec.session.bind (·.closedAt) = some c by rw [hsession]; exact hclosed]
  dsimp only
  rw [Prog.run_when, if_neg (by simpa using h)]

/-! ### Status (R531, R536) -/

theorem completes_updateStatusSend_none (h : s.here = none) : Completes .updateStatusSend s (fun t => t = s) := by
  refine .of_go_self rfl ?_
  rw [Prog.run_guard, if_neg (by simp [h])]

theorem completes_updateStatusSend (hs : s.Canon) (hawake : s.Awake) {p : Nat} (hhere : s.here.isSome = true)
    (hnone : s.sec.session = none) (hleaves : s.LeavesBy p 3 6 s.rootA (streamPayload s.ctl.nextStream 2 0 s.statusBytes)) :
    Completes .updateStatusSend s (fun t =>
        t.out = s.left p 3 6 s.rootA (streamPayload s.ctl.nextStream 2 0 s.statusBytes) :: s.out ∧
        Frame [.fab, .ctl, .out] [(F.FAB_P_TX_COUNT p).off] s t) := by
  refine .of_go rfl hawake ?_
  rw [Prog.run_guard, if_pos hhere, Prog.run_dyn]
  dsimp only
  rw [hnone, Option.map_none, Prog.run_seq, Prog.run_nil, Prog.run_when, if_pos (by simp)]
  have hlen : s.statusBytes.length = 20 := by simp [State.statusBytes]
  obtain ⟨hout, -, hframe⟩ := run_streamOut_leaves hs (by omega) (by omega) hleaves
  exact ⟨hout, hframe⟩

theorem completes_updateStatusReceive (hawake : s.Awake) (r : UpdReport) (hnone : s.sec.session = none) :
    Completes (.updateStatusReceive r) s (fun t =>
      t.sec = { s.sec with reports := r :: s.sec.reports.filter (fun x => x.node != r.node) } ∧ Frame [.sec] [] s t) := by
  refine .of_go rfl hawake ?_
  let v := (Act.sec (fun x => { x with reports := r :: x.reports.filter (fun y => y.node != r.node) })).apply s
  rw [Prog.run_seq, Prog.run_act, Prog.run_dyn, show v.sec.session = none from hnone]
  exact ⟨rfl, Act.frame_noRegs (a := .sec _) List.mem_cons_self s⟩

/-! ### Activation and the guard flags (R528, R536) -/

/-- The deciding node runs a screen-wide request itself. -/
theorem run_screenWide {req : PmpCtx} (hasks : s.Asks req) (hdecides : s.isDecider = true) (svc : Nat) (body : List Byte) (p : Prog) :
    (screenWide svc req body p).run s = p.run s := by
  rw [screenWide, run_service hasks, Prog.run_dyn, if_pos hdecides]

theorem completes_updateActivate_refused (hs : s.Canon) (hawake : s.Awake) {req : PmpCtx} (hasks : s.Asks req)
    (hdecides : s.isDecider = true) {id : Word} (hcode : s.judgeActivate id req.stamp ≠ 0) (hlt : s.judgeActivate id req.stamp < 256) :
    Completes (.updateActivate req id) s (fun t =>
      Answered req (0x0900 + s.judgeActivate id req.stamp) [] s t ∧ Pended 20 s t ∧ Frame [.ctl, .out] [R.SEC_UPD_STATE] s t) := by
  refine .of_go rfl hawake ?_
  rw [run_screenWide hasks hdecides, Prog.run_dyn]
  dsimp only
  rw [if_pos hcode, Prog.run_seq]
  generalize s.judgeActivate id req.stamp = code at *
  obtain ⟨-, hpend, hframe⟩ := run_updRefused hs hlt req.stamp
  have hquiet := Prog.Only.quietKept (parts := []) (P := fun _ => True) (p := updRefused code req.stamp)
    (by simp [updRefused, reportUpd]) (by simp) s
  have hreplied := run_respond (hasks.of_quietKept hquiet) (0x0900 + code) []
  exact ⟨hreplied.answered hframe (by decide), hreplied.pended hpend, (hreplied.after hframe).mono (by simp) (by simp)⟩

theorem completes_updateActivate (hawake : s.Awake) {req : PmpCtx} (hasks : s.Asks req) (hdecides : s.isDecider = true)
    {id : Word} (hcode : s.judgeActivate id req.stamp = 0) (hnone : s.cmt.decider.actReq = none) :
    Completes (.updateActivate req id) s (fun t =>
      Answered req 0 [] s t ∧ t.cmt.decider.actReq = some (s.S + 64, id) ∧ t.cmt.decider.actCarried = false ∧
        Frame [.cmt, .ctl, .out] [] s t) := by
  refine .of_go rfl hawake ?_
  rw [run_screenWide hasks hdecides, Prog.run_dyn]
  dsimp only
  rw [if_neg (not_not.2 hcode), if_neg (by simp [hnone]), Prog.run_seq]
  let v := (modDecider (fun d => { d with actReq := some (s.S + 64, id), actCarried := false })).run s
  have hv : Frame [.cmt] [] s v := Prog.frame_noRegs _ (modDecider _) (by simp [modDecider, Act.Within]) s
  have hreplied := run_respond (hasks.congr (t := v) rfl) 0 []
  have hcmt := hreplied.frame.1 .cmt (by decide) (by decide)
  exact ⟨hreplied.answered hv (by decide), congrArg (fun c => c.decider.actReq) hcmt,
    congrArg (fun c => c.decider.actCarried) hcmt, (hreplied.after hv).mono (by simp) (by simp)⟩

/-- A change of the security state that is answered. -/
theorem run_sec_respond {req : PmpCtx} (hasks : s.Asks req) (f : Sec → Sec) :
    let t := (Prog.seq (.act (.sec f)) (respond req 0 [])).run s
    Answered req 0 [] s t ∧ t.sec = f s.sec ∧ Frame [.sec, .ctl, .out] [] s t := by
  let v := (Act.sec f).apply s
  have hv : Frame [.sec] [] s v := Act.frame_noRegs (a := .sec _) List.mem_cons_self s
  have hreplied := run_respond (hasks.congr (t := v) rfl) 0 []
  exact ⟨hreplied.answered hv (by decide), hreplied.frame.1 .sec (by decide) (by decide),
    (hreplied.after hv).mono (by simp) (by simp)⟩

theorem completes_onAir (hawake : s.Awake) {req : PmpCtx} (hasks : s.Asks req) (hdecides : s.isDecider = true) {c : Instr} {b : Bool}
    (h : (c, b) ∈ [(Instr.onAirSet req, true), (.onAirClear req, false)]) : Completes c s (fun t =>
      Answered req 0 [] s t ∧ t.sec = { s.sec with onAirNext := some (b, req.stamp) } ∧ Frame [.sec, .ctl, .out] [] s t) := by
  simp only [List.mem_cons, List.not_mem_nil, or_false, Prod.mk.injEq] at h
  obtain ⟨rfl, rfl⟩ | ⟨rfl, rfl⟩ := h
  · refine .of_go rfl hawake ?_
    rw [run_screenWide hasks hdecides]
    exact run_sec_respond hasks _
  · refine .of_go rfl hawake ?_
    rw [run_screenWide hasks hdecides]
    exact run_sec_respond hasks _

theorem completes_updateLock (hawake : s.Awake) {req : PmpCtx} (hasks : s.Asks req) {c : Instr} {b : Bool}
    (h : (c, b) ∈ [(Instr.updateLockSet req, true), (.updateLockClear req, false)]) : Completes c s (fun t =>
      Answered req 0 [] s t ∧ t.sec = { s.sec with updLock := b } ∧ Frame [.sec, .ctl, .out] [] s t) := by
  simp only [List.mem_cons, List.not_mem_nil, or_false, Prod.mk.injEq] at h
  obtain ⟨rfl, rfl⟩ | ⟨rfl, rfl⟩ := h
  · refine .of_go rfl hawake ?_
    rw [run_service hasks]
    exact run_sec_respond hasks _
  · refine .of_go rfl hawake ?_
    rw [run_service hasks]
    exact run_sec_respond hasks _

/-- Settles O60. -/
theorem updatesRun : Obligations.UpdatesRun := by
  unfold Obligations.UpdatesRun
  intro s hinv hawake
  have hs : s.Canon := hinv.canon
  refine ⟨fun req rect head crcs hasks hblocks hhead hlen => ?_, completes_updateOfferRelayReceive hs hawake,
    fun u id block chunk data hsession => ⟨completes_updateBlockReceive_none hsession id,
      fun hupd hlen _ hid hlt hnew hchunk hdata => ⟨completes_updateBlockReceive_chunk hsession hupd hid hlt hnew hchunk hdata hawake,
        completes_updateBlockReceive_badCrc hsession hupd hid hlt hnew hchunk hdata hs hawake,
        completes_updateBlockReceive_verified hsession hupd hid hlt hnew hchunk hdata hs hawake hlen⟩⟩,
    completes_bundleVerifyDone_none, fun u hupd hsession hslots hlen hidle => ?_,
    fun req u hasks hsession => ⟨completes_updateAbandon hawake hasks hsession, completes_updateAbandon_other hawake hasks hsession⟩,
    fun u c stamp hsession hclosed => ⟨completes_updateLockTimeout hawake hsession hclosed,
      completes_updateLockTimeout_none hsession hclosed⟩,
    completes_updateStatusSend_none, fun p => completes_updateStatusSend hs hawake, completes_updateStatusReceive hawake,
    fun req id hasks hdecides => ⟨completes_updateActivate_refused hs hawake hasks hdecides,
      completes_updateActivate hawake hasks hdecides⟩,
    fun req hasks hdecides c b => completes_onAir hawake hasks hdecides, fun req hasks c b => completes_updateLock hawake hasks⟩
  · by_cases hcode : s.judgeOffer head crcs req.stamp = 0
    · simp only [if_pos hcode]
      exact completes_updateOffer hs hawake hasks rect hblocks hhead hlen hcode
    · simp only [if_neg hcode]
      exact completes_updateOffer_refused hs hawake hasks rect hcode
  · by_cases hcode : s.judgeBundle u = 0
    · simp only [if_pos hcode]
      exact completes_bundleVerifyDone_staged hupd hsession hslots hidle hawake hcode
    · simp only [if_neg hcode]
      exact completes_bundleVerifyDone_failed hupd hsession hslots hidle hs hawake hlen hcode

end Sys2Proof.Machine
end

section
/-! PROOF. Runs of writes to memory, table addresses and recorded errors of the metrology port (R219, R250, R456, R463, R583). -/

namespace Sys2Proof.Machine

variable {s : State}

/-! ### Runs of writes where nothing is pinned or poisoned -/

/-- No write is discarded for a pin, and no line is poisoned (R250, R463). -/
structure State.Writable (s : State) : Prop where
  inv : s.Inv
  pins : s.pins' = []
  poison : s.dmc.poison = []

theorem pins'_nil_congr {t : State} (h : s.pins' = []) (hlyr : t.lyr = s.lyr) (hpdl : t.pdl = s.pdl)
    (hlock : t.reg R.LYR_CTRL = s.reg R.LYR_CTRL) : t.pins' = [] := by
  have hflag : t.flag F.LYR_CTRL_LOCK = s.flag F.LYR_CTRL_LOCK := by
    rw [State.flag, State.fld, show t.reg F.LYR_CTRL_LOCK.off = s.reg F.LYR_CTRL_LOCK.off from hlock, State.flag, State.fld]
  unfold State.pins' at h ⊢
  rw [List.append_eq_nil_iff, List.append_eq_nil_iff] at h
  obtain ⟨⟨hheld, hframes⟩, hslate⟩ := h
  have hopen : ¬ s.flag F.LYR_CTRL_LOCK = true := by
    intro hon
    rw [if_pos hon] at hslate
    simp at hslate
  rw [hlyr, hpdl, hflag, if_neg hopen, hframes, List.append_nil, List.append_nil]
  exact hheld

theorem State.Writable.congr {t : State} {parts : List Part} {offs : List Nat} (h : s.Writable) (hinv : t.Inv)
    (hf : Frame parts offs s t) (hp : Part.lyr ∉ parts ∧ Part.pdl ∉ parts) (ho : R.LYR_CTRL ∉ offs) (hpoison : t.dmc.poison = []) :
    t.Writable :=
  ⟨hinv, pins'_nil_congr h.pins (hf.1 .lyr hp.1 (by decide)) (hf.1 .pdl hp.2 (by decide)) (hf.2 _ ho), hpoison⟩

theorem MemOutside.refl (lo n : Nat) (s : State) : MemOutside lo n s s := fun _ _ => rfl

theorem memOutside_act (h : s.Inv) (a : Nat) (data : List Byte) : MemOutside a data.length s ((Act.mem a data).apply s) := by
  obtain ⟨-, -, hmem, -, -⟩ := h
  exact fun c hc => Memory.read_writeBytes_outside data s.mem a c hmem hc

/-- A run of writes that meets no pin and no poison changes its bytes and nothing else. -/
structure Wrote (a n : Nat) (s t : State) : Prop where
  writable : t.Writable
  outside : MemOutside a n s t
  frame : Frame [.mem, .dmc] [] s t

theorem Wrote.refl (h : s.Writable) (a n : Nat) : Wrote a n s s :=
  ⟨h, MemOutside.refl a n s, (Frame.refl [] [] s).mono (by simp) (by simp)⟩

theorem wrote_act (h : s.Writable) (a : Nat) (data : List Byte) : Wrote a data.length s ((Act.mem a data).apply s) := by
  have hf : Frame [.mem] [] s ((Act.mem a data).apply s) := Act.frame_noRegs (a := .mem _ _) List.mem_cons_self s
  exact ⟨h.congr (Prog.run_inv (.act (.mem a data)) s h.inv) hf (by decide) (by simp) h.poison, memOutside_act h.inv a data,
    hf.mono (by simp) (by simp)⟩

theorem run_storeBytes (h : s.Writable) (src a : Nat) (data : List Byte) :
    Wrote a data.length s ((storeBytes src a data).run s) := by
  have hbad (l : Nat) : s.lineBad l = false := by rw [State.lineBad, h.poison]; rfl
  obtain ⟨hw, hout, hf⟩ := wrote_act h a data
  let v := (Act.mem a data).apply s
  let g : Dram → Dram := fun d => { d with poison := d.poison.filter (fun l => !(a ≤ l * 128 && l * 128 + 128 ≤ a + data.length)) }
  have hrun : (storeBytes src a data).run s = (Act.dmc g).apply v := by
    rw [storeBytes, Prog.run_dyn]
    simp only [hbad, Bool.false_and, List.filter_false, Prog.run_block_cons, Prog.run_block_nil, Prog.run_act, Prog.run_each_nil]
    rfl
  have hg : Frame [.dmc] [] v ((Act.dmc g).apply v) := Act.frame_noRegs (a := .dmc _) List.mem_cons_self v
  have hnone : ((Act.dmc g).apply v).dmc.poison = [] := by
    show v.dmc.poison.filter _ = []
    rw [hw.poison, List.filter_nil]
  rw [hrun]
  exact ⟨hw.congr (Prog.run_inv (.act (.dmc g)) v hw.inv) hg (by decide) (by simp) hnone, hout,
    hf.trans (hg.mono (by simp) (by simp))⟩

theorem run_memWrite (h : s.Writable) (src a : Nat) (data : List Byte) : Wrote a data.length s ((memWrite src a data).run s) := by
  have hpinned : s.pinned a data.length = false := by rw [State.pinned, h.pins]; rfl
  rw [memWrite, Prog.run_dyn]
  dsimp only
  split
  · exact .refl h a _
  · split
    · rw [hpinned, if_neg (by simp)]
      exact run_storeBytes h src a data
    · split
      · exact wrote_act h a data
      · exact .refl h a _

theorem run_memWriteLines (src n : Nat) (h : s.Writable) (a : Nat) (data : List Byte) :
    Wrote a data.length s ((memWriteLines src n a data).run s) := by
  induction n generalizing s a data with
  | zero => exact .refl h a _
  | succ n ih =>
    rw [memWriteLines]
    split
    · exact .refl h a _
    · dsimp only
      rw [Prog.run_seq]
      obtain ⟨hw, hout, hf⟩ := run_memWrite h src a (data.take (128 - a % 128))
      obtain ⟨hw', hout', hf'⟩ := ih hw (a + (128 - a % 128)) (data.drop (128 - a % 128))
      refine ⟨hw', fun c hc => ?_, hf.trans hf'⟩
      rw [List.length_take] at hout
      rw [List.length_drop] at hout'
      exact (hout' c (by omega)).trans (hout c (by omega))

/-- A run written line by line where nothing is pinned or poisoned. -/
theorem run_memStream (h : s.Writable) (src a : Nat) (data : List Byte) : Wrote a data.length s ((memStream src a data).run s) :=
  run_memWriteLines src _ h a data

/-! ### Runs of writes in any state -/

/-- The registers in which a write of memory may leave a discarded or a poisoned line (R250, R463). -/
def memRegs : List Nat :=
  [R.LYR_PIN_FAULT_LO, R.LYR_PIN_FAULT_HI, F.LYR_PIN_FAULT_COUNT_COUNT.off, R.DMC_UE_ADDR_LO, R.DMC_UE_ADDR_HI, R.DMC_UE_INFO,
    F.DMC_UE_COUNT_COUNT.off]

section
variable {parts : List Part} (hmem : Part.mem ∈ parts) (hdmc : Part.dmc ∈ parts) (hfree : Part.freeCount ∈ parts)
include hmem hdmc hfree

theorem memWrite_in (src a : Nat) (data : List Byte) : (memWrite src a data).Only (Act.In parts (· ∈ memRegs)) := by
  have hue (l code words : Nat) : (reportUe l src code words none).Only (Act.In parts (· ∈ memRegs)) := by
    intro s
    simp +decide [raiseIn, hfree, F.DMC_UE_ADDR_HI_ADDR_HI, F.DMC_UE_INFO_SRC, F.DMC_UE_INFO_CODE, F.DMC_UE_INFO_CW]
  have hpin : (pinFault src a).Only (Act.In parts (· ∈ memRegs)) := by
    intro s
    simp +decide [hfree, F.LYR_PIN_FAULT_HI_ADDR_HI, F.LYR_PIN_FAULT_HI_SRC]
  have hstore : (storeBytes src a data).Only (Act.In parts (· ∈ memRegs)) := by
    intro s
    simp [hue, Act.In, Act.Within, hmem, hdmc]
  intro s
  simp [hpin, hstore, Act.In, Act.Within, hmem]

theorem memWriteLines_in (src n a : Nat) (data : List Byte) : (memWriteLines src n a data).Only (Act.In parts (· ∈ memRegs)) := by
  induction n generalizing a data with
  | zero => trivial
  | succ n ih =>
    rw [memWriteLines]
    split
    · trivial
    · exact ⟨memWrite_in hmem hdmc hfree src a _, ih _ _⟩

theorem memStream_in (src a : Nat) (data : List Byte) : (memStream src a data).Only (Act.In parts (· ∈ memRegs)) :=
  memWriteLines_in hmem hdmc hfree src _ a data

end

/-! ### Table addresses (R219, R583) -/

/-- The registers that a write of a table's addresses may change. -/
def tableOffs (t : TableId) : List Nat := F.COL_STATUS_CHECKING.off :: (tableRegs t).map Prod.fst

theorem run_tableWrite (hs : s.Canon) (t : TableId) {i : Nat} (hi : i < (tableRegs t).length) (v : Word) (stamp : Time) :
    let u := (tableWrite t i v stamp).run s
    (u.tableChg t).checking = true ∧ (∀ t', t' ≠ t → u.tableChg t' = s.tableChg t') ∧ Frame [.grv] (tableOffs t) s u := by
  have hget : (tableRegs t)[i]? = some (tableRegs t)[i] := List.getElem?_eq_getElem hi
  have hmem : ((tableRegs t)[i]).1 ∈ tableOffs t := .tail _ (List.mem_map_of_mem (List.getElem_mem hi))
  generalize (tableRegs t)[i] = r at hget hmem
  let first : Prog := .seq (.setReg r.1 (v &&& r.2))
    (modTable t (fun c => { c with checking := true, lastWrite := stamp, atStart := false }))
  let last : Prog := .when (t == .colour) (.setFld F.COL_STATUS_CHECKING 1)
  have hrun : (tableWrite t i v stamp).run s = last.run (first.run s) := by
    rw [tableWrite, hget]
    rfl
  have hfirst : Frame [.grv] (tableOffs t) s (first.run s) :=
    (Prog.frame _ _ first (by simp [first, hmem, modTable, Act.Within]) s hs).2
  have hlast : Frame [] (tableOffs t) (first.run s) (last.run (first.run s)) :=
    (Prog.frame _ _ last (Prog.only_when _ (fun _ => .head _)) _ (hs.run first)).2
  have hchg (t' : TableId) : (last.run (first.run s)).tableChg t' = (first.run s).tableChg t' := by
    have hgrv : (last.run (first.run s)).grv = (first.run s).grv := hlast.1 .grv (by decide) (by decide)
    cases t' <;> simp only [State.tableChg, hgrv]
  intro u
  rw [show u = _ from hrun]
  refine ⟨?_, fun t' ht => ?_, hfirst.trans (hlast.mono (by simp) (by simp))⟩
  · rw [hchg]
    cases t <;> rfl
  · rw [hchg]
    cases t <;> cases t' <;> first | rfl | exact absurd rfl ht

theorem run_each_tableWrite (t : TableId) (v : Nat → Word) (stamp : Time) (l : List Nat) (hl : ∀ i ∈ l, i < (tableRegs t).length)
    {s : State} (hs : s.Canon) : let u := (Prog.each l (fun i => tableWrite t i (v i) stamp)).run s
    (l ≠ [] ∨ (s.tableChg t).checking = true → (u.tableChg t).checking = true) ∧
      (∀ t', t' ≠ t → u.tableChg t' = s.tableChg t') ∧ Frame [.grv] (tableOffs t) s u := by
  induction l generalizing s with
  | nil => exact ⟨fun h => h.resolve_left (by simp), fun _ _ => rfl, (Frame.refl [] [] s).mono (by simp) (by simp)⟩
  | cons i l ih =>
    obtain ⟨hcheck, hother, hf⟩ := run_tableWrite hs t (hl i List.mem_cons_self) (v i) stamp
    obtain ⟨hcheck', hother', hf'⟩ := ih (fun j hj => hl j (List.mem_cons_of_mem _ hj)) (hs.run (tableWrite t i (v i) stamp))
    exact ⟨fun _ => hcheck' (.inr hcheck), fun t' ht => (hother' t' ht).trans (hother t' ht), hf.trans hf'⟩

/-- The four colour address registers. -/
theorem run_writeColour (hs : s.Canon) (words : List Word) (t : Time) : let u := (writeColour words t).run s
    u.grv.colChg.checking = true ∧ u.grv.dirChg = s.grv.dirChg ∧ u.grv.boundsChg = s.grv.boundsChg ∧
      Frame [.grv] (tableOffs .colour) s u := by
  obtain ⟨hcheck, hother, hf⟩ := run_each_tableWrite .colour (fun k => words.getD k 0) t (List.range 4)
    (fun i hi => by simpa [tableRegs] using hi) hs
  exact ⟨hcheck (.inl (by simp)), hother .dirs (by simp), hother .bounds (by simp), hf⟩

/-! ### Errors of the metrology port (R456) -/

/-- What an error of the metrology port leaves in MET_ERR. -/
def metCount (code : Nat) : Prog :=
  .dyn (fun s => .block [.when (s.fld F.MET_ERR_COUNT == 0) (.setFld F.MET_ERR_CODE code), .count F.MET_ERR_COUNT 1])

theorem run_metCount (hs : s.Canon) (code : Nat) : let u := (metCount code).run s
    u.fld F.MET_ERR_COUNT = s.countUp F.MET_ERR_COUNT ∧ Frame [] [F.MET_ERR_COUNT.off] s u := by
  let v := (Prog.when (s.fld F.MET_ERR_COUNT == 0) (.setFld F.MET_ERR_CODE code)).run s
  have hrun : (metCount code).run s = (Prog.count F.MET_ERR_COUNT 1).run v := rfl
  have hv : v.fld F.MET_ERR_COUNT = s.fld F.MET_ERR_COUNT := by
    show ((Prog.when _ _).run s).fld _ = _
    rw [Prog.run_when]
    split
    · exact State.fld_setFld_other _ _ _ _ hs ⟨by decide, by decide⟩ (by decide)
    · rfl
  have hvc : v.Canon := hs.run _
  obtain ⟨hcount, -⟩ := run_count_one hvc F.MET_ERR_COUNT (by decide) (by decide)
  refine ⟨?_, (Prog.frame [] [F.MET_ERR_COUNT.off] (metCount code) ?_ s hs).2⟩
  · rw [hrun, hcount, State.countUp, hv, State.countUp]
  · intro s
    simp [F.MET_ERR_CODE, F.MET_ERR_COUNT]

/-- A code of the calibration service raises no event. -/
theorem run_metError_service (code : Nat) (h : 0x20 ≤ code) (t : Option Time) (s : State) :
    (metError code t).run s = (metCount code).run s := by
  have hlow : decide (code < 0x20) = false := decide_eq_false (by omega)
  rw [metError, Prog.run_dyn, metCount, Prog.run_dyn, hlow]
  rfl

theorem run_metError_port (code : Nat) (h : code < 0x20) (t : Option Time) (s : State) :
    (metError code t).run s = (raiseIn 428 t).run ((metCount code).run s) := by
  have hlow : decide (code < 0x20) = true := decide_eq_true h
  rw [metError, Prog.run_dyn, metCount, Prog.run_dyn, hlow]
  rfl

/-- An error of the port is counted, and raises its event at an instant that the command gives. -/
theorem run_metError_at (hs : s.Canon) {code : Nat} (h : code < 0x20) (t : Time) : let u := (metError code (some t)).run s
    u.fld F.MET_ERR_COUNT = s.countUp F.MET_ERR_COUNT ∧ Pended 428 s u ∧ Frame [.ctl] [F.MET_ERR_COUNT.off] s u := by
  obtain ⟨hcount, hf⟩ := run_metCount hs code
  have hraise := frame_raiseAt 428 t ((metCount code).run s)
  rw [run_metError_port code h]
  exact ⟨(hraise.fld _ (by simp)).trans hcount, hf.pended_raiseAt t (by decide) (by decide),
    (hf.mono (by simp) (by simp)).trans (hraise.mono (by simp) (by simp))⟩

/-- An error of the port is counted, and raises its event at an open instant. -/
theorem run_metError_open (hs : s.Canon) {code : Nat} (h : code < 0x20) : let u := (metError code none).run s
    u.fld F.MET_ERR_COUNT = s.countUp F.MET_ERR_COUNT ∧ Pended 428 s u ∧ Frame [.ctl, .freeCount] [F.MET_ERR_COUNT.off] s u := by
  obtain ⟨hcount, hf⟩ := run_metCount hs code
  let v := (Act.free 1).apply ((metCount code).run s)
  have hv : Frame [.freeCount] [] ((metCount code).run s) v := Act.frame_noRegs (a := .free 1) List.mem_cons_self _
  have hfv : Frame [.freeCount] [F.MET_ERR_COUNT.off] s v := (hf.mono (by simp) (by simp)).trans (hv.mono (by simp) (by simp))
  have hraise := frame_raiseAt 428 (Config.freeStamp ((metCount code).run s).freeCount) v
  have hrun : (metError code none).run s =
      (Prog.raiseAt 428 (Config.freeStamp ((metCount code).run s).freeCount)).run v := run_metError_port code h none s
  rw [hrun]
  exact ⟨(hraise.fld _ (by simp)).trans hcount, hfv.pended_raiseAt _ (by decide) (by decide),
    (hfv.mono (by simp) (by simp)).trans (hraise.mono (by simp) (by simp))⟩

end Sys2Proof.Machine
end

section
/-! PROOF. O56: the calibration service (R449 to R455). -/

namespace Sys2Proof.Machine

variable {s : State} {req : PmpCtx}

/-! ### Refusals -/

/-- A request of the calibration service that is refused counts as an error of the port (Table 15.6). -/
theorem run_metRefuse (hs : s.Canon) (hasks : s.Asks req) (code : Nat) (h : 0x20 ≤ code) : let t := (metRefuse req code).run s
    Answered req (0x0800 + code) [] s t ∧ t.met = s.met ∧ t.fld F.MET_ERR_COUNT = s.countUp F.MET_ERR_COUNT ∧ t.grv = s.grv := by
  obtain ⟨hcount, hf⟩ := run_metCount hs code
  have hrun : (metRefuse req code).run s = (respond req (0x0800 + code) []).run ((metCount code).run s) := by
    rw [metRefuse, Prog.run_seq, run_metError_service code h]
  have hreplied := run_respond (s := (metCount code).run s) (hasks.congr (congrArg Control.sessions (hf.1 .ctl (by decide) (by decide))))
    (0x0800 + code) []
  rw [hrun]
  exact ⟨hreplied.answered hf (by decide), Eq.trans (hreplied.frame.1 .met (by decide) (by decide)) (hf.1 .met (by decide) (by decide)),
    (hreplied.frame.fld _ (by simp)).trans hcount,
    Eq.trans (hreplied.frame.1 .grv (by decide) (by decide)) (hf.1 .grv (by decide) (by decide))⟩

theorem calOf_eq (c : CalSession) (h : s.calOf req = some c) : s.met.cal = some c := by
  rw [State.calOf, Option.filter_eq_some_iff] at h
  exact h.1

/-! ### Opening a session (R449, R450) -/

theorem completes_calSessionOpen_held (hs : s.Canon) (hawake : s.Awake) (hasks : s.Asks req) (force : Bool) (a b : Nat)
    (hcal : s.met.cal.isSome = true) : Completes (.calSessionOpen req force a b) s (fun t =>
      Answered req 0x0820 [] s t ∧ t.met = s.met ∧ t.fld F.MET_ERR_COUNT = s.countUp F.MET_ERR_COUNT) := by
  refine .of_go rfl hawake ?_
  rw [run_service hasks, Prog.run_dyn, if_pos hcal]
  obtain ⟨hanswer, hmet, hcount, -⟩ := run_metRefuse hs hasks 0x20 (by decide)
  exact ⟨hanswer, hmet, hcount⟩

theorem completes_calSessionOpen_onAir (hs : s.Canon) (hawake : s.Awake) (hasks : s.Asks req) (force : Bool) (a b : Nat)
    (hcal : s.met.cal = none) (hscreen : s.cmt.screen = .show) (hair : s.sec.onAir = true) :
    Completes (.calSessionOpen req force a b) s (fun t => Answered req 0x0821 [] s t ∧ t.met = s.met) := by
  refine .of_go rfl hawake ?_
  rw [run_service hasks, Prog.run_dyn, if_neg (by simp [hcal]), if_pos (by simp [hscreen, hair])]
  obtain ⟨hanswer, hmet, -⟩ := run_metRefuse hs hasks 0x21 (by decide)
  exact ⟨hanswer, hmet⟩

theorem length_flatMap_same {α β : Type} (l : List α) (f : α → List β) (n : Nat) (h : ∀ x, (f x).length = n) :
    (l.flatMap f).length = l.length * n := by
  rw [List.length_flatMap, List.map_congr_left (fun x _ => h x), List.map_const', List.sum_replicate, smul_eq_mul]

theorem length_neutralTable : neutralTable.length = 0x7000 := by
  have hregion (k : Nat) : ((List.range 9).flatMap (fun k => leBytes 4 (if k % 4 = 0 then 0x10000 else 0))).length = 36 :=
    length_flatMap_same _ _ 4 fun _ => length_leBytes _ _
  rw [neutralTable, List.length_append, List.length_append, List.length_replicate, length_flatMap_same _ _ 36 hregion,
    length_flatMap_same _ _ 2 fun _ => length_leBytes _ _, List.length_range, List.length_range]

theorem length_neutralMap : neutralMap.length = 0x600000 := by
  rw [neutralMap, length_flatMap_same _ _ 2 fun _ => length_leBytes _ _, List.length_range]

/-- Two runs of writes and the colour addresses (R219, R250). -/
theorem run_colourTables (h : s.Writable) (table map : List Byte) (a b : Nat) (t : Time) :
    let u := (writeColour (addrWords a b) t).run ((memStream 0 b map).run ((memStream 0 a table).run s))
    u.grv.colChg.checking = true ∧
      (∀ x, (x < a ∨ a + table.length ≤ x) → (x < b ∨ b + map.length ≤ x) → Memory.read u.mem x = Memory.read s.mem x) ∧
      Frame [.mem, .dmc, .grv] (tableOffs .colour) s u := by
  obtain ⟨hvw, hvout, hv⟩ := run_memStream h 0 a table
  generalize (memStream 0 a table).run s = v at *
  obtain ⟨hww, hwout, hw⟩ := run_memStream hvw 0 b map
  generalize (memStream 0 b map).run v = w at *
  obtain ⟨hcheck, -, -, hx⟩ := run_writeColour hww.inv.canon (addrWords a b) t
  refine ⟨hcheck, fun c hca hcb => ?_, (hv.mono (by simp) (by simp)).trans ((hw.mono (by simp) (by simp)).trans
    (hx.mono (by simp) (by simp)))⟩
  exact (hx.1 .mem (by decide) (by decide) c).trans ((hwout c hcb).trans (hvout c hca))

/-- A session opens with a neutral table and a neutral map, which are staged. -/
theorem completes_calSessionOpen (hinv : s.Inv) (hawake : s.Awake) (hasks : s.Asks req) (force : Bool) (a b : Nat)
    (hcal : s.met.cal = none) (hscreen : s.cmt.screen ≠ .show) (hseen : s.sensorSeen req.stamp = true) (hpins : s.pins' = [])
    (hpoison : s.dmc.poison = []) : Completes (.calSessionOpen req force a b) s (fun t =>
        Answered req 0 [] s t ∧
        t.met.cal = some { client := req.session, force := force, prevTable := s.tableShadow .colour } ∧
        t.grv.colChg.checking = true ∧
        (∀ x, (x < a ∨ a + 0x7000 ≤ x) → (x < b ∨ b + 0x600000 ≤ x) → Memory.read t.mem x = Memory.read s.mem x) ∧
        Frame [.met, .mem, .dmc, .grv, .ctl, .out]
          [R.COL_TABLE_LO, R.COL_TABLE_HI, R.COL_GMAP_LO, R.COL_GMAP_HI, F.COL_STATUS_CHECKING.off] s t) := by
  refine .of_go rfl hawake ?_
  rw [run_service hasks, Prog.run_dyn, if_neg (by simp [hcal]), if_neg (by simp [hscreen]), if_neg (by simp [hseen]),
    Prog.run_block_cons, Prog.run_block_cons, Prog.run_block_cons, Prog.run_block_cons, Prog.run_block_cons, Prog.run_block_nil]
  generalize hmade : Prog.act (Act.met _) = made
  have hwithin : made.Only (Act.Within [.met] []) := by simp [← hmade, Act.Within]
  have hset : (made.run s).met.cal = some { client := req.session, force := force, prevTable := s.tableShadow .colour } := by
    rw [← hmade]
    rfl
  have hdmc : (made.run s).dmc = s.dmc := (Prog.frame_noRegs _ made hwithin s).1 .dmc (by decide) (by decide)
  have hu : Frame [.met] [] s (made.run s) := Prog.frame_noRegs _ made hwithin s
  have huw : (made.run s).Writable := State.Writable.congr (s := s) ⟨hinv, hpins, hpoison⟩ (Prog.run_inv made s hinv) hu
    (by decide) (by simp) (by rw [hdmc]; exact hpoison)
  obtain ⟨hcheck, hout, hx⟩ := run_colourTables huw neutralTable neutralMap a b req.stamp
  rw [length_neutralTable, length_neutralMap] at hout
  generalize (writeColour (addrWords a b) req.stamp).run _ = x at *
  have hsx : Frame [.met, .mem, .dmc, .grv] (tableOffs .colour) s x := (hu.mono (by simp) (by simp)).trans (hx.mono (by simp) (by simp))
  have hreplied := run_respond (hasks.congr (congrArg Control.sessions (hsx.1 .ctl (by decide) (by decide)))) 0 []
  generalize (respond req 0 []).run x = y at *
  refine ⟨hreplied.answered hsx (by decide), ?_, ?_, fun c hca hcb => ?_, (hreplied.after hsx).mono (by simp) (by simp [tableOffs, tableRegs])⟩
  · rw [show y.met = x.met from hreplied.frame.1 .met (by decide) (by decide),
      show x.met = (made.run s).met from hx.1 .met (by decide) (by decide), hset]
  · rw [show y.grv = x.grv from hreplied.frame.1 .grv (by decide) (by decide), hcheck]
  · exact (hreplied.frame.1 .mem (by decide) (by decide) c).trans ((hout c hca hcb).trans (hu.1 .mem (by decide) (by decide) c))

/-! ### Requests of no session (R449) -/

theorem completes_cal_none (hawake : s.Awake) (hasks : s.Asks req) (hnone : s.calOf req = none) {c : Instr}
    (hc : ∃ x y z w, c = .calPattern req x y z ∨ c = .calSolve req w w w [] ∨ c = .calStage req [] []) :
    Completes c s (fun t => Answered req 2 [] s t ∧ Frame [.ctl, .out] [] s t) := by
  have hreplied := run_respond hasks 2 []
  obtain ⟨x, y, z, w, rfl | rfl | rfl⟩ := hc
  · refine .of_go rfl hawake ?_
    rw [run_service hasks, Prog.run_dyn, hnone]
    exact ⟨hreplied.out, hreplied.frame⟩
  · refine .of_go rfl hawake ?_
    rw [run_service hasks, Prog.run_dyn, hnone]
    exact ⟨hreplied.out, hreplied.frame⟩
  · refine .of_go rfl hawake ?_
    rw [run_service hasks, Prog.run_dyn, hnone]
    exact ⟨hreplied.out, hreplied.frame⟩

/-! ### Patterns (R450) -/

theorem layerCommitProg_in {parts : List Part} (h : Part.lyr ∈ parts) (stamp : Time) :
    (layerCommitProg stamp).Only (Act.In parts fun off => off = R.LYR_STATUS) := by
  have hstatus : cacheStatus.Only (Act.In parts fun off => off = R.LYR_STATUS) := by
    intro s
    simp [F.LYR_STATUS_CACHED, F.LYR_STATUS_FLATTEN_BUSY]
  have hfree : freeSlots.Only (Act.In parts fun off => off = R.LYR_STATUS) := fun s => ⟨h, hstatus⟩
  intro s
  dsimp only
  split
  · simp [F.LYR_STATUS_REJECT, F.LYR_STATUS_REJ_LAYER, F.LYR_STATUS_REJ_WORD]
  · simp [hfree, hstatus, F.LYR_STATUS_HELD, Act.In, Act.Within, h]

/-- The layer registers that a pattern writes before its commit. -/
def patternRegs (descs : List (List Word)) : Prog :=
  .each ((List.range 8).flatMap (fun n => (List.range 16).map (fun k => (n, k)))) (fun p =>
        .setReg (R.LYR_DESC0 p.1 + 4 * p.2) ((descs.getD p.1 []).getD p.2 0))

theorem completes_calPattern (hs : s.Canon) (hawake : s.Awake) (hasks : s.Asks req) {c : CalSession} (hc : s.calOf req = some c)
    (descs : List (List Word)) (target : Fsn) {record : List Word} (hrecord : s.recordCounts c record = false) :
    Completes (.calPattern req descs target record) s (fun t =>
        Answered req 0 [] s t ∧ t.met = { s.met with cal := some { c with pattern := descs } } ∧
        t.reg R.LYR_TARGET_FSN = target ∧ ∀ b, Memory.read t.mem b = Memory.read s.mem b) := by
  refine .of_go rfl hawake ?_
  rw [run_service hasks, Prog.run_dyn, hc]
  dsimp only
  rw [hrecord, Prog.run_block_cons, Prog.run_block_cons, Prog.run_block_cons, Prog.run_block_cons, Prog.run_block_cons,
    Prog.run_block_cons, Prog.run_block_nil, Prog.run_when, if_neg (by simp)]
  let u := (Prog.setReg R.LYR_TARGET_FSN target).run ((patternRegs descs).run s)
  let v := (layerCommitProg req.stamp).run u
  let w := (modCal (fun c => { c with pattern := descs })).run v
  have hall : (Prog.block [patternRegs descs, .setReg R.LYR_TARGET_FSN target, layerCommitProg req.stamp]).Only
      (Act.In [.lyr] fun _ => True) :=
    ⟨Prog.only_each _ _ fun _ => trivial, trivial, (layerCommitProg_in (by simp) req.stamp).in_mono fun _ _ => trivial, trivial⟩
  have hkept : QuietKept s.ctl.sessions v.ctl.sessions := hall.quietKept (by simp) s
  have hsv : Spared [.lyr] (fun _ => True) s v := hall.spared hs
  have huc : u.Canon := (hs.run (patternRegs descs)).run (.setReg R.LYR_TARGET_FSN target)
  have htarget : u.reg R.LYR_TARGET_FSN = target := State.reg_store_same _ _ _ _ (hs.run (patternRegs descs)) rfl
  have huv : Spared [.lyr] (fun off => off = R.LYR_STATUS) u v := (layerCommitProg_in (by simp) req.stamp).spared huc
  have hw : Frame [.met] [] v w := Prog.frame_noRegs _ _ (by simp [modCal, Act.Within]) v
  have hmet : v.met = s.met := hsv.same .met (by decide) (by decide) (by decide)
  have hout : w.out = s.out := hsv.same .out (by decide) (by decide) (by decide)
  have hreplied := run_respond (s := w) (hasks.of_quietKept hkept) 0 []
  have hcal : w.met = { s.met with cal := some { c with pattern := descs } } := by
    rw [show w.met = { v.met with cal := v.met.cal.map (fun c => { c with pattern := descs }) } from rfl, hmet, calOf_eq c hc]
    rfl
  refine ⟨hreplied.out.trans (congrArg _ hout), Eq.trans (hreplied.frame.1 .met (by decide) (by decide)) hcal, ?_, fun b => ?_⟩
  · exact (hreplied.frame.2 _ (by simp)).trans ((hw.2 _ (by simp)).trans ((huv.reg _ (by decide)).trans htarget))
  · exact (hreplied.frame.1 .mem (by decide) (by decide) b).trans ((hw.1 .mem (by decide) (by decide) b).trans
      (hsv.same .mem (by decide) (by decide) (by decide) b))

/-! ### Solves (R450 to R453) -/

/-- A session that ends stages its colour table again. -/
theorem run_calAbandon (hs : s.Canon) {c : CalSession} (hcal : s.met.cal = some c) (t : Time) : let u := (calAbandon t).run s
    u.met = { s.met with cal := none } ∧ u.grv.colChg.checking = true ∧ Frame [.met, .grv] (tableOffs .colour) s u := by
  let v := (Act.met (fun m => { m with cal := none })).apply s
  have hrun : (calAbandon t).run s = (writeColour c.prevTable t).run v := by
    rw [calAbandon, Prog.run_dyn, hcal]
    rfl
  have hv : Frame [.met] [] s v := Act.frame_noRegs (a := .met _) List.mem_cons_self s
  obtain ⟨hcheck, -, -, hf⟩ := run_writeColour (s := v) (hs.apply _) c.prevTable t
  rw [hrun]
  exact ⟨hf.1 .met (by decide) (by decide), hcheck, (hv.mono (by simp) (by simp)).trans (hf.mono (by simp) (by simp))⟩

/-- A solve that ends the session is refused with its code. -/
theorem run_calAbandon_metRefuse (hs : s.Canon) (hasks : s.Asks req) {c : CalSession} (hcal : s.met.cal = some c) (code : Nat)
    (h : 0x20 ≤ code) : let t := (Prog.seq (calAbandon req.stamp) (metRefuse req code)).run s
    Answered req (0x0800 + code) [] s t ∧ t.met = { s.met with cal := none } ∧ t.grv.colChg.checking = true := by
  obtain ⟨hmet, hcheck, hf⟩ := run_calAbandon hs hcal req.stamp
  obtain ⟨hanswer, hmet', -, hgrv⟩ := run_metRefuse (s := (calAbandon req.stamp).run s) (hs.run _)
    (hasks.congr (congrArg Control.sessions (hf.1 .ctl (by decide) (by decide)))) code h
  rw [Prog.run_seq]
  exact ⟨hanswer.trans (congrArg _ (hf.1 .out (by decide) (by decide))), hmet'.trans hmet, by rw [hgrv, hcheck]⟩

section
variable {c : CalSession} (hc : s.calOf req = some c) (dir out total : Nat) (figures : List Nat)
include hc

theorem completes_calSolve_fails (hs : s.Canon) (hawake : s.Awake) (hasks : s.Asks req) (hfails : s.solveFails dir out total = true) :
    Completes (.calSolve req dir out total figures) s (fun t =>
      Answered req 0x0823 [] s t ∧ t.met = { s.met with cal := none } ∧ t.grv.colChg.checking = true) := by
  refine .of_go rfl hawake ?_
  rw [run_service hasks, Prog.run_dyn, hc]
  dsimp only
  rw [if_pos hfails]
  exact run_calAbandon_metRefuse hs hasks (calOf_eq c hc) 0x23 (by decide)

variable (hgood : s.solveFails dir out total = false)
include hgood

theorem completes_calSolve (hawake : s.Awake) (hasks : s.Asks req) (hmeet : figuresMeet figures = true) :
    Completes (.calSolve req dir out total figures) s (fun t =>
          Answered req 0 (figureBytes figures) s t ∧
          t.met = { s.met with cal := some { c with solved := true, dirAddr := dir, figures := figures } } ∧
          Frame [.met, .ctl, .out] [] s t) := by
  refine .of_go rfl hawake ?_
  rw [run_service hasks, Prog.run_dyn, hc]
  dsimp only
  rw [if_neg (by simp [hgood]), if_pos (by simp [hmeet]), Prog.run_seq]
  let v := (modCal (fun c => { c with solved := true, dirAddr := dir, figures := figures })).run s
  have hv : Frame [.met] [] s v := Prog.frame_noRegs _ (modCal _) (by simp [modCal, Act.Within]) s
  have hreplied := run_respond (s := v) (hasks.congr rfl) 0 (figureBytes figures)
  have hcal : v.met = { s.met with cal := some { c with solved := true, dirAddr := dir, figures := figures } } := by
    rw [show v.met = { s.met with
      cal := s.met.cal.map (fun c => { c with solved := true, dirAddr := dir, figures := figures }) } from rfl, calOf_eq c hc]
    rfl
  exact ⟨hreplied.answered hv (by decide), Eq.trans (hreplied.frame.1 .met (by decide) (by decide)) hcal,
    (hreplied.after hv).mono (by simp) (by simp)⟩

theorem completes_calSolve_poor (hs : s.Canon) (hawake : s.Awake) (hasks : s.Asks req) (hmeet : figuresMeet figures = false)
    (hforce : c.force = false) : Completes (.calSolve req dir out total figures) s (fun t =>
          Answered req 0x0824 [] s t ∧ t.met = { s.met with cal := none }) := by
  refine .of_go rfl hawake ?_
  rw [run_service hasks, Prog.run_dyn, hc]
  dsimp only
  rw [if_neg (by simp [hgood]), if_neg (by simp [hmeet, hforce])]
  obtain ⟨hanswer, hmet, -⟩ := run_calAbandon_metRefuse hs hasks (calOf_eq c hc) 0x24 (by decide)
  exact ⟨hanswer, hmet⟩

end

/-! ### Staging (R454, R455) -/

section
variable {c : CalSession} (hc : s.calOf req = some c) (addrs : List Nat) (rest : List Byte)
include hc

theorem completes_calStage_returned (hawake : s.Awake) (hasks : s.Asks req) (hlc : s.lc = .returned) :
    Completes (.calStage req addrs rest) s (fun t => Answered req 3 [] s t ∧ Frame [.ctl, .out] [] s t) := by
  refine .of_go rfl hawake ?_
  rw [run_service hasks, Prog.run_dyn, hc]
  dsimp only
  rw [if_pos (by simp [hlc])]
  have hreplied := run_respond hasks 3 []
  exact ⟨hreplied.out, hreplied.frame⟩

variable (hlc : s.lc ≠ .returned)
include hlc

theorem completes_calStage_early (hawake : s.Awake) (hasks : s.Asks req) (h : c.solved = false ∨ c.waiting.isSome = true) :
    Completes (.calStage req addrs rest) s (fun t => Answered req 2 [] s t ∧ Frame [.ctl, .out] [] s t) := by
  refine .of_go rfl hawake ?_
  rw [run_service hasks, Prog.run_dyn, hc]
  dsimp only
  rw [if_neg (by simp [hlc]), if_pos (by rcases h with h | h <;> simp [h])]
  have hreplied := run_respond hasks 2 []
  exact ⟨hreplied.out, hreplied.frame⟩

variable (hsolved : c.solved = true) (hwaiting : c.waiting = none)
include hsolved hwaiting

theorem completes_calStage_late (hawake : s.Awake) (hasks : s.Asks req) (hlate : s.instant .localAbort s.N - 512000000 ≤ req.stamp) :
    Completes (.calStage req addrs rest) s (fun t =>
          t.met = { s.met with cal := some { c with waiting := some (req, addrs, rest) } } ∧ Frame [.met] [] s t) := by
  refine .of_go rfl hawake ?_
  rw [run_service hasks, Prog.run_dyn, hc]
  dsimp only
  rw [if_neg (by simp [hlc]), if_neg (by simp [hsolved, hwaiting]), if_neg (by simpa using hlate)]
  refine ⟨?_, Prog.frame_noRegs _ (modCal _) (by simp [modCal, Act.Within]) s⟩
  have hcal : ((modCal (fun c => { c with waiting := some (req, addrs, rest) })).run s).met =
      { s.met with cal := s.met.cal.map (fun c => { c with waiting := some (req, addrs, rest) }) } := rfl
  rw [hcal, calOf_eq c hc]
  rfl

end

/-- The four tables of a solve in memory, and their addresses (R454). -/
theorem run_stageTables (hs : s.Canon) (d0 d1 d2 d3 : List Byte) (a0 a1 a2 a3 : Nat) (v0 v1 : Nat → Word) (words : List Word) (t : Time) :
    let u := (writeColour words t).run ((Prog.each (List.range 2) (fun k => tableWrite .bounds k (v1 k) t)).run
      ((Prog.each (List.range 2) (fun k => tableWrite .dirs k (v0 k) t)).run
        ((memStream 0 a3 d3).run ((memStream 0 a2 d2).run ((memStream 0 a1 d1).run ((memStream 0 a0 d0).run s))))))
    u.grv.colChg.checking = true ∧ u.grv.dirChg.checking = true ∧ u.grv.boundsChg.checking = true ∧ u.met = s.met ∧ u.nvm = s.nvm ∧
      QuietKept s.ctl.sessions u.ctl.sessions := by
  have hwrite (a : Nat) (d : List Byte) : (memStream 0 a d).Only (Act.In [.mem, .dmc, .freeCount] (· ∈ memRegs)) :=
    memStream_in (by simp) (by simp) (by simp) 0 a d
  have h0 := (hwrite a0 d0).spared hs
  have q0 := (hwrite a0 d0).quietKept (by simp) s
  have c0 := hs.run (memStream 0 a0 d0)
  generalize (memStream 0 a0 d0).run s = w0 at *
  have h1 := h0.trans ((hwrite a1 d1).spared c0)
  have q1 := q0.trans ((hwrite a1 d1).quietKept (by simp) w0)
  have c1 := c0.run (memStream 0 a1 d1)
  generalize (memStream 0 a1 d1).run w0 = w1 at *
  have h2 := h1.trans ((hwrite a2 d2).spared c1)
  have q2 := q1.trans ((hwrite a2 d2).quietKept (by simp) w1)
  have c2 := c1.run (memStream 0 a2 d2)
  generalize (memStream 0 a2 d2).run w1 = w2 at *
  have h3 := h2.trans ((hwrite a3 d3).spared c2)
  have q3 := q2.trans ((hwrite a3 d3).quietKept (by simp) w2)
  have c3 := c2.run (memStream 0 a3 d3)
  generalize (memStream 0 a3 d3).run w2 = w3 at *
  obtain ⟨hdirs, -, hf4⟩ := run_each_tableWrite .dirs v0 t (List.range 2) (fun i hi => by simpa [tableRegs] using hi) c3
  have c4 := c3.run (Prog.each (List.range 2) (fun k => tableWrite .dirs k (v0 k) t))
  generalize (Prog.each (List.range 2) (fun k => tableWrite .dirs k (v0 k) t)).run w3 = w4 at *
  obtain ⟨hbounds, hother5, hf5⟩ := run_each_tableWrite .bounds v1 t (List.range 2) (fun i hi => by simpa [tableRegs] using hi) c4
  have c5 := c4.run (Prog.each (List.range 2) (fun k => tableWrite .bounds k (v1 k) t))
  generalize (Prog.each (List.range 2) (fun k => tableWrite .bounds k (v1 k) t)).run w4 = w5 at *
  obtain ⟨hcol, hdir6, hbounds6, hf6⟩ := run_writeColour c5 words t
  generalize (writeColour words t).run w5 = w6 at *
  have hchecked : (w4.tableChg .dirs).checking = true := hdirs (.inl (by simp))
  have hframe : Frame [.grv] (tableOffs .dirs ++ tableOffs .bounds ++ tableOffs .colour) w3 w6 :=
    (hf4.mono (by simp) (by simp +contextual)).trans ((hf5.mono (by simp) (by simp +contextual)).trans (hf6.mono (by simp) (by simp +contextual)))
  refine ⟨hcol, ?_, ?_, Eq.trans (hframe.1 .met (by decide) (by decide)) (h3.same .met (by decide) (by decide) (by decide)),
    Eq.trans (hframe.1 .nvm (by decide) (by decide)) (h3.same .nvm (by decide) (by decide) (by decide)), ?_⟩
  · rw [hdir6, show w5.grv.dirChg = w4.grv.dirChg from hother5 .dirs (by simp)]
    exact hchecked
  · rw [hbounds6]
    exact hbounds (.inl (by simp))
  · rw [show w6.ctl = w3.ctl from hframe.1 .ctl (by decide) (by decide)]
    exact q3

/-- A store that is written, the end of the session, and the answer (R454, R455). -/
theorem run_stageStore {u : State} (hasks : u.Asks req) (hmet : u.met = s.met) (hnvm : u.nvm = s.nvm)
    (hlen : s.nvm.stores.length = 2) {idx : Nat} (hidx : idx < 2) (made : CalStore) :
    let t := (respond req 0 []).run ((Act.met (fun m => { m with cal := none })).apply
      ((Act.nvm (fun n => { n with stores := n.stores.set idx made })).apply u))
    t.met = { s.met with cal := none } ∧ t.nvm.stores.getD idx {} = made ∧
      t.nvm.stores.getD (1 - idx) {} = s.nvm.stores.getD (1 - idx) {} ∧ t.grv = u.grv ∧
      t.out.head? = some (.response req.session req.reqId 0 []) := by
  let v := (Act.met (fun m => { m with cal := none })).apply ((Act.nvm (fun n => { n with stores := n.stores.set idx made })).apply u)
  have hreplied := run_respond (s := v) (hasks.congr rfl) 0 []
  have hstores : v.nvm.stores = s.nvm.stores.set idx made := congrArg (fun n => n.stores.set idx made) hnvm
  have hnvm' : ((respond req 0 []).run v).nvm = v.nvm := hreplied.frame.1 .nvm (by decide) (by decide)
  have hcal : v.met = { s.met with cal := none } := congrArg (fun m => { m with cal := none }) hmet
  refine ⟨Eq.trans (hreplied.frame.1 .met (by decide) (by decide)) hcal, ?_, ?_, hreplied.frame.1 .grv (by decide) (by decide),
    congrArg List.head? hreplied.out⟩
  · rw [hnvm', hstores]
    simp [hlen, hidx]
  · have hne : idx ≠ 1 - idx := by omega
    rw [hnvm', hstores, List.getD_eq_getElem?_getD, List.getD_eq_getElem?_getD, List.getElem?_set_ne hne]

theorem stageStore_checked {A B C D : Prop} {t u : State} (h : A ∧ B ∧ C ∧ t.grv = u.grv ∧ D) (hcol : u.grv.colChg.checking = true)
    (hdir : u.grv.dirChg.checking = true) (hbound : u.grv.boundsChg.checking = true) :
    A ∧ B ∧ C ∧ t.grv.colChg.checking = true ∧ t.grv.dirChg.checking = true ∧ t.grv.boundsChg.checking = true ∧ D := by
  obtain ⟨ha, hb, hc, hgrv, hd⟩ := h
  exact ⟨ha, hb, hc, by rw [hgrv, hcol], by rw [hgrv, hdir], by rw [hgrv, hbound], hd⟩

/-- A solved session is staged in its window. -/
theorem completes_calStage (hs : s.Canon) (hawake : s.Awake) (hasks : s.Asks req) {c : CalSession} (hc : s.calOf req = some c)
    (addrs : List Nat) (rest : List Byte) (hlc : s.lc ≠ .returned) (hsolved : c.solved = true) (hwaiting : c.waiting = none)
    (hlen : s.nvm.stores.length = 2) (hearly : req.stamp < s.instant .localAbort s.N - 512000000) :
    Completes (.calStage req addrs rest) s (fun t =>
          let content := s.solvedDirs c ++ s.solvedBounds c ++ rest ++ figureBytes c.figures
          let to_ := if s.activeStore = some 0 then 1 else 0
          let seq := match s.activeStore with | some k => storeSeq (s.nvm.stores.getD k {}) + 1 | none => 1
          t.met = { s.met with cal := none } ∧
          t.nvm.stores.getD to_ {} = { bytes := s.storeHeader seq content ++ content } ∧
          t.nvm.stores.getD (1 - to_) {} = s.nvm.stores.getD (1 - to_) {} ∧
          t.grv.colChg.checking = true ∧ t.grv.dirChg.checking = true ∧ t.grv.boundsChg.checking = true ∧
          t.out.head? = some (.response req.session req.reqId 0 [])) := by
  refine .of_go rfl hawake ?_
  rw [run_service hasks, Prog.run_dyn, hc]
  dsimp only
  rw [if_neg (by simp [hlc]), if_neg (by simp [hsolved, hwaiting]), if_pos (decide_eq_true hearly), Prog.run_seq, calStageNow,
    Prog.run_dyn]
  rw [Prog.run_block_cons, Prog.run_block_cons, Prog.run_block_cons, Prog.run_block_cons, Prog.run_block_cons, Prog.run_block_cons,
    Prog.run_block_cons, Prog.run_block_cons, Prog.run_block_cons, Prog.run_block_nil, Prog.run_act, Prog.run_act]
  obtain ⟨hcol, hdir, hbound, hmet, hnvm, hquiet⟩ := run_stageTables hs (s.solvedDirs c) (s.solvedBounds c) (rest.take 0x7000)
    (slice rest 0x7000 0x600000)
    (addrs.getD 0 0) (addrs.getD 1 0) (addrs.getD 2 0) (addrs.getD 3 0) (fun k => (addrWords (addrs.getD 0 0) 0).getD k 0)
    (fun k => (addrWords (addrs.getD 1 0) 0).getD k 0) (addrWords (addrs.getD 2 0) (addrs.getD 3 0)) req.stamp
  have hstore (idx : Nat) (hidx : idx < 2) (made : CalStore) :=
    stageStore_checked (run_stageStore (hasks.of_quietKept hquiet) hmet hnvm hlen hidx made) hcol hdir hbound
  dsimp only
  split
  · next hone =>
    rw [if_pos hone]
    exact hstore 1 (by decide) _
  · next hzero =>
    rw [if_neg hzero]
    exact hstore 0 (by decide) _

/-! ### Trims (R285, R286, R454) -/

theorem completes_trimReload_shown (hawake : s.Awake) (hasks : s.Asks req) (hscreen : s.cmt.screen ≠ .dark) :
    Completes (.trimReload req) s (fun t => Answered req 3 [] s t ∧ Frame [.ctl, .out] [] s t) := by
  refine .of_go rfl hawake ?_
  rw [run_service hasks, Prog.run_dyn, if_pos (by simp [hscreen])]
  have hreplied := run_respond hasks 3 []
  exact ⟨hreplied.out, hreplied.frame⟩

theorem activeStore_lt {k : Nat} (h : s.activeStore = some k) : k < 2 := by
  unfold State.activeStore at h
  dsimp only at h
  split_ifs at h <;> simp only [Option.some.injEq, reduceCtorEq] at h <;> omega

/-- The trims of a store are taken: its place, M8, and an item for every line of every drive lane. -/
theorem run_trims (hs : s.Canon) (hasks : s.Asks req) {k : Nat} (hk : k < 2) :
    let t := (Prog.block [useStore k, loadTrims, respond req 0 []]).run s
    Answered req 0 [] s t ∧ t.ctl.trimPass = k ∧ t.fld F.CPX_START_STORE = k ∧
        t.meas = modAt s.meas 8 (fun m => Config.sha3 (digestBytes m ++
          digestBytes (Config.sha3 ((s.nvm.stores.getD k {}).bytes.take 4695)))) ∧
        t.pdl.lanes = s.pdl.lanes.map (fun d => { d with service := d.service ++ (List.range 32).map ItemKind.trim }) ∧
        Frame [.meas, .pdl, .ctl, .out] [F.CPX_START_STORE.off] s t := by
  let v := (Act.ctl (fun c => { c with trimPass := k })).apply s
  let w := (Prog.setFld F.CPX_START_STORE k).run v
  let x := (measure 8 ((s.nvm.stores.getD k {}).bytes.take 4695)).run w
  let y := loadTrims.run x
  have hrun : (Prog.block [useStore k, loadTrims, respond req 0 []]).run s = (respond req 0 []).run y := rfl
  have hvc : v.Canon := hs.apply _
  have hv : Frame [.ctl] [] s v := Act.frame_noRegs (a := .ctl _) List.mem_cons_self s
  have hw : Frame [] [F.CPX_START_STORE.off] v w := (Prog.frame [] [F.CPX_START_STORE.off] (.setFld _ k) (by simp) v hvc).2
  have hx : Frame [.meas] [] w x := Prog.frame_noRegs _ (measure 8 _) (by simp [measure, Act.Within]) w
  have hy : Frame [.pdl] [] x y := Prog.frame_noRegs _ loadTrims (by simp [loadTrims, Act.Within]) x
  have hvy : Frame [.meas, .pdl] [F.CPX_START_STORE.off] v y :=
    (hw.mono (by simp) (by simp)).trans ((hx.mono (by simp) (by simp)).trans (hy.mono (by simp) (by simp)))
  have hsy : Frame [.ctl, .meas, .pdl] [F.CPX_START_STORE.off] s y := (hv.mono (by simp) (by simp)).trans (hvy.mono (by simp) (by simp))
  have hctl : y.ctl = v.ctl := hvy.1 .ctl (by decide) (by decide)
  have hreplied := run_respond (s := y) ((hasks.congr (t := v) rfl).congr (congrArg Control.sessions hctl)) 0 []
  obtain ⟨ss, hss⟩ := hreplied.ctl
  have hplace : w.fld F.CPX_START_STORE = k :=
    (State.fld_setFld_same _ _ _ hvc ⟨by decide, by decide⟩).trans (Nat.mod_eq_of_lt hk)
  have hwmeas : w.meas = s.meas := Eq.trans (hw.1 .meas (by decide) (by decide)) (hv.1 .meas (by decide) (by decide))
  have hmeas : x.meas = modAt s.meas 8 (fun m => Config.sha3 (digestBytes m ++
      digestBytes (Config.sha3 ((s.nvm.stores.getD k {}).bytes.take 4695)))) := by
    rw [← hwmeas]
    rfl
  have hpdl : x.pdl = s.pdl := Eq.trans (hx.1 .pdl (by decide) (by decide))
    (Eq.trans (hw.1 .pdl (by decide) (by decide)) (hv.1 .pdl (by decide) (by decide)))
  intro t
  rw [show t = _ from hrun]
  refine ⟨hreplied.answered hsy (by decide), (congrArg Control.trimPass hss).trans (congrArg Control.trimPass hctl), (hreplied.frame.fld _ (by simp)).trans
    ((hy.fld _ (by simp)).trans ((hx.fld _ (by simp)).trans hplace)), ?_, ?_, (hreplied.after hsy).mono (by simp) (by simp)⟩
  · exact Eq.trans (hreplied.frame.1 .meas (by decide) (by decide)) (Eq.trans (hy.1 .meas (by decide) (by decide)) hmeas)
  · rw [show ((respond req 0 []).run y).pdl = y.pdl from hreplied.frame.1 .pdl (by decide) (by decide), ← hpdl]
    rfl

theorem completes_trimReload (hs : s.Canon) (hawake : s.Awake) (hasks : s.Asks req) (hscreen : s.cmt.screen = .dark) :
    Completes (.trimReload req) s (fun t =>
      (s.activeStore = none → Answered req 2 [] s t ∧ Frame [.ctl, .out] [] s t) ∧
      ∀ k, s.activeStore = some k → Answered req 0 [] s t ∧ t.ctl.trimPass = k ∧ t.fld F.CPX_START_STORE = k ∧
        t.meas = modAt s.meas 8 (fun m => Config.sha3 (digestBytes m ++
          digestBytes (Config.sha3 ((s.nvm.stores.getD k {}).bytes.take 4695)))) ∧
        t.pdl.lanes = s.pdl.lanes.map (fun d => { d with service := d.service ++ (List.range 32).map ItemKind.trim }) ∧
        Frame [.meas, .pdl, .ctl, .out] [F.CPX_START_STORE.off] s t) := by
  refine .of_go rfl hawake ?_
  rw [run_service hasks, Prog.run_dyn, if_neg (by simp [hscreen])]
  cases hactive : s.activeStore with
  | none =>
    have hreplied := run_respond hasks 2 []
    exact ⟨fun _ => ⟨hreplied.out, hreplied.frame⟩, fun k hk => absurd hk (by simp)⟩
  | some i =>
    refine ⟨fun h => absurd h (by simp), fun k hk => ?_⟩
    obtain rfl : i = k := Option.some.inj hk
    exact run_trims hs hasks (activeStore_lt hactive)

/-- Settles O56. -/
theorem calibrationRuns : Obligations.CalibrationRuns := by
  unfold Obligations.CalibrationRuns
  intro s req hinv hawake hasks
  have hs : s.Canon := hinv.canon
  exact ⟨completes_calSessionOpen_held hs hawake hasks, completes_calSessionOpen_onAir hs hawake hasks,
    completes_calSessionOpen hinv hawake hasks, fun hnone c => completes_cal_none hawake hasks hnone,
    fun c hc => ⟨fun descs target record => completes_calPattern hs hawake hasks hc descs target,
      fun dir out total figures => completes_calSolve_fails hc dir out total figures hs hawake hasks,
      fun dir out total figures hgood => ⟨completes_calSolve hc dir out total figures hgood hawake hasks,
        completes_calSolve_poor hc dir out total figures hgood hs hawake hasks⟩,
      fun addrs rest hlc => completes_calStage_early hc addrs rest hlc hawake hasks,
      fun addrs rest hlc => completes_calStage_returned hc addrs rest hawake hasks hlc,
      fun addrs rest hlc hsolved hwaiting => completes_calStage_late hc addrs rest hlc hsolved hwaiting hawake hasks,
      fun addrs rest hlc hsolved hwaiting => completes_calStage hs hawake hasks hc addrs rest hlc hsolved hwaiting⟩,
    completes_trimReload_shown hawake hasks, completes_trimReload hs hawake hasks⟩

end Sys2Proof.Machine
end

section
/-! PROOF. O55: camera frames, taps and exposure sets (R427 to R434, R439, R442, R445 to R448). -/

namespace Sys2Proof.Machine

variable {s : State}

theorem Prog.run_each_self {α : Type} {l : List α} {f : α → Prog} {s : State} (h : ∀ x ∈ l, (f x).run s = s) : (Prog.each l f).run s = s := by
  induction l with
  | nil => rfl
  | cons x l ih =>
    rw [Prog.run_each_cons, h x List.mem_cons_self]
    exact ih fun y hy => h y (List.mem_cons_of_mem _ hy)

/-- An event that became pending after other work that raised none. -/
theorem Pended.after {e : Nat} {u t : State} {parts : List Part} {offs : List Nat} (h : Pended e u t) (hf : Frame parts offs s u)
    (hctl : Part.ctl ∉ parts) (hroute : R.CPX_EV_ROUTE e ∉ offs) : Pended e s t := by
  rw [Pended, hf.2 _ hroute, show u.ctl = s.ctl from hf.1 .ctl hctl (by decide)] at h
  exact h

/-! ### Streams and taps -/

@[simp] theorem stream_modStream_same (s : State) (k : Nat) (f : MetStream → MetStream) (h : k < s.met.streams.length) :
    ((modStream k f).run s).stream k = f (s.stream k) := getD_modAt_same _ _ _ _ h
@[simp] theorem tap_modTap_same (s : State) (i : Nat) (f : MetTap → MetTap) (h : i < s.met.taps.length) :
    ((modTap i f).run s).tap i = f (s.tap i) := getD_modAt_same _ _ _ _ h

theorem frame_modStream (k : Nat) (f : MetStream → MetStream) (s : State) : Frame [.met] [] s ((modStream k f).run s) :=
  Prog.frame_noRegs _ _ (by simp [modStream, Act.Within]) s

theorem length_modStream (k : Nat) (f : MetStream → MetStream) (s : State) :
    ((modStream k f).run s).met.streams.length = s.met.streams.length := by
  show (modAt s.met.streams k f).length = _
  rw [modAt_eq_modify, List.length_modify]

theorem State.TapsIdle.congr {t : State} (h : s.TapsIdle) (ht : t.met.taps = s.met.taps) : t.TapsIdle := by
  intro i
  rw [State.tap, ht]
  exact h i

theorem run_tapsBegin_idle (h : s.TapsIdle) (k : Nat) (seq : Word) : (tapsBegin k seq).run s = s := by
  refine Prog.run_each_self fun i _ => ?_
  obtain ⟨harmed, hrunning⟩ := h i
  rw [Prog.run_dyn]
  simp [harmed, hrunning]

theorem run_tapRows_idle (h : s.TapsIdle) (k : Nat) (close : Option Time) : (tapRows k close).run s = s := by
  refine Prog.run_each_self fun i _ => ?_
  obtain ⟨-, hrunning⟩ := h i
  rw [Prog.run_dyn]
  split
  · rfl
  · simp [hrunning]

theorem run_tapsEnd_idle (h : s.TapsIdle) (k : Nat) (close : Time) : (tapsEnd k close).run s = s := by
  refine Prog.run_each_self fun i _ => ?_
  obtain ⟨-, hrunning⟩ := h i
  rw [Prog.run_dyn]
  simp [hrunning]

/-! ### Arming a tap (R439) -/

theorem completes_tapArm (hs : s.Canon) (hawake : s.Awake) {i : Nat} (hi : i < 4) (hlen : s.met.taps.length = 4)
    (hbusy : s.flag (F.MET_T_CTRL_BUSY i) = false) (hcount : s.fld (F.MET_T_CTRL_COUNT i) ≠ 0) :
    Completes (.tapArm i) s (fun t =>
      t.tap i = { s.tap i with armed := true, params := [s.reg (R.MET_T_CTRL i), s.reg (R.MET_T_BASE_LO i),
                                                         s.reg (R.MET_T_BASE_HI i), s.reg (R.MET_T_PITCH i)] } ∧
      t.flag (F.MET_T_CTRL_ARM i) = true ∧ Frame [.met] [R.MET_T_CTRL i] s t) := by
  refine .of_go rfl hawake ?_
  rw [tapArmProg, Prog.run_guard, if_pos (by simp [hi, hbusy, hcount]), Prog.run_dyn, Prog.run_block_cons, Prog.run_block_cons,
    Prog.run_block_nil]
  have htap := tap_modTap_same s i (fun t => { t with armed := true, params := [s.reg (R.MET_T_CTRL i), s.reg (R.MET_T_BASE_LO i),
    s.reg (R.MET_T_BASE_HI i), s.reg (R.MET_T_PITCH i)] }) (by rw [hlen]; exact hi)
  have hv : Frame [.met] [] s _ := Prog.frame_noRegs _ (modTap i (fun t => { t with armed := true, params := [s.reg (R.MET_T_CTRL i),
    s.reg (R.MET_T_BASE_LO i), s.reg (R.MET_T_BASE_HI i), s.reg (R.MET_T_PITCH i)] })) (by simp [modTap, Act.Within]) s
  have hvc := hs.run (modTap i (fun t => { t with armed := true, params := [s.reg (R.MET_T_CTRL i),
    s.reg (R.MET_T_BASE_LO i), s.reg (R.MET_T_BASE_HI i), s.reg (R.MET_T_PITCH i)] }))
  generalize (modTap i _).run s = v at *
  have hw : Frame [] [R.MET_T_CTRL i] v ((Prog.setFld (F.MET_T_CTRL_ARM i) 1).run v) :=
    (Prog.frame [] [R.MET_T_CTRL i] (.setFld (F.MET_T_CTRL_ARM i) 1) (by simp [F.MET_T_CTRL_ARM]) v hvc).2
  refine ⟨?_, ?_, (hv.mono (by simp) (by simp)).trans (hw.mono (by simp) (by simp))⟩
  · rw [State.tap, show ((Prog.setFld (F.MET_T_CTRL_ARM i) 1).run v).met = v.met from hw.1 .met (by decide) (by decide)]
    exact htap
  · rw [State.flag, State.fld_setFld_same _ _ _ hvc ⟨by show 0 < 32; decide, by show 0 ≤ 0; decide⟩]
    rfl

theorem completes_tapArm_none {i : Nat} (h : s.flag (F.MET_T_CTRL_BUSY i) = true ∨ s.fld (F.MET_T_CTRL_COUNT i) = 0) :
    Completes (.tapArm i) s (fun t => t = s) := by
  refine .of_go_self rfl ?_
  rw [tapArmProg, Prog.run_guard, if_neg]
  rcases h with h | h <;> simp [h]

/-! ### Packets of the serial port (R428) -/

theorem completes_csiFrameStart_badHeader (hs : s.Canon) (hawake : s.Awake) (i : Nat) (stamp : Time)
    (hon : s.flag F.MET_CTRL_ENABLE = true) (hmode : s.fld F.MET_CTRL_MODE = 1) : Completes (.csiFrameStart i false stamp) s (fun t =>
      t.fld F.MET_ERR_COUNT = s.countUp F.MET_ERR_COUNT ∧ Pended 428 s t ∧
      Frame [.ctl, .freeCount] [F.MET_ERR_COUNT.off] s t) := by
  refine .of_go rfl hawake ?_
  rw [csiPacket, Prog.run_guard, if_pos (by simp [hon, hmode]), if_neg (by simp)]
  obtain ⟨hcount, hpend, hf⟩ := run_metError_at hs (show 0x01 < 0x20 by decide) stamp
  exact ⟨hcount, hpend, hf.mono (by simp) (by simp)⟩

/-- A packet with a good header reaches a stream that receives. -/
theorem run_csiPacket {k : Nat} (h : s.receives 1 k = true) (t : Option Time) (p : Prog) : (csiPacket k true t p).run s = p.run s := by
  have h' := h
  simp only [State.receives, Bool.and_eq_true] at h'
  obtain ⟨⟨⟨⟨hon, hmode⟩, -⟩, -⟩, -⟩ := h'
  rw [csiPacket, Prog.run_guard, if_pos (by simp only [hon, hmode, Bool.and_self]), if_pos rfl, Prog.run_guard, if_pos h]

theorem receives_lt {mode k : Nat} (h : s.receives mode k = true) : k < 4 := by
  simp only [State.receives, Bool.and_eq_true, decide_eq_true_eq] at h
  obtain ⟨⟨-, hlt⟩, -⟩ := h
  exact hlt

/-! ### Frame starts (R431, R434, R446) -/

/-- A stream that has just begun a frame. -/
structure Began (k : Nat) (t0 : Time) (test : Bool) (s t : State) : Prop where
  frame : ∃ f, (t.stream k).frame = some f ∧ f.seq = (s.stream k).nextSeq ∧ f.start = t0 ∧ f.lines = 0 ∧ f.test = test ∧
    f.width = s.fld (F.MET_S_SIZE_W k) ∧ f.height = s.fld (F.MET_S_SIZE_H k) ∧ ∀ n, s.ing.committed = some n → f.startFsn = n
  next : (t.stream k).nextSeq = (s.stream k).nextSeq + 1
  taps : t.met.taps = s.met.taps
  length : t.met.streams.length = s.met.streams.length

theorem State.stream_congr {t : State} (h : t.met = s.met) (k : Nat) : t.stream k = s.stream k := by rw [State.stream, h, State.stream]

theorem Began.congr {k : Nat} {t0 : Time} {test : Bool} {t t' : State} (h : Began k t0 test s t) (ht : t'.met = t.met) :
    Began k t0 test s t' := by
  obtain ⟨hframe, hnext, htaps, hlength⟩ := h
  rw [← State.stream_congr ht] at hframe hnext
  exact ⟨hframe, hnext, by rw [ht, htaps], by rw [ht, hlength]⟩

theorem run_frameStart (hs : s.Canon) (htaps : s.TapsIdle) {k : Nat} (hk : k < s.met.streams.length) (t0 : Time) (test : Bool) (bits : Nat) :
    ∃ (u : State) (f : MetFrame), (frameStart k t0 test bits).run s = (Prog.when f.dpcErr (metError 0x05 (some t0))).run u ∧ Began k t0 test s u ∧
      u.Canon ∧ Frame [.met, .freeCount] [] s u ∧ (s.fld (F.MET_S_DPC_HI_COUNT k) = 0 → f.dpcErr = false) := by
  let c := s.ing.committed.getD (Config.freeWord s.freeCount)
  let v := (Act.free 1).apply s
  let w := (modStream k (fun x => x.turn t0)).run v
  let f := w.newFrame k (s.stream k).nextSeq t0 c test bits
  let u := (modStream k (fun x => { x with frame := some f })).run w
  have hv : Frame [.freeCount] [] s v := Act.frame_noRegs (a := .free 1) List.mem_cons_self s
  have hw : Frame [.met] [] v w := frame_modStream k _ v
  have hu : Frame [.met] [] w u := frame_modStream k _ w
  have hwlen : w.met.streams.length = s.met.streams.length := length_modStream k _ v
  have hwstream : w.stream k = (s.stream k).turn t0 := stream_modStream_same v k _ hk
  have hustream : u.stream k = { w.stream k with frame := some f } := stream_modStream_same w k _ (by rw [hwlen]; exact hk)
  have hreg (off : Nat) : w.reg off = s.reg off := (hw.2 off (by simp)).trans (hv.2 off (by simp))
  have huc : u.Canon := ((hs.apply _).run _).run _
  have herr : ((Prog.when f.dpcErr (metError 0x05 (some t0))).run u).met = u.met := by
    rw [Prog.run_when]
    split
    · obtain ⟨-, -, hf⟩ := run_metError_at huc (show 0x05 < 0x20 by decide) t0
      exact hf.1 .met (by decide) (by decide)
    · rfl
  refine ⟨u, f, ?_, ⟨⟨f, by rw [hustream], rfl, rfl, rfl, rfl, ?_, ?_, fun n hn => ?_⟩, by rw [hustream, hwstream]; rfl, rfl,
    (length_modStream k _ w).trans hwlen⟩, huc, (hv.mono (by simp) (by simp)).trans ((hw.trans hu).mono (by simp) (by simp)), fun hzero => ?_⟩
  · have hrun : (frameStart k t0 test bits).run s =
        (tapsBegin k (s.stream k).nextSeq).run ((Prog.when f.dpcErr (metError 0x05 (some t0))).run u) := by
      rw [frameStart, withCommitted, Prog.withFree, Prog.run_dyn, Prog.run_seq, Prog.run_act, Prog.run_dyn, Prog.run_dyn]
      dsimp only
      rw [Prog.run_block_cons, Prog.run_block_cons, Prog.run_block_cons, Prog.run_block_nil, Prog.run_dyn, Prog.run_seq]
      rfl
    rw [hrun]
    have hkept : ((Prog.when f.dpcErr (metError 0x05 (some t0))).run u).met.taps = s.met.taps :=
      Eq.trans (congrArg Metrology.taps herr) rfl
    exact run_tapsBegin_idle (htaps.congr hkept) k _
  · show w.fld _ = _
    rw [State.fld, hreg, State.fld]
  · show w.fld _ = _
    rw [State.fld, hreg, State.fld]
  · show c = n
    simp [c, hn]
  · have hw0 : w.fld (F.MET_S_DPC_HI_COUNT k) = 0 := by
      rw [State.fld, hreg]
      exact hzero
    show (risingEntries none ((List.range (w.fld (F.MET_S_DPC_HI_COUNT k))).map _)).2 = false
    rw [hw0]
    rfl

/-- A stream that begins a frame in any state: what its defect list may add is an error of the port. -/
theorem began_frameStart (hs : s.Canon) (htaps : s.TapsIdle) {k : Nat} (hk : k < s.met.streams.length) (t0 : Time) (test : Bool)
    (bits : Nat) : Began k t0 test s ((frameStart k t0 test bits).run s) ∧
      Frame [.met, .freeCount, .ctl] [F.MET_ERR_COUNT.off] s ((frameStart k t0 test bits).run s) := by
  obtain ⟨u, f, hrun, hbegan, huc, hu, -⟩ := run_frameStart hs htaps hk t0 test bits
  have herr : Frame [.ctl] [F.MET_ERR_COUNT.off] u ((Prog.when f.dpcErr (metError 0x05 (some t0))).run u) := by
    rw [Prog.run_when]
    split
    · obtain ⟨-, -, hf⟩ := run_metError_at huc (show 0x05 < 0x20 by decide) t0
      exact hf
    · exact (Frame.refl [] [] u).mono (by simp) (by simp)
  rw [hrun]
  exact ⟨hbegan.congr (herr.1 .met (by decide) (by decide)), (hu.mono (by simp) (by simp)).trans (herr.mono (by simp) (by simp))⟩

/-! ### Lines (R430 to R433) -/

/-- A frame with one more line. -/
def MetFrame.withLine (f : MetFrame) (samples : List Nat) : MetFrame :=
  let px := samples.map (fun p => p % 2 ^ f.bits * 2 ^ (16 - f.bits))
  let lines := f.lines + 1
  { f with
    row := f.row + 1, lines := lines
    short := f.short || decide (px.length < f.width)
    long := f.long || decide (f.width < px.length) || decide (f.height < lines)
    px := if f.row < f.height && lines ≤ f.height then f.px ++ [(f.row, px.take f.width)] else f.px }

theorem MetFrame.withLine_fit {f : MetFrame} {samples : List Nat} (hrow : f.row < f.height) (hlines : f.lines < f.height)
    (hlen : samples.length = f.width) : f.withLine samples = { f with
      row := f.row + 1, lines := f.lines + 1
      px := f.px ++ [(f.row, samples.map (fun p => p % 2 ^ f.bits * 2 ^ (16 - f.bits)))] } := by
  have hwidth (g : Nat → Nat) : (samples.map g).take f.width = samples.map g := by
    rw [← hlen, List.take_of_length_le (by simp)]
  have hlines' : f.lines + 1 ≤ f.height := hlines
  simp [withLine, hlen, hwidth, hrow, hlines', Nat.not_lt.mpr hlines']

theorem run_modFrame {k : Nat} (hk : k < s.met.streams.length) {f : MetFrame} (hf : (s.stream k).frame = some f)
    (g : MetFrame → MetFrame) : ((modFrame k g).run s).stream k = { s.stream k with frame := some (g f) } := by
  rw [modFrame, stream_modStream_same s k _ hk, hf]
  rfl

theorem run_lineIn (htaps : s.TapsIdle) (k : Nat) (samples : List Nat) :
    (lineIn k samples).run s = (modFrame k (fun f => f.withLine samples)).run s := by
  have hrun : (lineIn k samples).run s = (tapRows k none).run ((modFrame k (fun f => f.withLine samples)).run s) := rfl
  have hidle : ((modFrame k (fun f => f.withLine samples)).run s).TapsIdle := htaps.congr rfl
  exact hrun.trans (run_tapRows_idle hidle k none)

/-! ### Frame ends (R432, R442) -/

/-- The last part of a frame's close: its record and what becomes of the stream. -/
def closing (k : Nat) (t0 : Time) (f : MetFrame) (data : List Byte) : Prog :=
  .block [memStream 0x12 (f.record + f.seq.toNat % 2 ^ f.ringLog * 16384) data, .setReg (R.MET_S_REC_IDX k) f.seq,
    modStream k (fun x => { x with frame := none, lastRecord := some t0 }), .raiseAt 424 t0,
    .when (f.short || f.long) (.raiseAt 425 t0)]

theorem length_recordBytes (f : MetFrame) (free : Nat) (noFe : Bool) (close : Time) (closeFsn : Fsn) :
    (f.recordBytes free noFe close closeFsn).length = 16384 := by
  have hhist (px : List (Nat × Nat × Nat)) : (f.histogram px).length = 4096 := by
    rw [MetFrame.histogram, length_flatMap_same _ _ 1024 fun c => ?_, List.length_range]
    rw [length_flatMap_same _ _ 4 fun k => length_leBytes .., List.length_range]
  have hzones (px : List (Nat × Nat × Nat)) : (f.zones free px).length = 1024 := by
    rw [MetFrame.zones, length_flatMap_same _ _ 64 fun c => ?_, List.length_range]
    rw [length_flatMap_same _ _ 4 fun k => length_leBytes .., List.length_range]
  have hspot (px : List (Nat × Nat × Nat)) (q : List Nat) : (f.spot px q).length = 16 := by
    simp [MetFrame.spot, apply_ite List.length]
  have hspots (px : List (Nat × Nat × Nat)) : (f.spotArea free px).length = 4096 := by
    rw [MetFrame.spotArea, length_flatMap_same _ _ 16 fun q => ?_, List.length_range]
    split
    · exact hspot _ _
    · exact length_leBytes ..
  have hstats (px : List (Nat × Nat × Nat)) :
      (if f.short then List.replicate 9216 0 else f.histogram px ++ f.zones free px ++ f.spotArea free px).length = 9216 := by
    split
    · exact List.length_replicate
    · simp only [List.length_append, hhist, hzones, hspots]
  simp only [MetFrame.recordBytes, List.length_append, length_leBytes, hstats, List.length_replicate, List.length_cons,
    List.length_nil]

/-- What a frame's close leaves after its record is written. -/
structure Closed (k : Nat) (t0 : Time) (f : MetFrame) (s t : State) : Prop where
  stream : t.stream k = { s.stream k with frame := none, lastRecord := some t0 }
  index : t.reg (R.MET_S_REC_IDX k) = f.seq
  taps : t.met.taps = s.met.taps
  length : t.met.streams.length = s.met.streams.length
  pended : (f.short || f.long) = false → Pended 424 s t
  frame : Frame [.met, .ctl] [R.MET_S_REC_IDX k] s t

theorem run_closing (hs : s.Canon) {k : Nat} (hk : k < s.met.streams.length) (hk4 : k < 4) (t0 : Time) (f : MetFrame)
    (data : List Byte) :
    Closed k t0 f ((memStream 0x12 (f.record + f.seq.toNat % 2 ^ f.ringLog * 16384) data).run s)
      ((closing k t0 f data).run s) := by
  have hmem := (memStream_in (parts := [.mem, .dmc, .freeCount]) (by simp) (by simp) (by simp) 0x12
    (f.record + f.seq.toNat % 2 ^ f.ringLog * 16384) data).spared hs
  have hmet := hmem.same .met (by decide) (by decide) (by decide)
  rw [closing, Prog.run_block_cons, Prog.run_block_cons, Prog.run_block_cons, Prog.run_block_cons, Prog.run_block_cons,
    Prog.run_block_nil]
  have hvc := hs.run (memStream 0x12 (f.record + f.seq.toNat % 2 ^ f.ringLog * 16384) data)
  generalize (memStream 0x12 (f.record + f.seq.toNat % 2 ^ f.ringLog * 16384) data).run s = v at *
  let w := (Prog.setReg (R.MET_S_REC_IDX k) f.seq).run v
  let x := (modStream k (fun x => { x with frame := none, lastRecord := some t0 })).run w
  let y := (Prog.raiseAt 424 t0).run x
  let z := (Prog.when (f.short || f.long) (.raiseAt 425 t0)).run y
  change Closed k t0 f v z
  have hw : Frame [] [R.MET_S_REC_IDX k] v w := (Prog.frame _ _ (.setReg (R.MET_S_REC_IDX k) f.seq) (by simp) v hvc).2
  have hx : Frame [.met] [] w x := frame_modStream k _ w
  have hy : Frame [.ctl] [] x y := frame_raiseAt 424 t0 x
  have hz : Frame [.ctl] [] y z := by
    change Frame [.ctl] [] y ((Prog.when (f.short || f.long) (.raiseAt 425 t0)).run y)
    rw [Prog.run_when]
    split
    · exact frame_raiseAt 425 t0 y
    · exact (Frame.refl [] [] y).mono (by simp) (by simp)
  have hwmet : w.met = v.met := hw.1 .met (by decide) (by decide)
  have hzmet : z.met = x.met :=
    Eq.trans (hz.1 .met (by decide) (by decide)) (hy.1 .met (by decide) (by decide))
  have hvx : Frame [.met] [R.MET_S_REC_IDX k] v x := (hw.mono (by simp) (by simp)).trans (hx.mono (by simp) (by simp))
  have hlen : k < w.met.streams.length := by rw [hwmet, hmet]; exact hk
  have hroute : R.CPX_EV_ROUTE 424 ∉ [R.MET_S_REC_IDX k] := by
    simp only [List.mem_singleton, R.CPX_EV_ROUTE, R.MET_S_REC_IDX]
    omega
  refine ⟨?_, ?_, ?_, ?_, fun hsize => ?_, (hvx.mono (by simp) (by simp)).trans ((hy.trans hz).mono (by simp) (by simp))⟩
  · rw [State.stream_congr hzmet, show x.stream k = _ from stream_modStream_same w k _ hlen, State.stream_congr hwmet]
  · exact (hz.2 _ (by simp)).trans ((hy.2 _ (by simp)).trans ((hx.2 _ (by simp)).trans (State.reg_store_same v _ _ _ hvc rfl)))
  · rw [hzmet, ← hwmet]
    rfl
  · rw [hzmet, ← hwmet]
    exact length_modStream k _ w
  · rw [show z = y from congrArg (fun b => (Prog.when b (.raiseAt 425 t0)).run y) hsize]
    exact hvx.pended_raiseAt t0 (by decide) hroute

/-- The end of a frame: its sizes are judged and its record is written. -/
theorem run_frameClose (hinv : s.Inv) (htaps : s.TapsIdle) {k : Nat} (hk : k < s.met.streams.length) (hk4 : k < 4) {f : MetFrame}
    (hf : (s.stream k).frame = some f) (t0 : Time) (noFe : Bool) :
    let f' := { f with short := f.short || decide (f.lines < f.height) }
    ∃ v data, data.length = 16384 ∧ v.stream k = { s.stream k with frame := some f' } ∧ v.Inv ∧
      v.met.taps = s.met.taps ∧ v.met.streams.length = s.met.streams.length ∧ Frame [.met, .freeCount] [] s v ∧
      (frameClose k t0 noFe).run s = (closing k t0 f' data).run v := by
  intro f'
  let x := (modFrame k (fun f => { f with short := f.short || decide (f.lines < f.height) })).run s
  let u := (Act.free 1).apply x
  let v := (Act.free 1).apply u
  have hx : x.stream k = { s.stream k with frame := some f' } := run_modFrame hk hf _
  have hxf : Frame [.met] [] s x := frame_modStream k _ s
  have hu : Frame [.freeCount] [] x u := Act.frame_noRegs (a := .free 1) List.mem_cons_self x
  have hv : Frame [.freeCount] [] u v := Act.frame_noRegs (a := .free 1) List.mem_cons_self u
  have hxlen : x.met.streams.length = s.met.streams.length := length_modStream k _ s
  have hvi : v.Inv := Prog.run_inv (.block [modFrame k _, .act (.free 1), .act (.free 1)]) s hinv
  have hvc : v.Canon := hvi.canon
  let data := f'.recordBytes u.freeCount noFe t0 (x.ing.committed.getD (Config.freeWord x.freeCount))
  refine ⟨v, data, length_recordBytes .., hx, hvi, rfl, hxlen, (hxf.mono (by simp) (by simp)).trans ((hu.trans hv).mono (by simp) (by simp)), ?_⟩
  have hidle : x.TapsIdle := htaps.congr rfl
  have hvlen : k < v.met.streams.length := Nat.lt_of_lt_of_eq hk hxlen.symm
  obtain ⟨-, -, hkept, -, -, -⟩ := run_closing hvc hvlen hk4 t0 f' data
  have hmem := (memStream_in (parts := [.mem, .dmc, .freeCount]) (by simp) (by simp) (by simp) 0x12
    (f'.record + f'.seq.toNat % 2 ^ f'.ringLog * 16384) data).spared hvc
  have hmet := hmem.same .met (by decide) (by decide) (by decide)
  have hlast : ((closing k t0 f' data).run v).TapsIdle := htaps.congr (hkept.trans (Eq.trans (congrArg Metrology.taps hmet) rfl))
  have hsome : (s.stream k).frame.isSome = true := by rw [hf]; rfl
  rw [frameClose, Prog.run_guard, if_pos hsome, Prog.run_block_cons, Prog.run_block_cons, Prog.run_block_cons, Prog.run_block_cons,
    Prog.run_block_nil]
  change (tapsEnd k t0).run ((withCommitted _).run ((tapRows k (some t0)).run x)) = _
  rw [run_tapRows_idle hidle, withCommitted, Prog.withFree, Prog.run_dyn, Prog.run_seq, Prog.run_act, Prog.run_dyn, Prog.run_dyn]
  have hframe : (u.stream k).frame = some f' := congrArg MetStream.frame hx
  change (tapsEnd k t0).run (Prog.run _ u) = _
  rw [hframe]
  exact run_tapsEnd_idle hlast k t0

theorem run_frameClose_none {k : Nat} (hf : (s.stream k).frame = none) (t0 : Time) (noFe : Bool) :
    (frameClose k t0 noFe).run s = s := by
  rw [frameClose, Prog.run_guard, if_neg (by simp [hf])]

/-! ### The commands of the camera ports -/

/-- A stream without a frame that begins one, its defect list being empty (R431, R434). -/
theorem run_frameStart_first (hs : s.Canon) (htaps : s.TapsIdle) {k : Nat} (hk : k < s.met.streams.length) (t0 : Time) (bits : Nat)
    (hdpc : s.fld (F.MET_S_DPC_HI_COUNT k) = 0) : let t := (frameStart k t0 false bits).run s
    Began k t0 false s t ∧ Frame [.met, .freeCount] [] s t := by
  obtain ⟨u, f, hrun, hbegan, -, hu, hzero⟩ := run_frameStart hs htaps hk t0 false bits
  intro t
  have ht : t = u := by
    rw [show t = _ from hrun, hzero hdpc]
    rfl
  rw [ht]
  exact ⟨hbegan, hu⟩

theorem completes_csiFrameStart (hs : s.Canon) (hawake : s.Awake) (htaps : s.TapsIdle) {k : Nat} (hk : k < s.met.streams.length)
    (hnone : (s.stream k).frame = none) (hdpc : s.fld (F.MET_S_DPC_HI_COUNT k) = 0) (hrec : s.receives 1 k = true) (stamp : Time) :
    Completes (.csiFrameStart k true stamp) s (fun t => Began k (s.csiTime stamp) false s t ∧ Frame [.met, .freeCount] [] s t) := by
  refine .of_go rfl hawake ?_
  rw [run_csiPacket hrec, Prog.run_dyn, Prog.run_seq, run_frameClose_none hnone]
  exact run_frameStart_first hs htaps hk _ _ hdpc

theorem completes_parallelVsyncEdge (hs : s.Canon) (hawake : s.Awake) (htaps : s.TapsIdle) (hk : 0 < s.met.streams.length)
    (hnone : (s.stream 0).frame = none) (hdpc : s.fld (F.MET_S_DPC_HI_COUNT 0) = 0) (hrec : s.receives 2 0 = true) (stamp : Time) :
    Completes (.parallelVsyncEdge stamp) s (fun t => Began 0 stamp false s t ∧ Frame [.met, .freeCount] [] s t) := by
  refine .of_go rfl hawake ?_
  rw [Prog.run_guard, if_pos hrec, Prog.run_dyn, Prog.run_seq, run_frameClose_none hnone]
  exact run_frameStart_first hs htaps hk _ _ hdpc

section
variable {k : Nat} {f : MetFrame} {samples : List Nat} (hawake : s.Awake) (htaps : s.TapsIdle) (hk : k < s.met.streams.length)
  (hf : (s.stream k).frame = some f) (hover : f.overflow = false)
include hawake htaps hk hf hover

theorem completes_csiLinePacket (hrec : s.receives 1 k = true) :
    Completes (.csiLinePacket k (s.fld (F.MET_S_CFG_DT k)) true true false samples) s (fun t =>
      (t.stream k).frame = some (f.withLine samples) ∧ Frame [.met] [] s t) := by
  refine .of_go rfl hawake ?_
  rw [run_csiPacket hrec, Prog.run_dyn, if_neg (by simp)]
  simp only [hf, hover, Bool.false_eq_true, Bool.not_true, if_false]
  rw [run_lineIn htaps]
  exact ⟨congrArg MetStream.frame (run_modFrame hk hf _), frame_modStream k _ s⟩

theorem completes_parallelHsyncLine (hrec : s.receives 2 0 = true) (hk0 : k = 0) :
    Completes (.parallelHsyncLine false samples) s (fun t =>
      (t.stream k).frame = some (f.withLine samples) ∧ Frame [.met] [] s t) := by
  subst hk0
  refine .of_go rfl hawake ?_
  rw [Prog.run_guard, if_pos hrec, Prog.run_dyn]
  simp only [hf, hover, Bool.false_eq_true, if_false]
  rw [run_lineIn htaps]
  exact ⟨congrArg MetStream.frame (run_modFrame hk hf _), frame_modStream 0 _ s⟩

theorem completes_csiLinePacket_badCrc (hs : s.Canon) (hrec : s.receives 1 k = true) :
    Completes (.csiLinePacket k (s.fld (F.MET_S_CFG_DT k)) true false false samples) s (fun t =>
      (t.stream k).frame = some { f with row := f.row + 1, bad := f.bad + 1 } ∧
      t.fld F.MET_ERR_COUNT = s.countUp F.MET_ERR_COUNT ∧ Pended 428 s t ∧
      Frame [.met, .ctl, .freeCount] [F.MET_ERR_COUNT.off] s t) := by
  refine .of_go rfl hawake ?_
  rw [run_csiPacket hrec, Prog.run_dyn, if_neg (by simp)]
  simp only [hf]
  rw [if_neg (by simp [hover]), if_neg (by simp), if_pos (show (!false) = true from rfl)]
  rw [Prog.run_block_cons, Prog.run_block_cons, Prog.run_block_cons, Prog.run_block_nil]
  let v := (modFrame k (fun f => { f with row := f.row + 1, bad := f.bad + 1 })).run s
  have hv : Frame [.met] [] s v := frame_modStream k _ s
  have hidle : v.TapsIdle := htaps.congr rfl
  have hstream := congrArg MetStream.frame (run_modFrame hk hf fun f => { f with row := f.row + 1, bad := f.bad + 1 })
  obtain ⟨hcount, hpend, hlast⟩ := run_metError_open (hs.run (modFrame k fun f => { f with row := f.row + 1, bad := f.bad + 1 }))
    (show 0x02 < 0x20 by decide)
  change _ ∧ _
  rw [show (tapRows k none).run _ = v from run_tapRows_idle hidle k none]
  refine ⟨?_, ?_, hpend.after hv (by decide) (by simp), (hv.mono (by simp) (by simp)).trans (hlast.mono (by simp) (by simp))⟩
  · rw [State.stream_congr (hlast.1 .met (by decide) (by decide))]
    exact hstream
  · rw [hcount, State.countUp, hv.fld _ (by simp), State.countUp]

end

/-- A frame without an error of size ends with its record and its event (R432, R442). -/
theorem completes_csiFrameEnd (hinv : s.Inv) (hawake : s.Awake) (htaps : s.TapsIdle) {k : Nat} (hk : k < s.met.streams.length)
    {f : MetFrame} (hf : (s.stream k).frame = some f) (hrec : s.receives 1 k = true) (hshort : f.short = false)
    (hlong : f.long = false) (hlines : f.lines = f.height) (hpins : s.pins' = []) (hpoison : s.dmc.poison = []) (stamp : Time) :
    Completes (.csiFrameEnd k true stamp) s (fun t =>
      (t.stream k).frame = none ∧ (t.stream k).lastRecord = some (s.csiTime stamp) ∧
      t.reg (R.MET_S_REC_IDX k) = f.seq ∧ Pended 424 s t ∧
      MemOutside (f.record + f.seq.toNat % 2 ^ f.ringLog * 16384) 16384 s t ∧
      Frame [.met, .mem, .dmc, .ctl, .freeCount] [R.MET_S_REC_IDX k] s t) := by
  refine .of_go rfl hawake ?_
  rw [run_csiPacket hrec, Prog.run_dyn]
  have hsame : { f with short := f.short || decide (f.lines < f.height) } = f := by
    have h : (f.short || decide (f.lines < f.height)) = f.short := by simp [hlines]
    rw [h]
  obtain ⟨v, data, hdata, hstream, hvi, -, hlen, hv, hrun⟩ := run_frameClose hinv htaps hk (receives_lt hrec) hf (s.csiTime stamp) false
  rw [hsame] at hstream hrun
  rw [hrun]
  have hdmc : v.dmc.poison = [] := Eq.trans (congrArg Dram.poison (hv.1 .dmc (by decide) (by decide))) hpoison
  have hw : v.Writable := (State.Writable.mk hinv hpins hpoison).congr hvi hv (by decide) (by simp) hdmc
  obtain ⟨-, hout, hmemf⟩ := run_memStream hw 0x12 (f.record + f.seq.toNat % 2 ^ f.ringLog * 16384) data
  obtain ⟨hstream', hidx, -, -, hpend, hlast⟩ :=
    run_closing hvi.canon (Nat.lt_of_lt_of_eq hk hlen.symm) (receives_lt hrec) (s.csiTime stamp) f data
  rw [hdata] at hout
  generalize (memStream 0x12 (f.record + f.seq.toNat % 2 ^ f.ringLog * 16384) data).run v = w at *
  have hvw : Frame [.met, .mem, .dmc, .freeCount] [] s w := (hv.mono (by simp) (by simp)).trans (hmemf.mono (by simp) (by simp))
  refine ⟨congrArg MetStream.frame hstream', congrArg MetStream.lastRecord hstream', hidx, ?_, fun c hc => ?_, ?_⟩
  · exact (hpend (by rw [hshort, hlong]; rfl)).after hvw (by decide) (by decide)
  · exact (hlast.1 .mem (by decide) (by decide) c).trans ((hout c hc).trans (hv.1 .mem (by decide) (by decide) c))
  · exact (hvw.mono (by simp) (by simp)).trans (hlast.mono (by simp) (by simp))

/-! ### Generated frames (R448) -/

/-- A frame that a stream has received is closed, whatever its sizes are. -/
theorem closed_frameClose (hinv : s.Inv) (htaps : s.TapsIdle) {k : Nat} (hk : k < s.met.streams.length) (hk4 : k < 4) {f : MetFrame}
    (hf : (s.stream k).frame = some f) (t0 : Time) (noFe : Bool) : let t := (frameClose k t0 noFe).run s
    t.stream k = { s.stream k with frame := none, lastRecord := some t0 } ∧ t.reg (R.MET_S_REC_IDX k) = f.seq ∧
      t.met.taps = s.met.taps ∧ t.met.streams.length = s.met.streams.length := by
  intro t
  obtain ⟨v, data, -, hstream, hvi, htapsv, hlen, -, hrun⟩ := run_frameClose hinv htaps hk hk4 hf t0 noFe
  generalize hf' : MetFrame.mk .. = f' at hrun hstream
  obtain ⟨hstream', hidx, htaps', hlen', -, -⟩ := run_closing hvi.canon (Nat.lt_of_lt_of_eq hk hlen.symm) hk4 t0 f' data
  have hmem := (memStream_in (parts := [.mem, .dmc, .freeCount]) (by simp) (by simp) (by simp) 0x12
    (f'.record + f'.seq.toNat % 2 ^ f'.ringLog * 16384) data).spared hvi.canon
  have hmet := hmem.same .met (by decide) (by decide) (by decide)
  generalize (memStream 0x12 (f'.record + f'.seq.toNat % 2 ^ f'.ringLog * 16384) data).run v = w at *
  have hwmet : w.met = v.met := hmet
  rw [← hrun] at hstream' hidx htaps' hlen'
  refine ⟨?_, ?_, ?_, ?_⟩
  · rw [show t.stream k = _ from hstream', State.stream_congr hwmet, hstream]
  · rw [show t.reg _ = _ from hidx, ← hf']
  · rw [show t.met.taps = _ from htaps', hwmet, htapsv]
  · rw [show t.met.streams.length = _ from hlen', hwmet, hlen]

/-- A stream receives the frame with a number. -/
structure State.Receiving (k : Nat) (q : Word) (s : State) : Prop where
  inv : s.Inv
  taps : s.TapsIdle
  length : k < s.met.streams.length
  frame : ∃ f, (s.stream k).frame = some f ∧ f.seq = q
  next : (s.stream k).nextSeq = q + 1

theorem State.Receiving.lineIn {k : Nat} {q : Word} (h : s.Receiving k q) (samples : List Nat) :
    ((lineIn k samples).run s).Receiving k q := by
  obtain ⟨hinv, htaps, hk, ⟨f, hf, hseq⟩, hnext⟩ := h
  have hinv' := Prog.run_inv (Machine.lineIn k samples) s hinv
  have hstream := run_modFrame hk hf fun f => f.withLine samples
  rw [run_lineIn htaps] at hinv' ⊢
  exact ⟨hinv', htaps.congr rfl, Nat.lt_of_lt_of_eq hk (length_modStream k _ s).symm,
    ⟨f.withLine samples, congrArg MetStream.frame hstream, hseq⟩, Eq.trans (congrArg MetStream.nextSeq hstream) hnext⟩

theorem State.Receiving.each {k : Nat} {q : Word} (samples : Nat → List Nat) (l : List Nat) {s : State} (h : s.Receiving k q) :
    ((Prog.each l fun y => Machine.lineIn k (samples y)).run s).Receiving k q := by
  induction l generalizing s with
  | nil => exact h
  | cons y l ih => exact ih (h.lineIn (samples y))

/-- A frame that starts, before which another one may have been closed. -/
theorem receiving_frameStart (hinv : s.Inv) (htaps : s.TapsIdle) {k : Nat} (hk : k < s.met.streams.length) (t0 : Time) (bits : Nat) :
    ((frameStart k t0 true bits).run s).Receiving k (s.stream k).nextSeq := by
  obtain ⟨⟨⟨f, hframe, hseq, -⟩, hnext, hkept, hlen⟩, -⟩ := began_frameStart hinv.canon htaps hk t0 true bits
  exact ⟨Prog.run_inv _ s hinv, htaps.congr hkept, Nat.lt_of_lt_of_eq hk hlen.symm, ⟨f, hframe, hseq⟩, hnext⟩

theorem completes_testFrameStart (hinv : s.Inv) (hawake : s.Awake) (htaps : s.TapsIdle) {k : Nat} (hk : 4 = s.met.streams.length)
    (htest : s.testing k = true) (stamp : Time) : Completes (.testFrameStart k stamp) s (fun t =>
      (t.stream k).frame = none ∧ (t.stream k).lastRecord.isSome = true ∧
      (t.stream k).nextSeq = (s.stream k).nextSeq + 1 ∧ t.reg (R.MET_S_REC_IDX k) = (s.stream k).nextSeq) := by
  have hk4 : k < 4 := by
    have h := htest
    simp only [State.testing, Bool.and_eq_true, decide_eq_true_eq] at h
    obtain ⟨⟨⟨-, hlt⟩, -⟩, -⟩ := h
    exact hlt
  refine .of_go rfl hawake ?_
  rw [Prog.run_guard, if_pos htest, Prog.withFreeStamp, Prog.run_dyn, Prog.run_seq, Prog.run_act, Prog.run_block_cons,
    Prog.run_block_cons, Prog.run_block_cons, Prog.run_block_cons, Prog.run_block_nil, Prog.run_dyn, Prog.run_seq, Prog.run_act]
  have hui : ((Act.free 1).apply s).Inv := Prog.run_inv (.act (.free 1)) s hinv
  have humet : ((Act.free 1).apply s).met = s.met := rfl
  generalize (Act.free 1).apply s = u at *
  have hclose : ((frameClose k stamp false).run u).met.taps = s.met.taps ∧
      ((frameClose k stamp false).run u).met.streams.length = s.met.streams.length ∧
      (((frameClose k stamp false).run u).stream k).nextSeq = (s.stream k).nextSeq := by
    cases hf : (u.stream k).frame with
    | none =>
      rw [run_frameClose_none hf]
      rw [State.stream_congr humet, humet]
      exact ⟨rfl, rfl, rfl⟩
    | some f =>
      have hku : k < u.met.streams.length := by rw [humet, ← hk]; exact hk4
      obtain ⟨hstream, -, hkept, hlen⟩ := closed_frameClose hui (htaps.congr (congrArg Metrology.taps humet)) hku hk4 hf stamp false
      rw [hstream, hkept, hlen, humet, State.stream_congr humet]
      exact ⟨rfl, rfl, rfl⟩
  obtain ⟨hkept, hlen, hnext⟩ := hclose
  have hvi : ((frameClose k stamp false).run u).Inv := Prog.run_inv _ u hui
  generalize (frameClose k stamp false).run u = v at *
  have hstart := receiving_frameStart hvi (htaps.congr hkept) (k := k) (by rw [hlen, ← hk]; exact hk4) stamp 16
  rw [hnext] at hstart
  generalize (frameStart k stamp true 16).run v = w at *
  have hfree : ((Act.free 1).apply w).Receiving k (s.stream k).nextSeq :=
    ⟨Prog.run_inv (.act (.free 1)) w hstart.inv, hstart.taps.congr rfl, hstart.length, hstart.frame, hstart.next⟩
  have hlines := hfree.each (fun y => (List.range (w.fld (F.MET_S_SIZE_W k))).map
        (fun x => testSample (w.fld (F.MET_S_CFG_TEST k)) (w.fld (F.MET_S_BL_BL0 k)) w.freeCount x y)) (List.range (w.fld (F.MET_S_SIZE_H k)))
  generalize (Prog.each _ _).run ((Act.free 1).apply w) = x at *
  obtain ⟨hxi, hxt, hxk, ⟨f, hf, hseq⟩, hxn⟩ := hlines
  obtain ⟨hstream, hidx, -, -⟩ := closed_frameClose hxi hxt hxk hk4 hf (Config.freeStamp s.freeCount) false
  refine ⟨congrArg MetStream.frame hstream, ?_, Eq.trans (congrArg MetStream.nextSeq hstream) hxn, hidx.trans hseq⟩
  rw [hstream]
  rfl

/-! ### Exposure sets (R445 to R447) -/

theorem completes_expSetGo (hs : s.Canon) (hawake : s.Awake) {i : Nat} (hi : i < 4) (hlen : s.met.streams.length = 4)
    (hroom : (s.stream i).queued.length < 4) : Completes (.expSetGo i) s (fun t =>
      (t.stream i).queued = (s.stream i).queued ++
        [(s.bytes (s.addr (F.MET_S_EXP_LO_ADDR i) (F.MET_S_EXP_HI_ADDR i)) 64, s.met.goOrder)] ∧
      t.met.goOrder = s.met.goOrder + 1 ∧ t.fld (F.MET_S_EXP_GO_QUEUED i) = (s.stream i).queued.length + 1 ∧
      Frame [.met] [(F.MET_S_EXP_GO_QUEUED i).off] s t) := by
  refine .of_go rfl hawake ?_
  rw [expSetGoProg, Prog.run_guard, if_pos (by simpa using hi), Prog.run_dyn, if_neg (by omega)]
  rw [Prog.run_block_cons, Prog.run_block_cons, Prog.run_block_cons, Prog.run_block_nil, Prog.run_act]
  generalize s.bytes (s.addr (F.MET_S_EXP_LO_ADDR i) (F.MET_S_EXP_HI_ADDR i)) 64 = d
  let u := (modStream i (fun x => { x with queued := x.queued ++ [(d, s.met.goOrder)] })).run s
  let v := (Act.met (fun m => { m with goOrder := m.goOrder + 1 })).apply u
  let w := (Prog.setFld (F.MET_S_EXP_GO_QUEUED i) ((s.stream i).queued.length + 1)).run v
  have hu : Frame [.met] [] s u := frame_modStream i _ s
  have hv : Frame [.met] [] u v := Act.frame_noRegs (a := .met _) List.mem_cons_self u
  have hvc : v.Canon := (hs.run _).apply _
  have hw : Frame [] [(F.MET_S_EXP_GO_QUEUED i).off] v w := (Prog.frame _ _ (.setFld _ _) (by simp) v hvc).2
  have hwmet : w.met = v.met := hw.1 .met (by decide) (by decide)
  have hstream : u.stream i = { s.stream i with queued := (s.stream i).queued ++ [(d, s.met.goOrder)] } :=
    stream_modStream_same s i _ (by omega)
  refine ⟨?_, congrArg Metrology.goOrder hwmet, ?_, ((hu.trans hv).mono (by simp) (by simp)).trans (hw.mono (by simp) (by simp))⟩
  · exact Eq.trans (congrArg MetStream.queued (State.stream_congr hwmet i)) (congrArg MetStream.queued hstream)
  · exact (State.fld_setFld_same _ _ _ hvc ⟨by show 10 < 32; decide, by show 8 ≤ 10; decide⟩).trans (Nat.mod_eq_of_lt (by show _ < 8; omega))

theorem completes_expSetGo_full (hs : s.Canon) (hawake : s.Awake) {i : Nat} (hi : i < 4) (hfull : (s.stream i).queued.length = 4) :
    Completes (.expSetGo i) s (fun t => t.met = s.met ∧ t.fld F.MET_ERR_COUNT = s.countUp F.MET_ERR_COUNT ∧ Pended 428 s t) := by
  refine .of_go rfl hawake ?_
  rw [expSetGoProg, Prog.run_guard, if_pos (by simpa using hi), Prog.run_dyn, if_pos (by omega)]
  obtain ⟨hcount, hpend, hf⟩ := run_metError_open hs (show 0x07 < 0x20 by decide)
  exact ⟨hf.1 .met (by decide) (by decide), hcount, hpend⟩

theorem expGo_notMem (i : Nat) : (F.MET_S_EXP_GO_QUEUED i).off ∉ [F.MET_CCI_BUSY.off] := by
  show ¬ R.MET_S_EXP_GO i ∈ [R.MET_CCI]
  rw [List.mem_singleton]
  unfold R.MET_S_EXP_GO R.MET_CCI
  omega

theorem completes_expSetStart (hs : s.Canon) (hawake : s.Awake) {i : Nat} (hi : i < 4) (hlen : s.met.streams.length = 4)
    {q : List Byte × Nat} {rest : List (List Byte × Nat)} (hidle : s.met.cci = none) (hnext : s.nextSet = some i)
    (hq : (s.stream i).queued = q :: rest) (hrest : rest.length < 4) : Completes .expSetStart s (fun t =>
        t.met.cci = some (i, q.1) ∧ (t.stream i).queued = rest ∧ t.fld (F.MET_S_EXP_GO_QUEUED i) = rest.length ∧
        t.fld F.MET_CCI_BUSY = 1 ∧ t.out = .cci i (setWrites q.1) :: s.out ∧
        Frame [.met, .out] [(F.MET_S_EXP_GO_QUEUED i).off, F.MET_CCI_BUSY.off] s t) := by
  refine .of_go rfl hawake ?_
  rw [Prog.run_guard, if_pos (by simp [hidle]), Prog.run_dyn]
  simp only [hnext, hq]
  rw [Prog.run_block_cons, Prog.run_block_cons, Prog.run_block_cons, Prog.run_block_cons, Prog.run_block_cons, Prog.run_block_nil,
    Prog.run_act]
  have hu : Frame [.met] [] s _ := frame_modStream i (fun x => { x with queued := rest }) s
  have huc : State.Canon _ := hs.run (modStream i (fun x => { x with queued := rest }))
  have hustream := stream_modStream_same s i (fun x => { x with queued := rest }) (by omega)
  generalize (modStream i (fun x => { x with queued := rest })).run s = u at *
  have hv : Frame [] [(F.MET_S_EXP_GO_QUEUED i).off] u _ :=
    (Prog.frame _ _ (.setFld (F.MET_S_EXP_GO_QUEUED i) rest.length) (by simp) u huc).2
  have hvc : State.Canon _ := huc.run (.setFld (F.MET_S_EXP_GO_QUEUED i) rest.length)
  have hqueued := State.fld_setFld_same (F.MET_S_EXP_GO_QUEUED i) rest.length u huc ⟨by show 10 < 32; decide, by show 8 ≤ 10; decide⟩
  have hsmall : rest.length % 2 ^ 3 = rest.length := Nat.mod_eq_of_lt (by omega)
  generalize (Prog.setFld (F.MET_S_EXP_GO_QUEUED i) rest.length).run u = v at *
  have hw : Frame [.met] [] v _ := Act.frame_noRegs (a := .met (fun m => { m with cci := some (i, q.1) })) List.mem_cons_self v
  have hwc : State.Canon _ := hvc.apply (.met (fun m => { m with cci := some (i, q.1) }))
  have hwmet : ((Act.met (fun m => { m with cci := some (i, q.1) })).apply v).met = { v.met with cci := some (i, q.1) } := rfl
  generalize (Act.met (fun m => { m with cci := some (i, q.1) })).apply v = w at *
  have hx : Frame [] [F.MET_CCI_BUSY.off] w _ := (Prog.frame _ _ (.setFld F.MET_CCI_BUSY 1) (by simp) w hwc).2
  have hbusy := State.fld_setFld_same F.MET_CCI_BUSY 1 w hwc ⟨by decide, by decide⟩
  generalize (Prog.setFld F.MET_CCI_BUSY 1).run w = x at *
  have hy : Frame [.out] [] x _ := Act.frame_noRegs (a := .out (.cci i (setWrites q.1))) List.mem_cons_self x
  have hxmet : x.met = w.met := hx.1 .met (by decide) (by decide)
  have hvmet : v.met = u.met := hv.1 .met (by decide) (by decide)
  have hstream : x.stream i = u.stream i := by rw [State.stream, hxmet, hwmet, hvmet, State.stream]
  have hout : x.out = s.out :=
    Eq.trans (hx.1 .out (by decide) (by decide)) (Eq.trans (hw.1 .out (by decide) (by decide))
      (Eq.trans (hv.1 .out (by decide) (by decide)) (hu.1 .out (by decide) (by decide))))
  refine ⟨?_, ?_, ?_, (hy.fld _ (by simp)).trans hbusy, congrArg (Out.cci i (setWrites q.1) :: ·) hout, ?_⟩
  · rw [Prog.run_send, show State.met _ = x.met from hy.1 .met (by decide) (by decide), hxmet, hwmet]
  · rw [Prog.run_send, State.stream_congr (hy.1 .met (by decide) (by decide)), hstream, hustream]
  · exact (hy.fld _ (by simp)).trans ((hx.fld _ (expGo_notMem i)).trans ((hw.fld _ (by simp)).trans (hqueued.trans hsmall)))
  · exact (hu.mono (by simp) (by simp)).trans ((hv.mono (by simp) (by simp)).trans ((hw.mono (by simp) (by simp)).trans
      ((hx.mono (by simp) (by simp)).trans (hy.mono (by simp) (by simp)))))

/-- A running set has ended. -/
structure SetEnded (i : Nat) (t0 : Time) (tag : Option Word) (s t : State) : Prop where
  cci : t.met.cci = none
  busy : t.fld F.MET_CCI_BUSY = 0
  ends : (t.stream i).ends = (s.stream i).ends ++ [(t0, s.fld (F.MET_S_CFG_EXP_LATENCY i), tag)]
  frame : Frame [.met] [F.MET_CCI_BUSY.off] s t

/-- The part of a set's end that no outcome changes. -/
def endSet (i : Nat) (t0 : Time) (latency : Nat) (tag : Option Word) : Prog :=
  .block [.act (.met (fun m => { m with cci := none })), .setFld F.MET_CCI_BUSY 0,
    modStream i (fun x => { x with ends := x.ends ++ [(t0, latency, tag)] })]

theorem run_endSet (hs : s.Canon) {i : Nat} (hi : i < s.met.streams.length) (t0 : Time) (tag : Option Word) :
    SetEnded i t0 tag s ((endSet i t0 (s.fld (F.MET_S_CFG_EXP_LATENCY i)) tag).run s) := by
  rw [endSet, Prog.run_block_cons, Prog.run_block_cons, Prog.run_block_cons, Prog.run_block_nil, Prog.run_act]
  let u := (Act.met (fun m => { m with cci := none })).apply s
  let v := (Prog.setFld F.MET_CCI_BUSY 0).run u
  let w := (modStream i (fun x => { x with ends := x.ends ++ [(t0, s.fld (F.MET_S_CFG_EXP_LATENCY i), tag)] })).run v
  have hu : Frame [.met] [] s u := Act.frame_noRegs (a := .met _) List.mem_cons_self s
  have huc : u.Canon := hs.apply _
  have hv : Frame [] [F.MET_CCI_BUSY.off] u v := (Prog.frame _ _ (.setFld _ _) (by simp) u huc).2
  have hw : Frame [.met] [] v w := frame_modStream i _ v
  have hvmet : v.met = { s.met with cci := none } := hv.1 .met (by decide) (by decide)
  have hstream : v.stream i = s.stream i := by rw [State.stream, hvmet, State.stream]
  have hbusy : v.fld F.MET_CCI_BUSY = 0 := State.fld_setFld_same _ _ _ huc ⟨by decide, by decide⟩
  have hlen : i < v.met.streams.length := by rw [hvmet]; exact hi
  refine ⟨congrArg Metrology.cci hvmet, (hw.fld _ (by simp)).trans hbusy, ?_,
    (hu.mono (by simp) (by simp)).trans ((hv.mono (by simp) (by simp)).trans (hw.mono (by simp) (by simp)))⟩
  exact (congrArg MetStream.ends (stream_modStream_same v i _ hlen)).trans
    (congrArg (fun x => MetStream.ends x ++ [(t0, s.fld (F.MET_S_CFG_EXP_LATENCY i), tag)]) hstream)

theorem run_setEnds {i : Nat} {d : List Byte} (hset : s.met.cci = some (i, d)) (tag : List Byte → Option Word) (t0 : Time)
    (p : Nat → Prog) : (setEnds tag t0 p).run s = (p i).run ((endSet i t0 (s.fld (F.MET_S_CFG_EXP_LATENCY i)) (tag d)).run s) := by
  rw [setEnds, Prog.run_dyn]
  simp only [hset]
  rfl

theorem run_setEnds_none (hset : s.met.cci = none) (tag : List Byte → Option Word) (t0 : Time)
    (p : Nat → Prog) : (setEnds tag t0 p).run s = s := by
  rw [setEnds, Prog.run_dyn]
  simp only [hset]
  rfl

theorem completes_expSetDone (hs : s.Canon) (hawake : s.Awake) {i : Nat} (hi : i < s.met.streams.length) {d : List Byte}
    (hset : s.met.cci = some (i, d)) (stamp : Time) : Completes (.expSetDone true stamp) s (fun t =>
        t.met.cci = none ∧ t.fld F.MET_CCI_BUSY = 0 ∧ (t.stream i).ends = (s.stream i).ends ++
          [(stamp, s.fld (F.MET_S_CFG_EXP_LATENCY i), some (BitVec.ofNat 32 (leAt d 0 4)))] ∧ Pended 426 s t ∧
        Frame [.met, .ctl] [F.MET_CCI_BUSY.off] s t) := by
  refine .of_go rfl hawake ?_
  rw [run_setEnds hset]
  obtain ⟨hcci, hbusy, hends, hf⟩ := run_endSet hs hi stamp (some (BitVec.ofNat 32 (leAt d 0 4)))
  have hlast := frame_raiseAt 426 stamp ((endSet i stamp (s.fld (F.MET_S_CFG_EXP_LATENCY i))
    (some (BitVec.ofNat 32 (leAt d 0 4)))).run s)
  exact ⟨Eq.trans (congrArg Metrology.cci (hlast.1 .met (by decide) (by decide))) hcci, (hlast.fld _ (by simp)).trans hbusy,
    Eq.trans (congrArg MetStream.ends (State.stream_congr (hlast.1 .met (by decide) (by decide)) i)) hends,
    hf.pended_raiseAt stamp (by decide) (by decide), (hf.mono (by simp) (by simp)).trans (hlast.mono (by simp) (by simp))⟩

theorem completes_cciTimeout (hs : s.Canon) (hawake : s.Awake) {i : Nat} (hi : i < s.met.streams.length) {d : List Byte}
    (hset : s.met.cci = some (i, d)) (stamp : Time) : Completes (.cciTimeout stamp) s (fun t =>
        t.met.cci = none ∧ t.fld F.MET_CCI_BUSY = 0 ∧ t.out = .cciReset i :: s.out ∧ Pended 428 s t ∧
        Frame [.met, .ctl, .out, .freeCount] [F.MET_CCI_BUSY.off, F.MET_ERR_COUNT.off] s t) := by
  refine .of_go rfl hawake ?_
  rw [run_setEnds hset, Prog.run_seq]
  obtain ⟨hcci, hbusy, -, hf⟩ := run_endSet hs hi stamp none
  have huc := hs.run (endSet i stamp (s.fld (F.MET_S_CFG_EXP_LATENCY i)) none)
  generalize (endSet i stamp (s.fld (F.MET_S_CFG_EXP_LATENCY i)) none).run s = u at *
  obtain ⟨-, hpend, hv⟩ := run_metError_at huc (show 0x09 < 0x20 by decide) stamp
  generalize (metError 0x09 (some stamp)).run u = v at *
  have hw : Frame [.out] [] v ((Prog.send (.cciReset i)).run v) := Act.frame_noRegs (a := .out _) List.mem_cons_self v
  have hout : v.out = s.out := Eq.trans (hv.1 .out (by decide) (by decide)) (hf.1 .out (by decide) (by decide))
  refine ⟨Eq.trans (congrArg Metrology.cci (hv.1 .met (by decide) (by decide))) hcci, (hw.fld _ (by simp)).trans ((hv.fld _ (by decide)).trans hbusy),
    congrArg (Out.cciReset i :: ·) hout, ?_, (hf.mono (by simp) (by simp)).trans ((hv.mono (by simp) (by simp)).trans (hw.mono (by simp) (by simp)))⟩
  exact hpend.after hf (by decide) (by decide)

/-! ### The obligation -/

/-- Settles O55: every command of the camera ports, the taps and the exposure sets, clause by clause. -/
theorem sensorFramesCaptured : Obligations.SensorFramesCaptured := by
  intro s i stamp hinv hawake hi hlen htlen
  have hs := hinv.canon
  have hlt {mode k : Nat} (h : s.receives mode k = true) : k < s.met.streams.length := hlen ▸ receives_lt h
  have hi' : i < s.met.streams.length := hlen ▸ hi
  refine ⟨completes_tapArm hs hawake hi htlen, completes_tapArm_none, completes_csiFrameStart_badHeader hs hawake i stamp,
    fun htaps => ⟨fun k hnone hdpc => ⟨fun hrec => ?_, ?_⟩, fun k f samples hf hover hrow hlines hwidth => ⟨fun hrec => ?_, fun hrec =>
      completes_csiLinePacket_badCrc hawake htaps (hlt hrec) hf hover hs hrec, ?_⟩,
      fun k f hf hrec hshort hlong hlines hpins hpoison =>
        completes_csiFrameEnd hinv hawake htaps (hlt hrec) hf hrec hshort hlong hlines hpins hpoison stamp,
      fun k htest => completes_testFrameStart hinv hawake htaps hlen.symm htest stamp⟩,
    completes_expSetGo hs hawake hi hlen, completes_expSetGo_full hs hawake hi, fun q rest hidle hnext hq hrest =>
      completes_expSetStart hs hawake hi hlen hidle hnext hq hrest, fun hbusy => ?_, fun hidle => ⟨?_, ?_⟩, fun d hset =>
      ⟨completes_expSetDone hs hawake hi' hset stamp, completes_cciTimeout hs hawake hi' hset stamp⟩⟩
  · obtain ⟨t, ht, ⟨hframe, hnext, -, -⟩, hf⟩ := completes_csiFrameStart hs hawake htaps (hlt hrec) hnone hdpc hrec stamp
    exact ⟨t, ht, hframe, hnext, hf⟩
  · rintro rfl hrec
    obtain ⟨t, ht, ⟨hframe, hnext, -, -⟩, hf⟩ := completes_parallelVsyncEdge hs hawake htaps (hlt hrec) hnone hdpc hrec stamp
    exact ⟨t, ht, hframe, hnext, hf⟩
  · rw [← MetFrame.withLine_fit hrow hlines hwidth]
    exact completes_csiLinePacket hawake htaps (hlt hrec) hf hover hrec
  · rintro rfl hrec
    rw [← MetFrame.withLine_fit hrow hlines hwidth]
    exact completes_parallelHsyncLine hawake htaps (hlt hrec) hf hover hrec rfl
  · refine .of_go_self rfl ?_
    rw [Prog.run_guard, if_neg (by simpa [Option.isSome_iff_ne_none] using hbusy)]
  · exact .of_go_self rfl (run_setEnds_none hidle _ _ _)
  · exact .of_go_self rfl (run_setEnds_none hidle _ _ _)

end Sys2Proof.Machine
end

section
/-! PROOF. O46: the vote window (R407 to R411). -/

namespace Sys2Proof.Machine

variable {s : State}

/-! ### Events at an open instant -/

theorem frame_raise (e : Nat) (s : State) : Frame [.ctl, .freeCount] [] s ((Prog.raise e).run s) :=
  Prog.frame_noRegs _ _ (by simp [Act.Within]) s

theorem Frame.pended_raise {parts : List Part} {offs : List Nat} {u : State} (h : Frame parts offs s u) (e : Nat)
    (hctl : Part.ctl ∉ parts) (hroute : R.CPX_EV_ROUTE e ∉ offs) : Pended e s ((Prog.raise e).run u) := by
  have hfree : Frame [.freeCount] [] u ((Act.free 1).apply u) := Act.frame_noRegs (a := .free 1) List.mem_cons_self u
  have hboth : Frame (.freeCount :: parts) offs s ((Act.free 1).apply u) :=
    (h.mono (by simp +contextual) (by simp)).trans (hfree.mono (by simp) (by simp))
  exact hboth.pended_raiseAt (Config.freeStamp u.freeCount) (by simpa using hctl) hroute

/-! ### Votes that do not leave the node -/

/-- A node without a parent in a domain sends no vote there. -/
theorem run_trySendVote_orphan {d : Bool} (h : (s.dom d).parent = none) : (trySendVote d).run s = s := by
  have hsend : (sendVote d).run s = s := by
    rw [sendVote, Prog.run_dyn, if_pos (by simp [h])]
    rfl
  rw [trySendVote, Prog.run_dyn]
  dsimp only
  split
  · exact hsend
  · rfl

theorem run_trySendVote_cmt {d : Bool} (h : (s.dom d).parent = none) (f : Commit → Commit) :
    (trySendVote d).run ((Act.cmt f).apply s) = (Act.cmt f).apply s := run_trySendVote_orphan h

/-- What the settling of a vote leaves at a node that has no parent. -/
theorem run_settleVote_orphan (hs : s.Canon) (hparent : ∀ d, (s.dom d).parent = none) (ready : Bool) (reason : BitVec 16) :
    let t := (settleVote ready reason).run s
    t.cmt = { s.cmt with vote := some { fsn := s.N, ready := ready, reason := reason, demand := (s.latched s.N).demand } } ∧
      t.reg R.CMT_VOTE_FSN = s.N ∧ t.flag F.CMT_VOTE_NOT_READY = !ready ∧ t.fld F.CMT_VOTE_REASON = reason.toNat ∧
      Pended 128 s t ∧ Frame [.cmt, .ctl, .freeCount] [R.CMT_VOTE_FSN, F.CMT_VOTE_REASON.off] s t := by
  let u := (Act.cmt (fun c => { c with
    vote := some { fsn := s.N, ready := ready, reason := reason, demand := (s.latched s.N).demand } })).apply s
  let v := (Prog.setReg R.CMT_VOTE_FSN s.N).run u
  let w := (Prog.setFlag F.CMT_VOTE_NOT_READY (!ready)).run v
  let x := (Prog.setFld F.CMT_VOTE_REASON reason.toNat).run w
  let y := (Prog.raise 128).run x
  have hu : Frame [.cmt] [] s u := Act.frame_noRegs (a := .cmt _) List.mem_cons_self s
  have huc : u.Canon := hs.apply _
  have hv : Frame [] [R.CMT_VOTE_FSN] u v := (Prog.frame _ _ (.setReg R.CMT_VOTE_FSN s.N) (by simp) u huc).2
  have hw : Frame [] [F.CMT_VOTE_REASON.off] v w :=
    (Prog.frame _ _ (.setFlag F.CMT_VOTE_NOT_READY (!ready)) (by simp [F.CMT_VOTE_NOT_READY, F.CMT_VOTE_REASON]) v (huc.run _)).2
  have hwc : w.Canon := (huc.run _).run _
  have hx : Frame [] [F.CMT_VOTE_REASON.off] w x := (Prog.frame _ _ (.setFld F.CMT_VOTE_REASON reason.toNat) (by simp) w hwc).2
  have hy : Frame [.ctl, .freeCount] [] x y := frame_raise 128 x
  have hvx : Frame [] [F.CMT_VOTE_REASON.off] v x := hw.trans hx
  have hall : Frame [.cmt] [R.CMT_VOTE_FSN, F.CMT_VOTE_REASON.off] s x :=
    (hu.mono (by simp) (by simp)).trans ((hv.mono (by simp) (by simp)).trans (hvx.mono (by simp) (by simp)))
  have hydom (d : Bool) : (y.dom d).parent = none := by
    have htim : y.tim = s.tim := Eq.trans (hy.1 .tim (by decide) (by decide)) (hall.1 .tim (by decide) (by decide))
    rw [State.dom, htim, ← State.dom, hparent]
  have hrun : (settleVote ready reason).run s = y := by
    rw [settleVote, Prog.run_dyn, Prog.run_block_cons, Prog.run_block_cons, Prog.run_block_cons, Prog.run_block_cons,
      Prog.run_block_cons, Prog.run_block_cons, Prog.run_block_cons, Prog.run_block_nil]
    change (trySendVote true).run ((trySendVote false).run y) = y
    rw [run_trySendVote_orphan (hydom false), run_trySendVote_orphan (hydom true)]
  rw [hrun]
  have hflag : w.fld F.CMT_VOTE_NOT_READY = boolNat (!ready) := by
    refine (State.fld_setFld_same F.CMT_VOTE_NOT_READY (boolNat (!ready)) v (huc.run _) ⟨by decide, by decide⟩).trans ?_
    cases ready <;> rfl
  have hxflag : x.fld F.CMT_VOTE_NOT_READY = boolNat (!ready) :=
    (State.fld_setFld_other _ _ _ _ hwc ⟨by decide, by decide⟩ (by decide)).trans hflag
  have hreason : x.fld F.CMT_VOTE_REASON = reason.toNat :=
    (State.fld_setFld_same _ _ _ hwc ⟨by decide, by decide⟩).trans (Nat.mod_eq_of_lt reason.isLt)
  refine ⟨?_, ?_, ?_, (hy.fld _ (by simp)).trans hreason, hall.pended_raise 128 (by decide) (by decide),
    (hall.mono (by simp) (by simp)).trans (hy.mono (by simp) (by simp))⟩
  · exact Eq.trans (hy.1 .cmt (by decide) (by decide)) (Eq.trans (hvx.1 .cmt (by decide) (by decide)) (hv.1 .cmt (by decide) (by decide)))
  · exact (hy.2 _ (by simp)).trans ((hvx.2 _ (by decide)).trans (State.reg_store_same u _ _ _ huc rfl))
  · rw [State.flag, hy.fld _ (by simp), hxflag]
    cases ready <;> rfl

/-! ### Votes that go up (R409) -/

/-- The vote of the pending frame leaves by the parent port, which is idle. -/
theorem run_sendVote_up (hs : s.Canon) {d : Bool} {p : Nat} {a : BitVec 16} (hen : s.flag F.CMT_CTRL_ENABLE = true)
    (hunsent : s.voteSent d s.N = false) (hparent : (s.dom d).parent = some p) (hp : p < s.fab.ports.length)
    (hhere : s.here = some a) (husable : s.linkUsable (addrX a) (addrY a) p = true) (hqueue : (s.port p).queue = [])
    (hroom : (s.port p).unacked.length < 64) (hcredit : 1 ≤ creditsFree (s.port p) 1) : let t := (sendVote d).run s
    t.voteSent d s.N = true ∧
      t.out = packetOut p { pkt := { s.newPacket 1 2 3 d 0 (voteBytes 1 s.N (s.aggregate d s.N)) with
        lseq := (s.port p).txSeq } } :: s.out ∧ Frame [.cmt, .fab, .out] [(F.FAB_P_TX_COUNT p).off] s t := by
  let u := (Act.cmt (fun c => { c with sent := (d, s.N) :: c.sent })).apply s
  let v := (bumpSrcSeq 1).run u
  let pkt := s.newPacket 1 2 3 d 0 (voteBytes 1 s.N (s.aggregate d s.N))
  have hlen : (voteBytes 1 s.N (s.aggregate d s.N)).length = 28 := by simp [voteBytes]
  have hcls : pkt.cls.toNat = 1 := rfl
  have hcredits : creditsOf pkt = 1 := by simp [creditsOf, pkt, State.newPacket, hlen]
  have hroute : routeHops v pkt = [.send p pkt] := routeHops_up (a := a) hhere rfl hparent husable
  have hrun : (sendVote d).run s = (dispatchHops 6 pkt.cls.toNat (creditsOf pkt) false (routeHops v pkt)).run v := by
    rw [sendVote, Prog.run_dyn, if_neg (by simp [hen, hunsent, hparent])]
    rfl
  have hcarries : portCarries (s.port p) = true := by
    have hup := (Bool.and_eq_true_iff.mp husable).1
    rw [portCarries, hup, Bool.true_or]
  have hidle : (v.port p).Idle pkt := ⟨hcarries, hqueue, .inr hroom, by rw [hcredits, hcls]; exact hcredit⟩
  have hu : Frame [.cmt] [] s u := Act.frame_noRegs (a := .cmt _) List.mem_cons_self s
  have hv : Frame [.fab] [] u v := Prog.frame_noRegs _ (bumpSrcSeq 1) (by simp [bumpSrcSeq, Act.Within]) u
  obtain ⟨hout, -, -, hf⟩ := run_dispatchHops_send (s := v) ((hs.apply _).run _) hp hidle pkt.cls.toNat (creditsOf pkt)
  intro t
  rw [show t = _ from hrun, hroute]
  refine ⟨?_, hout, (hu.mono (by simp) (by simp)).trans ((hv.mono (by simp) (by simp)).trans
    (hf.mono (by simp) (by simp [F.FAB_P_TX_COUNT])))⟩
  rw [State.voteSent, show State.cmt _ = v.cmt from hf.1 .cmt (by decide) (by decide)]
  show ((d, s.N) :: s.cmt.sent).any _ = true
  simp

/-! ### The obligation -/

/-- What VOTE_DEADLINE does at a MEMBER once the depths are kept. -/
def castLate : Prog :=
  .guard (fun s => s.node == .member) (.block [
    .dyn (fun s => match s.epoch s.N with
      | some e => .when (e.st == .created || e.st == .active || e.st == .closed)
          (.seq (.raiseAt 225 (s.instant .vote s.N)) (.count F.GRV_LATE_COUNT_COUNT 1))
      | none => .nil),
    .dyn (fun s => .when (s.flag F.CMT_CTRL_ENABLE && (s.voteFor s.N).isNone) (settleVote false (s.lateReason s.N)))])

/-- The depths of the two trees as VOTE_DEADLINE keeps them. -/
def State.keepDepths (s : State) : State :=
  { s with cmt := { s.cmt with voteDepth := some (s.N, (s.dom false).depth, (s.dom true).depth) } }

theorem exec_voteDeadline (hawake : s.Awake) : exec .voteDeadline s = .next (castLate.run s.keepDepths) :=
  congrArg Host.Outcome.next (Prog.go_awake _ s hawake)

theorem run_castLate_other (h : s.node ≠ .member) : castLate.run s = s := by
  rw [castLate, Prog.run_guard, if_neg (by simpa using h)]

theorem run_castLate_unsettled (hmember : s.node = .member) (hen : s.flag F.CMT_CTRL_ENABLE = true) (hvote : s.voteFor s.N = none)
    (hepoch : s.epoch s.N = none) : castLate.run s = (settleVote false (s.lateReason s.N)).run s := by
  rw [castLate, Prog.run_guard, if_pos (by simp [hmember]), Prog.run_block_cons, Prog.run_dyn]
  simp only [hepoch]
  rw [Prog.run_block_cons, Prog.run_block_nil, Prog.run_nil, Prog.run_dyn, Prog.run_when, if_pos (by simp [hen, hvote])]

theorem completes_voteDeadline (hs : s.Canon) (hawake : s.Awake) (hmember : s.node = .member) (hen : s.flag F.CMT_CTRL_ENABLE = true)
    (hvote : s.voteFor s.N = none) (hepoch : s.epoch s.N = none) (hparent : ∀ d, (s.dom d).parent = none) :
    Completes .voteDeadline s (fun t =>
        t.cmt.vote = some { fsn := s.N, ready := false, reason := s.lateReason s.N, demand := (s.latched s.N).demand } ∧
        t.reg R.CMT_VOTE_FSN = s.N ∧ t.flag F.CMT_VOTE_NOT_READY = true ∧
        t.fld F.CMT_VOTE_REASON = (s.lateReason s.N).toNat ∧ Pended 128 s t ∧
        Frame [.cmt, .ctl, .freeCount] [R.CMT_VOTE_FSN, F.CMT_VOTE_REASON.off] s t) := by
  have hu : Frame [.cmt] [] s s.keepDepths :=
    Act.frame_noRegs (a := .cmt fun c => { c with voteDepth := some (s.N, (s.dom false).depth, (s.dom true).depth) })
      List.mem_cons_self s
  have huc : s.keepDepths.Canon :=
    hs.apply (.cmt fun c => { c with voteDepth := some (s.N, (s.dom false).depth, (s.dom true).depth) })
  obtain ⟨hcmt, hfsn, hflag, hreason, hpend, hf⟩ := run_settleVote_orphan huc hparent false (s.lateReason s.N)
  refine ⟨_, exec_voteDeadline hawake, ?_⟩
  rw [run_castLate_unsettled (s := s.keepDepths) hmember hen hvote hepoch]
  exact ⟨congrArg Commit.vote hcmt, hfsn, hflag, hreason, hpend.after hu (by decide) (by simp), (hu.mono (by simp) (by simp)).trans hf⟩

theorem completes_voteReceive (hawake : s.Awake) (hen : s.flag F.CMT_CTRL_ENABLE = true) {d : Bool} {n : Fsn} {stamp : Time}
    (hlate : s.voteLate d n stamp = false) (hparent : (s.dom d).parent = none) (port : Nat) (g : Agg) :
    Completes (.voteReceive d port n g stamp) s (fun t =>
        t.cmt = { s.cmt with children := s.cmt.children ++
          [{ domain := d, port := port, fsn := n, agg := g, stamp := stamp }] } ∧ Frame [.cmt, .tim] [] s t) := by
  refine .of_go rfl hawake ?_
  rw [Prog.run_guard, if_pos hen, Prog.run_dyn, if_neg (by simp [hlate]), Prog.run_block_cons, Prog.run_block_cons, Prog.run_block_cons,
    Prog.run_block_nil]
  have hu : Frame [.tim] [] s _ := frame_atFabric stamp s
  have hudom : ∀ k, (((Prog.atFabric stamp).run s).dom k).parent = (s.dom k).parent := fun _ => rfl
  generalize (Prog.atFabric stamp).run s = u at *
  have hv : Frame [.cmt] [] u _ := Act.frame_noRegs
    (a := .cmt fun c => { c with children := c.children ++ [{ domain := d, port := port, fsn := n, agg := g, stamp := stamp }] })
    List.mem_cons_self u
  rw [Prog.run_act, run_trySendVote_cmt ((hudom d).trans hparent)]
  refine ⟨?_, (hu.mono (by simp) (by simp)).trans (hv.mono (by simp) (by simp))⟩
  have hcmt : u.cmt = s.cmt := hu.1 .cmt (by decide) (by decide)
  rw [← hcmt]
  rfl

/-- Settles O46: the votes clause by clause. -/
theorem votesAreCastAndGathered : Obligations.VotesAreCastAndGathered := by
  intro s hinv hawake
  have hs := hinv.canon
  refine ⟨fun hnode => ⟨_, exec_voteDeadline hawake, run_castLate_other hnode⟩, completes_voteDeadline hs hawake,
    fun d hidle => ?_, fun d p a hen hunsent hparent hp hlen hhere husable hqueue hroom hcredit => ?_,
    fun d port n g stamp hen => ⟨fun hlate => ?_, fun hlate hparent => completes_voteReceive hawake hen hlate hparent port g⟩,
    fun src n g stamp hdec hen hsrc hlater hmade hfwd => ⟨fun hlate => ?_, fun hintime => ?_⟩⟩
  · refine .of_go_self rfl ?_
    rw [Prog.run_guard, if_neg]
    rcases hidle with h | h <;> simp [h]
  · refine .of_go rfl hawake ?_
    rw [Prog.run_guard, if_pos (by simp [hen, hunsent]), Prog.run_dyn, if_pos (by simp [hparent])]
    exact run_sendVote_up hs hen hunsent hparent (by omega) hhere husable hqueue hroom hcredit
  · refine .of_go rfl hawake ?_
    rw [Prog.run_guard, if_pos hen, Prog.run_dyn, if_pos hlate]
    exact run_count_one hs F.CMT_LATE_AGG_COUNT (by decide) (by decide)
  · refine .of_go_self rfl ?_
    rw [Prog.run_guard, if_neg]
    simp [Int.not_lt.mpr hlate]
  · refine .of_go rfl hawake ?_
    rw [Prog.run_guard, if_pos (by simp [hdec, hen, hsrc, hlater, hmade, hfwd, hintime])]
    exact ⟨rfl, Act.frame_noRegs (a := .cmt _) List.mem_cons_self s⟩

end Sys2Proof.Machine
end

section
/-! PROOF. O47: screen commands (R416). -/

namespace Sys2Proof.Machine

variable {s : State}

theorem isDecider_of_here {a : BitVec 16} (hhere : s.here = some a) (hroot : s.rootA = a) : s.isDecider = true := by
  rw [State.isDecider, hroot, show s.fab.coord = some a from hhere]
  exact beq_self_eq_true _

/-- What taking a command leaves of the deciding node's requests. -/
def Decider.taken (d : Decider) (src : BitVec 16) (id : Word) (cmd : Nat) (late : Bool) : Decider :=
  let seen : Decider := { d with seenReqs := (src, id) :: d.seenReqs }
  if late then { seen with lateCmds := seen.lateCmds ++ [cmd] } else seen.take cmd

theorem run_takeCommand {src : BitVec 16} {id : Word} (hdec : s.isDecider = true)
    (hnew : s.cmt.decider.seenReqs.contains (src, id) = false) (hmade : s.cmt.decider.made = none) (cmd : Nat) (late : State → Bool) :
    let t := (takeCommand src id cmd late).run s
    t = { s with cmt := { s.cmt with decider := s.cmt.decider.taken src id cmd (late s) } } ∧ Frame [.cmt] [] s t := by
  have hguard : (s.isDecider && !s.cmt.decider.seenReqs.contains (src, id)) = true := by rw [hdec, hnew]; rfl
  have hrun : (takeCommand src id cmd late).run s = (Act.cmt (fun c => { c with
      decider := let d : Decider := { c.decider with seenReqs := (src, id) :: c.decider.seenReqs }
                 if d.made.isSome || late s then { d with lateCmds := d.lateCmds ++ [cmd] } else d.take cmd })).apply s := by
    rw [takeCommand, Prog.run_guard, if_pos hguard]
    rfl
  intro t
  rw [show t = _ from hrun]
  refine ⟨?_, Act.frame_noRegs (a := .cmt _) List.mem_cons_self s⟩
  have hlate : (({ s.cmt.decider with seenReqs := (src, id) :: s.cmt.decider.seenReqs } : Decider).made.isSome || late s) = late s := by
    simp [hmade]
  simp only [Act.apply, Decider.taken, hlate]

theorem run_takeCommand_refused {src : BitVec 16} {id : Word}
    (h : s.isDecider = false ∨ s.cmt.decider.seenReqs.contains (src, id) = true) (cmd : Nat) (late : State → Bool) :
    (takeCommand src id cmd late).run s = s := by
  have hguard : ¬ (s.isDecider && !s.cmt.decider.seenReqs.contains (src, id)) = true := by
    rcases h with h | h <;> simp only [h, Bool.false_and, Bool.not_true, Bool.and_false, Bool.false_eq_true, not_false_eq_true]
  rw [takeCommand, Prog.run_guard, if_neg hguard]

theorem State.regGen_congr {t : State} (hreg : ∀ off, t.reg off = s.reg off) (heff : ∀ off, t.effReg off = s.effReg off) :
    t.regGen = s.regGen := by
  simp only [State.regGen, State.fld, State.effFld, hreg, heff]

theorem State.genOf_congr {t : State} (hgens : t.cmt.gens = s.cmt.gens) (hgen : t.cmt.gen = s.cmt.gen) (hreg : t.regGen = s.regGen)
    (n : Fsn) : t.genOf n = s.genOf n := by
  rw [State.genOf, hgens, State.genNow, hgen, hreg, ← State.genNow, ← State.genOf]

theorem State.instant_congr {t : State} {n : Fsn} (h : t.genOf n = s.genOf n) (i : Instant) : t.instant i n = s.instant i n := by
  rw [State.instant, h, ← State.instant]

theorem State.decideAt_congr {t : State} {n : Fsn} (h : t.genOf n = s.genOf n) : t.decideAt n = s.decideAt n := by
  rw [State.decideAt, State.instant_congr h, h, ← State.decideAt]

theorem screenCmdBytes_messageOk (s : State) (dst : Word) {cmd : Nat} (hcmd : cmd < 256) (id : Word) :
    messageOk (s.newPacket 1 0 3 false dst (screenCmdBytes cmd id)) = true := by
  have h1 : cmd / 256 = 0 := Nat.div_eq_of_lt hcmd
  simp [messageOk, State.newPacket, screenCmdBytes, leBytes, h1]

/-- A screen command at the deciding node alone is sent to itself and taken. -/
theorem run_screenCommand_alone {a : BitVec 16} (halone : s.Alone a)
    (hnew : s.cmt.decider.seenReqs.contains (a, s.cmt.reqId) = false) (hmade : s.cmt.decider.made = none) {cmd : Nat}
    (hcmd : cmd < 256) (stamp : Time) : let t := (screenCommand cmd stamp).run s
    t.cmt = { s.cmt with
        reqId := s.cmt.reqId + 1
        decider := s.cmt.decider.taken a s.cmt.reqId cmd (decide (s.decideAt s.N ≤ stamp)) } ∧
      t.out = s.selfPacket 0 1 0 3 false a (screenCmdBytes cmd s.cmt.reqId) :: s.out ∧ Frame [.cmt, .fab, .out] [] s t := by
  obtain ⟨hhere, hg, hroot, -, -, -⟩ := halone
  let u := (Act.cmt (fun c => { c with reqId := c.reqId + 1 })).apply s
  let v := (Act.out (s.selfPacket 0 1 0 3 false a (screenCmdBytes cmd s.cmt.reqId))).apply ((Act.fab (fun b => b.originated 1)).apply u)
  have hu : Frame [.cmt] [] s u := Act.frame_noRegs (a := .cmt _) List.mem_cons_self s
  have hv : Frame [.fab, .out] [] u v :=
    Prog.frame_noRegs _ (.seq (.act (.fab _)) (.act (.out _))) (by simp [Act.Within]) u
  have hself : (sendUnicast 1 3 a (screenCmdBytes cmd s.cmt.reqId)).run u = v :=
    run_sendUnicast_self (s := u) hhere hg (screenCmdBytes_messageOk u _ hcmd _) (by decide)
  have hrun : (screenCommand cmd stamp).run s =
      (takeCommand a s.cmt.reqId cmd (fun s => decide (s.decideAt s.N ≤ stamp))).run v := by
    rw [screenCommand, Prog.run_dyn]
    simp only [hhere, hroot]
    rw [Prog.run_block_cons, Prog.run_block_cons, Prog.run_block_cons, Prog.run_block_nil, Prog.run_act, hself]
  have hsv : Frame [.cmt, .fab, .out] [] s v := (hu.mono (by simp) (by simp)).trans (hv.mono (by simp) (by simp))
  have hvcmt : v.cmt = { s.cmt with reqId := s.cmt.reqId + 1 } := rfl
  have hvout : v.out = s.selfPacket 0 1 0 3 false a (screenCmdBytes cmd s.cmt.reqId) :: s.out := rfl
  have hvhere : v.here = some a := hhere
  clear_value v
  have hgen : v.regGen = s.regGen :=
    State.regGen_congr (fun off => hsv.2 off List.not_mem_nil) (hsv.1 .eff (by decide) (by decide))
  have hvroot : v.rootA = a := by rw [State.rootA, hsv.fld _ List.not_mem_nil, ← State.rootA, hroot]
  have hvN : v.N = s.N := by rw [State.N, State.S, hvcmt, State.N, State.S]
  have hdecide : v.decideAt v.N = s.decideAt s.N := by
    rw [hvN, State.decideAt_congr (State.genOf_congr (by rw [hvcmt]) (by rw [hvcmt]) hgen _)]
  obtain ⟨htake, hf⟩ := run_takeCommand (s := v) (src := a) (id := s.cmt.reqId) (isDecider_of_here hvhere hvroot)
    (by rw [hvcmt]; exact hnew) (by rw [hvcmt]; exact hmade) cmd (fun s => decide (s.decideAt s.N ≤ stamp))
  intro t
  rw [show t = _ from hrun]
  refine ⟨?_, Eq.trans (hf.1 .out (by decide) (by decide)) hvout, hsv.trans (hf.mono (by simp) (by simp))⟩
  rw [htake, hdecide, hvcmt]

theorem completes_screenCommand (hawake : s.Awake) {a : BitVec 16} (halone : s.Alone a)
    (hnew : s.cmt.decider.seenReqs.contains (a, s.cmt.reqId) = false) (hmade : s.cmt.decider.made = none) {c : Instr} {cmd : Nat}
    (hcmd : cmd < 256) (stamp : Time) (hexec : exec c s = .next ((screenCommand cmd stamp).go s)) : Completes c s (fun t =>
        let seen : Decider := { s.cmt.decider with seenReqs := (a, s.cmt.reqId) :: s.cmt.decider.seenReqs }
        t.cmt = { s.cmt with
          reqId := s.cmt.reqId + 1
          decider := if stamp < s.decideAt s.N then seen.take cmd else { seen with lateCmds := seen.lateCmds ++ [cmd] } } ∧
        t.out = s.selfPacket 0 1 0 3 false a (screenCmdBytes cmd s.cmt.reqId) :: s.out ∧ Frame [.cmt, .fab, .out] [] s t) := by
  refine .of_go hexec hawake ?_
  obtain ⟨hcmt, hout, hf⟩ := run_screenCommand_alone halone hnew hmade hcmd stamp
  refine ⟨hcmt.trans ?_, hout, hf⟩
  rw [Decider.taken]
  by_cases h : stamp < s.decideAt s.N
  · rw [if_pos h, decide_eq_false (Int.not_le.mpr h), if_neg (by simp)]
  · rw [if_neg h, decide_eq_true (Int.not_lt.mp h), if_pos rfl]

/-- Settles O47: one lemma for the commands that enter here, one for those that are received. -/
theorem screenCommandsTaken : Obligations.ScreenCommandsTaken := by
  intro s hinv hawake
  refine ⟨fun a halone hnew hmade stamp c cmd hmem => ?_, fun src cmd id stamp => ⟨fun hold => ?_, fun hdec hnew hmade => ?_⟩⟩
  · simp only [List.mem_cons, Prod.mk.injEq, List.not_mem_nil, or_false] at hmem
    rcases hmem with ⟨rfl, rfl⟩ | ⟨rfl, rfl⟩ | ⟨rfl, rfl⟩ | ⟨rfl, rfl⟩
    · exact completes_screenCommand hawake halone hnew hmade (by decide) stamp rfl
    · exact completes_screenCommand hawake halone hnew hmade (by decide) stamp rfl
    · exact completes_screenCommand hawake halone hnew hmade (by decide) stamp rfl
    · exact completes_screenCommand hawake halone hnew hmade (by decide) stamp rfl
  · exact .of_go_self rfl (run_takeCommand_refused hold _ _)
  · refine .of_go rfl hawake ?_
    obtain ⟨htake, hf⟩ := run_takeCommand hdec hnew hmade cmd.toNat (fun s => decide (s.decideAt s.N ≤ stamp))
    refine ⟨fun hintime => ?_, fun hlate => ?_, hf⟩
    · rw [htake, decide_eq_false (Int.not_le.mpr hintime)]
      refine ⟨?_, ?_, ?_, ?_⟩ <;> rintro rfl <;> rfl
    · rw [htake, decide_eq_true hlate]
      exact ⟨rfl, rfl⟩

end Sys2Proof.Machine
end

section
/-! PROOF. O50: membership generations, JOIN and its judgement (R417 to R422). -/

namespace Sys2Proof.Machine

variable {s : State} {a : BitVec 16}

/-! ### Messages of a node alone -/

theorem State.Alone.rootAlone (h : s.Alone a) : s.RootAlone a := by
  obtain ⟨hhere, -, -, -, -, hdom⟩ := h
  refine ⟨hhere, fun d => ?_⟩
  obtain ⟨hst, -, hnone⟩ := hdom d
  exact ⟨hst, hnone⟩

/-- A message down the tree of a node alone is delivered here (R361). -/
theorem run_sendTree_alone (h : s.RootAlone a) (d : Bool) (proto : Nat) {body : List Byte}
    (hok : messageOk (s.newPacket 1 3 proto d 0 body) = true) :
    (sendTree true d proto body).run s = (Act.out (.deliver (s.newPacket 1 3 proto d 0 body))).apply
      ((Act.fab (fun b => b.originated 1)).apply s) := by
  have hbump : ((bumpSrcSeq 1).run s).RootAlone a :=
    h.of_frame rfl (Prog.frame_noRegs [.fab] _ (by simp [bumpSrcSeq, Act.Within]) s) (by decide)
  have hcls : (s.newPacket 1 3 proto d 0 body).cls = 1 := rfl
  rw [sendTree, if_pos rfl, run_originate_deliver (hbump.routeHops rfl), run_deliverPacket hok (by rw [hcls]; decide)]

/-- Messages have been sent and delivered at this node. -/
structure SentHere (n : Nat) (s t : State) : Prop where
  out : t.out.length = s.out.length + n
  coord : t.fab.coord = s.fab.coord
  frame : Frame [.fab, .out] [] s t

theorem SentHere.trans {n m : Nat} {t u : State} (h : SentHere n s t) (h' : SentHere m t u) : SentHere (n + m) s u :=
  ⟨by rw [h'.out, h.out, Nat.add_assoc], h'.coord.trans h.coord, h.frame.trans h'.frame⟩

theorem sentHere_deliver (o : Out) (cls : Nat) (s : State) :
    SentHere 1 s ((Act.out o).apply ((Act.fab (fun b => b.originated cls)).apply s)) :=
  ⟨rfl, rfl, Prog.frame_noRegs _ (.seq (.act (.fab fun b => b.originated cls)) (.act (.out o))) (by simp [Act.Within]) s⟩

theorem SentHere.rootAlone {n : Nat} {t : State} (h : SentHere n s t) (ha : s.RootAlone a) : t.RootAlone a :=
  ha.of_frame h.coord h.frame (by decide)

/-! ### Segments of a generation (R418, Table 14.3) -/

theorem length_segment (g : Gen) (k : Nat) : (g.segment k).length = if k = 0 then 96 else 1024 := by
  rw [Gen.segment]
  split
  · simp [Gen.segment0]
  · exact length_leBytes ..

theorem genSegBytes_messageOk (s : State) (mode : Nat) (domain : Bool) (dst num : Word) {k : Nat} (hk : k ≤ 12) {data : List Byte}
    (hlen : data.length = if k = 0 then 96 else 1024) :
    messageOk (s.newPacket 1 mode 3 domain dst (genSegBytes num k data)) = true := by
  have hk' : k % 256 = k := Nat.mod_eq_of_lt (by omega)
  rcases Nat.eq_zero_or_pos k with rfl | hpos
  · simp [messageOk, State.newPacket, genSegBytes, leBytes, hlen]
  · have hne : k ≠ 0 := by omega
    simp [messageOk, State.newPacket, genSegBytes, leBytes, hlen, hk', hk, hne]

/-- One segment goes down tree A and to the root of B, which are both this node. -/
theorem sentHere_segment (h : s.RootAlone a) (hg : isGuest a = false) (g : Gen) {k : Nat} (hk : k ≤ 12) :
    SentHere 2 s ((Prog.seq (sendTree true false 3 (genSegBytes g.num k (g.segment k)))
      (sendUnicast 1 3 a (genSegBytes g.num k (g.segment k)))).run s) := by
  have hok (t : State) (mode : Nat) (dst : Word) := genSegBytes_messageOk t mode false dst g.num hk (length_segment g k)
  have hfirst := sentHere_deliver (.deliver (s.newPacket 1 3 3 false 0 (genSegBytes g.num k (g.segment k)))) 1 s
  rw [Prog.run_seq, run_sendTree_alone h false 3 (hok s 3 0)]
  generalize (Act.out _).apply ((Act.fab (fun b => b.originated 1)).apply s) = u at *
  obtain ⟨hhere, -⟩ := hfirst.rootAlone h
  rw [run_sendUnicast_self hhere hg (hok u 0 _) (by decide)]
  exact hfirst.trans (sentHere_deliver _ 1 u)

theorem sentHere_segments (hg : isGuest a = false) (g : Gen) (l : List Nat) (hl : ∀ k ∈ l, k ≤ 12) {s : State} (h : s.RootAlone a) :
    SentHere (2 * l.length) s ((Prog.each l (fun k => .seq (sendTree true false 3 (genSegBytes g.num k (g.segment k)))
      (sendUnicast 1 3 a (genSegBytes g.num k (g.segment k))))).run s) := by
  induction l generalizing s with
  | nil => exact ⟨rfl, rfl, (Frame.refl [] [] s).mono (by simp) (by simp)⟩
  | cons k l ih =>
    have hfirst := sentHere_segment h hg g (hl k List.mem_cons_self)
    have hall := hfirst.trans (ih (fun j hj => hl j (List.mem_cons_of_mem _ hj)) (hfirst.rootAlone h))
    rw [List.length_cons, Nat.mul_add, Nat.add_comm]
    exact hall

/-- The thirteen segments of a generation, each sent twice. -/
theorem sentHere_sendGen (h : s.RootAlone a) (hg : isGuest a = false) (hroot : s.rootB = a) (g : Gen) :
    SentHere 26 s ((sendGen g).run s) := by
  rw [sendGen, Prog.run_dyn, hroot]
  exact sentHere_segments hg g (List.range 13) (fun k hk => Nat.le_of_lt_succ (List.mem_range.1 hk)) h

/-- A segment that comes first is kept (R418). -/
theorem completes_genSegReceive (hawake : s.Awake) {k : Nat} (hk : k ≤ 12) (num : Word) {data : List Byte}
    (hlen : data.length = if k = 0 then 96 else 1024) (hheld : s.genHeld num = none) (hparts : s.cmt.genParts = []) :
    Completes (.genSegReceive k num data false) s (fun t =>
        t.cmt = { s.cmt with genParts := [{ num := num, segs := [(k, data)] }] } ∧ Frame [.cmt] [] s t) := by
  refine .of_go rfl hawake ?_
  rw [Prog.run_when, if_pos (by simp [hk, hlen]), Prog.run_block_cons, Prog.run_guard, if_neg (by simp), Prog.run_block_cons,
    Prog.run_block_nil, Prog.run_guard, if_pos (by simp [hheld]), Prog.run_seq, Prog.run_act]
  have hadd : addSeg num k data [] = [{ num := num, segs := [(k, data)] }] := rfl
  have hf : Frame [.cmt] [] s _ :=
    Act.frame_noRegs (a := .cmt fun c => { c with genParts := addSeg num k data c.genParts }) List.mem_cons_self s
  have hcmt : ((Act.cmt fun c => { c with genParts := addSeg num k data c.genParts }).apply s).cmt =
      { s.cmt with genParts := [{ num := num, segs := [(k, data)] }] } := by
    rw [← hadd, ← hparts]
    rfl
  generalize (Act.cmt _).apply s = u at *
  have hrest : (holdGen num).run u = u := by
    rw [holdGen, Prog.run_dyn, hcmt]
    simp
  rw [hrest]
  exact ⟨hcmt, hf⟩

/-! ### JOIN (R419, R420, Table 14.4) -/

theorem joinResultBytes_messageOk (s : State) (dst : Word) (result reason : Nat) :
    messageOk (s.newPacket 1 0 3 false dst (joinResultBytes result reason)) = true := by
  simp [messageOk, State.newPacket, joinResultBytes, leBytes]

theorem joinBytes_messageOk (s : State) (dst num : Word) (digest : Nat) :
    messageOk (s.newPacket 1 0 3 false dst (leBytes 4 6 ++ leBytes 4 num.toNat ++ leBytes 32 digest)) = true := by
  simp [messageOk, State.newPacket, leBytes]

theorem completes_joinSend (hawake : s.Awake) (halone : s.Alone a) (hnode : s.node = .sapling)
    (hended : ∀ k, 1 ≤ k → k ≤ 10 → s.ctl.ended.contains k = true) : Completes .joinSend s (fun t =>
        t.cmt = { s.cmt with saplingGen := some s.cmt.gen.num } ∧
        t.out = s.selfPacket 0 1 0 3 false a (leBytes 4 6 ++ leBytes 4 s.cmt.gen.num.toNat ++
          leBytes 32 s.policyDigest.toNat) :: s.out ∧ Frame [.cmt, .fab, .out] [] s t) := by
  obtain ⟨hhere, hg, hroot, -, -, hdom⟩ := halone
  have hlock (d : Bool) : (s.dom d).lock = true := by
    obtain ⟨hst, -⟩ := hdom d
    rw [Domain.lock, hst]
    rfl
  have hall : (List.range 10).all (fun k => s.ctl.ended.contains (k + 1)) = true :=
    List.all_eq_true.2 fun k hk => hended (k + 1) (by omega) (by have := List.mem_range.1 hk; omega)
  refine .of_go rfl hawake ?_
  rw [Prog.run_guard, if_pos (by simp only [hnode, hlock, hall, beq_self_eq_true, Bool.and_self]), Prog.run_dyn, hroot,
    Prog.run_block_cons, Prog.run_block_cons, Prog.run_block_nil, Prog.run_act]
  have hf : Frame [.cmt] [] s _ :=
    Act.frame_noRegs (a := .cmt fun c => { c with saplingGen := some c.gen.num }) List.mem_cons_self s
  have hself := run_sendUnicast_self (s := (Act.cmt fun c => { c with saplingGen := some c.gen.num }).apply s) hhere hg
    (joinBytes_messageOk _ _ s.cmt.gen.num s.policyDigest.toNat) (by decide)
  rw [hself]
  obtain ⟨-, -, hlast⟩ := sentHere_deliver (s.selfPacket 0 1 0 3 false a (leBytes 4 6 ++ leBytes 4 s.cmt.gen.num.toNat ++
    leBytes 32 s.policyDigest.toNat)) 1 ((Act.cmt fun c => { c with saplingGen := some c.gen.num }).apply s)
  exact ⟨rfl, rfl, (hf.mono (by simp) (by simp)).trans (hlast.mono (by simp) (by simp))⟩

/-! ### The issue of a generation (R420) -/

theorem State.firstFrame_congr {t : State} (hS : t.cmt.s = s.cmt.s) (hgens : t.cmt.gens = s.cmt.gens) (hgen : t.cmt.gen = s.cmt.gen)
    (hreg : t.regGen = s.regGen) (stamp : Time) : t.firstFrame stamp = s.firstFrame stamp := by
  have hnow : t.genNow = s.genNow := by rw [State.genNow, hgen, hreg, ← State.genNow]
  have hof (n : Fsn) : t.genOf n = s.genOf n := State.genOf_congr hgens hgen hreg n
  have hswap (n : Fsn) : t.swapTime n = s.swapTime n := by rw [State.swapTime, hof, ← State.swapTime]
  have hafter (n : Fsn) : t.afterFour n stamp = s.afterFour n stamp := by
    rw [State.afterFour, hnow, hswap, ← State.afterFour]
  have hs : t.S = s.S := hS
  rw [State.firstFrame, hs, State.firstFrame, funext fun k => hafter (s.S + 1 + BitVec.ofNat 32 k)]

theorem State.lastGen_congr {t : State} (hgens : t.cmt.gens = s.cmt.gens) (hgen : t.cmt.gen = s.cmt.gen) : t.lastGen = s.lastGen := by
  rw [State.lastGen, hgens, hgen, ← State.lastGen]

/-- A generation as it is issued. -/
structure Issued (pol : Gen) (e x m : BitVec 32768) (stamp : Time) (g : Gen) (s : State) : Prop where
  num : g.num = s.lastGen + 1
  first : g.firstFsn = s.firstFrame stamp
  e : g.e = e
  x : g.x = x
  m : g.m = m
  rate : g.rate = pol.rate

theorem run_issueGen (pol : Gen) (e x m : BitVec 32768) (reanchor : Bool) (joined : List (BitVec 16)) (stamp : Time) (s : State) :
    ∃ g u, (issueGen pol e x m reanchor joined stamp).run s = (sendGen g).run u ∧ Issued pol e x m stamp g s ∧
      u.cmt = { s.cmt with next := some g, gens := s.cmt.gens ++ [g], decider := { s.cmt.decider with joined := joined } } ∧
      u.fab = s.fab ∧ u.out = s.out ∧ Frame [.cmt, .freeCount] [] s u := by
  have hfree : Frame [.freeCount] [] s ((Act.free 1).apply s) := Act.frame_noRegs (a := .free 1) List.mem_cons_self s
  have hreg : ((Act.free 1).apply s).regGen = s.regGen :=
    State.regGen_congr (fun off => hfree.2 off List.not_mem_nil) (hfree.1 .eff (by decide) (by decide))
  have hfirst : ((Act.free 1).apply s).firstFrame stamp = s.firstFrame stamp := State.firstFrame_congr rfl rfl rfl hreg stamp
  have hlast : ((Act.free 1).apply s).lastGen = s.lastGen := State.lastGen_congr rfl rfl
  have hcmt : ((Act.free 1).apply s).cmt = s.cmt := rfl
  have hfab : ((Act.free 1).apply s).fab = s.fab := rfl
  have hout : ((Act.free 1).apply s).out = s.out := rfl
  rw [issueGen, Prog.withFreeStamp, Prog.run_dyn, Prog.run_seq, Prog.run_act, Prog.run_dyn]
  generalize (Act.free 1).apply s = v at *
  dsimp only
  rw [Prog.run_block_cons, Prog.run_block_cons, Prog.run_block_nil, Prog.run_act]
  refine ⟨_, _, rfl, ⟨congrArg (· + 1) hlast, hfirst, rfl, rfl, rfl, rfl⟩, ?_, hfab, hout, ?_⟩
  · rw [← hcmt]
    rfl
  · exact (hfree.mono (by simp) (by simp)).trans (Frame.mono (parts := [.cmt])
      (Act.frame_noRegs (a := .cmt _) List.mem_cons_self v) (by simp) (by simp))

/-! ### A JOIN is judged -/

/-- The nodes that are away, with one more (R47). -/
def Decider.withAway (d : Decider) (src : BitVec 16) : Decider :=
  { d with away := if d.away.contains src then d.away else src :: d.away }

/-- The answer that a row of Table 14.4 gives. -/
def joinAnswer (row : Nat) : List Byte :=
  match row with
  | 1 => joinResultBytes 2 0x0234
  | 2 => joinResultBytes 2 0x0232
  | 5 => joinResultBytes 1 0
  | _ => joinResultBytes 0 0

theorem exec_joinReceive (hawake : s.Awake) (hdec : s.isDecider = true) (src : BitVec 16) (held : Word) (digest : BitVec 256)
    (stamp : Time) : exec (.joinReceive src held digest stamp) s = .next ((sendUnicast 1 3 src (joinAnswer (s.judgeJoin src digest stamp))).run
      ((Prog.when (s.judgeJoin src digest stamp == 5) (issueGen s.genNow s.memberSets.1 s.memberSets.2.1
        (s.memberSets.2.2 ||| oneNode src.toNat) (s.cmt.gen.num == 0) [src] stamp)).run
          ((modDecider (fun d => d.withAway src)).run s))) := by
  refine congrArg Host.Outcome.next ((Prog.go_awake _ s hawake).trans ?_)
  rw [Prog.run_guard, if_pos hdec, Prog.run_dyn]
  rfl

theorem withAway_nil {d : Decider} (h : d.away = []) (src : BitVec 16) : d.withAway src = { d with away := [src] } := by
  rw [Decider.withAway, h]
  rfl

theorem frame_modDecider (f : Decider → Decider) (s : State) : Frame [.cmt] [] s ((modDecider f).run s) :=
  Act.frame_noRegs (a := .cmt _) List.mem_cons_self s

/-- A JOIN that is refused (Table 14.4). -/
theorem completes_joinReceive_refused (hawake : s.Awake) (halone : s.Alone a) (haway : s.cmt.decider.away = []) (held : Word)
    {digest : BitVec 256} {stamp : Time} {reason : Nat} (hrow : s.judgeJoin a digest stamp ≠ 5)
    (hanswer : joinAnswer (s.judgeJoin a digest stamp) = joinResultBytes 2 reason) : Completes (.joinReceive a held digest stamp) s (fun t =>
        t.cmt = { s.cmt with decider := { s.cmt.decider with away := [a] } } ∧
        t.out = s.selfPacket 0 1 0 3 false a (joinResultBytes 2 reason) :: s.out ∧ Frame [.cmt, .fab, .out] [] s t) := by
  obtain ⟨hhere, hg, hroot, -, -, -⟩ := halone
  refine ⟨_, exec_joinReceive hawake (isDecider_of_here hhere hroot) a held digest stamp, ?_⟩
  rw [hanswer, Prog.run_when, if_neg (by simpa using hrow), run_sendUnicast_self
    (s := (modDecider (fun d => d.withAway a)).run s) hhere hg (joinResultBytes_messageOk _ _ _ _) (by decide)]
  refine ⟨?_, rfl, ((frame_modDecider _ s).mono (by simp) (by simp)).trans ((sentHere_deliver _ 1 _).frame.mono (by simp) (by simp))⟩
  show { s.cmt with decider := s.cmt.decider.withAway a } = _
  rw [withAway_nil haway]

theorem judgeJoin_unexpected (h : inSet s.memberSets.1 a = false ∨ inSet s.memberSets.2.1 a = true) (digest : BitVec 256) (stamp : Time) :
    s.judgeJoin a digest stamp = 1 := by
  have hc : (!inSet s.memberSets.1 a || inSet s.memberSets.2.1 a) = true := by rcases h with h | h <;> simp [h]
  rw [State.judgeJoin, if_pos hc]

section
variable (hexp : inSet s.memberSets.1 a = true) (hin : inSet s.memberSets.2.1 a = false) (hgen : s.cmt.gen.num ≠ 0)
  {digest : BitVec 256} {stamp : Time}
include hexp hin hgen

theorem judgeJoin_policy (hd : digest ≠ s.cmt.gen.policyDigest) : s.judgeJoin a digest stamp = 2 := by
  rw [State.judgeJoin, if_neg (by simp [hexp, hin]), if_neg hgen, if_pos (by simpa using hd)]

theorem judgeJoin_admitted (hd : digest = s.cmt.gen.policyDigest) (hvouched : s.vouched a stamp = true) (hnext : s.cmt.next = none) :
    s.judgeJoin a digest stamp = 5 := by
  rw [State.judgeJoin, if_neg (by simp [hexp, hin]), if_neg hgen, if_neg (by simp [hd]), if_neg (by simp [hvouched]),
    if_neg (by simp [hnext])]

end

theorem inSet_lt {b : BitVec 32768} (h : inSet b a = true) : a.toNat < 32768 := BitVec.lt_of_getLsbD h

theorem inSet_add {b : BitVec 32768} (h : a.toNat < 32768) : inSet (b ||| oneNode a.toNat) a = true := by
  have hone : (oneNode a.toNat).getLsbD a.toNat = true := by simp [oneNode, h]
  rw [inSet, BitVec.getLsbD_or, hone, Bool.or_true]

/-- A JOIN that is admitted issues the next generation and answers it (R419, R420). -/
theorem completes_joinReceive_admitted (hawake : s.Awake) (halone : s.Alone a) (haway : s.cmt.decider.away = []) (held : Word)
    {digest : BitVec 256} {stamp : Time} (hexp : inSet s.memberSets.1 a = true) (hin : inSet s.memberSets.2.1 a = false)
    (hgen : s.cmt.gen.num ≠ 0) (hd : digest = s.cmt.gen.policyDigest) (hvouched : s.vouched a stamp = true)
    (hnext : s.cmt.next = none) : Completes (.joinReceive a held digest stamp) s (fun t =>
          (∃ g, t.cmt.next = some g ∧ t.cmt.gens = s.cmt.gens ++ [g] ∧ g.num = s.lastGen + 1 ∧ inSet g.m a = true ∧
            g.e = s.cmt.gen.e ∧ g.x = s.cmt.gen.x ∧ g.rate = s.cmt.gen.rate ∧ g.firstFsn = s.firstFrame stamp) ∧
          t.cmt.decider.joined = [a] ∧ t.cmt.gen = s.cmt.gen ∧ t.out.length = s.out.length + 27 ∧
          Frame [.cmt, .fab, .out, .freeCount] [] s t) := by
  have hrow := judgeJoin_admitted hexp hin hgen hd hvouched hnext
  have hsets : s.memberSets = (s.cmt.gen.e, s.cmt.gen.x, s.cmt.gen.m) := if_neg hgen
  have hpol : s.genNow = s.cmt.gen := if_neg hgen
  have hrootAlone := halone.rootAlone
  obtain ⟨hhere, hg, hroot, hrootB, -, -⟩ := halone
  refine ⟨_, exec_joinReceive hawake (isDecider_of_here hhere hroot) a held digest stamp, ?_⟩
  rw [hrow, Prog.run_when, if_pos (by decide), hpol, hsets, show joinAnswer 5 = joinResultBytes 1 0 from rfl]
  have hv := frame_modDecider (fun d => d.withAway a) s
  have hvcmt : ((modDecider (fun d => d.withAway a)).run s).cmt = { s.cmt with decider := s.cmt.decider.withAway a } := rfl
  have hvfab : ((modDecider (fun d => d.withAway a)).run s).fab = s.fab := rfl
  generalize (modDecider _).run s = v at *
  obtain ⟨g, u, hrun, ⟨hnum, hfirst, he, hx, hm, hrate⟩, hucmt, hufab, huout, hu⟩ :=
    run_issueGen s.cmt.gen s.cmt.gen.e s.cmt.gen.x (s.cmt.gen.m ||| oneNode a.toNat) (s.cmt.gen.num == 0) [a] stamp v
  rw [hrun]
  have hsu : Frame [.cmt, .freeCount] [] s u := (hv.mono (by simp) (by simp)).trans hu
  have hualone : u.RootAlone a := hrootAlone.of_frame (by rw [hufab, hvfab]) hsu (by decide)
  have huB : u.rootB = a := by rw [State.rootB, hsu.fld _ List.not_mem_nil, ← State.rootB, hrootB]
  have hsent := sentHere_sendGen hualone hg huB g
  generalize (sendGen g).run u = w at *
  obtain ⟨hwhere, -⟩ := hsent.rootAlone hualone
  rw [run_sendUnicast_self hwhere hg (joinResultBytes_messageOk w _ 1 0) (by decide)]
  have hall := hsent.trans (sentHere_deliver (w.selfPacket 0 1 0 3 false a (joinResultBytes 1 0)) 1 w)
  generalize (Act.out _).apply ((Act.fab (fun b => b.originated 1)).apply w) = x at *
  have hxcmt : x.cmt = u.cmt := hall.frame.1 .cmt (by decide) (by decide)
  have hvreg : v.regGen = s.regGen := State.regGen_congr (fun off => hv.2 off List.not_mem_nil) (hv.1 .eff (by decide) (by decide))
  have hvgens : v.cmt.gens = s.cmt.gens := by rw [hvcmt]
  have hvgen : v.cmt.gen = s.cmt.gen := by rw [hvcmt]
  have hvout : v.out = s.out := hv.1 .out (by decide) (by decide)
  dsimp only
  rw [hxcmt, hucmt]
  refine ⟨⟨g, rfl, by rw [hvgens], hnum.trans ?_, ?_, he, hx, hrate, hfirst.trans ?_⟩, rfl, hvgen, ?_,
    (hsu.mono (by simp) (by simp)).trans (hall.frame.mono (by simp) (by simp))⟩
  · rw [State.lastGen_congr hvgens hvgen]
  · rw [hm]
    exact inSet_add (inSet_lt hexp)
  · exact State.firstFrame_congr (by rw [hvcmt]) hvgens hvgen hvreg stamp
  · rw [hall.out, huout, hvout]

theorem mem_seenAway (src : BitVec 16) (l : List (BitVec 16)) : src ∈ (if l.contains src then l else src :: l) := by
  split
  next h => simpa using h
  next => exact List.mem_cons_self

/-- Settles O50: segments, JOIN and its judgement, and what the deciding node keeps. -/
theorem membersJoin : Obligations.MembersJoin := by
  intro s hinv hawake
  refine ⟨fun k num data hbad => ?_, fun k num data hk hlen hheld hparts => completes_genSegReceive hawake hk num hlen hheld hparts,
    fun hnode => ?_, fun a halone hnode hended => completes_joinSend hawake halone hnode hended, fun src held digest stamp hdec => ?_,
    fun a held digest stamp halone haway => ⟨fun hset => ?_, fun hexp hin hgen hd => ?_, fun hexp hin hgen hd hvouched hnext =>
      completes_joinReceive_admitted hawake halone haway held hexp hin hgen hd hvouched hnext⟩,
    fun a stamp hdec => ?_, fun r reason hnode => ?_, fun src n hdec => ?_, fun src n reason hdec hreason => ?_⟩
  · refine .of_go_self rfl ?_
    rw [Prog.run_when, if_neg]
    rcases hbad with h | h
    · simp [Nat.not_le.mpr h]
    · simp [h]
  · refine .of_go_self rfl ?_
    rw [Prog.run_guard, if_neg (by simp [hnode])]
  · refine .of_go_self rfl ?_
    rw [Prog.run_guard, if_neg (by simp [hdec])]
  · obtain ⟨t, ht, hcmt, hout, hf⟩ := completes_joinReceive_refused hawake halone haway held
      (by rw [judgeJoin_unexpected hset digest stamp]; decide) (congrArg joinAnswer (judgeJoin_unexpected hset digest stamp))
    exact ⟨t, ht, by rw [hcmt], by rw [hcmt], by rw [hcmt], hout, hf⟩
  · obtain ⟨t, ht, hcmt, hout, -⟩ := completes_joinReceive_refused hawake halone haway held
      (by rw [judgeJoin_policy (stamp := stamp) hexp hin hgen hd]; decide)
      (congrArg joinAnswer (judgeJoin_policy hexp hin hgen hd))
    exact ⟨t, ht, by rw [hcmt], by rw [hcmt], hout⟩
  · refine .of_go rfl hawake ?_
    rw [Prog.run_guard, if_pos hdec]
    exact ⟨rfl, Act.frame_noRegs (a := .cmt _) List.mem_cons_self s⟩
  · refine .of_go rfl hawake ?_
    rw [Prog.run_guard, if_pos (by simp [hnode])]
    exact ⟨rfl, Act.frame_noRegs (a := .cmt _) List.mem_cons_self s⟩
  · refine .of_go rfl hawake ?_
    rw [Prog.run_guard, if_pos hdec]
    exact ⟨Bool.or_true _, mem_seenAway src s.cmt.decider.away, Act.frame_noRegs (a := .cmt _) List.mem_cons_self s⟩
  · refine .of_go rfl hawake ?_
    rw [Prog.run_guard, if_pos hdec]
    refine ⟨?_, mem_seenAway src s.cmt.decider.away, Act.frame_noRegs (a := .cmt _) List.mem_cons_self s⟩
    show (s.cmt.decider.darkStanding || reason == 0x0223) = _
    rw [beq_false_of_ne hreason, Bool.or_false]

end Sys2Proof.Machine
end

section
/-! PROOF. What a swap instant leaves alone: the commit unit's screen and window, the life cycle, and the registers of the
decision (R42, R413, R414). -/

namespace Sys2Proof.Machine

variable {s : State}

/-! ### Acts that leave the commit unit's window alone -/

/-- The screen, and what tells the window of the pending frame (R42, R56, R413). -/
def Commit.window (c : Commit) : Screen × Nat × Fsn × Option Decision × Bool := (c.screen, c.holdCount, c.s, c.decision, c.abandoned)

/-- The registers of an applied decision (Table 14.8). -/
abbrev noDecReg (off : Nat) : Prop := off ≠ R.CMT_DEC_FSN ∧ off ≠ F.CMT_DEC_OUTCOME.off

/-- An act that changes neither the window, nor the life cycle, nor the registers of the decision, and lets no packet wait
for a later frame; before the node may enter FAULT it leaves the trial alone too. -/
def Act.Turn (early : Prop) : Act → Prop
  | .reg off _ => noDecReg off
  | .lifecycle _ => False
  | .reset _ => False
  | .cmt f => ∀ c, (f c).window = c.window
  | .ing f => ∀ g, g.preEpoch = [] → (f g).preEpoch = []
  | .sec f => early → ∀ x, (f x).upd = x.upd ∧ (f x).trialFrom = x.trialFrom
  | _ => True

/-- The life cycle, the security version, waiting packets and, before the node may enter FAULT, the trial (R541, R542). -/
structure Steady (early : Prop) (s t : State) : Prop where
  canon : t.Canon
  lc : t.lc = s.lc
  version : s.secVersion.toNat ≤ t.secVersion.toNat
  pre : s.ing.preEpoch = [] → t.ing.preEpoch = []
  trial : early → t.sec.upd = s.sec.upd ∧ t.sec.trialFrom = s.sec.trialFrom

/-- What acts leave that turn no window. -/
structure Turned (early : Prop) (s t : State) : Prop where
  steady : Steady early s t
  window : t.cmt.window = s.cmt.window
  reg : ∀ off, ¬ noDecReg off → t.reg off = s.reg off

variable {early : Prop} {parts : List Part}

theorem Steady.refl (hs : s.Canon) : Steady early s s := ⟨hs, rfl, Nat.le_refl _, id, fun _ => ⟨rfl, rfl⟩⟩

theorem Steady.trans {t u : State} (h : Steady early s t) (h' : Steady early t u) : Steady early s u := by
  obtain ⟨-, hlc, hv, hp, ht⟩ := h
  obtain ⟨hc', hlc', hv', hp', ht'⟩ := h'
  refine ⟨hc', hlc'.trans hlc, Nat.le_trans hv hv', fun h => hp' (hp h), fun he => ?_⟩
  obtain ⟨hu, hf⟩ := ht he
  obtain ⟨hu', hf'⟩ := ht' he
  exact ⟨hu'.trans hu, hf'.trans hf⟩

theorem Steady.later {t : State} (h : Steady True s t) : Steady False s t := ⟨h.canon, h.lc, h.version, h.pre, False.elim⟩

theorem Steady.noTrial {t : State} (h : Steady True s t) (hno : s.NoTrial) : t.NoTrial := by
  obtain ⟨hupd, hfrom⟩ := h.trial trivial
  rwa [State.NoTrial, hupd, hfrom]

theorem Steady.of_frame {t : State} {parts : List Part} {offs : List Nat} (h : Frame parts offs s t) (hc : t.Canon)
    (hp : ∀ p ∈ [Part.lc, .secVersion, .ing, .sec], p ∉ parts) : Steady early s t := by
  simp only [List.forall_mem_cons] at hp
  obtain ⟨hlc, hver, hing, hsec, -⟩ := hp
  have hsec' : t.sec = s.sec := h.1 .sec hsec (by decide)
  have hing' : t.ing = s.ing := h.1 .ing hing (by decide)
  have hver' : t.secVersion = s.secVersion := h.1 .secVersion hver (by decide)
  exact ⟨hc, h.1 .lc hlc (by decide), by rw [hver'], by rw [hing']; exact id, fun _ => by rw [hsec']; exact ⟨rfl, rfl⟩⟩

theorem Turned.refl (hs : s.Canon) : Turned early s s := ⟨.refl hs, rfl, fun _ _ => rfl⟩

theorem Turned.trans {t u : State} (h : Turned early s t) (h' : Turned early t u) : Turned early s u :=
  ⟨h.steady.trans h'.steady, h'.window.trans h.window, fun o ho => (h'.reg o ho).trans (h.reg o ho)⟩

theorem Act.Turn.turned {a : Act} (h : a.Turn early) (hs : s.Canon) : Turned early s (a.apply s) := by
  have hc := hs.apply a
  cases a with
  | reg off v =>
    refine ⟨⟨hc, rfl, Nat.le_refl _, id, fun _ => ⟨rfl, rfl⟩⟩, rfl, fun o ho => State.reg_store_other s off o v hs ?_⟩
    rintro rfl
    exact ho h
  | lifecycle n => exact h.elim
  | reset w => exact h.elim
  | cmt f => exact ⟨⟨hc, rfl, Nat.le_refl _, id, fun _ => ⟨rfl, rfl⟩⟩, h s.cmt, fun _ _ => rfl⟩
  | ing f => exact ⟨⟨hc, rfl, Nat.le_refl _, h s.ing, fun _ => ⟨rfl, rfl⟩⟩, rfl, fun _ _ => rfl⟩
  | sec f => exact ⟨⟨hc, rfl, Nat.le_refl _, id, fun he => h he s.sec⟩, rfl, fun _ _ => rfl⟩
  | fuseVersion v =>
    rw [Act.apply] at hc ⊢
    split
    · next hlt =>
      rw [if_pos hlt] at hc
      exact ⟨⟨hc, rfl, Nat.le_of_lt hlt.1, id, fun _ => ⟨rfl, rfl⟩⟩, rfl, fun _ _ => rfl⟩
    · exact .refl hs
  | fuseInitial v =>
    rw [Act.apply] at hc ⊢
    split
    · next hlt =>
      rw [if_pos hlt] at hc
      exact ⟨⟨hc, rfl, Nat.le_of_lt hlt, id, fun _ => ⟨rfl, rfl⟩⟩, rfl, fun _ _ => rfl⟩
    · exact .refl hs
  | node n =>
    rw [Act.apply] at hc ⊢
    split
    · next hm =>
      rw [if_pos hm] at hc
      exact ⟨⟨hc, rfl, Nat.le_refl _, id, fun _ => ⟨rfl, rfl⟩⟩, rfl, fun _ _ => rfl⟩
    · exact .refl hs
  | extend i x =>
    rw [Act.apply] at hc ⊢
    split
    · next hi =>
      rw [if_pos hi] at hc
      exact ⟨⟨hc, rfl, Nat.le_refl _, id, fun _ => ⟨rfl, rfl⟩⟩, rfl, fun _ _ => rfl⟩
    · exact .refl hs
  | _ => exact ⟨⟨hc, rfl, Nat.le_refl _, id, fun _ => ⟨rfl, rfl⟩⟩, rfl, fun _ _ => rfl⟩

theorem Prog.Only.turned {p : Prog} (h : p.Only (Act.Turn early)) (hs : s.Canon) : Turned early s (p.run s) :=
  Prog.run_keeps (Turned early s) (fun _ _ ha ht => ht.trans (ha.turned ht.steady.canon)) p h s (.refl hs)

/-! ### Programs of such acts -/

/-- Acts of parts that the window does not lie in. -/
theorem Act.In.turn {P : Nat → Prop} {a : Act} (h : a.In parts P) (hp : ∀ p ∈ [Part.cmt, .ing, .lc, .sec], p ∉ parts)
    (hP : ∀ off, P off → noDecReg off) : a.Turn early := by
  simp only [List.forall_mem_cons] at hp
  obtain ⟨hcmt, hing, hlc, hsec, -⟩ := hp
  cases a with
  | reg off v => exact hP off h
  | lifecycle n => exact absurd h hlc
  | reset w => exact h.elim
  | cmt f => exact absurd h hcmt
  | ing f => exact absurd h hing
  | sec f => exact absurd h hsec
  | _ => trivial

theorem Prog.Only.turn {P : Nat → Prop} {p : Prog} (h : p.Only (Act.In parts P)) (hp : ∀ p ∈ [Part.cmt, .ing, .lc, .sec], p ∉ parts)
    (hP : ∀ off, P off → noDecReg off) : p.Only (Act.Turn early) := Prog.only_mono (fun _ ha => ha.turn hp hP) p h

section
variable (early)

@[simp] theorem Prog.setReg_turn (off : Nat) (v : Word) : (Prog.setReg off v).Only (Act.Turn early) ↔ noDecReg off := Iff.rfl
@[simp] theorem Prog.setFld_turn (f : Fld) (v : Nat) : (Prog.setFld f v).Only (Act.Turn early) ↔ noDecReg f.off :=
  ⟨fun h => h .reset, fun h _ => h⟩
@[simp] theorem Prog.setFlag_turn (f : Fld) (b : Bool) : (Prog.setFlag f b).Only (Act.Turn early) ↔ noDecReg f.off :=
  Prog.setFld_turn early f _
@[simp] theorem Prog.count_turn (f : Fld) (n : Nat) : (Prog.count f n).Only (Act.Turn early) ↔ noDecReg f.off :=
  ⟨fun h => h .reset .reset, fun h _ _ => h⟩
@[simp] theorem Prog.send_turn (o : Out) : (Prog.send o).Only (Act.Turn early) := trivial
@[simp] theorem Prog.raiseAt_turn (e : Nat) (t : Time) : (Prog.raiseAt e t).Only (Act.Turn early) := fun _ => trivial
@[simp] theorem Prog.raise_turn (e : Nat) : (Prog.raise e).Only (Act.Turn early) := fun _ => ⟨trivial, fun _ => trivial⟩

end

/-! ### Votes -/

theorem fromFab_noDecReg (off : Nat) (h : fromFab off) : noDecReg off := by
  simp only [fromFab, noDecReg, R.CMT_DEC_FSN, F.CMT_DEC_OUTCOME, R.CMT_DEC] at *
  omega

theorem sendTree_turn (down domain : Bool) (proto : Nat) (body : List Byte) :
    (sendTree down domain proto body).Only (Act.Turn early) :=
  (sendTree_in (parts := sendParts) (by simp) (by simp) (by simp) down domain proto body).turn (by decide) fromFab_noDecReg

theorem sendUnicast_turn (cls proto : Nat) (dst : BitVec 16) (body : List Byte) :
    (sendUnicast cls proto dst body).Only (Act.Turn early) :=
  (sendUnicast_in (parts := sendParts) (by simp) (by simp) (by simp) cls proto dst body).turn (by decide) fromFab_noDecReg

theorem trySendVote_turn (d : Bool) : (trySendVote d).Only (Act.Turn early) := by
  intro s
  simp [sendVote, sendTree_turn, Act.Turn, Commit.window]

theorem settleVote_turn (ready : Bool) (reason : BitVec 16) : (settleVote ready reason).Only (Act.Turn early) := by
  intro s
  simp +decide [trySendVote_turn, Act.Turn, Commit.window]

theorem tryVote_turn : tryVote.Only (Act.Turn early) := by
  intro s
  dsimp only
  split
  · split
    · exact settleVote_turn _ _
    · split
      · exact settleVote_turn _ _
      · trivial
  · trivial

/-! ### The parts of a swap instant -/

theorem commitRws_turn (n : Fsn) : (commitRws n).Only (Act.Turn early) := by
  intro s
  simp [Act.Turn]

theorem onAirStep_turn (n : Fsn) : (onAirStep n).Only (Act.Turn early) := by
  intro s
  dsimp only
  split
  · trivial
  · simp [Act.Turn]

theorem releaseFrames_turn (n : Fsn) : (releaseFrames n).Only (Act.Turn early) := by
  intro s
  simp +decide [needLatched, modLatched, freeSlots, cacheStatus, retireCheck, Act.Turn]

theorem swapEpochs_turn (n : Fsn) : (swapEpochs n).Only (Act.Turn early) := by
  have hslots (b : Bool) : (moveSlots b).Only (Act.Turn early) := by
    intro s
    simp +decide [Act.Turn]
  have hepochs (b : Bool) : (moveEpochs n b).Only (Act.Turn early) := by
    intro s
    simp +decide [Act.Turn]
  intro s
  simp +decide [hslots, hepochs, releaseFrames_turn, loadMaxList, movePend]

theorem slateStep_turn (n : Fsn) (was now : Screen) (t : Time) : (slateStep n was now t).Only (Act.Turn early) := by
  simp +decide [slateStep, openFill, Act.Turn]

theorem healthStep_turn (n : Fsn) (commit : Bool) (t : Time) : (healthStep n commit t).Only (Act.Turn False) := by
  have hwrite (p : BootPtr) : (writePtr p).Only (Act.Turn False) := by
    intro s
    simp +decide [reportUpd, loadSecBoot, Act.Turn]
  have hset (u : UpdState) : (setUpd u).Only (Act.Turn False) := by
    intro s
    simp [Act.Turn]
  have hconfirm : (confirmTrial t).Only (Act.Turn False) := by
    intro s
    dsimp only
    split
    · trivial
    · simp [hwrite, hset, Act.Turn]
  intro s
  simp +decide [hconfirm, Act.Turn]

theorem lapseCheck_turn (n : Fsn) (t : Time) : (lapseCheck n t).Only (Act.Turn early) := by
  intro s
  dsimp only
  split
  · trivial
  · simp [modDecider, Act.Turn, Commit.window]

theorem tableSwap_turn (t : TableId) (n : Fsn) : (tableSwap t n).Only (Act.Turn early) := by
  have hmod (f : TableChg → TableChg) : (modTable t f).Only (Act.Turn early) := trivial
  have hwhole : wholeTableChange.Only (Act.Turn early) := by
    intro s
    simp [modEpoch, Act.Turn]
  have hlists : rebuildLists.Only (Act.Turn early) := by
    intro s
    simp [Act.Turn]
  have hretire : retireCheck.Only (Act.Turn early) := by
    intro s
    simp +decide [Act.Turn]
  have hshadow : ∀ r ∈ tableRegs t, noDecReg r.1 := by cases t <;> decide
  have htakes (v : List Word) : (tableTakes t v).Only (Act.Turn early) := by
    intro s
    refine ⟨hmod _, ?_, ?_, trivial⟩
    · rw [Prog.only_each_iff]
      intro p hp
      exact ⟨trivial, Prog.only_when _ (hshadow _ (List.of_mem_zip hp).1)⟩
    · cases t
      · exact Prog.only_when _ ⟨hlists, hwhole⟩
      · exact ⟨fun _ => trivial, Prog.only_when _ hwhole⟩
      · exact Prog.only_when _ ⟨trivial, hretire⟩
  intro s
  refine ⟨hmod _, ?_, trivial⟩
  split
  · trivial
  · exact htakes _

/-! ### Answers to a service's requests -/

theorem sendPieces_turn (proto : Nat) (dst stream : BitVec 16) (base : Nat) (fin : Bool) (bytes : List Byte) :
    (sendPieces proto dst stream base fin bytes).Only (Act.Turn early) :=
  Prog.only_each _ _ fun _ => sendUnicast_turn _ _ _ _

theorem modSession_turn (id : Nat) (f : PmpSession → PmpSession) : (modSession id f).Only (Act.Turn early) := trivial

theorem sendRecord_turn (id kind seq : Nat) (body : List Byte) (t : Time) : (sendRecord id kind seq body t).Only (Act.Turn early) := by
  refine ⟨trivial, fun s => ?_⟩
  dsimp only
  split
  · trivial
  · split
    · trivial
    · exact ⟨sendPieces_turn _ _ _ _ _ _, modSession_turn _ _⟩

theorem sendMessage_turn (id svc op flags : Nat) (reqId : Word) (status : Nat) (body : List Byte) (t : Time) :
    (sendMessage id svc op flags reqId status body t).Only (Act.Turn early) := by
  refine Prog.only_each _ _ fun p s => ?_
  dsimp only
  split
  · trivial
  · exact ⟨sendRecord_turn _ _ _ _ _, modSession_turn _ _⟩

theorem sendEvents_turn (id : Nat) (t : Time) : (sendEvents id t).Only (Act.Turn early) := by
  intro s
  dsimp only
  split
  · trivial
  · exact Prog.only_when _ ⟨modSession_turn _ _, fun _ => ⟨trivial, sendMessage_turn _ _ _ _ _ _ _ _⟩⟩

theorem respond_turn (req : PmpCtx) (status : Nat) (body : List Byte) : (respond req status body).Only (Act.Turn early) := by
  intro s
  refine ⟨?_, modSession_turn _ _, trivial, sendEvents_turn _ _, trivial⟩
  split
  · exact sendMessage_turn _ _ _ _ _ _ _ _
  · trivial

theorem memStream_turn (src a : Nat) (data : List Byte) : (memStream src a data).Only (Act.Turn early) :=
  (memStream_in (parts := [.mem, .dmc, .freeCount]) (by simp) (by simp) (by simp) src a data).turn (by decide) (by decide)

theorem tableWrite_turn (t : TableId) (i : Nat) (v : Word) (stamp : Time) : (tableWrite t i v stamp).Only (Act.Turn early) := by
  have hshadow : ∀ r ∈ tableRegs t, noDecReg r.1 := by cases t <;> decide
  rw [tableWrite]
  split
  · trivial
  · next r hr =>
    have hr' := hshadow r (List.mem_of_getElem? hr)
    exact ⟨hr', trivial, Prog.only_when _ ((Prog.setFld_turn early _ _).2 (by decide)), trivial⟩

theorem calStageDue_turn (t : Time) : (calStageDue t).Only (Act.Turn early) := by
  have hnow (c : CalSession) (addrs : List Nat) (rest : List Byte) : (calStageNow c addrs rest t).Only (Act.Turn early) := by
    have heach (l : List Nat) (id : TableId) (v : Nat → Word) : (Prog.each l fun k => tableWrite id k (v k) t).Only (Act.Turn early) :=
      Prog.only_each _ _ fun _ => tableWrite_turn _ _ _ _
    rw [calStageNow, Prog.only_dyn]
    intro s
    dsimp only
    simp only [Prog.only_block_cons, Prog.only_block_nil, memStream_turn, heach, writeColour, Prog.only_act, Act.Turn, and_self]
  intro s
  dsimp only
  split
  · trivial
  · split
    · trivial
    · exact ⟨hnow _ _ _, respond_turn _ _ _⟩

/-! ### A node that has diverged -/

theorem fromLeaving_noDecReg (off : Nat) (h : fromLeaving off) : noDecReg off := by
  rcases h with rfl | h
  · decide
  · exact fromFab_noDecReg off h

theorem leaveService_turn (fsn : Fsn) (family code : Nat) : (leaveService fsn family code).Only (Act.Turn early) := by
  have hhalt : aplHalt.Only (Act.Turn early) :=
    (aplHalt_in (parts := [.apl]) (by simp)).turn (by decide) fromLeaving_noDecReg
  have hnotice (r : Nat) : (faultNotice fsn r).Only (Act.Turn early) := fun _ => sendUnicast_turn _ _ _ _
  simp [leaveService, hhalt, hnotice, trySendVote_turn, Act.Turn]

theorem recordFault_turn (block family code detail : Nat) (fsn : Fsn) (later : Bool) :
    (recordFault block family code detail fsn later).Only (Act.Turn early) :=
  (recordFault_in (parts := []) (P := (· ∈ faultRegs)) (fun _ => id) block family code detail fsn later).turn (by decide) (by decide)

theorem moveNode_turn (n : NodeState) : (moveNode n).Only (Act.Turn early) := by
  intro s
  simp [Act.Turn]

/-- A node that runs no trial enters FAULT, or is in a state from which it does not. -/
theorem turned_enterFault (hs : s.Canon) (hno : s.NoTrial) (block family code detail : Nat) :
    Turned early s ((enterFault block family code detail).run s) := by
  by_cases hmove : nodeMove s.node .fault = true
  · rw [run_enterFault hmove hno]
    have hrec := (recordFault_turn block family code detail s.S (s.flag F.HKP_FAULT_VALID)).turned (early := early) hs
    have hmoved := hrec.trans ((moveNode_turn .fault).turned hrec.steady.canon)
    exact hmoved.trans ((leaveService_turn s.S family code).turned hmoved.steady.canon)
  · have hrun : (enterFault block family code detail).run s = (Prog.when (s.node == .fault)
        (recordFault block family code detail s.S (s.flag F.HKP_FAULT_VALID))).run s := by
      have hmove' : nodeMove s.node .fault = false := by simpa using hmove
      simp only [enterFault, Prog.run_dyn, hmove', Prog.run_block_cons, Prog.run_block_nil, Prog.run_when, Bool.false_or,
        Bool.false_eq_true, if_false]
      rfl
    rw [hrun]
    exact (Prog.only_when _ (recordFault_turn _ _ _ _ _ _)).turned hs

theorem turned_divergeCheck (hs : s.Canon) (hno : s.NoTrial) (d : Decision) : Turned True s ((divergeCheck d).run s) := by
  have hcause : (Prog.when (nodeMove s.node .fault) (.block [.setFld F.CMT_FAULT_CODE 0x23, .raise 137])).Only (Act.Turn True) := by
    simp +decide
  have hfault : Turned True s ((cmtFault 0x23).run s) := by
    have hfirst := hcause.turned hs
    rw [cmtFault, Prog.run_dyn, Prog.run_block_cons, Prog.run_block_cons, Prog.run_block_nil]
    exact hfirst.trans (turned_enterFault hfirst.steady.canon (hfirst.steady.noTrial hno) _ _ _ _)
  rw [divergeCheck, Prog.run_dyn]
  split
  · exact .refl hs
  · rw [Prog.run_when]
    split
    · exact hfault
    · exact .refl hs

end Sys2Proof.Machine
end

section
/-! PROOF. O49: swap instants, TICKs and the start of speculation (R42, R187, R274, R287, R413, R414). -/

namespace Sys2Proof.Machine

variable {s : State}

/-! ### The swap instant in its parts -/

/-- What a decision makes, where there is one. -/
def Prog.onDecision (d : Option Decision) (f : Decision → Prog) : Prog :=
  match d with
  | some d => f d
  | none => .nil

/-- What comes before the decision is applied. -/
def swapOpening (n : Fsn) : Prog := .seq (commitRws n) (onAirStep n)

/-- What follows the new screen state up to the check for divergence. -/
def swapMoves (n : Fsn) (was now : Screen) (t : Time) : Prog :=
  .seq (.when (now != was) (.raiseAt 132 t)) (.guard (fun s => !s.frozen) (swapEpochs n))

/-- What follows the check for divergence where no generation comes into force and no activation is armed. -/
def swapClosing (n : Fsn) (was now : Screen) (locked pwm commit : Bool) (t : Time) : Prog :=
  .block [slateStep n was now t, .when locked (.act (.cmt (fun c => { c with pwmOn := pwm }))), healthStep n commit t]

/-- What follows the turn of the window up to the packets that waited. -/
def swapAfter (n : Fsn) (t : Time) : Prog :=
  .block [lapseCheck n t, .each [TableId.dirs, .bounds, .colour] (fun k => tableSwap k n), calStageDue t]

/-- The votes of the window that has begun. -/
def swapVotes : Prog := .block [tryVote, trySendVote false, trySendVote true]

theorem run_swapInstant (hgen : s.swapGen = none) (hact : ∀ d, s.cmt.decision = some d → d.actValid = false) :
    ∃ locked pwm commit, swapInstantProg.run s = swapVotes.run ((Prog.guard (fun s => !s.frozen) applyPreEpoch).run
      ((swapAfter s.N (s.swapTime s.N)).run ((turnWindow s.N).run
        ((swapClosing s.N s.cmt.screen s.swapScreen.1 locked pwm commit (s.swapTime s.N)).run
          ((Prog.onDecision s.cmt.decision divergeCheck).run
            ((swapMoves s.N s.cmt.screen s.swapScreen.1 (s.swapTime s.N)).run
              ((Act.cmt (fun c => { c with screen := s.swapScreen.1, holdCount := s.swapScreen.2 })).apply
                ((Prog.onDecision s.cmt.decision (fun d => applyDecision d (s.swapTime s.N))).run
                  ((swapOpening s.N).run s))))))))) := by
  refine ⟨s.timeLock, s.swapTick.pwm, match s.cmt.decision with | some d => d.commit | none => false, ?_⟩
  rw [swapInstantProg, Prog.run_dyn]
  dsimp only
  rw [hgen]
  cases hd : s.cmt.decision with
  | none =>
    simp only [swapVotes, swapAfter, swapClosing, swapMoves, swapOpening, Prog.onDecision, Prog.run_block_cons, Prog.run_block_nil,
      Prog.run_seq, Prog.run_act, Prog.run_nil]
  | some d =>
    simp only [swapVotes, swapAfter, swapClosing, swapMoves, swapOpening, Prog.onDecision, Prog.run_block_cons, Prog.run_block_nil,
      Prog.run_seq, Prog.run_act, Prog.run_nil, hact d hd, Bool.and_false, Prog.run_when, Bool.false_eq_true, if_false]

/-- The registers of an applied decision (Table 14.8). -/
structure DecisionShown (d : Decision) (t : State) : Prop where
  fsn : t.reg R.CMT_DEC_FSN = d.fsn
  outcome : t.fld F.CMT_DEC_OUTCOME = if d.commit then 1 else 2
  reason : t.fld F.CMT_DEC_REASON = d.reason.toNat

theorem DecisionShown.turned {d : Decision} {t : State} (h : DecisionShown d s) (hreg : ∀ off, ¬ noDecReg off → t.reg off = s.reg off) :
    DecisionShown d t := by
  have hdec : t.reg R.CMT_DEC = s.reg R.CMT_DEC := hreg _ (by decide)
  have hfld (f : Fld) (hf : f.off = R.CMT_DEC) : t.fld f = s.fld f := by rw [State.fld, hf, hdec, State.fld, hf]
  exact ⟨(hreg _ (by decide)).trans h.fsn, (hfld _ rfl).trans h.outcome, (hfld _ rfl).trans h.reason⟩

theorem run_applyDecision (hs : s.Canon) (d : Decision) (t : Time) : let u := (applyDecision d t).run s
    Steady True s u ∧ u.cmt.window = s.cmt.window ∧ DecisionShown d u := by
  let first : Prog := .block [.setReg R.CMT_DEC_FSN d.fsn, .setFld F.CMT_DEC_OUTCOME (if d.commit then 1 else 2),
    .setFld F.CMT_DEC_REASON d.reason.toNat]
  let rest : Prog := .block [.setFld F.CMT_DEC_NODE_REASON_NODE d.reasonNode.toNat, .setFld F.CMT_DEC_NODE_READY d.ready,
    .act (.pdl (fun p => { p with lams := (d.fsn + 2, d.lam) :: p.lams })), .raiseAt 129 t, .when (!d.commit) (.raiseAt 130 t)]
  have hrun : (applyDecision d t).run s = rest.run (first.run s) := by
    simp only [applyDecision, first, rest, Prog.run_block_cons, Prog.run_block_nil]
  have hrest : rest.Only (Act.Turn True) := by simp +decide [rest, Act.Turn]
  have hf : Frame [] [R.CMT_DEC_FSN, R.CMT_DEC] s (first.run s) :=
    (Prog.frame _ _ first (by simp [first, F.CMT_DEC_OUTCOME, F.CMT_DEC_REASON]) s hs).2
  have hu : Turned True (first.run s) (rest.run (first.run s)) := hrest.turned (hs.run first)
  have hcmt : (first.run s).cmt = s.cmt := hf.1 .cmt (by decide) (by decide)
  let v := (Prog.setReg R.CMT_DEC_FSN d.fsn).run s
  let w := (Prog.setFld F.CMT_DEC_OUTCOME (if d.commit then 1 else 2)).run v
  have hv : v.Canon := hs.run _
  have hw : w.Canon := hv.run _
  have hshown : DecisionShown d (first.run s) := by
    refine ⟨?_, ?_, ?_⟩
    · exact (State.reg_store_other w _ _ _ hw (by decide)).trans ((State.reg_store_other v _ _ _ hv (by decide)).trans
        (State.reg_store_same s _ _ _ hs rfl))
    · refine (State.fld_setFld_other F.CMT_DEC_REASON F.CMT_DEC_OUTCOME _ w hw ⟨by decide, by decide⟩ (by decide)).trans
        ((State.fld_setFld_same F.CMT_DEC_OUTCOME _ v hv ⟨by decide, by decide⟩).trans ?_)
      split <;> rfl
    · exact (State.fld_setFld_same F.CMT_DEC_REASON _ w hw ⟨by decide, by decide⟩).trans (Nat.mod_eq_of_lt d.reason.isLt)
  rw [hrun]
  exact ⟨(Steady.of_frame hf (hs.run first) (by decide)).trans hu.steady, by rw [hu.window, hcmt], hshown.turned hu.reg⟩

/-- What a swap instant leaves whose decision, where it has one, brings no generation into force and arms nothing. -/
structure Swapped (s t : State) : Prop where
  window : t.cmt.window = (s.swapScreen.1, s.swapScreen.2, s.N, none, false)
  lc : t.lc = s.lc
  version : s.secVersion.toNat ≤ t.secVersion.toNat
  shown : ∀ d, s.cmt.decision = some d → DecisionShown d t

theorem swapped_swapInstant (hs : s.Canon) (hpre : s.ing.preEpoch = []) (hgen : s.swapGen = none)
    (hact : ∀ d, s.cmt.decision = some d → d.actValid = false) (hno : ∀ d, s.cmt.decision = some d → s.NoTrial) :
    Swapped s (swapInstantProg.run s) := by
  obtain ⟨locked, pwm, commit, hrun⟩ := run_swapInstant hgen hact
  have hopening : (swapOpening s.N).Only (Act.Turn True) := ⟨commitRws_turn _, onAirStep_turn _⟩
  have hmoves : (swapMoves s.N s.cmt.screen s.swapScreen.1 (s.swapTime s.N)).Only (Act.Turn True) :=
    ⟨Prog.only_when _ (Prog.raiseAt_turn _ _ _), Prog.only_guard _ (swapEpochs_turn _)⟩
  have hclosing : (swapClosing s.N s.cmt.screen s.swapScreen.1 locked pwm commit (s.swapTime s.N)).Only (Act.Turn False) :=
    ⟨slateStep_turn _ _ _ _, Prog.only_when _ (fun _ => rfl), healthStep_turn _ _ _, trivial⟩
  have hafter : (swapAfter s.N (s.swapTime s.N)).Only (Act.Turn False) :=
    ⟨lapseCheck_turn _ _, Prog.only_each _ _ fun _ => tableSwap_turn _ _, calStageDue_turn _, trivial⟩
  have hvotes : swapVotes.Only (Act.Turn False) := ⟨tryVote_turn, trySendVote_turn _, trySendVote_turn _, trivial⟩
  rw [hrun]
  -- up to the new screen state
  have ha := hopening.turned hs
  generalize (swapOpening s.N).run s = a at *
  have hb : Steady True a ((Prog.onDecision s.cmt.decision (fun d => applyDecision d (s.swapTime s.N))).run a) ∧
      ∀ d, s.cmt.decision = some d →
        DecisionShown d ((Prog.onDecision s.cmt.decision (fun d => applyDecision d (s.swapTime s.N))).run a) := by
    cases hd : s.cmt.decision with
    | none => exact ⟨.refl ha.steady.canon, fun d h => nomatch h⟩
    | some d =>
      obtain ⟨hsteady, -, hshown⟩ := run_applyDecision ha.steady.canon d (s.swapTime s.N)
      exact ⟨hsteady, fun _ h => Option.some.inj h ▸ hshown⟩
  obtain ⟨hbsteady, hbshown⟩ := hb
  generalize (Prog.onDecision s.cmt.decision _).run a = b at *
  have hcf : Frame [.cmt] [] b _ :=
    Act.frame_noRegs (a := .cmt (fun c => { c with screen := s.swapScreen.1, holdCount := s.swapScreen.2 })) List.mem_cons_self b
  have hcsteady : Steady True b ((Act.cmt (fun c => { c with screen := s.swapScreen.1, holdCount := s.swapScreen.2 })).apply b) :=
    .of_frame hcf (hbsteady.canon.apply _) (by decide)
  have hcscreen : ((Act.cmt (fun c => { c with screen := s.swapScreen.1, holdCount := s.swapScreen.2 })).apply b).cmt.screen =
      s.swapScreen.1 := rfl
  have hchold : ((Act.cmt (fun c => { c with screen := s.swapScreen.1, holdCount := s.swapScreen.2 })).apply b).cmt.holdCount =
      s.swapScreen.2 := rfl
  generalize (Act.cmt _).apply b = c at *
  -- up to the turn of the window
  have he := hmoves.turned hcsteady.canon
  generalize (swapMoves _ _ _ _).run c = e at *
  have hse := ha.steady.trans (hbsteady.trans (hcsteady.trans he.steady))
  have hf : Turned True e ((Prog.onDecision s.cmt.decision divergeCheck).run e) := by
    cases hd : s.cmt.decision with
    | none => exact .refl he.steady.canon
    | some d => exact turned_divergeCheck he.steady.canon (hse.noTrial (hno d hd)) d
  generalize (Prog.onDecision s.cmt.decision divergeCheck).run e = f at *
  have hg := hclosing.turned hf.steady.canon
  generalize (swapClosing _ _ _ _ _ _ _).run f = g at *
  have hhf : Frame [.cmt] [] g ((turnWindow s.N).run g) := Act.frame_noRegs (a := .cmt _) List.mem_cons_self g
  have hhsteady : Steady False g ((turnWindow s.N).run g) := .of_frame hhf (hg.steady.canon.run _) (by decide)
  have hhwindow : ((turnWindow s.N).run g).cmt.window = (g.cmt.screen, g.cmt.holdCount, s.N, none, false) := rfl
  generalize (turnWindow s.N).run g = h at *
  -- up to the end
  have hi := hafter.turned hhsteady.canon
  generalize (swapAfter _ _).run h = i at *
  have hsi : Steady False s i := hse.later.trans (hf.steady.later.trans (hg.steady.trans (hhsteady.trans hi.steady)))
  have hwait : ((Prog.guard (fun s => !s.frozen) applyPreEpoch).run i) =
      (Prog.guard (fun s => !s.frozen) (.act (.ing (fun g => { g with preEpoch := [] })))).run i := by
    have hnone : i.ing.preEpoch = [] := hsi.pre hpre
    rw [Prog.run_guard, Prog.run_guard, applyPreEpoch, Prog.run_dyn, hnone, Prog.run_seq, Prog.run_each_nil]
  have hempty : (Prog.guard (fun s => !s.frozen) (.act (.ing (fun g => { g with preEpoch := [] })))).Only (Act.Turn False) :=
    Prog.only_guard _ fun _ _ => rfl
  have hj := hempty.turned hi.steady.canon
  rw [hwait]
  generalize (Prog.guard _ _).run i = j at *
  have hk := hj.trans (hvotes.turned hj.steady.canon)
  generalize swapVotes.run j = k at *
  have hgwindow : g.cmt.window = c.cmt.window := hg.window.trans (hf.window.trans he.window)
  have hgscreen : g.cmt.screen = s.swapScreen.1 := (congrArg Prod.fst hgwindow).trans hcscreen
  have hghold : g.cmt.holdCount = s.swapScreen.2 := (congrArg (fun w => w.2.1) hgwindow).trans hchold
  refine ⟨?_, (hk.steady.lc).trans hsi.lc, Nat.le_trans hsi.version hk.steady.version, fun d hd => ?_⟩
  · rw [hk.window, hi.window, hhwindow, hgscreen, hghold]
  · refine (hbshown d hd).turned fun off hoff => ?_
    rw [hk.reg off hoff, hi.reg off hoff, hhf.2 off List.not_mem_nil, hg.reg off hoff, hf.reg off hoff, he.reg off hoff,
      hcf.2 off List.not_mem_nil]

theorem Commit.window_eq {c : Commit} {screen : Screen} {hold : Nat} {n : Fsn} {d : Option Decision} {b : Bool}
    (h : c.window = (screen, hold, n, d, b)) :
    c.screen = screen ∧ c.holdCount = hold ∧ c.s = n ∧ c.decision = d ∧ c.abandoned = b := by
  simpa [Commit.window] using h

theorem meas_swapInstant (hinv : s.Inv) : (swapInstantProg.run s).meas.length = 16 := by
  obtain ⟨-, -, -, hlen, -⟩ := Prog.run_inv swapInstantProg s hinv
  exact hlen

/-! ### TICK_LAUNCH (R287, R292) -/

/-- A TICK leaves on every drive lane that carries items. -/
theorem completes_tickLaunch (hawake : s.Awake) (hlock : s.timeLock = true) {k : Tick} (htick : s.swapTick = k) :
    Completes .tickLaunch s (fun t =>
       t.out = .tick (tickSet k) (((List.range 192).filter s.carries).map (fun i =>
         (i, nearestBoundary (Config.symbolPhase s.freeCount i) (10 * (k.stamp - s.laneL i))))) :: s.out ∧
       t.pdl.tickCheck = (List.range 192).filter s.carries ∧ Frame [.pdl, .out, .freeCount] [] s t) := by
  refine .of_go rfl hawake ?_
  rw [Prog.run_guard, if_pos hlock, Prog.run_dyn]
  dsimp only
  rw [htick]
  generalize hl : (List.range 192).filter s.carries = lanes
  generalize lanes.map _ = launch
  exact ⟨rfl, rfl, Prog.frame_noRegs _ (.block [.act (.pdl (fun p => { p with tick := some k, tickCheck := lanes })), .act (.free 1),
    .send (.tick (tickSet k) launch)]) (by simp [Act.Within]) s⟩

theorem swapTick_sapling (hnode : s.node = .sapling) (hgen : s.swapGen = none) : s.swapTick =
    { stamp := s.swapTime s.N, fsn := s.N, swap := false, slot := s.fld F.ING_EPOCH_STATE_SLOT_DISPLAY, pwm := false } := by
  have hmode : s.swapNode = .sapling := by rw [State.swapNode, hgen, ← hnode]; rfl
  rw [State.swapTick]
  simp only [hmode]

theorem swapScreen_lit (hdec : s.cmt.decision = none) (hlit : s.cmt.screen = .show ∨ s.cmt.screen = .hold)
    (hhold : s.cmt.holdCount + 1 ≤ s.genNow.holdLimit) : s.swapScreen = (.hold, s.cmt.holdCount + 1) := by
  rw [State.swapScreen, hdec]
  rcases hlit with h | h <;> simp [screenTable, h, hhold]

theorem swapTick_hold (hnode : s.node = .member) (hdec : s.cmt.decision = none) (hcommit : s.commitsHere = false)
    (hlit : s.cmt.screen = .show ∨ s.cmt.screen = .hold) (hhold : s.cmt.holdCount + 1 ≤ s.genNow.holdLimit) : s.swapTick =
    { stamp := s.swapTime s.N, fsn := s.N, swap := false, slot := s.fld F.ING_EPOCH_STATE_SLOT_DISPLAY, pwm := true } := by
  have hgen : s.swapGen = none := by rw [State.swapGen, hdec]
  have hmode : s.swapNode = .member := by rw [State.swapNode, hgen, ← hnode]; rfl
  have hswaps : s.swaps = false := by rw [State.swaps, hcommit, Bool.false_and]
  rw [State.swapTick]
  simp [hmode, hswaps, swapScreen_lit hdec hlit hhold]

/-! ### SPEC_START (R187, R192, R274) -/

theorem run_tryVote_sapling (hnode : s.node = .sapling) : tryVote.run s = s := by
  rw [tryVote, Prog.run_dyn, if_neg (by simp [hnode])]
  rfl

/-- A cause that a node that is no MEMBER records changes no vote. -/
theorem frame_toldCause (hnode : s.node = .sapling) (b : Bool) (e : Nat) (t : Time) (n : Fsn) (reason : BitVec 16) :
    Frame [.ctl, .cmt] [] s ((Prog.when b (.seq (.raiseAt e t) (recordCause n reason))).run s) := by
  rw [Prog.run_when]
  split
  · rw [Prog.run_seq]
    have hu := frame_raiseAt e t s
    have hunode : ((Prog.raiseAt e t).run s).node = .sapling := Eq.trans (hu.1 .node (by decide) (by decide)) hnode
    generalize (Prog.raiseAt e t).run s = u at *
    have hrun : (recordCause n reason).run u = (Act.cmt (fun c => { c with causes := c.causes ++ [(n, reason)] })).apply u := by
      rw [recordCause, Prog.run_block_cons, Prog.run_block_cons, Prog.run_block_nil, Prog.run_act]
      exact run_tryVote_sapling hunode
    rw [hrun]
    exact (hu.mono (by simp) (by simp)).trans (Frame.mono (parts := [.cmt]) (Act.frame_noRegs (a := .cmt _) List.mem_cons_self u)
      (by simp) (by simp))
  · exact (Frame.refl [] [] s).mono (by simp) (by simp)

/-- An act that leaves the fills as they are. -/
def Act.FillsKept : Act → Prop
  | .pdl f => ∀ p, (f p).fills = p.fills
  | .reset _ => False
  | _ => True

theorem Act.FillsKept.apply {a : Act} (h : a.FillsKept) (s : State) : (a.apply s).pdl.fills = s.pdl.fills := by
  cases a with
  | pdl f => exact h s.pdl
  | reset w => exact h.elim
  | node n => rw [Act.apply]; split <;> rfl
  | lifecycle n => rw [Act.apply]; split <;> rfl
  | fuseVersion v => rw [Act.apply]; split <;> rfl
  | fuseInitial v => rw [Act.apply]; split <;> rfl
  | extend i x => rw [Act.apply]; split <;> rfl
  | _ => rfl

theorem Prog.Only.fillsKept {p : Prog} (h : p.Only Act.FillsKept) (s : State) : (p.run s).pdl.fills = s.pdl.fills :=
  Prog.run_keeps (fun t => t.pdl.fills = s.pdl.fills) (fun _ t ha ht => (ha.apply t).trans ht) p h s rfl

/-- The colour values of a frame are latched: of the fills nothing changes. -/
theorem run_latchColour_sapling (hs : s.Canon) (hnode : s.node = .sapling) (n : Fsn) (t : Time) : let v := (latchColourProg n t).run s
    v.pdl.fills = s.pdl.fills ∧ Frame [.pdl, .cmt, .ctl] [F.COL_LIMIT_GAIN_SPEC.off] s v := by
  let first : Prog := .seq (needLatched n) (.dyn (fun s => modLatched n (s.latchColour n)))
  have hu : Frame [.pdl] [] s (first.run s) :=
    Prog.frame_noRegs _ first (by simp [first, needLatched, modLatched, Act.Within]) s
  have hufills : (first.run s).pdl.fills = s.pdl.fills :=
    Prog.Only.fillsKept (by simp [first, needLatched, modLatched, Act.FillsKept]) s
  have hrun : (latchColourProg n t).run s = (Prog.dyn (fun s =>
      let l := s.latched n
      .block [
        .setFld F.COL_LIMIT_GAIN_SPEC l.lam,
        .act (.pdl (fun p => { p with lanes := p.lanes.map (fun d => { d with zoneTemps := keepReports t d.zoneTemps }) })),
        .when l.tempStale (.seq (.raiseAt 257 t) (recordCause n 0x0203)),
        .when l.lamUnknown (.seq (.raiseAt 258 t) (recordCause n 0x0204))])).run (first.run s) := by
    rw [latchColourProg, Prog.run_block_cons, Prog.run_block_cons, Prog.run_block_cons, Prog.run_block_nil, Prog.run_seq]
  have huc : (first.run s).Canon := hs.run _
  have hunode : (first.run s).node = .sapling := Eq.trans (hu.1 .node (by decide) (by decide)) hnode
  rw [hrun]
  generalize first.run s = u at *
  rw [Prog.run_dyn]
  dsimp only
  rw [Prog.run_block_cons, Prog.run_block_cons, Prog.run_block_cons, Prog.run_block_cons, Prog.run_block_nil]
  let second (l : Latched) : Prog := .seq (.setFld F.COL_LIMIT_GAIN_SPEC l.lam)
    (.act (.pdl (fun p => { p with lanes := p.lanes.map (fun d => { d with zoneTemps := keepReports t d.zoneTemps }) })))
  generalize u.latched n = l
  have hw : Frame [.pdl] [F.COL_LIMIT_GAIN_SPEC.off] u ((second l).run u) :=
    (Prog.frame _ _ (second l) (by simp [second, Act.Within]) u huc).2
  have hwfills : ((second l).run u).pdl.fills = u.pdl.fills := Prog.Only.fillsKept (p := second l) ⟨fun _ => trivial, fun _ => rfl⟩ u
  have hwnode : ((second l).run u).node = .sapling := Eq.trans (hw.1 .node (by decide) (by decide)) hunode
  change _ ∧ _
  rw [← Prog.run_seq (.setFld F.COL_LIMIT_GAIN_SPEC l.lam)]
  change (Prog.run _ (Prog.run _ ((second l).run u))).pdl.fills = _ ∧ Frame _ _ s (Prog.run _ (Prog.run _ ((second l).run u)))
  generalize (second l).run u = w at *
  have hx := frame_toldCause hwnode l.tempStale 257 t n 0x0203
  generalize (Prog.when l.tempStale _).run w = x at *
  have hxnode : x.node = .sapling := Eq.trans (hx.1 .node (by decide) (by decide)) hwnode
  have hy := frame_toldCause hxnode l.lamUnknown 258 t n 0x0204
  generalize (Prog.when l.lamUnknown _).run x = y at *
  have hypdl : y.pdl = w.pdl := Eq.trans (hy.1 .pdl (by decide) (by decide)) (hx.1 .pdl (by decide) (by decide))
  refine ⟨?_, (hu.mono (by simp) (by simp)).trans ((hw.mono (by simp) (by simp)).trans ((hx.trans hy).mono (by simp) (by simp)))⟩
  rw [hypdl, hwfills, hufills]

theorem advance_kept (f : Fill) : f.advance.fsn = f.fsn ∧ f.advance.slate = f.slate ∧ f.advance.released = f.released := by
  have hskip (n : Nat) : ∀ f : Fill, (Fill.skipBlank n f).fsn = f.fsn ∧ (Fill.skipBlank n f).slate = f.slate ∧
      (Fill.skipBlank n f).released = f.released := by
    induction n with
    | zero => exact fun f => ⟨rfl, rfl, rfl⟩
    | succ n ih =>
      intro f
      rw [Fill.skipBlank]
      split
      · exact ih { f with issued := f.issued + 1 }
      · exact ⟨rfl, rfl, rfl⟩
  rw [Fill.advance]
  split
  · exact ⟨rfl, rfl, rfl⟩
  · exact hskip _ f

/-- With speculation off the frame opens with every bin marked (R187, R192). -/
structure Marked (e e' : Epoch) : Prop where
  fsn : e'.fsn = e.fsn
  started : e'.specStarted = true
  st : e'.st = .active
  base : e'.specBase = none
  inval : e'.inval = allBins
  pred : e'.predState = .none

theorem marked_specEpoch (n : Fsn) {e : Epoch} (hst : e.st = .created) (hoff : s.effFlag F.ING_SPEC_CTRL_SPEC_ENABLE = false) :
    Marked e (s.specEpoch n e) := by
  have hchoice : s.specChoice n e = (1, none) := by rw [State.specChoice, hoff]; rfl
  rw [State.specEpoch, hchoice]
  have hcreated : (e.st == EpState.created) = true := by rw [hst]; rfl
  dsimp only
  simp only [hcreated, if_true, show ¬ (1 : Nat) = 2 by decide, show ¬ (1 : Nat) = 3 by decide, if_false]
  split
  · next h => exact ⟨rfl, rfl, rfl, rfl, by simpa using h, rfl⟩
  · exact ⟨rfl, rfl, rfl, rfl, BitVec.or_allOnes, rfl⟩

theorem find_map_epoch (l : List Epoch) {n : Fsn} {f : Epoch → Epoch} {e : Epoch} (he : l.find? (fun e => e.fsn == n) = some e)
    (hf : (f e).fsn = e.fsn) :
    (l.map (fun e => if e.fsn == n then f e else e)).find? (fun e => e.fsn == n) = some (f e) := by
  induction l with
  | nil => cases he
  | cons x l ih =>
    rw [List.map_cons]
    by_cases h : (x.fsn == n) = true
    · rw [List.find?_cons_of_pos (p := fun e : Epoch => e.fsn == n) h] at he
      cases he
      rw [if_pos h, List.find?_cons_of_pos (p := fun e : Epoch => e.fsn == n) (by rw [hf]; exact h)]
    · rw [List.find?_cons_of_neg (p := fun e : Epoch => e.fsn == n) h] at he
      rw [if_neg h, List.find?_cons_of_neg (p := fun e : Epoch => e.fsn == n) h, ih he]

theorem epoch_modEpoch {n : Fsn} {e : Epoch} (he : s.epoch n = some e) {f : Epoch → Epoch} (hf : (f e).fsn = e.fsn) :
    ((modEpoch n f).run s).epoch n = some (f e) := find_map_epoch s.ing.epochs he hf

theorem run_releasePred_none {n : Fsn} {e : Epoch} (he : s.epoch n = some e) (hpred : e.predState = .none) :
    (releasePred n).run s = s := by
  rw [releasePred, Prog.run_dyn]
  simp only [he]
  rw [Prog.run_when, if_neg (by simp [hpred])]

theorem run_synthCheck_active {n : Fsn} {e : Epoch} (he : s.epoch n = some e) (hst : e.st = .active) : (synthCheck n).run s = s := by
  rw [synthCheck, Prog.run_dyn]
  simp only [he]
  rw [Prog.run_when, if_neg (by simp [hst])]

/-- A fill of a frame that opens at V (R139, R274). -/
theorem run_openFill {f : Fill} (hf : f.slate = false) (s : State) : let t := (openFill f).run s
    t.pdl.fills = s.pdl.fills ++ [({ f with released := 2 } : Fill).advance] ∧ t.ing = s.ing ∧ Frame [.pdl, .ctl, .out] [] s t := by
  have hframe : Frame [.pdl, .ctl, .out] [] s ((openFill f).run s) :=
    Prog.frame_noRegs _ (openFill f) (by simp [openFill, Act.Within]) s
  have hing : ((openFill f).run s).ing = s.ing := hframe.1 .ing (by decide) (by decide)
  refine ⟨?_, hing, hframe⟩
  rw [openFill, Prog.run_dyn]
  dsimp only
  rw [Prog.run_block_cons, Prog.run_block_cons, Prog.run_block_cons, Prog.run_block_nil, Prog.run_act]
  have hslate : (if f.slate then f else ({ f with released := 2 } : Fill).advance) = ({ f with released := 2 } : Fill).advance :=
    if_neg (by simp [hf])
  rw [hslate]
  generalize ({ f with released := 2 } : Fill).advance = g
  generalize Out.fillOpen _ _ _ = o
  have hu (u : State) : ((Prog.raiseAt 312 f.v).run u).pdl = u.pdl := (frame_raiseAt 312 f.v u).1 .pdl (by decide) (by decide)
  have ho (u : State) : ((Prog.send o).run u).pdl = u.pdl := rfl
  rw [ho, hu]
  rfl

theorem completes_specStart (hs : s.Canon) (hawake : s.Awake) {e : Epoch} (hnode : s.node = .sapling)
    (hepoch : s.epoch (s.S + 2) = some e) (hst : e.st = .created) (hfirst : e.specStarted = false)
    (hoff : s.effFlag F.ING_SPEC_CTRL_SPEC_ENABLE = false) : Completes .specStart s (fun t =>
        (∃ e', t.epoch (s.S + 2) = some e' ∧ e'.specStarted = true ∧ e'.st = .active ∧ e'.specBase = none ∧
          e'.inval = allBins) ∧
        (∃ f, t.pdl.fills = s.pdl.fills ++ [f] ∧ f.fsn = s.S + 2 ∧ f.slate = false ∧ f.released = 2) ∧
        Frame [.pdl, .ing, .cmt, .ctl, .out] [F.COL_LIMIT_GAIN_SPEC.off] s t) := by
  have hmarked (x : Epoch) (hx : x.st = .created) : Marked x (s.specEpoch (s.S + 2) x) := marked_specEpoch _ hx hoff
  refine .of_go rfl hawake ?_
  rw [Prog.run_guard, if_pos (by simp [State.frozen, hnode]), Prog.run_dyn]
  simp only [hepoch]
  rw [if_neg (by simp [hfirst, hst]), Prog.run_block_cons, Prog.run_block_cons, Prog.run_block_cons, Prog.run_block_cons,
    Prog.run_block_cons, Prog.run_block_nil]
  obtain ⟨hufills, hu⟩ := run_latchColour_sapling hs hnode (s.S + 2) (s.specStart (s.S + 2))
  generalize (latchColourProg (s.S + 2) (s.specStart (s.S + 2))).run s = u at *
  have huing : u.ing = s.ing := hu.1 .ing (by decide) (by decide)
  have hmark := marked_specEpoch (s := s) (s.S + 2) hst hoff
  generalize s.specEpoch (s.S + 2) = mark at *
  obtain ⟨hfsn, hstarted, hactive, hbase, hinval, hpred⟩ := hmark
  have huepoch : u.epoch (s.S + 2) = some e := by rw [State.epoch, huing, ← State.epoch, hepoch]
  have hv : Frame [.ing] [] u ((modEpoch (s.S + 2) mark).run u) := Act.frame_noRegs (a := .ing _) List.mem_cons_self u
  have hvfills : ((modEpoch (s.S + 2) mark).run u).pdl.fills = u.pdl.fills := rfl
  have hvepoch := epoch_modEpoch huepoch (f := mark) hfsn
  generalize (modEpoch (s.S + 2) mark).run u = v at *
  rw [Prog.run_dyn]
  generalize hfill : v.specFill (s.S + 2) ((v.epoch (s.S + 2)).getD {}) = fill
  have hslate : fill.slate = false := by rw [← hfill]; rfl
  have hfillFsn : fill.fsn = s.S + 2 := by rw [← hfill]; rfl
  obtain ⟨hwfills, hwing, hw⟩ := run_openFill hslate v
  generalize (openFill fill).run v = w at *
  have hwepoch : w.epoch (s.S + 2) = some (mark e) := by rw [State.epoch, hwing, ← State.epoch, hvepoch]
  rw [run_releasePred_none hwepoch hpred, run_synthCheck_active hwepoch hactive]
  obtain ⟨hafsn, haslate, hareleased⟩ := advance_kept { fill with released := 2 }
  exact ⟨⟨_, hwepoch, hstarted, hactive, hbase, hinval⟩, ⟨_, by rw [hwfills, hvfills, hufills], hafsn.trans hfillFsn,
    haslate.trans hslate, hareleased⟩, (hu.mono (by simp) (by simp)).trans ((hv.mono (by simp) (by simp)).trans
    (hw.mono (by simp) (by simp)))⟩

/-! ### The obligation -/

theorem swapScreen_undecided (hdec : s.cmt.decision = none) :
    s.swapScreen = screenTable s.cmt.screen s.cmt.holdCount false false false false s.genNow.holdLimit := by
  rw [State.swapScreen, hdec]

/-- Settles O49: the parts of a swap instant, of a TICK and of SPEC_START. -/
theorem swapInstantsTurnFrames : Obligations.SwapInstantsTurnFrames := by
  intro s hinv hawake
  have hs := hinv.canon
  refine ⟨fun hdec hpre => .of_go rfl hawake ?_, fun d hdec hpre hno hgen hact => .of_go rfl hawake ?_, fun hlock => .of_go_self rfl ?_,
    ⟨fun hlock hnode hgen => completes_tickLaunch hawake hlock (swapTick_sapling hnode hgen),
      fun hlock hnode hdec hcommit hlit hhold => completes_tickLaunch hawake hlock (swapTick_hold hnode hdec hcommit hlit hhold)⟩,
    fun hnot => .of_go_self rfl ?_, fun e hnode hepoch hst hfirst hoff => completes_specStart hs hawake hnode hepoch hst hfirst hoff⟩
  · have hgen : s.swapGen = none := by rw [State.swapGen, hdec]
    obtain ⟨hwindow, hlc, hversion, -⟩ := swapped_swapInstant hs hpre hgen (fun d h => by rw [hdec] at h; cases h)
      (fun d h => by rw [hdec] at h; cases h)
    obtain ⟨hscreen, hhold, hS, hnone, habandoned⟩ := Commit.window_eq hwindow
    rw [swapScreen_undecided hdec] at hscreen hhold
    refine ⟨hS, hnone, habandoned, fun h => ?_, fun h => ?_, fun h => ⟨fun hlimit => ?_, fun hlimit => ?_⟩, hlc, hversion,
      meas_swapInstant hinv⟩
    · rw [hscreen, hhold, h]
      exact ⟨rfl, rfl⟩
    · rw [hscreen, hhold, h]
      exact ⟨rfl, rfl⟩
    · rw [hscreen, hhold]
      rcases h with h | h <;> simp [screenTable, h, hlimit]
    · rw [hscreen]
      rcases h with h | h <;> simp [screenTable, h, Nat.not_le.mpr hlimit]
  · have hnogen : s.swapGen = none := by rw [State.swapGen, hdec]; simp [hgen]
    have hscreen : s.swapScreen = (d.screen, d.holdCount) := by rw [State.swapScreen, hdec]
    obtain ⟨hwindow, -, -, hshown⟩ := swapped_swapInstant hs hpre hnogen
      (fun d' h => by rw [hdec] at h; cases h; exact hact) (fun _ _ => hno)
    obtain ⟨hsc, hhold, hS, hnone, -⟩ := Commit.window_eq hwindow
    obtain ⟨hfsn, houtcome, hreason⟩ := hshown d hdec
    rw [hscreen] at hsc hhold
    exact ⟨hS, hsc, hhold, hnone, hfsn, houtcome, hreason⟩
  · rw [Prog.run_guard, if_neg (by simp [hlock])]
  · rw [Prog.run_guard]
    split
    · next hfree =>
      rw [Prog.run_dyn]
      rcases hnot with h | h | ⟨e, he, hstarted⟩
      · rw [State.frozen, h] at hfree
        cases hfree
      · simp only [h]
        rfl
      · simp only [he]
        rw [if_pos (by simp [hstarted])]
        rfl
    · rfl

end Sys2Proof.Machine
end
